-- ==== Sys2Proof/Word.lean ====
section
/-! DEFINITION. The words of the device: 32-bit register words (spec 00, R16) and bytes. -/

namespace Sys2Proof

/-- A register word (R16): 32 bits, little-endian, aligned on a 4-byte boundary. -/
abbrev Word := BitVec 32

/-- A byte of a memory or of a data block. -/
abbrev Byte := BitVec 8

end Sys2Proof
end

