-- ==== Sys2Proof/Syntax.lean ====
section
/-! DEFINITION. The commands of the device: one constructor of `Instr` for each row of spec/opcode_table.json, in the
table's order but for the chapters' grouping, and the operands that they carry. What the outside world supplies (a
sample, a level, a decoder result, a host entry) is an operand; what the device holds is state. -/

namespace Sys2Proof

/-! ### Chapters 00 and 01: register accesses, timing domains, the Ring Road and the pace loop -/

/-- An access to a register. A window access arrives at a BAR2 offset of physical function 0 with a width in bytes
and its byte enables (R17, R19); an internal access is a whole-word access by a block or by firmware at a device
address. -/
inductive BusAccess where
  | window (offset width enables : Nat)
  | internal (addr : Nat)
  deriving DecidableEq, Repr

/-- A change that the device applies to an RC field at the moment of a read (R21): the field's lowest bit and the
amount added, saturating at the field's width. -/
structure FieldChange where
  lo : Nat
  amount : Nat
  deriving DecidableEq, Repr

/-- A flit as it reaches its destination stop (1.3, R36 to R39): the source and destination stops in the ring order
TGT, SQR-A, SQR-B, AV0 to AV3, ARC, DMA, FLS, CPU, FLT, SYS; the channel; whether it answers a
request made before a reset drain of its destination's unit was forced (R512); whether header parity holds; and the number
of bad bits (0, 1 or 2) found in each of its four 64-bit payload words. -/
structure Flit where
  src : Fin 13
  dst : Fin 13
  response : Bool
  late : Bool
  headerOk : Bool
  errors : List Nat
  deriving DecidableEq, Repr

/-! ### Chapters 02 to 06: the Avenues -/

/-- The place of a sector on one Avenue's media (R58, R70): cylinder, data face and slot. -/
structure SectorAddr where
  cyl : Nat
  face : Nat
  slot : Nat
  deriving DecidableEq, Repr

/-- One candidate of a mark search (R75, R76, R129): its offset from the expected position, its Hamming distance,
whether it lies in the data area clear of INVALID blocks, and whether the 64 decisions after it pass HCHK with the
expected tag. -/
structure MarkCand where
  offset : Int
  distance : Nat
  clear : Bool
  header : Bool
  deriving DecidableEq, Repr

/-- What meets the framer at a slot's occurrence (R143, R147, R75, R99): for a write, whether the codeword is finished,
the 4,096 data and 16 metadata bytes that the Square delivers and whether their entry check holds; for a read or
verify, the mark candidates and the 2T magnitudes of the two readers. -/
structure SlotInput where
  ready : Bool
  block : List Byte
  entryOk : Bool
  marks : List MarkCand
  magA : Nat
  magB : Nat
  deriving DecidableEq, Repr

/-- What a decoder ends with: whether the codeword converged, and the 4,128 payload bytes it holds, still scrambled. -/
structure Decoded where
  converged : Bool
  payload : List Byte
  deriving DecidableEq, Repr

/-- The preamp's side of a Kazq frame (R155, R157): the acknowledge bit of a write frame, the data of a read frame and
whether its CRC holds. -/
structure KazqReply where
  ack : Bool
  data : Nat
  crcOk : Bool
  deriving DecidableEq, Repr

/-- What discovery meets on a Kazq link (R161, R162): whether MODE is acknowledged, the whole reads of the identity
descriptor (16 bytes each, at most three), and whether the Avenue's calibration succeeds when it is run. -/
structure PreampFind where
  ack : Bool
  reads : List (List Byte)
  calibrated : Bool
  deriving DecidableEq, Repr

/-- What a store check finds in the words that a microword's execution reads (R181). -/
inductive StoreCheck where
  | clean | corrected | uncorrectable
  deriving DecidableEq, Repr

/-- The operand fields of an ALU nanoword (Table 6-4). -/
structure AluArgs where
  rd : Fin 16
  ra : Fin 16
  rb : Fin 16
  useImm : Bool
  imm : Word
  deriving DecidableEq, Repr

/-- Where a sector's block stands in its region, as firmware's media mapping knows it (R325, R335): the stripe offset and
the Avenue and face of every peer block. -/
structure ReconInfo where
  offset : Nat
  peers : List (Nat × Nat)
  deriving DecidableEq, Repr

/-- An Avenue command entry as firmware writes it to a ring (Table 6-8), with what firmware knows of the read it
serves (R127, R335): whether it serves a host command, whether that command set Limited Retry, a ceiling stated by the
chapter that owns the read, and where its block stands in its region. -/
structure RingEntry where
  words : List Word
  host : Bool
  limited : Bool
  peerCeil : Option Nat
  recon : Option ReconInfo
  deriving DecidableEq, Repr

/-- The outcome of a mark search or of a decode that stands for a sector (Table 4-4), in the order of port OUTCOME. -/
inductive SectorOutcome where
  | good | layoutMismatch | headerFault | misplaced | miscorrection | notConverged | markMiss | overrun
  deriving DecidableEq, Repr

/-- A candidate of a servo-mark search (R194): its offset from the expected sync, in clock-track cycles, and its Hamming
distance. -/
structure WedgeMark where
  offset : Int
  distance : Nat
  deriving DecidableEq, Repr

/-- What the samples of a timing wedge yield (R192 to R194): the mark candidates, the Gray-coded wedge number and
cylinder, a second reading of the cylinder where its bits are ambiguous at a half-track point, the four burst sums, and
the lane's cycle count at the sync. -/
structure WedgeInput where
  marks : List WedgeMark
  number : BitVec 10
  cyl : BitVec 22
  alt : Option (BitVec 22)
  burstA : Nat
  burstB : Nat
  burstC : Nat
  burstD : Nat
  count : Nat
  deriving DecidableEq, Repr

/-- What the samples of an embedded wedge yield (R195): whether its mark was found, the face bits, the low eight bits of
the Gray-coded cylinder, and the four burst sums. -/
structure EmbeddedInput where
  found : Bool
  face : BitVec 3
  cyl : BitVec 8
  burstA : Nat
  burstB : Nat
  burstC : Nat
  burstD : Nat
  deriving DecidableEq, Repr

/-- A seek or move request to a servo engine (R203): a move keeps the cylinder; the offset is in 1/256 track pitch; the
class is that of Table 6-8. -/
structure SeekReq where
  move : Bool
  cyl : Nat
  ofs : Int
  cls : Nat
  deriving DecidableEq, Repr


/-- What a back-EMF measurement of 2 ms yields (R242, R247): whether the angle advances consistently, the angle in
radians, the mechanical speed in rpm, the back-EMF's magnitude in volts and its electrical angular speed in rad/s, each
number as a binary32 pattern. -/
structure EmfMeasure where
  consistent : Bool
  angle : Word
  speed : Word
  emf : Word
  omega : Word
  deriving DecidableEq, Repr

/-- What SPIN_CMD gives over one window (Table 8-6): voltages in microvolts; carrier cycles as high time and period in
10 ns units, or a level held for 2 ms; or rising-edge periods in 10 ns units. -/
inductive SpinInput where
  | volts (uv : List Nat)
  | duty (cycles : List (Nat × Nat)) (level : Option Bool)
  | freq (periods : List Nat)
  deriving DecidableEq, Repr


/-! ### Chapters 09 to 11: the Square, the flash store and redundancy -/

/-- What the DRAM port and the entry check find where a page's data is read out (R479, R486): clean, an uncorrectable
word, or data that its entry check does not fit. -/
inductive DramRead where
  | clean | uncorrectable | entryBad
  deriving DecidableEq, Repr

/-- A client of the Square (R260): a host-side client with the tenancy its flits carry (none: the valid bit is 0), or a
media-side client. -/
inductive SquareClient where
  | host (ten : Option (Fin 128))
  | media
  deriving DecidableEq, Repr

/-- A submission queue entry as fetched (12.3): opcode, command identifier, namespace and command dwords 10 to 15. -/
structure Sqe where
  opcode : Nat
  cid : Nat
  nsid : Nat
  c10 : Nat
  c11 : Nat
  c12 : Nat
  c13 : Nat
  c14 : Nat
  c15 : Nat
  deriving DecidableEq, Repr

/-- What a fill or read carries: the tag of the host command it serves (none: the device's own), its class (2 urgent,
1 normal, 0 internal), its ceiling and its deadline (0 = none). -/
structure ReadReq where
  tag : Option Nat
  cls : Nat
  ceil : Nat
  deadline : Nat
  deriving DecidableEq, Repr

/-- A read lookup of one block (R269): the client, the key, the page where the request names one, what the DRAM read of
a hit finds, the host read [a, a + n) when this is the first block of one (R272), and the lower-class reads' data. -/
structure LookupArgs where
  client : SquareClient
  ten : Option (Fin 128)
  ns : Nat
  lba : Nat
  page : Option Nat
  dram : DramRead
  stream : Option (Nat × Nat)
  req : ReadReq
  deriving DecidableEq, Repr

/-- A block's place in its region as firmware's media mapping knows it (R324). -/
structure RegionLoc where
  region : Fin 64
  block : Nat
  deriving DecidableEq, Repr

/-- A parity computation whose check did not agree (R480): the row, and whether the second computation disagreed too. -/
structure ParityMiss where
  row : Nat
  again : Bool
  deriving DecidableEq, Repr


/-- How a fill ends (R271): with the 4,096 data and 16 metadata bytes, or without data, with the status type, code and
qualifier of the read that failed. -/
inductive FillEnd where
  | data (bytes pmeta : List Byte)
  | failed (sct sc qual : Nat)
  deriving DecidableEq, Repr

/-- A block read from the media to complete a stripe (R281): its place among the 384, and what it held, recovered by the
read or by reconstruction; none where both failed. -/
structure PeerBlock where
  pos : Nat
  block : Option (List Byte × List Byte)
  deriving DecidableEq, Repr

/-- Who asks for a lock operation (Table 9-3): a client with an owner ID, or any other. -/
inductive LockClient where
  | core (c : Fin 6)
  | avenue (n : Fin 4)
  | arcade
  | flash
  | dma (c : Fin 64)
  | other
  deriving DecidableEq, Repr

/-- A flash ring entry (Table 10-4) with the ring it came on and, for a PROGRAM, the data and client meta bytes fetched
from its buffers; `valid` says that its OP, MREF and reserved fields are legal. -/
structure FlashEntry where
  ring : Fin 16
  valid : Bool
  pair : Bool
  count : Fin 8
  mref : Fin 3
  typ : Fin 64
  tag : Fin 65536
  psa : BitVec 25
  data : List Byte
  pmeta : List Byte
  deriving DecidableEq, Repr

/-- How a flash array operation ends (R302, R305, R310): bit errors per sector (more than 112: uncorrectable), whether
the die reports a pass, whether every sector reads erased, and, for a margin-verified program, the highest count at
either reference. -/
structure FlashResult where
  bits : List Nat
  pass : Bool
  erased : Bool
  margin : Nat
  deriving DecidableEq, Repr

/-- The supply band of VFLASH (R319). -/
inductive FlashBand where
  | band0 | band1 | low
  deriving DecidableEq, Repr

/-- A placement of one block (R265, R274): the client, the tenancy of the page (none: a device page), the key, the
ciphertext and metadata, the tag of the write, the page where the request names one, the blocks read to close the oldest
group where this placement opens one beyond GMAX (R281), and the mismatches of the parity computations it causes. -/
structure PlaceArgs where
  client : SquareClient
  ten : Option (Fin 128)
  ns : Nat
  lba : Nat
  data : List Byte
  pmeta : List Byte
  tag : Option Nat
  page : Option Nat
  close : List PeerBlock
  parity : List ParityMiss
  deriving DecidableEq, Repr

/-- What Region Define or Reshape Start names (R327, Table 11-7): the layout, mask, chunk, length, bases and, for a
define, the size; `fits` says that the ranges lie within the Avenue units of each Avenue. -/
structure RegionSpec where
  layout : Nat
  mask : Fin 16
  chunk : Nat
  alen : Nat
  base : List Nat
  fits : Bool
  deriving DecidableEq, Repr

/-- An element (11.4): an actuator, or a data face of an Avenue. -/
inductive Element where
  | actuator (n : Fin 4)
  | face (n : Fin 4) (f : Fin 5)
  deriving DecidableEq, Repr

/-- The condition of Table 11-3 that firmware found; `sectors` counts the sectors of a face classified lasting,
unrecovered, in 24 h. -/
inductive FailCause where
  | preamp | servoFault | laneLost | loads | headsel | sectors (k : Nat) | owner (tag : Nat)
  deriving DecidableEq, Repr

/-- One row of a stripe as a resynchronisation step reads it (R347): for each unit of the stripe whether its block can be
read, and its bytes. -/
structure SyncRow where
  row : Nat
  blocks : List (Option (List Byte × List Byte))
  deriving DecidableEq, Repr


/-! ### Chapters 12 and 13: the host engine and the Roundabout -/

/-- What a start meets that the device does not hold (Table 20-3): whether DRAM training succeeds, whether the entropy
source passes its tests, whether the boot record and the key records can be read on a die, and whether the recorder's SRAM
header is valid (VCORE was kept). -/
structure StartInput where
  dramOk : Bool
  entropyOk : Bool
  recordsOk : Bool
  headerOk : Bool
  deriving DecidableEq, Repr

/-- A port event (R361). An assertion of PERST_A_N may start the device afresh (R544): what that start would meet. -/
inductive PortCause where
  | linkDown | perst (start : StartInput) | hotReset
  deriving DecidableEq, Repr

/-- A TLP as a port receives it (R360, 17.2): whether its LCRC holds, whether its ECRC fails where AER checks it, whether
it is poisoned, and its payload words. -/
structure Tlp where
  lcrcOk : Bool
  ecrcBad : Bool
  poisoned : Bool
  data : List Word
  deriving DecidableEq, Repr

/-- A configuration write (R374, 12.1): Memory Space Enable, or VF Enable of a PF. -/
inductive ConfigWrite where
  | memorySpace (on : Bool)
  | vfEnable (on : Bool)
  deriving DecidableEq, Repr

/-- An SMBus request (R373): the 7-bit address, the command code, whether it writes more than the command code, and
whether its PEC holds. -/
structure SmbusRequest where
  addr : Fin 128
  code : Byte
  write : Bool
  pecOk : Bool
  deriving DecidableEq, Repr

/-- The gaps that a command's data meets (17.3): a staging parity failure, DVERIFY comparisons that fail in a row, and an
uncorrectable Tollgate pipeline buffer. -/
structure HopFaults where
  staging : Bool
  dverify : Nat
  buffer : Bool
  deriving DecidableEq, Repr

/-- What a Read or Verify meets, by LBA: how media reads of blocks ended, and what DRAM reads of hits find. -/
structure ReadInput where
  media : List (Nat × FillEnd)
  dram : List (Nat × DramRead)
  hops : HopFaults
  deriving DecidableEq, Repr

/-- What a Write carries: the plaintext blocks with their host metadata, the gaps they meet, and what closing a gather
group reads and computes. -/
structure WriteInput where
  blocks : List (List Byte × List Byte)
  hops : HopFaults
  close : List PeerBlock
  parity : List ParityMiss
  deriving DecidableEq, Repr

/-- A part of a firmware image download: byte offset and bytes (R541). -/
structure DownloadPart where
  offset : Nat
  bytes : List Byte
  deriving DecidableEq, Repr

/-- What Namespace Create names (R415, R457): the size in blocks, LBA format and protection type, the region, and the
region block that firmware's media mapping gives its block 0. -/
structure NamespaceSpec where
  size : Nat
  lbaf : Fin 16
  pi : Fin 8
  region : Fin 64
  base : Nat
  deriving DecidableEq, Repr


/-! ### Chapter 14: the Arcade -/

/-- A request of the Arcade on its private channel to the Tollgate (R442): the namespace, the block (an index block or a
data block), whether it encrypts, and the 4,096 bytes. -/
structure ChannelRequest where
  nsid : Nat
  block : Nat
  index : Bool
  encrypt : Bool
  data : List Byte
  deriving DecidableEq, Repr

/-- What a step of an Arcade command meets (R428, R430, R431): its reads, how many comparisons of its lanes differ in a
row, and an uncorrectable work buffer. -/
structure StepInput where
  reads : ReadInput
  differ : Nat
  buffer : Bool
  deriving DecidableEq, Repr


/-! ### Chapters 6 and 15: images, SPDM and the owner -/

/-- An AM or OM image as the image loader has it (R186, R187): envelope and body, and what the body carries: microwords
and nanowords by address, the trap vector base, the exported addresses by entry, and the entry addresses of owner opcodes by
entry. -/
structure AvImage where
  env : List (BitVec 8)
  body : List (BitVec 8)
  micro : List (Nat × Nat)
  nano : List (Nat × Nat)
  base : Nat
  exps : List (Nat × Nat)
  entries : List (Nat × Nat)
  deriving DecidableEq, Repr

/-- What a FINISH shows (R454): its HMAC verifies, and the requester's signature verifies under its chain's leaf. -/
structure FinishProof where
  hmac : Bool
  sig : Bool
  deriving DecidableEq, Repr

/-- A requester's chain (R454): the public key of its root, and whether its certificates verify from that root. -/
structure RequesterChain where
  root : List (BitVec 8)
  valid : Bool
  deriving DecidableEq, Repr


/-! ### Chapters 16 to 18 and 21: the DMA engine, memory protection, the control cores, and the test port -/

/-- What a DMA channel meets while it runs a descriptor (R473): a poisoned descriptor read; the byte of the source at which
a read returns poisoned data; the byte of the destination whose write is not acknowledged as done. -/
structure DmaMeets where
  badDesc : Bool
  poison : Option Nat
  nack : Option Nat
  deriving DecidableEq, Repr

/-- What the SECDED check of a memory word finds (R484). -/
inductive MemFind where
  | clean | corrected | uncorrectable
  deriving DecidableEq, Repr

/-- The word of an on-die SRAM that its scrub reads (R490, Table 17-3; recorder SRAM and routing entries as R523 and
Table 19-10 give them), with what an uncorrectable word there affects: a controller; the keys of the entries in an index
word; the streams by position in the stream table; a lock; a scratch word; a tenancy's key, or the flash or DRAM key; the
command whose block stands in a buffer; a store, window or spill word; a cache line; a record slot; a routing entry. -/
inductive SramWord where
  | hostEngine (fn : Fin 128)
  | roundabout (fn : Fin 128)
  | squareIndex (ten : Option (Fin 128)) (ns lba : Nat)
  | squareStream (i : Fin 1024)
  | squareLock (k : Fin 256)
  | scratch (word : Fin 131072)
  | tenancyKey (t : Fin 128)
  | deviceKey (dram : Bool)
  | tollgateBuffer (tag : Option (Fin 16384))
  | arcadeBuffer (tag : Option (Fin 16384))
  | avenueStore (n : Fin 4)
  | sampleStore (n : Fin 4)
  | cacheData (c : Fin 13) (set : Fin 4096) (way : Fin 16)
  | cacheTag (c : Fin 13) (set : Fin 4096) (way : Fin 16)
  | recordSlot (i : Fin 4096)
  | foundingSlot (i : Fin 256)
  | routeEntry (src : Fin 1152)
  deriving DecidableEq, Repr

/-- Work that an L2 allocation serves (R502): urgent; internal-class, admin or firmware's own; or normal-class work for a
tenancy. -/
inductive CacheWork where
  | urgent
  | own
  | tenancy (t : Fin 128)
  deriving DecidableEq, Repr

/-- What the arrays that a miss touches find (R504, R505): nothing; a corrected word in the core's L1 or in the L2; the
uncorrectable cases of Table 18-2. -/
inductive CacheFind where
  | clean
  | l1Corrected | l2Corrected
  | l1Data (way : Fin 16) | l1Tag (way : Fin 16)
  | l2Data | l2Victim | l2Tag (way : Fin 16)
  | dram
  deriving DecidableEq, Repr

/-- A byte that a core's store buffer has drained to the L2 (R496). -/
structure CoreStore where
  addr : Nat
  byte : Byte
  deriving DecidableEq, Repr

/-- A miss in a core's L1 (R497): the core, whether it is an instruction fetch, the instruction's address, the address
accessed, the work it serves, the stores that the L2 takes before it, and what the arrays find. -/
structure MissArgs where
  core : Fin 6
  fetch : Bool
  pc : Nat
  addr : BitVec 40
  work : CacheWork
  stores : List CoreStore
  find : CacheFind
  deriving DecidableEq, Repr

/-- The boundary cells (R568): those of WGn, of SPG_*, and the others. -/
structure BoundaryCells where
  wg : BitVec 4
  spg : BitVec 6
  rest : List Bool
  deriving DecidableEq, Repr

/-! ### Chapters 19 and 20: faults and the event recorder, power states and starts -/

/-- What ends Sleep (R535): a port leaves L1.2 for L0, PERST_x_N of a port is released, or WAKE_N falls. -/
inductive SleepWake where
  | linkUp (p : Fin 2)
  | perst (p : Fin 2)
  | wakePin
  deriving DecidableEq, Repr

/-- The rails that TD36 samples for the power-loss rail cause (R547). -/
structure RailLevels where
  vio : Nat
  vana : Nat
  vf25 : Nat
  vf12 : Nat
  deriving DecidableEq, Repr

/-- A sample of TD36 (R547, R551): the junction temperature of each die in degrees Celsius, the rails with a power-loss
threshold in units of 10 mV, and whether every rail lies within its window (Table 21-10). -/
structure SupplySample where
  temps : List Int
  rails : RailLevels
  inWindow : Bool
  deriving DecidableEq, Repr

/-! ### The commands -/

/-- The commands (spec/opcode_table.json): each is one whole and indivisible step. -/
inductive Instr where
  /-- REGISTER_WRITE (R20): a window or internal write of a whole register. -/
  | registerWrite (acc : BusAccess) (value : Word)
  /-- READ_CLEAR_ACCESS (R21): a read that clears RC fields, with the device's concurrent changes. -/
  | readClearAccess (acc : BusAccess) (changes : List FieldChange)
  /-- LOWER_WORD_CAPTURE_READ (R25): a read of the lower word of a multi-word value. -/
  | lowerWordCaptureRead (acc : BusAccess)
  /-- CROSSING_OVERFLOW (R32): the crossing FIFO of a domain overflows or underflows; `blocks` sample blocks lost samples. -/
  | crossingOverflow (td : Fin 40) (blocks : Nat)
  /-- CLOCK_ABSENT (R33). -/
  | clockAbsent (td : Fin 40)
  /-- CLOCK_RETURN (R33). -/
  | clockReturn (td : Fin 40)
  /-- FLIT_DELIVERY (R39). -/
  | flitDelivery (f : Flit)
  /-- TIM_FENCE_READ (R42): a read of TIM_FENCE through the window or from inside. -/
  | timFenceRead (window : Bool)
  /-- PACE_GATE_END (R44): a gate ends with these sixteen replica counts. -/
  | paceGateEnd (counts : List Nat)
  /-- AVS_UPDATE (R45). -/
  | avsUpdate
  /-- ZONE_PREVIEW_POST (R48). -/
  | zonePreviewPost (n : Fin 4) (z : Fin 32)
  /-- ZONE_CHANGE (R48). -/
  | zoneChange (n : Fin 4) (z : Fin 32)
  /-- ZONE_CHANGE_HOLD_EXPIRY (R48). -/
  | zoneChangeHoldExpiry (n : Fin 4)
  /-- PGOOD_FILTER_EXPIRY (R50). -/
  | pgoodFilterExpiry
  /-- PGOOD_RISE (R50). -/
  | pgoodRise
  /-- TIME_LOAD_REQUEST (R54). -/
  | timeLoadRequest
  /-- TIME_LOAD_APPLY (R54). -/
  | timeLoadApply
  /-- FORMAT_APPLY (R63). -/
  | formatApply (n : Fin 4)
  /-- TIMING_LANE_ENABLE (R86). -/
  | timingLaneEnable (n : Fin 4)
  /-- TIMING_LANE_DISABLE (R86). -/
  | timingLaneDisable (n : Fin 4)
  /-- RELOCK (R86). -/
  | relock (n : Fin 4)
  /-- LANE_UPDATE (R85): the phases and magnitudes of eight clock-track cycles, and whether TVGA is at maximum gain. -/
  | laneUpdate (n : Fin 4) (phases : List Int) (mags : List Nat) (tvgaMax : Bool)
  /-- ACQUIRE_TIMEOUT (R86). -/
  | acquireTimeout (n : Fin 4)
  /-- TIMING_WEDGE_BEGIN (R86). -/
  | timingWedgeBegin (n : Fin 4)
  /-- TIMING_WEDGE_END (R194): what the wedge's search window yields. -/
  | timingWedgeEnd (n : Fin 4) (w : WedgeInput)
  /-- EMBEDDED_WEDGE (R195): what the embedded wedge's samples yield. -/
  | embeddedWedge (n : Fin 4) (w : EmbeddedInput)
  /-- SAMPLE_BLOCK (R101): a block of reader `r`, with the detector's errors and decisions over it and the signs of the
  LMS gradient of each of the sixteen combined taps. -/
  | sampleBlock (n : Fin 4) (r : Fin 2) (errs : List Int) (decs : List Int) (lms : List Int)
  /-- AFE_CAL_STEP (R100): a background calibration step on reader `r`; `limit` when the trim reaches its range's end. -/
  | afeCalStep (n : Fin 4) (r : Fin 2) (limit : Bool)
  /-- CODE_TABLE_LOAD (R117). -/
  | codeTableLoad (n : Fin 4)
  /-- RETRY_CODE_TABLE_LOAD (R117). -/
  | retryCodeTableLoad
  /-- ON_THE_FLY_DECODE_END (R172). -/
  | onTheFlyDecodeEnd (n : Fin 4) (d : Decoded)
  /-- DECODE_OVERRUN (R120). -/
  | decodeOverrun (n : Fin 4)
  /-- RETRY_JOB_SUBMIT (R122): the L1 job of ladder `lad` of Avenue `n`. -/
  | retryJobSubmit (n : Fin 4) (lad : Nat)
  /-- RETRY_JOB_START (R122). -/
  | retryJobStart (d : Fin 2)
  /-- RETRY_JOB_END (R121). -/
  | retryJobEnd (d : Fin 2) (res : Decoded)
  /-- LADDER_STEP_START (R133). -/
  | ladderStepStart (n : Fin 4) (lad : Nat)
  /-- REREAD_DISPLACE (R130). -/
  | rereadDisplace (n : Fin 4) (lad : Nat)
  /-- L6_STEP_END (R132). -/
  | l6StepEnd (n : Fin 4) (lad : Nat) (delivered : Bool)
  /-- RELOCATE_SECTOR (R137): the spare slots tried, each with whether its read back decodes within VFYITER. -/
  | relocateSector (n : Fin 4) (sec : SectorAddr) (spares : List (SectorAddr × Bool))
  /-- SHOCK_RISE (R150). -/
  | shockRise (k : Fin 2)
  /-- SHOCK_FALL (R150). -/
  | shockFall (k : Fin 2)
  /-- SHOCK_HOLD_EXPIRY (R150). -/
  | shockHoldExpiry (n : Fin 4)
  /-- SHOCK_SET_HOLD_EXPIRY (R211). -/
  | shockSetHoldExpiry (n : Fin 4)
  /-- PREAMP_FAULT_INPUT (R150). -/
  | preampFaultInput (n : Fin 4)
  /-- SOFTWARE_WRITE_INHIBIT (R150). -/
  | softwareWriteInhibit (n : Fin 4)
  /-- KAZQ_COMMAND (R158): GO with RD, ADDR and DATA. -/
  | kazqCommand (n : Fin 4) (rd : Bool) (addr : Fin 128) (data : BitVec 16)
  /-- KAZQ_FRAME_END (R157). -/
  | kazqFrameEnd (n : Fin 4) (r : KazqReply)
  /-- HEATER_SETTLE_EXPIRY (R149). -/
  | heaterSettleExpiry (n : Fin 4)
  /-- PREAMP_DISCOVERY (R161). -/
  | preampDiscovery (n : Fin 4) (p : PreampFind)
  /-- MICRO_BRANCH (R165): the microword at PC, its store check, and the channel-bit count of the framer's clock. -/
  | microBranch (n : Fin 4) (chk : StoreCheck) (bits : Nat)
  /-- MICRO_CALL (R177). -/
  | microCall (n : Fin 4) (chk : StoreCheck) (bits : Nat)
  /-- MICRO_RETURN (R178). -/
  | microReturn (n : Fin 4) (chk : StoreCheck) (bits : Nat)
  /-- MICRO_WAIT (R166). -/
  | microWait (n : Fin 4) (chk : StoreCheck) (bits : Nat)
  /-- SEQ_WAIT_RESUME (R165). -/
  | seqWaitResume (n : Fin 4)
  /-- SEQ_WAIT_LIMIT_EXPIRY (R166). -/
  | seqWaitLimitExpiry (n : Fin 4)
  /-- ALU_ADD (R168). -/
  | aluAdd (n : Fin 4) (x : AluArgs)
  /-- ALU_SUB (R168). -/
  | aluSub (n : Fin 4) (x : AluArgs)
  /-- ALU_AND (R168). -/
  | aluAnd (n : Fin 4) (x : AluArgs)
  /-- ALU_OR (R168). -/
  | aluOr (n : Fin 4) (x : AluArgs)
  /-- ALU_XOR (R168). -/
  | aluXor (n : Fin 4) (x : AluArgs)
  /-- ALU_SHL (R168). -/
  | aluShl (n : Fin 4) (x : AluArgs)
  /-- ALU_SHR (R168). -/
  | aluShr (n : Fin 4) (x : AluArgs)
  /-- ALU_MOV (R168). -/
  | aluMov (n : Fin 4) (x : AluArgs)
  /-- ALU_CMP (R168). -/
  | aluCmp (n : Fin 4) (x : AluArgs)
  /-- PORT_READ (R173): port `port` into RD, with RA as the index of OMENTRY. -/
  | portRead (n : Fin 4) (port : Fin 64) (rd ra : Fin 16)
  /-- OUTCOME_READ (R171). -/
  | outcomeRead (n : Fin 4) (rd : Fin 16)
  /-- PORT_WRITE (R173). -/
  | portWrite (n : Fin 4) (port : Fin 64) (ra : Fin 16)
  /-- FRAMER_OPEN (R174). -/
  | framerOpen (n : Fin 4)
  /-- ARM_READ (R175): the sector in RA, RAW, and the channel-bit count at the arm's arrival. -/
  | armRead (n : Fin 4) (ra : Fin 16) (raw : Bool) (bits : Nat)
  /-- ARM_WRITE (R153). -/
  | armWrite (n : Fin 4) (ra : Fin 16) (raw : Bool) (bits : Nat)
  /-- ARM_VERIFY (R176). -/
  | armVerify (n : Fin 4) (ra : Fin 16) (raw : Bool) (bits : Nat)
  /-- FRAMER_CANCEL (R176). -/
  | framerCancel (n : Fin 4)
  /-- FRAMER_CLOSE (R176). -/
  | framerClose (n : Fin 4)
  /-- AFE_APPLY (R170): AFE code 1 or 2, and RB. -/
  | afeApply (n : Fin 4) (sel : Fin 3) (rb : Fin 16)
  /-- DSP_SELECT (R170): DSP code 1 to 3, and RB. -/
  | dspSelect (n : Fin 4) (sel : Fin 4) (rb : Fin 16)
  /-- MARK_WINDOW_SELECT (R170): MWIN code 0 or 1. -/
  | markWindowSelect (n : Fin 4) (sel : Fin 2)
  /-- PREPARE_READ (R160). -/
  | prepareRead (n : Fin 4)
  /-- PREPARE_WRITE (R160). -/
  | prepareWrite (n : Fin 4)
  /-- SERVO_SEEK_ACTION (R203). -/
  | servoSeekAction (n : Fin 4)
  /-- SERVO_MOVE_ACTION (R203). -/
  | servoMoveAction (n : Fin 4)
  /-- RING_FETCH (R184). -/
  | ringFetch (n : Fin 4)
  /-- RING_COMPLETE (R185). -/
  | ringComplete (n : Fin 4) (ra : Fin 16)
  /-- RING_COMPLETE_FETCH (R185). -/
  | ringCompleteFetch (n : Fin 4) (ra : Fin 16)
  /-- FLAG_SET (R168). -/
  | flagSet (n : Fin 4)
  /-- FLAG_CLEAR (R168). -/
  | flagClear (n : Fin 4)
  /-- WINDOW_SPILL (R179). -/
  | windowSpill (n : Fin 4)
  /-- WINDOW_FILL (R179). -/
  | windowFill (n : Fin 4)
  /-- WINDOW_ABANDON (R179). -/
  | windowAbandon (n : Fin 4)
  /-- SOFTWARE_TRAP (R180): the address that MODE selected. -/
  | softwareTrap (n : Fin 4) (ret : BitVec 12)
  /-- HALT (R182). -/
  | halt (n : Fin 4)
  /-- OWNER_TIME_LIMIT (R188). -/
  | ownerTimeLimit (n : Fin 4)
  /-- SLOT_START (R175). -/
  | slotStart (n : Fin 4) (i : SlotInput)
  /-- SLOT_END (R175): the resume-mark candidates of a split slot. -/
  | slotEnd (n : Fin 4) (resume : List MarkCand)
  /-- AVENUE_ENTRY_WRITE (R385): at the ring's tail, or at its head when firmware requeues an operation (R387). -/
  | avenueEntryWrite (n : Fin 4) (ring : Fin 32) (atHead : Bool) (e : RingEntry)
  /-- SEQUENCER_RUN (R187). -/
  | sequencerRun (n : Fin 4)
  /-- SEQUENCER_STOP (R190). -/
  | sequencerStop (n : Fin 4)
  /-- SEQUENCER_HOLD (R189): the value written to HOLD. -/
  | sequencerHold (n : Fin 4) (v : Bool)
  /-- AM_LOAD (R186). -/
  | amLoad (n : Fin 4) (img : AvImage)
  /-- OM_LOAD (R189). -/
  | omLoad (n : Fin 4) (img : AvImage)
  /-- SEEK_REQUEST (R203). -/
  | seekRequest (n : Fin 4) (r : SeekReq)
  /-- SEEK_TIME_LIMIT (R204). -/
  | seekTimeLimit (n : Fin 4)
  /-- SETTLE_WARN_EXPIRY (R208). -/
  | settleWarnExpiry (n : Fin 4)
  /-- SETTLE_LIMIT_EXPIRY (R208). -/
  | settleLimitExpiry (n : Fin 4)
  /-- COMMAND_PERIOD (R201). -/
  | commandPeriod (n : Fin 4)
  /-- DRIVE_LINK_IN_FRAME (R217): the 42 bits of the frame. -/
  | driveLinkInFrame (n : Fin 4) (frame : BitVec 42)
  /-- SERVO_ENABLE (R226). -/
  | servoEnable (n : Fin 4)
  /-- SERVO_DISABLE (R218). -/
  | servoDisable (n : Fin 4)
  /-- SERVO_LOAD (R222). -/
  | servoLoad (n : Fin 4)
  /-- SERVO_UNLOAD (R221). -/
  | servoUnload (n : Fin 4)
  /-- LOAD_LIMIT_EXPIRY (R222). -/
  | loadLimitExpiry (n : Fin 4)
  /-- IDLE_TIMER_EXPIRY (R220). -/
  | idleTimerExpiry (n : Fin 4)
  /-- IDLE_UNLOAD_EXPIRY (R220). -/
  | idleUnloadExpiry (n : Fin 4)
  /-- LATCH_DET_EDGE (R223): the new level, held for two command periods. -/
  | latchDetEdge (n : Fin 4) (rising : Bool)
  /-- PARK_TIME_EXPIRY (R221). -/
  | parkTimeExpiry (n : Fin 4)
  /-- UNLOAD_LIMIT_EXPIRY (R221). -/
  | unloadLimitExpiry (n : Fin 4)
  /-- RECOVER_LIMIT_EXPIRY (R225). -/
  | recoverLimitExpiry (n : Fin 4)
  /-- SPINDLE_CONTROL_STEP (R238). -/
  | spindleControlStep
  /-- SPINDLE_CONVERSION (R234): converter, channel (IA, IB, IC, VA, VB, VC, VBUS) and result. -/
  | spindleConversion (conv : Fin 2) (ch : Fin 7) (value : BitVec 12)
  /-- OVERCURRENT_TRIP (R230). -/
  | overcurrentTrip (phase : Fin 3)
  /-- SPINDLE_ENABLE (R245). -/
  | spindleEnable
  /-- SPINDLE_DISABLE (R244). -/
  | spindleDisable
  /-- SPINDLE_KILL (R244). -/
  | spindleKill
  /-- SPINDLE_TARGET_WRITE (R246). -/
  | spindleTargetWrite (t : BitVec 14)
  /-- RESYNC_MEASURE_END (R242). -/
  | resyncMeasureEnd (m : EmfMeasure)
  /-- START_CATCH_END (R247). -/
  | startCatchEnd (m : EmfMeasure)
  /-- PRECHARGE_END (R247). -/
  | prechargeEnd
  /-- ALIGN_END (R247). -/
  | alignEnd
  /-- START_RETRY_EXPIRY (R247). -/
  | startRetryExpiry
  /-- SPIN_TIME_LIMIT (R247). -/
  | spinTimeLimit
  /-- READY_TIME_EXPIRY (R248). -/
  | readyTimeExpiry
  /-- HOLD_TIME_EXPIRY (R249). -/
  | holdTimeExpiry
  /-- BRAKE_END (R253). -/
  | brakeEnd
  /-- SPIN_CMD_WINDOW (R251). -/
  | spinCmdWindow (i : SpinInput)
  /-- SQUARE_READ_LOOKUP (R269). -/
  | squareReadLookup (a : LookupArgs)
  /-- FILL_END (R271): the page and how its fill ends. -/
  | fillEnd (page : Nat) (e : FillEnd)
  /-- PAGE_TRANSFER_END (R265). -/
  | pageTransferEnd (page : Nat)
  /-- ALLOCATION_RESUME (R266). -/
  | allocationResume
  /-- PLACEMENT (R265). -/
  | placement (p : PlaceArgs)
  /-- PLACEMENT_RELEASE (R275). -/
  | placementRelease
  /-- GATHER_TIMEOUT (R281): the stripe, whether its group follows a reshape's target, the blocks read, and mismatches. -/
  | gatherTimeout (region : Fin 64) (stripe : Nat) (target : Bool) (peers : List PeerBlock) (parity : List ParityMiss)
  /-- MEDIA_WRITE_END (R277): the page, and whether the write succeeded. -/
  | mediaWriteEnd (page : Nat) (ok : Bool)
  /-- JOURNAL_PROGRAM_END (R276). -/
  | journalProgramEnd (page : Nat) (ok : Bool)
  /-- DRAIN_REQUEST (R284), by the device itself. -/
  | drainRequest
  /-- DRAIN_END (R284). -/
  | drainEnd
  /-- DRAIN_JOURNAL_FALLBACK (R286). -/
  | drainJournalFallback
  /-- LOCK_ACQUIRE (R288). -/
  | lockAcquire (k : Fin 256) (c : LockClient)
  /-- LOCK_RELEASE (R289). -/
  | lockRelease (k : Fin 256) (c : LockClient)
  /-- LOCK_CLEAR_ORPHANED (R289). -/
  | lockClearOrphaned (k : Fin 256) (c : LockClient)
  /-- LOCK_RESET_NOTICE (R290): the owner that was reset. -/
  | lockResetNotice (c : LockClient)
  /-- LOCK_HOLD_WARN (R292). -/
  | lockHoldWarn (k : Fin 256)
  /-- SQUARE_INIT (R293). -/
  | squareInit
  /-- FLASH_READ (R302). -/
  | flashRead (e : FlashEntry)
  /-- FLASH_PROGRAM (R307). -/
  | flashProgram (e : FlashEntry)
  /-- FLASH_ERASE (R307). -/
  | flashErase (e : FlashEntry)
  /-- FLASH_MREAD (R310). -/
  | flashMread (e : FlashEntry)
  /-- FLASH_OPERATION_END (R305): the die, and how its array operation ends. -/
  | flashOperationEnd (die : Fin 2) (r : FlashResult)
  /-- FLASH_DIE_TIMEOUT (R306). -/
  | flashDieTimeout (die : Fin 2)
  /-- ERASE_SUSPEND (R309). -/
  | eraseSuspend (die : Fin 2)
  /-- ERASE_RESUME (R309). -/
  | eraseResume (die : Fin 2)
  /-- PATROL_READ (R311): the die, block and page, and the highest count of its sectors at the two references. -/
  | patrolRead (die : Fin 2) (block : Fin 4096) (page : Fin 512) (bits : Nat)
  /-- VFLASH_BAND_CHANGE (R319). -/
  | vflashBandChange (b : FlashBand)
  /-- RESERVE_ERASE (R321): the block pair, and whether its erase passes. -/
  | reserveErase (die : Fin 2) (block : Fin 4096) (ok : Bool)
  /-- REGION_DEFINE (R327): the command's tag, the region and what it names. -/
  | regionDefine (tag : Nat) (r : Fin 64) (spec : RegionSpec)
  /-- REGION_DELETE (R327). -/
  | regionDelete (tag : Nat) (r : Fin 64)
  /-- RESHAPE_START (R351). -/
  | reshapeStart (tag : Nat) (r : Fin 64) (spec : RegionSpec)
  /-- ELEMENT_DECLARE (R340): the element, the condition, and for a face the units that lie on it, by region and offset. -/
  | elementDeclare (e : Element) (c : FailCause) (units : List (Fin 64 × Nat))
  /-- ELEMENT_REINSTATE (R344). -/
  | elementReinstate (tag : Nat) (e : Element)
  /-- ROW_WRITE (R330): the stripe, and whether its group follows a reshape's target. -/
  | rowWrite (region : Fin 64) (stripe : Nat) (target : Bool)
  /-- RECONSTRUCT (R333): the region block, the read it serves, the peers read from the media in the order of the
  stripe's other units (each with what it held, or none where it was not recovered), the check's mismatch, and the
  qualifier that the block's own failure, or that of a peer, gives (Table 4-7). -/
  | reconstruct (region : Fin 64) (block : Nat) (req : ReadReq) (peers : List (Option (List Byte × List Byte)))
      (miss : Option Bool) (own : Nat)
  /-- REBUILD_STEP (R342): the spare unit that firmware takes, the blocks of the unit that reconstruction does not recover, and
  whether the spare verifies. -/
  | rebuildStep (region : Fin 64) (spare : Option Nat) (unrec : List Nat) (verified : Bool)
  /-- RESYNC_STEP (R347): the rows of the stripe at CURSOR, as read. -/
  | resyncStep (region : Fin 64) (rows : List SyncRow)
  /-- RESHAPE_STEP (R353): the source blocks of the step, by their place in it; none where not recovered. -/
  | reshapeStep (region : Fin 64) (lost : List Nat)
  /-- RESHAPE_CHECKPOINT (R354). -/
  | reshapeCheckpoint (region : Fin 64)
  /-- RESHAPE_END (R355). -/
  | reshapeEnd (region : Fin 64)
  /-- RESYNC_CHECKPOINT (R347). -/
  | resyncCheckpoint (region : Fin 64)
  /-- PORT_EVENT (R362). -/
  | portEvent (p : Fin 2) (c : PortCause)
  /-- LINK_UP (R363): the rate (1 to 5) and the width in lanes. -/
  | linkUp (p : Fin 2) (rate : Fin 6) (width : Fin 5)
  /-- PERST_RELEASE (R363). -/
  | perstRelease (p : Fin 2)
  /-- LINK_L1_2_ENTRY (R535). -/
  | linkL12Entry (p : Fin 2)
  /-- FUNCTION_LEVEL_RESET (R364). -/
  | functionLevelReset (f : Fin 128)
  /-- FUNCTION_CONFIG_APPLY (R365). -/
  | functionConfigApply
  /-- TLP_RECEIVE (R360). -/
  | tlpReceive (p : Fin 2) (t : Tlp)
  /-- PCI_CONFIG_WRITE (R374). -/
  | pciConfigWrite (f : Fin 128) (w : ConfigWrite)
  /-- SETUP_WINDOW_OPEN (R374). -/
  | setupWindowOpen
  /-- NVME_MI_READ (R373). -/
  | nvmeMiRead (r : SmbusRequest)
  /-- SUBMISSION_QUEUE_DOORBELL (R378). -/
  | submissionQueueDoorbell (f : Fin 128) (qid : Fin 4096) (value : Nat)
  /-- COMPLETION_QUEUE_DOORBELL (R378). -/
  | completionQueueDoorbell (f : Fin 128) (qid : Fin 4096) (value : Nat)
  /-- CONTROLLER_ENABLE (R363): CC.AMS and the entries of the admin queues. -/
  | controllerEnable (f : Fin 128) (ams : Fin 8) (asq : Nat) (acq : Nat)
  /-- CONTROLLER_RESET (R404). -/
  | controllerReset (f : Fin 128)
  /-- CONTROLLER_SHUTDOWN (R405). -/
  | controllerShutdown (f : Fin 128) (abrupt : Bool)
  /-- COMMAND_FETCH (R381): the entry that host memory holds at the slot that the Roundabout fetches. -/
  | commandFetch (e : Sqe)
  /-- COMPLETION_POST (R379): the completion queue. -/
  | completionPost (f : Fin 128) (cq : Fin 4096)
  /-- FLUSH (R397). -/
  | flush (tag : Nat)
  /-- WRITE (R392). -/
  | write (tag : Nat) (w : WriteInput)
  /-- READ (R393). -/
  | read (tag : Nat) (r : ReadInput)
  /-- WRITE_ZEROES (R370). -/
  | writeZeroes (tag : Nat) (w : WriteInput)
  /-- DATASET_MANAGEMENT (R370): the ranges, first LBA and blocks. -/
  | datasetManagement (tag : Nat) (ranges : List (Nat × Nat))
  /-- VERIFY (R396). -/
  | verify (tag : Nat) (r : ReadInput)
  /-- RESERVATION_REGISTER (R371): the current and the new key. -/
  | reservationRegister (tag : Nat) (crkey : BitVec 64) (nrkey : BitVec 64)
  /-- RESERVATION_REPORT (R371). -/
  | reservationReport (tag : Nat)
  /-- RESERVATION_ACQUIRE (R371): the current key and the key to preempt. -/
  | reservationAcquire (tag : Nat) (crkey : BitVec 64) (prkey : BitVec 64)
  /-- RESERVATION_RELEASE (R371). -/
  | reservationRelease (tag : Nat) (crkey : BitVec 64)
  /-- DELETE_IO_SUBMISSION_QUEUE (R366). -/
  | deleteIoSubmissionQueue (tag : Nat)
  /-- CREATE_IO_SUBMISSION_QUEUE (R366). -/
  | createIoSubmissionQueue (tag : Nat)
  /-- DELETE_IO_COMPLETION_QUEUE (R366). -/
  | deleteIoCompletionQueue (tag : Nat)
  /-- CREATE_IO_COMPLETION_QUEUE (R367). -/
  | createIoCompletionQueue (tag : Nat)
  /-- GET_LOG_PAGE (R526). -/
  | getLogPage (tag : Nat)
  /-- IDENTIFY (R363). -/
  | identify (tag : Nat)
  /-- ABORT (R402): with the retry ladders, by Avenue and number, of the named command's sectors. -/
  | abort (tag : Nat) (ladders : List (Fin 4 × Nat))
  /-- SET_FEATURES (R366): with the data buffer where the feature has one. -/
  | setFeatures (tag : Nat) (data : List Byte)
  /-- GET_FEATURES (R366). -/
  | getFeatures (tag : Nat)
  /-- ASYNCHRONOUS_EVENT_REQUEST (R378). -/
  | asynchronousEventRequest (tag : Nat)
  /-- FIRMWARE_IMAGE_DOWNLOAD (R541). -/
  | firmwareImageDownload (tag : Nat) (p : DownloadPart)
  /-- FIRMWARE_COMMIT (R541). -/
  | firmwareCommit (tag : Nat)
  /-- ACTIVATION_SWITCH (R407): with the fuse step that fails, if one does. -/
  | activationSwitch (bad : Option Nat)
  /-- ACTIVATION_ABORT_TIMEOUT (R407). -/
  | activationAbortTimeout
  /-- FORMAT_NVM (R459). -/
  | formatNvm (tag : Nat)
  /-- SECURITY_SEND (R450): the SPDM message, as bytes, is carried by the SPDM rows. -/
  | securitySend (tag : Nat)
  /-- SECURITY_RECEIVE (R450). -/
  | securityReceive (tag : Nat)
  /-- SANITIZE (R459). -/
  | sanitize (tag : Nat)
  /-- NAMESPACE_CREATE (R457). -/
  | namespaceCreate (tag : Nat) (n : NamespaceSpec)
  /-- NAMESPACE_DELETE (R457). -/
  | namespaceDelete (tag : Nat)
  /-- NAMESPACE_ATTACH_DETACH (R367): the controller, and whether it is attached. -/
  | namespaceAttachDetach (tag : Nat) (f : Fin 128) (attach : Bool)
  /-- SET_CONTROLLER_WEIGHT (R382). -/
  | setControllerWeight (tag : Nat)
  /-- DRAIN_MERGE_EXPIRY (R398). -/
  | drainMergeExpiry
  /-- PORST_FALL (R406). -/
  | porstFall
  /-- PORST_COMMIT_CUT (R406). -/
  | porstCommitCut
  /-- PORST_HOLD_EXPIRY (R406). -/
  | porstHoldExpiry
  /-- ARCADE_CONTEXT_OPEN (R426): the tag, and the request part of the control block (none: its fetch failed). -/
  | arcadeContextOpen (tag : Nat) (cb : Option (List Byte))
  /-- ARCADE_CONTEXT_CLOSE (R426). -/
  | arcadeContextClose (tag : Nat) (cb : Option (List Byte))
  /-- OBJECT_GET (R418). -/
  | objectGet (tag : Nat) (cb : Option (List Byte))
  /-- OBJECT_PUT (R417). -/
  | objectPut (tag : Nat) (cb : Option (List Byte))
  /-- OBJECT_DELETE (R419). -/
  | objectDelete (tag : Nat) (cb : Option (List Byte))
  /-- OBJECT_LIST (R420). -/
  | objectList (tag : Nat) (cb : Option (List Byte))
  /-- ENCODE (R424). -/
  | encode (tag : Nat) (cb : Option (List Byte))
  /-- DIGEST (R422). -/
  | digest (tag : Nat) (cb : Option (List Byte))
  /-- ARCADE_VERIFY (R423). -/
  | arcadeVerify (tag : Nat) (cb : Option (List Byte))
  /-- ARCADE_CONTEXT_GRANT (R426). -/
  | arcadeContextGrant
  /-- ARCADE_BARRIER_RELEASE (R427). -/
  | arcadeBarrierRelease (tag : Nat)
  /-- ARCADE_STEP (R428). -/
  | arcadeStep (tag : Nat) (i : StepInput)
  /-- ARCADE_CHANNEL_REQUEST (R442): the context. -/
  | arcadeChannelRequest (ctx : Fin 256) (q : ChannelRequest)
  /-- ENTROPY_HEALTH_FAIL (R435). -/
  | entropyHealthFail
  /-- ENTROPY_HEALTH_RECOVER (R435). -/
  | entropyHealthRecover
  /-- GET_VERSION (R450), on a controller; as every SPDM row. -/
  | getVersion (f : Fin 128)
  /-- GET_CAPABILITIES (R450). -/
  | getCapabilities (f : Fin 128)
  /-- NEGOTIATE_ALGORITHMS (R450): the requester offers the device's algorithms. -/
  | negotiateAlgorithms (f : Fin 128) (offered : Bool)
  /-- GET_DIGESTS (R451). -/
  | getDigests (f : Fin 128)
  /-- GET_CERTIFICATE (R451): the slot, offset and length. -/
  | getCertificate (f : Fin 128) (slot : Nat) (offset : Nat) (length : Nat)
  /-- CHALLENGE (R451): the slot. -/
  | challenge (f : Fin 128) (slot : Nat)
  /-- GET_MEASUREMENTS (R452). -/
  | getMeasurements (f : Fin 128) (signed : Bool)
  /-- KEY_EXCHANGE (R454): whether it requests mutual authentication. -/
  | keyExchange (f : Fin 128) (mutAuth : Bool)
  /-- FINISH (R454). -/
  | finish (f : Fin 128) (p : FinishProof)
  /-- END_SESSION (R453). -/
  | endSession (f : Fin 128)
  /-- HEARTBEAT (R453). -/
  | heartbeat (f : Fin 128)
  /-- KEY_UPDATE (R450). -/
  | keyUpdate (f : Fin 128)
  /-- GET_ENCAPSULATED_REQUEST (R450). -/
  | getEncapsulatedRequest (f : Fin 128)
  /-- DELIVER_ENCAPSULATED_RESPONSE (R450): the requester's chain. -/
  | deliverEncapsulatedResponse (f : Fin 128) (c : RequesterChain)
  /-- GET_CSR (R450). -/
  | getCsr (f : Fin 128)
  /-- SET_CERTIFICATE (R451): the slot and the chain. -/
  | setCertificate (f : Fin 128) (slot : Nat) (chain : List (BitVec 8))
  /-- CREDENTIAL_SET (R458). -/
  | credentialSet (f : Fin 128) (cred : List (BitVec 8))
  /-- CREDENTIAL_UNLOCK (R458). -/
  | credentialUnlock (f : Fin 128) (cred : List (BitVec 8))
  /-- CREDENTIAL_CHANGE (R458): the old and the new credential. -/
  | credentialChange (f : Fin 128) (old : List (BitVec 8)) (new : List (BitVec 8))
  /-- SESSION_HEARTBEAT_EXPIRY (R453). -/
  | sessionHeartbeatExpiry (f : Fin 128)
  /-- OWNER_CLAIM (R446): the public key. -/
  | ownerClaim (tag : Nat) (key : List (BitVec 8))
  /-- OWNER_ROOT_UPDATE (R446): the public key of a fill. -/
  | ownerRootUpdate (tag : Nat) (key : List (BitVec 8))
  /-- TENANCY_CREATE (R456). -/
  | tenancyCreate (tag : Nat)
  /-- TENANCY_DELETE (R459). -/
  | tenancyDelete (tag : Nat)
  /-- CONTROLLER_BIND (R456). -/
  | controllerBind (tag : Nat)
  /-- TENANCY_CRYPTO_ERASE (R459). -/
  | tenancyCryptoErase (tag : Nat)
  /-- ANTI_ROLLBACK_ADVANCE (R449): with how many fuse steps succeed before one fails, if one does. -/
  | antiRollbackAdvance (tag : Nat) (bad : Option Nat)
  /-- DEBUG_UNLOCK (R461): the token, and the public key of the root that it is checked under. -/
  | debugUnlock (tag : Nat) (token : List (BitVec 8)) (key : List (BitVec 8))
  /-- DMA_TAIL_WRITE (R464): a write of TAIL. -/
  | dmaTailWrite (c : Fin 64) (tail : Fin 1024)
  /-- DMA_COPY (R467): the channel starts the COPY descriptor that is next in its ring. -/
  | dmaCopy (c : Fin 64) (m : DmaMeets)
  /-- DMA_FILL (R467): the channel starts the FILL descriptor that is next in its ring. -/
  | dmaFill (c : Fin 64) (m : DmaMeets)
  /-- DMA_FLASH (R469): the channel starts the FLASH descriptor that is next in its ring. -/
  | dmaFlash (c : Fin 64) (badDesc : Bool)
  /-- DMA_LOCK_ACQUIRE (R470): the channel starts the LOCK acquire that is next in its ring. -/
  | dmaLockAcquire (c : Fin 64) (badDesc : Bool)
  /-- DMA_LOCK_RELEASE (R470): the channel starts the LOCK release that is next in its ring. -/
  | dmaLockRelease (c : Fin 64) (badDesc : Bool)
  /-- DMA_LOCK_RETRY (R470): 1 us after a BUSY result. -/
  | dmaLockRetry (c : Fin 64)
  /-- DMA_WRITE_BACK (R465, R468): the oldest started descriptor has ended and is written back. -/
  | dmaWriteBack (c : Fin 64)
  /-- DMA_RESUME (R473). -/
  | dmaResume (c : Fin 64)
  /-- DMA_SKIP (R473). -/
  | dmaSkip (c : Fin 64)
  /-- DMA_CHANNEL_RESET (R474). -/
  | dmaChannelReset (c : Fin 64)
  /-- DMA_CHANNEL_DISABLE (R474). -/
  | dmaChannelDisable (c : Fin 64)
  /-- DMA_CHANNEL_STOP (R474). -/
  | dmaChannelStop (c : Fin 64)
  /-- DRAM_SCRUB_READ (R489): the next DRAM word; a word of the check region finds the error in the word whose check byte
  `byte` of it holds. -/
  | dramScrubRead (find : MemFind) (byte : Fin 8)
  /-- SRAM_SCRUB_READ (R490). -/
  | sramScrubRead (word : SramWord) (find : MemFind)
  /-- MEDIA_SCRUB (R491): an internal-class VERIFY entry for an Avenue's internal ring. -/
  | mediaScrub (n : Fin 4) (ring : Fin 4) (e : RingEntry)
  /-- L1_WAY_CHANGE (R498): the enabled ways of a core's two L1 caches. -/
  | l1WayChange (k : Fin 6) (iways dways : Fin 32)
  /-- LFSR_LOAD (R501). -/
  | lfsrLoad (c : Fin 13) (value : Fin 65536)
  /-- L1_MISS_FILL (R497). -/
  | l1MissFill (m : MissArgs)
  /-- JTAG_BYPASS (R568). -/
  | jtagBypass
  /-- JTAG_IDCODE (R568). -/
  | jtagIdcode
  /-- JTAG_SAMPLE_PRELOAD (R568): the levels found at the balls, and the values shifted into the cells. -/
  | jtagSamplePreload (captured preload : BoundaryCells)
  /-- JTAG_EXTEST (R568). -/
  | jtagExtest
  /-- JTAG_CLAMP (R568). -/
  | jtagClamp
  /-- JTAG_HIGHZ (R568). -/
  | jtagHighz
  /-- EVENT_ARRIVAL (R509, R510): the next event reaches the collector; `full` says that the recorder holds 32 captures in
  progress (R521). -/
  | eventArrival (full : Bool)
  /-- CHIP_RESET_TIMEOUT (R513): 600 ms have passed, or the engines are parked and the commit has ended. -/
  | chipResetTimeout (timeout : Bool) (inp : StartInput)
  /-- QUIET_PERIOD_EXPIRY (R515). -/
  | quietPeriodExpiry (src : Fin 1152)
  /-- RCNT_DECAY_EXPIRY (R515). -/
  | rcntDecayExpiry (src : Fin 1152)
  /-- SOURCE_REARM (R515): a write to FLT_REARM[i]. -/
  | sourceRearm (i : Fin 36) (mask : Word)
  /-- BLOCK_RESET_REQUEST (R512): a write of GO with a unit code to FLT_BRST. -/
  | blockResetRequest (unit : Fin 32)
  /-- BLOCK_RESET_DRAIN_END (R512): a unit code of Table 19-3, or 32 + c for DMA channel c. -/
  | blockResetDrainEnd (unit : Fin 96)
  /-- BLOCK_RESET_DRAIN_FORCED (R512). -/
  | blockResetDrainForced (unit : Fin 96)
  /-- NMI_RETURN (R511). -/
  | nmiReturn (k : Fin 6)
  /-- FAULT_PIN_RELEASE (R517). -/
  | faultPinRelease
  /-- FAULT_INJECT (R518): a write of GO with a source to FLT_INJ. -/
  | faultInject (src : Fin 2048)
  /-- MIRROR_PAGE (R524): a page of circulating records is programmed. -/
  | mirrorPage
  /-- MIRROR_OVERDUE (R524). -/
  | mirrorOverdue
  /-- RECORD_CURSOR_LOAD (R525). -/
  | recordCursorLoad (seq : Word)
  /-- FOUNDING_CURSOR_LOAD (R525). -/
  | foundingCursorLoad (i : Fin 256)
  /-- RECORD_CLEAR (R527). -/
  | recordClear
  /-- FOUNDING_CLEAR (R527). -/
  | foundingClear
  /-- WAIT_ENTER_REPORT (R528): the unit has stalled since `start`. -/
  | waitEnterReport (u : Fin 16) (start : BitVec 64)
  /-- WAIT_EXIT_REPORT (R528). -/
  | waitExitReport (u : Fin 16)
  /-- STANDBY_ENTRY (R534): STBYT has passed. -/
  | standbyEntry
  /-- SLEEP_ENTRY (R535): SLEEPT has passed. -/
  | sleepEntry
  /-- SLEEP_EXIT (R535). -/
  | sleepExit (why : SleepWake)
  /-- DEEP_STANDBY_ENTRY (R536): DSBYT has passed. -/
  | deepStandbyEntry
  /-- DEEP_STANDBY_WAKE (R537): the supplies and PGOOD are back after WAKE_N fell; `edge` says that it has risen since a
  fall that timed out. -/
  | deepStandbyWake (edge : Bool) (straps : Fin 16) (inp : StartInput)
  /-- WAKE_SUPPLY_TIMEOUT (R537). -/
  | wakeSupplyTimeout
  /-- PORST_RELEASE (R539, R540): PORST_N rises, with the levels on the straps (R561). -/
  | porstRelease (straps : Fin 16) (inp : StartInput)
  /-- DATA_SERVICE_READY (R540, R543): step 12 of the start; the step at which a floor's fuses fail, if any. -/
  | dataServiceReady (fuse : Option Nat)
  /-- START_STEP_LIMIT (R540). -/
  | startStepLimit (inp : StartInput)
  /-- SUPPLY_MONITOR_SAMPLE (R547, R551). -/
  | supplyMonitorSample (m : SupplySample)
  /-- PGOOD_FALL (R50, R547). -/
  | pgoodFall
  /-- PGOOD_LOSS_EXPIRY (R547): PGOOD has stayed low for longer than PGT. -/
  | pgoodLossExpiry
  /-- POWER_LOSS_SIGNAL (R547). -/
  | powerLossSignal
  /-- COMMIT_RECORD (R549): the commit pages have been programmed, or some program has failed (`ok` false). -/
  | commitRecord (ok : Bool)
  /-- POWER_LOSS_WITHDRAW (R547): every cause has been absent for 10 ms. -/
  | powerLossWithdraw (inp : StartInput)
  /-- CLEAN_STOP_RECORD (R550). -/
  | cleanStopRecord
  /-- OPEN_MARKER (R550). -/
  | openMarker
  /-- PREAMP_FAULT_CLEAR (R150): PFLTn_N rises. -/
  | preampFaultClear (n : Fin 4)
  deriving DecidableEq, Repr

end Sys2Proof
end

