-- ==== Sys2Proof/Decode.lean ====
section
/-! DEFINITION. The words of commands. The device has no instruction encoding: spec/opcode_table.json gives no bits to any
row, and a command reaches the device as an access, an event or a signal. -/

namespace Sys2Proof

/-- The command that a word spells by the bits of spec/opcode_table.json: no row has bits, so no word spells one. -/
def decodeTableWord (_nbits _w : Nat) : Option Instr := none

end Sys2Proof
end

