-- ==== Sys2Proof/Config.lean ====
section
/-! DEFINITION. What the spec leaves to an implementation, and the free values: opaque constants, so that no proof can
see what they are. -/

namespace Sys2Proof.Config

/-- A value that the spec leaves open, drawn in turn: the `k`-th draw of a run (assumption 5). The counter is the
model's own field `State.freeCtr`. -/
opaque freeValue : Nat → BitVec 256

/-- The event source raised when the header parity of a flit fails at a stop (R39 gives none; assumption 9). -/
opaque flitParitySource : Nat → Fin 1152

/-- The event source raised for a crossing of a domain to which no chapter assigns one (R32; assumption 9). -/
opaque crossingSource : Nat → Fin 1152

/-- The count that a drive command takes from a controller output that is not a number (R202 states none). -/
opaque nanCount : Int

/-- Labels of the key derivation of R436: a distinct one for each derived key, which the spec leaves open. -/
opaque kdfLabel : Nat → List (BitVec 8)

/-- The PCI Vendor ID (12.2) and the serial number (R373), which the spec does not state. -/
opaque vendorId : BitVec 16
opaque serial : Fin 20 → BitVec 8

/-- Bytes of identify data and of log pages that the spec does not state: by structure or log page, controller and byte. -/
opaque identifyByte : Nat → Nat → Nat → BitVec 8
opaque logByte : Nat → Nat → Nat → BitVec 8

/-- The digest of the boot ROM (R448), the hashes of the four vendor root keys (R446), and the public part of the device
identity key that a device root secret gives (R436): constants of the part. -/
opaque bootRomDigest : List (BitVec 8)
opaque vendorRoot : Fin 4 → List (BitVec 8)
opaque dikPublic : BitVec 256 → List (BitVec 8)

/-- A signature under the device identity key that a device root secret gives, over some bytes, made with some randomness
(R436, R452). -/
opaque dikSign : BitVec 256 → List (BitVec 8) → Nat → List (BitVec 8)

/-- The capabilities and algorithms bytes of SPDM responses that the spec does not state, by response and byte. -/
opaque spdmByte : Nat → Nat → BitVec 8

/-- The spindle speed that the body of an SP image names, in rpm above the 4,800 of R60; the spec does not state its place. -/
opaque spSpeed : List (BitVec 8) → Nat

/-- The owner configuration record, whose digest MR9 receives (R448). -/
opaque ownerConfig : List (BitVec 8)

end Sys2Proof.Config
end

