-- ==== Sys2Proof/Machine/KMap.lean ====
section
/-! DEFINITION. Sparse data by key: a list of key and value pairs in one canonical form (keys strictly rising, no
entry equal to what an unlisted key reads as), so that equal maps are equal data. -/

namespace Sys2Proof.Machine

/-- A sparse map from keys to values; what an unlisted key reads as is a function `d` that every operation takes. -/
abbrev KMap (β : Type) := List (Nat × β)

namespace KMap

variable {β : Type}

/-- The value at key `k`: the listed one, or what an unlisted key reads as. -/
def get (d : Nat → β) : KMap β → Nat → β
  | [], k => d k
  | (j, v) :: m, k => if j = k then v else get d m k

/-- The map without any entry of key `k`. -/
def erase : KMap β → Nat → KMap β
  | [], _ => []
  | (j, v) :: m, k => if j = k then erase m k else (j, v) :: erase m k

/-- The map with the entry `(k, v)` put before the first greater key. -/
def insert : KMap β → Nat → β → KMap β
  | [], k, v => [(k, v)]
  | (j, w) :: m, k, v => if k < j then (k, v) :: (j, w) :: m else (j, w) :: insert m k v

/-- The map whose value at `k` is `v`: a value that an unlisted key reads as is not listed. -/
def set [DecidableEq β] (d : Nat → β) (m : KMap β) (k : Nat) (v : β) : KMap β :=
  if v = d k then erase m k else insert (erase m k) k v

/-- The listed keys. -/
def keys (m : KMap β) : List Nat := m.map Prod.fst

/-- Keys strictly rising and no listed value equal to the default: the canonical form. -/
def wf [DecidableEq β] (d : Nat → β) : KMap β → Bool
  | [] => true
  | [(k, v)] => decide (v ≠ d k)
  | (k, v) :: (j, w) :: m => decide (v ≠ d k) && decide (k < j) && wf d ((j, w) :: m)

end KMap

end Sys2Proof.Machine
end

