-- ==== Sys2Proof/Machine/Quad.lean ====
section
/-! DEFINITION. Four like things, one for each Avenue or each actuator. -/

namespace Sys2Proof.Machine

/-- One value for each of four Avenues or actuators. -/
structure Quad (α : Type) where
  v0 : α
  v1 : α
  v2 : α
  v3 : α
  deriving DecidableEq, Repr

namespace Quad

variable {α : Type}

/-- The value of index `n`. -/
def get (q : Quad α) (n : Fin 4) : α :=
  match n with
  | 0 => q.v0
  | 1 => q.v1
  | 2 => q.v2
  | 3 => q.v3

/-- The same four values but for index `n`, which takes `v`. -/
def set (q : Quad α) (n : Fin 4) (v : α) : Quad α :=
  match n with
  | 0 => { q with v0 := v }
  | 1 => { q with v1 := v }
  | 2 => { q with v2 := v }
  | 3 => { q with v3 := v }

/-- The same value for every index. -/
def all (v : α) : Quad α := ⟨v, v, v, v⟩

/-- Does some index satisfy `p`? -/
def any (q : Quad α) (p : α → Bool) : Bool := p q.v0 || p q.v1 || p q.v2 || p q.v3

/-- `f` applied to every value. -/
def map {β : Type} (q : Quad α) (f : α → β) : Quad β := ⟨f q.v0, f q.v1, f q.v2, f q.v3⟩

end Quad

end Sys2Proof.Machine
end

