-- ==== Sys2Proof/Machine/RegisterMap.lean ====
section
/-! DEFINITION. The register map of the device (spec 00, R16 to R27, Table 0-4, and the register tables of
chapters 00 to 21): the blocks' bases, every register's fields with their access codes and reset values, and a name
for every field. A field whose Reset cell is X, strap, fuse, AON or a dash resets to 0 here; assumptions 1 to 4 say so. -/

namespace Sys2Proof.Machine

/-- The access codes of Table 0-6 (R20). -/
inductive Access where
  | rw | ro | wo | w1c | w1s | rc | rwl
  deriving DecidableEq, Repr

/-- One field of a register: its lowest bit, its width, its access code and its reset value. -/
structure FieldSpec where
  lo : Nat
  wid : Nat
  acc : Access
  reset : Nat
  deriving DecidableEq, Repr

/-- One register, or one array of registers: the block offset of its first word, its index strides and counts with
the greatest stride first, the block offset of the register whose bit 31 is its LOCK (R22), and its fields. -/
structure RegSpec where
  off : Nat
  dims : List (Nat × Nat)
  lock : Option Nat
  fields : List FieldSpec
  deriving DecidableEq, Repr

/-- A field of one register of the device: the register's device byte address, the lowest bit and the width. -/
structure Fld where
  addr : Nat
  lo : Nat
  wid : Nat
  deriving DecidableEq, Repr

/-- Base address of Avenue n (Table 0-4). -/
def avBase (n : Nat) : Nat := 0x1000000 + n * 0x100000

/-- Base address of servo engine n (Table 0-4). -/
def svBase (n : Nat) : Nat := 0x1400000 + n * 0x40000

/-- Registers of SYS, part 1. -/
def sysSpecs1 : List RegSpec := [
  ⟨0x0, [], none, [⟨16, 16, .ro, 0x9640⟩, ⟨8, 8, .ro, 1⟩, ⟨0, 8, .ro, 0⟩]⟩ /- ID -/,
  ⟨0x10, [], none, [⟨31, 1, .w1c, 0⟩, ⟨30, 1, .ro, 0⟩, ⟨29, 1, .ro, 0⟩, ⟨26, 3, .ro, 0⟩, ⟨25, 1, .ro, 0⟩, ⟨0, 25, .ro, 0⟩]⟩ /- BADACC -/,
  ⟨0x14, [], none, [⟨16, 16, .ro, 0⟩, ⟨0, 16, .rc, 0⟩]⟩ /- BADCNT -/,
  ⟨0x20, [], none, [⟨31, 1, .rw, 1⟩, ⟨16, 15, .ro, 0⟩, ⟨0, 16, .rw, 0x3C⟩]⟩ /- SCRUB -/
]

/-- Registers of SYS. -/
def sysSpecs : List RegSpec := sysSpecs1

/-- Registers of TIM, part 1. -/
def timSpecs1 : List RegSpec := [
  ⟨0x0, [], none, [⟨31, 1, .w1s, 0⟩, ⟨16, 15, .ro, 0⟩, ⟨8, 8, .ro, 0⟩, ⟨2, 6, .ro, 0⟩, ⟨1, 1, .ro, 0⟩, ⟨0, 1, .wo, 0⟩]⟩ /- CTL -/,
  ⟨0x10, [], none, [⟨0, 32, .ro, 0⟩]⟩ /- NOW_LO -/,
  ⟨0x14, [], none, [⟨0, 32, .ro, 0⟩]⟩ /- NOW_HI -/,
  ⟨0x18, [], some 0x0, [⟨0, 32, .rwl, 0⟩]⟩ /- LOAD_LO -/,
  ⟨0x1C, [], some 0x0, [⟨0, 32, .rwl, 0⟩]⟩ /- LOAD_HI -/,
  ⟨0x20, [], none, [⟨0, 32, .ro, 1⟩]⟩ /- FENCE -/,
  ⟨0x40, [], none, [⟨0, 32, .ro, 0⟩]⟩ /- TDSTAT0 -/,
  ⟨0x44, [], none, [⟨0, 8, .ro, 0⟩]⟩ /- TDSTAT1 -/,
  ⟨0x48, [], none, [⟨0, 32, .ro, 0⟩]⟩ /- TDEXP0 -/,
  ⟨0x4C, [], none, [⟨0, 8, .ro, 0⟩]⟩ /- TDEXP1 -/
]

/-- Registers of TIM. -/
def timSpecs : List RegSpec := timSpecs1

/-- Registers of HST, part 1. -/
def hstSpecs1 : List RegSpec := [
  ⟨0x0, [], none, [⟨31, 1, .w1s, 0⟩, ⟨2, 29, .ro, 0⟩, ⟨1, 1, .ro, 0⟩, ⟨0, 1, .wo, 0⟩]⟩ /- CTL -/,
  ⟨0x4, [], none, [⟨29, 3, .ro, 0⟩, ⟨7, 22, .ro, 0⟩, ⟨0, 7, .ro, 0⟩]⟩ /- CFGSTAT -/,
  ⟨0x10, [(0x4, 2)], none, [⟨31, 1, .ro, 0⟩, ⟨30, 1, .ro, 0⟩, ⟨27, 3, .ro, 0⟩, ⟨24, 3, .ro, 0⟩, ⟨16, 8, .ro, 0⟩, ⟨0, 16, .rc, 0⟩]⟩ /- PORT -/,
  ⟨0x20, [], some 0x0, [⟨16, 16, .rwl, 0⟩, ⟨0, 16, .rwl, 0⟩]⟩ /- SSID -/,
  ⟨0x30, [(0x4, 2)], some 0x0, [⟨6, 26, .ro, 0⟩, ⟨0, 6, .rwl, 0x3F⟩]⟩ /- PFCFG -/,
  ⟨0x40, [], some 0x0, [⟨8, 24, .ro, 0⟩, ⟨7, 1, .rwl, 1⟩, ⟨0, 7, .rwl, 0x6A⟩]⟩ /- MI -/,
  ⟨0x400, [], some 0x0, [⟨31, 1, .ro, 1⟩, ⟨24, 7, .ro, 0⟩, ⟨12, 12, .rwl, 0x1F⟩, ⟨0, 12, .rwl, 0x20⟩]⟩ /- FN -/,
  ⟨0x404, [], some 0x0, [⟨31, 1, .rwl, 1⟩, ⟨24, 7, .ro, 0⟩, ⟨12, 12, .rwl, 0x1F⟩, ⟨0, 12, .rwl, 0x20⟩]⟩ /- FN -/,
  ⟨0x408, [(0x4, 126)], some 0x0, [⟨31, 1, .rwl, 0⟩, ⟨24, 7, .ro, 0⟩, ⟨12, 12, .rwl, 0x1F⟩, ⟨0, 12, .rwl, 0x20⟩]⟩ /- FN -/,
  ⟨0x50, [], none, [⟨16, 16, .rc, 0⟩, ⟨0, 16, .rc, 0⟩]⟩ /- INTG -/
]

/-- Registers of HST. -/
def hstSpecs : List RegSpec := hstSpecs1

/-- Registers of RBT, part 1. -/
def rbtSpecs1 : List RegSpec := [
  ⟨0x0, [], none, [⟨31, 1, .w1s, 0⟩, ⟨0, 31, .ro, 0⟩]⟩ /- CTL -/,
  ⟨0x4, [], some 0x0, [⟨24, 8, .rwl, 0x10⟩, ⟨8, 16, .rwl, 0x1F4⟩, ⟨0, 8, .rwl, 0xA⟩]⟩ /- ARB -/,
  ⟨0x8, [], none, [⟨31, 1, .ro, 0⟩, ⟨16, 15, .ro, 0x4000⟩, ⟨15, 1, .ro, 0⟩, ⟨0, 15, .ro, 0⟩]⟩ /- TAGSTAT -/,
  ⟨0xC, [], none, [⟨16, 16, .rc, 0⟩, ⟨0, 16, .rc, 0⟩]⟩ /- CNT -/,
  ⟨0x10, [], none, [⟨29, 3, .ro, 0⟩, ⟨16, 13, .ro, 0⟩, ⟨0, 16, .ro, 0⟩]⟩ /- ACT -/,
  ⟨0x20, [(0x4, 4)], none, [⟨26, 6, .ro, 0⟩, ⟨16, 10, .ro, 0⟩, ⟨5, 11, .ro, 0⟩, ⟨0, 5, .ro, 0⟩]⟩ /- AVWIN -/,
  ⟨0x400, [(0x4, 128)], some 0x0, [⟨8, 24, .ro, 0⟩, ⟨0, 8, .rwl, 8⟩]⟩ /- CW -/
]

/-- Registers of RBT. -/
def rbtSpecs : List RegSpec := rbtSpecs1

/-- Registers of SQR, part 1. -/
def sqrSpecs1 : List RegSpec := [
  ⟨0x0, [], none, [⟨31, 1, .w1s, 0⟩, ⟨1, 30, .ro, 0⟩, ⟨0, 1, .wo, 0⟩]⟩ /- CTL -/,
  ⟨0x4, [], some 0x0, [⟨2, 30, .ro, 0⟩, ⟨0, 2, .rwl, 0⟩]⟩ /- DRAMCFG -/,
  ⟨0x8, [], some 0x0, [⟨24, 8, .rwl, 0⟩, ⟨16, 8, .rwl, 0x10⟩, ⟨8, 8, .rwl, 0x40⟩, ⟨0, 8, .rwl, 0x32⟩]⟩ /- PAGECFG -/,
  ⟨0xC, [], none, [⟨31, 1, .ro, 0⟩, ⟨28, 3, .ro, 0⟩, ⟨22, 6, .ro, 0⟩, ⟨0, 22, .ro, 0⟩]⟩ /- STAT -/,
  ⟨0x10, [], none, [⟨22, 10, .ro, 0⟩, ⟨0, 22, .ro, 0⟩]⟩ /- FREE -/,
  ⟨0x14, [], some 0x0, [⟨19, 13, .ro, 0⟩, ⟨16, 3, .rwl, 6⟩, ⟨9, 7, .ro, 0⟩, ⟨0, 9, .rwl, 0x40⟩]⟩ /- WIN -/,
  ⟨0x18, [], none, [⟨31, 1, .ro, 0⟩, ⟨17, 14, .ro, 0⟩, ⟨0, 17, .ro, 0⟩]⟩ /- WINSTAT -/,
  ⟨0x1C, [], some 0x0, [⟨16, 16, .rwl, 0xC8⟩, ⟨9, 7, .ro, 0⟩, ⟨0, 9, .rwl, 0x40⟩]⟩ /- GATHER -/,
  ⟨0x20, [], none, [⟨9, 23, .ro, 0⟩, ⟨0, 9, .ro, 0⟩]⟩ /- GSTAT -/,
  ⟨0x24, [], some 0x0, [⟨24, 8, .ro, 0⟩, ⟨16, 8, .ro, 0⟩, ⟨8, 8, .rwl, 0xA⟩, ⟨1, 7, .ro, 0⟩, ⟨0, 1, .rwl, 1⟩]⟩ /- DRAIN -/,
  ⟨0x28, [], some 0x0, [⟨31, 1, .rwl, 1⟩, ⟨20, 11, .rwl, 0xC8⟩, ⟨12, 8, .rwl, 0x10⟩, ⟨4, 8, .rwl, 8⟩, ⟨0, 4, .rwl, 1⟩]⟩ /- RA -/,
  ⟨0x2C, [], some 0x0, [⟨16, 16, .ro, 0⟩, ⟨0, 16, .rwl, 0x64⟩]⟩ /- LOCKCFG -/,
  ⟨0x40, [], none, [⟨31, 1, .w1c, 0⟩, ⟨30, 1, .ro, 0⟩, ⟨29, 1, .ro, 0⟩, ⟨22, 7, .ro, 0⟩, ⟨0, 22, .ro, 0⟩]⟩ /- TVCAP -/,
  ⟨0x44, [], none, [⟨16, 16, .rc, 0⟩, ⟨0, 16, .rc, 0⟩]⟩ /- CNT0 -/,
  ⟨0x48, [], none, [⟨16, 16, .rc, 0⟩, ⟨8, 8, .rc, 0⟩, ⟨0, 8, .rc, 0⟩]⟩ /- CNT1 -/,
  ⟨0x4C, [], none, [⟨16, 16, .rc, 0⟩, ⟨0, 16, .rc, 0⟩]⟩ /- CNT2 -/,
  ⟨0x2000, [(0x4, 256)], none, [⟨29, 3, .ro, 0⟩, ⟨16, 13, .ro, 0⟩, ⟨8, 8, .ro, 0⟩, ⟨0, 8, .ro, 0⟩]⟩ /- LOCKOP -/,
  ⟨0x1000, [(0x4, 256)], none, [⟨31, 1, .ro, 0⟩, ⟨30, 1, .ro, 0⟩, ⟨16, 14, .ro, 0⟩, ⟨8, 8, .ro, 0⟩, ⟨0, 8, .ro, 0⟩]⟩ /- LOCKSTAT -/,
  ⟨0x3000, [], some 0x0, [⟨24, 8, .rwl, 0x20⟩, ⟨16, 8, .rwl, 0x10⟩, ⟨12, 4, .rwl, 1⟩, ⟨11, 1, .rwl, 1⟩, ⟨8, 3, .ro, 0⟩, ⟨0, 8, .rwl, 0x40⟩]⟩ /- REDCTL -/,
  ⟨0x3004, [], none, [⟨24, 8, .ro, 0⟩, ⟨4, 20, .ro, 0⟩, ⟨0, 4, .ro, 0⟩]⟩ /- AVFAIL -/
]

/-- Registers of SQR, part 2. -/
def sqrSpecs2 : List RegSpec := [
  ⟨0x3008, [], none, [⟨24, 8, .ro, 0⟩, ⟨16, 8, .ro, 0⟩, ⟨8, 8, .ro, 0⟩, ⟨0, 8, .ro, 0⟩]⟩ /- REDSTAT -/,
  ⟨0x300C, [], none, [⟨16, 16, .rc, 0⟩, ⟨0, 16, .rc, 0⟩]⟩ /- REDCNT -/,
  ⟨0x3400, [(0x80, 64)], none, [⟨30, 2, .ro, 0⟩, ⟨26, 4, .ro, 0⟩, ⟨19, 7, .ro, 0⟩, ⟨13, 6, .ro, 0⟩, ⟨0, 13, .ro, 0⟩]⟩ /- REGION0 -/,
  ⟨0x3404, [(0x80, 64)], none, [⟨31, 1, .ro, 0⟩, ⟨30, 1, .ro, 0⟩, ⟨29, 1, .ro, 0⟩, ⟨28, 1, .ro, 0⟩, ⟨27, 1, .ro, 0⟩, ⟨26, 1, .ro, 0⟩, ⟨0, 26, .ro, 0⟩]⟩ /- REGION1 -/,
  ⟨0x3408, [(0x80, 64)], none, [⟨0, 32, .ro, 0⟩]⟩ /- REGION2 -/,
  ⟨0x340C, [(0x80, 64)], none, [⟨24, 8, .ro, 0⟩, ⟨0, 24, .ro, 0⟩]⟩ /- REGION3 -/,
  ⟨0x3410, [(0x80, 64)], none, [⟨0, 24, .ro, 0⟩]⟩ /- REGION4 -/,
  ⟨0x3414, [(0x80, 64)], none, [⟨0, 24, .ro, 0⟩]⟩ /- REGION5 -/,
  ⟨0x3418, [(0x80, 64)], none, [⟨0, 24, .ro, 0⟩]⟩ /- REGION6 -/,
  ⟨0x341C, [(0x80, 64)], none, [⟨0, 24, .ro, 0⟩]⟩ /- REGION7 -/,
  ⟨0x3420, [(0x80, 64)], none, [⟨30, 2, .ro, 0⟩, ⟨26, 4, .ro, 0⟩, ⟨19, 7, .ro, 0⟩, ⟨13, 6, .ro, 0⟩]⟩ /- REGION8 -/,
  ⟨0x3424, [(0x80, 64)], none, [⟨0, 24, .ro, 0⟩]⟩ /- REGION9 -/,
  ⟨0x3428, [(0x80, 64)], none, [⟨0, 24, .ro, 0⟩]⟩ /- REGION10 -/,
  ⟨0x342C, [(0x80, 64)], none, [⟨0, 24, .ro, 0⟩]⟩ /- REGION11 -/,
  ⟨0x3430, [(0x80, 64)], none, [⟨0, 24, .ro, 0⟩]⟩ /- REGION12 -/,
  ⟨0x3434, [(0x80, 64)], none, [⟨0, 24, .ro, 0⟩]⟩ /- REGION13 -/,
  ⟨0x3438, [(0x80, 64)], none, [⟨0, 32, .ro, 0⟩]⟩ /- REGION14 -/,
  ⟨0x343C, [(0x80, 64)], none, [⟨0, 32, .ro, 0⟩]⟩ /- REGION15 -/,
  ⟨0x3440, [(0x80, 64)], none, [⟨0, 32, .ro, 0⟩]⟩ /- REGION16 -/,
  ⟨0x3444, [(0x80, 64)], none, [⟨0, 32, .ro, 0⟩]⟩ /- REGION17 -/
]

/-- Registers of SQR, part 3. -/
def sqrSpecs3 : List RegSpec := [
  ⟨0x3448, [(0x80, 64)], none, [⟨0, 32, .ro, 0⟩]⟩ /- REGION18 -/,
  ⟨0x344C, [(0x80, 64)], none, [⟨0, 32, .ro, 0⟩]⟩ /- REGION19 -/,
  ⟨0x3450, [(0x80, 64)], none, [⟨0, 32, .ro, 0⟩]⟩ /- REGION20 -/,
  ⟨0x3454, [(0x80, 64)], none, [⟨0, 32, .ro, 0⟩]⟩ /- REGION21 -/,
  ⟨0x3458, [(0x80, 64)], none, [⟨0, 32, .ro, 0⟩]⟩ /- REGION22 -/,
  ⟨0x345C, [(0x80, 64)], none, [⟨0, 32, .ro, 0⟩]⟩ /- REGION23 -/,
  ⟨0x3460, [(0x80, 64)], none, [⟨0, 32, .ro, 0⟩]⟩ /- REGION24 -/,
  ⟨0x3464, [(0x80, 64)], none, [⟨0, 32, .ro, 0⟩]⟩ /- REGION25 -/,
  ⟨0x3468, [(0x80, 64)], none, [⟨0, 32, .ro, 0⟩]⟩ /- REGION26 -/,
  ⟨0x346C, [(0x80, 64)], none, [⟨0, 32, .ro, 0⟩]⟩ /- REGION27 -/,
  ⟨0x3470, [(0x80, 64)], none, [⟨0, 32, .ro, 0⟩]⟩ /- REGION28 -/,
  ⟨0x3474, [(0x80, 64)], none, [⟨0, 32, .ro, 0⟩]⟩ /- REGION29 -/,
  ⟨0x3478, [(0x80, 64)], none, [⟨0, 32, .ro, 0⟩]⟩ /- REGION30 -/,
  ⟨0x347C, [(0x80, 64)], none, [⟨0, 32, .ro, 0⟩]⟩ /- REGION31 -/,
  ⟨0x60, [], some 0x0, [⟨24, 8, .rwl, 0x5A⟩, ⟨16, 8, .rwl, 0x18⟩, ⟨2, 14, .ro, 0⟩, ⟨1, 1, .rwl, 0⟩, ⟨0, 1, .rwl, 1⟩]⟩ /- INTGCTL -/,
  ⟨0x64, [], none, [⟨16, 16, .rc, 0⟩, ⟨0, 16, .rc, 0⟩]⟩ /- ECCCNT -/,
  ⟨0x68, [], none, [⟨31, 1, .w1c, 0⟩, ⟨0, 31, .ro, 0⟩]⟩ /- ECCCAP -/,
  ⟨0x6C, [], none, [⟨16, 16, .rc, 0⟩, ⟨0, 16, .rc, 0⟩]⟩ /- ECRCCNT -/,
  ⟨0x70, [], none, [⟨16, 16, .ro, 0⟩, ⟨0, 16, .ro, 0⟩]⟩ /- SCRUB -/
]

/-- Registers of SQR. -/
def sqrSpecs : List RegSpec := sqrSpecs1 ++ sqrSpecs2 ++ sqrSpecs3

/-- Registers of DMA, part 1. -/
def dmaSpecs1 : List RegSpec := [
  ⟨0x0, [], none, [⟨31, 1, .w1s, 0⟩, ⟨1, 30, .ro, 0⟩, ⟨0, 1, .rw, 0⟩]⟩ /- CTL -/,
  ⟨0x10, [], none, [⟨0, 32, .w1c, 0⟩]⟩ /- IRQ0 -/,
  ⟨0x14, [], none, [⟨0, 32, .w1c, 0⟩]⟩ /- IRQ1 -/,
  ⟨0x1000, [(0x40, 64)], some 0x0, [⟨31, 1, .rw, 0⟩, ⟨30, 1, .wo, 0⟩, ⟨27, 3, .rwl, 0⟩, ⟨26, 1, .rwl, 0⟩, ⟨19, 7, .ro, 0⟩, ⟨15, 4, .rwl, 0⟩, ⟨0, 15, .rwl, 0⟩]⟩ /- CHCFG -/,
  ⟨0x1004, [(0x40, 64)], some 0x0, [⟨5, 27, .rwl, 0⟩, ⟨0, 5, .ro, 0⟩]⟩ /- CHBASE_LO -/,
  ⟨0x1008, [(0x40, 64)], some 0x0, [⟨8, 24, .ro, 0⟩, ⟨0, 8, .rwl, 0⟩]⟩ /- CHBASE_HI -/,
  ⟨0x100C, [(0x40, 64)], none, [⟨10, 22, .ro, 0⟩, ⟨0, 10, .rw, 0⟩]⟩ /- CHTAIL -/,
  ⟨0x1010, [(0x40, 64)], none, [⟨10, 22, .ro, 0⟩, ⟨0, 10, .ro, 0⟩]⟩ /- CHHEAD -/,
  ⟨0x1014, [(0x40, 64)], none, [⟨3, 29, .ro, 0⟩, ⟨2, 1, .wo, 0⟩, ⟨1, 1, .wo, 0⟩, ⟨0, 1, .wo, 0⟩]⟩ /- CHCTL -/,
  ⟨0x1018, [(0x40, 64)], none, [⟨29, 3, .ro, 0⟩, ⟨20, 9, .ro, 0⟩, ⟨16, 4, .ro, 0⟩, ⟨0, 16, .rc, 0⟩]⟩ /- CHSTAT -/,
  ⟨0x101C, [(0x40, 64)], none, [⟨31, 1, .ro, 0⟩, ⟨28, 3, .ro, 0⟩, ⟨10, 18, .ro, 0⟩, ⟨0, 10, .ro, 0⟩]⟩ /- CHERR0 -/,
  ⟨0x1020, [(0x40, 64)], none, [⟨0, 32, .ro, 0⟩]⟩ /- CHERR1 -/,
  ⟨0x1024, [(0x40, 64)], none, [⟨8, 24, .ro, 0⟩, ⟨0, 8, .ro, 0⟩]⟩ /- CHERR2 -/,
  ⟨0x1028, [(0x40, 64)], none, [⟨24, 8, .ro, 0⟩, ⟨0, 24, .ro, 0⟩]⟩ /- CHERR3 -/,
  ⟨0x20, [], none, [⟨16, 16, .rc, 0⟩, ⟨0, 16, .rc, 0⟩]⟩ /- SRAMECC -/
]

/-- Registers of DMA. -/
def dmaSpecs : List RegSpec := dmaSpecs1

/-- Registers of FLS, part 1. -/
def flsSpecs1 : List RegSpec := [
  ⟨0x0, [], some 0x0, [⟨31, 1, .w1s, 0⟩, ⟨4, 27, .ro, 0⟩, ⟨2, 2, .rw, 0⟩, ⟨1, 1, .rwl, 1⟩, ⟨0, 1, .ro, 0⟩]⟩ /- CTL -/,
  ⟨0x4, [], none, [⟨30, 2, .ro, 0⟩, ⟨29, 1, .ro, 1⟩, ⟨28, 1, .ro, 0⟩, ⟨27, 1, .ro, 0⟩, ⟨16, 11, .ro, 0⟩, ⟨11, 5, .ro, 0⟩, ⟨0, 11, .ro, 0⟩]⟩ /- STAT -/,
  ⟨0x10, [(0x8, 2)], some 0x0, [⟨24, 8, .rwl, 0xA⟩, ⟨16, 8, .rwl, 0x13⟩, ⟨8, 8, .rwl, 0xD⟩, ⟨0, 8, .rwl, 0xD⟩]⟩ /- WAIT_W0 -/,
  ⟨0x14, [(0x8, 2)], some 0x0, [⟨8, 24, .ro, 0⟩, ⟨0, 8, .rwl, 0x26⟩]⟩ /- WAIT_W1 -/,
  ⟨0x20, [], some 0x0, [⟨24, 8, .rwl, 0x19⟩, ⟨15, 9, .rwl, 0xD2⟩, ⟨6, 9, .rwl, 0x15E⟩, ⟨0, 6, .rwl, 0x1E⟩]⟩ /- ATIME -/,
  ⟨0x24, [], some 0x0, [⟨24, 8, .rwl, 0x1E⟩, ⟨15, 9, .rwl, 0x104⟩, ⟨6, 9, .rwl, 0x1C2⟩, ⟨0, 6, .rwl, 0x28⟩]⟩ /- ATIME -/,
  ⟨0x28, [], some 0x0, [⟨24, 8, .rwl, 0x64⟩, ⟨16, 8, .rwl, 8⟩, ⟨8, 8, .rwl, 4⟩, ⟨0, 8, .ro, 0⟩]⟩ /- SUSP -/,
  ⟨0x2C, [], some 0x0, [⟨24, 8, .rwl, 0x18⟩, ⟨16, 8, .rwl, 0x40⟩, ⟨0, 16, .rwl, 0x1E⟩]⟩ /- MARGIN -/,
  ⟨0x40, [], some 0x0, [⟨16, 16, .rwl, 0x9C40⟩, ⟨0, 16, .rwl, 0x6A4⟩]⟩ /- WEARCFG -/,
  ⟨0x44, [], none, [⟨0, 32, .rw, 0⟩]⟩ /- WUSED_LO -/,
  ⟨0x48, [], none, [⟨0, 32, .rw, 0⟩]⟩ /- WUSED_HI -/,
  ⟨0x4C, [], none, [⟨16, 16, .ro, 0⟩, ⟨0, 16, .ro, 0⟩]⟩ /- ECNT -/,
  ⟨0x60, [(0x4, 2)], none, [⟨24, 8, .ro, 0⟩, ⟨16, 8, .ro, 0⟩, ⟨9, 7, .ro, 0⟩, ⟨0, 9, .ro, 0⟩]⟩ /- BBT -/,
  ⟨0x68, [], none, [⟨16, 16, .rc, 0⟩, ⟨0, 16, .rc, 0⟩]⟩ /- CNT0 -/,
  ⟨0x6C, [], none, [⟨24, 8, .rc, 0⟩, ⟨16, 8, .rc, 0⟩, ⟨0, 16, .rc, 0⟩]⟩ /- CNT1 -/,
  ⟨0x70, [], none, [⟨31, 1, .w1c, 0⟩, ⟨26, 5, .ro, 0⟩, ⟨25, 1, .ro, 0⟩, ⟨0, 25, .ro, 0⟩]⟩ /- ERRCAP -/,
  ⟨0x74, [], none, [⟨31, 1, .w1c, 0⟩, ⟨13, 18, .ro, 0⟩, ⟨12, 1, .ro, 0⟩, ⟨0, 12, .ro, 0⟩]⟩ /- PATROL -/
]

/-- Registers of FLS. -/
def flsSpecs : List RegSpec := flsSpecs1

/-- Registers of TGT, part 1. -/
def tgtSpecs1 : List RegSpec := [
  ⟨0x0, [], some 0x0, [⟨31, 1, .w1s, 0⟩, ⟨8, 23, .ro, 0⟩, ⟨0, 8, .rwl, 0x1E⟩]⟩ /- CTL -/,
  ⟨0x4, [], none, [⟨30, 2, .ro, 0⟩, ⟨29, 1, .ro, 0⟩, ⟨22, 7, .ro, 0⟩, ⟨20, 2, .ro, 0⟩, ⟨19, 1, .ro, 0⟩, ⟨18, 1, .ro, 0⟩, ⟨4, 14, .ro, 0⟩, ⟨0, 4, .ro, 0⟩]⟩ /- STAT -/,
  ⟨0x8, [], none, [⟨18, 14, .ro, 0⟩, ⟨16, 2, .ro, 0⟩, ⟨12, 4, .ro, 0⟩, ⟨8, 4, .ro, 0⟩, ⟨4, 4, .ro, 0⟩, ⟨0, 4, .ro, 0⟩]⟩ /- ROOT -/,
  ⟨0x10, [(0x4, 6)], none, [⟨16, 16, .ro, 0⟩, ⟨8, 8, .ro, 0⟩, ⟨0, 8, .ro, 0⟩]⟩ /- SVN -/,
  ⟨0x30, [], none, [⟨24, 8, .rc, 0⟩, ⟨16, 8, .rc, 0⟩, ⟨8, 8, .rc, 0⟩, ⟨0, 8, .rc, 0⟩]⟩ /- CNT -/,
  ⟨0x40, [(0x4, 8)], none, [⟨0, 32, .ro, 0⟩]⟩ /- DBGNONCE -/,
  ⟨0x100, [(0x4, 128)], none, [⟨31, 1, .ro, 0⟩, ⟨30, 1, .ro, 0⟩, ⟨28, 2, .ro, 0⟩, ⟨24, 4, .ro, 0⟩, ⟨13, 11, .ro, 0⟩, ⟨0, 13, .ro, 0⟩]⟩ /- TEN -/,
  ⟨0x400, [(0x4, 128)], none, [⟨31, 1, .ro, 0⟩, ⟨7, 24, .ro, 0⟩, ⟨0, 7, .ro, 0⟩]⟩ /- BIND -/,
  ⟨0x34, [], some 0x0, [⟨16, 16, .rc, 0⟩, ⟨1, 15, .ro, 0⟩, ⟨0, 1, .rwl, 0⟩]⟩ /- INTG -/
]

/-- Registers of TGT. -/
def tgtSpecs : List RegSpec := tgtSpecs1

/-- Registers of ARC, part 1. -/
def arcSpecs1 : List RegSpec := [
  ⟨0x0, [], some 0x0, [⟨31, 1, .w1s, 0⟩, ⟨2, 29, .ro, 0⟩, ⟨1, 1, .rwl, 0⟩, ⟨0, 1, .rw, 0⟩]⟩ /- CTL -/,
  ⟨0x4, [], none, [⟨16, 16, .ro, 0⟩, ⟨0, 16, .ro, 0⟩]⟩ /- VER -/,
  ⟨0x8, [], some 0x0, [⟨8, 24, .ro, 0⟩, ⟨0, 8, .rwl, 0x40⟩]⟩ /- CTXCFG -/,
  ⟨0xC, [], none, [⟨23, 9, .ro, 0⟩, ⟨15, 8, .ro, 0⟩, ⟨0, 15, .ro, 0⟩]⟩ /- STAT -/,
  ⟨0x10, [], none, [⟨16, 16, .rc, 0⟩, ⟨0, 16, .rc, 0⟩]⟩ /- CNT0 -/,
  ⟨0x14, [], none, [⟨16, 16, .rc, 0⟩, ⟨0, 16, .rc, 0⟩]⟩ /- CNT1 -/,
  ⟨0x100, [(0x4, 128)], some 0x0, [⟨16, 16, .ro, 0⟩, ⟨8, 8, .ro, 0⟩, ⟨0, 8, .rwl, 4⟩]⟩ /- TENQ -/
]

/-- Registers of ARC. -/
def arcSpecs : List RegSpec := arcSpecs1

/-- Registers of AVn, part 1. -/
def avSpecs1 : List RegSpec := [
  ⟨0x800, [], some 0x800, [⟨31, 1, .w1s, 0⟩, ⟨5, 26, .ro, 0⟩, ⟨4, 1, .ro, 0⟩, ⟨3, 1, .wo, 0⟩, ⟨0, 3, .rwl, 0⟩]⟩ /- FMTCTL -/,
  ⟨0x804, [], some 0x800, [⟨23, 9, .ro, 0⟩, ⟨0, 23, .rwl, 0⟩]⟩ /- FMTCYL -/,
  ⟨0x808, [], none, [⟨31, 1, .ro, 0⟩, ⟨11, 20, .ro, 0⟩, ⟨8, 3, .ro, 0⟩, ⟨5, 3, .ro, 0⟩, ⟨0, 5, .ro, 0⟩]⟩ /- FMTSTAT -/,
  ⟨0x80C, [], none, [⟨16, 16, .rc, 0⟩, ⟨0, 16, .rc, 0⟩]⟩ /- MARKSTAT -/,
  ⟨0x900, [(0x10, 32)], some 0x800, [⟨23, 9, .ro, 0⟩, ⟨19, 4, .rwl, 0⟩, ⟨0, 19, .rwl, 0⟩]⟩ /- ZONECFG -/,
  ⟨0x904, [(0x10, 32)], some 0x800, [⟨30, 2, .ro, 0⟩, ⟨20, 10, .rwl, 0⟩, ⟨10, 10, .rwl, 0⟩, ⟨0, 10, .rwl, 0⟩]⟩ /- ZONEWDG -/,
  ⟨0x908, [(0x10, 32)], some 0x800, [⟨13, 19, .ro, 0⟩, ⟨12, 1, .rwl, 1⟩, ⟨8, 4, .rwl, 3⟩, ⟨7, 1, .ro, 0⟩, ⟨0, 7, .rwl, 0x10⟩]⟩ /- ZONEMRK -/,
  ⟨0x90C, [(0x10, 32)], some 0x800, [⟨22, 10, .ro, 0⟩, ⟨0, 22, .rwl, 0⟩]⟩ /- ZONEBND -/,
  ⟨0xB00, [(0x8, 32)], none, [⟨31, 1, .ro, 0⟩, ⟨26, 5, .ro, 0⟩, ⟨19, 7, .ro, 0⟩, ⟨12, 7, .ro, 0⟩, ⟨0, 12, .ro, 0⟩]⟩ /- ZONESTAT -/,
  ⟨0xB04, [(0x8, 32)], none, [⟨28, 4, .ro, 0⟩, ⟨16, 12, .ro, 0⟩, ⟨0, 16, .ro, 0⟩]⟩ /- ZONEUSE -/,
  ⟨0xC00, [], some 0xC00, [⟨31, 1, .w1s, 0⟩, ⟨28, 3, .ro, 0⟩, ⟨24, 4, .rwl, 3⟩, ⟨20, 4, .rwl, 1⟩, ⟨16, 4, .rwl, 6⟩, ⟨12, 4, .rwl, 3⟩, ⟨8, 4, .rwl, 0xA⟩, ⟨2, 6, .ro, 0⟩, ⟨1, 1, .wo, 0⟩, ⟨0, 1, .rw, 0⟩]⟩ /- TLCTL -/,
  ⟨0xC04, [], some 0xC00, [⟨24, 8, .rwl, 0x60⟩, ⟨20, 4, .rwl, 4⟩, ⟨16, 4, .rwl, 8⟩, ⟨8, 8, .rwl, 0x10⟩, ⟨4, 4, .rwl, 4⟩, ⟨0, 4, .ro, 0⟩]⟩ /- TLTHR -/,
  ⟨0xC08, [], some 0xC00, [⟨16, 16, .ro, 0⟩, ⟨0, 16, .rwl, 0x1F4⟩]⟩ /- TLFTOL -/,
  ⟨0xC0C, [], none, [⟨29, 3, .ro, 0⟩, ⟨28, 1, .ro, 0⟩, ⟨24, 4, .ro, 0⟩, ⟨16, 8, .ro, 0⟩, ⟨0, 16, .ro, 0⟩]⟩ /- TLSTAT -/,
  ⟨0xC10, [], none, [⟨16, 16, .ro, 0⟩, ⟨8, 8, .ro, 0⟩, ⟨4, 4, .ro, 0⟩, ⟨0, 4, .ro, 0⟩]⟩ /- TLFREQ -/,
  ⟨0xC14, [], none, [⟨16, 16, .rc, 0⟩, ⟨8, 8, .rc, 0⟩, ⟨0, 8, .rc, 0⟩]⟩ /- TLCNT -/,
  ⟨0xC20, [(0x4, 2)], some 0xC00, [⟨17, 15, .ro, 0⟩, ⟨16, 1, .rwl, 1⟩, ⟨14, 2, .ro, 0⟩, ⟨8, 6, .rwl, 0x28⟩, ⟨0, 8, .rw, 0⟩]⟩ /- AFEGAIN -/,
  ⟨0xC28, [(0x4, 2)], none, [⟨11, 21, .ro, 0⟩, ⟨6, 5, .rw, 0⟩, ⟨0, 6, .rw, 0⟩]⟩ /- AFECTF -/,
  ⟨0xC30, [], some 0xC00, [⟨16, 16, .ro, 0⟩, ⟨8, 8, .rwl, 0x10⟩, ⟨2, 6, .ro, 0⟩, ⟨1, 1, .rwl, 0⟩, ⟨0, 1, .rw, 0⟩]⟩ /- AFECAL -/,
  ⟨0xC34, [], some 0xC00, [⟨16, 16, .ro, 0⟩, ⟨8, 8, .rwl, 0x80⟩, ⟨4, 4, .rwl, 4⟩, ⟨2, 2, .ro, 0⟩, ⟨1, 1, .rwl, 1⟩, ⟨0, 1, .rwl, 1⟩]⟩ /- SKCTL -/
]

/-- Registers of AVn, part 2. -/
def avSpecs2 : List RegSpec := [
  ⟨0xC38, [], none, [⟨16, 16, .rc, 0⟩, ⟨0, 16, .rc, 0⟩]⟩ /- TAGCNT -/,
  ⟨0x1000, [(0x100, 5), (0x80, 2), (0x4, 32)], none, [⟨24, 8, .ro, 0⟩, ⟨0, 24, .rw, 0⟩]⟩ /- SKEW -/,
  ⟨0x1800, [], some 0x1810, [⟨16, 16, .ro, 0⟩, ⟨12, 4, .rwl, 0xA⟩, ⟨11, 1, .rwl, 1⟩, ⟨10, 1, .rwl, 1⟩, ⟨8, 2, .rwl, 2⟩, ⟨0, 8, .ro, 0⟩]⟩ /- DETCTL -/,
  ⟨0x1804, [], some 0x1810, [⟨8, 24, .ro, 0⟩, ⟨4, 4, .rwl, 4⟩, ⟨0, 4, .rwl, 8⟩]⟩ /- DECCTL -/,
  ⟨0x1808, [], none, [⟨31, 1, .ro, 0⟩, ⟨28, 3, .ro, 0⟩, ⟨17, 11, .ro, 0⟩, ⟨16, 1, .wo, 0⟩, ⟨0, 16, .ro, 0⟩]⟩ /- CODECTL -/,
  ⟨0x180C, [], none, [⟨22, 10, .ro, 0⟩, ⟨16, 6, .ro, 0⟩, ⟨0, 16, .rc, 0⟩]⟩ /- STORESTAT -/,
  ⟨0x1810, [], some 0x1810, [⟨31, 1, .w1s, 0⟩, ⟨15, 16, .ro, 0⟩, ⟨12, 3, .rwl, 5⟩, ⟨11, 1, .ro, 0⟩, ⟨8, 3, .rwl, 2⟩, ⟨7, 1, .ro, 0⟩, ⟨4, 3, .rwl, 6⟩, ⟨3, 1, .ro, 0⟩, ⟨0, 3, .rwl, 1⟩]⟩ /- LADCTL -/,
  ⟨0x1814, [], some 0x1810, [⟨29, 3, .ro, 0⟩, ⟨24, 5, .rwl, 0x10⟩, ⟨20, 4, .rwl, 5⟩, ⟨16, 4, .rwl, 6⟩, ⟨12, 4, .rwl, 2⟩, ⟨8, 4, .rwl, 4⟩, ⟨4, 4, .rwl, 4⟩, ⟨0, 4, .ro, 0⟩]⟩ /- LADLIM -/,
  ⟨0x1818, [], some 0x1810, [⟨24, 8, .rwl, 0xF0⟩, ⟨16, 8, .rwl, 0x10⟩, ⟨8, 8, .rwl, 0xF8⟩, ⟨0, 8, .rwl, 8⟩]⟩ /- L5OFS0 -/,
  ⟨0x181C, [], some 0x1810, [⟨16, 16, .ro, 0⟩, ⟨8, 8, .rwl, 0xE8⟩, ⟨0, 8, .rwl, 0x18⟩]⟩ /- L5OFS1 -/,
  ⟨0x1820, [(0x4, 4)], some 0x1810, [⟨24, 8, .rwl, 0⟩, ⟨18, 6, .rwl, 0⟩, ⟨13, 5, .rwl, 0⟩, ⟨10, 3, .rwl, 0⟩, ⟨9, 1, .rwl, 0⟩, ⟨8, 1, .rwl, 0⟩, ⟨0, 8, .ro, 0⟩]⟩ /- L2SET -/,
  ⟨0x1830, [], some 0x1810, [⟨5, 27, .ro, 0⟩, ⟨0, 5, .rwl, 0x10⟩]⟩ /- L3WT -/,
  ⟨0x1834, [], some 0x1810, [⟨5, 27, .ro, 0⟩, ⟨0, 5, .rwl, 0⟩]⟩ /- L3WT -/,
  ⟨0x1838, [], some 0x1810, [⟨5, 27, .ro, 0⟩, ⟨0, 5, .rwl, 0xC⟩]⟩ /- L3WT -/,
  ⟨0x183C, [], some 0x1810, [⟨5, 27, .ro, 0⟩, ⟨0, 5, .rwl, 4⟩]⟩ /- L3WT -/,
  ⟨0x1840, [], none, [⟨16, 16, .rc, 0⟩, ⟨0, 16, .rc, 0⟩]⟩ /- LADCNT0 -/,
  ⟨0x1844, [], none, [⟨16, 16, .rc, 0⟩, ⟨8, 8, .rc, 0⟩, ⟨0, 8, .rc, 0⟩]⟩ /- LADCNT1 -/,
  ⟨0x1848, [], none, [⟨16, 16, .rc, 0⟩, ⟨0, 16, .rc, 0⟩]⟩ /- DECCNT -/,
  ⟨0x1780, [], some 0x1780, [⟨31, 1, .w1s, 0⟩, ⟨24, 7, .ro, 0⟩, ⟨20, 4, .rwl, 2⟩, ⟨18, 2, .rw, 0⟩, ⟨17, 1, .rwl, 1⟩, ⟨16, 1, .rwl, 1⟩, ⟨8, 8, .rwl, 0xA⟩, ⟨6, 2, .ro, 0⟩, ⟨0, 6, .rwl, 0x23⟩]⟩ /- WRCTL -/,
  ⟨0x1784, [], some 0x1780, [⟨16, 16, .ro, 0⟩, ⟨8, 8, .rwl, 0x32⟩, ⟨3, 5, .ro, 0⟩, ⟨2, 1, .rw, 0⟩, ⟨1, 1, .rwl, 1⟩, ⟨0, 1, .rwl, 1⟩]⟩ /- WINHCTL -/
]

/-- Registers of AVn, part 3. -/
def avSpecs3 : List RegSpec := [
  ⟨0x1788, [], none, [⟨31, 1, .w1c, 0⟩, ⟨27, 4, .ro, 0⟩, ⟨24, 3, .ro, 0⟩, ⟨16, 8, .ro, 0⟩, ⟨15, 1, .ro, 0⟩, ⟨12, 3, .ro, 0⟩, ⟨0, 12, .ro, 0⟩]⟩ /- WFSTAT -/,
  ⟨0x178C, [], none, [⟨16, 16, .rc, 0⟩, ⟨0, 16, .rc, 0⟩]⟩ /- WFCNT -/,
  ⟨0x1790, [], none, [⟨31, 1, .wo, 0⟩, ⟨24, 7, .ro, 0⟩, ⟨23, 1, .rw, 0⟩, ⟨16, 7, .rw, 0⟩, ⟨0, 16, .rw, 0⟩]⟩ /- KZCMD -/,
  ⟨0x1794, [], none, [⟨31, 1, .ro, 0⟩, ⟨18, 13, .ro, 0⟩, ⟨16, 2, .ro, 0⟩, ⟨0, 16, .ro, 0⟩]⟩ /- KZSTAT -/,
  ⟨0x1798, [], some 0x1780, [⟨24, 8, .ro, 0⟩, ⟨20, 4, .rwl, 0⟩, ⟨0, 20, .rwl, 0⟩]⟩ /- HMAP -/,
  ⟨0x17A0, [(0x4, 4)], none, [⟨0, 32, .rw, 0⟩]⟩ /- PAID -/,
  ⟨0x17B0, [], none, [⟨4, 28, .ro, 0⟩, ⟨3, 1, .rw, 0⟩, ⟨0, 3, .rw, 0⟩]⟩ /- PASTAT -/,
  ⟨0x40000, [(0x80, 5), (0x4, 32)], none, [⟨24, 8, .ro, 0⟩, ⟨0, 24, .rw, 0⟩]⟩ /- WSKEW -/,
  ⟨0x41000, [(0x100, 5), (0x8, 32)], some 0x1780, [⟨24, 8, .rwl, 0⟩, ⟨16, 8, .rwl, 0⟩, ⟨8, 8, .rwl, 0⟩, ⟨0, 8, .rwl, 0⟩]⟩ /- WAT0 -/,
  ⟨0x41004, [(0x100, 5), (0x8, 32)], some 0x1780, [⟨22, 10, .ro, 0⟩, ⟨16, 6, .rwl, 0⟩, ⟨14, 2, .ro, 0⟩, ⟨8, 6, .rwl, 0⟩, ⟨0, 8, .rwl, 0⟩]⟩ /- WAT1 -/,
  ⟨0x400, [], some 0x400, [⟨31, 1, .w1s, 0⟩, ⟨16, 15, .ro, 0⟩, ⟨8, 8, .rwl, 0x64⟩, ⟨2, 6, .ro, 0⟩, ⟨1, 1, .rw, 0⟩, ⟨0, 1, .rw, 0⟩]⟩ /- SEQCTL -/,
  ⟨0x404, [], none, [⟨29, 3, .ro, 0⟩, ⟨24, 5, .ro, 0⟩, ⟨12, 12, .ro, 0⟩, ⟨6, 6, .ro, 0⟩, ⟨3, 3, .ro, 0⟩, ⟨0, 3, .ro, 0⟩]⟩ /- SEQSTAT -/,
  ⟨0x408, [], none, [⟨31, 1, .w1c, 0⟩, ⟨28, 3, .ro, 0⟩, ⟨24, 4, .ro, 0⟩, ⟨12, 12, .ro, 0⟩, ⟨6, 6, .ro, 0⟩, ⟨0, 6, .ro, 0⟩]⟩ /- SEQFAULT -/,
  ⟨0x40C, [], none, [⟨28, 4, .ro, 0⟩, ⟨16, 12, .ro, 0⟩, ⟨14, 2, .ro, 0⟩, ⟨12, 2, .ro, 0⟩, ⟨0, 12, .ro, 0⟩]⟩ /- SEQTRAP -/,
  ⟨0x414, [(0x4, 3)], some 0x400, [⟨16, 16, .ro, 0⟩, ⟨0, 16, .rwl, 0⟩]⟩ /- SEQWLIM -/,
  ⟨0x420, [], none, [⟨16, 16, .ro, 0⟩, ⟨0, 16, .ro, 0⟩]⟩ /- SEQVER -/,
  ⟨0x424, [], none, [⟨16, 16, .rc, 0⟩, ⟨8, 8, .rc, 0⟩, ⟨0, 8, .rc, 0⟩]⟩ /- SEQCNT -/,
  ⟨0x428, [], none, [⟨31, 1, .ro, 0⟩, ⟨30, 1, .ro, 0⟩, ⟨27, 3, .ro, 0⟩, ⟨12, 15, .ro, 0⟩, ⟨0, 12, .ro, 0⟩]⟩ /- SEQLDST -/,
  ⟨0x500, [(0x4, 64)], none, [⟨31, 1, .ro, 0⟩, ⟨12, 19, .ro, 0⟩, ⟨0, 12, .ro, 0⟩]⟩ /- SEQEXP -/,
  ⟨0x600, [(0x4, 64)], none, [⟨31, 1, .ro, 0⟩, ⟨12, 19, .ro, 0⟩, ⟨0, 12, .ro, 0⟩]⟩ /- OMENTRY -/
]

/-- Registers of AVn, part 4. -/
def avSpecs4 : List RegSpec := [
  ⟨0x42000, [(0x100, 5), (0x8, 32), (0x4, 2)], some 0x400, [⟨19, 13, .ro, 0⟩, ⟨14, 5, .rwl, 0⟩, ⟨8, 6, .rwl, 0⟩, ⟨0, 8, .rwl, 0⟩]⟩ /- AFESET -/,
  ⟨0x20000, [(0x2000, 5), (0x100, 32), (4, 64)], none, [⟨0, 32, .rw, 0⟩]⟩ /- EQMEM -/,
  ⟨0x30000, [(4, 1538)], none, [⟨0, 32, .rw, 0⟩]⟩ /- CODEMEM -/,
  ⟨0x50000, [(4, 8192)], none, [⟨0, 32, .ro, 0⟩]⟩ /- UCODE -/,
  ⟨0x60000, [(4, 4096)], none, [⟨0, 32, .ro, 0⟩]⟩ /- NCODE -/,
  ⟨0x70000, [(0x40, 8), (4, 16)], none, [⟨0, 32, .ro, 0⟩]⟩ /- WINFILE -/,
  ⟨0x71000, [(0x40, 32), (4, 16)], none, [⟨0, 32, .ro, 0⟩]⟩ /- SPILL -/
]

/-- Registers of AVn. -/
def avSpecs : List RegSpec := avSpecs1 ++ avSpecs2 ++ avSpecs3 ++ avSpecs4

/-- Registers of AV0, part 1. -/
def avZeroSpecs1 : List RegSpec := [
  ⟨0x1E00, [], some 0x1E00, [⟨31, 1, .w1s, 0⟩, ⟨30, 1, .ro, 0⟩, ⟨27, 3, .ro, 0⟩, ⟨17, 10, .ro, 0⟩, ⟨16, 1, .wo, 0⟩, ⟨14, 2, .ro, 0⟩, ⟨8, 6, .rwl, 0x20⟩, ⟨2, 6, .ro, 0⟩, ⟨0, 2, .rwl, 3⟩]⟩ /- RDECCTL -/,
  ⟨0x1E04, [], none, [⟨24, 8, .ro, 0⟩, ⟨16, 8, .ro, 0⟩, ⟨2, 14, .ro, 0⟩, ⟨0, 2, .ro, 0⟩]⟩ /- RDECSTAT -/,
  ⟨0x32000, [(4, 1538)], none, [⟨0, 32, .rw, 0⟩]⟩ /- RDCODEMEM -/
]

/-- Registers of AV0. -/
def avZeroSpecs : List RegSpec := avZeroSpecs1

/-- Registers of SVOn, part 1. -/
def svoSpecs1 : List RegSpec := [
  ⟨0x0, [], some 0x0, [⟨31, 1, .w1s, 0⟩, ⟨12, 19, .ro, 0⟩, ⟨11, 1, .rwl, 0⟩, ⟨10, 1, .rwl, 1⟩, ⟨8, 2, .ro, 0⟩, ⟨4, 4, .rwl, 4⟩, ⟨1, 3, .ro, 0⟩, ⟨0, 1, .rw, 0⟩]⟩ /- CTL -/,
  ⟨0x4, [], none, [⟨2, 30, .ro, 0⟩, ⟨1, 1, .wo, 0⟩, ⟨0, 1, .wo, 0⟩]⟩ /- REQ -/,
  ⟨0x8, [], none, [⟨28, 4, .ro, 0⟩, ⟨27, 1, .ro, 0⟩, ⟨26, 1, .ro, 1⟩, ⟨25, 1, .ro, 0⟩, ⟨24, 1, .ro, 0⟩, ⟨22, 2, .ro, 0⟩, ⟨0, 22, .ro, 0⟩]⟩ /- STAT -/,
  ⟨0xC, [], none, [⟨0, 32, .ro, 0⟩]⟩ /- POS -/,
  ⟨0x10, [], none, [⟨16, 16, .ro, 0⟩, ⟨0, 16, .ro, 0⟩]⟩ /- PES -/,
  ⟨0x14, [], some 0x0, [⟨24, 8, .rwl, 0x28⟩, ⟨16, 8, .rwl, 0x14⟩, ⟨12, 4, .rwl, 2⟩, ⟨8, 4, .rwl, 8⟩, ⟨0, 8, .rwl, 0xC⟩]⟩ /- THR -/,
  ⟨0x18, [], some 0x0, [⟨16, 16, .rwl, 0⟩, ⟨8, 8, .rwl, 0x14⟩, ⟨0, 8, .rwl, 0x20⟩]⟩ /- SEEKCFG -/,
  ⟨0x1C, [], none, [⟨18, 14, .ro, 0⟩, ⟨4, 14, .ro, 0⟩, ⟨3, 1, .ro, 0⟩, ⟨0, 3, .ro, 0⟩]⟩ /- PLAN -/,
  ⟨0x20, [(0x10, 2)], some 0x0, [⟨16, 16, .rwl, 0⟩, ⟨0, 16, .rwl, 0⟩]⟩ /- PROF_W0 -/,
  ⟨0x24, [(0x10, 2)], some 0x0, [⟨16, 16, .rwl, 0⟩, ⟨0, 16, .rwl, 0⟩]⟩ /- PROF_W1 -/,
  ⟨0x28, [(0x10, 2)], some 0x0, [⟨16, 16, .rwl, 0⟩, ⟨0, 16, .rwl, 0⟩]⟩ /- PROF_W2 -/,
  ⟨0x40, [], some 0x0, [⟨16, 16, .rwl, 0x258⟩, ⟨8, 8, .rwl, 0x32⟩, ⟨0, 8, .rwl, 0⟩]⟩ /- IDLE -/,
  ⟨0x44, [], some 0x0, [⟨20, 12, .rwl, 0⟩, ⟨8, 12, .rwl, 0⟩, ⟨0, 8, .rwl, 0x32⟩]⟩ /- UNLD -/,
  ⟨0x48, [], some 0x0, [⟨16, 16, .rwl, 0⟩, ⟨0, 16, .rwl, 0⟩]⟩ /- BEMF -/,
  ⟨0x4C, [], some 0x0, [⟨20, 12, .rwl, 0⟩, ⟨12, 8, .rwl, 0x14⟩, ⟨4, 8, .rwl, 0x14⟩, ⟨0, 4, .ro, 0⟩]⟩ /- LDCFG -/,
  ⟨0x50, [], some 0x0, [⟨16, 16, .ro, 0⟩, ⟨8, 8, .rwl, 0x32⟩, ⟨2, 6, .ro, 0⟩, ⟨1, 1, .rwl, 1⟩, ⟨0, 1, .rwl, 1⟩]⟩ /- SHK -/,
  ⟨0x54, [], some 0x0, [⟨16, 16, .ro, 0⟩, ⟨8, 8, .rwl, 0x40⟩, ⟨0, 8, .rwl, 4⟩]⟩ /- SAMWIN -/,
  ⟨0x58, [], some 0x0, [⟨13, 19, .ro, 0⟩, ⟨12, 1, .rwl, 1⟩, ⟨8, 4, .rwl, 3⟩, ⟨0, 8, .rwl, 0x40⟩]⟩ /- HOFSCTL -/,
  ⟨0x5C, [], some 0x0, [⟨4, 28, .ro, 0⟩, ⟨0, 4, .rwl, 0⟩]⟩ /- CPLCTL -/,
  ⟨0x60, [], none, [⟨20, 12, .ro, 0⟩, ⟨8, 12, .ro, 0⟩, ⟨4, 4, .ro, 0⟩, ⟨0, 4, .ro, 0⟩]⟩ /- DLSTAT -/
]

/-- Registers of SVOn, part 2. -/
def svoSpecs2 : List RegSpec := [
  ⟨0x64, [], none, [⟨16, 16, .rc, 0⟩, ⟨8, 8, .rc, 0⟩, ⟨0, 8, .rc, 0⟩]⟩ /- CNT0 -/,
  ⟨0x68, [], none, [⟨16, 16, .rc, 0⟩, ⟨8, 8, .rc, 0⟩, ⟨0, 8, .rc, 0⟩]⟩ /- CNT1 -/,
  ⟨0x70, [], none, [⟨0, 32, .ro, 0⟩]⟩ /- LATCHPOS -/,
  ⟨0x74, [], none, [⟨0, 32, .ro, 0⟩]⟩ /- LATCHT -/,
  ⟨0x78, [], none, [⟨31, 1, .w1c, 0⟩, ⟨30, 1, .ro, 0⟩, ⟨29, 1, .ro, 0⟩, ⟨28, 1, .ro, 0⟩, ⟨8, 20, .ro, 0⟩, ⟨0, 8, .ro, 0⟩]⟩ /- LATCHS -/,
  ⟨0x800, [(0x4, 32)], some 0x0, [⟨16, 16, .ro, 0⟩, ⟨8, 8, .rwl, 0⟩, ⟨0, 8, .rwl, 0⟩]⟩ /- TWZ -/,
  ⟨0xC00, [(0x4, 32)], some 0x0, [⟨16, 16, .rwl, 0⟩, ⟨0, 16, .rwl, 0⟩]⟩ /- LINN -/,
  ⟨0xC80, [(0x4, 32)], some 0x0, [⟨16, 16, .rwl, 0⟩, ⟨0, 16, .rwl, 0⟩]⟩ /- LINQ -/,
  ⟨0x1000, [(0x80, 5), (0x4, 32)], none, [⟨16, 16, .ro, 0⟩, ⟨0, 16, .rw, 0⟩]⟩ /- HOFS -/,
  ⟨0x3000, [(0x10, 4), (0x4, 4)], some 0x0, [⟨16, 16, .rwl, 0⟩, ⟨0, 16, .rwl, 0⟩]⟩ /- CPL -/,
  ⟨0x2000, [(0x100, 5), (4, 64)], some 0x0, [⟨0, 32, .rwl, 0⟩]⟩ /- TFSET -/
]

/-- Registers of SVOn. -/
def svoSpecs : List RegSpec := svoSpecs1 ++ svoSpecs2

/-- Registers of SPN, part 1. -/
def spnSpecs1 : List RegSpec := [
  ⟨0x0, [], none, [⟨31, 1, .w1s, 0⟩, ⟨2, 29, .ro, 0⟩, ⟨1, 1, .wo, 0⟩, ⟨0, 1, .rw, 0⟩]⟩ /- CTL -/,
  ⟨0x4, [], some 0x0, [⟨16, 16, .rwl, 0x258⟩, ⟨14, 2, .ro, 0⟩, ⟨0, 14, .rw, 0⟩]⟩ /- TARGET -/,
  ⟨0x8, [], none, [⟨28, 4, .ro, 0⟩, ⟨26, 2, .ro, 0⟩, ⟨25, 1, .ro, 0⟩, ⟨24, 1, .ro, 0⟩, ⟨23, 1, .ro, 0⟩, ⟨22, 1, .ro, 0⟩, ⟨20, 2, .ro, 0⟩, ⟨17, 3, .ro, 0⟩, ⟨14, 3, .ro, 0⟩, ⟨0, 14, .ro, 0⟩]⟩ /- STAT -/,
  ⟨0xC, [], none, [⟨31, 1, .ro, 0⟩, ⟨26, 5, .ro, 0⟩, ⟨24, 2, .ro, 0⟩, ⟨0, 24, .ro, 0⟩]⟩ /- SPEED -/,
  ⟨0x10, [], none, [⟨30, 2, .ro, 0⟩, ⟨29, 1, .ro, 0⟩, ⟨28, 1, .ro, 0⟩, ⟨14, 14, .ro, 0⟩, ⟨0, 14, .ro, 0⟩]⟩ /- CEIL -/,
  ⟨0x20, [], some 0x0, [⟨28, 4, .rwl, 0⟩, ⟨16, 12, .rwl, 0⟩, ⟨0, 16, .rwl, 0⟩]⟩ /- MOT0 -/,
  ⟨0x24, [], some 0x0, [⟨16, 16, .rwl, 0⟩, ⟨0, 16, .rwl, 0⟩]⟩ /- SCALE -/,
  ⟨0x28, [], some 0x0, [⟨28, 4, .rwl, 0xA⟩, ⟨26, 2, .rwl, 3⟩, ⟨24, 2, .rwl, 0⟩, ⟨16, 8, .rwl, 0⟩, ⟨8, 8, .rwl, 0⟩, ⟨0, 8, .rwl, 0x28⟩]⟩ /- OBS -/,
  ⟨0x2C, [], some 0x0, [⟨16, 16, .rwl, 0⟩, ⟨0, 16, .rwl, 0⟩]⟩ /- SPD -/,
  ⟨0x30, [], some 0x0, [⟨20, 12, .rwl, 0⟩, ⟨8, 12, .rwl, 0⟩, ⟨0, 8, .ro, 0⟩]⟩ /- TQ -/,
  ⟨0x34, [], some 0x0, [⟨20, 12, .rwl, 0⟩, ⟨8, 12, .rwl, 0⟩, ⟨0, 8, .rwl, 0⟩]⟩ /- CUR -/,
  ⟨0x38, [], some 0x0, [⟨24, 8, .rwl, 0x84⟩, ⟨16, 8, .rwl, 0x8C⟩, ⟨8, 8, .rwl, 0x64⟩, ⟨0, 8, .rwl, 0x5A⟩]⟩ /- VBUS -/,
  ⟨0x3C, [], some 0x0, [⟨24, 8, .rwl, 0xC8⟩, ⟨16, 8, .rwl, 0x1E⟩, ⟨4, 12, .rwl, 0x12C⟩, ⟨0, 4, .ro, 0⟩]⟩ /- STRT -/,
  ⟨0x40, [], some 0x0, [⟨20, 12, .rwl, 0x64⟩, ⟨8, 12, .rwl, 0x32⟩, ⟨0, 8, .rwl, 0x64⟩]⟩ /- STRT2 -/,
  ⟨0x44, [], some 0x0, [⟨20, 12, .rwl, 0x96⟩, ⟨12, 8, .rwl, 0x14⟩, ⟨4, 8, .rwl, 0x14⟩, ⟨0, 4, .rwl, 4⟩]⟩ /- STOP -/,
  ⟨0x48, [], some 0x0, [⟨18, 14, .rwl, 0x1194⟩, ⟨4, 14, .rwl, 0x4B0⟩, ⟨0, 4, .ro, 0⟩]⟩ /- FLY -/,
  ⟨0x4C, [], some 0x0, [⟨20, 12, .rwl, 0⟩, ⟨10, 10, .rwl, 0⟩, ⟨0, 10, .rwl, 0⟩]⟩ /- RET -/,
  ⟨0x50, [], some 0x0, [⟨24, 8, .rwl, 0x40⟩, ⟨16, 8, .rwl, 0x14⟩, ⟨8, 8, .rwl, 0x32⟩, ⟨4, 4, .rwl, 8⟩, ⟨0, 4, .rwl, 3⟩]⟩ /- PLAUS -/,
  ⟨0x54, [], none, [⟨24, 8, .rc, 0⟩, ⟨16, 8, .rc, 0⟩, ⟨8, 8, .rc, 0⟩, ⟨0, 8, .rc, 0⟩]⟩ /- CNT -/,
  ⟨0x60, [(0x4, 7)], none, [⟨31, 1, .ro, 0⟩, ⟨28, 3, .ro, 0⟩, ⟨26, 2, .ro, 0⟩, ⟨24, 2, .ro, 0⟩, ⟨16, 8, .ro, 0⟩, ⟨12, 4, .ro, 0⟩, ⟨0, 12, .ro, 0⟩]⟩ /- ADCLAST -/
]

/-- Registers of SPN. -/
def spnSpecs : List RegSpec := spnSpecs1

/-- Registers of FLT, part 1. -/
def fltSpecs1 : List RegSpec := [
  ⟨0x0, [], some 0x0, [⟨31, 1, .w1s, 0⟩, ⟨17, 14, .ro, 0⟩, ⟨16, 1, .rwl, 1⟩, ⟨8, 8, .rwl, 0x18⟩, ⟨0, 8, .ro, 0⟩]⟩ /- CTL -/,
  ⟨0x4, [], none, [⟨31, 1, .ro, 0⟩, ⟨27, 4, .ro, 0⟩, ⟨16, 11, .ro, 0⟩, ⟨0, 16, .rc, 0⟩]⟩ /- STAT -/,
  ⟨0x8, [], none, [⟨31, 1, .w1c, 0⟩, ⟨11, 20, .ro, 0⟩, ⟨0, 11, .ro, 0⟩]⟩ /- FNSTAT -/,
  ⟨0xC, [], none, [⟨31, 1, .w1c, 0⟩, ⟨28, 3, .ro, 0⟩, ⟨27, 1, .ro, 0⟩, ⟨11, 16, .ro, 0⟩, ⟨0, 11, .ro, 0⟩]⟩ /- CRREASON -/,
  ⟨0x10, [], none, [⟨31, 1, .wo, 0⟩, ⟨11, 20, .ro, 0⟩, ⟨0, 11, .rw, 0⟩]⟩ /- INJ -/,
  ⟨0x14, [], none, [⟨16, 16, .rc, 0⟩, ⟨8, 8, .rc, 0⟩, ⟨0, 8, .rc, 0⟩]⟩ /- CNT -/,
  ⟨0x18, [], none, [⟨31, 1, .wo, 0⟩, ⟨30, 1, .ro, 0⟩, ⟨5, 25, .ro, 0⟩, ⟨0, 5, .rw, 0⟩]⟩ /- BRST -/,
  ⟨0x100, [(0x4, 36)], none, [⟨0, 32, .w1c, 0⟩]⟩ /- PEND -/,
  ⟨0x200, [(0x4, 36)], none, [⟨0, 32, .wo, 0⟩]⟩ /- REARM -/,
  ⟨0x137C, [], some 0x0, [⟨31, 1, .rwl, 1⟩, ⟨30, 1, .rwl, 1⟩, ⟨29, 1, .rwl, 1⟩, ⟨26, 3, .rwl, 3⟩, ⟨23, 3, .rwl, 4⟩, ⟨20, 3, .rwl, 0⟩, ⟨16, 4, .rwl, 2⟩, ⟨12, 4, .rwl, 0xD⟩, ⟨10, 2, .ro, 0⟩, ⟨5, 5, .ro, 0⟩, ⟨0, 5, .rc, 0⟩]⟩ /- ROUTE -/,
  ⟨0x17F0, [], some 0x0, [⟨31, 1, .rwl, 1⟩, ⟨30, 1, .rwl, 0⟩, ⟨29, 1, .rwl, 1⟩, ⟨26, 3, .rwl, 3⟩, ⟨23, 3, .rwl, 1⟩, ⟨20, 3, .rwl, 0⟩, ⟨16, 4, .rwl, 3⟩, ⟨12, 4, .rwl, 8⟩, ⟨10, 2, .ro, 0⟩, ⟨5, 5, .ro, 0⟩, ⟨0, 5, .rc, 0⟩]⟩ /- ROUTE -/,
  ⟨0x1970, [], some 0x0, [⟨31, 1, .rwl, 1⟩, ⟨30, 1, .rwl, 0⟩, ⟨29, 1, .rwl, 1⟩, ⟨26, 3, .rwl, 3⟩, ⟨23, 3, .rwl, 1⟩, ⟨20, 3, .rwl, 0⟩, ⟨16, 4, .rwl, 3⟩, ⟨12, 4, .rwl, 8⟩, ⟨10, 2, .ro, 0⟩, ⟨5, 5, .ro, 0⟩, ⟨0, 5, .rc, 0⟩]⟩ /- ROUTE -/,
  ⟨0x1AF0, [], some 0x0, [⟨31, 1, .rwl, 1⟩, ⟨30, 1, .rwl, 0⟩, ⟨29, 1, .rwl, 1⟩, ⟨26, 3, .rwl, 3⟩, ⟨23, 3, .rwl, 1⟩, ⟨20, 3, .rwl, 0⟩, ⟨16, 4, .rwl, 3⟩, ⟨12, 4, .rwl, 8⟩, ⟨10, 2, .ro, 0⟩, ⟨5, 5, .ro, 0⟩, ⟨0, 5, .rc, 0⟩]⟩ /- ROUTE -/,
  ⟨0x1C70, [], some 0x0, [⟨31, 1, .rwl, 1⟩, ⟨30, 1, .rwl, 0⟩, ⟨29, 1, .rwl, 1⟩, ⟨26, 3, .rwl, 3⟩, ⟨23, 3, .rwl, 1⟩, ⟨20, 3, .rwl, 0⟩, ⟨16, 4, .rwl, 3⟩, ⟨12, 4, .rwl, 8⟩, ⟨10, 2, .ro, 0⟩, ⟨5, 5, .ro, 0⟩, ⟨0, 5, .rc, 0⟩]⟩ /- ROUTE -/,
  ⟨0x1EF0, [], some 0x0, [⟨31, 1, .rwl, 1⟩, ⟨30, 1, .rwl, 1⟩, ⟨29, 1, .rwl, 1⟩, ⟨26, 3, .rwl, 1⟩, ⟨23, 3, .rwl, 1⟩, ⟨20, 3, .rwl, 0⟩, ⟨16, 4, .rwl, 0⟩, ⟨12, 4, .rwl, 4⟩, ⟨10, 2, .ro, 0⟩, ⟨5, 5, .ro, 0⟩, ⟨0, 5, .rc, 0⟩]⟩ /- ROUTE -/,
  ⟨0x1FE0, [], some 0x0, [⟨31, 1, .rwl, 1⟩, ⟨30, 1, .rwl, 1⟩, ⟨29, 1, .rwl, 1⟩, ⟨26, 3, .rwl, 1⟩, ⟨23, 3, .rwl, 1⟩, ⟨20, 3, .rwl, 0⟩, ⟨16, 4, .rwl, 0⟩, ⟨12, 4, .rwl, 4⟩, ⟨10, 2, .ro, 0⟩, ⟨5, 5, .ro, 0⟩, ⟨0, 5, .rc, 0⟩]⟩ /- ROUTE -/,
  ⟨0x2128, [], some 0x0, [⟨31, 1, .rwl, 1⟩, ⟨30, 1, .rwl, 1⟩, ⟨29, 1, .rwl, 1⟩, ⟨26, 3, .rwl, 4⟩, ⟨23, 3, .rwl, 4⟩, ⟨20, 3, .rwl, 0⟩, ⟨16, 4, .rwl, 0⟩, ⟨12, 4, .rwl, 0⟩, ⟨10, 2, .ro, 0⟩, ⟨5, 5, .ro, 0⟩, ⟨0, 5, .rc, 0⟩]⟩ /- ROUTE -/,
  ⟨0x2184, [], some 0x0, [⟨31, 1, .rwl, 1⟩, ⟨30, 1, .rwl, 1⟩, ⟨29, 1, .rwl, 1⟩, ⟨26, 3, .rwl, 1⟩, ⟨23, 3, .rwl, 1⟩, ⟨20, 3, .rwl, 0⟩, ⟨16, 4, .rwl, 0⟩, ⟨12, 4, .rwl, 4⟩, ⟨10, 2, .ro, 0⟩, ⟨5, 5, .ro, 0⟩, ⟨0, 5, .rc, 0⟩]⟩ /- ROUTE -/,
  ⟨0x2188, [], some 0x0, [⟨31, 1, .rwl, 1⟩, ⟨30, 1, .rwl, 1⟩, ⟨29, 1, .rwl, 1⟩, ⟨26, 3, .rwl, 1⟩, ⟨23, 3, .rwl, 1⟩, ⟨20, 3, .rwl, 0⟩, ⟨16, 4, .rwl, 0⟩, ⟨12, 4, .rwl, 4⟩, ⟨10, 2, .ro, 0⟩, ⟨5, 5, .ro, 0⟩, ⟨0, 5, .rc, 0⟩]⟩ /- ROUTE -/,
  ⟨0x2190, [], some 0x0, [⟨31, 1, .rwl, 1⟩, ⟨30, 1, .rwl, 1⟩, ⟨29, 1, .rwl, 1⟩, ⟨26, 3, .rwl, 1⟩, ⟨23, 3, .rwl, 1⟩, ⟨20, 3, .rwl, 0⟩, ⟨16, 4, .rwl, 0⟩, ⟨12, 4, .rwl, 4⟩, ⟨10, 2, .ro, 0⟩, ⟨5, 5, .ro, 0⟩, ⟨0, 5, .rc, 0⟩]⟩ /- ROUTE -/
]

/-- Registers of FLT, part 2. -/
def fltSpecs2 : List RegSpec := [
  ⟨0x21F0, [], some 0x0, [⟨31, 1, .rwl, 1⟩, ⟨30, 1, .rwl, 1⟩, ⟨29, 1, .rwl, 1⟩, ⟨26, 3, .rwl, 4⟩, ⟨23, 3, .rwl, 4⟩, ⟨20, 3, .rwl, 0⟩, ⟨16, 4, .rwl, 0⟩, ⟨12, 4, .rwl, 0⟩, ⟨10, 2, .ro, 0⟩, ⟨5, 5, .ro, 0⟩, ⟨0, 5, .rc, 0⟩]⟩ /- ROUTE -/,
  ⟨0x21F4, [], some 0x0, [⟨31, 1, .rwl, 1⟩, ⟨30, 1, .rwl, 1⟩, ⟨29, 1, .rwl, 1⟩, ⟨26, 3, .rwl, 4⟩, ⟨23, 3, .rwl, 4⟩, ⟨20, 3, .rwl, 0⟩, ⟨16, 4, .rwl, 0⟩, ⟨12, 4, .rwl, 0⟩, ⟨10, 2, .ro, 0⟩, ⟨5, 5, .ro, 0⟩, ⟨0, 5, .rc, 0⟩]⟩ /- ROUTE -/,
  ⟨0x1000, [(0x4, 1152)], some 0x0, [⟨31, 1, .rwl, 1⟩, ⟨30, 1, .rwl, 0⟩, ⟨29, 1, .rwl, 1⟩, ⟨26, 3, .rwl, 1⟩, ⟨23, 3, .rwl, 1⟩, ⟨20, 3, .rwl, 0⟩, ⟨16, 4, .rwl, 0⟩, ⟨12, 4, .rwl, 4⟩, ⟨10, 2, .ro, 0⟩, ⟨5, 5, .ro, 0⟩, ⟨0, 5, .rc, 0⟩]⟩ /- ROUTE -/
]

/-- Registers of FLT. -/
def fltSpecs : List RegSpec := fltSpecs1 ++ fltSpecs2

/-- Registers of REC, part 1. -/
def recSpecs1 : List RegSpec := [
  ⟨0x0, [], some 0x0, [⟨31, 1, .w1s, 0⟩, ⟨30, 1, .rwl, 1⟩, ⟨29, 1, .wo, 0⟩, ⟨28, 1, .wo, 0⟩, ⟨16, 12, .ro, 0⟩, ⟨8, 8, .rwl, 0xA⟩, ⟨0, 8, .ro, 0⟩]⟩ /- CTL -/,
  ⟨0x4, [], none, [⟨31, 1, .ro, 0⟩, ⟨30, 1, .ro, 0⟩, ⟨22, 8, .ro, 0⟩, ⟨16, 6, .ro, 0⟩, ⟨0, 16, .rc, 0⟩]⟩ /- STAT -/,
  ⟨0x8, [], none, [⟨0, 32, .ro, 0⟩]⟩ /- HEAD -/,
  ⟨0xC, [], none, [⟨0, 32, .ro, 0⟩]⟩ /- TAIL -/,
  ⟨0x10, [], none, [⟨0, 32, .ro, 0⟩]⟩ /- MIRR -/,
  ⟨0x14, [], none, [⟨9, 23, .ro, 0⟩, ⟨0, 9, .ro, 0⟩]⟩ /- FSTAT -/,
  ⟨0x18, [], none, [⟨16, 16, .ro, 0⟩, ⟨0, 16, .rw, 0⟩]⟩ /- BOOT -/,
  ⟨0x20, [], none, [⟨0, 32, .rw, 0⟩]⟩ /- CURSOR -/,
  ⟨0x24, [], none, [⟨8, 24, .ro, 0⟩, ⟨0, 8, .rw, 0⟩]⟩ /- FCURSOR -/,
  ⟨0x28, [], none, [⟨31, 1, .ro, 0⟩, ⟨30, 1, .ro, 0⟩, ⟨0, 30, .ro, 0⟩]⟩ /- WSTAT -/,
  ⟨0x40, [(0x4, 24)], none, [⟨0, 32, .ro, 0⟩]⟩ /- WIN -/,
  ⟨0x80, [], some 0x0, [⟨31, 1, .rwl, 0⟩, ⟨29, 2, .rwl, 0⟩, ⟨24, 5, .rwl, 0xA⟩, ⟨16, 8, .rwl, 0xA⟩, ⟨0, 16, .rwl, 0⟩]⟩ /- TRCFG -/,
  ⟨0x84, [], some 0x0, [⟨12, 20, .rwl, 0⟩, ⟨0, 12, .ro, 0⟩]⟩ /- TRBASE_LO -/,
  ⟨0x88, [], some 0x0, [⟨2, 30, .ro, 0⟩, ⟨0, 2, .rwl, 0⟩]⟩ /- TRBASE_HI -/,
  ⟨0x8C, [], none, [⟨0, 32, .ro, 0⟩]⟩ /- TRHEAD -/,
  ⟨0x90, [], none, [⟨16, 16, .rc, 0⟩, ⟨0, 16, .ro, 0⟩]⟩ /- TRSTAT -/,
  ⟨0x1000, [(0x48, 64)], some 0x0, [⟨31, 1, .rwl, 0⟩, ⟨30, 1, .rwl, 0⟩, ⟨25, 5, .rwl, 0⟩, ⟨16, 9, .ro, 0⟩, ⟨8, 8, .rwl, 0⟩, ⟨0, 8, .ro, 0⟩]⟩ /- PROF_W0 -/,
  ⟨0x1004, [(0x48, 64)], some 0x0, [⟨27, 5, .ro, 0⟩, ⟨16, 11, .rwl, 0⟩, ⟨11, 5, .ro, 0⟩, ⟨0, 11, .rwl, 0⟩]⟩ /- PROF_W1 -/,
  ⟨0x1008, [(0x48, 64), (0x4, 16)], some 0x0, [⟨25, 7, .ro, 0⟩, ⟨0, 25, .rwl, 0⟩]⟩ /- PROF_W2 -/
]

/-- Registers of REC. -/
def recSpecs : List RegSpec := recSpecs1

/-- Registers of PWR, part 1. -/
def pwrSpecs1 : List RegSpec := [
  ⟨0x400, [], some 0x400, [⟨31, 1, .w1s, 0⟩, ⟨24, 7, .ro, 0⟩, ⟨16, 8, .rwl, 0x14⟩, ⟨8, 8, .rwl, 4⟩, ⟨4, 4, .ro, 0⟩, ⟨1, 3, .rwl, 4⟩, ⟨0, 1, .rw, 0⟩]⟩ /- AVSCTL -/,
  ⟨0x404, [], some 0x400, [⟨24, 8, .rwl, 0x40⟩, ⟨16, 8, .rwl, 0x1A⟩, ⟨8, 8, .rwl, 0xD⟩, ⟨0, 8, .rwl, 0⟩]⟩ /- AVSTHR -/,
  ⟨0x408, [], some 0x400, [⟨23, 9, .rwl, 0x15E⟩, ⟨14, 9, .rwl, 0x46⟩, ⟨10, 4, .rwl, 8⟩, ⟨5, 5, .rwl, 4⟩, ⟨0, 5, .rwl, 1⟩]⟩ /- AVSLIM -/,
  ⟨0x40C, [], none, [⟨31, 1, .ro, 0⟩, ⟨30, 1, .ro, 0⟩, ⟨29, 1, .ro, 0⟩, ⟨25, 4, .ro, 0⟩, ⟨9, 16, .ro, 0⟩, ⟨0, 9, .ro, 0xFA⟩]⟩ /- VREQ -/,
  ⟨0x440, [(0x4, 16)], none, [⟨16, 16, .ro, 0⟩, ⟨0, 16, .ro, 0⟩]⟩ /- PACE -/,
  ⟨0x480, [(0x4, 16)], some 0x400, [⟨31, 1, .rw, 0⟩, ⟨16, 15, .ro, 0⟩, ⟨0, 16, .rwl, 0⟩]⟩ /- PACEREQ -/,
  ⟨0x0, [], none, [⟨31, 1, .w1s, 0⟩, ⟨0, 31, .ro, 0⟩]⟩ /- CTL -/,
  ⟨0x4, [], none, [⟨29, 3, .ro, 0⟩, ⟨0, 29, .ro, 0⟩]⟩ /- STATE -/,
  ⟨0x8, [], some 0x0, [⟨28, 4, .ro, 1⟩, ⟨27, 1, .ro, 0⟩, ⟨24, 3, .ro, 0⟩, ⟨22, 2, .ro, 0⟩, ⟨20, 2, .ro, 0⟩, ⟨8, 12, .ro, 0⟩, ⟨0, 8, .rwl, 0x3C⟩]⟩ /- START -/,
  ⟨0xC, [], some 0x0, [⟨31, 1, .rwl, 0⟩, ⟨24, 7, .rwl, 0x3C⟩, ⟨16, 8, .rwl, 0x1E⟩, ⟨0, 16, .rwl, 0⟩]⟩ /- PMCFG -/,
  ⟨0x10, [], some 0x0, [⟨3, 29, .ro, 0⟩, ⟨2, 1, .rwl, 1⟩, ⟨1, 1, .rwl, 1⟩, ⟨0, 1, .rwl, 1⟩]⟩ /- PLCTL -/,
  ⟨0x14, [], some 0x0, [⟨24, 8, .rwl, 0xA2⟩, ⟨16, 8, .rwl, 0x6C⟩, ⟨8, 8, .rwl, 0xE1⟩, ⟨0, 8, .rwl, 0x14⟩]⟩ /- PLTHR -/,
  ⟨0x28, [], some 0x0, [⟨8, 24, .ro, 0⟩, ⟨0, 8, .rwl, 0x6A⟩]⟩ /- PLTHR2 -/,
  ⟨0x18, [], none, [⟨31, 1, .ro, 0⟩, ⟨26, 5, .ro, 0⟩, ⟨0, 26, .ro, 0⟩]⟩ /- PLSTAT -/,
  ⟨0x1C, [], none, [⟨31, 1, .ro, 0⟩, ⟨30, 1, .ro, 0⟩, ⟨29, 1, .ro, 0⟩, ⟨26, 3, .ro, 0⟩, ⟨0, 26, .ro, 0⟩]⟩ /- IMG -/,
  ⟨0x20, [], none, [⟨4, 28, .ro, 0⟩, ⟨0, 4, .ro, 0⟩]⟩ /- AVEN -/,
  ⟨0x24, [], some 0x0, [⟨24, 8, .rwl, 0x6E⟩, ⟨16, 8, .rwl, 0x64⟩, ⟨8, 8, .ro, 0⟩, ⟨0, 8, .ro, 0⟩]⟩ /- THERM -/,
  ⟨0x30, [], none, [⟨31, 1, .ro, 0⟩, ⟨0, 31, .ro, 0⟩]⟩ /- AON -/
]

/-- Registers of PWR. -/
def pwrSpecs : List RegSpec := pwrSpecs1

/-- Registers of CPU, part 1. -/
def cpuSpecs1 : List RegSpec := [
  ⟨0x0, [], none, [⟨31, 1, .w1s, 0⟩, ⟨0, 31, .ro, 0⟩]⟩ /- CTL -/,
  ⟨0x10, [(0x4, 6)], none, [⟨29, 3, .ro, 0⟩, ⟨16, 13, .ro, 0⟩, ⟨0, 16, .rc, 0⟩]⟩ /- CORESTAT -/,
  ⟨0x30, [(0x4, 6)], some 0x0, [⟨31, 1, .ro, 0⟩, ⟨13, 18, .ro, 0⟩, ⟨8, 5, .rwl, 0x10⟩, ⟨5, 3, .ro, 0⟩, ⟨0, 5, .rwl, 0x10⟩]⟩ /- L1CFG -/,
  ⟨0x50, [(0x4, 8)], some 0x0, [⟨16, 16, .ro, 0⟩, ⟨0, 16, .rwl, 0xFFFF⟩]⟩ /- L2PART -/,
  ⟨0x80, [(0x4, 16)], some 0x0, [⟨0, 3, .rwl, 2⟩, ⟨4, 3, .rwl, 2⟩, ⟨8, 3, .rwl, 2⟩, ⟨12, 3, .rwl, 2⟩, ⟨16, 3, .rwl, 2⟩, ⟨20, 3, .rwl, 2⟩, ⟨24, 3, .rwl, 2⟩, ⟨28, 3, .rwl, 2⟩, ⟨3, 1, .ro, 0⟩, ⟨7, 1, .ro, 0⟩, ⟨11, 1, .ro, 0⟩, ⟨15, 1, .ro, 0⟩, ⟨19, 1, .ro, 0⟩, ⟨23, 1, .ro, 0⟩, ⟨27, 1, .ro, 0⟩, ⟨31, 1, .ro, 0⟩]⟩ /- TENPART -/,
  ⟨0xC0, [(0x4, 13)], none, [⟨16, 16, .ro, 0⟩, ⟨0, 16, .rw, 0xACE1⟩]⟩ /- LFSR -/,
  ⟨0x100, [], none, [⟨16, 16, .rc, 0⟩, ⟨0, 16, .rc, 0⟩]⟩ /- ECCCNT -/,
  ⟨0x104, [], none, [⟨31, 1, .w1c, 0⟩, ⟨27, 4, .ro, 0⟩, ⟨26, 1, .ro, 0⟩, ⟨16, 10, .ro, 0⟩, ⟨4, 12, .ro, 0⟩, ⟨0, 4, .ro, 0⟩]⟩ /- ECCCAP -/,
  ⟨0x108, [], none, [⟨0, 32, .ro, 0⟩]⟩ /- ECCADDR_LO -/,
  ⟨0x10C, [], none, [⟨0, 8, .ro, 0⟩]⟩ /- ECCADDR_HI -/
]

/-- Registers of CPU. -/
def cpuSpecs : List RegSpec := cpuSpecs1

/-- Registers of PIN, part 1. -/
def pinSpecs1 : List RegSpec := [
  ⟨0x0, [], none, [⟨31, 1, .w1s, 0⟩, ⟨0, 31, .ro, 0⟩]⟩ /- CTL -/,
  ⟨0x4, [], none, [⟨4, 28, .ro, 0⟩, ⟨3, 1, .ro, 0⟩, ⟨1, 2, .ro, 0⟩, ⟨0, 1, .ro, 0⟩]⟩ /- STRAP -/,
  ⟨0x10, [(0x4, 8)], some 0x0, [⟨6, 26, .ro, 0⟩, ⟨4, 2, .rwl, 1⟩, ⟨3, 1, .rwl, 0⟩, ⟨2, 1, .rwl, 0⟩, ⟨1, 1, .rw, 0⟩, ⟨0, 1, .rw, 0⟩]⟩ /- GPIOCFG -/,
  ⟨0x30, [], none, [⟨8, 24, .ro, 0⟩, ⟨0, 8, .ro, 0⟩]⟩ /- GPIOIN -/,
  ⟨0x34, [], some 0x0, [⟨6, 26, .ro, 0⟩, ⟨4, 2, .rwl, 1⟩, ⟨2, 2, .rwl, 1⟩, ⟨0, 2, .rwl, 2⟩]⟩ /- DRV -/,
  ⟨0x38, [], none, [⟨0, 32, .ro, 0x964054F⟩]⟩ /- IDCODE -/
]

/-- Registers of PIN. -/
def pinSpecs : List RegSpec := pinSpecs1

/-- The registers of the block in which a device address lies, with that block's base (Table 0-4); `none` in the
unmapped ranges. -/
def blockAt (a : Nat) : Option (Nat × List RegSpec) :=
  if a < 0x100000 then some (0, sysSpecs)
  else if a < 0x200000 then some (0x100000, timSpecs)
  else if a < 0x300000 then some (0x200000, hstSpecs)
  else if a < 0x400000 then some (0x300000, rbtSpecs)
  else if a < 0x500000 then some (0x400000, sqrSpecs)
  else if a < 0x600000 then some (0x500000, dmaSpecs)
  else if a < 0x700000 then some (0x600000, flsSpecs)
  else if a < 0x800000 then some (0x700000, tgtSpecs)
  else if a < 0x900000 then some (0x800000, arcSpecs)
  else if a < 0x1000000 then none
  else if a < 0x1100000 then some (0x1000000, avSpecs ++ avZeroSpecs)
  else if a < 0x1400000 then some (avBase ((a - 0x1000000) / 0x100000), avSpecs)
  else if a < 0x1500000 then some (svBase ((a - 0x1400000) / 0x40000), svoSpecs)
  else if a < 0x1600000 then some (0x1500000, spnSpecs)
  else if a < 0x1700000 then some (0x1600000, fltSpecs)
  else if a < 0x1800000 then some (0x1700000, recSpecs)
  else if a < 0x1900000 then some (0x1800000, pwrSpecs)
  else if a < 0x1A00000 then some (0x1900000, cpuSpecs)
  else if a < 0x1B00000 then some (0x1A00000, pinSpecs)
  else none

/-- Does the offset `d` from a register array's first word name a word of the array with these strides and counts? -/
def inDims (d : Nat) : List (Nat × Nat) → Bool
  | [] => d == 0
  | (st, c) :: ds => decide (d / st < c) && inDims (d % st) ds

/-- Does the block offset `o` name a word of this register or array? -/
def RegSpec.covers (r : RegSpec) (o : Nat) : Bool := decide (r.off ≤ o) && inDims (o - r.off) r.dims

/-- The register at a device byte address, with its block's base; `none` at an unmapped address. -/
def regAt (a : Nat) : Option (Nat × RegSpec) :=
  match blockAt a with
  | none => none
  | some (b, rs) => (rs.find? (fun r => r.covers (a - b))).map (fun r => (b, r))

/-- The word whose fields hold their reset values. -/
def resetOf (fs : List FieldSpec) : Nat := fs.foldl (fun w f => w + (f.reset % 2 ^ f.wid) * 2 ^ f.lo) 0

/-- The reset word of the register at a device byte address; 0 at an unmapped address (R27). -/
def resetWord (a : Nat) : Word :=
  match regAt a with
  | none => 0
  | some (_, r) => BitVec.ofNat 32 (resetOf r.fields)

/-- SYS_ID, 00_scope.md, Table 0-7. -/
def SYS_ID : Nat := 0x0 + 0x0
def SYS_ID_PART : Fld := ⟨SYS_ID, 16, 16⟩
def SYS_ID_MAJOR : Fld := ⟨SYS_ID, 8, 8⟩
def SYS_ID_MINOR : Fld := ⟨SYS_ID, 0, 8⟩
/-- SYS_BADACC, 00_scope.md, Table 0-8. -/
def SYS_BADACC : Nat := 0x0 + 0x10
def SYS_BADACC_VALID : Fld := ⟨SYS_BADACC, 31, 1⟩
def SYS_BADACC_BAROFS : Fld := ⟨SYS_BADACC, 30, 1⟩
def SYS_BADACC_CAUSE : Fld := ⟨SYS_BADACC, 26, 3⟩
def SYS_BADACC_WRITE : Fld := ⟨SYS_BADACC, 25, 1⟩
def SYS_BADACC_ADDR : Fld := ⟨SYS_BADACC, 0, 25⟩
/-- SYS_BADCNT, 00_scope.md, Table 0-9. -/
def SYS_BADCNT : Nat := 0x0 + 0x14
def SYS_BADCNT_COUNT : Fld := ⟨SYS_BADCNT, 0, 16⟩
/-- PWR_AVSCTL, 01_self_timed_fabric.md, Table 1-7. -/
def PWR_AVSCTL : Nat := 0x1800000 + 0x400
def PWR_AVSCTL_LOCK : Fld := ⟨PWR_AVSCTL, 31, 1⟩
def PWR_AVSCTL_HOLDMAX : Fld := ⟨PWR_AVSCTL, 16, 8⟩
def PWR_AVSCTL_PGFILT : Fld := ⟨PWR_AVSCTL, 8, 8⟩
def PWR_AVSCTL_PERIOD : Fld := ⟨PWR_AVSCTL, 1, 3⟩
def PWR_AVSCTL_EN : Fld := ⟨PWR_AVSCTL, 0, 1⟩
/-- PWR_AVSTHR, 01_self_timed_fabric.md, Table 1-8. -/
def PWR_AVSTHR : Nat := 0x1800000 + 0x404
def PWR_AVSTHR_HIGH : Fld := ⟨PWR_AVSTHR, 24, 8⟩
def PWR_AVSTHR_LOW : Fld := ⟨PWR_AVSTHR, 16, 8⟩
def PWR_AVSTHR_WARN : Fld := ⟨PWR_AVSTHR, 8, 8⟩
def PWR_AVSTHR_CRIT : Fld := ⟨PWR_AVSTHR, 0, 8⟩
/-- PWR_AVSLIM, 01_self_timed_fabric.md, Table 1-9. -/
def PWR_AVSLIM : Nat := 0x1800000 + 0x408
def PWR_AVSLIM_MAXCODE : Fld := ⟨PWR_AVSLIM, 23, 9⟩
def PWR_AVSLIM_MINCODE : Fld := ⟨PWR_AVSLIM, 14, 9⟩
def PWR_AVSLIM_FAST : Fld := ⟨PWR_AVSLIM, 10, 4⟩
def PWR_AVSLIM_UP : Fld := ⟨PWR_AVSLIM, 5, 5⟩
def PWR_AVSLIM_DOWN : Fld := ⟨PWR_AVSLIM, 0, 5⟩
/-- PWR_VREQ, 01_self_timed_fabric.md, Table 1-10. -/
def PWR_VREQ : Nat := 0x1800000 + 0x40C
def PWR_VREQ_PGOOD : Fld := ⟨PWR_VREQ, 31, 1⟩
def PWR_VREQ_BADTHR : Fld := ⟨PWR_VREQ, 30, 1⟩
def PWR_VREQ_HOLD : Fld := ⟨PWR_VREQ, 29, 1⟩
def PWR_VREQ_WORST : Fld := ⟨PWR_VREQ, 25, 4⟩
def PWR_VREQ_CODE : Fld := ⟨PWR_VREQ, 0, 9⟩
/-- PWR_PACE, 01_self_timed_fabric.md, Table 1-11. -/
def PWR_PACE (m : Nat) : Nat := 0x1800000 + 0x440 + m * 0x4
def PWR_PACE_COUNT (m : Nat) : Fld := ⟨PWR_PACE m, 16, 16⟩
def PWR_PACE_MARGIN (m : Nat) : Fld := ⟨PWR_PACE m, 0, 16⟩
/-- PWR_PACEREQ, 01_self_timed_fabric.md, Table 1-12. -/
def PWR_PACEREQ (m : Nat) : Nat := 0x1800000 + 0x480 + m * 0x4
def PWR_PACEREQ_EN (m : Nat) : Fld := ⟨PWR_PACEREQ m, 31, 1⟩
def PWR_PACEREQ_REQ (m : Nat) : Fld := ⟨PWR_PACEREQ m, 0, 16⟩
/-- TIM_CTL, 01_self_timed_fabric.md, Table 1-13. -/
def TIM_CTL : Nat := 0x100000 + 0x0
def TIM_CTL_LOCK : Fld := ⟨TIM_CTL, 31, 1⟩
def TIM_CTL_LOADS : Fld := ⟨TIM_CTL, 8, 8⟩
def TIM_CTL_PLLOK : Fld := ⟨TIM_CTL, 1, 1⟩
def TIM_CTL_LOAD : Fld := ⟨TIM_CTL, 0, 1⟩
/-- TIM_NOW_LO, 01_self_timed_fabric.md, Table 1-14. -/
def TIM_NOW_LO : Nat := 0x100000 + 0x10
def TIM_NOW_LO_NOW : Fld := ⟨TIM_NOW_LO, 0, 32⟩
/-- TIM_NOW_HI, 01_self_timed_fabric.md, Table 1-14. -/
def TIM_NOW_HI : Nat := 0x100000 + 0x14
def TIM_NOW_HI_NOW : Fld := ⟨TIM_NOW_HI, 0, 32⟩
/-- TIM_LOAD_LO, 01_self_timed_fabric.md, Table 1-14. -/
def TIM_LOAD_LO : Nat := 0x100000 + 0x18
def TIM_LOAD_LO_VALUE : Fld := ⟨TIM_LOAD_LO, 0, 32⟩
/-- TIM_LOAD_HI, 01_self_timed_fabric.md, Table 1-14. -/
def TIM_LOAD_HI : Nat := 0x100000 + 0x1C
def TIM_LOAD_HI_VALUE : Fld := ⟨TIM_LOAD_HI, 0, 32⟩
/-- TIM_FENCE, 01_self_timed_fabric.md, Table 1-14. -/
def TIM_FENCE : Nat := 0x100000 + 0x20
def TIM_FENCE_DONE : Fld := ⟨TIM_FENCE, 0, 32⟩
/-- TIM_TDSTAT0, 01_self_timed_fabric.md, Table 1-14. -/
def TIM_TDSTAT0 : Nat := 0x100000 + 0x40
def TIM_TDSTAT0_PRESENT : Fld := ⟨TIM_TDSTAT0, 0, 32⟩
/-- TIM_TDSTAT1, 01_self_timed_fabric.md, Table 1-14. -/
def TIM_TDSTAT1 : Nat := 0x100000 + 0x44
def TIM_TDSTAT1_PRESENT : Fld := ⟨TIM_TDSTAT1, 0, 8⟩
/-- TIM_TDEXP0, 01_self_timed_fabric.md, Table 1-14. -/
def TIM_TDEXP0 : Nat := 0x100000 + 0x48
def TIM_TDEXP0_EXPECT : Fld := ⟨TIM_TDEXP0, 0, 32⟩
/-- TIM_TDEXP1, 01_self_timed_fabric.md, Table 1-14. -/
def TIM_TDEXP1 : Nat := 0x100000 + 0x4C
def TIM_TDEXP1_EXPECT : Fld := ⟨TIM_TDEXP1, 0, 8⟩
/-- AV_FMTCTL, 02_faces_zones_and_framing.md, Table 2-6. -/
def AV_FMTCTL (n : Nat) : Nat := avBase n + 0x800
def AV_FMTCTL_LOCK (n : Nat) : Fld := ⟨AV_FMTCTL n, 31, 1⟩
def AV_FMTCTL_OK (n : Nat) : Fld := ⟨AV_FMTCTL n, 4, 1⟩
def AV_FMTCTL_APPLY (n : Nat) : Fld := ⟨AV_FMTCTL n, 3, 1⟩
def AV_FMTCTL_NDATA (n : Nat) : Fld := ⟨AV_FMTCTL n, 0, 3⟩
/-- AV_FMTCYL, 02_faces_zones_and_framing.md, Table 2-7. -/
def AV_FMTCYL (n : Nat) : Nat := avBase n + 0x804
def AV_FMTCYL_NCYL (n : Nat) : Fld := ⟨AV_FMTCYL n, 0, 23⟩
/-- AV_FMTSTAT, 02_faces_zones_and_framing.md, Table 2-8. -/
def AV_FMTSTAT (n : Nat) : Nat := avBase n + 0x808
def AV_FMTSTAT_BUSY (n : Nat) : Fld := ⟨AV_FMTSTAT n, 31, 1⟩
def AV_FMTSTAT_CODE (n : Nat) : Fld := ⟨AV_FMTSTAT n, 8, 3⟩
def AV_FMTSTAT_ZONE (n : Nat) : Fld := ⟨AV_FMTSTAT n, 0, 5⟩
/-- AV_MARKSTAT, 02_faces_zones_and_framing.md, Table 2-9. -/
def AV_MARKSTAT (n : Nat) : Nat := avBase n + 0x80C
def AV_MARKSTAT_FLYWHEELS (n : Nat) : Fld := ⟨AV_MARKSTAT n, 16, 16⟩
def AV_MARKSTAT_MISSES (n : Nat) : Fld := ⟨AV_MARKSTAT n, 0, 16⟩
/-- AV_ZONECFG, 02_faces_zones_and_framing.md, Table 2-10. -/
def AV_ZONECFG (n z : Nat) : Nat := avBase n + 0x900 + z * 0x10
def AV_ZONECFG_SPARES (n z : Nat) : Fld := ⟨AV_ZONECFG n z, 19, 4⟩
def AV_ZONECFG_CPR16 (n z : Nat) : Fld := ⟨AV_ZONECFG n z, 0, 19⟩
/-- AV_ZONEWDG, 02_faces_zones_and_framing.md, Table 2-11. -/
def AV_ZONEWDG (n z : Nat) : Nat := avBase n + 0x904 + z * 0x10
def AV_ZONEWDG_POSTG (n z : Nat) : Fld := ⟨AV_ZONEWDG n z, 20, 10⟩
def AV_ZONEWDG_WLEN (n z : Nat) : Fld := ⟨AV_ZONEWDG n z, 10, 10⟩
def AV_ZONEWDG_PREG (n z : Nat) : Fld := ⟨AV_ZONEWDG n z, 0, 10⟩
/-- AV_ZONEMRK, 02_faces_zones_and_framing.md, Table 2-12. -/
def AV_ZONEMRK (n z : Nat) : Nat := avBase n + 0x908 + z * 0x10
def AV_ZONEMRK_FLYWHEEL (n z : Nat) : Fld := ⟨AV_ZONEMRK n z, 12, 1⟩
def AV_ZONEMRK_MTHR (n z : Nat) : Fld := ⟨AV_ZONEMRK n z, 8, 4⟩
def AV_ZONEMRK_W (n z : Nat) : Fld := ⟨AV_ZONEMRK n z, 0, 7⟩
/-- AV_ZONEBND, 02_faces_zones_and_framing.md, Table 2-13. -/
def AV_ZONEBND (n z : Nat) : Nat := avBase n + 0x90C + z * 0x10
def AV_ZONEBND_FIRST (n z : Nat) : Fld := ⟨AV_ZONEBND n z, 0, 22⟩
/-- AV_ZONESTAT, 02_faces_zones_and_framing.md, Table 2-14. -/
def AV_ZONESTAT (n z : Nat) : Nat := avBase n + 0xB00 + z * 0x8
def AV_ZONESTAT_VALID (n z : Nat) : Fld := ⟨AV_ZONESTAT n z, 31, 1⟩
def AV_ZONESTAT_GAPS (n z : Nat) : Fld := ⟨AV_ZONESTAT n z, 19, 7⟩
def AV_ZONESTAT_SPLITS (n z : Nat) : Fld := ⟨AV_ZONESTAT n z, 12, 7⟩
def AV_ZONESTAT_SPT (n z : Nat) : Fld := ⟨AV_ZONESTAT n z, 0, 12⟩
/-- AV_ZONEUSE, 02_faces_zones_and_framing.md, Table 2-14. -/
def AV_ZONEUSE (n z : Nat) : Nat := avBase n + 0xB04 + z * 0x8
def AV_ZONEUSE_USPT (n z : Nat) : Fld := ⟨AV_ZONEUSE n z, 16, 12⟩
def AV_ZONEUSE_TAIL (n z : Nat) : Fld := ⟨AV_ZONEUSE n z, 0, 16⟩
/-- AV_TLCTL, 03_timing_face_and_read_front_end.md, Table 3-5. -/
def AV_TLCTL (n : Nat) : Nat := avBase n + 0xC00
def AV_TLCTL_LOCK (n : Nat) : Fld := ⟨AV_TLCTL n, 31, 1⟩
def AV_TLCTL_RELOCKS (n : Nat) : Fld := ⟨AV_TLCTL n, 24, 4⟩
def AV_TLCTL_KPA (n : Nat) : Fld := ⟨AV_TLCTL n, 20, 4⟩
def AV_TLCTL_KIA (n : Nat) : Fld := ⟨AV_TLCTL n, 16, 4⟩
def AV_TLCTL_KPT (n : Nat) : Fld := ⟨AV_TLCTL n, 12, 4⟩
def AV_TLCTL_KIT (n : Nat) : Fld := ⟨AV_TLCTL n, 8, 4⟩
def AV_TLCTL_RELOCK (n : Nat) : Fld := ⟨AV_TLCTL n, 1, 1⟩
def AV_TLCTL_EN (n : Nat) : Fld := ⟨AV_TLCTL n, 0, 1⟩
/-- AV_TLTHR, 03_timing_face_and_read_front_end.md, Table 3-6. -/
def AV_TLTHR (n : Nat) : Nat := avBase n + 0xC04
def AV_TLTHR_LSTHR (n : Nat) : Fld := ⟨AV_TLTHR n, 24, 8⟩
def AV_TLTHR_LSCNT (n : Nat) : Fld := ⟨AV_TLTHR n, 20, 4⟩
def AV_TLTHR_LKCNT (n : Nat) : Fld := ⟨AV_TLTHR n, 16, 4⟩
def AV_TLTHR_LKTHR (n : Nat) : Fld := ⟨AV_TLTHR n, 8, 8⟩
def AV_TLTHR_AMIN (n : Nat) : Fld := ⟨AV_TLTHR n, 4, 4⟩
/-- AV_TLFTOL, 03_timing_face_and_read_front_end.md, Table 3-7. -/
def AV_TLFTOL (n : Nat) : Nat := avBase n + 0xC08
def AV_TLFTOL_FTOL (n : Nat) : Fld := ⟨AV_TLFTOL n, 0, 16⟩
/-- AV_TLSTAT, 03_timing_face_and_read_front_end.md, Table 3-8. -/
def AV_TLSTAT (n : Nat) : Nat := avBase n + 0xC0C
def AV_TLSTAT_STATE (n : Nat) : Fld := ⟨AV_TLSTAT n, 29, 3⟩
def AV_TLSTAT_FMISM (n : Nat) : Fld := ⟨AV_TLSTAT n, 28, 1⟩
def AV_TLSTAT_FAILS (n : Nat) : Fld := ⟨AV_TLSTAT n, 24, 4⟩
def AV_TLSTAT_ACQT (n : Nat) : Fld := ⟨AV_TLSTAT n, 0, 16⟩
/-- AV_TLFREQ, 03_timing_face_and_read_front_end.md, Table 3-9. -/
def AV_TLFREQ (n : Nat) : Nat := avBase n + 0xC10
def AV_TLFREQ_FOFS (n : Nat) : Fld := ⟨AV_TLFREQ n, 16, 16⟩
def AV_TLFREQ_PHERR (n : Nat) : Fld := ⟨AV_TLFREQ n, 8, 8⟩
def AV_TLFREQ_AMP (n : Nat) : Fld := ⟨AV_TLFREQ n, 4, 4⟩
/-- AV_TLCNT, 03_timing_face_and_read_front_end.md, Table 3-10. -/
def AV_TLCNT (n : Nat) : Nat := avBase n + 0xC14
def AV_TLCNT_LOSSES (n : Nat) : Fld := ⟨AV_TLCNT n, 16, 16⟩
def AV_TLCNT_SLIPS (n : Nat) : Fld := ⟨AV_TLCNT n, 8, 8⟩
def AV_TLCNT_LKFAILS (n : Nat) : Fld := ⟨AV_TLCNT n, 0, 8⟩
/-- AV_AFEGAIN, 03_timing_face_and_read_front_end.md, Table 3-11. -/
def AV_AFEGAIN (n r : Nat) : Nat := avBase n + 0xC20 + r * 0x4
def AV_AFEGAIN_DGEN (n r : Nat) : Fld := ⟨AV_AFEGAIN n r, 16, 1⟩
def AV_AFEGAIN_DTGT (n r : Nat) : Fld := ⟨AV_AFEGAIN n r, 8, 6⟩
def AV_AFEGAIN_VGA (n r : Nat) : Fld := ⟨AV_AFEGAIN n r, 0, 8⟩
/-- AV_AFECTF, 03_timing_face_and_read_front_end.md, Table 3-12. -/
def AV_AFECTF (n r : Nat) : Nat := avBase n + 0xC28 + r * 0x4
def AV_AFECTF_BOOST (n r : Nat) : Fld := ⟨AV_AFECTF n r, 6, 5⟩
def AV_AFECTF_CUTOFF (n r : Nat) : Fld := ⟨AV_AFECTF n r, 0, 6⟩
/-- AV_AFECAL, 03_timing_face_and_read_front_end.md, Table 3-13. -/
def AV_AFECAL (n : Nat) : Nat := avBase n + 0xC30
def AV_AFECAL_PERIOD (n : Nat) : Fld := ⟨AV_AFECAL n, 8, 8⟩
def AV_AFECAL_INSECT (n : Nat) : Fld := ⟨AV_AFECAL n, 1, 1⟩
def AV_AFECAL_EN (n : Nat) : Fld := ⟨AV_AFECAL n, 0, 1⟩
/-- AV_SKCTL, 03_timing_face_and_read_front_end.md, Table 3-14. -/
def AV_SKCTL (n : Nat) : Nat := avBase n + 0xC34
def AV_SKCTL_SKLIM (n : Nat) : Fld := ⟨AV_SKCTL n, 8, 8⟩
def AV_SKCTL_TKG (n : Nat) : Fld := ⟨AV_SKCTL n, 4, 4⟩
def AV_SKCTL_MARKFB (n : Nat) : Fld := ⟨AV_SKCTL n, 1, 1⟩
def AV_SKCTL_TRK (n : Nat) : Fld := ⟨AV_SKCTL n, 0, 1⟩
/-- AV_TAGCNT, 03_timing_face_and_read_front_end.md, Table 3-14. -/
def AV_TAGCNT (n : Nat) : Nat := avBase n + 0xC38
def AV_TAGCNT_INVAL (n : Nat) : Fld := ⟨AV_TAGCNT n, 16, 16⟩
def AV_TAGCNT_SETTL (n : Nat) : Fld := ⟨AV_TAGCNT n, 0, 16⟩
/-- AV_SKEW, 03_timing_face_and_read_front_end.md, Table 3-15. -/
def AV_SKEW (n f r z : Nat) : Nat := avBase n + 0x1000 + f * 0x100 + r * 0x80 + z * 0x4
def AV_SKEW_SKEW (n f r z : Nat) : Fld := ⟨AV_SKEW n f r z, 0, 24⟩
/-- AV_DETCTL, 04_detection_decoding_and_retry.md, Table 4-8. -/
def AV_DETCTL (n : Nat) : Nat := avBase n + 0x1800
def AV_DETCTL_ADSTEP (n : Nat) : Fld := ⟨AV_DETCTL n, 12, 4⟩
def AV_DETCTL_ADAPT (n : Nat) : Fld := ⟨AV_DETCTL n, 11, 1⟩
def AV_DETCTL_NPEN (n : Nat) : Fld := ⟨AV_DETCTL n, 10, 1⟩
def AV_DETCTL_SETSC (n : Nat) : Fld := ⟨AV_DETCTL n, 8, 2⟩
/-- AV_DECCTL, 04_detection_decoding_and_retry.md, Table 4-9. -/
def AV_DECCTL (n : Nat) : Nat := avBase n + 0x1804
def AV_DECCTL_VFYITER (n : Nat) : Fld := ⟨AV_DECCTL n, 4, 4⟩
def AV_DECCTL_ITER (n : Nat) : Fld := ⟨AV_DECCTL n, 0, 4⟩
/-- AV_CODECTL, 04_detection_decoding_and_retry.md, Table 4-10. -/
def AV_CODECTL (n : Nat) : Nat := avBase n + 0x1808
def AV_CODECTL_OK (n : Nat) : Fld := ⟨AV_CODECTL n, 31, 1⟩
def AV_CODECTL_ERR (n : Nat) : Fld := ⟨AV_CODECTL n, 28, 3⟩
def AV_CODECTL_LOAD (n : Nat) : Fld := ⟨AV_CODECTL n, 16, 1⟩
def AV_CODECTL_CODEID (n : Nat) : Fld := ⟨AV_CODECTL n, 0, 16⟩
/-- AV_STORESTAT, 04_detection_decoding_and_retry.md, Table 4-11. -/
def AV_STORESTAT (n : Nat) : Nat := avBase n + 0x180C
def AV_STORESTAT_PINNED (n : Nat) : Fld := ⟨AV_STORESTAT n, 16, 6⟩
def AV_STORESTAT_PINFULL (n : Nat) : Fld := ⟨AV_STORESTAT n, 0, 16⟩
/-- AV_LADCTL, 04_detection_decoding_and_retry.md, Table 4-12. -/
def AV_LADCTL (n : Nat) : Nat := avBase n + 0x1810
def AV_LADCTL_LOCK (n : Nat) : Fld := ⟨AV_LADCTL n, 31, 1⟩
def AV_LADCTL_ICEIL (n : Nat) : Fld := ⟨AV_LADCTL n, 12, 3⟩
def AV_LADCTL_LRCEIL (n : Nat) : Fld := ⟨AV_LADCTL n, 8, 3⟩
def AV_LADCTL_NCEIL (n : Nat) : Fld := ⟨AV_LADCTL n, 4, 3⟩
def AV_LADCTL_UCEIL (n : Nat) : Fld := ⟨AV_LADCTL n, 0, 3⟩
/-- AV_LADLIM, 04_detection_decoding_and_retry.md, Table 4-13. -/
def AV_LADLIM (n : Nat) : Nat := avBase n + 0x1814
def AV_LADLIM_PINMAX (n : Nat) : Fld := ⟨AV_LADLIM n, 24, 5⟩
def AV_LADLIM_L4MTHR (n : Nat) : Fld := ⟨AV_LADLIM n, 20, 4⟩
def AV_LADLIM_N5 (n : Nat) : Fld := ⟨AV_LADLIM n, 16, 4⟩
def AV_LADLIM_N4 (n : Nat) : Fld := ⟨AV_LADLIM n, 12, 4⟩
def AV_LADLIM_N3 (n : Nat) : Fld := ⟨AV_LADLIM n, 8, 4⟩
def AV_LADLIM_N2 (n : Nat) : Fld := ⟨AV_LADLIM n, 4, 4⟩
/-- AV_L5OFS0, 04_detection_decoding_and_retry.md, Table 4-14. -/
def AV_L5OFS0 (n : Nat) : Nat := avBase n + 0x1818
def AV_L5OFS0_OFS3 (n : Nat) : Fld := ⟨AV_L5OFS0 n, 24, 8⟩
def AV_L5OFS0_OFS2 (n : Nat) : Fld := ⟨AV_L5OFS0 n, 16, 8⟩
def AV_L5OFS0_OFS1 (n : Nat) : Fld := ⟨AV_L5OFS0 n, 8, 8⟩
def AV_L5OFS0_OFS0 (n : Nat) : Fld := ⟨AV_L5OFS0 n, 0, 8⟩
/-- AV_L5OFS1, 04_detection_decoding_and_retry.md, Table 4-14. -/
def AV_L5OFS1 (n : Nat) : Nat := avBase n + 0x181C
def AV_L5OFS1_OFS5 (n : Nat) : Fld := ⟨AV_L5OFS1 n, 8, 8⟩
def AV_L5OFS1_OFS4 (n : Nat) : Fld := ⟨AV_L5OFS1 n, 0, 8⟩
/-- AV_L2SET, 04_detection_decoding_and_retry.md, Table 4-15. -/
def AV_L2SET (n k : Nat) : Nat := avBase n + 0x1820 + k * 0x4
def AV_L2SET_VGAD (n k : Nat) : Fld := ⟨AV_L2SET n k, 24, 8⟩
def AV_L2SET_CUTD (n k : Nat) : Fld := ⟨AV_L2SET n k, 18, 6⟩
def AV_L2SET_BOOSTD (n k : Nat) : Fld := ⟨AV_L2SET n k, 13, 5⟩
def AV_L2SET_LLRS (n k : Nat) : Fld := ⟨AV_L2SET n k, 10, 3⟩
def AV_L2SET_NPOFF (n k : Nat) : Fld := ⟨AV_L2SET n k, 9, 1⟩
def AV_L2SET_READAPT (n k : Nat) : Fld := ⟨AV_L2SET n k, 8, 1⟩
/-- AV_L3WT, 04_detection_decoding_and_retry.md, Table 4-16. -/
def AV_L3WT (n k : Nat) : Nat := avBase n + 0x1830 + k * 0x4
def AV_L3WT_WA (n k : Nat) : Fld := ⟨AV_L3WT n k, 0, 5⟩
/-- AV_LADCNT0, 04_detection_decoding_and_retry.md, Table 4-17. -/
def AV_LADCNT0 (n : Nat) : Nat := avBase n + 0x1840
def AV_LADCNT0_OTFFAIL (n : Nat) : Fld := ⟨AV_LADCNT0 n, 16, 16⟩
def AV_LADCNT0_TRANS (n : Nat) : Fld := ⟨AV_LADCNT0 n, 0, 16⟩
/-- AV_LADCNT1, 04_detection_decoding_and_retry.md, Table 4-17. -/
def AV_LADCNT1 (n : Nat) : Nat := avBase n + 0x1844
def AV_LADCNT1_LASTING (n : Nat) : Fld := ⟨AV_LADCNT1 n, 16, 16⟩
def AV_LADCNT1_FAILED (n : Nat) : Fld := ⟨AV_LADCNT1 n, 8, 8⟩
def AV_LADCNT1_TLIMIT (n : Nat) : Fld := ⟨AV_LADCNT1 n, 0, 8⟩
/-- AV_DECCNT, 04_detection_decoding_and_retry.md, Table 4-17. -/
def AV_DECCNT (n : Nat) : Nat := avBase n + 0x1848
def AV_DECCNT_MISCOR (n : Nat) : Fld := ⟨AV_DECCNT n, 16, 16⟩
def AV_DECCNT_OVERRUN (n : Nat) : Fld := ⟨AV_DECCNT n, 0, 16⟩
/-- AV0_RDECCTL, 04_detection_decoding_and_retry.md, Table 4-18. -/
def AV0_RDECCTL : Nat := avBase 0 + 0x1E00
def AV0_RDECCTL_LOCK : Fld := ⟨AV0_RDECCTL, 31, 1⟩
def AV0_RDECCTL_OK : Fld := ⟨AV0_RDECCTL, 30, 1⟩
def AV0_RDECCTL_ERR : Fld := ⟨AV0_RDECCTL, 27, 3⟩
def AV0_RDECCTL_LOAD : Fld := ⟨AV0_RDECCTL, 16, 1⟩
def AV0_RDECCTL_ITER : Fld := ⟨AV0_RDECCTL, 8, 6⟩
def AV0_RDECCTL_GLOB : Fld := ⟨AV0_RDECCTL, 0, 2⟩
/-- AV0_RDECSTAT, 04_detection_decoding_and_retry.md, Table 4-19. -/
def AV0_RDECSTAT : Nat := avBase 0 + 0x1E04
def AV0_RDECSTAT_QDEPTH : Fld := ⟨AV0_RDECSTAT, 24, 8⟩
def AV0_RDECSTAT_UQ : Fld := ⟨AV0_RDECSTAT, 16, 8⟩
def AV0_RDECSTAT_BUSY : Fld := ⟨AV0_RDECSTAT, 0, 2⟩
/-- AV_WRCTL, 05_write_path_and_preamps.md, Table 5-4. -/
def AV_WRCTL (n : Nat) : Nat := avBase n + 0x1780
def AV_WRCTL_LOCK (n : Nat) : Fld := ⟨AV_WRCTL n, 31, 1⟩
def AV_WRCTL_KRETRY (n : Nat) : Fld := ⟨AV_WRCTL n, 20, 4⟩
def AV_WRCTL_KRATE (n : Nat) : Fld := ⟨AV_WRCTL n, 18, 2⟩
def AV_WRCTL_WFOLLOW (n : Nat) : Fld := ⟨AV_WRCTL n, 17, 1⟩
def AV_WRCTL_WGLEAD (n : Nat) : Fld := ⟨AV_WRCTL n, 16, 1⟩
def AV_WRCTL_HTSET (n : Nat) : Fld := ⟨AV_WRCTL n, 8, 8⟩
def AV_WRCTL_TURN (n : Nat) : Fld := ⟨AV_WRCTL n, 0, 6⟩
/-- AV_WINHCTL, 05_write_path_and_preamps.md, Table 5-5. -/
def AV_WINHCTL (n : Nat) : Nat := avBase n + 0x1784
def AV_WINHCTL_SHHOLD (n : Nat) : Fld := ⟨AV_WINHCTL n, 8, 8⟩
def AV_WINHCTL_SWINH (n : Nat) : Fld := ⟨AV_WINHCTL n, 2, 1⟩
def AV_WINHCTL_SHM1 (n : Nat) : Fld := ⟨AV_WINHCTL n, 1, 1⟩
def AV_WINHCTL_SHM0 (n : Nat) : Fld := ⟨AV_WINHCTL n, 0, 1⟩
/-- AV_WFSTAT, 05_write_path_and_preamps.md, Table 5-6. -/
def AV_WFSTAT (n : Nat) : Nat := avBase n + 0x1788
def AV_WFSTAT_VALID (n : Nat) : Fld := ⟨AV_WFSTAT n, 31, 1⟩
def AV_WFSTAT_FIRST (n : Nat) : Fld := ⟨AV_WFSTAT n, 24, 3⟩
def AV_WFSTAT_CAUSE (n : Nat) : Fld := ⟨AV_WFSTAT n, 16, 8⟩
def AV_WFSTAT_FACE (n : Nat) : Fld := ⟨AV_WFSTAT n, 12, 3⟩
def AV_WFSTAT_SLOT (n : Nat) : Fld := ⟨AV_WFSTAT n, 0, 12⟩
/-- AV_WFCNT, 05_write_path_and_preamps.md, Table 5-7. -/
def AV_WFCNT (n : Nat) : Nat := avBase n + 0x178C
def AV_WFCNT_FAULTS (n : Nat) : Fld := ⟨AV_WFCNT n, 16, 16⟩
def AV_WFCNT_SLIPW (n : Nat) : Fld := ⟨AV_WFCNT n, 0, 16⟩
/-- AV_KZCMD, 05_write_path_and_preamps.md, Table 5-8. -/
def AV_KZCMD (n : Nat) : Nat := avBase n + 0x1790
def AV_KZCMD_GO (n : Nat) : Fld := ⟨AV_KZCMD n, 31, 1⟩
def AV_KZCMD_RD (n : Nat) : Fld := ⟨AV_KZCMD n, 23, 1⟩
def AV_KZCMD_ADDR (n : Nat) : Fld := ⟨AV_KZCMD n, 16, 7⟩
def AV_KZCMD_DATA (n : Nat) : Fld := ⟨AV_KZCMD n, 0, 16⟩
/-- AV_KZSTAT, 05_write_path_and_preamps.md, Table 5-9. -/
def AV_KZSTAT (n : Nat) : Nat := avBase n + 0x1794
def AV_KZSTAT_BUSY (n : Nat) : Fld := ⟨AV_KZSTAT n, 31, 1⟩
def AV_KZSTAT_RESULT (n : Nat) : Fld := ⟨AV_KZSTAT n, 16, 2⟩
def AV_KZSTAT_DATA (n : Nat) : Fld := ⟨AV_KZSTAT n, 0, 16⟩
/-- AV_HMAP, 05_write_path_and_preamps.md, Table 5-10. -/
def AV_HMAP (n : Nat) : Nat := avBase n + 0x1798
def AV_HMAP_TMG (n : Nat) : Fld := ⟨AV_HMAP n, 20, 4⟩
def AV_HMAP_H (n : Nat) : Fld := ⟨AV_HMAP n, 0, 20⟩
/-- AV_PAID, 05_write_path_and_preamps.md, Table 5-11. -/
def AV_PAID (n k : Nat) : Nat := avBase n + 0x17A0 + k * 0x4
def AV_PAID_DESC (n k : Nat) : Fld := ⟨AV_PAID n k, 0, 32⟩
/-- AV_PASTAT, 05_write_path_and_preamps.md, Table 5-11. -/
def AV_PASTAT (n : Nat) : Nat := avBase n + 0x17B0
def AV_PASTAT_REPL (n : Nat) : Fld := ⟨AV_PASTAT n, 3, 1⟩
def AV_PASTAT_OUT (n : Nat) : Fld := ⟨AV_PASTAT n, 0, 3⟩
/-- AV_WSKEW, 05_write_path_and_preamps.md, Table 5-12. -/
def AV_WSKEW (n f z : Nat) : Nat := avBase n + 0x40000 + f * 0x80 + z * 0x4
def AV_WSKEW_WSKEW (n f z : Nat) : Fld := ⟨AV_WSKEW n f z, 0, 24⟩
/-- AV_WAT0, 05_write_path_and_preamps.md, Table 5-13. -/
def AV_WAT0 (n f z : Nat) : Nat := avBase n + 0x41000 + f * 0x100 + z * 0x8
def AV_WAT0_OVS (n f z : Nat) : Fld := ⟨AV_WAT0 n f z, 24, 8⟩
def AV_WAT0_WCUR (n f z : Nat) : Fld := ⟨AV_WAT0 n f z, 16, 8⟩
def AV_WAT0_WAP (n f z : Nat) : Fld := ⟨AV_WAT0 n f z, 8, 8⟩
def AV_WAT0_WHTR (n f z : Nat) : Fld := ⟨AV_WAT0 n f z, 0, 8⟩
/-- AV_WAT1, 05_write_path_and_preamps.md, Table 5-13. -/
def AV_WAT1 (n f z : Nat) : Nat := avBase n + 0x41004 + f * 0x100 + z * 0x8
def AV_WAT1_PC2 (n f z : Nat) : Fld := ⟨AV_WAT1 n f z, 16, 6⟩
def AV_WAT1_PC1 (n f z : Nat) : Fld := ⟨AV_WAT1 n f z, 8, 6⟩
def AV_WAT1_RHTR (n f z : Nat) : Fld := ⟨AV_WAT1 n f z, 0, 8⟩
/-- AV_SEQCTL, 06_avenue_sequencers.md, Table 6-11. -/
def AV_SEQCTL (n : Nat) : Nat := avBase n + 0x400
def AV_SEQCTL_LOCK (n : Nat) : Fld := ⟨AV_SEQCTL n, 31, 1⟩
def AV_SEQCTL_OMLIM (n : Nat) : Fld := ⟨AV_SEQCTL n, 8, 8⟩
def AV_SEQCTL_HOLD (n : Nat) : Fld := ⟨AV_SEQCTL n, 1, 1⟩
def AV_SEQCTL_RUN (n : Nat) : Fld := ⟨AV_SEQCTL n, 0, 1⟩
/-- AV_SEQSTAT, 06_avenue_sequencers.md, Table 6-12. -/
def AV_SEQSTAT (n : Nat) : Nat := avBase n + 0x404
def AV_SEQSTAT_STATE (n : Nat) : Fld := ⟨AV_SEQSTAT n, 29, 3⟩
def AV_SEQSTAT_PC (n : Nat) : Fld := ⟨AV_SEQSTAT n, 12, 12⟩
def AV_SEQSTAT_DEPTH (n : Nat) : Fld := ⟨AV_SEQSTAT n, 6, 6⟩
def AV_SEQSTAT_RES (n : Nat) : Fld := ⟨AV_SEQSTAT n, 3, 3⟩
/-- AV_SEQFAULT, 06_avenue_sequencers.md, Table 6-12. -/
def AV_SEQFAULT (n : Nat) : Nat := avBase n + 0x408
def AV_SEQFAULT_VALID (n : Nat) : Fld := ⟨AV_SEQFAULT n, 31, 1⟩
def AV_SEQFAULT_CODE (n : Nat) : Fld := ⟨AV_SEQFAULT n, 28, 3⟩
def AV_SEQFAULT_PC (n : Nat) : Fld := ⟨AV_SEQFAULT n, 12, 12⟩
def AV_SEQFAULT_DEPTH (n : Nat) : Fld := ⟨AV_SEQFAULT n, 6, 6⟩
/-- AV_SEQTRAP, 06_avenue_sequencers.md, Table 6-13. -/
def AV_SEQTRAP (n : Nat) : Nat := avBase n + 0x40C
def AV_SEQTRAP_TRAPPC (n : Nat) : Fld := ⟨AV_SEQTRAP n, 16, 12⟩
def AV_SEQTRAP_CAUSE (n : Nat) : Fld := ⟨AV_SEQTRAP n, 14, 2⟩
def AV_SEQTRAP_BASE (n : Nat) : Fld := ⟨AV_SEQTRAP n, 0, 12⟩
/-- AV_SEQWLIM, 06_avenue_sequencers.md, Table 6-13. -/
def AV_SEQWLIM (n k : Nat) : Nat := avBase n + 0x410 + k * 0x4
def AV_SEQWLIM_LIM (n k : Nat) : Fld := ⟨AV_SEQWLIM n k, 0, 16⟩
/-- AV_SEQVER, 06_avenue_sequencers.md, Table 6-13. -/
def AV_SEQVER (n : Nat) : Nat := avBase n + 0x420
def AV_SEQVER_AMIF (n : Nat) : Fld := ⟨AV_SEQVER n, 16, 16⟩
def AV_SEQVER_OMIF (n : Nat) : Fld := ⟨AV_SEQVER n, 0, 16⟩
/-- AV_SEQCNT, 06_avenue_sequencers.md, Table 6-14. -/
def AV_SEQCNT (n : Nat) : Nat := avBase n + 0x424
def AV_SEQCNT_LATE (n : Nat) : Fld := ⟨AV_SEQCNT n, 16, 16⟩
def AV_SEQCNT_OVF (n : Nat) : Fld := ⟨AV_SEQCNT n, 8, 8⟩
def AV_SEQCNT_CORR (n : Nat) : Fld := ⟨AV_SEQCNT n, 0, 8⟩
/-- AV_SEQLDST, 06_avenue_sequencers.md, Table 6-14. -/
def AV_SEQLDST (n : Nat) : Nat := avBase n + 0x428
def AV_SEQLDST_AMOK (n : Nat) : Fld := ⟨AV_SEQLDST n, 31, 1⟩
def AV_SEQLDST_OMOK (n : Nat) : Fld := ⟨AV_SEQLDST n, 30, 1⟩
def AV_SEQLDST_CODE (n : Nat) : Fld := ⟨AV_SEQLDST n, 27, 3⟩
def AV_SEQLDST_ADDR (n : Nat) : Fld := ⟨AV_SEQLDST n, 0, 12⟩
/-- AV_SEQEXP, 06_avenue_sequencers.md, Table 6-15. -/
def AV_SEQEXP (n k : Nat) : Nat := avBase n + 0x500 + k * 0x4
def AV_SEQEXP_VALID (n k : Nat) : Fld := ⟨AV_SEQEXP n k, 31, 1⟩
def AV_SEQEXP_ADDR (n k : Nat) : Fld := ⟨AV_SEQEXP n k, 0, 12⟩
/-- AV_OMENTRY, 06_avenue_sequencers.md, Table 6-15. -/
def AV_OMENTRY (n k : Nat) : Nat := avBase n + 0x600 + k * 0x4
def AV_OMENTRY_VALID (n k : Nat) : Fld := ⟨AV_OMENTRY n k, 31, 1⟩
def AV_OMENTRY_ADDR (n k : Nat) : Fld := ⟨AV_OMENTRY n k, 0, 12⟩
/-- AV_AFESET, 06_avenue_sequencers.md, Table 6-15. -/
def AV_AFESET (n f z r : Nat) : Nat := avBase n + 0x42000 + f * 0x100 + z * 0x8 + r * 0x4
def AV_AFESET_BOOST (n f z r : Nat) : Fld := ⟨AV_AFESET n f z r, 14, 5⟩
def AV_AFESET_CUTOFF (n f z r : Nat) : Fld := ⟨AV_AFESET n f z r, 8, 6⟩
def AV_AFESET_VGA (n f z r : Nat) : Fld := ⟨AV_AFESET n f z r, 0, 8⟩
/-- SVO_CTL, 07_servo_seek_and_actuators.md, Table 7-7. -/
def SVO_CTL (n : Nat) : Nat := svBase n + 0x0
def SVO_CTL_LOCK (n : Nat) : Fld := ⟨SVO_CTL n, 31, 1⟩
def SVO_CTL_IMODE (n : Nat) : Fld := ⟨SVO_CTL n, 11, 1⟩
def SVO_CTL_NMODE (n : Nat) : Fld := ⟨SVO_CTL n, 10, 1⟩
def SVO_CTL_MISSLIM (n : Nat) : Fld := ⟨SVO_CTL n, 4, 4⟩
def SVO_CTL_EN (n : Nat) : Fld := ⟨SVO_CTL n, 0, 1⟩
/-- SVO_REQ, 07_servo_seek_and_actuators.md, Table 7-7. -/
def SVO_REQ (n : Nat) : Nat := svBase n + 0x4
def SVO_REQ_UNLOAD (n : Nat) : Fld := ⟨SVO_REQ n, 1, 1⟩
def SVO_REQ_LOAD (n : Nat) : Fld := ⟨SVO_REQ n, 0, 1⟩
/-- SVO_STAT, 07_servo_seek_and_actuators.md, Table 7-7. -/
def SVO_STAT (n : Nat) : Nat := svBase n + 0x8
def SVO_STAT_STATE (n : Nat) : Fld := ⟨SVO_STAT n, 28, 4⟩
def SVO_STAT_ONTRK (n : Nat) : Fld := ⟨SVO_STAT n, 27, 1⟩
def SVO_STAT_WINH (n : Nat) : Fld := ⟨SVO_STAT n, 26, 1⟩
def SVO_STAT_LATCH (n : Nat) : Fld := ⟨SVO_STAT n, 25, 1⟩
def SVO_STAT_STRONG (n : Nat) : Fld := ⟨SVO_STAT n, 24, 1⟩
def SVO_STAT_TCYL (n : Nat) : Fld := ⟨SVO_STAT n, 0, 22⟩
/-- SVO_POS, 07_servo_seek_and_actuators.md, Table 7-8. -/
def SVO_POS (n : Nat) : Nat := svBase n + 0xC
def SVO_POS_POS (n : Nat) : Fld := ⟨SVO_POS n, 0, 32⟩
/-- SVO_PES, 07_servo_seek_and_actuators.md, Table 7-8. -/
def SVO_PES (n : Nat) : Nat := svBase n + 0x10
def SVO_PES_ED (n : Nat) : Fld := ⟨SVO_PES n, 16, 16⟩
def SVO_PES_ET (n : Nat) : Fld := ⟨SVO_PES n, 0, 16⟩
/-- SVO_THR, 07_servo_seek_and_actuators.md, Table 7-8. -/
def SVO_THR (n : Nat) : Nat := svBase n + 0x14
def SVO_THR_RDTHR (n : Nat) : Fld := ⟨SVO_THR n, 24, 8⟩
def SVO_THR_WRTHR (n : Nat) : Fld := ⟨SVO_THR n, 16, 8⟩
def SVO_THR_WRREC (n : Nat) : Fld := ⟨SVO_THR n, 12, 4⟩
def SVO_THR_SCNT (n : Nat) : Fld := ⟨SVO_THR n, 8, 4⟩
def SVO_THR_STHR (n : Nat) : Fld := ⟨SVO_THR n, 0, 8⟩
/-- SVO_SEEKCFG, 07_servo_seek_and_actuators.md, Table 7-8. -/
def SVO_SEEKCFG (n : Nat) : Nat := svBase n + 0x18
def SVO_SEEKCFG_VSW (n : Nat) : Fld := ⟨SVO_SEEKCFG n, 16, 16⟩
def SVO_SEEKCFG_SETTLEMAX (n : Nat) : Fld := ⟨SVO_SEEKCFG n, 8, 8⟩
def SVO_SEEKCFG_ACQTHR (n : Nat) : Fld := ⟨SVO_SEEKCFG n, 0, 8⟩
/-- SVO_PLAN, 07_servo_seek_and_actuators.md, Table 7-8. -/
def SVO_PLAN (n : Nat) : Nat := svBase n + 0x1C
def SVO_PLAN_FSQ (n : Nat) : Fld := ⟨SVO_PLAN n, 18, 14⟩
def SVO_PLAN_FSS (n : Nat) : Fld := ⟨SVO_PLAN n, 4, 14⟩
def SVO_PLAN_ERR (n : Nat) : Fld := ⟨SVO_PLAN n, 0, 3⟩
/-- SVO_PROF_W0, 07_servo_seek_and_actuators.md, Table 7-8. -/
def SVO_PROF_W0 (n m : Nat) : Nat := svBase n + 0x20 + m * 0x10
def SVO_PROF_W0_AMAX (n m : Nat) : Fld := ⟨SVO_PROF_W0 n m, 16, 16⟩
def SVO_PROF_W0_ADEC (n m : Nat) : Fld := ⟨SVO_PROF_W0 n m, 0, 16⟩
/-- SVO_PROF_W1, 07_servo_seek_and_actuators.md, Table 7-8. -/
def SVO_PROF_W1 (n m : Nat) : Nat := svBase n + 0x24 + m * 0x10
def SVO_PROF_W1_VMAX (n m : Nat) : Fld := ⟨SVO_PROF_W1 n m, 16, 16⟩
def SVO_PROF_W1_JMAX (n m : Nat) : Fld := ⟨SVO_PROF_W1 n m, 0, 16⟩
/-- SVO_PROF_W2, 07_servo_seek_and_actuators.md, Table 7-8. -/
def SVO_PROF_W2 (n m : Nat) : Nat := svBase n + 0x28 + m * 0x10
def SVO_PROF_W2_KFF (n m : Nat) : Fld := ⟨SVO_PROF_W2 n m, 16, 16⟩
def SVO_PROF_W2_IMAX (n m : Nat) : Fld := ⟨SVO_PROF_W2 n m, 0, 16⟩
/-- SVO_IDLE, 07_servo_seek_and_actuators.md, Table 7-9. -/
def SVO_IDLE (n : Nat) : Nat := svBase n + 0x40
def SVO_IDLE_UNLDT (n : Nat) : Fld := ⟨SVO_IDLE n, 16, 16⟩
def SVO_IDLE_IDLET1 (n : Nat) : Fld := ⟨SVO_IDLE n, 8, 8⟩
def SVO_IDLE_EUV (n : Nat) : Fld := ⟨SVO_IDLE n, 0, 8⟩
/-- SVO_UNLD, 07_servo_seek_and_actuators.md, Table 7-9. -/
def SVO_UNLD (n : Nat) : Nat := svBase n + 0x44
def SVO_UNLD_ULVEL (n : Nat) : Fld := ⟨SVO_UNLD n, 20, 12⟩
def SVO_UNLD_KVEL (n : Nat) : Fld := ⟨SVO_UNLD n, 8, 12⟩
def SVO_UNLD_ULMAX (n : Nat) : Fld := ⟨SVO_UNLD n, 0, 8⟩
/-- SVO_BEMF, 07_servo_seek_and_actuators.md, Table 7-9. -/
def SVO_BEMF (n : Nat) : Nat := svBase n + 0x48
def SVO_BEMF_RCOIL (n : Nat) : Fld := ⟨SVO_BEMF n, 16, 16⟩
def SVO_BEMF_KBV (n : Nat) : Fld := ⟨SVO_BEMF n, 0, 16⟩
/-- SVO_LDCFG, 07_servo_seek_and_actuators.md, Table 7-9. -/
def SVO_LDCFG (n : Nat) : Nat := svBase n + 0x4C
def SVO_LDCFG_LDVEL (n : Nat) : Fld := ⟨SVO_LDCFG n, 20, 12⟩
def SVO_LDCFG_LDT (n : Nat) : Fld := ⟨SVO_LDCFG n, 12, 8⟩
def SVO_LDCFG_PARKT (n : Nat) : Fld := ⟨SVO_LDCFG n, 4, 8⟩
/-- SVO_SHK, 07_servo_seek_and_actuators.md, Table 7-9. -/
def SVO_SHK (n : Nat) : Nat := svBase n + 0x50
def SVO_SHK_SHKT (n : Nat) : Fld := ⟨SVO_SHK n, 8, 8⟩
def SVO_SHK_SHM1 (n : Nat) : Fld := ⟨SVO_SHK n, 1, 1⟩
def SVO_SHK_SHM0 (n : Nat) : Fld := ⟨SVO_SHK n, 0, 1⟩
/-- SVO_SAMWIN, 07_servo_seek_and_actuators.md, Table 7-9. -/
def SVO_SAMWIN (n : Nat) : Nat := svBase n + 0x54
def SVO_SAMWIN_WACQ (n : Nat) : Fld := ⟨SVO_SAMWIN n, 8, 8⟩
def SVO_SAMWIN_WTRK (n : Nat) : Fld := ⟨SVO_SAMWIN n, 0, 8⟩
/-- SVO_HOFSCTL, 07_servo_seek_and_actuators.md, Table 7-9. -/
def SVO_HOFSCTL (n : Nat) : Nat := svBase n + 0x58
def SVO_HOFSCTL_TRK (n : Nat) : Fld := ⟨SVO_HOFSCTL n, 12, 1⟩
def SVO_HOFSCTL_HKG (n : Nat) : Fld := ⟨SVO_HOFSCTL n, 8, 4⟩
def SVO_HOFSCTL_HOFSLIM (n : Nat) : Fld := ⟨SVO_HOFSCTL n, 0, 8⟩
/-- SVO_CPLCTL, 07_servo_seek_and_actuators.md, Table 7-9. -/
def SVO_CPLCTL (n : Nat) : Nat := svBase n + 0x5C
def SVO_CPLCTL_EN (n : Nat) : Fld := ⟨SVO_CPLCTL n, 0, 4⟩
/-- SVO_DLSTAT, 07_servo_seek_and_actuators.md, Table 7-10. -/
def SVO_DLSTAT (n : Nat) : Nat := svBase n + 0x60
def SVO_DLSTAT_ISENSE (n : Nat) : Fld := ⟨SVO_DLSTAT n, 20, 12⟩
def SVO_DLSTAT_VSENSE (n : Nat) : Fld := ⟨SVO_DLSTAT n, 8, 12⟩
def SVO_DLSTAT_STAT (n : Nat) : Fld := ⟨SVO_DLSTAT n, 4, 4⟩
/-- SVO_CNT0, 07_servo_seek_and_actuators.md, Table 7-10. -/
def SVO_CNT0 (n : Nat) : Nat := svBase n + 0x64
def SVO_CNT0_MISSES (n : Nat) : Fld := ⟨SVO_CNT0 n, 16, 16⟩
def SVO_CNT0_SETLATE (n : Nat) : Fld := ⟨SVO_CNT0 n, 8, 8⟩
def SVO_CNT0_SEEKFAIL (n : Nat) : Fld := ⟨SVO_CNT0 n, 0, 8⟩
/-- SVO_CNT1, 07_servo_seek_and_actuators.md, Table 7-10. -/
def SVO_CNT1 (n : Nat) : Nat := svBase n + 0x68
def SVO_CNT1_SATS (n : Nat) : Fld := ⟨SVO_CNT1 n, 16, 16⟩
def SVO_CNT1_DLERR (n : Nat) : Fld := ⟨SVO_CNT1 n, 8, 8⟩
def SVO_CNT1_UNLOADS (n : Nat) : Fld := ⟨SVO_CNT1 n, 0, 8⟩
/-- SVO_LATCHPOS, 07_servo_seek_and_actuators.md, Table 7-10. -/
def SVO_LATCHPOS (n : Nat) : Nat := svBase n + 0x70
def SVO_LATCHPOS_POS (n : Nat) : Fld := ⟨SVO_LATCHPOS n, 0, 32⟩
/-- SVO_LATCHT, 07_servo_seek_and_actuators.md, Table 7-10. -/
def SVO_LATCHT (n : Nat) : Nat := svBase n + 0x74
def SVO_LATCHT_TIME (n : Nat) : Fld := ⟨SVO_LATCHT n, 0, 32⟩
/-- SVO_LATCHS, 07_servo_seek_and_actuators.md, Table 7-10. -/
def SVO_LATCHS (n : Nat) : Nat := svBase n + 0x78
def SVO_LATCHS_VALID (n : Nat) : Fld := ⟨SVO_LATCHS n, 31, 1⟩
def SVO_LATCHS_EDGE (n : Nat) : Fld := ⟨SVO_LATCHS n, 30, 1⟩
def SVO_LATCHS_EXPECT (n : Nat) : Fld := ⟨SVO_LATCHS n, 29, 1⟩
def SVO_LATCHS_EUOK (n : Nat) : Fld := ⟨SVO_LATCHS n, 28, 1⟩
def SVO_LATCHS_COUNT (n : Nat) : Fld := ⟨SVO_LATCHS n, 0, 8⟩
/-- SPN_CTL, 08_spindle_drive.md, Table 8-8. -/
def SPN_CTL : Nat := 0x1500000 + 0x0
def SPN_CTL_LOCK : Fld := ⟨SPN_CTL, 31, 1⟩
def SPN_CTL_KILL : Fld := ⟨SPN_CTL, 1, 1⟩
def SPN_CTL_EN : Fld := ⟨SPN_CTL, 0, 1⟩
/-- SPN_TARGET, 08_spindle_drive.md, Table 8-8. -/
def SPN_TARGET : Nat := 0x1500000 + 0x4
def SPN_TARGET_RAMP : Fld := ⟨SPN_TARGET, 16, 16⟩
def SPN_TARGET_TARGET : Fld := ⟨SPN_TARGET, 0, 14⟩
/-- SPN_STAT, 08_spindle_drive.md, Table 8-8. -/
def SPN_STAT : Nat := 0x1500000 + 0x8
def SPN_STAT_STATE : Fld := ⟨SPN_STAT, 28, 4⟩
def SPN_STAT_SUB : Fld := ⟨SPN_STAT, 26, 2⟩
def SPN_STAT_READY : Fld := ⟨SPN_STAT, 25, 1⟩
def SPN_STAT_RETOK : Fld := ⟨SPN_STAT, 24, 1⟩
def SPN_STAT_VBLOW : Fld := ⟨SPN_STAT, 23, 1⟩
def SPN_STAT_CEILLIM : Fld := ⟨SPN_STAT, 22, 1⟩
def SPN_STAT_RETEND : Fld := ⟨SPN_STAT, 20, 2⟩
def SPN_STAT_ERR : Fld := ⟨SPN_STAT, 17, 3⟩
def SPN_STAT_EFF : Fld := ⟨SPN_STAT, 0, 14⟩
/-- SPN_SPEED, 08_spindle_drive.md, Table 8-8. -/
def SPN_SPEED : Nat := 0x1500000 + 0xC
def SPN_SPEED_WEDGE : Fld := ⟨SPN_SPEED, 31, 1⟩
def SPN_SPEED_SVO : Fld := ⟨SPN_SPEED, 24, 2⟩
def SPN_SPEED_SPEED : Fld := ⟨SPN_SPEED, 0, 24⟩
/-- SPN_CEIL, 08_spindle_drive.md, Table 8-8. -/
def SPN_CEIL : Nat := 0x1500000 + 0x10
def SPN_CEIL_MODE : Fld := ⟨SPN_CEIL, 30, 2⟩
def SPN_CEIL_VALID : Fld := ⟨SPN_CEIL, 29, 1⟩
def SPN_CEIL_ERR : Fld := ⟨SPN_CEIL, 28, 1⟩
def SPN_CEIL_CEIL : Fld := ⟨SPN_CEIL, 0, 14⟩
/-- SPN_MOT0, 08_spindle_drive.md, Table 8-9. -/
def SPN_MOT0 : Nat := 0x1500000 + 0x20
def SPN_MOT0_POLEP : Fld := ⟨SPN_MOT0, 28, 4⟩
def SPN_MOT0_RS : Fld := ⟨SPN_MOT0, 16, 12⟩
def SPN_MOT0_PSI : Fld := ⟨SPN_MOT0, 0, 16⟩
/-- SPN_SCALE, 08_spindle_drive.md, Table 8-9. -/
def SPN_SCALE : Nat := 0x1500000 + 0x24
def SPN_SCALE_ISC : Fld := ⟨SPN_SCALE, 16, 16⟩
def SPN_SCALE_VSC : Fld := ⟨SPN_SCALE, 0, 16⟩
/-- SPN_OBS, 08_spindle_drive.md, Table 8-9. -/
def SPN_OBS : Nat := 0x1500000 + 0x28
def SPN_OBS_LEAK : Fld := ⟨SPN_OBS, 28, 4⟩
def SPN_OBS_GAINR : Fld := ⟨SPN_OBS, 26, 2⟩
def SPN_OBS_GAINS : Fld := ⟨SPN_OBS, 24, 2⟩
def SPN_OBS_HF : Fld := ⟨SPN_OBS, 16, 8⟩
def SPN_OBS_HT : Fld := ⟨SPN_OBS, 8, 8⟩
def SPN_OBS_DEADT : Fld := ⟨SPN_OBS, 0, 8⟩
/-- SPN_SPD, 08_spindle_drive.md, Table 8-9. -/
def SPN_SPD : Nat := 0x1500000 + 0x2C
def SPN_SPD_KP : Fld := ⟨SPN_SPD, 16, 16⟩
def SPN_SPD_KI : Fld := ⟨SPN_SPD, 0, 16⟩
/-- SPN_TQ, 08_spindle_drive.md, Table 8-9. -/
def SPN_TQ : Nat := 0x1500000 + 0x30
def SPN_TQ_TQMAX : Fld := ⟨SPN_TQ, 20, 12⟩
def SPN_TQ_DECTQ : Fld := ⟨SPN_TQ, 8, 12⟩
/-- SPN_CUR, 08_spindle_drive.md, Table 8-9. -/
def SPN_CUR : Nat := 0x1500000 + 0x34
def SPN_CUR_IPK : Fld := ⟨SPN_CUR, 20, 12⟩
def SPN_CUR_ISPIN : Fld := ⟨SPN_CUR, 8, 12⟩
def SPN_CUR_ISUMMAX : Fld := ⟨SPN_CUR, 0, 8⟩
/-- SPN_VBUS, 08_spindle_drive.md, Table 8-9. -/
def SPN_VBUS : Nat := 0x1500000 + 0x38
def SPN_VBUS_VBHI : Fld := ⟨SPN_VBUS, 24, 8⟩
def SPN_VBUS_VBOV : Fld := ⟨SPN_VBUS, 16, 8⟩
def SPN_VBUS_VBLO : Fld := ⟨SPN_VBUS, 8, 8⟩
def SPN_VBUS_VRET : Fld := ⟨SPN_VBUS, 0, 8⟩
/-- SPN_STRT, 08_spindle_drive.md, Table 8-9. -/
def SPN_STRT : Nat := 0x1500000 + 0x3C
def SPN_STRT_ALIGNT : Fld := ⟨SPN_STRT, 24, 8⟩
def SPN_STRT_SPINT : Fld := ⟨SPN_STRT, 16, 8⟩
def SPN_STRT_HANDOFF : Fld := ⟨SPN_STRT, 4, 12⟩
/-- SPN_STRT2, 08_spindle_drive.md, Table 8-9. -/
def SPN_STRT2 : Nat := 0x1500000 + 0x40
def SPN_STRT2_OLRATE : Fld := ⟨SPN_STRT2, 20, 12⟩
def SPN_STRT2_PRECHG : Fld := ⟨SPN_STRT2, 8, 12⟩
def SPN_STRT2_READYT : Fld := ⟨SPN_STRT2, 0, 8⟩
/-- SPN_STOP, 08_spindle_drive.md, Table 8-9. -/
def SPN_STOP : Nat := 0x1500000 + 0x44
def SPN_STOP_BRKSPD : Fld := ⟨SPN_STOP, 20, 12⟩
def SPN_STOP_BRKT : Fld := ⟨SPN_STOP, 12, 8⟩
def SPN_STOP_HOLDT : Fld := ⟨SPN_STOP, 4, 8⟩
def SPN_STOP_VBLOCNT : Fld := ⟨SPN_STOP, 0, 4⟩
/-- SPN_FLY, 08_spindle_drive.md, Table 8-9. -/
def SPN_FLY : Nat := 0x1500000 + 0x48
def SPN_FLY_FLYMIN : Fld := ⟨SPN_FLY, 18, 14⟩
def SPN_FLY_RETMIN : Fld := ⟨SPN_FLY, 4, 14⟩
/-- SPN_RET, 08_spindle_drive.md, Table 8-9. -/
def SPN_RET : Nat := 0x1500000 + 0x4C
def SPN_RET_TQRET : Fld := ⟨SPN_RET, 20, 12⟩
def SPN_RET_KPV : Fld := ⟨SPN_RET, 10, 10⟩
def SPN_RET_KIV : Fld := ⟨SPN_RET, 0, 10⟩
/-- SPN_PLAUS, 08_spindle_drive.md, Table 8-9. -/
def SPN_PLAUS : Nat := 0x1500000 + 0x50
def SPN_PLAUS_FLUXTOL : Fld := ⟨SPN_PLAUS, 24, 8⟩
def SPN_PLAUS_SPDTOL : Fld := ⟨SPN_PLAUS, 16, 8⟩
def SPN_PLAUS_LOADTOL : Fld := ⟨SPN_PLAUS, 8, 8⟩
def SPN_PLAUS_PLCNT : Fld := ⟨SPN_PLAUS, 4, 4⟩
def SPN_PLAUS_RSMAX : Fld := ⟨SPN_PLAUS, 0, 4⟩
/-- SPN_CNT, 08_spindle_drive.md, Table 8-9. -/
def SPN_CNT : Nat := 0x1500000 + 0x54
def SPN_CNT_RESYNCS : Fld := ⟨SPN_CNT, 24, 8⟩
def SPN_CNT_OCTRIPS : Fld := ⟨SPN_CNT, 16, 8⟩
def SPN_CNT_VBOVS : Fld := ⟨SPN_CNT, 8, 8⟩
def SPN_CNT_STARTS : Fld := ⟨SPN_CNT, 0, 8⟩
/-- SPN_ADCLAST, 08_spindle_drive.md, Table 8-9. -/
def SPN_ADCLAST (c : Nat) : Nat := 0x1500000 + 0x60 + c * 0x4
def SPN_ADCLAST_CONV (c : Nat) : Fld := ⟨SPN_ADCLAST c, 31, 1⟩
def SPN_ADCLAST_CH (c : Nat) : Fld := ⟨SPN_ADCLAST c, 28, 3⟩
def SPN_ADCLAST_GAIN (c : Nat) : Fld := ⟨SPN_ADCLAST c, 26, 2⟩
def SPN_ADCLAST_SEQ (c : Nat) : Fld := ⟨SPN_ADCLAST c, 16, 8⟩
def SPN_ADCLAST_VALUE (c : Nat) : Fld := ⟨SPN_ADCLAST c, 0, 12⟩
/-- SQR_CTL, 09_the_square.md, Table 9-6. -/
def SQR_CTL : Nat := 0x400000 + 0x0
def SQR_CTL_LOCK : Fld := ⟨SQR_CTL, 31, 1⟩
def SQR_CTL_INIT : Fld := ⟨SQR_CTL, 0, 1⟩
/-- SQR_DRAMCFG, 09_the_square.md, Table 9-7. -/
def SQR_DRAMCFG : Nat := 0x400000 + 0x4
def SQR_DRAMCFG_SIZE : Fld := ⟨SQR_DRAMCFG, 0, 2⟩
/-- SQR_PAGECFG, 09_the_square.md, Table 9-7. -/
def SQR_PAGECFG : Nat := 0x400000 + 0x8
def SQR_PAGECFG_FW16 : Fld := ⟨SQR_PAGECFG, 24, 8⟩
def SQR_PAGECFG_URGRES : Fld := ⟨SQR_PAGECFG, 16, 8⟩
def SQR_PAGECFG_FREELOW : Fld := ⟨SQR_PAGECFG, 8, 8⟩
def SQR_PAGECFG_PROTPCT : Fld := ⟨SQR_PAGECFG, 0, 8⟩
/-- SQR_STAT, 09_the_square.md, Table 9-8. -/
def SQR_STAT : Nat := 0x400000 + 0xC
def SQR_STAT_READY : Fld := ⟨SQR_STAT, 31, 1⟩
def SQR_STAT_ERR : Fld := ⟨SQR_STAT, 28, 3⟩
def SQR_STAT_NPAGES : Fld := ⟨SQR_STAT, 0, 22⟩
/-- SQR_FREE, 09_the_square.md, Table 9-8. -/
def SQR_FREE : Nat := 0x400000 + 0x10
def SQR_FREE_FREE : Fld := ⟨SQR_FREE, 0, 22⟩
/-- SQR_WIN, 09_the_square.md, Table 9-9. -/
def SQR_WIN : Nat := 0x400000 + 0x14
def SQR_WIN_WINHI : Fld := ⟨SQR_WIN, 16, 3⟩
def SQR_WIN_WIN : Fld := ⟨SQR_WIN, 0, 9⟩
/-- SQR_WINSTAT, 09_the_square.md, Table 9-9. -/
def SQR_WINSTAT : Nat := 0x400000 + 0x18
def SQR_WINSTAT_HELD : Fld := ⟨SQR_WINSTAT, 31, 1⟩
def SQR_WINSTAT_DIRTY : Fld := ⟨SQR_WINSTAT, 0, 17⟩
/-- SQR_GATHER, 09_the_square.md, Table 9-10. -/
def SQR_GATHER : Nat := 0x400000 + 0x1C
def SQR_GATHER_GTO : Fld := ⟨SQR_GATHER, 16, 16⟩
def SQR_GATHER_GMAX : Fld := ⟨SQR_GATHER, 0, 9⟩
/-- SQR_GSTAT, 09_the_square.md, Table 9-10. -/
def SQR_GSTAT : Nat := 0x400000 + 0x20
def SQR_GSTAT_OPEN : Fld := ⟨SQR_GSTAT, 0, 9⟩
/-- SQR_DRAIN, 09_the_square.md, Table 9-11. -/
def SQR_DRAIN : Nat := 0x400000 + 0x24
def SQR_DRAIN_EPOCH : Fld := ⟨SQR_DRAIN, 24, 8⟩
def SQR_DRAIN_OLDEST : Fld := ⟨SQR_DRAIN, 16, 8⟩
def SQR_DRAIN_DRJT : Fld := ⟨SQR_DRAIN, 8, 8⟩
def SQR_DRAIN_DRMODE : Fld := ⟨SQR_DRAIN, 0, 1⟩
/-- SQR_RA, 09_the_square.md, Table 9-12. -/
def SQR_RA : Nat := 0x400000 + 0x28
def SQR_RA_EN : Fld := ⟨SQR_RA, 31, 1⟩
def SQR_RA_RADL : Fld := ⟨SQR_RA, 20, 11⟩
def SQR_RA_RADEPTH : Fld := ⟨SQR_RA, 12, 8⟩
def SQR_RA_RAGAP : Fld := ⟨SQR_RA, 4, 8⟩
def SQR_RA_CONF : Fld := ⟨SQR_RA, 0, 4⟩
/-- SQR_LOCKCFG, 09_the_square.md, Table 9-12. -/
def SQR_LOCKCFG : Nat := 0x400000 + 0x2C
def SQR_LOCKCFG_LOCKWARN : Fld := ⟨SQR_LOCKCFG, 0, 16⟩
/-- SQR_TVCAP, 09_the_square.md, Table 9-13. -/
def SQR_TVCAP : Nat := 0x400000 + 0x40
def SQR_TVCAP_VALID : Fld := ⟨SQR_TVCAP, 31, 1⟩
def SQR_TVCAP_WRITE : Fld := ⟨SQR_TVCAP, 30, 1⟩
def SQR_TVCAP_TENV : Fld := ⟨SQR_TVCAP, 29, 1⟩
def SQR_TVCAP_TEN : Fld := ⟨SQR_TVCAP, 22, 7⟩
def SQR_TVCAP_PAGE : Fld := ⟨SQR_TVCAP, 0, 22⟩
/-- SQR_CNT0, 09_the_square.md, Table 9-13. -/
def SQR_CNT0 : Nat := 0x400000 + 0x44
def SQR_CNT0_RETIRED : Fld := ⟨SQR_CNT0, 16, 16⟩
def SQR_CNT0_TVIOL : Fld := ⟨SQR_CNT0, 0, 16⟩
/-- SQR_CNT1, 09_the_square.md, Table 9-13. -/
def SQR_CNT1 : Nat := 0x400000 + 0x48
def SQR_CNT1_GTIMEOUTS : Fld := ⟨SQR_CNT1, 16, 16⟩
def SQR_CNT1_WINHOLDS : Fld := ⟨SQR_CNT1, 8, 8⟩
def SQR_CNT1_ALLOCWAITS : Fld := ⟨SQR_CNT1, 0, 8⟩
/-- SQR_CNT2, 09_the_square.md, Table 9-13. -/
def SQR_CNT2 : Nat := 0x400000 + 0x4C
def SQR_CNT2_RAFAIL : Fld := ⟨SQR_CNT2, 16, 16⟩
def SQR_CNT2_LOCKERR : Fld := ⟨SQR_CNT2, 0, 16⟩
/-- SQR_LOCKOP, 09_the_square.md, Table 9-14. -/
def SQR_LOCKOP (k : Nat) : Nat := 0x400000 + 0x2000 + k * 0x4
def SQR_LOCKOP_RESULT (k : Nat) : Fld := ⟨SQR_LOCKOP k, 29, 3⟩
def SQR_LOCKOP_LAST (k : Nat) : Fld := ⟨SQR_LOCKOP k, 8, 8⟩
def SQR_LOCKOP_OWNER (k : Nat) : Fld := ⟨SQR_LOCKOP k, 0, 8⟩
/-- SQR_LOCKSTAT, 09_the_square.md, Table 9-15. -/
def SQR_LOCKSTAT (k : Nat) : Nat := 0x400000 + 0x1000 + k * 0x4
def SQR_LOCKSTAT_HELD (k : Nat) : Fld := ⟨SQR_LOCKSTAT k, 31, 1⟩
def SQR_LOCKSTAT_ORPHANED (k : Nat) : Fld := ⟨SQR_LOCKSTAT k, 30, 1⟩
def SQR_LOCKSTAT_LAST (k : Nat) : Fld := ⟨SQR_LOCKSTAT k, 8, 8⟩
def SQR_LOCKSTAT_OWNER (k : Nat) : Fld := ⟨SQR_LOCKSTAT k, 0, 8⟩
/-- FLS_CTL, 10_flash_store.md, Table 10-9. -/
def FLS_CTL : Nat := 0x600000 + 0x0
def FLS_CTL_LOCK : Fld := ⟨FLS_CTL, 31, 1⟩
def FLS_CTL_FSEL : Fld := ⟨FLS_CTL, 2, 2⟩
def FLS_CTL_PATROL : Fld := ⟨FLS_CTL, 1, 1⟩
/-- FLS_STAT, 10_flash_store.md, Table 10-9. -/
def FLS_STAT : Nat := 0x600000 + 0x4
def FLS_STAT_BAND : Fld := ⟨FLS_STAT, 30, 2⟩
def FLS_STAT_IDLE : Fld := ⟨FLS_STAT, 29, 1⟩
def FLS_STAT_DEGRADED : Fld := ⟨FLS_STAT, 28, 1⟩
def FLS_STAT_COMMIT : Fld := ⟨FLS_STAT, 27, 1⟩
def FLS_STAT_RESERVE : Fld := ⟨FLS_STAT, 16, 11⟩
def FLS_STAT_RESREQ : Fld := ⟨FLS_STAT, 0, 11⟩
/-- FLS_WAIT_W0, 10_flash_store.md, Table 10-9. -/
def FLS_WAIT_W0 (b : Nat) : Nat := 0x600000 + 0x10 + b * 0x8
def FLS_WAIT_W0_TWHR (b : Nat) : Fld := ⟨FLS_WAIT_W0 b, 24, 8⟩
def FLS_WAIT_W0_TADL (b : Nat) : Fld := ⟨FLS_WAIT_W0 b, 16, 8⟩
def FLS_WAIT_W0_TRHW (b : Nat) : Fld := ⟨FLS_WAIT_W0 b, 8, 8⟩
def FLS_WAIT_W0_TWB (b : Nat) : Fld := ⟨FLS_WAIT_W0 b, 0, 8⟩
/-- FLS_WAIT_W1, 10_flash_store.md, Table 10-9. -/
def FLS_WAIT_W1 (b : Nat) : Nat := 0x600000 + 0x14 + b * 0x8
def FLS_WAIT_W1_TCCS (b : Nat) : Fld := ⟨FLS_WAIT_W1 b, 0, 8⟩
/-- FLS_ATIME, 10_flash_store.md, Table 10-9. -/
def FLS_ATIME (b : Nat) : Nat := 0x600000 + 0x20 + b * 0x4
def FLS_ATIME_TR (b : Nat) : Fld := ⟨FLS_ATIME b, 24, 8⟩
def FLS_ATIME_TPROG (b : Nat) : Fld := ⟨FLS_ATIME b, 15, 9⟩
def FLS_ATIME_TBERS (b : Nat) : Fld := ⟨FLS_ATIME b, 6, 9⟩
def FLS_ATIME_TESPD (b : Nat) : Fld := ⟨FLS_ATIME b, 0, 6⟩
/-- FLS_SUSP, 10_flash_store.md, Table 10-9. -/
def FLS_SUSP : Nat := 0x600000 + 0x28
def FLS_SUSP_ERSMIN : Fld := ⟨FLS_SUSP, 24, 8⟩
def FLS_SUSP_SUSPRD : Fld := ⟨FLS_SUSP, 16, 8⟩
def FLS_SUSP_SUSPMAX : Fld := ⟨FLS_SUSP, 8, 8⟩
/-- FLS_MARGIN, 10_flash_store.md, Table 10-9. -/
def FLS_MARGIN : Nat := 0x600000 + 0x2C
def FLS_MARGIN_MVTHR : Fld := ⟨FLS_MARGIN, 24, 8⟩
def FLS_MARGIN_REFTHR : Fld := ⟨FLS_MARGIN, 16, 8⟩
def FLS_MARGIN_PATROLD : Fld := ⟨FLS_MARGIN, 0, 16⟩
/-- FLS_WEARCFG, 10_flash_store.md, Table 10-9. -/
def FLS_WEARCFG : Nat := 0x600000 + 0x40
def FLS_WEARCFG_ERLIMIT : Fld := ⟨FLS_WEARCFG, 16, 16⟩
def FLS_WEARCFG_BUDGET : Fld := ⟨FLS_WEARCFG, 0, 16⟩
/-- FLS_WUSED_LO, 10_flash_store.md, Table 10-9. -/
def FLS_WUSED_LO : Nat := 0x600000 + 0x44
def FLS_WUSED_LO_WUSED : Fld := ⟨FLS_WUSED_LO, 0, 32⟩
/-- FLS_WUSED_HI, 10_flash_store.md, Table 10-9. -/
def FLS_WUSED_HI : Nat := 0x600000 + 0x48
def FLS_WUSED_HI_WUSED : Fld := ⟨FLS_WUSED_HI, 0, 32⟩
/-- FLS_ECNT, 10_flash_store.md, Table 10-9. -/
def FLS_ECNT : Nat := 0x600000 + 0x4C
def FLS_ECNT_MAX : Fld := ⟨FLS_ECNT, 16, 16⟩
def FLS_ECNT_MIN : Fld := ⟨FLS_ECNT, 0, 16⟩
/-- FLS_BBT, 10_flash_store.md, Table 10-9. -/
def FLS_BBT (d : Nat) : Nat := 0x600000 + 0x60 + d * 0x4
def FLS_BBT_FACTORY (d : Nat) : Fld := ⟨FLS_BBT d, 16, 8⟩
def FLS_BBT_GROWN (d : Nat) : Fld := ⟨FLS_BBT d, 0, 9⟩
/-- FLS_CNT0, 10_flash_store.md, Table 10-9. -/
def FLS_CNT0 : Nat := 0x600000 + 0x68
def FLS_CNT0_CORRHI : Fld := ⟨FLS_CNT0, 16, 16⟩
def FLS_CNT0_UNCORR : Fld := ⟨FLS_CNT0, 0, 16⟩
/-- FLS_CNT1, 10_flash_store.md, Table 10-9. -/
def FLS_CNT1 : Nat := 0x600000 + 0x6C
def FLS_CNT1_PFAIL : Fld := ⟨FLS_CNT1, 24, 8⟩
def FLS_CNT1_EFAIL : Fld := ⟨FLS_CNT1, 16, 8⟩
def FLS_CNT1_SUSPENDS : Fld := ⟨FLS_CNT1, 0, 16⟩
/-- FLS_ERRCAP, 10_flash_store.md, Table 10-9. -/
def FLS_ERRCAP : Nat := 0x600000 + 0x70
def FLS_ERRCAP_VALID : Fld := ⟨FLS_ERRCAP, 31, 1⟩
def FLS_ERRCAP_STATUS : Fld := ⟨FLS_ERRCAP, 26, 5⟩
def FLS_ERRCAP_PSA : Fld := ⟨FLS_ERRCAP, 0, 25⟩
/-- FLS_PATROL, 10_flash_store.md, Table 10-9. -/
def FLS_PATROL : Nat := 0x600000 + 0x74
def FLS_PATROL_VALID : Fld := ⟨FLS_PATROL, 31, 1⟩
def FLS_PATROL_DIE : Fld := ⟨FLS_PATROL, 12, 1⟩
def FLS_PATROL_BLOCK : Fld := ⟨FLS_PATROL, 0, 12⟩
/-- SQR_REDCTL, 11_cross_avenue_redundancy.md, Table 11-6. -/
def SQR_REDCTL : Nat := 0x400000 + 0x3000
def SQR_REDCTL_SYNCRATE : Fld := ⟨SQR_REDCTL, 24, 8⟩
def SQR_REDCTL_BGRATE : Fld := ⟨SQR_REDCTL, 16, 8⟩
def SQR_REDCTL_L6CEIL : Fld := ⟨SQR_REDCTL, 12, 4⟩
def SQR_REDCTL_BAL : Fld := ⟨SQR_REDCTL, 11, 1⟩
def SQR_REDCTL_FACELIM : Fld := ⟨SQR_REDCTL, 0, 8⟩
/-- SQR_AVFAIL, 11_cross_avenue_redundancy.md, Table 11-6. -/
def SQR_AVFAIL : Nat := 0x400000 + 0x3004
def SQR_AVFAIL_FACE : Fld := ⟨SQR_AVFAIL, 4, 20⟩
def SQR_AVFAIL_ACT : Fld := ⟨SQR_AVFAIL, 0, 4⟩
/-- SQR_REDSTAT, 11_cross_avenue_redundancy.md, Table 11-6. -/
def SQR_REDSTAT : Nat := 0x400000 + 0x3008
def SQR_REDSTAT_NDEG : Fld := ⟨SQR_REDSTAT, 24, 8⟩
def SQR_REDSTAT_NSYNC : Fld := ⟨SQR_REDSTAT, 16, 8⟩
def SQR_REDSTAT_NRESH : Fld := ⟨SQR_REDSTAT, 8, 8⟩
def SQR_REDSTAT_NSUSP : Fld := ⟨SQR_REDSTAT, 0, 8⟩
/-- SQR_REDCNT, 11_cross_avenue_redundancy.md, Table 11-6. -/
def SQR_REDCNT : Nat := 0x400000 + 0x300C
def SQR_REDCNT_RECON : Fld := ⟨SQR_REDCNT, 16, 16⟩
def SQR_REDCNT_SYNCMIS : Fld := ⟨SQR_REDCNT, 0, 16⟩
/-- SQR_REGION0, 11_cross_avenue_redundancy.md, Table 11-7. -/
def SQR_REGION0 (r : Nat) : Nat := 0x400000 + 0x3400 + r * 0x80
def SQR_REGION0_LAYOUT (r : Nat) : Fld := ⟨SQR_REGION0 r, 30, 2⟩
def SQR_REGION0_AVMASK (r : Nat) : Fld := ⟨SQR_REGION0 r, 26, 4⟩
def SQR_REGION0_CHUNK (r : Nat) : Fld := ⟨SQR_REGION0 r, 19, 7⟩
def SQR_REGION0_GEN (r : Nat) : Fld := ⟨SQR_REGION0 r, 13, 6⟩
/-- SQR_REGION1, 11_cross_avenue_redundancy.md, Table 11-7. -/
def SQR_REGION1 (r : Nat) : Nat := 0x400000 + 0x3404 + r * 0x80
def SQR_REGION1_DEG (r : Nat) : Fld := ⟨SQR_REGION1 r, 31, 1⟩
def SQR_REGION1_RSY (r : Nat) : Fld := ⟨SQR_REGION1 r, 30, 1⟩
def SQR_REGION1_RBD (r : Nat) : Fld := ⟨SQR_REGION1 r, 29, 1⟩
def SQR_REGION1_RSH (r : Nat) : Fld := ⟨SQR_REGION1 r, 28, 1⟩
def SQR_REGION1_PAUSE (r : Nat) : Fld := ⟨SQR_REGION1 r, 27, 1⟩
def SQR_REGION1_SUSPECT (r : Nat) : Fld := ⟨SQR_REGION1 r, 26, 1⟩
/-- SQR_REGION2, 11_cross_avenue_redundancy.md, Table 11-7. -/
def SQR_REGION2 (r : Nat) : Nat := 0x400000 + 0x3408 + r * 0x80
def SQR_REGION2_RSIZE (r : Nat) : Fld := ⟨SQR_REGION2 r, 0, 32⟩
/-- SQR_REGION3, 11_cross_avenue_redundancy.md, Table 11-7. -/
def SQR_REGION3 (r : Nat) : Nat := 0x400000 + 0x340C + r * 0x80
def SQR_REGION3_ALEN (r : Nat) : Fld := ⟨SQR_REGION3 r, 0, 24⟩
/-- SQR_REGION4, 11_cross_avenue_redundancy.md, Table 11-7. -/
def SQR_REGION4 (r : Nat) : Nat := 0x400000 + 0x3410 + r * 0x80
def SQR_REGION4_ABASE (r : Nat) : Fld := ⟨SQR_REGION4 r, 0, 24⟩
/-- SQR_REGION5, 11_cross_avenue_redundancy.md, Table 11-7. -/
def SQR_REGION5 (r : Nat) : Nat := 0x400000 + 0x3414 + r * 0x80
def SQR_REGION5_ABASE (r : Nat) : Fld := ⟨SQR_REGION5 r, 0, 24⟩
/-- SQR_REGION6, 11_cross_avenue_redundancy.md, Table 11-7. -/
def SQR_REGION6 (r : Nat) : Nat := 0x400000 + 0x3418 + r * 0x80
def SQR_REGION6_ABASE (r : Nat) : Fld := ⟨SQR_REGION6 r, 0, 24⟩
/-- SQR_REGION7, 11_cross_avenue_redundancy.md, Table 11-7. -/
def SQR_REGION7 (r : Nat) : Nat := 0x400000 + 0x341C + r * 0x80
def SQR_REGION7_ABASE (r : Nat) : Fld := ⟨SQR_REGION7 r, 0, 24⟩
/-- SQR_REGION8, 11_cross_avenue_redundancy.md, Table 11-7. -/
def SQR_REGION8 (r : Nat) : Nat := 0x400000 + 0x3420 + r * 0x80
def SQR_REGION8_TLAYOUT (r : Nat) : Fld := ⟨SQR_REGION8 r, 30, 2⟩
def SQR_REGION8_TAVMASK (r : Nat) : Fld := ⟨SQR_REGION8 r, 26, 4⟩
def SQR_REGION8_TCHUNK (r : Nat) : Fld := ⟨SQR_REGION8 r, 19, 7⟩
def SQR_REGION8_TGEN (r : Nat) : Fld := ⟨SQR_REGION8 r, 13, 6⟩
/-- SQR_REGION9, 11_cross_avenue_redundancy.md, Table 11-7. -/
def SQR_REGION9 (r : Nat) : Nat := 0x400000 + 0x3424 + r * 0x80
def SQR_REGION9_TALEN (r : Nat) : Fld := ⟨SQR_REGION9 r, 0, 24⟩
/-- SQR_REGION10, 11_cross_avenue_redundancy.md, Table 11-7. -/
def SQR_REGION10 (r : Nat) : Nat := 0x400000 + 0x3428 + r * 0x80
def SQR_REGION10_TABASE (r : Nat) : Fld := ⟨SQR_REGION10 r, 0, 24⟩
/-- SQR_REGION11, 11_cross_avenue_redundancy.md, Table 11-7. -/
def SQR_REGION11 (r : Nat) : Nat := 0x400000 + 0x342C + r * 0x80
def SQR_REGION11_TABASE (r : Nat) : Fld := ⟨SQR_REGION11 r, 0, 24⟩
/-- SQR_REGION12, 11_cross_avenue_redundancy.md, Table 11-7. -/
def SQR_REGION12 (r : Nat) : Nat := 0x400000 + 0x3430 + r * 0x80
def SQR_REGION12_TABASE (r : Nat) : Fld := ⟨SQR_REGION12 r, 0, 24⟩
/-- SQR_REGION13, 11_cross_avenue_redundancy.md, Table 11-7. -/
def SQR_REGION13 (r : Nat) : Nat := 0x400000 + 0x3434 + r * 0x80
def SQR_REGION13_TABASE (r : Nat) : Fld := ⟨SQR_REGION13 r, 0, 24⟩
/-- SQR_REGION14, 11_cross_avenue_redundancy.md, Table 11-7. -/
def SQR_REGION14 (r : Nat) : Nat := 0x400000 + 0x3438 + r * 0x80
def SQR_REGION14_BOUND (r : Nat) : Fld := ⟨SQR_REGION14 r, 0, 32⟩
/-- SQR_REGION15, 11_cross_avenue_redundancy.md, Table 11-7. -/
def SQR_REGION15 (r : Nat) : Nat := 0x400000 + 0x343C + r * 0x80
def SQR_REGION15_BCKPT (r : Nat) : Fld := ⟨SQR_REGION15 r, 0, 32⟩
/-- SQR_REGION16, 11_cross_avenue_redundancy.md, Table 11-7. -/
def SQR_REGION16 (r : Nat) : Nat := 0x400000 + 0x3440 + r * 0x80
def SQR_REGION16_CURSOR (r : Nat) : Fld := ⟨SQR_REGION16 r, 0, 32⟩
/-- SQR_REGION17, 11_cross_avenue_redundancy.md, Table 11-7. -/
def SQR_REGION17 (r : Nat) : Nat := 0x400000 + 0x3444 + r * 0x80
/-- SQR_REGION18, 11_cross_avenue_redundancy.md, Table 11-7. -/
def SQR_REGION18 (r : Nat) : Nat := 0x400000 + 0x3448 + r * 0x80
/-- SQR_REGION19, 11_cross_avenue_redundancy.md, Table 11-7. -/
def SQR_REGION19 (r : Nat) : Nat := 0x400000 + 0x344C + r * 0x80
/-- SQR_REGION20, 11_cross_avenue_redundancy.md, Table 11-7. -/
def SQR_REGION20 (r : Nat) : Nat := 0x400000 + 0x3450 + r * 0x80
/-- SQR_REGION21, 11_cross_avenue_redundancy.md, Table 11-7. -/
def SQR_REGION21 (r : Nat) : Nat := 0x400000 + 0x3454 + r * 0x80
/-- SQR_REGION22, 11_cross_avenue_redundancy.md, Table 11-7. -/
def SQR_REGION22 (r : Nat) : Nat := 0x400000 + 0x3458 + r * 0x80
/-- SQR_REGION23, 11_cross_avenue_redundancy.md, Table 11-7. -/
def SQR_REGION23 (r : Nat) : Nat := 0x400000 + 0x345C + r * 0x80
/-- SQR_REGION24, 11_cross_avenue_redundancy.md, Table 11-7. -/
def SQR_REGION24 (r : Nat) : Nat := 0x400000 + 0x3460 + r * 0x80
/-- SQR_REGION25, 11_cross_avenue_redundancy.md, Table 11-7. -/
def SQR_REGION25 (r : Nat) : Nat := 0x400000 + 0x3464 + r * 0x80
/-- SQR_REGION26, 11_cross_avenue_redundancy.md, Table 11-7. -/
def SQR_REGION26 (r : Nat) : Nat := 0x400000 + 0x3468 + r * 0x80
/-- SQR_REGION27, 11_cross_avenue_redundancy.md, Table 11-7. -/
def SQR_REGION27 (r : Nat) : Nat := 0x400000 + 0x346C + r * 0x80
/-- SQR_REGION28, 11_cross_avenue_redundancy.md, Table 11-7. -/
def SQR_REGION28 (r : Nat) : Nat := 0x400000 + 0x3470 + r * 0x80
/-- SQR_REGION29, 11_cross_avenue_redundancy.md, Table 11-7. -/
def SQR_REGION29 (r : Nat) : Nat := 0x400000 + 0x3474 + r * 0x80
/-- SQR_REGION30, 11_cross_avenue_redundancy.md, Table 11-7. -/
def SQR_REGION30 (r : Nat) : Nat := 0x400000 + 0x3478 + r * 0x80
/-- SQR_REGION31, 11_cross_avenue_redundancy.md, Table 11-7. -/
def SQR_REGION31 (r : Nat) : Nat := 0x400000 + 0x347C + r * 0x80
/-- HST_CTL, 12_host_link_and_ports.md, Table 12-10. -/
def HST_CTL : Nat := 0x200000 + 0x0
def HST_CTL_LOCK : Fld := ⟨HST_CTL, 31, 1⟩
def HST_CTL_MODE : Fld := ⟨HST_CTL, 1, 1⟩
def HST_CTL_APPLY : Fld := ⟨HST_CTL, 0, 1⟩
/-- HST_CFGSTAT, 12_host_link_and_ports.md, Table 12-10. -/
def HST_CFGSTAT : Nat := 0x200000 + 0x4
def HST_CFGSTAT_ERR : Fld := ⟨HST_CFGSTAT, 29, 3⟩
def HST_CFGSTAT_FN : Fld := ⟨HST_CFGSTAT, 0, 7⟩
/-- HST_PORT, 12_host_link_and_ports.md, Table 12-10. -/
def HST_PORT (p : Nat) : Nat := 0x200000 + 0x10 + p * 0x4
def HST_PORT_UP (p : Nat) : Fld := ⟨HST_PORT p, 31, 1⟩
def HST_PORT_PERST (p : Nat) : Fld := ⟨HST_PORT p, 30, 1⟩
def HST_PORT_RATE (p : Nat) : Fld := ⟨HST_PORT p, 27, 3⟩
def HST_PORT_WIDTH (p : Nat) : Fld := ⟨HST_PORT p, 24, 3⟩
def HST_PORT_DOWNS (p : Nat) : Fld := ⟨HST_PORT p, 0, 16⟩
/-- HST_SSID, 12_host_link_and_ports.md, Table 12-10. -/
def HST_SSID : Nat := 0x200000 + 0x20
def HST_SSID_SSID : Fld := ⟨HST_SSID, 16, 16⟩
def HST_SSID_SSVID : Fld := ⟨HST_SSID, 0, 16⟩
/-- HST_PFCFG, 12_host_link_and_ports.md, Table 12-10. -/
def HST_PFCFG (p : Nat) : Nat := 0x200000 + 0x30 + p * 0x4
def HST_PFCFG_TOTALVF (p : Nat) : Fld := ⟨HST_PFCFG p, 0, 6⟩
/-- HST_MI, 12_host_link_and_ports.md, Table 12-10. -/
def HST_MI : Nat := 0x200000 + 0x40
def HST_MI_EN : Fld := ⟨HST_MI, 7, 1⟩
def HST_MI_ADDR : Fld := ⟨HST_MI, 0, 7⟩
/-- HST_FN, 12_host_link_and_ports.md, Table 12-11. -/
def HST_FN (f : Nat) : Nat := 0x200000 + 0x400 + f * 0x4
def HST_FN_EN (f : Nat) : Fld := ⟨HST_FN f, 31, 1⟩
def HST_FN_IOQ (f : Nat) : Fld := ⟨HST_FN f, 12, 12⟩
def HST_FN_MSIX (f : Nat) : Fld := ⟨HST_FN f, 0, 12⟩
/-- RBT_CTL, 13_queues_and_roundabout.md, Table 13-11. -/
def RBT_CTL : Nat := 0x300000 + 0x0
def RBT_CTL_LOCK : Fld := ⟨RBT_CTL, 31, 1⟩
/-- RBT_ARB, 13_queues_and_roundabout.md, Table 13-11. -/
def RBT_ARB : Nat := 0x300000 + 0x4
def RBT_ARB_INTSHARE : Fld := ⟨RBT_ARB, 24, 8⟩
def RBT_ARB_AGEMAX : Fld := ⟨RBT_ARB, 8, 16⟩
def RBT_ARB_DRCOAL : Fld := ⟨RBT_ARB, 0, 8⟩
/-- RBT_TAGSTAT, 13_queues_and_roundabout.md, Table 13-11. -/
def RBT_TAGSTAT : Nat := 0x300000 + 0x8
def RBT_TAGSTAT_HOLD : Fld := ⟨RBT_TAGSTAT, 31, 1⟩
def RBT_TAGSTAT_FREE : Fld := ⟨RBT_TAGSTAT, 16, 15⟩
def RBT_TAGSTAT_URGENT : Fld := ⟨RBT_TAGSTAT, 0, 15⟩
/-- RBT_CNT, 13_queues_and_roundabout.md, Table 13-11. -/
def RBT_CNT : Nat := 0x300000 + 0xC
def RBT_CNT_EPISODES : Fld := ⟨RBT_CNT, 16, 16⟩
def RBT_CNT_NOTAG : Fld := ⟨RBT_CNT, 0, 16⟩
/-- RBT_ACT, 13_queues_and_roundabout.md, Table 13-11. -/
def RBT_ACT : Nat := 0x300000 + 0x10
def RBT_ACT_STEP : Fld := ⟨RBT_ACT, 29, 3⟩
def RBT_ACT_INFLIGHT : Fld := ⟨RBT_ACT, 0, 16⟩
/-- RBT_AVWIN, 13_queues_and_roundabout.md, Table 13-11. -/
def RBT_AVWIN (i : Nat) : Nat := 0x300000 + 0x20 + i * 0x4
def RBT_AVWIN_OPS (i : Nat) : Fld := ⟨RBT_AVWIN i, 16, 10⟩
def RBT_AVWIN_URG (i : Nat) : Fld := ⟨RBT_AVWIN i, 0, 5⟩
/-- RBT_CW, 13_queues_and_roundabout.md, Table 13-11. -/
def RBT_CW (c : Nat) : Nat := 0x300000 + 0x400 + c * 0x4
def RBT_CW_CW (c : Nat) : Fld := ⟨RBT_CW c, 0, 8⟩
/-- ARC_CTL, 14_arcade_services.md, Table 14-7. -/
def ARC_CTL : Nat := 0x800000 + 0x0
def ARC_CTL_LOCK : Fld := ⟨ARC_CTL, 31, 1⟩
def ARC_CTL_SCALL : Fld := ⟨ARC_CTL, 1, 1⟩
def ARC_CTL_EN : Fld := ⟨ARC_CTL, 0, 1⟩
/-- ARC_VER, 14_arcade_services.md, Table 14-7. -/
def ARC_VER : Nat := 0x800000 + 0x4
def ARC_VER_IF : Fld := ⟨ARC_VER, 16, 16⟩
def ARC_VER_BUILD : Fld := ⟨ARC_VER, 0, 16⟩
/-- ARC_CTXCFG, 14_arcade_services.md, Table 14-7. -/
def ARC_CTXCFG : Nat := 0x800000 + 0x8
def ARC_CTXCFG_PMAX : Fld := ⟨ARC_CTXCFG, 0, 8⟩
/-- ARC_STAT, 14_arcade_services.md, Table 14-7. -/
def ARC_STAT : Nat := 0x800000 + 0xC
def ARC_STAT_ACTIVE : Fld := ⟨ARC_STAT, 23, 9⟩
def ARC_STAT_PERSIST : Fld := ⟨ARC_STAT, 15, 8⟩
def ARC_STAT_WAITING : Fld := ⟨ARC_STAT, 0, 15⟩
/-- ARC_CNT0, 14_arcade_services.md, Table 14-7. -/
def ARC_CNT0 : Nat := 0x800000 + 0x10
def ARC_CNT0_SCMIS : Fld := ⟨ARC_CNT0, 16, 16⟩
def ARC_CNT0_ABORTS : Fld := ⟨ARC_CNT0, 0, 16⟩
/-- ARC_CNT1, 14_arcade_services.md, Table 14-7. -/
def ARC_CNT1 : Nat := 0x800000 + 0x14
def ARC_CNT1_CTXWAITS : Fld := ⟨ARC_CNT1, 16, 16⟩
def ARC_CNT1_IDXFULL : Fld := ⟨ARC_CNT1, 0, 16⟩
/-- ARC_TENQ, 14_arcade_services.md, Table 14-7. -/
def ARC_TENQ (t : Nat) : Nat := 0x800000 + 0x100 + t * 0x4
def ARC_TENQ_USED (t : Nat) : Fld := ⟨ARC_TENQ t, 8, 8⟩
def ARC_TENQ_QUOTA (t : Nat) : Fld := ⟨ARC_TENQ t, 0, 8⟩
/-- TGT_CTL, 15_tollgate_security.md, Table 15-11. -/
def TGT_CTL : Nat := 0x700000 + 0x0
def TGT_CTL_LOCK : Fld := ⟨TGT_CTL, 31, 1⟩
def TGT_CTL_HBEAT : Fld := ⟨TGT_CTL, 0, 8⟩
/-- TGT_STAT, 15_tollgate_security.md, Table 15-11. -/
def TGT_STAT : Nat := 0x700000 + 0x4
def TGT_STAT_LIFE : Fld := ⟨TGT_STAT, 30, 2⟩
def TGT_STAT_OSESS : Fld := ⟨TGT_STAT, 29, 1⟩
def TGT_STAT_OSFN : Fld := ⟨TGT_STAT, 22, 7⟩
def TGT_STAT_DBG : Fld := ⟨TGT_STAT, 20, 2⟩
def TGT_STAT_ENTOK : Fld := ⟨TGT_STAT, 19, 1⟩
def TGT_STAT_KEYS : Fld := ⟨TGT_STAT, 18, 1⟩
def TGT_STAT_NSESS : Fld := ⟨TGT_STAT, 0, 4⟩
/-- TGT_ROOT, 15_tollgate_security.md, Table 15-11. -/
def TGT_ROOT : Nat := 0x700000 + 0x8
def TGT_ROOT_OSLOT : Fld := ⟨TGT_ROOT, 16, 2⟩
def TGT_ROOT_OWNVALID : Fld := ⟨TGT_ROOT, 12, 4⟩
def TGT_ROOT_OWNREV : Fld := ⟨TGT_ROOT, 8, 4⟩
def TGT_ROOT_VENREV : Fld := ⟨TGT_ROOT, 4, 4⟩
/-- TGT_SVN, 15_tollgate_security.md, Table 15-11. -/
def TGT_SVN (c : Nat) : Nat := 0x700000 + 0x10 + c * 0x4
def TGT_SVN_LOADED (c : Nat) : Fld := ⟨TGT_SVN c, 8, 8⟩
def TGT_SVN_FLOOR (c : Nat) : Fld := ⟨TGT_SVN c, 0, 8⟩
/-- TGT_CNT, 15_tollgate_security.md, Table 15-11. -/
def TGT_CNT : Nat := 0x700000 + 0x30
def TGT_CNT_AUTHFAIL : Fld := ⟨TGT_CNT, 24, 8⟩
def TGT_CNT_DBGREF : Fld := ⟨TGT_CNT, 16, 8⟩
def TGT_CNT_ENTFAIL : Fld := ⟨TGT_CNT, 8, 8⟩
def TGT_CNT_TVREF : Fld := ⟨TGT_CNT, 0, 8⟩
/-- TGT_DBGNONCE, 15_tollgate_security.md, Table 15-11. -/
def TGT_DBGNONCE (k : Nat) : Nat := 0x700000 + 0x40 + k * 0x4
def TGT_DBGNONCE_NONCE (k : Nat) : Fld := ⟨TGT_DBGNONCE k, 0, 32⟩
/-- TGT_TEN, 15_tollgate_security.md, Table 15-11. -/
def TGT_TEN (t : Nat) : Nat := 0x700000 + 0x100 + t * 0x4
def TGT_TEN_EXIST (t : Nat) : Fld := ⟨TGT_TEN t, 31, 1⟩
def TGT_TEN_LOCKREQ (t : Nat) : Fld := ⟨TGT_TEN t, 30, 1⟩
def TGT_TEN_STATE (t : Nat) : Fld := ⟨TGT_TEN t, 28, 2⟩
def TGT_TEN_FAILS (t : Nat) : Fld := ⟨TGT_TEN t, 24, 4⟩
def TGT_TEN_NNS (t : Nat) : Fld := ⟨TGT_TEN t, 13, 11⟩
/-- TGT_BIND, 15_tollgate_security.md, Table 15-11. -/
def TGT_BIND (f : Nat) : Nat := 0x700000 + 0x400 + f * 0x4
def TGT_BIND_BOUND (f : Nat) : Fld := ⟨TGT_BIND f, 31, 1⟩
def TGT_BIND_TEN (f : Nat) : Fld := ⟨TGT_BIND f, 0, 7⟩
/-- DMA_CTL, 16_internal_dma.md, Table 16-5. -/
def DMA_CTL : Nat := 0x500000 + 0x0
def DMA_CTL_LOCK : Fld := ⟨DMA_CTL, 31, 1⟩
def DMA_CTL_EN : Fld := ⟨DMA_CTL, 0, 1⟩
/-- DMA_IRQ0, 16_internal_dma.md, Table 16-5. -/
def DMA_IRQ0 : Nat := 0x500000 + 0x10
def DMA_IRQ0_PEND : Fld := ⟨DMA_IRQ0, 0, 32⟩
/-- DMA_IRQ1, 16_internal_dma.md, Table 16-5. -/
def DMA_IRQ1 : Nat := 0x500000 + 0x14
def DMA_IRQ1_PEND : Fld := ⟨DMA_IRQ1, 0, 32⟩
/-- DMA_CHCFG, 16_internal_dma.md, Table 16-6. -/
def DMA_CHCFG (c : Nat) : Nat := 0x500000 + 0x1000 + c * 0x40
def DMA_CHCFG_EN (c : Nat) : Fld := ⟨DMA_CHCFG c, 31, 1⟩
def DMA_CHCFG_STOP (c : Nat) : Fld := ⟨DMA_CHCFG c, 30, 1⟩
def DMA_CHCFG_CORE (c : Nat) : Fld := ⟨DMA_CHCFG c, 27, 3⟩
def DMA_CHCFG_PRI (c : Nat) : Fld := ⟨DMA_CHCFG c, 26, 1⟩
def DMA_CHCFG_SIZE (c : Nat) : Fld := ⟨DMA_CHCFG c, 15, 4⟩
def DMA_CHCFG_FRMASK (c : Nat) : Fld := ⟨DMA_CHCFG c, 0, 15⟩
/-- DMA_CHBASE_LO, 16_internal_dma.md, Table 16-6. -/
def DMA_CHBASE_LO (c : Nat) : Nat := 0x500000 + 0x1004 + c * 0x40
def DMA_CHBASE_LO_BASE (c : Nat) : Fld := ⟨DMA_CHBASE_LO c, 5, 27⟩
/-- DMA_CHBASE_HI, 16_internal_dma.md, Table 16-6. -/
def DMA_CHBASE_HI (c : Nat) : Nat := 0x500000 + 0x1008 + c * 0x40
def DMA_CHBASE_HI_BASE (c : Nat) : Fld := ⟨DMA_CHBASE_HI c, 0, 8⟩
/-- DMA_CHTAIL, 16_internal_dma.md, Table 16-6. -/
def DMA_CHTAIL (c : Nat) : Nat := 0x500000 + 0x100C + c * 0x40
def DMA_CHTAIL_TAIL (c : Nat) : Fld := ⟨DMA_CHTAIL c, 0, 10⟩
/-- DMA_CHHEAD, 16_internal_dma.md, Table 16-6. -/
def DMA_CHHEAD (c : Nat) : Nat := 0x500000 + 0x1010 + c * 0x40
def DMA_CHHEAD_HEAD (c : Nat) : Fld := ⟨DMA_CHHEAD c, 0, 10⟩
/-- DMA_CHCTL, 16_internal_dma.md, Table 16-6. -/
def DMA_CHCTL (c : Nat) : Nat := 0x500000 + 0x1014 + c * 0x40
def DMA_CHCTL_RESET (c : Nat) : Fld := ⟨DMA_CHCTL c, 2, 1⟩
def DMA_CHCTL_SKIP (c : Nat) : Fld := ⟨DMA_CHCTL c, 1, 1⟩
def DMA_CHCTL_RESUME (c : Nat) : Fld := ⟨DMA_CHCTL c, 0, 1⟩
/-- DMA_CHSTAT, 16_internal_dma.md, Table 16-6. -/
def DMA_CHSTAT (c : Nat) : Nat := 0x500000 + 0x1018 + c * 0x40
def DMA_CHSTAT_STATE (c : Nat) : Fld := ⟨DMA_CHSTAT c, 29, 3⟩
def DMA_CHSTAT_FLIGHT (c : Nat) : Fld := ⟨DMA_CHSTAT c, 16, 4⟩
def DMA_CHSTAT_DONE (c : Nat) : Fld := ⟨DMA_CHSTAT c, 0, 16⟩
/-- DMA_CHERR0, 16_internal_dma.md, Table 16-6. -/
def DMA_CHERR0 (c : Nat) : Nat := 0x500000 + 0x101C + c * 0x40
def DMA_CHERR0_VALID (c : Nat) : Fld := ⟨DMA_CHERR0 c, 31, 1⟩
def DMA_CHERR0_CAUSE (c : Nat) : Fld := ⟨DMA_CHERR0 c, 28, 3⟩
def DMA_CHERR0_INDEX (c : Nat) : Fld := ⟨DMA_CHERR0 c, 0, 10⟩
/-- DMA_CHERR1, 16_internal_dma.md, Table 16-6. -/
def DMA_CHERR1 (c : Nat) : Nat := 0x500000 + 0x1020 + c * 0x40
def DMA_CHERR1_ADDR (c : Nat) : Fld := ⟨DMA_CHERR1 c, 0, 32⟩
/-- DMA_CHERR2, 16_internal_dma.md, Table 16-6. -/
def DMA_CHERR2 (c : Nat) : Nat := 0x500000 + 0x1024 + c * 0x40
def DMA_CHERR2_ADDR (c : Nat) : Fld := ⟨DMA_CHERR2 c, 0, 8⟩
/-- DMA_CHERR3, 16_internal_dma.md, Table 16-6. -/
def DMA_CHERR3 (c : Nat) : Nat := 0x500000 + 0x1028 + c * 0x40
def DMA_CHERR3_BYTES (c : Nat) : Fld := ⟨DMA_CHERR3 c, 0, 24⟩
/-- SQR_INTGCTL, 17_integrity_chain_and_memory_ecc.md, Table 17-5. -/
def SQR_INTGCTL : Nat := 0x400000 + 0x60
def SQR_INTGCTL_MSCRUB : Fld := ⟨SQR_INTGCTL, 24, 8⟩
def SQR_INTGCTL_SCRUBP : Fld := ⟨SQR_INTGCTL, 16, 8⟩
def SQR_INTGCTL_WVERIFY : Fld := ⟨SQR_INTGCTL, 1, 1⟩
def SQR_INTGCTL_DSCRUB : Fld := ⟨SQR_INTGCTL, 0, 1⟩
/-- SQR_ECCCNT, 17_integrity_chain_and_memory_ecc.md, Table 17-5. -/
def SQR_ECCCNT : Nat := 0x400000 + 0x64
def SQR_ECCCNT_CORR : Fld := ⟨SQR_ECCCNT, 16, 16⟩
def SQR_ECCCNT_UNCORR : Fld := ⟨SQR_ECCCNT, 0, 16⟩
/-- SQR_ECCCAP, 17_integrity_chain_and_memory_ecc.md, Table 17-5. -/
def SQR_ECCCAP : Nat := 0x400000 + 0x68
def SQR_ECCCAP_VALID : Fld := ⟨SQR_ECCCAP, 31, 1⟩
def SQR_ECCCAP_WORD : Fld := ⟨SQR_ECCCAP, 0, 31⟩
/-- SQR_ECRCCNT, 17_integrity_chain_and_memory_ecc.md, Table 17-5. -/
def SQR_ECRCCNT : Nat := 0x400000 + 0x6C
def SQR_ECRCCNT_MISMATCH : Fld := ⟨SQR_ECRCCNT, 16, 16⟩
def SQR_ECRCCNT_PARMIS : Fld := ⟨SQR_ECRCCNT, 0, 16⟩
/-- SQR_SCRUB, 17_integrity_chain_and_memory_ecc.md, Table 17-5. -/
def SQR_SCRUB : Nat := 0x400000 + 0x70
def SQR_SCRUB_PASSES : Fld := ⟨SQR_SCRUB, 16, 16⟩
def SQR_SCRUB_PROGRESS : Fld := ⟨SQR_SCRUB, 0, 16⟩
/-- HST_INTG, 17_integrity_chain_and_memory_ecc.md, Table 17-6. -/
def HST_INTG : Nat := 0x200000 + 0x50
def HST_INTG_REPLAYS : Fld := ⟨HST_INTG, 16, 16⟩
def HST_INTG_STGPAR : Fld := ⟨HST_INTG, 0, 16⟩
/-- DMA_SRAMECC, 17_integrity_chain_and_memory_ecc.md, Table 17-6. -/
def DMA_SRAMECC : Nat := 0x500000 + 0x20
def DMA_SRAMECC_CORR : Fld := ⟨DMA_SRAMECC, 16, 16⟩
def DMA_SRAMECC_UNCORR : Fld := ⟨DMA_SRAMECC, 0, 16⟩
/-- TGT_INTG, 17_integrity_chain_and_memory_ecc.md, Table 17-6. -/
def TGT_INTG : Nat := 0x700000 + 0x34
def TGT_INTG_DVMIS : Fld := ⟨TGT_INTG, 16, 16⟩
def TGT_INTG_DVERIFY : Fld := ⟨TGT_INTG, 0, 1⟩
/-- SYS_SCRUB, 17_integrity_chain_and_memory_ecc.md, Table 17-6. -/
def SYS_SCRUB : Nat := 0x0 + 0x20
def SYS_SCRUB_EN : Fld := ⟨SYS_SCRUB, 31, 1⟩
def SYS_SCRUB_SRSCRUB : Fld := ⟨SYS_SCRUB, 0, 16⟩
/-- CPU_CTL, 18_control_cores_and_caches.md, Table 18-3. -/
def CPU_CTL : Nat := 0x1900000 + 0x0
def CPU_CTL_LOCK : Fld := ⟨CPU_CTL, 31, 1⟩
/-- CPU_CORESTAT, 18_control_cores_and_caches.md, Table 18-3. -/
def CPU_CORESTAT (k : Nat) : Nat := 0x1900000 + 0x10 + k * 0x4
def CPU_CORESTAT_STATE (k : Nat) : Fld := ⟨CPU_CORESTAT k, 29, 3⟩
def CPU_CORESTAT_TRAPS (k : Nat) : Fld := ⟨CPU_CORESTAT k, 0, 16⟩
/-- CPU_L1CFG, 18_control_cores_and_caches.md, Table 18-3. -/
def CPU_L1CFG (k : Nat) : Nat := 0x1900000 + 0x30 + k * 0x4
def CPU_L1CFG_BUSY (k : Nat) : Fld := ⟨CPU_L1CFG k, 31, 1⟩
def CPU_L1CFG_IWAYS (k : Nat) : Fld := ⟨CPU_L1CFG k, 8, 5⟩
def CPU_L1CFG_DWAYS (k : Nat) : Fld := ⟨CPU_L1CFG k, 0, 5⟩
/-- CPU_L2PART, 18_control_cores_and_caches.md, Table 18-3. -/
def CPU_L2PART (p : Nat) : Nat := 0x1900000 + 0x50 + p * 0x4
def CPU_L2PART_MASK (p : Nat) : Fld := ⟨CPU_L2PART p, 0, 16⟩
/-- CPU_TENPART, 18_control_cores_and_caches.md, Table 18-3. -/
def CPU_TENPART (i : Nat) : Nat := 0x1900000 + 0x80 + i * 0x4
def CPU_TENPART_PART0 (i : Nat) : Fld := ⟨CPU_TENPART i, 0, 3⟩
def CPU_TENPART_PART1 (i : Nat) : Fld := ⟨CPU_TENPART i, 4, 3⟩
def CPU_TENPART_PART2 (i : Nat) : Fld := ⟨CPU_TENPART i, 8, 3⟩
def CPU_TENPART_PART3 (i : Nat) : Fld := ⟨CPU_TENPART i, 12, 3⟩
def CPU_TENPART_PART4 (i : Nat) : Fld := ⟨CPU_TENPART i, 16, 3⟩
def CPU_TENPART_PART5 (i : Nat) : Fld := ⟨CPU_TENPART i, 20, 3⟩
def CPU_TENPART_PART6 (i : Nat) : Fld := ⟨CPU_TENPART i, 24, 3⟩
def CPU_TENPART_PART7 (i : Nat) : Fld := ⟨CPU_TENPART i, 28, 3⟩
/-- CPU_LFSR, 18_control_cores_and_caches.md, Table 18-3. -/
def CPU_LFSR (c : Nat) : Nat := 0x1900000 + 0xC0 + c * 0x4
def CPU_LFSR_STATE (c : Nat) : Fld := ⟨CPU_LFSR c, 0, 16⟩
/-- CPU_ECCCNT, 18_control_cores_and_caches.md, Table 18-3. -/
def CPU_ECCCNT : Nat := 0x1900000 + 0x100
def CPU_ECCCNT_CORR : Fld := ⟨CPU_ECCCNT, 16, 16⟩
def CPU_ECCCNT_UNCORR : Fld := ⟨CPU_ECCCNT, 0, 16⟩
/-- CPU_ECCCAP, 18_control_cores_and_caches.md, Table 18-3. -/
def CPU_ECCCAP : Nat := 0x1900000 + 0x104
def CPU_ECCCAP_VALID : Fld := ⟨CPU_ECCCAP, 31, 1⟩
def CPU_ECCCAP_CACHE : Fld := ⟨CPU_ECCCAP, 27, 4⟩
def CPU_ECCCAP_TAG : Fld := ⟨CPU_ECCCAP, 26, 1⟩
def CPU_ECCCAP_SET : Fld := ⟨CPU_ECCCAP, 4, 12⟩
def CPU_ECCCAP_WAY : Fld := ⟨CPU_ECCCAP, 0, 4⟩
/-- CPU_ECCADDR_LO, 18_control_cores_and_caches.md, Table 18-3. -/
def CPU_ECCADDR_LO : Nat := 0x1900000 + 0x108
def CPU_ECCADDR_LO_ADDR : Fld := ⟨CPU_ECCADDR_LO, 0, 32⟩
/-- CPU_ECCADDR_HI, 18_control_cores_and_caches.md, Table 18-3. -/
def CPU_ECCADDR_HI : Nat := 0x1900000 + 0x10C
def CPU_ECCADDR_HI_ADDR : Fld := ⟨CPU_ECCADDR_HI, 0, 8⟩
/-- FLT_CTL, 19_faults_and_event_recorder.md, Table 19-12. -/
def FLT_CTL : Nat := 0x1600000 + 0x0
def FLT_CTL_LOCK : Fld := ⟨FLT_CTL, 31, 1⟩
def FLT_CTL_CRCOMMIT : Fld := ⟨FLT_CTL, 16, 1⟩
def FLT_CTL_DECAY : Fld := ⟨FLT_CTL, 8, 8⟩
/-- FLT_STAT, 19_faults_and_event_recorder.md, Table 19-12. -/
def FLT_STAT : Nat := 0x1600000 + 0x4
def FLT_STAT_RESET : Fld := ⟨FLT_STAT, 31, 1⟩
def FLT_STAT_LAST : Fld := ⟨FLT_STAT, 16, 11⟩
def FLT_STAT_ARRIVED : Fld := ⟨FLT_STAT, 0, 16⟩
/-- FLT_FNSTAT, 19_faults_and_event_recorder.md, Table 19-12. -/
def FLT_FNSTAT : Nat := 0x1600000 + 0x8
def FLT_FNSTAT_ACTIVE : Fld := ⟨FLT_FNSTAT, 31, 1⟩
def FLT_FNSTAT_FIRST : Fld := ⟨FLT_FNSTAT, 0, 11⟩
/-- FLT_CRREASON, 19_faults_and_event_recorder.md, Table 19-12. -/
def FLT_CRREASON : Nat := 0x1600000 + 0xC
def FLT_CRREASON_VALID : Fld := ⟨FLT_CRREASON, 31, 1⟩
def FLT_CRREASON_KIND : Fld := ⟨FLT_CRREASON, 28, 3⟩
def FLT_CRREASON_CUT : Fld := ⟨FLT_CRREASON, 27, 1⟩
def FLT_CRREASON_SOURCE : Fld := ⟨FLT_CRREASON, 0, 11⟩
/-- FLT_INJ, 19_faults_and_event_recorder.md, Table 19-12. -/
def FLT_INJ : Nat := 0x1600000 + 0x10
def FLT_INJ_GO : Fld := ⟨FLT_INJ, 31, 1⟩
def FLT_INJ_SOURCE : Fld := ⟨FLT_INJ, 0, 11⟩
/-- FLT_CNT, 19_faults_and_event_recorder.md, Table 19-12. -/
def FLT_CNT : Nat := 0x1600000 + 0x14
def FLT_CNT_TRANS : Fld := ⟨FLT_CNT, 16, 16⟩
def FLT_CNT_ESCAL : Fld := ⟨FLT_CNT, 8, 8⟩
def FLT_CNT_HELD : Fld := ⟨FLT_CNT, 0, 8⟩
/-- FLT_BRST, 19_faults_and_event_recorder.md, Table 19-12. -/
def FLT_BRST : Nat := 0x1600000 + 0x18
def FLT_BRST_GO : Fld := ⟨FLT_BRST, 31, 1⟩
def FLT_BRST_BUSY : Fld := ⟨FLT_BRST, 30, 1⟩
def FLT_BRST_UNIT : Fld := ⟨FLT_BRST, 0, 5⟩
/-- FLT_PEND, 19_faults_and_event_recorder.md, Table 19-12. -/
def FLT_PEND (i : Nat) : Nat := 0x1600000 + 0x100 + i * 0x4
def FLT_PEND_PEND (i : Nat) : Fld := ⟨FLT_PEND i, 0, 32⟩
/-- FLT_REARM, 19_faults_and_event_recorder.md, Table 19-12. -/
def FLT_REARM (i : Nat) : Nat := 0x1600000 + 0x200 + i * 0x4
def FLT_REARM_REARM (i : Nat) : Fld := ⟨FLT_REARM i, 0, 32⟩
/-- FLT_ROUTE, 19_faults_and_event_recorder.md, Table 19-12. -/
def FLT_ROUTE (s : Nat) : Nat := 0x1600000 + 0x1000 + s * 0x4
def FLT_ROUTE_EN (s : Nat) : Fld := ⟨FLT_ROUTE s, 31, 1⟩
def FLT_ROUTE_FN (s : Nat) : Fld := ⟨FLT_ROUTE s, 30, 1⟩
def FLT_ROUTE_REC (s : Nat) : Fld := ⟨FLT_ROUTE s, 29, 1⟩
def FLT_ROUTE_REACT (s : Nat) : Fld := ⟨FLT_ROUTE s, 26, 3⟩
def FLT_ROUTE_ESC (s : Nat) : Fld := ⟨FLT_ROUTE s, 23, 3⟩
def FLT_ROUTE_CORE (s : Nat) : Fld := ⟨FLT_ROUTE s, 20, 3⟩
def FLT_ROUTE_RLIM (s : Nat) : Fld := ⟨FLT_ROUTE s, 16, 4⟩
def FLT_ROUTE_QUIET (s : Nat) : Fld := ⟨FLT_ROUTE s, 12, 4⟩
def FLT_ROUTE_STATE (s : Nat) : Fld := ⟨FLT_ROUTE s, 10, 2⟩
def FLT_ROUTE_RCNT (s : Nat) : Fld := ⟨FLT_ROUTE s, 5, 5⟩
def FLT_ROUTE_COUNT (s : Nat) : Fld := ⟨FLT_ROUTE s, 0, 5⟩
/-- REC_CTL, 19_faults_and_event_recorder.md, Table 19-13. -/
def REC_CTL : Nat := 0x1700000 + 0x0
def REC_CTL_LOCK : Fld := ⟨REC_CTL, 31, 1⟩
def REC_CTL_EN : Fld := ⟨REC_CTL, 30, 1⟩
def REC_CTL_CLEAR : Fld := ⟨REC_CTL, 29, 1⟩
def REC_CTL_FCLEAR : Fld := ⟨REC_CTL, 28, 1⟩
def REC_CTL_MIRT : Fld := ⟨REC_CTL, 8, 8⟩
/-- REC_STAT, 19_faults_and_event_recorder.md, Table 19-13. -/
def REC_STAT : Nat := 0x1700000 + 0x4
def REC_STAT_HDROK : Fld := ⟨REC_STAT, 31, 1⟩
def REC_STAT_FFULL : Fld := ⟨REC_STAT, 30, 1⟩
def REC_STAT_QUEUE : Fld := ⟨REC_STAT, 16, 6⟩
def REC_STAT_DROPS : Fld := ⟨REC_STAT, 0, 16⟩
/-- REC_HEAD, 19_faults_and_event_recorder.md, Table 19-13. -/
def REC_HEAD : Nat := 0x1700000 + 0x8
def REC_HEAD_SEQ : Fld := ⟨REC_HEAD, 0, 32⟩
/-- REC_TAIL, 19_faults_and_event_recorder.md, Table 19-13. -/
def REC_TAIL : Nat := 0x1700000 + 0xC
def REC_TAIL_SEQ : Fld := ⟨REC_TAIL, 0, 32⟩
/-- REC_MIRR, 19_faults_and_event_recorder.md, Table 19-13. -/
def REC_MIRR : Nat := 0x1700000 + 0x10
def REC_MIRR_SEQ : Fld := ⟨REC_MIRR, 0, 32⟩
/-- REC_FSTAT, 19_faults_and_event_recorder.md, Table 19-13. -/
def REC_FSTAT : Nat := 0x1700000 + 0x14
def REC_FSTAT_FUSED : Fld := ⟨REC_FSTAT, 0, 9⟩
/-- REC_BOOT, 19_faults_and_event_recorder.md, Table 19-13. -/
def REC_BOOT : Nat := 0x1700000 + 0x18
def REC_BOOT_BOOT : Fld := ⟨REC_BOOT, 0, 16⟩
/-- REC_CURSOR, 19_faults_and_event_recorder.md, Table 19-13. -/
def REC_CURSOR : Nat := 0x1700000 + 0x20
def REC_CURSOR_SEQ : Fld := ⟨REC_CURSOR, 0, 32⟩
/-- REC_FCURSOR, 19_faults_and_event_recorder.md, Table 19-13. -/
def REC_FCURSOR : Nat := 0x1700000 + 0x24
def REC_FCURSOR_INDEX : Fld := ⟨REC_FCURSOR, 0, 8⟩
/-- REC_WSTAT, 19_faults_and_event_recorder.md, Table 19-13. -/
def REC_WSTAT : Nat := 0x1700000 + 0x28
def REC_WSTAT_VALID : Fld := ⟨REC_WSTAT, 31, 1⟩
def REC_WSTAT_AREA : Fld := ⟨REC_WSTAT, 30, 1⟩
/-- REC_WIN, 19_faults_and_event_recorder.md, Table 19-13. -/
def REC_WIN (k : Nat) : Nat := 0x1700000 + 0x40 + k * 0x4
def REC_WIN_DATA (k : Nat) : Fld := ⟨REC_WIN k, 0, 32⟩
/-- REC_TRCFG, 19_faults_and_event_recorder.md, Table 19-13. -/
def REC_TRCFG : Nat := 0x1700000 + 0x80
def REC_TRCFG_PORT : Fld := ⟨REC_TRCFG, 31, 1⟩
def REC_TRCFG_RATE : Fld := ⟨REC_TRCFG, 29, 2⟩
def REC_TRCFG_TRSZ : Fld := ⟨REC_TRCFG, 24, 5⟩
def REC_TRCFG_WAITMIN : Fld := ⟨REC_TRCFG, 16, 8⟩
def REC_TRCFG_WAITMASK : Fld := ⟨REC_TRCFG, 0, 16⟩
/-- REC_TRBASE_LO, 19_faults_and_event_recorder.md, Table 19-13. -/
def REC_TRBASE_LO : Nat := 0x1700000 + 0x84
def REC_TRBASE_LO_BASE : Fld := ⟨REC_TRBASE_LO, 12, 20⟩
/-- REC_TRBASE_HI, 19_faults_and_event_recorder.md, Table 19-13. -/
def REC_TRBASE_HI : Nat := 0x1700000 + 0x88
def REC_TRBASE_HI_BASE : Fld := ⟨REC_TRBASE_HI, 0, 2⟩
/-- REC_TRHEAD, 19_faults_and_event_recorder.md, Table 19-13. -/
def REC_TRHEAD : Nat := 0x1700000 + 0x8C
def REC_TRHEAD_OFFSET : Fld := ⟨REC_TRHEAD, 0, 32⟩
/-- REC_TRSTAT, 19_faults_and_event_recorder.md, Table 19-13. -/
def REC_TRSTAT : Nat := 0x1700000 + 0x90
def REC_TRSTAT_OVF : Fld := ⟨REC_TRSTAT, 16, 16⟩
def REC_TRSTAT_FILL : Fld := ⟨REC_TRSTAT, 0, 16⟩
/-- REC_PROF_W0, 19_faults_and_event_recorder.md, Table 19-13. -/
def REC_PROF_W0 (p : Nat) : Nat := 0x1700000 + 0x1000 + p * 0x48
def REC_PROF_W0_EN (p : Nat) : Fld := ⟨REC_PROF_W0 p, 31, 1⟩
def REC_PROF_W0_FOUND (p : Nat) : Fld := ⟨REC_PROF_W0 p, 30, 1⟩
def REC_PROF_W0_NREG (p : Nat) : Fld := ⟨REC_PROF_W0 p, 25, 5⟩
def REC_PROF_W0_MAXREC (p : Nat) : Fld := ⟨REC_PROF_W0 p, 8, 8⟩
def REC_PROF_W0_USED (p : Nat) : Fld := ⟨REC_PROF_W0 p, 0, 8⟩
/-- REC_PROF_W1, 19_faults_and_event_recorder.md, Table 19-13. -/
def REC_PROF_W1 (p : Nat) : Nat := 0x1700000 + 0x1004 + p * 0x48
def REC_PROF_W1_LAST (p : Nat) : Fld := ⟨REC_PROF_W1 p, 16, 11⟩
def REC_PROF_W1_FIRST (p : Nat) : Fld := ⟨REC_PROF_W1 p, 0, 11⟩
/-- REC_PROF_W2, 19_faults_and_event_recorder.md, Table 19-13. -/
def REC_PROF_W2 (p i : Nat) : Nat := 0x1700000 + 0x1008 + p * 0x48 + i * 0x4
def REC_PROF_W2_ADDR (p i : Nat) : Fld := ⟨REC_PROF_W2 p i, 0, 25⟩
/-- PWR_CTL, 20_power_start_and_versions.md, Table 20-10. -/
def PWR_CTL : Nat := 0x1800000 + 0x0
def PWR_CTL_LOCK : Fld := ⟨PWR_CTL, 31, 1⟩
/-- PWR_STATE, 20_power_start_and_versions.md, Table 20-10. -/
def PWR_STATE : Nat := 0x1800000 + 0x4
def PWR_STATE_STATE : Fld := ⟨PWR_STATE, 29, 3⟩
/-- PWR_START, 20_power_start_and_versions.md, Table 20-10. -/
def PWR_START : Nat := 0x1800000 + 0x8
def PWR_START_STEP : Fld := ⟨PWR_START, 28, 4⟩
def PWR_START_DRAMOK : Fld := ⟨PWR_START, 27, 1⟩
def PWR_START_CDS : Fld := ⟨PWR_START, 24, 3⟩
def PWR_START_STOP : Fld := ⟨PWR_START, 22, 2⟩
def PWR_START_ATTEMPTS : Fld := ⟨PWR_START, 20, 2⟩
def PWR_START_STEPLIM : Fld := ⟨PWR_START, 0, 8⟩
/-- PWR_PMCFG, 20_power_start_and_versions.md, Table 20-10. -/
def PWR_PMCFG : Nat := 0x1800000 + 0xC
def PWR_PMCFG_DSEN : Fld := ⟨PWR_PMCFG, 31, 1⟩
def PWR_PMCFG_DSBYT : Fld := ⟨PWR_PMCFG, 24, 7⟩
def PWR_PMCFG_SLEEPT : Fld := ⟨PWR_PMCFG, 16, 8⟩
def PWR_PMCFG_STBYT : Fld := ⟨PWR_PMCFG, 0, 16⟩
/-- PWR_PLCTL, 20_power_start_and_versions.md, Table 20-10. -/
def PWR_PLCTL : Nat := 0x1800000 + 0x10
def PWR_PLCTL_PGEN : Fld := ⟨PWR_PLCTL, 2, 1⟩
def PWR_PLCTL_RAILEN : Fld := ⟨PWR_PLCTL, 1, 1⟩
def PWR_PLCTL_VBEN : Fld := ⟨PWR_PLCTL, 0, 1⟩
/-- PWR_PLTHR, 20_power_start_and_versions.md, Table 20-10. -/
def PWR_PLTHR : Nat := 0x1800000 + 0x14
def PWR_PLTHR_VIO : Fld := ⟨PWR_PLTHR, 24, 8⟩
def PWR_PLTHR_VANA : Fld := ⟨PWR_PLTHR, 16, 8⟩
def PWR_PLTHR_VF25 : Fld := ⟨PWR_PLTHR, 8, 8⟩
def PWR_PLTHR_PGT : Fld := ⟨PWR_PLTHR, 0, 8⟩
/-- PWR_PLTHR2, 20_power_start_and_versions.md, Table 20-10. -/
def PWR_PLTHR2 : Nat := 0x1800000 + 0x28
def PWR_PLTHR2_VF12 : Fld := ⟨PWR_PLTHR2, 0, 8⟩
/-- PWR_PLSTAT, 20_power_start_and_versions.md, Table 20-10. -/
def PWR_PLSTAT : Nat := 0x1800000 + 0x18
def PWR_PLSTAT_SIGNAL : Fld := ⟨PWR_PLSTAT, 31, 1⟩
def PWR_PLSTAT_CAUSE : Fld := ⟨PWR_PLSTAT, 26, 5⟩
/-- PWR_IMG, 20_power_start_and_versions.md, Table 20-10. -/
def PWR_IMG : Nat := 0x1800000 + 0x1C
def PWR_IMG_ACTIVE : Fld := ⟨PWR_IMG, 31, 1⟩
def PWR_IMG_LKG : Fld := ⟨PWR_IMG, 30, 1⟩
def PWR_IMG_RUN : Fld := ⟨PWR_IMG, 29, 1⟩
def PWR_IMG_COMB : Fld := ⟨PWR_IMG, 26, 3⟩
/-- PWR_AVEN, 20_power_start_and_versions.md, Table 20-10. -/
def PWR_AVEN : Nat := 0x1800000 + 0x20
def PWR_AVEN_EN : Fld := ⟨PWR_AVEN, 0, 4⟩
/-- PWR_THERM, 20_power_start_and_versions.md, Table 20-10. -/
def PWR_THERM : Nat := 0x1800000 + 0x24
def PWR_THERM_TCRIT : Fld := ⟨PWR_THERM, 24, 8⟩
def PWR_THERM_TWARN : Fld := ⟨PWR_THERM, 16, 8⟩
def PWR_THERM_TJ : Fld := ⟨PWR_THERM, 0, 8⟩
/-- PWR_AON, 20_power_start_and_versions.md, Table 20-10. -/
def PWR_AON : Nat := 0x1800000 + 0x30
def PWR_AON_DSBY : Fld := ⟨PWR_AON, 31, 1⟩
/-- PIN_CTL, 21_balls_and_electrical.md, Table 21-15. -/
def PIN_CTL : Nat := 0x1A00000 + 0x0
def PIN_CTL_LOCK : Fld := ⟨PIN_CTL, 31, 1⟩
/-- PIN_STRAP, 21_balls_and_electrical.md, Table 21-15. -/
def PIN_STRAP : Nat := 0x1A00000 + 0x4
def PIN_STRAP_S3 : Fld := ⟨PIN_STRAP, 3, 1⟩
def PIN_STRAP_SPINMODE : Fld := ⟨PIN_STRAP, 1, 2⟩
def PIN_STRAP_PORTMODE : Fld := ⟨PIN_STRAP, 0, 1⟩
/-- PIN_GPIOCFG, 21_balls_and_electrical.md, Table 21-15. -/
def PIN_GPIOCFG (k : Nat) : Nat := 0x1A00000 + 0x10 + k * 0x4
def PIN_GPIOCFG_PULL (k : Nat) : Fld := ⟨PIN_GPIOCFG k, 4, 2⟩
def PIN_GPIOCFG_OD (k : Nat) : Fld := ⟨PIN_GPIOCFG k, 3, 1⟩
def PIN_GPIOCFG_DRV (k : Nat) : Fld := ⟨PIN_GPIOCFG k, 2, 1⟩
def PIN_GPIOCFG_DIR (k : Nat) : Fld := ⟨PIN_GPIOCFG k, 1, 1⟩
def PIN_GPIOCFG_OUT (k : Nat) : Fld := ⟨PIN_GPIOCFG k, 0, 1⟩
/-- PIN_GPIOIN, 21_balls_and_electrical.md, Table 21-15. -/
def PIN_GPIOIN : Nat := 0x1A00000 + 0x30
def PIN_GPIOIN_IN : Fld := ⟨PIN_GPIOIN, 0, 8⟩
/-- PIN_DRV, 21_balls_and_electrical.md, Table 21-15. -/
def PIN_DRV : Nat := 0x1A00000 + 0x34
def PIN_DRV_TR : Fld := ⟨PIN_DRV, 4, 2⟩
def PIN_DRV_KZ : Fld := ⟨PIN_DRV, 2, 2⟩
def PIN_DRV_DL : Fld := ⟨PIN_DRV, 0, 2⟩
/-- PIN_IDCODE, 21_balls_and_electrical.md, Table 21-15. -/
def PIN_IDCODE : Nat := 0x1A00000 + 0x38
def PIN_IDCODE_IDCODE : Fld := ⟨PIN_IDCODE, 0, 32⟩
/-- SVO_TWZ, 07_servo_seek_and_actuators.md, Table 7-11. -/
def SVO_TWZ (n z : Nat) : Nat := svBase n + 0x800 + z * 0x4
def SVO_TWZ_EBLEN (n z : Nat) : Fld := ⟨SVO_TWZ n z, 8, 8⟩
def SVO_TWZ_BLEN (n z : Nat) : Fld := ⟨SVO_TWZ n z, 0, 8⟩
/-- SVO_LINN, 07_servo_seek_and_actuators.md, Table 7-11. -/
def SVO_LINN (n j : Nat) : Nat := svBase n + 0xC00 + j * 0x4
def SVO_LINN_HI (n j : Nat) : Fld := ⟨SVO_LINN n j, 16, 16⟩
def SVO_LINN_LO (n j : Nat) : Fld := ⟨SVO_LINN n j, 0, 16⟩
/-- SVO_LINQ, 07_servo_seek_and_actuators.md, Table 7-11. -/
def SVO_LINQ (n j : Nat) : Nat := svBase n + 0xC80 + j * 0x4
def SVO_LINQ_HI (n j : Nat) : Fld := ⟨SVO_LINQ n j, 16, 16⟩
def SVO_LINQ_LO (n j : Nat) : Fld := ⟨SVO_LINQ n j, 0, 16⟩
/-- SVO_HOFS, 07_servo_seek_and_actuators.md, Table 7-11. -/
def SVO_HOFS (n f z : Nat) : Nat := svBase n + 0x1000 + f * 0x80 + z * 0x4
def SVO_HOFS_HOFS (n f z : Nat) : Fld := ⟨SVO_HOFS n f z, 0, 16⟩
/-- SVO_CPL, 07_servo_seek_and_actuators.md, Table 7-11. -/
def SVO_CPL (n i j : Nat) : Nat := svBase n + 0x3000 + i * 0x10 + j * 0x4
def SVO_CPL_HI (n i j : Nat) : Fld := ⟨SVO_CPL n i j, 16, 16⟩
def SVO_CPL_LO (n i j : Nat) : Fld := ⟨SVO_CPL n i j, 0, 16⟩

/-- Word w of equaliser entry (f, z) of Avenue n (Table 4-1). -/
def AV_EQMEM (n f z w : Nat) : Nat := avBase n + 0x20000 + f * 0x2000 + z * 0x100 + w * 4
/-- Word w of AVn_CODEMEM (4.3). -/
def AV_CODEMEM (n w : Nat) : Nat := avBase n + 0x30000 + w * 4
/-- Word w of AV0_RDCODEMEM (4.3). -/
def AV0_RDCODEMEM (w : Nat) : Nat := avBase 0 + 0x32000 + w * 4
/-- Word j of microword a of Avenue n (R187). -/
def AV_UCODE (n a j : Nat) : Nat := avBase n + 0x50000 + a * 8 + j * 4
/-- Word j of nanoword b of Avenue n (R187). -/
def AV_NCODE (n b j : Nat) : Nat := avBase n + 0x60000 + b * 16 + j * 4
/-- Register i of window w of Avenue n (R190). -/
def AV_WINFILE (n w i : Nat) : Nat := avBase n + 0x70000 + w * 0x40 + i * 4
/-- Register i of spill slot s of Avenue n (R190). -/
def AV_SPILL (n s i : Nat) : Nat := avBase n + 0x71000 + s * 0x40 + i * 4
/-- Word w of coefficient set s of servo engine n (Table 7-3). -/
def SVO_TFSET (n s w : Nat) : Nat := svBase n + 0x2000 + s * 0x100 + w * 4

end Sys2Proof.Machine
end

