-- ==== Sys2Proof/Machine/State/Avenue.lean ====
section
/-! DEFINITION. State of one Avenue (spec 02 to 06) that stands in no register: the applied layout, the timing lane,
the read front end, the retry ladders, the write path and its Kazq link, and the sequencer with its framer. -/

namespace Sys2Proof.Machine

/-- One zone of an applied layout (R63, R81): the framing values in force and what the layout walk gave. -/
structure ZoneLay where
  first : Nat
  cpr16 : Nat
  spares : Nat
  preg : Nat
  wlen : Nat
  postg : Nat
  w : Nat
  mthr : Nat
  fly : Bool
  valid : Bool
  spt : Nat
  splits : Nat
  gaps : Nat
  tail : Nat
  deriving DecidableEq, Repr

/-- The layout in force on an Avenue. -/
structure Layout where
  ndata : Nat
  ncyl : Nat
  zones : List ZoneLay
  deriving DecidableEq, Repr

/-- The timing-lane loop (3.2); its state is AVn_TLSTAT.STATE. -/
structure Lane where
  /-- FW, in units of 2^-24 of the expected frequency (R84). -/
  fw : Int
  /-- Oscillator phase, in steps. -/
  phase : Int
  /-- Consecutive updates within LKTHR (R88), over LSTHR and below AMIN (R89), and beyond FTOL (R91). -/
  lockRun : Nat
  lossRun : Nat
  ampRun : Nat
  mismRun : Nat
  /-- Clock-track cycles from the index (R90). -/
  count : Nat
  /-- The zone whose expected frequency the oscillator takes (R84, R207). -/
  zone : Nat
  /-- Device time at the start of the attempt in progress. -/
  t0 : Nat
  deriving DecidableEq, Repr

/-- One reader of the data head in use (3.3 to 3.5, 4.1). -/
structure Reader where
  /-- Blocks still to be tagged INVALID, and SETTLING, by the spans running (R102 to R104). -/
  inv : Nat
  setl : Nat
  /-- Blocks that lost samples at the crossing (R32). -/
  dropped : Nat
  /-- Live skew, its value at the start of the operation, the timing-error accumulator, and tracking stopped (R94, R96). -/
  skew : Int
  skew0 : Int
  acc : Int
  stopped : Bool
  /-- Preamble digital gain factor, numerator and denominator (R99). -/
  gainNum : Nat
  gainDen : Nat
  /-- Live combined taps, in 1/4 of the entry's Q2.13 unit (R112). -/
  taps : List Int
  /-- Background calibration rotation: the slice and parameter of the next step (R100). -/
  calNext : Nat
  /-- Trims of the eight slices' three parameters, by rotation index. -/
  trims : KMap Int
  deriving DecidableEq, Repr

/-- The detector settings that slots take (R170): zone defaults, an L2 set or an L3 weight set. -/
inductive DspSet where
  | zone
  | l2 (k : Nat)
  | l3 (k : Nat)
  deriving DecidableEq, Repr

/-- What an arm does at its slot (Table 6-4, FRM). -/
inductive ArmKind where
  | read | write | verify
  deriving DecidableEq, Repr

/-- An arm in the framer's queue (R175): its slot, the channel-bit count at which its placed occurrence starts and
ends, and the settings it took. -/
structure Arm where
  kind : ArmKind
  slot : Nat
  start : Nat
  stop : Nat
  split : Bool
  dsp : DspSet
  l4 : Bool
  deriving DecidableEq, Repr

/-- The slot in progress. -/
structure SlotRun where
  arm : Arm
  /-- The first fragment of a split slot has ended (condition SPLIT). -/
  firstEnded : Bool
  /-- Every sync and resume mark was found so far. -/
  marks : Bool
  /-- The sector is decoded (not R77 with FLYWHEEL = 0). -/
  decode : Bool
  /-- The offset that aligns the codeword. -/
  align : Int
  deriving DecidableEq, Repr

/-- What a read or write carries with each of its sectors (Table 6-8, R127, R131, R136): the expected header values, the
class, the deadline (0 = none), the Square buffer handle and the tag, and what firmware knows of the read it serves. -/
structure ReadCtx where
  region : Nat
  gen : Nat
  rany : Bool
  gany : Bool
  cls : Nat
  deadline : Nat
  handle : Nat
  tag : Nat
  host : Bool
  limited : Bool
  peerCeil : Option Nat
  recon : Option ReconInfo
  /-- The ladder step that this operation is (REREAD): level and index. -/
  reread : Option (Nat × Nat)
  deriving DecidableEq, Repr

/-- A sector whose on-the-fly decode has not ended (R119), with what its outcome needs. -/
structure SectorRead where
  addr : SectorAddr
  ctx : ReadCtx
  /-- Read by ARM VERIFY: nothing is delivered (R176). -/
  verify : Bool
  /-- Every sync and resume mark was found. -/
  marks : Bool
  /-- The sector is decoded (not R77 with FLYWHEEL = 0). -/
  decode : Bool
  /-- The timing-lane flag of its operation (R106). -/
  laneLost : Bool
  deriving DecidableEq, Repr

/-- An operation opened by the framer (R174). -/
structure MediaOp where
  cyl : Nat
  face : Nat
  zone : Nat
  slips : List Nat
  opcode : Nat
  ctx : ReadCtx
  /-- A KZ = 1 or KZ = 2 action since OPEN (R176). -/
  prepRead : Bool
  prepWrite : Bool
  /-- A write was taken (R153). -/
  taken : Bool
  /-- The Table 6-9 status that ended the operation; 0 while none has (FRMSTAT.REASON). -/
  ended : Nat
  /-- The timing-lane flag of R106. -/
  laneLost : Bool
  dsp : DspSet
  l4 : Bool
  /-- CLOSE was requested and waits for ARMIDLE (R176). -/
  closing : Bool
  deriving DecidableEq, Repr

/-- An entry of the outcome queue (port OUTCOME). -/
structure OutcomeRec where
  outcome : SectorOutcome
  laneLost : Bool
  slot : Nat
  deriving DecidableEq, Repr

/-- How a ladder stands (R126, R128): between steps, with a step in progress, or with its L1 job submitted. -/
inductive LadderPhase where
  | waiting | running | queued
  deriving DecidableEq, Repr

/-- Classes of Table 4-6. -/
inductive SectorClass where
  | transient | lastingRecovered | lastingUnrecovered | transientUnresolved
  deriving DecidableEq, Repr

/-- One sector's retry ladder (4.5). -/
structure Ladder where
  id : Nat
  sec : SectorRead
  /-- Level and index of the step in progress, or of the next step to be run. -/
  level : Nat
  step : Nat
  /-- Completed re-reads. -/
  rereads : Nat
  pinned : Bool
  /-- Every attempt so far found every mark (L4 is then skipped). -/
  allMarks : Bool
  phase : LadderPhase
  /-- A host Abort takes effect at the next step boundary (R134). -/
  aborted : Bool
  deriving DecidableEq, Repr

/-- How a ladder ended, as the sector's ladder record in the Square holds it (R135). -/
inductive LadderEnd where
  | recovered (level : Nat)
  | failed
  | timeLimit
  | outcome (o : SectorOutcome)
  | ended
  deriving DecidableEq, Repr

/-- A ladder record in the Square (R135). -/
structure LadderRec where
  addr : SectorAddr
  level : Nat
  step : Nat
  rereads : Nat
  result : Option LadderEnd
  deriving DecidableEq, Repr

/-- A Kazq frame (R155). -/
structure KazqFrame where
  read : Bool
  addr : Nat
  data : Nat
  /-- Requested by the sequencer. -/
  seq : Bool
  deriving DecidableEq, Repr

/-- The Kazq link of one preamp (5.4). -/
structure Kazq where
  /-- The frame in progress and the repeats it has had (R157). -/
  cur : Option (KazqFrame × Nat)
  seqQ : List KazqFrame
  fwQ : List KazqFrame
  /-- Shadow of HEADSEL, WCUR, WASSIST and HEATER as last acknowledged; none = invalid (R160). -/
  headsel : Option Nat
  wcur : Option Nat
  wassist : Option Nat
  heater : Option Nat
  /-- HTSET after a heater change runs (R149). -/
  heating : Bool
  /-- A frame of the last KZ action failed (R157). -/
  failed : Bool
  deriving DecidableEq, Repr

/-- Saved state of a trap (R180); the return address is SEQTRAP.TRAPPC. -/
structure TrapSave where
  window : Nat
  zero : Bool
  neg : Bool
  flag : Bool
  deriving DecidableEq, Repr

/-- The sequencer (ch. 06); its STATE, PC, D and R are fields of AVn_SEQSTAT, its windows and spill area memories. -/
structure Seq where
  /-- The current window: 0 to 5 call frames, 6 root, 7 trap (6.4). -/
  window : Nat
  /-- ZERO, NEG and FLAG (R168). -/
  zero : Bool
  neg : Bool
  flag : Bool
  /-- What a trap saved (R180). -/
  saved : TrapSave
  /-- The alternate address of the microword that waits, with a computed one already taken (R165). -/
  waitAlt : Nat
  /-- The current entry: sixteen words, all zero when nothing was presented, and what firmware knows of it (6.6). -/
  entry : RingEntry
  /-- The current entry was fetched and its completion is not posted. -/
  entryLive : Bool
  /-- Entries fetched and not completed, the current one among them (R183). -/
  fetched : List RingEntry
  /-- Ports SVOCYL and SVOOFS as last written (Table 6-5, R203). -/
  svoCyl : Word
  svoOfs : Word
  /-- The framer's arms in slot order, and the slot in progress (R175). -/
  arms : List Arm
  slotRun : Option SlotRun
  /-- Channel-bit count at the end of the last slot served. -/
  lastEnd : Nat
  /-- The outcome queue (R171). -/
  outcomes : List OutcomeRec
  /-- The operation that the framer has open (R174). -/
  op : Option MediaOp
  /-- The depth at which an owner sequence began, while its time runs (R188). -/
  owner : Option Nat
  /-- The 32 command rings, and the ring selector: the ring last presented of each class and the normal entries
  presented since the last internal one (R385). -/
  rings : List (List RingEntry)
  lastUrgent : Nat
  lastNormal : Nat
  lastInternal : Nat
  normalRun : Nat
  /-- Operations of the reorder window: urgent, and the others (R384). -/
  winUrgent : Nat
  winOther : Nat
  /-- Completions posted to firmware, oldest first: tag and status (R185). -/
  posted : List (Nat × Nat)
  deriving DecidableEq, Repr

/-- What the serialiser takes for a slot: the sector's bytes (R142), PC1 and PC2 (R144), and WSKEW (R145). -/
structure Serial where
  bytes : List Byte
  pc1 : Nat
  pc2 : Nat
  wskew : Int
  deriving DecidableEq, Repr

/-- An entry of the owner's preamp table (5.5). -/
structure PreampEntry where
  vendor : Nat
  part : Nat
  revMin : Nat
  revMax : Nat
  feat : Nat
  hmap : Nat
  deriving DecidableEq, Repr

/-- State of one Avenue. -/
structure Avenue where
  /-- The layout in force (R63), the timing lane (3.2) and readers A and B (3.3 to 3.5). -/
  layout : Option Layout
  lane : Lane
  readers : Reader × Reader
  /-- Sectors whose on-the-fly decode has not ended, oldest first (at most two, R119). -/
  decoding : List SectorRead
  /-- The code table in force (R117), word by word; empty while none is loaded. -/
  code : List Word
  /-- Data of good sectors delivered to the Square: buffer handle, slot, data and metadata bytes. -/
  delivered : List (Nat × Nat × List Byte)
  /-- Retry ladders running (4.5), the number of the next one, and the ladder records in the Square (R135). -/
  ladders : List Ladder
  nextLadder : Nat
  ladderRecs : List LadderRec
  /-- Sectors classified lasting, recovered, awaiting relocation (R137). -/
  relocate : List SectorAddr
  /-- The pending list (R138). -/
  pendingList : List SectorAddr
  /-- The grown defect list, each with its weak mark (R137, R139). -/
  grown : List (SectorAddr × Bool)
  /-- Sector mappings committed to the journal (R137): old slot and spare slot. -/
  mapping : List (SectorAddr × SectorAddr)
  /-- Sectors classified transient, unresolved, whose internal read firmware has scheduled (R136). -/
  unresolved : List SectorAddr
  /-- Internal reads that firmware schedules after a write fault (R154). -/
  adjacent : List SectorAddr
  /-- WGn high. -/
  wg : Bool
  /-- What the serialiser last took (R142). -/
  serial : Option Serial
  /-- The header last written (R70). -/
  header : BitVec 64
  /-- Shock inputs' hold of cause 0 (R150), PFLTn_N low (cause 2), a TD(8 + n) underflow in progress (cause 4). -/
  shockHold : Bool
  pflt : Bool
  underflow : Bool
  /-- The Kazq link (5.4). -/
  kazq : Kazq
  /-- Serial number recorded for the actuator in the flash store, and its calibration records kept there (R162). -/
  serialRec : Option Nat
  calRec : Bool
  /-- Code identifier in the format record of the flash store (R118); none while there is no record. -/
  codeRec : Option Nat
  /-- The sequencer with its framer (chapter 06). -/
  seq : Seq
  deriving DecidableEq, Repr

/-- A retry decoder job (R122). -/
structure RetryJob where
  av : Fin 4
  lad : Nat
  cls : Nat
  deriving DecidableEq, Repr

/-- The two shared retry decoders (R121, R122). -/
structure RetryDecoders where
  /-- The code table in force, word by word; empty while none is loaded. -/
  code : List Word
  /-- Jobs admitted, oldest first. -/
  queue : List RetryJob
  /-- Jobs that the queue did not take, at most one of each Avenue, oldest first. -/
  held : List RetryJob
  run0 : Option RetryJob
  run1 : Option RetryJob
  deriving DecidableEq, Repr

end Sys2Proof.Machine
end

