-- ==== Sys2Proof/Machine/State/Engines.lean ====
section
/-! DEFINITION. State of the DMA engine, the memories, the control cores and the balls (spec 16, 17, 18 and 21) that
stands in no register. -/

namespace Sys2Proof.Machine

/-- How a started descriptor stands (R468 to R470): its destination writes are made, its flash entry is in flight under the
engine's tag, its lock read answered BUSY, or the lock was granted, with its former owner on ORPHAN. -/
inductive DmaWait where
  | made
  | flash (tag : Nat)
  | busy
  | granted (orphan : Option Nat)
  deriving DecidableEq, Repr

/-- A descriptor that has started and is not written back: its place in the ring and its eight words as read. -/
structure DmaRun where
  index : Nat
  words : List Word
  wait : DmaWait
  deriving DecidableEq, Repr

/-- A flash entry in flight whose write-back is discarded (R474): the engine's tag and the entry's descriptor. -/
structure DmaDrop where
  tag : Nat
  words : List Word
  deriving DecidableEq, Repr

/-- A channel: what has started, in ring order, the entries whose write-backs are discarded, and a stop asked for at the
next descriptor boundary (R474, R475). -/
structure Channel where
  runs : List DmaRun
  drops : List DmaDrop
  stopping : Bool
  deriving DecidableEq, Repr

/-- The memories that the cores and the DMA engine share (R463): the firmware area of the DRAM and the scratch SRAM by byte
offset, and the 64-bit words of each that are uncorrectable until a whole-word write (R488). -/
structure Memories where
  fw : KMap Byte
  scratch : KMap Byte
  fwBad : List Nat
  scratchBad : List Nat
  /-- The DRAM word that the scrub reads next (R489). -/
  scrubPos : Nat
  deriving DecidableEq, Repr

/-- A line of a cache (18.2): its address divided by 64, whether it is dirty (the L2 alone), and its 64 bytes. -/
structure CacheLine where
  line : Nat
  dirty : Bool
  data : List Byte
  deriving DecidableEq, Repr

/-- What a precise trap handed to the handler of a core (R505): the instruction and the data address, and whether the cause
is memory. -/
structure CoreTrap where
  pc : Nat
  addr : Nat
  memory : Bool
  deriving DecidableEq, Repr

/-- The caches, by number as for CPU_LFSR (2k: core k's L1I, 2k + 1: its L1D, 12: the L2), each by 16 × set + way; and the
last trap of each core. -/
structure Cores where
  caches : List (KMap (Option CacheLine))
  traps : List (Option CoreTrap)
  deriving DecidableEq, Repr

/-- The instruction in force at the test port (R568). -/
inductive JtagInstr where
  | bypass | idcode | samplePreload | extest | clamp | highz
  deriving DecidableEq, Repr

/-- The balls and the test port (spec 21): the levels that the board puts on the straps and on the GPIO balls, the
instruction in force at the test port, its data register as captured, and its boundary cells. -/
structure Pins where
  straps : Nat
  gpio : Nat
  ir : JtagInstr
  idreg : Nat
  cells : BoundaryCells
  sampled : BoundaryCells
  deriving DecidableEq, Repr

end Sys2Proof.Machine
end

