-- ==== Sys2Proof/Machine/State/Fabric.lean ====
section
/-! DEFINITION. State of the register bus, the time base, the Ring Road and the pace loop (spec 00 and 01) that
stands in no register. -/

namespace Sys2Proof.Machine

/-- The setup window and the shadows of multi-word values. -/
structure Bus where
  /-- SETUP_PAGE.OPEN (R18, R374). -/
  winOpen : Bool
  /-- SETUP_PAGE.PAGE (R17). -/
  page : Nat
  /-- The word that the last read access returned (the model's own observation; assumption 7). -/
  rdata : Word
  /-- The shadow of each multi-word value by the address of its upper word (R25); 0 where nothing was captured. -/
  shadow : KMap Word
  deriving DecidableEq, Repr

/-- The device time counter (1.6). -/
structure TimeBase where
  /-- The counter, in 10 ns units (R53). -/
  now : BitVec 64
  /-- A load requested and not yet applied (R54). -/
  loadPending : Bool
  deriving DecidableEq, Repr

/-- What the last flit delivered did (R36, R39). -/
structure FlitResult where
  dst : Nat
  clockwise : Bool
  hops : Nat
  poisoned : Bool
  deriving DecidableEq, Repr

/-- The Ring Road: single-bit corrections counted by each stop, flits discarded, and the last delivery (R39). -/
structure RingRoad where
  corrected : KMap Nat
  discarded : Nat
  last : Option FlitResult
  deriving DecidableEq, Repr

/-- The pace monitors and the AVS loop (1.5). -/
structure Pace where
  /-- The zone each Avenue reads or writes now. -/
  cur : Quad Nat
  /-- The zone posted as a preview (R48). -/
  preview : Quad (Option Nat)
  /-- The zone change waiting for its preview margins (R48). -/
  wait : Quad (Option Nat)
  /-- Gates since the last AVS update (R45). -/
  gates : Nat
  /-- Consecutive periods with the code at MAXCODE and a margin below LOW (source 1123). -/
  lowRun : Nat
  /-- Preview margin of each monitor at the last gate; monitors that took no part are absent. -/
  prev : List (Nat × Nat)
  /-- Monitors whose current margin was below WARN, and below CRIT, at the last gate. -/
  belowWarn : List Nat
  belowCrit : List Nat
  /-- PGOOD low: the PGFILT filter runs (R50). -/
  pgTiming : Bool
  /-- VREQ code held because PGOOD stayed low for longer than PGFILT (R50). -/
  pgHold : Bool
  deriving DecidableEq, Repr

end Sys2Proof.Machine
end

