-- ==== Sys2Proof/Machine/State/Faults.lean ====
section
/-! DEFINITION. State of the fault collector and the event recorder (spec 19) that stands in no register. -/

namespace Sys2Proof.Machine

/-- An event raised and not yet handled by the collector (R509). -/
structure Raised where
  src : Nat
  time : Nat
  detail : Nat
  inj : Bool
  deriving DecidableEq, Repr

/-- What the fault summary log counts of one source (Table 19-8). -/
structure SrcCount where
  events : Nat
  reacts : Nat
  trans : Nat
  deriving DecidableEq, Repr

/-- A block reset in progress (Table 19-4). -/
structure UnitReset where
  /-- Unit code of Table 19-3, or 32 + c for DMA channel c. -/
  unit : Nat
  /-- The source whose pending bit step 7 sets, with its core; none for a reset that FLT_BRST requested. -/
  source : Option Nat
  deriving DecidableEq, Repr

/-- The fault collector. -/
structure FaultCollector where
  inbox : List Raised
  /-- Sources in QUIET of which an event arrived in that state (R515). -/
  quietHit : List Nat
  /-- Cores in a non-maskable trap handler, and the held traps: core and source (R511). -/
  inNmi : List Nat
  held : List (Nat × Nat)
  /-- Block resets in progress, and stops that discard late responses after a forced drain (R512). -/
  resets : List UnitReset
  discards : List Nat
  /-- The source of a chip reset in progress (R513). -/
  chip : Option Nat
  /-- Events, block resets, collector chip resets and escalations since first format (Table 19-8). -/
  events : Nat
  blockResets : Nat
  chipResets : Nat
  escalations : Nat
  perSource : KMap SrcCount
  deriving DecidableEq, Repr

/-- A record (Table 19-7); RCRC is computed from the rest. -/
structure RecEntry where
  time : Nat
  seq : Nat
  source : Nat
  typ : Nat
  prof : Nat
  boot : Nat
  react : Nat
  flags : Nat
  regs : List Word
  detail : Nat
  deriving DecidableEq, Repr

/-- A trace frame (Table 19-9). -/
structure TraceFrame where
  typ : Nat
  unit : Nat
  payload : List Byte
  deriving DecidableEq, Repr

/-- The event recorder. -/
structure Recorder where
  /-- Circulating and founding areas, oldest first (R522). -/
  circ : List RecEntry
  found : List RecEntry
  /-- The next SEQ. -/
  nextSeq : Nat
  /-- A record was dropped since the last one; the episode of source 1144 lasts (R521). -/
  dropped : Bool
  dropEpisode : Bool
  /-- The circulating mirror ring by pages, oldest first, and the founding mirror in flash (R524), and a mirror erase asked
  for (R527). -/
  mirror : List (List RecEntry)
  foundMirror : List RecEntry
  eraseMirror : Bool
  /-- Circulating records that a commit programmed, until a start copies them into the mirror (R547, R549). -/
  committed : List RecEntry
  /-- The trace FIFO, frames lost while it is full, and the episode of source 1147 (R528). -/
  fifo : List TraceFrame
  lost : Nat
  ovfEpisode : Bool
  /-- The frame last sent on the trace port (R529). -/
  port : Option TraceFrame
  /-- Stalled units whose wait-enter frame was emitted (R528). -/
  waiting : List Nat
  deriving DecidableEq, Repr

end Sys2Proof.Machine
end

