-- ==== Sys2Proof/Machine/State/Host.lean ====
section
/-! DEFINITION. State of the host engine, the Roundabout and the Arcade (spec 12 to 14) that stands in no register. -/

namespace Sys2Proof.Machine

/-- An AES-256-XTS key: its data half and its tweak half (R440). -/
structure XtsKey where
  k1 : BitVec 256
  k2 : BitVec 256
  deriving DecidableEq, Repr

/-- A registrant of a reservation (R371). -/
structure Registrant where
  host : Nat
  key : Nat
  fn : Nat
  deriving DecidableEq, Repr

/-- The reservation state of a namespace (R371): the type (0 = none) and the holder's host identifier. -/
structure Reservation where
  regs : List Registrant
  typ : Nat
  holder : Nat
  gen : Nat
  ptpl : Bool
  deriving DecidableEq, Repr

/-- An entry of an object index (Table 14-4). -/
structure ObjEntry where
  key : List Byte
  exts : List (Nat × Nat)
  alg : Nat
  len : Nat
  version : Nat
  digest : List Byte
  deriving DecidableEq, Repr

/-- A namespace: its index is NSID − 1; its block 0 is region block `base` of its region, as firmware's media mapping has
it; its key record (generation and key) and its working key; its features and object index. -/
structure Namespace where
  nsid : Nat
  size : Nat
  lbaf : Nat
  pi : Nat
  region : Fin 64
  base : Nat
  ten : Fin 128
  icap : Nat
  attached : List Nat
  gen : Nat
  recd : XtsKey
  key : Option XtsKey
  tler : Nat
  tlo : Bool
  resv : Reservation
  objects : List ObjEntry
  deriving DecidableEq, Repr

/-- A submission queue (R377): its entries stand in host memory. -/
structure SubQueue where
  qid : Nat
  size : Nat
  head : Nat
  tail : Nat
  cq : Nat
  prio : Nat
  deriving DecidableEq, Repr

/-- A completion to be posted (R392). -/
structure Completion where
  tag : Nat
  sq : Nat
  cid : Nat
  sct : Nat
  sc : Nat
  dw0 : Nat
  /-- The More bit (R140). -/
  more : Bool
  deriving DecidableEq, Repr

/-- A completion queue: what waits for it, and whether its full episode has raised source 142 (R379). -/
structure CompQueue where
  qid : Nat
  size : Nat
  head : Nat
  tail : Nat
  vector : Nat
  waiting : List Completion
  full : Bool
  deriving DecidableEq, Repr

/-- An entry of a controller's Error Information log (R395), with the first failing LBA and the qualifier of a failed read
(R140). -/
structure ErrorInfo where
  count : Nat
  sq : Nat
  cid : Nat
  sct : Nat
  sc : Nat
  lba : Nat
  qual : Nat
  deriving DecidableEq, Repr

/-- A function with its controller (12.2). -/
structure Controller where
  /-- Configuration requests are answered (R363); Memory Space Enable; VF Enable of a PF (R362). -/
  ready : Bool
  mse : Bool
  vfEnable : Bool
  /-- HST_FN as last applied, and as in force (R365). -/
  apEn : Bool
  apMsix : Nat
  apIoq : Nat
  en : Bool
  msix : Nat
  ioq : Nat
  /-- CC.EN and CC.AMS; CSTS.RDY, PP, SHST and CFS. -/
  ccEn : Bool
  ams : Nat
  rdy : Bool
  pp : Bool
  shst : Nat
  cfs : Bool
  /-- A controller reset waits for fetched commands to end (R404); a shutdown waits for its drain (R405). -/
  resetting : Bool
  shutdown : Option (Option Nat)
  sqs : List SubQueue
  cqs : List CompQueue
  /-- Features by identifier (Table 13-7); an unlisted one is at its default. -/
  features : KMap Nat
  /-- Asynchronous Event Requests waiting (tags), and events waiting for one (type and information). -/
  aers : List Nat
  events : List (Nat × Nat)
  errors : List ErrorInfo
  errCount : Nat
  /-- Aborts outstanding: the tag of each and of the command it ended (R402). -/
  aborts : List (Nat × Nat)
  /-- The last submission queue served among this controller's normal queues with the commands it may still send in its
  burst, and the weighted class in turn with what is left of its weight (R382). -/
  lastSq : Nat
  burst : Nat
  wrrClass : Nat
  wrrLeft : Nat
  changedNs : List Nat
  deriving DecidableEq, Repr

/-- How far a host command stands in the device. -/
inductive CmdPhase where
  /-- Fetched. -/
  | fetched
  /-- A write whose blocks are handed to the Square. -/
  | placing
  /-- Waits for the drain of that identity, then completes (R392, R397). -/
  | draining (id : Nat)
  /-- Waits for the merged drain request (R398). -/
  | merging
  /-- An Arcade command that waits for earlier changes of its namespace (R427), for a context, or runs in one (R426). -/
  | barrier
  | waitCtx
  | running (ctx : Nat)
  /-- An Asynchronous Event Request, or an Abort that waits for the named command's completion. -/
  | parked
  /-- Its completion waits to be posted. -/
  | done
  deriving DecidableEq, Repr

/-- A host command in flight: its tag, its origin and completion queue, its class (0 normal, 1 urgent, 2 admin), its
entry, and whether a reset has ended its controller's use of it (R404). -/
structure Cmd where
  tag : Nat
  fn : Nat
  sq : Nat
  cq : Nat
  cls : Nat
  sqe : Sqe
  order : Nat
  deadline : Nat
  phase : CmdPhase
  orphan : Bool
  /-- Blocks of a write handed over; Arcade steps run, or, of a read, 1 with its stream noted plus 2 with its drain requested;
  a Put or Delete past its commit point (R429). -/
  blocks : Nat
  steps : Nat
  committed : Bool
  /-- The command was fetched while the owner session was held (R455). -/
  owner : Bool
  deriving DecidableEq, Repr

/-- Activation without reset (Table 13-3): the Firmware Commit's tag, its slot, and the drain of step 4. -/
structure Activation where
  tag : Nat
  slot : Nat
  drain : Option Nat
  deriving DecidableEq, Repr

/-- The Roundabout (spec 13). -/
structure Roundabout where
  cmds : List Cmd
  order : Nat
  /-- Credits (R381); the controllers last served with an admin queue, and the urgent queue last served. -/
  credit : KMap Int
  cur : Nat
  lastAdmin : Nat
  lastUrgent : Nat × Nat
  /-- Tag exhaustion and no-tag episodes in progress (R390, R391). -/
  tagEp : Bool
  noTagEp : Bool
  /-- Commands whose drain requests are being merged (R398). -/
  merge : List Nat
  act : Option Activation
  /-- The Roundabout log (Table 13-9): episodes, no-tag episodes, time-limit ends, Abort ends, Activation Abort ends,
  promotions, highest tags held. -/
  log : List Nat
  deriving DecidableEq, Repr

/-- An Arcade command whose control block was read: the control block, the entry it resolved, the LBAs of its source
blocks, where its bytes begin in them and how many they are, and the blocks read so far (R428). -/
structure ArcRun where
  tag : Nat
  cb : List Byte
  entry : Option ObjEntry
  blocks : List Nat
  skip : Nat
  len : Nat
  data : List Byte
  deriving DecidableEq, Repr

/-- A persistent Arcade context (R426): which of the 256 contexts it is, its controller, handle and tenancy, and its running
RAW hash: the hash and the bytes appended (R422). -/
structure ArcContext where
  idx : Nat
  fn : Nat
  handle : Nat
  ten : Fin 128
  alg : Nat
  bytes : List Byte
  deriving DecidableEq, Repr

/-- The Arcade (spec 14): persistent contexts, commands read and not ended, whether an episode of source 1043 lasts, the
tenancy recorded against each running context (R442), the last answer of the Arcade channel (none: poisoned), and the
Arcade log's counters (R434): Puts, Deletes, Gets, Encodes, Digests, Verify mismatches, Verify unreadables, self-check
differences, context waits. -/
structure Arcade where
  persist : List ArcContext
  runs : List ArcRun
  waitEp : Bool
  ctxTen : KMap (Option (Fin 128))
  channel : Option (List Byte)
  log : List Nat
  deriving DecidableEq, Repr

/-- The host engine (spec 12), its namespaces and controllers, and what a host last received: the data returned with a
command, and the result part of its control block, by tag, and the last SMBus answer (none: not acknowledged). -/
structure HostEngine where
  /-- The controllers by function, and the namespaces (12.2, 12.3). -/
  fns : KMap Controller
  ns : List Namespace
  /-- Ports in L1.2 (R535). -/
  l12 : List Nat
  /-- Payloads taken into the staging buffers (R360). -/
  staged : List (List Word)
  /-- Data returned with a command, by tag (R393). -/
  reply : List (Nat × List Byte)
  /-- The result part of a control block, by tag (R413). -/
  results : List (Nat × List Byte)
  /-- The last SMBus answer; none: not acknowledged (R373). -/
  smbus : Option (List Byte)
  deriving DecidableEq, Repr

end Sys2Proof.Machine
end

