-- ==== Sys2Proof/Machine/State/Motion.lean ====
section
/-! DEFINITION. State of the servo engines (spec 07) that stands in no register. -/

namespace Sys2Proof.Machine

/-- State of one cascade section (R202): x1, x2, y1, y2, binary32. -/
structure Section where
  x1 : Word
  x2 : Word
  y1 : Word
  y2 : Word
  deriving DecidableEq, Repr

/-- The profile generator (R204): the reference of the present interval, the state one interval ahead, the feedforward
of the present and of the next interval, and whether the interval ahead is the profile's end. -/
structure ProfileGen where
  ref : Word
  p : Word
  v : Word
  a : Word
  f : Int
  fNext : Int
  ended : Bool
  deriving DecidableEq, Repr

/-- Where an unload stands (R221): driving to the ramp, in PARKT after the ramp edge, or in PARKT of the retract. -/
inductive UnloadStage where
  | driving | edge | retract
  deriving DecidableEq, Repr

/-- One servo engine; its state, target cylinder, profile set and thresholds are fields of SVOn registers. -/
structure Servo where
  /-- A request not yet settled, by its class (R203). -/
  req : Option Nat
  /-- The requested offset, the selected data face and its live head offset (R196), and updates held (R197). -/
  ofs : Int
  face : Nat
  head : Int
  headHeld : Bool
  /-- Profile set wanted: strong (R205). -/
  wantStrong : Bool
  gen : ProfileGen
  /-- Last errors (R196, R195). -/
  et : Int
  ed : Int
  /-- Controller outputs now carried, and those of the last wedge (R200). -/
  fbV : Int
  fbM : Int
  nextV : Int
  nextM : Int
  /-- Sections of S_v, S_m and D (R202). -/
  secV : List Section
  secM : List Section
  secD : Section
  /-- The expected number of the next timing wedge. -/
  nextWedge : Nat
  /-- Consecutive missed wedges; found wedges within STHR; wedges within WRTHR; found wedges of a load or recovery. -/
  missRun : Nat
  settleRun : Nat
  writeRun : Nat
  foundRun : Nat
  /-- An off-track excursion lasts (R210). -/
  excursion : Bool
  /-- Settle is still to be signalled to the lane (R207). -/
  settleDue : Bool
  /-- SHKT after a shock input runs (R211). -/
  shockSet : Bool
  stage : UnloadStage
  /-- Sum of the back-EMF velocities of the command periods since the last found wedge (R223). -/
  bemfSum : Int
  /-- Command index within the wedge interval (R199). -/
  cmd : Nat
  /-- The last out frame (Table 7-4). -/
  out : BitVec 42
  /-- Published values, newest first, and when the newest was published (R212, R213). -/
  history : List Int
  published : Nat
  /-- The engines whose values are stale, while the episode lasts (R213). -/
  stale : List Nat
  /-- Consecutive bad in frames (R217), and consecutive drive-link underflows (R32). -/
  badFrames : Nat
  underflows : Nat
  /-- Device times of the last found timing wedges, newest first, at most 841 (R237). -/
  foundAt : List Nat
  deriving DecidableEq, Repr

/-- The spindle controller (spec 08); numbers are binary32 patterns in volts, amperes, webers, newton metres, radians
and rpm. Its state and phase are fields of SPN_STAT. -/
structure Spindle where
  /-- The vector in force; none = bridge off (R228). -/
  vec : Option (Fin 8)
  /-- Gain in force, and whether this step lasts 5 µs (R233). -/
  gain : Nat
  longStep : Bool
  /-- Observer: flux, torque estimate, angle (R236). -/
  psiA : Word
  psiB : Word
  tEst : Word
  theta : Word
  /-- Changes of the angle over the last 64 steps, newest first, with the step's length in µs (R236). -/
  turns : List (Word × Nat)
  /-- Comparators (R238): flux to be raised, and the torque comparator, -1 to +1. -/
  dpsi : Bool
  dtq : Int
  /-- Speed reference, integrator and torque reference (R246, R257). -/
  omega : Word
  integ : Word
  tRef : Word
  /-- Kept conversions of the two converters, and channels with a fresh conversion in this step (R234). -/
  kept0 : Nat
  kept1 : Nat
  fresh : List Nat
  /-- Consecutive breaks of P1 to P3, steps without a fresh current, and steps since a handoff still checked (R241, R247). -/
  p1 : Nat
  p2 : Nat
  p3 : Nat
  stale : Nat
  handoff : Nat
  /-- The state that RESYNC left, and the times of failed resyncs (R242). -/
  from_ : Nat
  resyncFails : List Nat
  /-- Times of overcurrent trips (R230). -/
  trips : List Nat
  /-- START: failed attempts, the 1 s wait after one, V0 applied in the catch phase, open-loop speed and angle (R247). -/
  attempts : Nat
  retryWait : Bool
  catchBrake : Bool
  olSpeed : Word
  olAngle : Word
  /-- READY has become 1 since EN was written 1 (R247); its conditions hold (R248). -/
  wasReady : Bool
  inBand : Bool
  /-- Consecutive VBUS conversions below VBLO, and at VBLO + 0.2 V or above (R255); an episode at VBOV lasts (R254). -/
  lowRun : Nat
  okRun : Nat
  vbov : Bool
  /-- SPEED was at FLYMIN or above (R250). -/
  flying : Bool
  /-- The episode of source 948 lasts (R252). -/
  badCmd : Bool
  deriving DecidableEq, Repr

end Sys2Proof.Machine
end

