-- ==== Sys2Proof/Machine/State/Store.lean ====
section
/-! DEFINITION. State of the Square, the flash store and the redundancy bookkeeping (spec 09 to 11) that stands in no
register. -/

namespace Sys2Proof.Machine

/-- The index key of a block (R264). -/
structure BlockKey where
  ten : Option (Fin 128)
  ns : Nat
  lba : Nat
  deriving DecidableEq, Repr

/-- Page states (Table 9-2). -/
inductive PageSt where
  | free | fill | clean | dirty | destage | retired
  deriving DecidableEq, Repr

/-- A page with its descriptor (Table 9-1) and what the Square knows of it. -/
structure Page where
  st : PageSt
  /-- J, G, REF and PROT of the descriptor. -/
  j : Bool
  g : Bool
  ref : Bool
  prot : Bool
  key : BlockKey
  pins : Nat
  epoch : Nat
  ecrc : Word
  pmeta : List Byte
  data : List Byte
  /-- Superseded by a newer page of its key (R265). -/
  superseded : Bool
  /-- The index holds it (Table 17-4: an entry can be lost). -/
  indexed : Bool
  loc : Option RegionLoc
  /-- Media writes of its destage still to end, and whether one failed (R277). -/
  left : Nat
  failed : Bool
  /-- Order of placement. -/
  stamp : Nat
  /-- The write that placed it. -/
  tag : Option Nat
  deriving DecidableEq, Repr

/-- A fill in progress (R269): its page, its read, whether it is read-ahead (R273), and the reads that wait on it. -/
structure Fill where
  page : Nat
  req : ReadReq
  ahead : Bool
  waiters : List ReadReq
  deriving DecidableEq, Repr

/-- An allocation that waits (R266). -/
inductive AllocWait where
  | fill (key : BlockKey) (req : ReadReq) (ahead : Bool) (waiters : List ReadReq)
  | place (p : PlaceArgs)
  | refill (key : BlockKey)
  | parity (region stripe : Nat) (target : Bool)
  deriving DecidableEq, Repr

/-- An entry of the stream table (R272); the list order is the age. -/
structure Stream where
  ten : Fin 128
  ns : Nat
  next : Nat
  run : Nat
  deriving DecidableEq, Repr

/-- A gather group (R280): its stripe, whether it follows the target layout of a reshape, when it opened, its placed
pages and its completion pages by position in the stripe, its parity pages by row, and whether it writes its stripe or
is withheld under R480. -/
structure Group where
  region : Nat
  stripe : Nat
  target : Bool
  opened : Nat
  members : List (Nat × Nat)
  extra : List (Nat × Nat)
  parity : List (Nat × Nat)
  writing : Bool
  withheld : Bool
  deriving DecidableEq, Repr

/-- An open drain (R284). -/
structure Drain where
  id : Nat
  epoch : Nat
  at_ : Nat
  deriving DecidableEq, Repr

/-- A hardware lock (R288). -/
structure Lock where
  owner : Nat
  orphaned : Bool
  last : Nat
  warned : Bool
  deriving DecidableEq, Repr

/-- A block held in the flash journal (R276): its content as firmware would replay it. The journal's order is that of SEQ. -/
structure JournalBlock where
  key : BlockKey
  epoch : Nat
  data : List Byte
  pmeta : List Byte
  loc : Option RegionLoc
  tag : Option Nat
  deriving DecidableEq, Repr

/-- The Square. -/
structure Square where
  /-- The buffer pages by number (9.1). -/
  pages : KMap Page
  /-- The free list: pages never taken since INIT, from this one up, and then the pages freed, oldest first. -/
  fresh : Nat
  freed : List Nat
  /-- The two LRU segments, head first (R270). -/
  probation : List Nat
  protectedSeg : List Nat
  /-- Fills running, and requests that wait for a page (R266, R271). -/
  fills : List Fill
  waits : List AllocWait
  /-- Placements held by the window, or by a power loss, oldest first (R275, R278). -/
  held : List PlaceArgs
  lossHold : Bool
  /-- The stream table (R272), the gather groups (R281), and the drains in progress (R284). -/
  streams : List Stream
  groups : List Group
  drains : List Drain
  /-- Drain requests waiting for an epoch, and the next drain's identity. -/
  drainWait : List Nat
  nextDrain : Nat
  /-- Pages that firmware is asked to destage, and pages to be journaled, oldest request first. -/
  destageQ : List Nat
  journalQ : List Nat
  /-- The journal's blocks that can be read (R276). -/
  journal : List JournalBlock
  /-- Keys recorded as filled from the media or destaged (R277, Table 17-4). -/
  onMedia : List BlockKey
  /-- Firmware's lost-write list: key and qualifier (R279, R350). -/
  lost : List (BlockKey × Nat)
  /-- The locks (R287), and the stamp of the next write (R274). -/
  locks : KMap Lock
  stamp : Nat
  /-- Reads of a key whose dirty page the index has lost wait for the scrub pass that finds it (Table 17-4). -/
  lostIndex : List (BlockKey × ReadReq)
  /-- Reads that ended for host commands: tag, LBA and status (R271, R279). -/
  readEnds : List (Nat × Nat × Nat × Nat × Nat)
  /-- Blocks placed for each write's tag (R274). -/
  placed : KMap Nat
  deriving DecidableEq, Repr

/-- A sector on a die (Table 10-3): the data field is ciphertext. -/
structure FlashSector where
  data : List Byte
  cmeta : List Byte
  seq : Nat
  typ : Nat
  scrc : Word
  deriving DecidableEq, Repr

/-- A flash block: its write pointer (R307), erase count (R317), uncorrectable reads since its erase (R315), and the
pages programmed since, by page number. -/
structure FlashBlock where
  ptr : Nat
  erases : Nat
  uncorr : Nat
  pages : KMap (List FlashSector)
  deriving DecidableEq, Repr

/-- Causes in the grown table (R314, R317). -/
inductive GrownCause where
  | program | erase | margin | read | wear
  deriving DecidableEq, Repr

/-- An entry of a grown bad-block table (R314). -/
structure GrownEntry where
  block : Nat
  cause : GrownCause
  time : Nat
  deriving DecidableEq, Repr

/-- Operations of Table 10-4. -/
inductive FlashOp where
  | read | program | erase | mread
  deriving DecidableEq, Repr

/-- An entry placed in a die queue. -/
structure FlashJob where
  op : FlashOp
  entry : FlashEntry
  deriving DecidableEq, Repr

/-- An erase that runs or is suspended (R309): suspends made, reads served in this suspend, and whether 976 was raised. -/
structure EraseRun where
  job : FlashJob
  suspends : Nat
  served : Nat
  raised : Bool
  deriving DecidableEq, Repr

/-- A completion of a flash entry (R305), with the plaintext and client meta that a read delivered. -/
structure FlashDone where
  ring : Nat
  tag : Nat
  status : Nat
  bits : Nat
  data : List Byte
  pmeta : List Byte
  deriving DecidableEq, Repr

/-- One die. -/
structure FlashDie where
  blocks : KMap FlashBlock
  factory : List Nat
  grown : List GrownEntry
  /-- Blocks refused once the grown table is full (R315), and the blocks that replace failed ones (R316). -/
  refused : List Nat
  replaced : List (Nat × Nat)
  queue : List FlashJob
  run : Option FlashJob
  erasing : Option EraseRun
  /-- The erase stands suspended. -/
  suspended : Bool
  deriving DecidableEq, Repr

/-- The flash store. -/
structure Flash where
  die0 : FlashDie
  die1 : FlashDie
  /-- The write sequence number of the next page program (R300). -/
  seq : Nat
  posted : List FlashDone
  /-- Blocks flagged by the margin patrol (R311), oldest first: die and block. -/
  patrol : List (Nat × Nat)
  /-- The erased reserve (R321): die and block. -/
  reserve : List (Nat × Nat)
  /-- Bytes programmed into the journal pool and checkpoint area beyond WUSED's unit. -/
  rest : Nat
  deriving DecidableEq, Repr

/-- A unit remapped by rebuild (R342): region, Avenue, offset and the spare unit. -/
structure Remap where
  region : Nat
  av : Nat
  offset : Nat
  spare : Nat
  deriving DecidableEq, Repr

/-- What firmware keeps for the regions (spec 11). -/
structure Redundancy where
  /-- Written blocks: region and region block (R326). -/
  written : List (Nat × Nat)
  remaps : List Remap
  /-- Rows whose parity page stands in the journal (R332): region, stripe and row. -/
  journaled : List (Nat × Nat × Nat)
  /-- Regions whose present resynchronisation has raised source 428 + 10. -/
  found : List Nat
  /-- Checkpoints in the flash store: the CURSOR of a region, and the BOUND and TGEN of a reshape. -/
  cursorCk : KMap Nat
  reshapeCk : KMap (Nat × Nat)
  /-- Lost units on failed faces (R341): region, Avenue and offset; and regions all of whose units on an Avenue are lost. -/
  lostUnits : List (Nat × Nat × Nat)
  lostAvs : List (Nat × Nat)
  /-- The CURSOR at which a resynchronisation stopped (R350). -/
  stopped : KMap Nat
  /-- Blocks to be relocated with reconstructed data (R337): region and region block. -/
  relocate : List (Nat × Nat)
  /-- Elements recorded as failed in the configuration area (R340). -/
  declared : List Element
  /-- Blocks on the pending list (R337, R347): region and region block. -/
  unreadable : List (Nat × Nat)
  deriving DecidableEq, Repr

end Sys2Proof.Machine
end

