-- ==== Sys2Proof/Machine/State/Trust.lean ====
section
/-! DEFINITION. State of the Tollgate and the power block (spec 15 and 20) that stands in no register. -/

namespace Sys2Proof.Machine

/-- A tenancy's key (R438, R456, R458): the generation and content of its record, the working key, and, under LOCKREQ, the
salt and the credential key once SET. -/
structure TenantKey where
  gen : Nat
  recd : BitVec 256
  key : Option (BitVec 256)
  salt : BitVec 256
  cred : Option (List Byte)
  deriving DecidableEq, Repr

/-- An SPDM session (R453, R454): its controller, whether it asked for mutual authentication and the requester's chain once
delivered, whether FINISH established it, whether it is an owner session with its root slot, how often its keys were
updated, and when its last message came. -/
structure Session where
  fn : Nat
  mutAuth : Bool
  chain : Option RequesterChain
  established : Bool
  owner : Bool
  slot : Nat
  updates : Nat
  last : Nat
  deriving DecidableEq, Repr

/-- An SPDM response (Table 15-6): what each carries. A signature covers the bytes that come before it. -/
inductive SpdmResponse where
  | version
  | capabilities
  | algorithms
  /-- Digests of the filled slots' chains. -/
  | digests (slots : List (Nat × List Byte))
  | certificate (slot : Nat) (part : List Byte) (left : Nat)
  | challengeAuth (slot : Nat) (digest nonce sig : List Byte)
  /-- Measurement blocks by index, and a signature with its nonce. -/
  | measurements (blocks : List (Nat × List Byte)) (signature : Option (List Byte × List Byte))
  | keyExchangeRsp (mutAuth : Bool) (random sig : List Byte)
  | finishRsp
  | endSessionAck
  | heartbeatAck
  | keyUpdateAck
  | encapsulatedRequest
  | encapsulatedResponseAck
  | csr (sig : List Byte)
  | setCertificateRsp
  | vendorDefined
  | error (code : Nat)
  deriving DecidableEq, Repr

/-- A loaded and measured image (R448): digest, security version, interface version, build. -/
structure Loaded where
  digest : List Byte
  svn : Nat
  ifver : Nat
  build : Nat
  deriving DecidableEq, Repr

/-- The Tollgate (spec 15). -/
structure Tollgate where
  /-- The DRS in its fuses (none: not provisioned, or destroyed), and its reads blocked until chip reset (R461). -/
  drs : Option (BitVec 256)
  drsBlocked : Bool
  kseal : Option (BitVec 256)
  kflash : Option XtsKey
  kdram : Option XtsKey
  dik : Bool
  tens : KMap (Option TenantKey)
  sessions : List Session
  /-- How far each controller's SPDM connection stands: 0, version, capabilities, algorithms. -/
  conn : KMap Nat
  /-- The owner root slots' hashes in fuses (R446). -/
  owners : List (Option (List Byte))
  /-- MR0 to MR9 (R448), and the images loaded, by class, with the manifest last. -/
  mr : List (List Byte)
  loaded : List (Option Loaded)
  /-- Certificate chains of slots 0 and 1 (R451). -/
  cert0 : List Byte
  cert1 : List Byte
  /-- Failed owner authentications since chip reset (R454). -/
  authFails : Nat
  /-- An accepted debug unlock waits for its drain: its level, and the drain (R461). The debug paths are open. -/
  unlock : Option (Nat × Nat)
  debugOpen : Bool
  /-- The SPDM response that each controller last received (R450). -/
  response : KMap (Option SpdmResponse)
  deriving DecidableEq, Repr

/-- An image in the image area or staged: its envelope and body (Table 15-4). -/
structure Image where
  env : List Byte
  body : List Byte
  deriving DecidableEq, Repr

/-- A commit or clean-stop record (Table 20-5). -/
structure CommitRec where
  kind : Nat
  cause : Nat
  park : Nat
  start : Bool
  boot : Nat
  npages : Nat
  seqFirst : Nat
  seqLast : Nat
  nrec : Nat
  opens : List (Fin 128 × Nat × Nat × Nat)
  time : Nat
  deriving DecidableEq, Repr

/-- The power block and what the flash store keeps for it (spec 20). -/
structure Power where
  /-- The newest record of the journal pool is a clean-stop record, and no open marker follows it (R550). -/
  cleanStop : Bool
  /-- The newest commit or clean-stop record, and whether it meets R549. -/
  newest : Option CommitRec
  newestOk : Bool
  /-- Manifest slots A and B, the images in the image places, and the parts that Firmware Image Download has staged, by
  byte offset (R541). -/
  slotA : Option Image
  slotB : Option Image
  places : List Image
  partials : List (Nat × List Byte)
  /-- The boot record: ACTIVE, LKG, ATTEMPTS (R540, R541). -/
  active : Bool
  lkg : Bool
  attempts : Nat
  /-- A commit has succeeded in Cul-de-sac or claim mode: the next assertion of PERST_A_N starts the device afresh (R544). -/
  restart : Bool
  /-- Consecutive low samples of VIO, VANA and the two VFLASH rails (R547). -/
  lowRuns : List Nat
  /-- PGOOD low: the PGT filter runs (R547). -/
  pgtTiming : Bool
  /-- Causes present now, as CAUSE of Table 20-5. -/
  causes : Nat
  /-- The commit in progress, by the KIND of its record (Table 20-5), and how the last one ended: recorded (true) or
  failed. -/
  commit : Option Nat
  committed : Option Bool
  /-- Engines that were in OFF, PARKED or FAULT when the commit began, bit n for engine n (PARK of Table 20-5). -/
  idleAt : Nat
  /-- PORST_N low, and the internal reset applied and held until it rises (R406). -/
  porstLow : Bool
  inReset : Bool
  /-- PORST_N rose before the internal reset was applied (R406): the straps sampled and what the start will meet. -/
  risen : Option (Fin 16 × StartInput)
  /-- The device is in deep standby, and a fall of WAKE_N timed out, so that it must rise and fall again (R536, R537). -/
  deep : Bool
  wakeSpent : Bool
  /-- A rail outside its window, and temperatures above TWARN and TCRIT, while the episodes last. -/
  railOut : Bool
  hotWarn : Bool
  hotCrit : Bool
  /-- The Start and power log's counters (Table 20-7): starts, successful and failed commits, fallbacks, time of the last
  commit record. -/
  log : List Nat
  deriving DecidableEq, Repr

end Sys2Proof.Machine
end

