-- ==== Sys2Proof/Machine/State.lean ====
section
/-! DEFINITION. The state of the device: every register by address, the parts of every block that stand in no register, the
queue of waiting commands, and the state in which the internal reset of PORST_N leaves them (R406, R552). -/

namespace Sys2Proof.Machine

/-- Reasons to stop with a fault. No command of the device stops it: what the spec reports as a fault is an event on a
source (R509), a status or a field, and the device goes on; so there is no constructor. -/
inductive Fault where
  deriving DecidableEq, Repr

/-- Reasons to refuse a command. -/
inductive Refusal where
  /-- A command without a meaning in this model, by its mnemonic; raised by arms of `exec` alone. Safe: the run ends. -/
  | notModelled (mnemonic : String)
  deriving DecidableEq, Repr

/-- The device. -/
structure State where
  /-- Every register word and every word of a table or store that has an address, by device byte address (R16); an unlisted
  one holds its reset value. -/
  regs : KMap Word
  bus : Bus
  tim : TimeBase
  ring : RingRoad
  pace : Pace
  av : Quad Avenue
  rdec : RetryDecoders
  svo : Quad Servo
  spn : Spindle
  sqr : Square
  fls : Flash
  red : Redundancy
  host : HostEngine
  rbt : Roundabout
  arc : Arcade
  tgt : Tollgate
  pwr : Power
  flt : FaultCollector
  recd : Recorder
  dma : KMap Channel
  mem : Memories
  cores : Cores
  pins : Pins
  /-- Levels of SHOCK0 and SHOCK1 (R150). -/
  shock0 : Bool
  shock1 : Bool
  /-- The owner's preamp table (5.5), a part of the configuration area, and the nominal speed in rpm, which the loaded SP image
  names (R60). -/
  preampTable : List PreampEntry
  nominal : Nat
  /-- The model's own field: how many free values have been drawn (assumption 5). -/
  freeCtr : Nat
  /-- The model's own field: the commands that wait, first in, first out. -/
  pending : List Instr
  deriving DecidableEq, Repr

/-! ### The parts at reset -/

/-- A reader of an Avenue. -/
def freshReader : Reader :=
  { inv := 0, setl := 0, dropped := 0, skew := 0, skew0 := 0, acc := 0, stopped := false, gainNum := 1, gainDen := 1
    taps := [], calNext := 0, trims := [] }

/-- A sequencer: the root window, nothing presented, empty rings. -/
def freshSeq : Seq :=
  { window := 6, zero := false, neg := false, flag := false, saved := ⟨6, false, false, false⟩, waitAlt := 0
    entry := ⟨List.replicate 16 0, false, false, none, none⟩, entryLive := false, fetched := [], svoCyl := 0, svoOfs := 0
    arms := [], slotRun := none, lastEnd := 0, outcomes := [], op := none, owner := none, rings := List.replicate 32 []
    lastUrgent := 3, lastNormal := 23, lastInternal := 3, normalRun := 0, winUrgent := 0, winOther := 0, posted := [] }

/-- An Avenue: no layout, lane in OFF, write gate low, no shadow valid. -/
def freshAvenue : Avenue :=
  { layout := none
    lane := { fw := 0, phase := 0, lockRun := 0, lossRun := 0, ampRun := 0, mismRun := 0, count := 0, zone := 0, t0 := 0 }
    readers := (freshReader, freshReader), decoding := [], code := [], delivered := [], ladders := [], nextLadder := 0
    ladderRecs := [], relocate := [], pendingList := [], grown := [], mapping := [], unresolved := [], adjacent := []
    wg := false, serial := none, header := 0, shockHold := false, pflt := false, underflow := false
    kazq := { cur := none, seqQ := [], fwQ := [], headsel := none, wcur := none, wassist := none, heater := none
              heating := false, failed := false }
    serialRec := none, calRec := false, codeRec := none, seq := freshSeq }

/-- A cascade section at rest. -/
def freshSection : Section := ⟨0, 0, 0, 0⟩

/-- A servo engine: in OFF, nothing asked. -/
def freshServo : Servo :=
  { req := none, ofs := 0, face := 0, head := 0, headHeld := false, wantStrong := false
    gen := { ref := 0, p := 0, v := 0, a := 0, f := 0, fNext := 0, ended := false }
    et := 0, ed := 0, fbV := 0, fbM := 0, nextV := 0, nextM := 0
    secV := List.replicate 4 freshSection, secM := List.replicate 4 freshSection, secD := freshSection
    nextWedge := 0, missRun := 0, settleRun := 0, writeRun := 0, foundRun := 0, excursion := false, settleDue := false
    shockSet := false, stage := .driving, bemfSum := 0, cmd := 0, out := 0, history := [], published := 0, stale := []
    badFrames := 0, underflows := 0, foundAt := [] }

/-- The spindle controller: bridge off. -/
def freshSpindle : Spindle :=
  { vec := none, gain := 0, longStep := false, psiA := 0, psiB := 0, tEst := 0, theta := 0, turns := [], dpsi := false
    dtq := 0, omega := 0, integ := 0, tRef := 0, kept0 := 0, kept1 := 0, fresh := [], p1 := 0, p2 := 0, p3 := 0, stale := 0
    handoff := 0, from_ := 0, resyncFails := [], trips := [], attempts := 0, retryWait := false, catchBrake := false
    olSpeed := 0, olAngle := 0, wasReady := false, inBand := false, lowRun := 0, okRun := 0, vbov := false
    flying := false, badCmd := false }

/-- The Square: no page, no lock held. -/
def freshSquare : Square :=
  { pages := [], fresh := 0, freed := [], probation := [], protectedSeg := [], fills := [], waits := [], held := []
    lossHold := false, streams := [], groups := [], drains := [], drainWait := [], nextDrain := 0, destageQ := []
    journalQ := [], journal := [], onMedia := [], lost := [], locks := [], stamp := 0, lostIndex := [], readEnds := []
    placed := [] }

/-- A die with nothing programmed. -/
def freshDie : FlashDie :=
  { blocks := [], factory := [], grown := [], refused := [], replaced := [], queue := [], run := none, erasing := none
    suspended := false }

/-- The flash store, with nothing programmed. -/
def freshFlash : Flash :=
  { die0 := freshDie, die1 := freshDie, seq := 0, posted := [], patrol := [], reserve := [], rest := 0 }

/-- What firmware keeps for the regions: none is defined. -/
def freshRedundancy : Redundancy :=
  { written := [], remaps := [], journaled := [], found := [], cursorCk := [], reshapeCk := [], lostUnits := []
    lostAvs := [], stopped := [], relocate := [], declared := [], unreadable := [] }

/-- The Roundabout: nothing in flight. -/
def freshRoundabout : Roundabout :=
  { cmds := [], order := 0, credit := [], cur := 127, lastAdmin := 127, lastUrgent := (127, 4095), tagEp := false
    noTagEp := false, merge := [], act := none, log := List.replicate 7 0 }

/-- The Arcade: every context free. -/
def freshArcade : Arcade :=
  { persist := [], runs := [], waitEp := false, ctxTen := [], channel := none, log := List.replicate 9 0 }

/-- The Tollgate: its DRS provisioned, nothing derived, nothing measured (R436, R448). -/
def freshTollgate : Tollgate :=
  { drs := some 0, drsBlocked := false, kseal := none, kflash := none, kdram := none, dik := false, tens := []
    sessions := [], conn := [], owners := List.replicate 4 none, mr := List.replicate 10 (List.replicate 48 0)
    loaded := List.replicate 7 none, cert0 := [], cert1 := [], authFails := 0, unlock := none, debugOpen := false
    response := [] }

/-- The power block: PORST_N low with the internal reset in force, and nothing in the flash store (R406, R540). -/
def freshPower : Power :=
  { cleanStop := false, newest := none, newestOk := false, slotA := none, slotB := none, places := [], partials := []
    active := false, lkg := false, attempts := 0, restart := false, lowRuns := List.replicate 4 0, pgtTiming := false, causes := 0
    commit := none, committed := none, idleAt := 0, porstLow := true, inReset := true, risen := none, deep := false, wakeSpent := false
    railOut := false, hotWarn := false, hotCrit := false, log := List.replicate 5 0 }

/-- The fault collector: no event. -/
def freshCollector : FaultCollector :=
  { inbox := [], quietHit := [], inNmi := [], held := [], resets := [], discards := [], chip := none, events := 0
    blockResets := 0, chipResets := 0, escalations := 0, perSource := [] }

/-- The event recorder: no record held. -/
def freshRecorder : Recorder :=
  { circ := [], found := [], nextSeq := 0, dropped := false, dropEpisode := false, mirror := [], foundMirror := []
    eraseMirror := false, committed := [], fifo := [], lost := 0, ovfEpisode := false, port := none, waiting := [] }

/-- Boundary cells that drive nothing. -/
def freshCells : BoundaryCells := ⟨0, 0, []⟩

/-- The fuse word of a part as made: LIFE = PROVISIONED (1), the rest of TGT_STAT at its reset value (assumption 3). -/
def lifeFuse : Word := 0x40000000

/-- The machine right after reset: PORST_N is low and the internal reset is in force; every register is at its reset value
(an unlisted address), LIFE stands as its fuses give it, and no command waits. -/
def State.reset : State :=
  { regs := [(TGT_STAT, lifeFuse)]
    bus := { winOpen := false, page := 0, rdata := 0, shadow := [] }
    tim := { now := 0, loadPending := false }
    ring := { corrected := [], discarded := 0, last := none }
    pace := { cur := .all 0, preview := .all none, wait := .all none, gates := 0, lowRun := 0, prev := [], belowWarn := []
              belowCrit := [], pgTiming := false, pgHold := false }
    av := .all freshAvenue
    rdec := { code := [], queue := [], held := [], run0 := none, run1 := none }
    svo := .all freshServo
    spn := freshSpindle
    sqr := freshSquare
    fls := freshFlash
    red := freshRedundancy
    host := { fns := [], ns := [], l12 := [], staged := [], reply := [], results := [], smbus := none }
    rbt := freshRoundabout
    arc := freshArcade
    tgt := freshTollgate
    pwr := freshPower
    flt := freshCollector
    recd := freshRecorder
    dma := []
    mem := { fw := [], scratch := [], fwBad := [], scratchBad := [], scrubPos := 0 }
    cores := { caches := List.replicate 13 [], traps := List.replicate 6 none }
    pins := { straps := 0, gpio := 0, ir := .idcode, idreg := 0, cells := freshCells, sampled := freshCells }
    shock0 := false
    shock1 := false
    preampTable := []
    nominal := 7200
    freeCtr := 0
    pending := [] }

end Sys2Proof.Machine
end

