-- ==== Sys2Proof/Machine/Ops.lean ====
section
/-! DEFINITION. The named operations over the state that every family shares: reading and writing registers and their
fields, counters, free values, events, and the blocks' parts. -/

namespace Sys2Proof.Machine

/-! ### Words and fields -/

/-- The bits of `w` from `lo` up, `wid` of them, as a number. -/
def bitsOf (w lo wid : Nat) : Nat := (w / 2 ^ lo) % 2 ^ wid

/-- `w` with the `wid` bits from `lo` up replaced by `v` (reduced to that width). -/
def setBits (w lo wid v : Nat) : Nat := w - bitsOf w lo wid * 2 ^ lo + (v % 2 ^ wid) * 2 ^ lo

/-- A number of `wid` bits read as two's complement. -/
def signed (wid v : Nat) : Int := if v < 2 ^ (wid - 1) then (v : Int) else (v : Int) - 2 ^ wid

/-- The two's complement pattern of an integer in `wid` bits. -/
def unsigned (wid : Nat) (i : Int) : Nat := (i % (2 ^ wid : Int)).toNat

/-- The nearest integer to `i` that `wid` bits hold as two's complement (a saturating field). -/
def satInt (wid : Nat) (i : Int) : Int := max (-(2 ^ (wid - 1) : Int)) (min (2 ^ (wid - 1) - 1 : Int) i)

/-- `v` held between `lo` and `hi`: a field whose out-of-range values "are taken as" the nearer limit (R572). -/
def clampNat (lo hi v : Nat) : Nat := max lo (min hi v)

/-- A field where 0 is taken as 1 (R572). -/
def orOne (v : Nat) : Nat := if v = 0 then 1 else v

/-- Division rounded up. -/
def ceilDiv (a b : Nat) : Nat := (a + b - 1) / b

/-! ### Registers -/

/-- The word stored for the register at a device byte address. -/
def State.rd (s : State) (a : Nat) : Word := KMap.get resetWord s.regs a

/-- The state with the register word at a device byte address replaced. -/
def State.wr (s : State) (a : Nat) (w : Word) : State := { s with regs := KMap.set resetWord s.regs a w }

/-- The value of a register field. -/
def State.get (s : State) (f : Fld) : Nat := bitsOf (s.rd f.addr).toNat f.lo f.wid

/-- A one-bit field read as a truth value. -/
def State.is (s : State) (f : Fld) : Bool := decide (s.get f ≠ 0)

/-- The value of a signed register field. -/
def State.geti (s : State) (f : Fld) : Int := signed f.wid (s.get f)

/-- The state with a register field set. -/
def State.put (s : State) (f : Fld) (v : Nat) : State :=
  s.wr f.addr (BitVec.ofNat 32 (setBits (s.rd f.addr).toNat f.lo f.wid v))

/-- The state with a signed register field set. -/
def State.puti (s : State) (f : Fld) (i : Int) : State := s.put f (unsigned f.wid i)

/-- The state with a one-bit field set to a truth value. -/
def State.putb (s : State) (f : Fld) (b : Bool) : State := s.put f (if b then 1 else 0)

/-- The state with a saturating counter field raised by `k` (the RC counters). -/
def State.bump (s : State) (f : Fld) (k : Nat := 1) : State := s.put f (min (2 ^ f.wid - 1) (s.get f + k))

/-- The state with a wrapping counter field raised by 1. -/
def State.step1 (s : State) (f : Fld) : State := s.put f (s.get f + 1)

/-! ### Free values, time and events -/

/-- A value of `w` bits that the spec leaves open, and the state whose next draw is another (assumption 5). -/
def State.fresh (s : State) (w : Nat) : Nat × State :=
  ((Config.freeValue s.freeCtr).toNat % 2 ^ w, { s with freeCtr := s.freeCtr + 1 })

/-- The device time, in 10 ns units. -/
def State.time (s : State) : Nat := s.tim.now.toNat

/-- The state after a block raises an event on source `src` (R509): the event carries the time it was raised. -/
def State.raise (s : State) (src : Nat) (detail : Nat := 0) : State :=
  { s with flt := { s.flt with inbox := s.flt.inbox ++ [⟨src, s.time, detail, false⟩] } }

/-- Raise an event only when `b` holds. -/
def State.raiseIf (s : State) (b : Bool) (src : Nat) (detail : Nat := 0) : State :=
  if b then s.raise src detail else s

/-- Event source `k` of Avenue `n` (Table 19-1). -/
def avSrc (n : Fin 4) (k : Nat) : Nat := 428 + 96 * n.val + k

/-- Event source `k` of servo engine `n` (Table 19-1). -/
def svSrc (n : Fin 4) (k : Nat) : Nat := 812 + 32 * n.val + k

/-! ### Timing domains (1.2) -/

/-- The PRESENT bit of a timing domain. -/
def tdPresent (td : Nat) : Fld := if td < 32 then ⟨TIM_TDSTAT0, td, 1⟩ else ⟨TIM_TDSTAT1, td - 32, 1⟩

/-- The EXPECT bit of a timing domain. -/
def tdExpect (td : Nat) : Fld := if td < 32 then ⟨TIM_TDEXP0, td, 1⟩ else ⟨TIM_TDEXP1, td - 32, 1⟩

/-- The state with the EXPECT bits of some domains set or cleared (R34). -/
def State.expect (s : State) (tds : List Nat) (b : Bool) : State := tds.foldl (fun t td => t.putb (tdExpect td) b) s

/-! ### Parts of the Avenues -/

/-- Avenue `n`. -/
def State.avn (s : State) (n : Fin 4) : Avenue := s.av.get n

/-- The state with Avenue `n` changed. -/
def State.modAv (s : State) (n : Fin 4) (f : Avenue → Avenue) : State := { s with av := s.av.set n (f (s.av.get n)) }

/-- The state with the timing lane of Avenue `n` changed. -/
def State.modLane (s : State) (n : Fin 4) (f : Lane → Lane) : State :=
  s.modAv n (fun a => { a with lane := f a.lane })

/-- Reader `r` (0 = A, 1 = B) of Avenue `n`. -/
def State.reader (s : State) (n : Fin 4) (r : Fin 2) : Reader :=
  if r = 0 then (s.avn n).readers.1 else (s.avn n).readers.2

/-- The state with reader `r` of Avenue `n` changed. -/
def State.modReader (s : State) (n : Fin 4) (r : Fin 2) (f : Reader → Reader) : State :=
  s.modAv n (fun a => { a with readers := if r = 0 then (f a.readers.1, a.readers.2) else (a.readers.1, f a.readers.2) })

/-- The state with both readers of Avenue `n` changed. -/
def State.modReaders (s : State) (n : Fin 4) (f : Reader → Reader) : State :=
  s.modAv n (fun a => { a with readers := (f a.readers.1, f a.readers.2) })

/-- The sequencer of Avenue `n`. -/
def State.seq (s : State) (n : Fin 4) : Seq := (s.avn n).seq

/-- The state with the sequencer of Avenue `n` changed. -/
def State.modSeq (s : State) (n : Fin 4) (f : Seq → Seq) : State := s.modAv n (fun a => { a with seq := f a.seq })

/-- The state with the open operation of Avenue `n`, if any, changed. -/
def State.modOp (s : State) (n : Fin 4) (f : MediaOp → MediaOp) : State :=
  s.modSeq n (fun q => { q with op := q.op.map f })

/-- The state with the Kazq link of Avenue `n` changed. -/
def State.modKz (s : State) (n : Fin 4) (f : Kazq → Kazq) : State := s.modAv n (fun a => { a with kazq := f a.kazq })

/-- The state with servo engine `n` changed. -/
def State.modSv (s : State) (n : Fin 4) (f : Servo → Servo) : State := { s with svo := s.svo.set n (f (s.svo.get n)) }

end Sys2Proof.Machine
end

