-- ==== Sys2Proof/Machine/Format.lean ====
section
/-! DEFINITION. The on-media format (spec 02): checks, scrambling, headers, the sector on media, the code's parity
(spec 04, R116), and the layout walk. Pure functions; the families apply them to the state. -/

namespace Sys2Proof.Machine

/-! ### Cyclic redundancy checks -/

/-- One bit of a CRC register that shifts left. -/
def crcShift {w : Nat} (poly c : BitVec w) : BitVec w := if c.msb then (c <<< 1) ^^^ poly else c <<< 1

/-- One byte, most significant bit first, into a CRC register that shifts left. -/
def crcByte {w : Nat} (poly c : BitVec w) (b : Byte) : BitVec w :=
  (List.range 8).foldl (fun r _ => crcShift poly r) (c ^^^ (b.setWidth w <<< (w - 8)))

/-- A CRC without reflection and without final XOR over a byte string. -/
def crc {w : Nat} (poly init : BitVec w) (bs : List Byte) : BitVec w := bs.foldl (crcByte poly) init

/-- The CRC-16 of R71. -/
def crc16 (bs : List Byte) : BitVec 16 := crc 0x1021 0xFFFF bs

/-- The media CRC-64 of R72. -/
def crc64 (bs : List Byte) : BitVec 64 := crc 0x42F0E1EBA9EA3693 0 bs

/-- The Kazq CRC-8 of R156. -/
def crc8 (bs : List Byte) : BitVec 8 := crc 0x07 0 bs

/-- The bytes of a word of `n` bytes, most significant byte first. -/
def beBytes {w : Nat} (n : Nat) (x : BitVec w) : List Byte :=
  (List.range n).map (fun i => (x >>> (8 * (n - 1 - i))).setWidth 8)

/-- The word that a byte string spells, most significant byte first. -/
def ofBytes (w : Nat) (bs : List Byte) : BitVec w := bs.foldl (fun a b => (a <<< 8) ||| b.setWidth w) 0

/-! ### Header, scrambling and payload (2.5) -/

/-- Header bits [63:16] (Table 2-4). -/
def headerTop (cyl face slot region gen : Nat) : BitVec 48 :=
  BitVec.ofNat 22 cyl ++ BitVec.ofNat 3 face ++ BitVec.ofNat 11 slot ++ BitVec.ofNat 6 region ++ BitVec.ofNat 6 gen

/-- HCHK over header bytes 0 to 5 (R71). -/
def hchk (top : BitVec 48) : BitVec 16 := crc16 (beBytes 6 top)

/-- The 64-bit header of a sector (R70). -/
def header (a : SectorAddr) (region gen : Nat) : BitVec 64 :=
  let t := headerTop a.cyl a.face a.slot region gen
  t ++ hchk t

/-- The 36-bit intended-address tag: header bits [63:28]. -/
def headerTag (h : BitVec 64) : BitVec 36 := h.extractLsb' 28 36

/-- The intended-address tag of a slot. -/
def slotTag (a : SectorAddr) : BitVec 36 := BitVec.ofNat 22 a.cyl ++ BitVec.ofNat 3 a.face ++ BitVec.ofNat 11 a.slot

/-- The scrambler's seed from a tag (R73). -/
def scrambleSeed (tag : BitVec 36) : BitVec 31 :=
  let s := tag.setWidth 31 ^^^ 0x2AAAAAAA
  if s = 0 then 1 else s

/-- One step of the scrambler's register: the bit it gives and its next value (R73). -/
def scrambleStep (s : BitVec 31) : Bool × BitVec 31 :=
  let out := Bool.xor (s.getLsbD 30) (s.getLsbD 27)
  (out, (s <<< 1) ||| (if out then 1 else 0))

/-- Eight steps: the byte of the sequence, most significant bit first, and the next register. -/
def scrambleByte (s : BitVec 31) : Byte × BitVec 31 :=
  (List.range 8).foldl (fun p _ => let q := scrambleStep p.2; ((p.1 <<< 1) ||| (if q.1 then 1 else 0), q.2)) (0, s)

/-- A byte string with the scrambler's sequence from register `s` added (R73). -/
def scrambleFrom : BitVec 31 → List Byte → List Byte
  | _, [] => []
  | s, b :: bs => (b ^^^ (scrambleByte s).1) :: scrambleFrom (scrambleByte s).2 bs

/-- Payload bytes with bytes 8 on scrambled with the seed of `tag`; descrambling is the same (R73). -/
def scramble (tag : BitVec 36) (payload : List Byte) : List Byte :=
  payload.take 8 ++ scrambleFrom (scrambleSeed tag) (payload.drop 8)

/-- The 4,128 payload bytes of a sector before scrambling (Table 2-3): header, data and metadata, media CRC. -/
def payloadOf (h : BitVec 64) (block : List Byte) : List Byte :=
  let body := beBytes 8 h ++ block
  body ++ beBytes 8 (crc64 body)

/-- The media CRC of a descrambled payload passes (R72). -/
def mediaCrcOk (payload : List Byte) : Bool :=
  decide (beBytes 8 (crc64 (payload.take 4120)) = (payload.drop 4120).take 8)

/-- The header in the first eight payload bytes. -/
def payloadHeader (payload : List Byte) : BitVec 64 := ofBytes 64 (payload.take 8)

/-- HCHK of a header is right (R78). -/
def headerOk (h : BitVec 64) : Bool := decide (hchk (h.extractLsb' 16 48) = h.setWidth 16)

/-! ### The code's parity (R116) and the sector on media (Table 2-2) -/

/-- An entry of the code table: block row, block column, shift. -/
structure CodeEntry where
  row : Nat
  col : Nat
  shift : Nat
  deriving DecidableEq, Repr

/-- An entry word of Table 4-2. -/
def codeEntry (w : Nat) : CodeEntry := ⟨bitsOf w 27 5, bitsOf w 18 9, bitsOf w 11 7⟩

/-- Bytes in blocks of sixteen, each a 128-bit block whose first bit is its most significant one. -/
def blocks128 : Nat → List Byte → List (BitVec 128)
  | 0, _ => []
  | k + 1, bs => ofBytes 128 (bs.take 16) :: blocks128 k (bs.drop 16)

/-- Parity block `i` from the blocks before it, by the entries of block row `i` (forward substitution, R117 rule 4). -/
def parityBlock (tab : List CodeEntry) (cols : List (BitVec 128)) (i : Nat) : BitVec 128 :=
  (tab.filter (fun e => decide (e.row = i) && decide (e.col ≠ 258 + i))).foldl
    (fun p e => p ^^^ (cols.getD e.col 0).rotateLeft e.shift) 0

/-- The 4,608 codeword bytes of a scrambled payload. -/
def codewordOf (tab : List CodeEntry) (payload : List Byte) : List Byte :=
  ((List.range 30).foldl (fun cols i => cols ++ [parityBlock tab cols i]) (blocks128 258 payload)).flatMap (beBytes 16)

/-- The 4,628 bytes of a sector on media (Table 2-2). -/
def sectorBytes (tab : List CodeEntry) (payload : List Byte) : List Byte :=
  List.replicate 12 0xCC ++ beBytes 4 (0x3A1FC5B6 : BitVec 32) ++ codewordOf tab payload ++ List.replicate 4 0xCC

/-! ### The layout walk (R67) -/

/-- Channel bits in one sector. -/
def sectorBits : Nat := 37024

/-- A slot's place on its track: the first bit, the first fragment's length, whether it is split, the first bit of
the second fragment (for a slot not split, that of its end), and the end of its last bit. -/
structure Placed where
  start : Nat
  frag : Nat
  split : Bool
  second : Nat
  stop : Nat
  deriving DecidableEq, Repr

/-- What the layout walk has placed so far; slots in reverse order. -/
structure Walk where
  slots : List Placed
  splits : Nat
  gaps : Nat
  carry : Nat
  tail : Nat
  deriving DecidableEq, Repr

/-- Start of reservation `k` of a track with `bpr` bits per revolution (R66). -/
def resStart (bpr k : Nat) : Nat := k * bpr / 96

/-- The inner loop of the walk over wedge interval `k`, from the first free bit `p`. -/
def walkInterval (bpr res k aEnd : Nat) : Nat → Nat → Walk → Walk
  | 0, _, a => a
  | fuel + 1, p, a =>
    let room := aEnd - p
    if sectorBits - 32 ≤ room then
      let len := min room sectorBits
      walkInterval bpr res k aEnd fuel (p + len) { a with slots := ⟨p, len, false, p + len, p + len⟩ :: a.slots }
    else if k < 95 ∧ 640 ≤ room then
      let frag := 8 * (room / 8)
      let carry := sectorBits - frag + 64
      let second := resStart bpr (k + 1) + res
      { a with slots := ⟨p, frag, true, second, second + carry⟩ :: a.slots, splits := a.splits + 1, carry := carry }
    else { a with gaps := a.gaps + (if 0 < room ∧ k < 95 then 1 else 0), tail := room }

/-- The layout walk of a track (R67). -/
def layoutWalk (cpr16 preg wlen postg : Nat) : Walk :=
  let bpr := 128 * cpr16
  let res := 32 * (preg + wlen + postg)
  (List.range 96).foldl
    (fun a k =>
      let p := resStart bpr k + res + a.carry
      let aEnd := resStart bpr (k + 1)
      walkInterval bpr res k aEnd ((aEnd - p) / (sectorBits - 32) + 2) p { a with carry := 0 })
    ⟨[], 0, 0, 0, 0⟩

/-- The slots of a zone's tracks, in slot order. -/
def ZoneLay.slots (z : ZoneLay) : List Placed := (layoutWalk z.cpr16 z.preg z.wlen z.postg).slots.reverse

/-- Channel bits per revolution of a zone (R60). -/
def ZoneLay.bpr (z : ZoneLay) : Nat := 128 * z.cpr16

/-- Length of a reservation of a zone (R66). -/
def ZoneLay.res (z : ZoneLay) : Nat := 32 * (z.preg + z.wlen + z.postg)

/-- User sectors per track of a zone. -/
def ZoneLay.uspt (z : ZoneLay) : Nat := z.spt - z.spares

/-- The zone of a cylinder (R61): the highest-numbered zone whose FIRST is at or below it. -/
def Layout.zoneOf (l : Layout) (cyl : Nat) : Nat :=
  (List.range l.zones.length).foldl (fun b z => if ((l.zones[z]?).map ZoneLay.first).getD 0 ≤ cyl then z else b) 0

/-- Zone `z` of a layout. -/
def Layout.zone (l : Layout) (z : Nat) : ZoneLay := l.zones.getD z ⟨0, 0, 0, 0, 0, 0, 0, 0, false, false, 0, 0, 0, 0⟩

/-- The slot of user sector `u` of a track (R79): the (u + 1)-th slot that is not in the slip list. -/
def userSlot (spt : Nat) (slips : List Nat) (u : Nat) : Option Nat :=
  ((List.range spt).filter (fun k => !slips.contains k))[u]?

/-! ### Rates -/

/-- The measured spindle speed (SPN_SPEED.SPEED, 1/1,024 rpm). -/
def State.speed (s : State) : Nat := s.get SPN_SPEED_SPEED

/-- The zone now read or written by Avenue `n`, of the applied layout. -/
def State.zoneNow (s : State) (n : Fin 4) (z : Nat) : ZoneLay :=
  match (s.avn n).layout with
  | none => ⟨0, 0, 0, 0, 0, 0, 0, 0, false, false, 0, 0, 0, 0⟩
  | some l => l.zone z

/-- Channel rate of zone `z` of Avenue `n` at the present spindle speed, times 61,440 (R60): bits/s × 60 × 1,024. -/
def State.rateX (s : State) (n : Fin 4) (z : Nat) : Nat := 128 * (s.zoneNow n z).cpr16 * s.speed

/-- Blocks of 32 samples that a span of `t` nanoseconds and `extra` samples tags, at the rate of zone `z` (R102). -/
def State.spanBlocks (s : State) (n : Fin 4) (z t extra : Nat) : Nat :=
  ceilDiv (ceilDiv (t * s.rateX n z) (61440 * 1000000000) + extra) 32

end Sys2Proof.Machine
end

