-- ==== Sys2Proof/Machine/RecorderOps.lean ====
section
/-! DEFINITION. Shared operations of the event recorder (spec 19, 19.5 to 19.7): records, the circulating area, trace
frames. -/

namespace Sys2Proof.Machine

/-- One byte into a reflected CRC-32 register. -/
def crc32Byte (poly c : BitVec 32) (b : Byte) : BitVec 32 :=
  (List.range 8).foldl (fun r _ => if r.getLsbD 0 then (r >>> 1) ^^^ poly else r >>> 1) (c ^^^ b.setWidth 32)

/-- CRC-32C: reflected, initial value and final XOR of all ones. -/
def crc32c (bs : List Byte) : BitVec 32 := (bs.foldl (crc32Byte 0x82F63B78) 0xFFFFFFFF) ^^^ 0xFFFFFFFF

/-- A number as `n` bytes, least significant first. -/
def leBytes (n v : Nat) : List Byte := (List.range n).map (fun i => BitVec.ofNat 8 (v / 2 ^ (8 * i)))

/-- The number that bytes spell, least significant first. -/
def ofLe : List Byte → Nat
  | [] => 0
  | b :: bs => b.toNat + 256 * ofLe bs

/-- Bytes 0 to 91 of a record (Table 19-7). -/
def recordBody (r : RecEntry) : List Byte :=
  leBytes 8 r.time ++ leBytes 4 r.seq ++ leBytes 2 r.source ++ leBytes 1 r.typ ++ leBytes 1 r.prof ++ leBytes 2 r.boot
    ++ leBytes 1 r.react ++ leBytes 1 r.flags
    ++ ((List.range 16).flatMap (fun i => leBytes 4 (r.regs.getD i 0).toNat)) ++ leBytes 4 r.detail ++ leBytes 4 0

/-- The 96 bytes of a record (R519). -/
def recordBytes (r : RecEntry) : List Byte := recordBody r ++ leBytes 4 (crc32c (recordBody r)).toNat

/-! ### Trace frames (R528, R529) -/

/-- Bytes that a frame takes: a 4-byte header and its payload. -/
def frameLen (f : TraceFrame) : Nat := 4 + f.payload.length

/-- Bytes in the trace FIFO. -/
def Recorder.fill (r : Recorder) : Nat := (r.fifo.map frameLen).sum

/-- TRSTAT.FILL follows the FIFO, in units of 16 bytes. -/
def State.traceFill (s : State) : State := s.put REC_TRSTAT_FILL (ceilDiv s.recd.fill 16)

/-- A frame enters the 64 KiB trace FIFO; when it is full the frame is dropped and counted, and source 1147 is raised
once for the episode (R528). -/
def State.trace (s : State) (f : TraceFrame) : State :=
  if s.recd.fill + frameLen f ≤ 65536 then
    State.traceFill { s with recd := { s.recd with fifo := s.recd.fifo ++ [f] } }
  else
    ({ s with recd := { s.recd with lost := s.recd.lost + 1, ovfEpisode := true } }.bump REC_TRSTAT_OVF).raiseIf
      (!s.recd.ovfEpisode) 1147

/-- Size of the trace ring in bytes: TRSZ from 4 to 16. -/
def State.traceRingSize (s : State) : Nat := 1024 * 2 ^ clampNat 4 16 (s.get REC_TRCFG_TRSZ)

/-- The bytes of a frame as the trace stream carries them (Table 19-9). -/
def frameBytes (f : TraceFrame) : List Byte :=
  leBytes 1 f.typ ++ leBytes 1 f.payload.length ++ leBytes 1 f.unit ++ [0] ++ f.payload

/-- What a byte of the DRAM or of the scratch SRAM reads as when nothing has written it (assumption 16). -/
def blankByte (_ : Nat) : Byte := 0

/-- TRBASE (Table 19-13). -/
def State.traceBase (s : State) : Nat := 4096 * s.get REC_TRBASE_LO_BASE + 2 ^ 32 * s.get REC_TRBASE_HI_BASE

/-- One byte into the trace ring in the firmware area of the DRAM, at TRHEAD. -/
def State.traceByte (s : State) (b : Byte) : State :=
  let h := s.get REC_TRHEAD_OFFSET
  { s with mem := { s.mem with fw := KMap.set blankByte s.mem.fw (s.traceBase + h) b } }.put REC_TRHEAD_OFFSET
    ((h + 1) % s.traceRingSize)

/-- The oldest frame leaves the FIFO for the ring (`toRing`) or the trace port (R529, R530); room returning, an overflow
frame takes the place of those lost (R528). -/
def State.drainFrame (s : State) (toRing : Bool) : State :=
  match s.recd.fifo with
  | [] => s
  | f :: fs =>
    let s1 := { s with recd := { s.recd with fifo := fs } }
    let s2 := if toRing then (frameBytes f).foldl State.traceByte s1 else { s1 with recd := { s1.recd with port := some f } }
    let s3 := if s2.recd.ovfEpisode then
        { s2 with recd := { s2.recd with fifo := s2.recd.fifo ++ [⟨4, 0xFF, leBytes 4 s2.recd.lost⟩], lost := 0, ovfEpisode := false } }
      else s2
    s3.traceFill

/-! ### Records (R519, R521, R522) -/

/-- HEAD and TAIL follow the circulating area. -/
def State.recHeads (s : State) : State :=
  (s.put REC_HEAD_SEQ ((s.recd.circ.getLast?.map RecEntry.seq).getD 0)).put REC_TAIL_SEQ
    ((s.recd.circ.head?.map RecEntry.seq).getD 0)

/-- The newest SEQ of a mirror, held by pages, oldest first (R524). -/
def mirrorTop (m : List (List RecEntry)) : Option Nat := m.flatten.getLast?.map RecEntry.seq

/-- Circulating records newer than the newest mirrored one. -/
def unmirrored (circ : List RecEntry) (newest : Option Nat) : List RecEntry :=
  match newest with
  | none => circ
  | some q => if circ.any (fun r => r.seq == q) then (circ.dropWhile (fun r => r.seq != q)).drop 1 else circ

/-- A record is written (R519, R522): with SEQ and BOOT, the dropped mark, into the circulating area of 4,096 records,
and as a trace frame. `r` gives the rest. -/
def State.record (s : State) (r : RecEntry) : State :=
  if !s.is REC_CTL_EN then s
  else
    let e := { r with seq := s.recd.nextSeq, boot := s.get REC_BOOT_BOOT
                      flags := r.flags + (if s.recd.dropped then 2 else 0) }
    let circ := s.recd.circ ++ [e]
    let s1 := { s with recd := { s.recd with
      circ := circ.drop (circ.length - 4096), nextSeq := (s.recd.nextSeq + 1) % 2 ^ 32, dropped := false
      dropEpisode := false } }
    s1.recHeads.trace ⟨1, 0xFF, recordBytes e⟩

/-- A record that no event makes (TYPE ≠ 0). -/
def State.recordType (s : State) (typ detail : Nat) : State :=
  s.record { time := s.time, seq := 0, source := 0xFFFF, typ := typ, prof := 0xFF, boot := 0, react := 0, flags := 0
             regs := List.replicate 16 0, detail := detail }

end Sys2Proof.Machine
end

