-- ==== Sys2Proof/Machine/RegionOps.lean ====
section
/-! DEFINITION. Shared questions about layout regions and failed elements (spec 11), asked by the retry ladder and by the
Square. -/

namespace Sys2Proof.Machine

/-- Actuator `a` is declared failed (SQR_AVFAIL.ACT). -/
def State.actFailed (s : State) (a : Nat) : Bool := s.is ⟨SQR_AVFAIL, a, 1⟩

/-- Face `f` of Avenue `a` is declared failed (SQR_AVFAIL.FACE). -/
def State.faceFailed (s : State) (a f : Nat) : Bool := s.is ⟨SQR_AVFAIL, 4 + 5 * a + f, 1⟩

/-- A block on face `f` of Avenue `a` lies on a failed element. -/
def State.elementFailed (s : State) (a f : Nat) : Bool := s.actFailed a || s.faceFailed a f

/-- A reconstruction in region `r` at stripe offset `off` is forbidden by R349. -/
def State.suspectAt (s : State) (r off : Nat) : Bool :=
  s.is (SQR_REGION1_SUSPECT r) && decide (s.get (SQR_REGION16_CURSOR r) ≤ off)

/-- Reconstruction is possible for a block (R335). -/
def State.reconPossible (s : State) (r : Nat) (i : ReconInfo) : Bool :=
  decide (2 ≤ s.get (SQR_REGION0_LAYOUT r)) && i.peers.all (fun p => !s.elementFailed p.1 p.2) && !s.suspectAt r i.offset

/-! ### Layouts (Table 11-1) -/

/-- The Avenues of a mask, lowest first. -/
def maskAvs (mask : Nat) : List Nat := (List.range 4).filter (fun n => bitsOf mask n 1 == 1)

/-- Where data unit `u` lies under a layout: each Avenue and its unit offset, the primary copy first. -/
def unitOffsets (layout mask chunk u : Nat) : List (Nat × Nat) :=
  let avs := maskAvs mask
  let k := u / chunk
  let j := u % chunk
  match layout with
  | 1 => [(avs.getD (k % avs.length) 0, k / avs.length * chunk + j)]
  | 2 =>
    let np := avs.length / 2
    let p := k % np
    let o := k / np * chunk + j
    [(avs.getD (2 * p) 0, o), (avs.getD (2 * p + 1) 0, o)]
  | 3 => [((3 - (u / 3) % 4 + 1 + u % 3) % 4, u / 3)]
  | _ => []

/-- A field of a region's source layout, or of its target layout (Table 11-7). -/
def regFld (r : Nat) (tgt : Bool) (word lo wid : Nat) : Fld :=
  ⟨SQR_REGION0 r + 4 * (if tgt then (match word with | 0 => 8 | 3 => 9 | w => w + 6) else word), lo, wid⟩

/-- LAYOUT, AVMASK, CHUNK, GEN, ALEN and ABASE[n] of the source or target layout. -/
def State.rLayout (s : State) (r : Nat) (tgt : Bool) : Nat := s.get (regFld r tgt 0 30 2)
def State.rMask (s : State) (r : Nat) (tgt : Bool) : Nat := s.get (regFld r tgt 0 26 4)
def State.rChunk (s : State) (r : Nat) (tgt : Bool) : Nat := s.get (regFld r tgt 0 19 7)
def State.rGen (s : State) (r : Nat) (tgt : Bool) : Nat := s.get (regFld r tgt 0 13 6)
def State.rAlen (s : State) (r : Nat) (tgt : Bool) : Nat := s.get (regFld r tgt 3 0 24)
def State.rBase (s : State) (r : Nat) (tgt : Bool) (n : Nat) : Nat := s.get (regFld r tgt (4 + n) 0 24)

/-- Where data unit `u` of region `r` lies under its source or target layout: Avenue and unit offset. -/
def State.unitPlaces (s : State) (r : Nat) (tgt : Bool) (u : Nat) : List (Nat × Nat) :=
  unitOffsets (s.rLayout r tgt) (s.rMask r tgt) (s.rChunk r tgt) u

/-- Data units that a layout holds (Table 11-1, RSIZE). -/
def capacity (layout mask alen : Nat) : Nat :=
  match layout with
  | 1 => (maskAvs mask).length * alen
  | 2 => (maskAvs mask).length / 2 * alen
  | 3 => 3 * alen
  | _ => 0

/-! ### The two layouts of a reshape (11.6) -/

/-- Data unit `u` lies below the boundary of a reshape, and is served from the target layout (Table 11-5). -/
def State.unitTarget (s : State) (r u : Nat) : Bool := s.is (SQR_REGION1_RSH r) && decide (u < s.get (SQR_REGION14_BOUND r))

/-- Stripe offsets that CURSOR runs through: those of the source layout, then, during a reshape, those of the target. -/
def State.cursorEnd (s : State) (r : Nat) : Nat := s.rAlen r false + (if s.is (SQR_REGION1_RSH r) then s.rAlen r true else 0)

/-- The offset of a layout counted as CURSOR counts it. -/
def State.cursorOf (s : State) (r : Nat) (tgt : Bool) (o : Nat) : Nat := if tgt then s.rAlen r false + o else o

/-- An offset as CURSOR counts it: in the target layout or not, and the stripe offset there. -/
def State.cursorAt (s : State) (r i : Nat) : Bool × Nat :=
  if s.is (SQR_REGION1_RSH r) && decide (s.rAlen r false ≤ i) then (true, i - s.rAlen r false) else (false, i)

/-- A region has a layout with redundancy, its source layout or the target of its reshape. -/
def State.regionLayered (s : State) (r : Nat) : Bool :=
  decide (2 ≤ s.rLayout r false) || (s.is (SQR_REGION1_RSH r) && decide (2 ≤ s.rLayout r true))

/-- A unit is lost (R341): it lies on a failed face and was not remapped, or on an Avenue all of whose units are lost and
not yet rebuilt below CURSOR (R344). The offset counts as CURSOR does. -/
def State.unitLost (s : State) (r av off : Nat) : Bool :=
  s.red.lostUnits.contains (r, av, off)
  || (s.red.lostAvs.contains (r, av) && !(s.is (SQR_REGION1_RBD r) && !s.actFailed av && decide (off < s.get (SQR_REGION16_CURSOR r))))

/-- The region has a lost unit. -/
def State.regionLost (s : State) (r : Nat) : Bool :=
  s.red.lostUnits.any (fun u => u.1 == r) || s.red.lostAvs.any (fun u => u.1 == r)

/-- Avenues that a region uses: of its source layout, and of its target while it is reshaped. -/
def State.regionUses (s : State) (r n : Nat) : Bool :=
  decide (s.rLayout r false ≠ 0) && ((maskAvs (s.rMask r false)).contains n
    || (s.is (SQR_REGION1_RSH r) && (maskAvs (s.rMask r true)).contains n))

/-- The regions. -/
def allRegions : List Nat := List.range 64

end Sys2Proof.Machine
end

