-- ==== Sys2Proof/Machine/SquareOps.lean ====
section
/-! DEFINITION. The Square's pages, index, allocation, LRU segments, dirty window, gather groups and drains (spec 09 and
17.1). -/

namespace Sys2Proof.Machine

/-! ### Pages and the index (9.1) -/

/-- A page not listed: FREE with EPOCH 0 (R293). -/
def freePage : Page :=
  { st := .free, j := false, g := false, ref := false, prot := false, key := ⟨none, 0, 0⟩, pins := 0, epoch := 0
    ecrc := 0, pmeta := [], data := [], superseded := false, indexed := false, loc := none, left := 0, failed := false
    stamp := 0, tag := none }

/-- The state with the Square changed. -/
def State.modSqr (s : State) (f : Square → Square) : State := { s with sqr := f s.sqr }

/-- Page `p`. -/
def State.page (s : State) (p : Nat) : Page := KMap.get (fun _ => freePage) s.sqr.pages p

/-- The state with page `p` replaced. -/
def State.setPage (s : State) (p : Nat) (v : Page) : State :=
  s.modSqr (fun q => { q with pages := KMap.set (fun _ => freePage) q.pages p v })

/-- The state with page `p` changed. -/
def State.modPage (s : State) (p : Nat) (f : Page → Page) : State := s.setPage p (f (s.page p))

/-- A page that the index may name: not FREE, RETIRED or superseded (R264). -/
def Page.live (g : Page) : Bool := g.st != .free && g.st != .retired && !g.superseded

/-- A page counted in the dirty window: DIRTY or DESTAGE with J = 0 (R275). -/
def Page.unjournaled (g : Page) : Bool := (g.st == .dirty || g.st == .destage) && !g.j

/-- The page of a key (R264). -/
def State.findPage (s : State) (k : BlockKey) : Option Nat :=
  (s.sqr.pages.find? (fun e => e.2.live && e.2.indexed && decide (e.2.key = k))).map Prod.fst

/-- Pages counted in the dirty window (WINSTAT.DIRTY). -/
def State.dirtyPages (s : State) : Nat := (s.sqr.pages.filter (fun e => e.2.unjournaled)).length

/-- Free pages now (SQR_FREE). -/
def State.freePages (s : State) : Nat :=
  s.get SQR_STAT_NPAGES - s.sqr.fresh - (s.sqr.pages.filter (fun e => decide (s.sqr.fresh ≤ e.1))).length + s.sqr.freed.length

/-- WIN, held to 1 to 256 MiB, in pages. -/
def State.winPages (s : State) : Nat := 256 * clampNat 1 256 (s.get SQR_WIN_WIN)

/-- The namespace of index `ns`. -/
def State.nsAt (s : State) (ns : Nat) : Option Namespace := s.host.ns.find? (fun n => n.nsid == ns + 1)

/-- Where a namespace's block lies in its region. -/
def State.locOf (s : State) (ns lba : Nat) : Option RegionLoc := (s.nsAt ns).map (fun n => ⟨n.region, n.base + lba⟩)

/-- The key of a region block: the namespace that holds it. -/
def State.keyOf (s : State) (region block : Nat) : Option BlockKey :=
  (s.host.ns.find? (fun n => n.region.val == region && decide (n.base ≤ block ∧ block < n.base + n.size))).map
    (fun n => ⟨some n.ten, n.nsid - 1, block - n.base⟩)

/-- The entry check of a block (R477): CRC-32C over its data and its metadata. -/
def entryCheck (data pmeta : List Byte) : Word := crc32c (data ++ pmeta)

/-- A page's entry check holds (R479). -/
def Page.entryOk (g : Page) : Bool := g.ecrc == entryCheck g.data g.pmeta

/-- Bytewise XOR. -/
def xorBytes (a b : List Byte) : List Byte := List.zipWith (· ^^^ ·) a b

/-- A page leaves the LRU segments. -/
def State.lruDrop (s : State) (p : Nat) : State :=
  s.modSqr (fun q => { q with probation := q.probation.erase p, protectedSeg := q.protectedSeg.erase p })

/-- A CLEAN page enters the tail of probation (R270). -/
def State.enterProbation (s : State) (p : Nat) : State :=
  ((s.lruDrop p).modSqr (fun q => { q with probation := q.probation ++ [p] })).modPage p
    (fun g => { g with prot := false, ref := false })

/-- Pages that protected may hold: PROTPCT percent of NPAGES, above 90 taken as 90. -/
def State.protLimit (s : State) : Nat := min 90 (s.get SQR_PAGECFG_PROTPCT) * s.get SQR_STAT_NPAGES / 100

/-- The head of protected moves to the tail of probation while protected holds more than its limit (R270). -/
def State.demote (s : State) : State :=
  (s.sqr.protectedSeg.take (s.sqr.protectedSeg.length - s.protLimit)).foldl State.enterProbation s

/-- A hit (R269, R270): the page is pinned and REF set; a CLEAN page moves to the tail of protected. -/
def State.hitPage (s : State) (p : Nat) (pin : Bool) : State :=
  let s1 := s.modPage p (fun g => { g with ref := true, pins := if pin then min 63 (g.pins + 1) else g.pins })
  if (s.page p).st == .clean && !(s.page p).g && (s.sqr.probation.contains p || s.sqr.protectedSeg.contains p) then
    (((s1.lruDrop p).modSqr (fun q => { q with protectedSeg := q.protectedSeg ++ [p] })).modPage p
      (fun g => { g with prot := true })).demote
  else s1

/-- A gather group all of whose pages have been freed closes at once (R282). -/
def State.closeEmpty (s : State) : State :=
  s.modSqr (fun q => { q with groups := q.groups.filter (fun g => g.writing || !g.members.isEmpty) })

/-- A page is freed and enters the tail of the free list. -/
def State.freePg (s : State) (p : Nat) : State :=
  ((s.lruDrop p).setPage p freePage).modSqr (fun q => { q with
    freed := q.freed ++ [p], destageQ := q.destageQ.erase p, journalQ := q.journalQ.erase p
    groups := q.groups.map (fun g => { g with members := g.members.filter (fun m => m.2 != p) }) })

/-- A superseded page becomes FREE when its PINS are 0, its fill has ended and its media writes have ended (R265). -/
def State.tryFree (s : State) (p : Nat) : State :=
  let g := s.page p
  if g.superseded && g.pins == 0 && g.st != .fill && g.st != .destage then s.freePg p else s

/-! ### Allocation (R266) -/

/-- The page that eviction takes: the first of probation, then of protected, with PINS = 0. -/
def State.victim (s : State) : Option Nat :=
  (s.sqr.probation ++ s.sqr.protectedSeg).find? (fun p => (s.page p).pins == 0 && (s.page p).st == .clean)

/-- Eviction until FREELOW pages are free (`fuel` pages at most). -/
def evictLoop : Nat → State → State
  | 0, s => s
  | k + 1, s =>
    if s.freePages < 256 * s.get SQR_PAGECFG_FREELOW then
      match s.victim with
      | some p => evictLoop k (s.freePg p)
      | none => s
    else s

/-- R266: eviction brings the free pages to FREELOW. -/
def State.evict (s : State) : State := evictLoop (256 * s.get SQR_PAGECFG_FREELOW) s

/-- The first page of the never-taken part of the free list that is not RETIRED. -/
def State.freshPage (s : State) : Option Nat :=
  (List.range (s.get SQR_STAT_NPAGES - s.sqr.fresh)).findSome? (fun i =>
    if (s.page (s.sqr.fresh + i)).st == .free then some (s.sqr.fresh + i) else none)

/-- An allocation takes the page at the head of the free list; the last URGRES pages only for an urgent fill. -/
def State.takePage (s : State) (urgent : Bool) : Option (Nat × State) :=
  let s1 := s.evict
  if s1.freePages ≤ (if urgent then 0 else 256 * s1.get SQR_PAGECFG_URGRES) then none
  else match s1.freshPage with
    | some p => some (p, (s1.modSqr (fun q => { q with fresh := p + 1 })).evict)
    | none => match s1.sqr.freed with
      | p :: ps => some (p, (s1.modSqr (fun q => { q with freed := ps })).evict)
      | [] => none

/-- An allocation waits (R266). -/
def State.allocWait (s : State) (w : AllocWait) : State :=
  ((s.modSqr (fun q => { q with waits := q.waits ++ [w] })).bump SQR_CNT1_ALLOCWAITS).raise 205

/-- A page in FILL enters the index, and its media read is asked for (R269). -/
def State.startFill (s : State) (k : BlockKey) (req : ReadReq) (ahead : Bool) (waiters : List ReadReq) : State :=
  match s.takePage (decide (req.cls = 2) && !ahead) with
  | none => s.allocWait (.fill k req ahead waiters)
  | some (p, s1) =>
    (s1.setPage p { freePage with
      st := .fill, key := k, indexed := true, loc := s1.locOf k.ns k.lba, epoch := s1.get SQR_DRAIN_EPOCH }).modSqr
      (fun q => { q with fills := q.fills ++ [⟨p, req, ahead, waiters⟩] })

/-! ### Fills and reads (9.3) -/

/-- Deadlines: the earlier of two, 0 meaning none. -/
def earlier (a b : Nat) : Nat := if a = 0 then b else if b = 0 then a else min a b

/-- The earlier work of a tag takes a class, ceiling and deadline: its ladders, its sectors in decode, its open operation,
its ring entries and its retry decoder jobs (R388). -/
def promoteAvenue (tag cls ceil deadline : Nat) (a : Avenue) : Avenue :=
  let ctx (c : ReadCtx) : ReadCtx := if c.tag = tag then
      { c with cls := cls, deadline := deadline, peerCeil := some (min ceil (c.peerCeil.getD ceil)) } else c
  let sec (x : SectorRead) : SectorRead := { x with ctx := ctx x.ctx }
  let ring (e : RingEntry) : RingEntry := if bitsOf ((e.words.getD 3 0).toNat) 0 16 = tag then
      { e with words := ((e.words.set 0 (BitVec.ofNat 32 (setBits (e.words.getD 0 0).toNat 22 2 cls))).set 4
          (BitVec.ofNat 32 deadline)).set 5 (BitVec.ofNat 32 (deadline / 2 ^ 32)) } else e
  { a with decoding := a.decoding.map sec, ladders := a.ladders.map (fun l => { l with sec := sec l.sec })
           seq := { a.seq with op := a.seq.op.map (fun o => { o with ctx := ctx o.ctx })
                               rings := a.seq.rings.map (List.map ring) } }

/-- A fill is promoted by an urgent read that waits on it (R388). -/
def State.promote (s : State) (p : Nat) (req : ReadReq) : State :=
  match s.sqr.fills.find? (fun f => f.page == p) with
  | none => s
  | some f =>
    let r : ReadReq := { f.req with cls := 2, ceil := min f.req.ceil req.ceil, deadline := earlier f.req.deadline req.deadline }
    let s1 := s.modSqr (fun q => { q with fills := q.fills.map (fun x => if x.page = p then { x with req := r } else x) })
    let s2 := match f.req.tag with
      | some t =>
        let jobs := fun (j : RetryJob) => if ((s1.av.get j.av).ladders.any (fun l => l.id == j.lad && l.sec.ctx.tag == t))
          then { j with cls := 2 } else j
        { s1 with av := s1.av.map (promoteAvenue t 2 r.ceil r.deadline)
                  rdec := { s1.rdec with queue := s1.rdec.queue.map jobs, held := s1.rdec.held.map jobs
                                         run0 := s1.rdec.run0.map jobs, run1 := s1.rdec.run1.map jobs } }
      | none => s1
    { s2 with rbt := { s2.rbt with log := s2.rbt.log.modify 5 (· + 1) } }.raise 145

/-- A read joins the fill of page `p`, promoting it where its class is higher (R269, R388). -/
def State.joinFill (s : State) (p : Nat) (req : ReadReq) : State :=
  let s1 := s.modSqr (fun q => { q with fills := q.fills.map (fun x =>
    if x.page = p then { x with waiters := x.waiters ++ [req] } else x) })
  match s.sqr.fills.find? (fun f => f.page == p) with
  | some f => if decide (req.cls = 2 ∧ f.req.cls < 2) then s1.promote p req else s1
  | none => s1

/-- A lookup (R269): a page that is readable, a page being filled, a dirty page that the index has lost (Table 17-4), or a
miss. -/
inductive Lookup where
  | hit (p : Nat)
  | wait (p : Nat)
  | lost
  | miss
  deriving DecidableEq, Repr

/-- What the index answers for a key. -/
def State.lookupKey (s : State) (k : BlockKey) : Lookup :=
  match s.findPage k with
  | some p => if (s.page p).st == .fill then .wait p else .hit p
  | none => if s.sqr.pages.any (fun e => e.2.live && !e.2.indexed && (e.2.st == .dirty || e.2.st == .destage) && decide (e.2.key = k)) then .lost else .miss

/-- A read of a key (R269): pin the page, join its fill, or miss and start one. -/
def State.readKey (s : State) (k : BlockKey) (req : ReadReq) : State :=
  match s.lookupKey k with
  | .hit p => s.hitPage p true
  | .wait p => s.joinFill p req
  | .lost => s.modSqr (fun q => { q with lostIndex := q.lostIndex ++ [(k, req)] })
  | .miss => s.startFill k req false []

/-- The end of a read for a host command is noted with its status (SCT, SC and qualifier). -/
def State.noteRead (s : State) (req : ReadReq) (lba sct sc qual : Nat) : State :=
  match req.tag with
  | some t => s.modSqr (fun q => { q with readEnds := q.readEnds ++ [(t, lba, sct, sc, qual)] })
  | none => s

/-- Reads that waited on a fill that ended, look the key up again, in turn (R265, R271). -/
def State.rejoin (s : State) (k : BlockKey) (ws : List ReadReq) : State := ws.foldl (fun t r => t.readKey k r) s

/-- FILL_END (R271): with data the page leaves FILL as CLEAN; without, it is freed and its waiting reads miss afresh. -/
def State.fillEnded (s : State) (p : Nat) (e : FillEnd) : State :=
  match s.sqr.fills.find? (fun f => f.page == p) with
  | none => s
  | some f =>
    let s1 := s.modSqr (fun q => { q with fills := q.fills.filter (fun x => x.page != p) })
    let g := s1.page p
    match e with
    | .data bytes md =>
      let s2 := s1.setPage p { g with st := .clean, data := bytes, pmeta := md, ecrc := entryCheck bytes md }
      let s3 := s2.modSqr (fun q => { q with onMedia := if q.onMedia.contains g.key then q.onMedia else q.onMedia ++ [g.key] })
      if g.superseded then (s3.tryFree p).rejoin g.key f.waiters
      else
        let s4 := s3.enterProbation p
        f.waiters.foldl (fun t _ => t.hitPage p true) s4
    | .failed sct sc qual =>
      let s2 := s1.freePg p
      let s3 := if f.ahead then (s2.bump SQR_CNT2_RAFAIL).raise 216 else s2.noteRead f.req g.key.lba sct sc qual
      s3.rejoin g.key f.waiters

/-! ### Retirement (R279, R486, R487) -/

/-- A page of a group leaves the group. -/
def State.ungroup (s : State) (p : Nat) : State :=
  s.modSqr (fun q => { q with groups := q.groups.map (fun g => { g with members := g.members.filter (fun m => m.2 != p) }) })

/-- A key goes on firmware's lost-write list with a qualifier (R279, R350, R353). -/
def State.loseKey (s : State) (k : BlockKey) (qual : Nat) : State :=
  s.modSqr (fun q => { q with lost := q.lost.filter (fun l => l.1 != k) ++ [(k, qual)] })

/-- A page of a journaled block is refilled from the journal (R279): DIRTY with J = 1, in a new page. -/
def State.refill (s : State) (k : BlockKey) : State :=
  match s.sqr.journal.reverse.find? (fun e => e.key = k), s.findPage k with
  | some e, none =>
    match s.takePage false with
    | none => s.allocWait (.refill k)
    | some (p, s1) =>
      (s1.setPage p { freePage with
        st := .dirty, j := true, key := k, indexed := true, epoch := e.epoch, data := e.data, pmeta := e.pmeta
        ecrc := entryCheck e.data e.pmeta, loc := e.loc, stamp := s1.sqr.stamp, tag := e.tag }).modSqr
        (fun q => { q with stamp := q.stamp + 1, destageQ := q.destageQ ++ [p] })
  | _, _ => s

/-- A page is retired (R279), and what its state calls for follows; a page already RETIRED acts no further (R487). -/
def State.retirePage (s : State) (p : Nat) : State :=
  let g := s.page p
  if g.st == .retired then s
  else
    let s1 := (((s.lruDrop p).ungroup p).setPage p { freePage with st := .retired }).modSqr (fun q => { q with
      freed := q.freed.erase p, destageQ := q.destageQ.erase p, journalQ := q.journalQ.erase p
      fills := q.fills.filter (fun f => f.page != p) })
    let s2 := ((s1.bump SQR_CNT0_RETIRED).raise 210).closeEmpty
    if g.superseded then s2
    else match g.st with
      | .dirty | .destage => if g.j then s2.refill g.key else (s2.loseKey g.key 7).raise 211
      | .fill =>
        match s.sqr.fills.find? (fun f => f.page == p) with
        | some f => s2.startFill g.key f.req f.ahead f.waiters
        | none => s2
      | _ => s2

/-- Bytes of the firmware area and of the descriptor area (R261). -/
def State.fwBytes (s : State) : Nat := s.get SQR_PAGECFG_FW16 * 2 ^ 24
def State.descBytes (s : State) : Nat := ceilDiv (32 * s.get SQR_STAT_NPAGES) 4096 * 4096

/-- The buffer-space byte offset at which a page begins (R261). -/
def State.pageBase (s : State) (p : Nat) : Nat := s.fwBytes + s.descBytes + 4096 * p

/-- The DRAM word that holds a buffer-space byte (R482): its DRAM byte address divided by 8. -/
def dramWord (a : Nat) : Nat := 64 * (a / 448) + a % 448 / 8

/-- An uncorrectable DRAM word is counted, captured while VALID = 0, and raised (R488, Table 17-5). -/
def State.dramBad (s : State) (word : Nat) : State :=
  let s1 := s.bump SQR_ECCCNT_UNCORR
  (if s1.is SQR_ECCCAP_VALID then s1 else (s1.putb SQR_ECCCAP_VALID true).put SQR_ECCCAP_WORD word).raise 221

/-- The reaction to what the DRAM read of a page finds (R479, R486); which word of the page was bad is open. -/
def State.dramRead (s : State) (p : Nat) (d : DramRead) : State :=
  match d with
  | .clean => s
  | .uncorrectable =>
    let w := s.fresh 9
    (w.2.dramBad (dramWord (s.pageBase p + 8 * w.1))).retirePage p
  | .entryBad => ((s.bump SQR_ECRCCNT_MISMATCH).raise 222).retirePage p

/-- An uncorrectable descriptor (Table 17-4): the page is retired; the journal refills its block, or it is dropped as CLEAN
where firmware's record shows its data on the media, or it is handled as DIRTY with J = 0. -/
def State.descriptorBad (s : State) (p word : Nat) : State :=
  let g := s.page p
  let s1 := (s.dramBad word).raise 224
  match g.st with
  | .clean | .dirty | .destage =>
    let inJournal := s1.sqr.journal.any (fun e => decide (e.key = g.key))
    let st : PageSt := if inJournal || !s1.sqr.onMedia.contains g.key then .dirty else .clean
    (s1.modPage p (fun x => { x with st := st, j := inJournal })).retirePage p
  | _ => s1.retirePage p

/-! ### Tenancy (R268) -/

/-- A refusal under R268: counted, captured while VALID = 0, and raised. -/
def State.tenancyRefused (s : State) (write : Bool) (ten : Option (Fin 128)) (page : Option Nat) : State :=
  let s1 := s.bump SQR_CNT0_TVIOL
  let s2 := if s1.is SQR_TVCAP_VALID then s1 else
    ((((s1.putb SQR_TVCAP_VALID true).putb SQR_TVCAP_WRITE write).putb SQR_TVCAP_TENV ten.isSome).put SQR_TVCAP_TEN
      ((ten.map Fin.val).getD 0)).put SQR_TVCAP_PAGE (page.getD 0x3FFFFF)
  s2.raise 204

/-- A client may touch a page (R268): media-side clients any; a host-side one only a page of its own tenancy. -/
def clientMay (c : SquareClient) (g : Page) : Bool :=
  match c with
  | .media => true
  | .host none => false
  | .host (some t) => decide (g.key.ten = some t)

/-- A write of the block goes to the target layout of a reshape (Table 11-5). -/
def State.toTarget (s : State) (l : RegionLoc) : Bool :=
  s.unitTarget l.region (l.block / 128)

/-! ### Read-ahead (R272, R273) -/

/-- An entry of the stream table that a host read continues. -/
def State.streamOf (s : State) (ten : Fin 128) (ns a : Nat) : Option Stream :=
  s.sqr.streams.find? (fun e => e.ten == ten && e.ns == ns && decide (e.next ≤ a ∧ a ≤ e.next + s.get SQR_RA_RAGAP))

/-- Read-ahead of a block (R273): internal class, ceiling ICEIL, deadline RADL after its
issue; the ceiling is that of the Avenue that holds the block. -/
def State.readAhead (s : State) (ten : Fin 128) (ns lba : Nat) : State :=
  let k : BlockKey := ⟨some ten, ns, lba⟩
  if (s.findPage k).isSome then s
  else
    let av := match s.locOf ns lba with
      | some l => (((s.unitPlaces l.region (s.toTarget l) (l.block / 128)).head?).map Prod.fst).getD 0
      | none => 0
    s.startFill k ⟨none, 0, s.get (AV_LADCTL_ICEIL av), s.time + 100000 * s.get SQR_RA_RADL⟩ true []

/-- A host read of LBAs [a, a + n) meets the stream table (R272). -/
def State.streamRead (s : State) (ten : Fin 128) (ns a n : Nat) : State :=
  match s.streamOf ten ns a with
  | some e =>
    let e1 : Stream := { e with next := a + n, run := e.run + 1 }
    let s1 := s.modSqr (fun q => { q with streams := q.streams.erase e ++ [e1] })
    if decide (orOne (s.get SQR_RA_CONF) ≤ e1.run) && s.is SQR_RA_EN then
      let stop := min (a + n + 64 * orOne (s.get SQR_RA_RADEPTH)) (((s.nsAt ns).map Namespace.size).getD 0)
      (List.range (stop - (a + n))).foldl (fun t i => t.readAhead ten ns (a + n + i)) s1
    else s1
  | none =>
    s.modSqr (fun q => { q with streams := (if q.streams.length < 1024 then q.streams else q.streams.drop 1)
      ++ [⟨ten, ns, a + n, 0⟩] })

/-! ### Gather groups (9.5) -/

/-- Where a region block stands in a 3+1 stripe (R325): the stripe and the place among its 384 data blocks. -/
def stripePos (block : Nat) : Nat × Nat :=
  let u := block / 128
  (u / 3, (u % 3) * 128 + block % 128)

/-- The layout under which a block is written. -/
def State.layoutFor (s : State) (l : RegionLoc) : Nat :=
  if s.toTarget l then s.get (SQR_REGION8_TLAYOUT l.region) else s.get (SQR_REGION0_LAYOUT l.region)

/-- The group of a stripe that still accepts pages. -/
def State.openGroup (s : State) (r st : Nat) (tgt : Bool) : Option Group :=
  s.sqr.groups.find? (fun g => g.region == r && g.stripe == st && g.target == tgt && !g.writing)

/-- The state with the open group of a stripe changed. -/
def State.modGroup (s : State) (r st : Nat) (tgt : Bool) (f : Group → Group) : State :=
  s.modSqr (fun q => { q with groups := q.groups.map (fun g =>
    if g.region == r && g.stripe == st && g.target == tgt && !g.writing then f g else g) })

/-- Groups open now (GSTAT.OPEN). -/
def State.openGroups (s : State) : List Group := s.sqr.groups.filter (fun g => !g.writing)

/-- A page for the device's own use, pinned until it is freed (R267): parity, or a block that completes a stripe. -/
def State.devicePage (s : State) (data pmeta : List Byte) : Option (Nat × State) :=
  (s.takePage false).map (fun ps => (ps.1, ps.2.setPage ps.1 { freePage with
    st := .clean, pins := 1, data := data, pmeta := pmeta, ecrc := entryCheck data pmeta }))

/-- 4,096 and 16 zero bytes: an unwritten block (R326). -/
def zeroBlock : List Byte × List Byte := (List.replicate 4096 0, List.replicate 16 0)

/-- What a place of a stripe holds: a placed page, a completion page, or zeros. -/
def State.groupBlock (s : State) (g : Group) (pos : Nat) : List Byte × List Byte :=
  match (g.members ++ g.extra).find? (fun m => m.1 == pos) with
  | some m => ((s.page m.2).data, (s.page m.2).pmeta)
  | none => zeroBlock

/-- The pages that stand at a row of a stripe. -/
def rowPages (g : Group) (row : Nat) : List Nat :=
  ((g.members ++ g.extra).filter (fun m => m.1 % 128 == row)).map Prod.snd

/-- Parity of one row (R280): the XOR of its three blocks, data and metadata. -/
def State.parityRow (s : State) (g : Group) (row : Nat) : List Byte × List Byte :=
  let b0 := s.groupBlock g row
  let b1 := s.groupBlock g (128 + row)
  let b2 := s.groupBlock g (256 + row)
  (xorBytes (xorBytes b0.1 b1.1) b2.1, xorBytes (xorBytes b0.2 b1.2) b2.2)

/-- The input pages of a row are checked under R479 before the row is computed again (R480). -/
def State.checkRow (s : State) (g : Group) (row : Nat) : State :=
  (rowPages g row).foldl (fun t p => if (t.page p).entryOk then t else t.dramRead p .entryBad) s

/-- Every page of a group is to be journaled. -/
def State.journalGroup (s : State) (g : Group) : State :=
  g.members.foldl (fun t m => if (t.page m.2).unjournaled && !t.sqr.journalQ.contains m.2 then
    t.modSqr (fun q => { q with journalQ := q.journalQ ++ [m.2] }) else t) s

/-- The parity pages of all 128 rows, into device pages. -/
def State.parityPages (s : State) (g : Group) : State × List (Nat × Nat) :=
  (List.range 128).foldl (fun acc row =>
    let b := acc.1.parityRow g row
    match acc.1.devicePage b.1 b.2 with
    | some (p, t) => (t, acc.2 ++ [(row, p)])
    | none => acc) (s, [])

/-- A group that holds every block is completed (R280, R480): parity is computed and the stripe handed to firmware. A row
whose check disagrees twice withholds the stripe, and every page of the group is journaled. -/
def State.completeGroup (s : State) (g : Group) (miss : List ParityMiss) : State :=
  let s1 := miss.foldl (fun t m => t.checkRow g m.row) s
  let once := (miss.filter (fun m => !m.again)).length
  let s2 := s1.bump SQR_ECRCCNT_PARMIS once
  if miss.any (fun m => m.again) then
    ((s2.raise 223).journalGroup g).modGroup g.region g.stripe g.target (fun x => { x with withheld := true })
  else
    match s2.openGroup g.region g.stripe g.target with
    | none => s2
    | some g1 =>
      if g1.members.length < g.members.length then s2
      else if s2.evict.freePages < 128 + 256 * s2.get SQR_PAGECFG_URGRES then
        s2.allocWait (.parity g.region g.stripe g.target)
      else
        let (s3, par) := s2.parityPages g1
        s3.modGroup g.region g.stripe g.target (fun x => { x with parity := par, writing := true, withheld := false })

/-- A missing block of a stripe enters its group (R281): a cache hit, an unwritten block as zeros, the block read or
reconstructed from the media, or, where both failed, zeros with its key on the lost-write list. -/
def State.fillPos (s : State) (r st : Nat) (tgt : Bool) (peers : List PeerBlock) (pos : Nat) : State :=
  let block := (3 * st + pos / 128) * 128 + pos % 128
  let add (t : State) (b : List Byte × List Byte) : State :=
    match t.devicePage b.1 b.2 with
    | some (p, u) => u.modGroup r st tgt (fun g => { g with extra := g.extra ++ [(pos, p)] })
    | none => t
  match (s.keyOf r block).bind s.findPage with
  | some p => if (s.page p).st == .fill then add s zeroBlock else add s ((s.page p).data, (s.page p).pmeta)
  | none =>
    if !s.red.written.contains (r, block) then s
    else match peers.find? (fun b => b.pos == pos) with
      | some ⟨_, some b⟩ => add s b
      | _ => match s.keyOf r block with
        | some k => s.loseKey k 7
        | none => s

/-- An open group is completed although blocks are missing (R281). -/
def State.forceGroup (s : State) (g : Group) (peers : List PeerBlock) (miss : List ParityMiss) : State :=
  let absent := (List.range 384).filter (fun i => !(g.members ++ g.extra).any (fun m => m.1 == i))
  let s1 := absent.foldl (fun t i => t.fillPos g.region g.stripe g.target peers i) s
  match s1.openGroup g.region g.stripe g.target with
  | some g1 => s1.completeGroup g1 miss
  | none => s1

/-- A placed page takes its place in its stripe's group (R280, R282), opening the group where none is open; opening one
beyond GMAX first closes the oldest (R281). -/
def State.gather (s : State) (p : Nat) (l : RegionLoc) (args : PlaceArgs) : State :=
  let (st, pos) := stripePos l.block
  let tgt := s.toTarget l
  let s0 : State := match s.openGroup l.region st tgt with
    | some _ => s
    | none =>
      let s1 : State := match s.openGroups with
        | g :: _ => if clampNat 1 256 (s.get SQR_GATHER_GMAX) ≤ s.openGroups.length then
            (s.forceGroup g args.close args.parity).raise 208 else s
        | [] => s
      s1.modSqr (fun q => { q with groups := q.groups ++ [⟨l.region, st, tgt, s1.time, [], [], [], false, false⟩] })
  let s2 := (s0.modPage p (fun g => { g with g := true })).modGroup l.region st tgt (fun g => { g with
    members := g.members.filter (fun m => m.1 != pos) ++ [(pos, p)] })
  match s2.openGroup l.region st tgt with
  | some g => if g.members.length = 384 then s2.completeGroup g args.parity else s2
  | none => s2

/-! ### The dirty window and journaling (9.4) -/

/-- Pages by age of placement, oldest first. -/
def State.byAge (s : State) (f : Nat × Page → Bool) : List Nat :=
  ((s.sqr.pages.filter f).mergeSort (fun a b => decide (a.2.stamp ≤ b.2.stamp))).map Prod.fst

/-- At WINHI eighths of WIN (R276): firmware is asked to destage the oldest DIRTY pages outside gather groups, and pages of
the oldest groups are journaled, as many of each as bring the window below the threshold. -/
def State.windowPressure (s : State) : State :=
  let thr := orOne (s.get SQR_WIN_WINHI) * s.winPages
  if s.dirtyPages * 8 < thr then s
  else
    let asked := (s.byAge (fun e => e.2.unjournaled && (s.sqr.destageQ.contains e.1 || s.sqr.journalQ.contains e.1))).length
    let want := s.dirtyPages - (thr - 1) / 8 - asked
    let plain := s.byAge (fun e => e.2.unjournaled && e.2.st == .dirty && !e.2.g && !s.sqr.destageQ.contains e.1
      && !s.sqr.journalQ.contains e.1)
    let grouped := (s.openGroups.flatMap (fun g => g.members.map Prod.snd)).filter (fun p =>
      (s.page p).unjournaled && !s.sqr.journalQ.contains p)
    s.modSqr (fun q => { q with destageQ := q.destageQ ++ plain.take want, journalQ := q.journalQ ++ grouped.take want })

/-- The older page of a key is superseded (R265): the index moves to the new page. -/
def State.supersede (s : State) (p : Nat) : State :=
  let s1 := (s.modPage p (fun g => { g with superseded := true })).ungroup p
  ((if (s.page p).st == .clean then s1.lruDrop p else s1).tryFree p)

/-- A block is placed in page `p` (R265, R274, R285): DIRTY, J = 0, in the current epoch, or in the older one of a page it
supersedes that is not durable. -/
def State.putPage (s : State) (p : Nat) (a : PlaceArgs) : State :=
  let k : BlockKey := ⟨a.ten, a.ns, a.lba⟩
  let loc := if a.ten.isSome then s.locOf a.ns a.lba else none
  let old := if a.ten.isSome then s.findPage k else none
  let epoch := match old with
    | some o => if (s.page o).unjournaled then (s.page o).epoch else s.get SQR_DRAIN_EPOCH
    | none => s.get SQR_DRAIN_EPOCH
  let s1 := (s.setPage p { freePage with
    st := .dirty, key := k, indexed := a.ten.isSome, epoch := epoch, data := a.data, pmeta := a.pmeta
    ecrc := entryCheck a.data a.pmeta, loc := loc, stamp := s.sqr.stamp, tag := a.tag }).modSqr (fun q => { q with
      stamp := q.stamp + 1, lost := q.lost.filter (fun l => l.1 != k) })
  let s2 := match old with
    | some o => s1.supersede o
    | none => s1
  let s3 := match loc with
    | some l =>
      let w := (l.region.val, l.block)
      let s4 := { s2 with red := { s2.red with written := if s2.red.written.contains w then s2.red.written else s2.red.written ++ [w] } }
      if s4.layoutFor l = 3 then s4.gather p l a else s4
    | none => s2
  let s5 := match a.tag with
    | some t => s3.modSqr (fun q => { q with placed := KMap.set (fun _ => 0) q.placed t (KMap.get (fun _ => 0) q.placed t + 1) })
    | none => s3
  s5.closeEmpty.windowPressure

/-- A placement allocates its page, or waits for one (R266). -/
def State.placeNow (s : State) (a : PlaceArgs) : State :=
  match s.takePage false with
  | none => s.allocWait (.place a)
  | some (p, s1) => s1.putPage p a

/-- The window has room for one more page. -/
def State.windowRoom (s : State) : Bool := decide (s.dirtyPages + 1 ≤ s.winPages)

/-- The Square holds placements: on the power-loss signal or a PORST_N hold-off (R278, R406), and after a clean-stop record
until an open marker is programmed (R550). -/
def State.placeHeld (s : State) : Bool := s.sqr.lossHold || s.pwr.cleanStop

/-- PLACEMENT (R265, R268, R275): refused, held, or placed. -/
def State.place (s : State) (a : PlaceArgs) : State :=
  if !s.is SQR_STAT_READY then s
  else match a.client with
    | .host none => s.tenancyRefused true none none
    | c =>
      let bad := match a.page with
        | some p => !clientMay c (s.page p)
        | none => match c with
          | .host t => decide (a.ten ≠ t)
          | .media => false
      let t := match c with
        | .host t => t
        | .media => none
      if bad then s.tenancyRefused true t a.page
      else if s.placeHeld then s.modSqr (fun q => { q with held := q.held ++ [a] })
      else if !s.sqr.held.isEmpty || !s.windowRoom then
        ((s.modSqr (fun q => { q with held := q.held ++ [a] })).bump SQR_CNT1_WINHOLDS).raise 206
      else s.placeNow a

/-- Held placements proceed in arrival order while the window has room (R275); `fuel` bounds their number. -/
def releaseLoop : Nat → State → State
  | 0, s => s
  | k + 1, s =>
    match s.sqr.held with
    | [] => s
    | a :: rest => if s.placeHeld || !s.windowRoom then s
        else releaseLoop k ((s.modSqr (fun q => { q with held := rest })).placeNow a)

/-- PLACEMENT_RELEASE (R275). -/
def State.releaseHeld (s : State) : State := releaseLoop s.sqr.held.length s

/-- A waiting allocation runs. -/
def State.runWait (s : State) (w : AllocWait) : State :=
  match w with
  | .place a => s.placeNow a
  | .refill k => s.refill k
  | .parity r st t => match s.openGroup r st t with
    | some g => s.completeGroup g []
    | none => s
  | .fill k req ahead ws =>
    match s.lookupKey k with
    | .miss => s.startFill k req ahead ws
    | _ => if ahead then s.rejoin k ws else (s.readKey k req).rejoin k ws

/-- A waiting allocation may take a page now. -/
def State.waitReady (s : State) (w : AllocWait) : Bool :=
  let reserve := 256 * s.get SQR_PAGECFG_URGRES
  let free := s.evict.freePages
  match w with
  | .fill _ req ahead _ => if decide (req.cls = 2) && !ahead then decide (0 < free) else decide (reserve < free)
  | .parity _ _ _ => decide (128 + reserve ≤ free)
  | _ => decide (reserve < free)

/-- ALLOCATION_RESUME (R266): the first waiting allocation that may take a page proceeds. -/
def State.resumeAlloc (s : State) : State :=
  match s.sqr.waits.find? (fun w => s.waitReady w) with
  | some w => (s.modSqr (fun q => { q with waits := q.waits.erase w })).runWait w
  | none => s

/-! ### Destage (R277, R283) -/

/-- Copies of data unit `u` of a region under its source or target layout that lie on no failed element (R329). -/
def State.copies (s : State) (r : Nat) (tgt : Bool) (u : Nat) : List (Nat × Nat) :=
  (s.unitPlaces r tgt u).filter (fun p => !s.unitLost r p.1 (s.cursorOf r tgt p.2))

/-- Media writes that a page's destage takes (R277, R329, R352): one, or one for each copy that is not lost; a reshaped unit
from BCKPT to BOUND takes those of both layouts. -/
def State.writesNeeded (s : State) (g : Page) : Nat :=
  match g.loc with
  | none => 1
  | some l =>
    let u := l.block / 128
    let n (t : Bool) : Nat := (s.copies l.region t u).length
    let tgt := s.toTarget l
    let both := tgt && decide (s.get (SQR_REGION15_BCKPT l.region) ≤ u)
    max 1 (n tgt + (if both then n false else 0))

/-- Every media write of a page has ended (R277): it is CLEAN with J = 0, its journal entry is retired and its key recorded as
destaged. A superseded page leaves the journal to the page that took its place. -/
def State.destaged (s : State) (p : Nat) : State :=
  let g := s.page p
  let s1 := (s.modPage p (fun g => { g with st := .clean, j := false })).modSqr (fun q => { q with
    destageQ := q.destageQ.erase p, journalQ := q.journalQ.erase p
    journal := if g.superseded then q.journal else q.journal.filter (fun e => e.key != g.key)
    onMedia := if q.onMedia.contains g.key then q.onMedia else q.onMedia ++ [g.key] })
  if g.superseded then s1.tryFree p else s1.enterProbation p

/-- A writing group whose parity and data have all reached the media is closed, and its pages freed (R283), its journaled
parity with it (R332); a block on a failed element has no write of its own and counts as written with its parity (R330). -/
def State.closeWritten (s : State) : State :=
  let ended (g : Group) : Bool := g.writing && g.parity.isEmpty
    && g.members.all (fun m => (s.page m.2).st != .dirty && ((s.page m.2).st != .destage || (s.page m.2).left == 0))
  let gone := s.sqr.groups.filter ended
  let s1 := (gone.flatMap (fun g => g.extra.map Prod.snd)).foldl State.freePg s
  let s2 := (gone.flatMap (fun g => g.members.map Prod.snd)).foldl (fun t p =>
    let u := t.modPage p (fun g => { g with g := false })
    if (t.page p).st == .destage then u.destaged p else u) s1
  let s3 := s2.modSqr (fun q => { q with groups := q.groups.filter (fun g => !ended g) })
  { s3 with red := { s3.red with journaled := s3.red.journaled.filter (fun j =>
    !gone.any (fun g => g.region == j.1 && g.stripe == j.2.1)) } }

/-- MEDIA_WRITE_END (R277, R283): of a parity page, or of a placed page. -/
def State.mediaWriteEnded (s : State) (p : Nat) (ok : Bool) : State :=
  let g := s.page p
  match s.sqr.groups.find? (fun x => x.writing && x.parity.any (fun m => m.2 == p)) with
  | some _ =>
    if ok then ((s.modSqr (fun q => { q with groups := q.groups.map (fun x =>
        { x with parity := x.parity.filter (fun m => m.2 != p) }) })).freePg p).closeWritten
    else s
  | none =>
    let older := s.sqr.pages.any (fun e => e.1 != p && e.2.st == .destage && decide (e.2.key = g.key) && decide (e.2.stamp < g.stamp))
    let writing := s.sqr.groups.any (fun x => x.writing && x.members.any (fun m => m.2 == p))
    if !(g.st == .destage || (g.st == .dirty && !older && (!g.g || writing))) then s
    else
      let left := (if g.st == .dirty then s.writesNeeded g else g.left) - 1
      let failed := g.failed || !ok
      let s1 := s.setPage p { g with st := .destage, left := left, failed := failed }
      if 0 < left then s1
      else if failed then
        (s1.modPage p (fun g => { g with st := .dirty, failed := false, left := 0 })).tryFree p
      else (s1.destaged p).closeWritten

/-- JOURNAL_PROGRAM_END (R276, R332): J := 1, and a page outside a gather group is to be destaged; a parity page of a
degraded region stands in the journal. A program that failed is tried again. A journal page later than the last commit
record leaves that record no longer the newest page (R549). -/
def State.journaled (s : State) (p : Nat) (ok : Bool) : State :=
  let g := s.page p
  if !ok then s
  else match s.sqr.groups.find? (fun x => x.parity.any (fun m => m.2 == p)) with
    | some x =>
      let rows : List (Nat × Nat × Nat) := (x.parity.filter (fun m => m.2 == p)).map (fun m => (x.region, x.stripe, m.1))
      { s with red := { s.red with journaled := s.red.journaled ++ rows } }
    | none =>
      if !g.unjournaled then s
      else
        let s0 : State := { s with pwr := { s.pwr with newestOk := false } }
        ((s0.setPage p { g with j := true }).modSqr (fun q => { q with
          journalQ := q.journalQ.erase p
          journal := q.journal ++ [⟨g.key, g.epoch, g.data, g.pmeta, g.loc, g.tag⟩]
          destageQ := if g.g || g.st == .destage || q.destageQ.contains p then q.destageQ else q.destageQ ++ [p] })).windowPressure

/-! ### Drains (9.6) -/

/-- Pages of the closed epochs up to `e`, counted from the oldest open drain, that are not durable (R284). -/
def State.drainPages (s : State) (e : Nat) : List Nat :=
  let old := s.get SQR_DRAIN_OLDEST
  s.byAge (fun x => x.2.unjournaled && decide ((x.2.epoch + 256 - old) % 256 ≤ (e + 256 - old) % 256))

/-- A drain opens (R284, R286): the epoch closes, pages in gather groups and, under DRMODE = 0 or without rotor energy
(R533), all others are journaled; otherwise firmware is asked to destage the others. -/
def State.openDrain (s : State) (id : Nat) : State :=
  let e := s.get SQR_DRAIN_EPOCH
  let s1 := (s.modSqr (fun q => { q with drains := q.drains ++ [Drain.mk id e s.time] })).put SQR_DRAIN_EPOCH ((e + 1) % 256)
  let pages := (s1.drainPages e).filter (fun p => !s.sqr.journalQ.contains p)
  let direct := !s.is SQR_DRAIN_DRMODE || !s.is SPN_STAT_RETOK
  let jr := pages.filter (fun p => (s.page p).g || direct)
  let ds := pages.filter (fun p => !((s.page p).g || direct) && !s.sqr.destageQ.contains p)
  s1.modSqr (fun q => { q with journalQ := q.journalQ ++ jr, destageQ := q.destageQ ++ ds })

/-- A drain is requested (R284): its identity, and the state. With 255 drains open it waits. -/
def State.requestDrain (s : State) : Nat × State :=
  let id := s.sqr.nextDrain
  let s1 := s.modSqr (fun q => { q with nextDrain := id + 1 })
  if 255 ≤ s.sqr.drains.length then (id, (s1.modSqr (fun q => { q with drainWait := q.drainWait ++ [id] })).raise 217)
  else (id, s1.openDrain id)

/-- The oldest drain, when its pages are durable, ends; a waiting request opens (R284). -/
def State.endDrain (s : State) : Option (Nat × State) :=
  match s.sqr.drains with
  | [] => none
  | d :: rest =>
    if !(s.drainPages d.epoch).isEmpty then none
    else
      let s1 := (s.modSqr (fun q => { q with drains := rest })).put SQR_DRAIN_OLDEST
        ((rest.head?.map Drain.epoch).getD (s.get SQR_DRAIN_EPOCH))
      match s1.sqr.drainWait with
      | [] => some (d.id, s1)
      | w :: ws => some (d.id, (s1.modSqr (fun q => { q with drainWait := ws })).openDrain w)

/-- R286: a destage of the oldest drain not ended within DRJT is journaled instead. -/
def State.drainFallback (s : State) : State :=
  match s.sqr.drains with
  | [] => s
  | d :: _ =>
    let late := (s.drainPages d.epoch).filter (fun p => !s.sqr.journalQ.contains p)
    if late.isEmpty then s
    else (s.modSqr (fun q => { q with journalQ := q.journalQ ++ late })).raise 209

/-! ### Locks (9.7) -/

/-- A lock not listed: free, not orphaned. -/
def freeLock : Lock := ⟨0, false, 0, false⟩

/-- Owner IDs (Table 9-3); 0 for a client without one. -/
def ownerId : LockClient → Nat
  | .core c => c.val + 1
  | .avenue n => 0x10 + n.val
  | .arcade => 0x18
  | .flash => 0x19
  | .dma c => 0x40 + c.val
  | .other => 0

/-- Lock `k`. -/
def State.lock (s : State) (k : Nat) : Lock := KMap.get (fun _ => freeLock) s.sqr.locks k

/-- The state with lock `k` replaced. -/
def State.setLock (s : State) (k : Nat) (l : Lock) : State :=
  s.modSqr (fun q => { q with locks := KMap.set (fun _ => freeLock) q.locks k l })

/-- The result word of a lock read (Table 9-14). -/
def lockResult (res last owner : Nat) : Word := BitVec.ofNat 32 (res * 2 ^ 29 + last * 256 + owner)

/-- A read of SQR_LOCKOP[k] by owner `id` (R288): the result word and the state. -/
def State.acquire (s : State) (k id : Nat) : Word × State :=
  let l := s.lock k
  if id = 0 then (lockResult 3 0 l.owner, s)
  else if l.owner = 0 then
    let s1 := s.setLock k { l with owner := id, warned := false }
    if l.orphaned then (lockResult 2 l.last id, s1) else (lockResult 0 0 id, s1)
  else if l.owner = id then (lockResult 4 0 id, s)
  else (lockResult 1 0 l.owner, s)

/-- A release or clear by a client that does not hold the lock (R289). -/
def State.lockError (s : State) : State := (s.bump SQR_CNT2_LOCKERR).raise 214

/-- A release of lock `k` by owner `id` (R289). -/
def State.releaseLock (s : State) (k id : Nat) : State :=
  let l := s.lock k
  if id ≠ 0 ∧ l.owner = id then s.setLock k { l with owner := 0, warned := false } else s.lockError

/-- A clear of ORPHANED of lock `k` by owner `id` (R289). -/
def State.clearOrphan (s : State) (k id : Nat) : State :=
  let l := s.lock k
  if id ≠ 0 ∧ l.owner = id then s.setLock k { l with orphaned := false } else s.lockError

/-- A reset notice (R290): every lock of owner `id` is released and orphaned. -/
def State.resetNotice (s : State) (id : Nat) : State :=
  (List.range 256).foldl (fun t k =>
    if id ≠ 0 ∧ (t.lock k).owner = id then (t.setLock k ⟨0, true, id, false⟩).raise 212 else t) s

/-- A chip reset or INIT frees every lock and clears every ORPHANED (R292). -/
def State.freeLocks (s : State) : State :=
  (List.range 256).foldl (fun t k => t.setLock k { t.lock k with owner := 0, orphaned := false, warned := false }) s

/-! ### INIT (R261, R293) -/

/-- Buffer space in pages' worth: seven eighths of the DRAM less the firmware area. -/
def State.bufferPages (s : State) : Nat :=
  ((s.get SQR_DRAMCFG_SIZE + 1) * 7 * 2 ^ 29 - s.get SQR_PAGECFG_FW16 * 2 ^ 24) / 4096

/-- NPAGES (R261): the largest value for which the descriptor and page areas fit. -/
def State.initPages (s : State) : Nat := s.bufferPages - ceilDiv s.bufferPages 129

/-- The first rule of Table 9-4 broken; 0 = none. -/
def State.initCheck (s : State) : Nat :=
  let np := s.initPages
  if !s.is PWR_START_DRAMOK then 1
  else if np < 262144 then 2
  else if ¬ (2 * (256 * (s.get SQR_PAGECFG_URGRES + s.get SQR_PAGECFG_FREELOW) + s.winPages
      + 512 * clampNat 1 256 (s.get SQR_GATHER_GMAX)) < np) then 3
  else if s.sqr.pages.any (fun e => 0 < e.2.pins && e.2.indexed) || !s.sqr.fills.isEmpty || !s.sqr.waits.isEmpty
      || !s.sqr.held.isEmpty || !s.sqr.drains.isEmpty then 4
  else 0

/-- SQUARE_INIT (R293). -/
def State.initSquare (s : State) : State :=
  let e := s.initCheck
  if e ≠ 0 then (s.put SQR_STAT_ERR e).raise 215
  else
    (((s.modSqr (fun q => { q with
      pages := [], fresh := 0, freed := [], probation := [], protectedSeg := [], streams := [], groups := []
      destageQ := [], journalQ := [] })).freeLocks.put SQR_STAT_NPAGES s.initPages).put SQR_STAT_ERR 0).putb
      SQR_STAT_READY true

end Sys2Proof.Machine
end

