-- ==== Sys2Proof/Machine/HostOps.lean ====
section
/-! DEFINITION. The controllers, the commands in flight and their completions, drains asked for by commands, asynchronous
events, and the ends of sessions and of the setup window (spec 12, 13 and 15.5). -/

namespace Sys2Proof.Machine

/-! ### Controllers -/

/-- Controller `f` as it stands at reset: HST_FN at its reset value applied and in force (R365). -/
def freshCtl (f : Nat) : Controller :=
  { ready := false, mse := false, vfEnable := false, apEn := decide (f < 2), apMsix := 32, apIoq := 31
    en := decide (f < 2), msix := 32, ioq := 31, ccEn := false, ams := 0, rdy := false, pp := false, shst := 0, cfs := false
    resetting := false, shutdown := none, sqs := [], cqs := [], features := [], aers := [], events := [], errors := []
    errCount := 0, aborts := [], lastSq := 0, burst := 0, wrrClass := 0, wrrLeft := 0, changedNs := [] }

/-- Controller `f` (Table 12-2). -/
def State.ctl (s : State) (f : Nat) : Controller := KMap.get freshCtl s.host.fns f

/-- The state with controller `f` changed. -/
def State.modCtl (s : State) (f : Nat) (g : Controller → Controller) : State :=
  { s with host := { s.host with fns := KMap.set freshCtl s.host.fns f (g (s.ctl f)) } }

/-- The port of function `f` (R361): in mode 0 all functions lie on port A. -/
def State.portOf (s : State) (f : Nat) : Nat :=
  if !s.is HST_CTL_MODE then 0 else if f = 1 ∨ 65 ≤ f then 1 else 0

/-- The PF of function `f`, and the VFs of a PF (Table 12-2). -/
def pfOf (f : Nat) : Nat := if f = 1 ∨ 65 ≤ f then 1 else 0

/-- The functions of a port. -/
def State.portFns (s : State) (p : Nat) : List Nat := (List.range 128).filter (fun f => s.portOf f == p)

/-- The VFs of a PF. -/
def vfsOf (p : Nat) : List Nat := if p = 0 then (List.range 63).map (· + 2) else (List.range 63).map (· + 65)

/-- A feature's value; unlisted ones are at their defaults (Table 13-7). -/
def featDefault (fid : Nat) : Nat := if fid = 6 then 1 else if fid = 0x83 then 1 else 0

/-- The value of a controller's feature. -/
def Controller.feat (c : Controller) (fid : Nat) : Nat := KMap.get featDefault c.features fid

/-- The tenancy bound to a controller (R456), if any. -/
def State.tenOf (s : State) (f : Nat) : Option (Fin 128) :=
  if s.is (TGT_BIND_BOUND f) then some ⟨s.get (TGT_BIND_TEN f) % 128, Nat.mod_lt _ (by decide)⟩ else none

/-- An asynchronous event (Table 13-6): it completes the oldest request waiting, or waits for one. -/
def asyncWord (typ info : Nat) : Nat := typ + 256 * info + 65536 * 1

/-! ### Commands in flight (13.3, 13.4) -/

/-- The command of a tag. -/
def State.cmd (s : State) (tag : Nat) : Option Cmd := s.rbt.cmds.find? (fun c => c.tag == tag)

/-- Commands of an owner session (Table 13-4): Sanitize and C0h to CFh; and those that run one at a time (R455). -/
def ownerOp (op : Nat) : Bool := op == 0x84 || decide (0xC0 ≤ op ∧ op ≤ 0xCF)
def serialOp (op : Nat) : Bool := ownerOp op || op == 0x80

/-- The fetched admin command of a tag, where its opcode is `op`; one that R455 lists waits for every earlier one. -/
def State.adminCmd (s : State) (tag op : Nat) : Option Cmd :=
  ((s.cmd tag).filter (fun c => c.phase == .fetched && c.cls == 2 && c.sqe.opcode == op)).filter (fun c =>
    !(serialOp op && s.rbt.cmds.any (fun d => decide (d.order < c.order) && d.cls == 2 && serialOp d.sqe.opcode
      && d.phase == .fetched)))

/-- The state with a command changed. -/
def State.modCmd (s : State) (tag : Nat) (f : Cmd → Cmd) : State :=
  { s with rbt := { s.rbt with cmds := s.rbt.cmds.map (fun c => if c.tag = tag then f c else c) } }

/-- The tag of a command is freed. A controller reset completes when its last command has ended (R404). -/
def State.dropCmd (s : State) (tag : Nat) : State :=
  { s with rbt := { s.rbt with cmds := s.rbt.cmds.filter (fun c => c.tag != tag), noTagEp := false } }.modSqr (fun q =>
    { q with placed := KMap.erase q.placed tag, readEnds := q.readEnds.filter (fun r => r.1 != tag) })

/-- A command completes with its own status (R395): its completion waits for its completion queue, and an error adds an
entry to the Error Information log of 64 entries. A command whose controller was reset ends without one (R404). -/
def State.completeWith (s : State) (tag sct sc dw0 lba qual : Nat) (more : Bool) : State :=
  match s.cmd tag with
  | none => s
  | some c =>
    if c.phase == .done then s
    else if c.orphan || !(s.ctl c.fn).cqs.any (fun q => q.qid == c.cq) then s.dropCmd tag
    else
      let ctl := s.ctl c.fn
      let bad := decide (sct ≠ 0 ∨ sc ≠ 0)
      let err : ErrorInfo := ⟨ctl.errCount + 1, c.sq, c.sqe.cid, sct, sc, lba, qual⟩
      let s1 := s.modCtl c.fn (fun k => { k with
        cqs := k.cqs.map (fun q => if q.qid = c.cq then
          { q with waiting := q.waiting ++ [⟨tag, c.sq, c.sqe.cid, sct, sc, dw0, more⟩] } else q)
        errors := if bad then ([err] ++ k.errors).take 64 else k.errors
        errCount := if bad then k.errCount + 1 else k.errCount })
      s1.modCmd tag (fun c => { c with phase := .done })

/-- A completion with a status and DW0. -/
def State.complete (s : State) (tag sct sc dw0 : Nat) : State := s.completeWith tag sct sc dw0 0 0 false

/-- A read that fails with Unrecovered Read Error (SCT 2h, SC 81h): More is set, and the log entry carries the first
failing LBA and the qualifier (R140). -/
def State.readError (s : State) (tag lba qual : Nat) : State := s.completeWith tag 2 0x81 0 lba qual true

/-- Successful completion. -/
def State.ok (s : State) (tag : Nat) (dw0 : Nat := 0) : State := s.complete tag 0 0 dw0

/-- Invalid Field in Command (SCT 0h, SC 02h), with a refusal code in CDW0. -/
def State.refuse (s : State) (tag code : Nat) : State := s.complete tag 0 0x02 code

/-- The data returned with a command. -/
def State.answer (s : State) (tag : Nat) (bytes : List Byte) : State :=
  { s with host := { s.host with reply := s.host.reply.filter (fun r => r.1 != tag) ++ [(tag, bytes)] } }

/-- An asynchronous event of a controller: type and information. -/
def State.asyncEvent (s : State) (f typ info : Nat) : State :=
  match (s.ctl f).aers with
  | t :: rest => (s.modCtl f (fun c => { c with aers := rest })).ok t (asyncWord typ info)
  | [] => s.modCtl f (fun c => { c with events := if c.events.contains (typ, info) then c.events else c.events ++ [(typ, info)] })

/-- Commands whose drain ended complete, as do shutdowns (R392, R397, R405). -/
def State.drainEnded (s : State) (id : Nat) : State :=
  let waiting := s.rbt.cmds.filter (fun c => c.phase == .draining id)
  let s0 := waiting.foldl (fun t c => t.ok c.tag) s
  let s1 := if (s0.rbt.act.map Activation.drain) == some (some id) then s0.put RBT_ACT_STEP 5 else s0
  (List.range 128).foldl (fun t f => if (t.ctl f).shutdown == some (some id) then
    t.modCtl f (fun c => { c with shutdown := none, shst := 2 }) else t) s1

/-- A shutdown whose fetched commands have completed asks for its drain (R405). -/
def State.shutdownStep (s : State) (f : Nat) : State :=
  if (s.ctl f).shutdown == some none && !s.rbt.cmds.any (fun c => c.fn == f && !(c.phase == .parked)) then
    let (id, s1) := s.requestDrain
    s1.modCtl f (fun c => { c with shutdown := some (some id) })
  else s

/-- A command asks for a drain (R392, R397): merged with those of the last DRCOAL interval, or at once (R398). -/
def State.drainFor (s : State) (tag : Nat) : State :=
  if s.get RBT_ARB_DRCOAL = 0 then
    let (id, s1) := s.requestDrain
    s1.modCmd tag (fun c => { c with phase := .draining id })
  else
    ({ s with rbt := { s.rbt with merge := s.rbt.merge ++ [tag] } }).modCmd tag (fun c => { c with phase := .merging })

/-- DRAIN_MERGE_EXPIRY (R398): one drain serves every merged request. -/
def State.mergeEnd (s : State) : State :=
  if s.rbt.merge.isEmpty then s
  else
    let tags := s.rbt.merge
    let (id, s1) := { s with rbt := { s.rbt with merge := [] } }.requestDrain
    tags.foldl (fun t tag => t.modCmd tag (fun c => { c with phase := .draining id })) s1

/-- Step 3 of an activation ends when no other command is in flight: step 4 asks for a drain (Table 13-3). -/
def State.activationStep (s : State) : State :=
  match s.rbt.act with
  | some a =>
    if s.get RBT_ACT_STEP = 3 && !s.rbt.cmds.any (fun c => c.tag != a.tag && !(c.phase == .parked)) then
      let (id, s1) := s.requestDrain
      { s1 with rbt := { s1.rbt with act := some { a with drain := some id } } }.put RBT_ACT_STEP 4
    else s
  | none => s

/-- A tag is freed after its completion was posted: an Abort that waited for it completes (R402), and shutdowns go on. -/
def State.posted (s : State) (c : Cmd) : State :=
  let done := ((s.ctl c.fn).aborts.filter (fun a => a.2 == c.tag)).map Prod.fst
  let s1 := (s.dropCmd c.tag).modCtl c.fn (fun k => { k with aborts := k.aborts.filter (fun a => a.2 != c.tag && a.1 != c.tag) })
  ((done.foldl (fun t a => t.ok a) s1).shutdownStep c.fn).activationStep

/-- Writes whose blocks are all placed complete, or wait for a drain: with FUA, without the Volatile Write Cache, or without
rotor energy (R392, R533). -/
def State.finishWrites (s : State) : State :=
  (s.rbt.cmds.filter (fun c => c.phase == .placing && decide (c.blocks ≤ KMap.get (fun _ => 0) s.sqr.placed c.tag))).foldl
    (fun t c => if ((t.ctl c.fn).feat 6) % 2 = 1 ∧ bitsOf c.sqe.c12 30 1 = 0 ∧ t.is SPN_STAT_RETOK then t.ok c.tag
      else t.drainFor c.tag) s

/-! ### The setup window and sessions (R374, R453) -/

/-- The setup window closes: PAGE returns to 0 and source 15 is raised (R374). -/
def State.closeWindow (s : State) : State :=
  if s.bus.winOpen then { s with bus := { s.bus with winOpen := false, page := 0 } }.raise 15 else s

/-- NSESS, OSESS, OSFN and OSLOT follow the sessions (Table 15-11). -/
def State.sessionRegs (s : State) : State :=
  let s1 := s.put TGT_STAT_NSESS s.tgt.sessions.length
  match s.tgt.sessions.find? (fun x => x.owner) with
  | some x => (((s1.putb TGT_STAT_OSESS true).put TGT_STAT_OSFN x.fn).put TGT_ROOT_OSLOT x.slot)
  | none => (((s1.putb TGT_STAT_OSESS false).put TGT_STAT_OSFN 0).put TGT_ROOT_OSLOT 0)

/-- The session of a controller ends (R453); an owner session's end raises source 1002 and, on PF0, closes the window. -/
def State.endSession (s : State) (f : Nat) : State :=
  match s.tgt.sessions.find? (fun x => x.fn == f) with
  | none => s
  | some x =>
    let s1 := { s with tgt := { s.tgt with sessions := s.tgt.sessions.filter (fun y => y.fn != f) } }.sessionRegs
    if x.owner then
      let s2 := s1.raise 1002
      if f = 0 then s2.closeWindow else s2
    else s1

/-- The controller of the owner session, if one is held. -/
def State.ownerFn (s : State) : Option Nat := (s.tgt.sessions.find? (fun x => x.owner)).map Session.fn

/-- The window opens when an owner session is bound to PF0 and PF0 has Memory Space Enable set (R374). -/
def State.tryOpenWindow (s : State) : State :=
  if s.ownerFn == some 0 && (s.ctl 0).mse then { s with bus := { s.bus with winOpen := true } } else s

/-! ### Resets (R362, R364, R404) -/

/-- The persistent Arcade contexts of a controller are closed and zeroed (R426, R431), and USED follows. -/
def State.closeContexts (s : State) (f : Nat) : State :=
  let gone := s.arc.persist.filter (fun c => c.fn == f)
  let s1 := { s with arc := { s.arc with persist := s.arc.persist.filter (fun c => c.fn != f) } }
  gone.foldl (fun t c => t.put (ARC_TENQ_USED c.ten) (t.get (ARC_TENQ_USED c.ten) - 1)) s1

/-- An Arcade command's context is freed and zeroed, and its tenancy no longer recorded (R431, R442). -/
def State.endRun (s : State) (tag : Nat) : State :=
  let ctx := match (s.cmd tag).map Cmd.phase with
    | some (.running k) => KMap.set (fun _ => none) s.arc.ctxTen k none
    | _ => s.arc.ctxTen
  { s with arc := { s.arc with runs := s.arc.runs.filter (fun r => r.tag != tag), ctxTen := ctx } }

/-- Every fetched command of a controller ends without a completion (Table 13-2): its tags are freed. -/
def State.endCommands (s : State) (f : Nat) : State :=
  let mine := s.rbt.cmds.filter (fun c => c.fn == f)
  let s1 := mine.foldl (fun t c => (t.endRun c.tag).dropCmd c.tag) s
  { s1 with rbt := { s1.rbt with merge := s1.rbt.merge.filter (fun t => !mine.any (fun c => c.tag == t)) } }

/-- A controller is reset (R363, R404): its commands end, its queues are discarded, every feature takes its default, and
its session and contexts end; its binding, namespaces, logs and reservations stay. -/
def State.resetCtl (s : State) (f : Nat) : State :=
  let s1 := ((s.endCommands f).closeContexts f).endSession f
  (s1.modCtl f (fun c => { c with
    ccEn := false, ams := 0, rdy := false, pp := false, shst := 0, cfs := false, resetting := false, shutdown := none
    sqs := [], cqs := [], features := [], aers := [], events := [], aborts := [], lastSq := 0, burst := 0
    wrrClass := 0, wrrLeft := 0 })).raise 152

/-- A function is reset with its controller (R362, R364): its configuration returns to reset values, and EN and MSIX as
applied come into force (R365). -/
def State.resetFn (s : State) (f : Nat) : State :=
  let s1 := ((s.resetCtl f).modCtl f (fun c => { c with
    mse := false, vfEnable := false, en := c.apEn, msix := c.apMsix })).raise 6
  if f = 0 then s1.closeWindow else s1

/-- A port event resets the port's functions and counts in DOWNS (R361, R362); configuration requests go unanswered until
the link is up again (R363). -/
def State.portEvent (s : State) (p : Nat) : State :=
  (s.portFns p).foldl (fun t f => (if (t.ctl f).en ∨ f < 2 then t.resetFn f else t).modCtl f (fun c =>
    { c with ready := false })) (s.bump (HST_PORT_DOWNS p))

end Sys2Proof.Machine
end

