-- ==== Sys2Proof/Machine/HostPort.lean ====
section
/-! DEFINITION. Meanings of the commands of ports, functions, the setup window and NVMe-MI (spec 12). -/

namespace Sys2Proof.Machine

/-! ### Ports (12.1) -/

/-- The timing domain of a port: TD26 or TD27. -/
def portTd (p : Nat) : Nat := 26 + p

/-- A port is in use: port B only in mode 1, and neither B nor any VF in Cul-de-sac or claim mode (R359, R544). -/
def State.restricted (s : State) : Bool := s.get PWR_STATE_STATE == 5 || s.get PWR_STATE_STATE == 6
def State.portUsed (s : State) (p : Nat) : Bool := p == 0 || (s.is HST_CTL_MODE && !s.restricted)

/-- PORT_EVENT (R361, R362): sources of Table 12-12, the link state, and the reset of the port's functions. PERST lets the
port's reference clock stop (R34). -/
def portEvent (p : Nat) (c : PortCause) (s : State) : State :=
  if !s.portUsed p then s
  else
    let down (t : State) : State :=
      let u := t.raiseIf (t.is (HST_PORT_UP p)) (2 * p + 1)
      ((u.putb (HST_PORT_UP p) false).put (HST_PORT_RATE p) 0).put (HST_PORT_WIDTH p) 0
    let s1 := match c with
      | .linkDown => down s
      | .perst _ => (((down s).putb (HST_PORT_PERST p) true).raise (4 + p)).expect [portTd p] false
      | .hotReset => s
    { s1 with host := { s1.host with l12 := s1.host.l12.erase p } }.portEvent p

/-- Functions answer configuration requests: while the device serves, or from step 8 of a start (R363). -/
def State.functionsReady (s : State) : Bool := s.get PWR_START_STEP == 0 || decide (8 ≤ s.get PWR_START_STEP) || s.restricted

/-- The functions of a port become ready; in Cul-de-sac and claim modes PF0 alone (R544, R546). -/
def State.readyPort (s : State) (p : Nat) : State :=
  if !s.functionsReady then s
  else (s.portFns p).foldl (fun t f =>
    if !t.restricted || f == 0 then t.modCtl f (fun c => { c with ready := true }) else t) s

/-- LINK_UP (R360, R363). -/
def linkUp (p rate width : Nat) (s : State) : State :=
  let lanes := if s.is HST_CTL_MODE then 2 else 4
  if !s.portUsed p || s.is (HST_PORT_PERST p) || rate == 0 || !([1, 2, 4].contains width && decide (width ≤ lanes)) then s
  else (((s.putb (HST_PORT_UP p) true).put (HST_PORT_RATE p) rate).put (HST_PORT_WIDTH p) width |>.raise (2 * p)).readyPort p

/-- LINK_UP. -/
def execLinkUp (p : Fin 2) (rate : Fin 6) (width : Fin 5) (s : State) : Host.Outcome State Fault Refusal :=
  .next (linkUp p.val rate.val width.val s)

/-- LINK_L1_2_ENTRY (R34, R535). -/
def linkL12 (p : Nat) (s : State) : State :=
  if s.is (HST_PORT_UP p) && !s.host.l12.contains p then
    { s with host := { s.host with l12 := s.host.l12 ++ [p] } }.expect [portTd p] false
  else s

/-- LINK_L1_2_ENTRY. -/
def execLinkL12Entry (p : Fin 2) (s : State) : Host.Outcome State Fault Refusal := .next (linkL12 p.val s)

/-- PERST_RELEASE (R34, R363). -/
def perstRelease (p : Nat) (s : State) : State :=
  if s.is (HST_PORT_PERST p) then
    let s1 := s.putb (HST_PORT_PERST p) false
    if s.portUsed p then s1.expect [portTd p] true else s1
  else s

/-- PERST_RELEASE. -/
def execPerstRelease (p : Fin 2) (s : State) : Host.Outcome State Fault Refusal := .next (perstRelease p.val s)

/-! ### Functions (12.1, 12.2) -/

/-- A reset of a PF clears its VF Enable and so resets every enabled VF of it (R364). -/
def State.resetWithVfs (s : State) (f : Nat) : State :=
  let s1 := s.resetFn f
  if f < 2 then ((vfsOf f).filter (fun v => (s.ctl v).en)).foldl State.resetFn s1 else s1

/-- FUNCTION_LEVEL_RESET. -/
def execFunctionLevelReset (f : Fin 128) (s : State) : Host.Outcome State Fault Refusal := .next (s.resetWithVfs f.val)

/-- The first rule of Table 12-4 broken and the function at which it broke; 0 = none. -/
def State.fnCheck (s : State) : Nat × Nat :=
  let fs := (List.range 128).filter (fun f => s.is (HST_FN_EN f))
  let bad3 := fs.find? (fun f => decide (s.get (HST_FN_IOQ f) = 0) || decide (s.get (HST_FN_MSIX f) = 0)
    || decide (2048 < s.get (HST_FN_MSIX f)))
  let bad4 := fs.find? (fun f => decide (2 ≤ f) && decide (s.get (HST_PFCFG_TOTALVF (pfOf f)) < (if f < 65 then f - 1 else f - 64)))
  if 4096 < (fs.map (fun f => 1 + s.get (HST_FN_IOQ f))).sum then (1, 0)
  else if 16384 < (fs.map (fun f => s.get (HST_FN_MSIX f))).sum then (2, 0)
  else match bad3, bad4 with
    | some f, _ => (3, f)
    | none, some f => (4, f)
    | none, none => (0, 0)

/-- FUNCTION_CONFIG_APPLY (R365): on the first rule broken the values in force stay and source 9 is raised. -/
def functionConfigApply (s : State) : State :=
  let (e, f) := s.fnCheck
  let s1 := (s.put HST_CFGSTAT_ERR e).put HST_CFGSTAT_FN f
  if e ≠ 0 then s1.raise 9
  else (List.range 128).foldl (fun t f => t.modCtl f (fun c => { c with
    apEn := s.is (HST_FN_EN f), apMsix := s.get (HST_FN_MSIX f), apIoq := s.get (HST_FN_IOQ f) })) s1

/-- FUNCTION_CONFIG_APPLY. -/
def execFunctionConfigApply (s : State) : Host.Outcome State Fault Refusal := .next (functionConfigApply s)

/-- TLP_RECEIVE (R360, Tables 12-12, 17-6): an LCRC failure is replayed; a TLP with an ECRC error or poison is reported and
not used; a good one enters staging. -/
def tlpReceive (p : Nat) (t : Tlp) (s : State) : State :=
  if !s.is (HST_PORT_UP p) then s
  else if !t.lcrcOk then (s.bump HST_INTG_REPLAYS).raise 100
  else if t.ecrcBad then s.raise 10
  else if t.poisoned then s.raise 11
  else { s with host := { s.host with staged := s.host.staged ++ [t.data] } }

/-- TLP_RECEIVE. -/
def execTlpReceive (p : Fin 2) (t : Tlp) (s : State) : Host.Outcome State Fault Refusal := .next (tlpReceive p.val t s)

/-- PCI_CONFIG_WRITE (R374, R364, R544). -/
def pciConfigWrite (f : Nat) (w : ConfigWrite) (s : State) : State :=
  if !(s.ctl f).ready then s
  else match w with
    | .memorySpace on =>
      let s1 := s.modCtl f (fun c => { c with mse := on })
      if f == 0 && !on then s1.closeWindow else s1
    | .vfEnable on =>
      if 2 ≤ f ∨ s.restricted then s
      else
        let s1 := s.modCtl f (fun c => { c with vfEnable := on })
        if (s.ctl f).vfEnable && !on then ((vfsOf f).filter (fun v => (s.ctl v).en)).foldl State.resetFn s1 else s1

/-- PCI_CONFIG_WRITE. -/
def execPciConfigWrite (f : Fin 128) (w : ConfigWrite) (s : State) : Host.Outcome State Fault Refusal :=
  .next (pciConfigWrite f.val w s)

/-- SETUP_WINDOW_OPEN (R374). -/
def execSetupWindowOpen (s : State) : Host.Outcome State Fault Refusal := .next s.tryOpenWindow

/-! ### NVMe-MI (12.5) -/

/-- One byte into a CRC-8 with polynomial 0x07 (the SMBus PEC). -/
def pecByte (c : Nat) (b : Byte) : Nat :=
  (List.range 8).foldl (fun r _ => if 128 ≤ r then (2 * r - 256) ^^^ 7 else 2 * r) (c ^^^ b.toNat)

/-- A block read's answer: the bytes and the PEC over the address, command and data bytes. -/
def pecAnswer (addr : Nat) (code : Byte) (data : List Byte) : List Byte :=
  let all := [BitVec.ofNat 8 (2 * addr), code, BitVec.ofNat 8 (2 * addr + 1)] ++ data
  data ++ [BitVec.ofNat 8 (all.foldl pecByte 0)]

/-- The composite temperature as the Basic Management Command codes it, from TJ. -/
def State.miTemp (s : State) : Nat :=
  let t := s.geti PWR_THERM_TJ
  if 126 < t then 0x7F else if t < -59 then 0xC4 else unsigned 8 t

/-- WUSED as a percentage of BUDGET, saturating at 255. -/
def State.percentUsed (s : State) : Nat :=
  let budget := s.get FLS_WEARCFG_BUDGET * 10 ^ 12
  let used := (s.get FLS_WUSED_LO_WUSED + 2 ^ 32 * s.get FLS_WUSED_HI_WUSED) * 2 ^ 20
  if budget = 0 then 255 else min 255 (used * 100 / budget)

/-- Status flags (Table 12-8): ready only while data service could be reached, functional outside Cul-de-sac mode, and the
ports' links. -/
def State.miFlags (s : State) : Nat :=
  let b (x : Bool) (v : Nat) : Nat := if x then v else 0
  0x93 + b (s.get PWR_START_STEP != 0 || s.restricted) 0x40 + b (s.get PWR_STATE_STATE != 5) 0x20
    + b (s.is (HST_PORT_UP 0)) 0x08 + b (s.is (HST_PORT_UP 1)) 0x04

/-- SMART warnings in inverted polarity: temperature above TWARN (bit 1). -/
def State.miWarnings (s : State) : Nat := if s.pwr.hotWarn then 0xFD else 0xFF

/-- NVME_MI_READ (R373, Table 12-8): no answer in deep standby. -/
def nvmeMiRead (r : SmbusRequest) (s : State) : State :=
  let put (t : State) (a : Option (List Byte)) : State := { t with host := { t.host with smbus := a } }
  if !s.is HST_MI_EN || r.addr.val != s.get HST_MI_ADDR || s.pwr.deep then put s none
  else if r.write || !r.pecOk then put (s.raise 14) none
  else if r.code = 0 then
    put s (some (pecAnswer r.addr.val r.code ([6, s.miFlags, s.miWarnings, s.miTemp, s.percentUsed, 0, 0].map (BitVec.ofNat 8))))
  else if r.code = 8 then
    put s (some (pecAnswer r.addr.val r.code ([22, Config.vendorId.extractLsb' 8 8, Config.vendorId.extractLsb' 0 8]
      ++ (List.finRange 20).map Config.serial)))
  else put (s.raise 14) none

/-- NVME_MI_READ. -/
def execNvmeMiRead (r : SmbusRequest) (s : State) : Host.Outcome State Fault Refusal := .next (nvmeMiRead r s)

end Sys2Proof.Machine
end

