-- ==== Sys2Proof/Machine/Crypto.lean ====
section
/-! DEFINITION. The published algorithms that the spec names: AES-256 and AES-256-XTS (R440, R301), SHA-256 and SHA-384
(R421), HMAC and the key derivation of R436, ECDSA P-384 verification (R446, R460), and fields GF(2^8) (R424). -/

namespace Sys2Proof.Machine

/-! ### GF(2^8) -/

/-- Product in GF(2^8) with a field polynomial of degree 8. -/
def gfMul (poly a b : Nat) : Nat :=
  ((List.range 8).foldl (fun (acc : Nat × Nat) i =>
    let y := 2 * acc.2
    (if b.testBit i then acc.1 ^^^ acc.2 else acc.1, if 256 ≤ y then y ^^^ poly else y)) (0, a)).1

/-- Inverse in GF(2^8): the 254th power; 0 for 0. -/
def gfInv (poly a : Nat) : Nat := (List.range 253).foldl (fun r _ => gfMul poly r a) a

/-! ### AES-256 (FIPS 197) -/

/-- Rotation of a byte to the left. -/
def rotByte (b k : Nat) : Nat := (b * 2 ^ k) % 256 ||| b / 2 ^ (8 - k)

/-- The substitution of one byte. -/
def subByte (b : Nat) : Nat :=
  let i := gfInv 0x11B b
  i ^^^ rotByte i 1 ^^^ rotByte i 2 ^^^ rotByte i 3 ^^^ rotByte i 4 ^^^ 0x63

/-- The inverse substitution of one byte. -/
def invSubByte (b : Nat) : Nat := gfInv 0x11B (rotByte b 1 ^^^ rotByte b 3 ^^^ rotByte b 6 ^^^ 0x05)

/-- The two substitutions as tables. -/
def sboxTable : Array Nat := ((List.range 256).map subByte).toArray
def invSboxTable : Array Nat := ((List.range 256).map invSubByte).toArray

/-- Key expansion: 60 words of four bytes. The most significant byte of a key is its first. -/
def aesKeys (key : BitVec 256) : List (List Nat) :=
  let bytes := (List.range 32).map (fun i => (key.toNat / 2 ^ (8 * (31 - i))) % 256)
  let first := (List.range 8).map (fun i => (List.range 4).map (fun j => bytes.getD (4 * i + j) 0))
  (List.range 52).foldl (fun ws k =>
    let i := k + 8
    let t := ws.getD (i - 1) []
    let u := if i % 8 = 0 then
        let r := (t.drop 1 ++ t.take 1).map (fun b => sboxTable.getD b 0)
        (r.getD 0 0 ^^^ 2 ^ (i / 8 - 1)) :: r.drop 1
      else if i % 8 = 4 then t.map (fun b => sboxTable.getD b 0) else t
    ws ++ [List.zipWith (· ^^^ ·) (ws.getD (i - 8) []) u]) first

/-- The round keys, 16 bytes each. -/
def aesRoundKeys (key : BitVec 256) : List (List Nat) :=
  let w := aesKeys key
  (List.range 15).map (fun r => ((w.drop (4 * r)).take 4).flatten)

/-- The bytes of a column-major state permuted by shifting rows. -/
def shiftRows (inv : Bool) (st : List Nat) : List Nat :=
  (List.range 16).map (fun i => st.getD ((i + (if inv then 12 else 4) * (i % 4)) % 16) 0)

/-- Mixing of the columns with the coefficients of one row. -/
def mixColumns (m : List Nat) (st : List Nat) : List Nat :=
  (List.range 16).map (fun i =>
    ((List.range 4).map (fun j => gfMul 0x11B (m.getD ((j + 4 - i % 4) % 4) 0) (st.getD (4 * (i / 4) + j) 0))).foldl (· ^^^ ·) 0)

/-- AES-256 encryption of one block. -/
def aesEncrypt (keys : List (List Nat)) (block : List Nat) : List Nat :=
  let st := List.zipWith (· ^^^ ·) block (keys.getD 0 [])
  (List.range 14).foldl (fun st r =>
    let a := shiftRows false (st.map (fun b => sboxTable.getD b 0))
    let b := if r = 13 then a else mixColumns [2, 3, 1, 1] a
    List.zipWith (· ^^^ ·) b (keys.getD (r + 1) [])) st

/-- AES-256 decryption of one block. -/
def aesDecrypt (keys : List (List Nat)) (block : List Nat) : List Nat :=
  (List.range 14).foldl (fun st r =>
    let a := List.zipWith (· ^^^ ·) st (keys.getD (14 - r) [])
    let b := if r = 0 then a else mixColumns [14, 11, 13, 9] a
    (shiftRows true b).map (fun x => invSboxTable.getD x 0)) block
  |> fun st => List.zipWith (· ^^^ ·) st (keys.getD 0 [])

/-! ### XTS (IEEE 1619) -/

/-- Blocks of 16 bytes, the tweak advancing by one doubling for each. -/
def xtsBlocks (f : List Nat → List Nat) : Nat → Nat → List Nat → List Nat
  | 0, _, _ => []
  | n + 1, t, bytes =>
    let tw := (List.range 16).map (fun i => (t / 2 ^ (8 * i)) % 256)
    let c := List.zipWith (· ^^^ ·) (f (List.zipWith (· ^^^ ·) (bytes.take 16) tw)) tw
    let t2 := 2 * t
    c ++ xtsBlocks f n (if 2 ^ 128 ≤ t2 then (t2 - 2 ^ 128) ^^^ 0x87 else t2) (bytes.drop 16)

/-- AES-256-XTS of a data unit of whole blocks under a 128-bit tweak; `dec` selects decryption. -/
def xts (dec : Bool) (k : XtsKey) (tweak : Nat) (bytes : List Byte) : List Byte :=
  let keys := aesRoundKeys k.k1
  let t := aesEncrypt (aesRoundKeys k.k2) ((List.range 16).map (fun i => (tweak / 2 ^ (8 * i)) % 256))
  let t0 := (List.range 16).foldl (fun n i => n + t.getD i 0 * 2 ^ (8 * i)) 0
  (xtsBlocks (if dec then aesDecrypt keys else aesEncrypt keys) (bytes.length / 16) t0 (bytes.map BitVec.toNat)).map
    (BitVec.ofNat 8)

/-! ### SHA-256 and SHA-384 (FIPS 180-4) -/

/-- The round constants of SHA-256 (FIPS 180-4). -/
def sha256K : List Nat :=
  [0x428a2f98, 0x71374491, 0xb5c0fbcf, 0xe9b5dba5, 0x3956c25b, 0x59f111f1, 0x923f82a4, 0xab1c5ed5,
   0xd807aa98, 0x12835b01, 0x243185be, 0x550c7dc3, 0x72be5d74, 0x80deb1fe, 0x9bdc06a7, 0xc19bf174,
   0xe49b69c1, 0xefbe4786, 0x0fc19dc6, 0x240ca1cc, 0x2de92c6f, 0x4a7484aa, 0x5cb0a9dc, 0x76f988da,
   0x983e5152, 0xa831c66d, 0xb00327c8, 0xbf597fc7, 0xc6e00bf3, 0xd5a79147, 0x06ca6351, 0x14292967]
  ++ [0x27b70a85, 0x2e1b2138, 0x4d2c6dfc, 0x53380d13, 0x650a7354, 0x766a0abb, 0x81c2c92e, 0x92722c85,
   0xa2bfe8a1, 0xa81a664b, 0xc24b8b70, 0xc76c51a3, 0xd192e819, 0xd6990624, 0xf40e3585, 0x106aa070,
   0x19a4c116, 0x1e376c08, 0x2748774c, 0x34b0bcb5, 0x391c0cb3, 0x4ed8aa4a, 0x5b9cca4f, 0x682e6ff3,
   0x748f82ee, 0x78a5636f, 0x84c87814, 0x8cc70208, 0x90befffa, 0xa4506ceb, 0xbef9a3f7, 0xc67178f2]

/-- The round constants of SHA-384 (FIPS 180-4). -/
def sha512K : List Nat :=
  [0x428a2f98d728ae22, 0x7137449123ef65cd, 0xb5c0fbcfec4d3b2f, 0xe9b5dba58189dbbc, 0x3956c25bf348b538,
   0x59f111f1b605d019, 0x923f82a4af194f9b, 0xab1c5ed5da6d8118, 0xd807aa98a3030242, 0x12835b0145706fbe,
   0x243185be4ee4b28c, 0x550c7dc3d5ffb4e2, 0x72be5d74f27b896f, 0x80deb1fe3b1696b1, 0x9bdc06a725c71235,
   0xc19bf174cf692694, 0xe49b69c19ef14ad2, 0xefbe4786384f25e3, 0x0fc19dc68b8cd5b5, 0x240ca1cc77ac9c65,
   0x2de92c6f592b0275, 0x4a7484aa6ea6e483, 0x5cb0a9dcbd41fbd4, 0x76f988da831153b5, 0x983e5152ee66dfab,
   0xa831c66d2db43210, 0xb00327c898fb213f, 0xbf597fc7beef0ee4, 0xc6e00bf33da88fc2, 0xd5a79147930aa725,
   0x06ca6351e003826f, 0x142929670a0e6e70, 0x27b70a8546d22ffc, 0x2e1b21385c26c926, 0x4d2c6dfc5ac42aed,
   0x53380d139d95b3df, 0x650a73548baf63de, 0x766a0abb3c77b2a8, 0x81c2c92e47edaee6, 0x92722c851482353b]
  ++ [0xa2bfe8a14cf10364, 0xa81a664bbc423001, 0xc24b8b70d0f89791, 0xc76c51a30654be30, 0xd192e819d6ef5218,
   0xd69906245565a910, 0xf40e35855771202a, 0x106aa07032bbd1b8, 0x19a4c116b8d2d0c8, 0x1e376c085141ab53,
   0x2748774cdf8eeb99, 0x34b0bcb5e19b48a8, 0x391c0cb3c5c95a63, 0x4ed8aa4ae3418acb, 0x5b9cca4f7763e373,
   0x682e6ff3d6b2b8a3, 0x748f82ee5defb2fc, 0x78a5636f43172f60, 0x84c87814a1f0ab72, 0x8cc702081a6439ec,
   0x90befffa23631e28, 0xa4506cebde82bde9, 0xbef9a3f7b2c67915, 0xc67178f2e372532b, 0xca273eceea26619c,
   0xd186b8c721c0c207, 0xeada7dd6cde0eb1e, 0xf57d4f7fee6ed178, 0x06f067aa72176fba, 0x0a637dc5a2c898a6,
   0x113f9804bef90dae, 0x1b710b35131c471b, 0x28db77f523047d84, 0x32caab7b40c72493, 0x3c9ebe0a15c9bebc,
   0x431d67c49c100d4c, 0x4cc5d4becb3e42b6, 0x597f299cfc657e2a, 0x5fcb6fab3ad6faec, 0x6c44198c4a475817]

/-- The initial hash value of SHA-256. -/
def sha256H : List Nat :=
  [0x6a09e667, 0xbb67ae85, 0x3c6ef372, 0xa54ff53a, 0x510e527f, 0x9b05688c, 0x1f83d9ab, 0x5be0cd19]

/-- The initial hash value of SHA-384. -/
def sha384H : List Nat :=
  [0xcbbb9d5dc1059ed8, 0x629a292a367cd507, 0x9159015a3070dd17, 0x152fecd8f70e5939,
   0x67332667ffc00b31, 0x8eb44a8768581511, 0xdb0c2e0d64f98fa7, 0x47b5481dbefa4fa4]

/-- A number as `n` bytes, most significant first. -/
def beNum (n v : Nat) : List Byte := (leBytes n v).reverse

/-- The number that bytes spell, most significant first. -/
def ofBe (bs : List Byte) : Nat := bs.foldl (fun n b => 256 * n + b.toNat) 0

/-- The parameters in which the two hashes differ: word width, block bytes, rounds' constants, and the rotations of the
message schedule and of the rounds. -/
structure ShaParams where
  w : Nat
  k : List Nat
  s0 : Nat × Nat × Nat
  s1 : Nat × Nat × Nat
  b0 : Nat × Nat × Nat
  b1 : Nat × Nat × Nat

/-- SHA-256's parameters, and SHA-384's. -/
def sha256P : ShaParams := ⟨32, sha256K, (7, 18, 3), (17, 19, 10), (2, 13, 22), (6, 11, 25)⟩
def sha384P : ShaParams := ⟨64, sha512K, (1, 8, 7), (19, 61, 6), (28, 34, 39), (14, 18, 41)⟩

/-- Rotation of a `w`-bit word to the right. -/
def rotR (w x k : Nat) : Nat := x / 2 ^ k ||| (x % 2 ^ k) * 2 ^ (w - k)

/-- A schedule function: two rotations and a shift. -/
def smallSigma (w : Nat) (r : Nat × Nat × Nat) (x : Nat) : Nat := rotR w x r.1 ^^^ rotR w x r.2.1 ^^^ x / 2 ^ r.2.2

/-- A round function: three rotations. -/
def bigSigma (w : Nat) (r : Nat × Nat × Nat) (x : Nat) : Nat := rotR w x r.1 ^^^ rotR w x r.2.1 ^^^ rotR w x r.2.2

/-- The message schedule of one block of 16 words. -/
def shaSchedule (p : ShaParams) (ws : List Nat) : Array Nat :=
  (List.range (p.k.length - 16)).foldl (fun (a : Array Nat) i =>
    a.push ((a.getD i 0 + smallSigma p.w p.s0 (a.getD (i + 1) 0) + a.getD (i + 9) 0 + smallSigma p.w p.s1 (a.getD (i + 14) 0))
      % 2 ^ p.w)) ws.toArray

/-- One round on the eight working words. -/
def shaRound (p : ShaParams) (v : List Nat) (kw : Nat × Nat) : List Nat :=
  match v with
  | [a, b, c, d, e, f, g, h] =>
    let ch := (e &&& f) ^^^ ((2 ^ p.w - 1 - e) &&& g)
    let maj := (a &&& b) ^^^ (a &&& c) ^^^ (b &&& c)
    let t1 := h + bigSigma p.w p.b1 e + ch + kw.1 + kw.2
    let t2 := bigSigma p.w p.b0 a + maj
    [(t1 + t2) % 2 ^ p.w, a, b, c, (d + t1) % 2 ^ p.w, e, f, g]
  | _ => v

/-- One block into the hash value. -/
def shaBlock (p : ShaParams) (h : List Nat) (block : List Byte) : List Nat :=
  let n := p.w / 8
  let ws := (List.range 16).map (fun i => ofBe ((block.drop (n * i)).take n))
  List.zipWith (fun x y => (x + y) % 2 ^ p.w) h ((p.k.zip (shaSchedule p ws).toList).foldl (shaRound p) h)

/-- Blocks in turn (`n` of them). -/
def shaBlocks (p : ShaParams) : Nat → List Nat → List Byte → List Nat
  | 0, h, _ => h
  | n + 1, h, bs => shaBlocks p n (shaBlock p h (bs.take (2 * p.w))) (bs.drop (2 * p.w))

/-- Padding and hashing of a message; `out` bytes are returned. -/
def sha (p : ShaParams) (h0 : List Nat) (out : Nat) (m : List Byte) : List Byte :=
  let blk := 2 * p.w
  let len := p.w / 4
  let zeros := (2 * blk - (m.length + 1 + len) % blk) % blk
  let padded := m ++ [0x80] ++ List.replicate zeros 0 ++ beNum len (8 * m.length)
  ((shaBlocks p (padded.length / blk) h0 padded).flatMap (beNum (p.w / 8))).take out

/-- SHA-256 and SHA-384. -/
def sha256 (m : List Byte) : List Byte := sha sha256P sha256H 32 m
def sha384 (m : List Byte) : List Byte := sha sha384P sha384H 48 m

/-! ### HMAC and key derivation (R436) -/

/-- HMAC-SHA-384. -/
def hmac384 (key m : List Byte) : List Byte :=
  let k := (if 128 < key.length then sha384 key else key)
  let k0 := k ++ List.replicate (128 - k.length) 0
  sha384 (k0.map (· ^^^ 0x5C) ++ sha384 (k0.map (· ^^^ 0x36) ++ m))

/-- The counter-mode KDF of SP 800-108: `n` bytes under a label. -/
def kdf108 (key label : List Byte) (n : Nat) : List Byte :=
  ((List.range (ceilDiv n 48)).flatMap (fun i => hmac384 key (beNum 4 (i + 1) ++ label ++ [0] ++ beNum 4 (8 * n)))).take n

/-! ### ECDSA over P-384 (FIPS 186-5) -/

/-- The field prime, the group order, the coefficient b and the base point of P-384. -/
def p384p : Nat := 2 ^ 384 - 2 ^ 128 - 2 ^ 96 + 2 ^ 32 - 1
def p384n : Nat := 0xffffffffffffffffffffffffffffffffffffffffffffffffc7634d81f4372ddf581a0db248b0a77aecec196accc52973
def p384b : Nat := 0xb3312fa7e23ee7e4988e056be3f82d19181d9c6efe8141120314088f5013875ac656398d8a2ed19d2a85c8edd3ec2aef
def p384g : Nat × Nat :=
  (0xaa87ca22be8b05378eb1c71ef320ad746e1d3b628ba79b9859f741e082542a385502f25dbf55296c3a545e3872760ab7,
   0x3617de4a96262c6f5d9e98bf9292dc29f8f41dbd289a147ce9da3113b5f0b8c00a60b1ce1d7e819d7a431d7c90ea0e5f)

/-- Power modulo `m`, over the low `bits` bits of the exponent. -/
def powMod (m : Nat) : Nat → Nat → Nat → Nat
  | 0, _, _ => 1 % m
  | bits + 1, b, e =>
    let r := powMod m bits (b * b % m) (e / 2)
    if e % 2 = 1 then r * b % m else r

/-- Inverse modulo a prime of 384 bits. -/
def invMod (m a : Nat) : Nat := powMod m 384 (a % m) (m - 2)

/-- A point in Jacobian coordinates (x/z², y/z³); z = 0 is the point at infinity. -/
abbrev EcPoint := Nat × Nat × Nat

/-- Twice a point; the curve's coefficient a is −3. -/
def ecDouble : EcPoint → EcPoint
  | (x, y, z) =>
    let m := p384p
    let yy := y * y % m
    let zz := z * z % m
    let s := 4 * x * yy % m
    let w := 3 * (x + m - zz) * (x + zz) % m
    let x3 := (w * w + 2 * (m - s)) % m
    (x3, (w * (s + m - x3) + 8 * (m - yy * yy % m)) % m, 2 * y * z % m)

/-- Sum of two points. -/
def ecAdd : EcPoint → EcPoint → EcPoint
  | (x1, y1, z1), (x2, y2, z2) =>
    let m := p384p
    if z1 = 0 then (x2, y2, z2)
    else if z2 = 0 then (x1, y1, z1)
    else
      let u1 := x1 * (z2 * z2 % m) % m
      let u2 := x2 * (z1 * z1 % m) % m
      let s1 := y1 * (z2 * z2 % m * z2 % m) % m
      let s2 := y2 * (z1 * z1 % m * z1 % m) % m
      if u1 = u2 then (if s1 = s2 then ecDouble (x1, y1, z1) else (1, 1, 0))
      else
        let h := (u2 + m - u1) % m
        let r := (s2 + m - s1) % m
        let hh := h * h % m
        let c := h * hh % m
        let v := u1 * hh % m
        let x3 := (r * r + (m - c) + 2 * (m - v)) % m
        (x3, (r * (v + m - x3) + s1 * (m - c)) % m, h * z1 % m * z2 % m)

/-- The sum of a multiple of `p` and a multiple of `q`, bit by bit. -/
def ecMul2 (k l : Nat) (p q : EcPoint) : EcPoint :=
  let pq := ecAdd p q
  (List.range 384).foldl (fun r i => match k.testBit (383 - i), l.testBit (383 - i) with
    | true, true => ecAdd (ecDouble r) pq
    | true, false => ecAdd (ecDouble r) p
    | false, true => ecAdd (ecDouble r) q
    | false, false => ecDouble r) (1, 1, 0)

/-- The affine x-coordinate of a point that is not at infinity. -/
def ecX (p : EcPoint) : Nat := p.1 * invMod p384p (p.2.2 * p.2.2 % p384p) % p384p

/-- A SEC1 uncompressed public key of 97 bytes as a point of the curve. -/
def ecPoint (pub : List Byte) : Option (Nat × Nat) :=
  let x := ofBe ((pub.drop 1).take 48)
  let y := ofBe ((pub.drop 49).take 48)
  if pub.length = 97 ∧ pub.head? = some 4 ∧ x < p384p ∧ y < p384p
      ∧ y * y % p384p = (x * x * x + (p384p - 3) * x + p384b) % p384p then some (x, y) else none

/-- A signature (r then s, 48 bytes each) over the SHA-384 of a message verifies under a public key. -/
def ecdsaVerify (pub msg sig : List Byte) : Bool :=
  let r := ofBe (sig.take 48)
  let sv := ofBe ((sig.drop 48).take 48)
  match ecPoint pub with
  | none => false
  | some q =>
    if sig.length = 96 ∧ 0 < r ∧ r < p384n ∧ 0 < sv ∧ sv < p384n then
      let w := invMod p384n sv
      let e := ofBe (sha384 msg)
      let p := ecMul2 (e * w % p384n) (r * w % p384n) (p384g.1, p384g.2, 1) (q.1, q.2, 1)
      p.2.2 != 0 && ecX p % p384n == r
    else false

end Sys2Proof.Machine
end

