-- ==== Sys2Proof/Machine/Images.lean ====
section
/-! DEFINITION. Image envelopes, verification, measurement, anti-rollback floors and manifests (spec 15.3, 15.4 and
20.4). -/

namespace Sys2Proof.Machine

/-! ### Envelopes (Table 15-4) -/

/-- `n` bytes of the envelope from byte `lo`, and the little-endian number they spell. -/
def Image.bytes (im : Image) (lo n : Nat) : List Byte := (im.env.drop lo).take n
def Image.num (im : Image) (lo n : Nat) : Nat := ofLe (im.bytes lo n)

def Image.magic (im : Image) : Nat := im.num 0 4
/-- CLASS: 0 to 5 for CF, AM, SV, SP, AR and OM; 6 for a manifest. -/
def Image.cls (im : Image) : Nat := im.num 4 1
def Image.signer (im : Image) : Nat := im.num 5 1
def Image.root (im : Image) : Nat := im.num 6 1
def Image.svn (im : Image) : Nat := im.num 7 1
def Image.ifver (im : Image) : Nat := im.num 8 4
def Image.build (im : Image) : Nat := im.num 12 4
def Image.digest (im : Image) : List Byte := im.bytes 24 48
def Image.pubkey (im : Image) : List Byte := im.bytes 72 97
/-- FLAGS.ADVANCE. -/
def Image.advance (im : Image) : Bool := im.num 169 1 % 2 == 1
def Image.sig (im : Image) : List Byte := im.bytes 176 96

/-- Successive images in a run of bytes: an envelope and a body of its LENGTH, again and again. -/
def parseImages : Nat → List Byte → Option (List Image)
  | 0, bs => if bs.isEmpty then some [] else none
  | k + 1, bs =>
    if bs.isEmpty then some []
    else
      let im : Image := ⟨bs.take 512, (bs.drop 512).take (ofLe ((bs.drop 16).take 8))⟩
      if bs.length < 512 + im.num 16 8 then none
      else (parseImages k (bs.drop (512 + im.num 16 8))).map (fun rest => im :: rest)

/-! ### Manifest bodies (Table 20-4) -/

/-- An entry of a combination. -/
structure ComboEntry where
  digest : List Byte
  svn : Nat
  ifver : Nat
  deriving DecidableEq, Repr

/-- NCOMB, from 1 to 8. -/
def Image.ncomb (im : Image) : Nat := min 8 (ofLe (im.body.take 2))

/-- Entry of class `k` of combination `c`. -/
def Image.entry (im : Image) (c k : Nat) : ComboEntry :=
  let b := im.body.drop (16 + 352 * c + 56 * k)
  ⟨b.take 48, ofLe ((b.drop 48).take 1), ofLe ((b.drop 52).take 4)⟩

/-- The all-zero digest: no OM. -/
def ComboEntry.none? (e : ComboEntry) : Bool := e.digest == List.replicate 48 0

/-- The digests that a manifest names. -/
def Image.names (im : Image) : List (List Byte) :=
  (List.range im.ncomb).flatMap (fun c => (List.range 6).map (fun k => (im.entry c k).digest))

/-! ### Verification (R447) -/

/-- The hash that a root slot verifies against: filled and unrevoked vendor roots (signer 0) and owner slots (signer 1);
none before CLAIMED verifies an owner's image. -/
def State.rootHash (s : State) (signer k : Nat) : Option (List Byte) :=
  if h : k < 4 then
    if signer = 0 then
      if bitsOf (s.get TGT_ROOT_VENREV) k 1 = 1 then none else some (Config.vendorRoot ⟨k, h⟩)
    else if bitsOf (s.get TGT_ROOT_OWNVALID) k 1 = 1 ∧ bitsOf (s.get TGT_ROOT_OWNREV) k 1 = 0 ∧ 2 ≤ s.get TGT_STAT_LIFE then
      (s.tgt.owners.getD k none)
    else none
  else none

/-- The signer that Table 15-5 requires of a class. -/
def requiredSigner (cls : Nat) : Nat := if cls = 0 ∨ cls = 1 ∨ cls = 4 then 0 else 1

/-- The anti-rollback floor of a class (R449). -/
def State.floor (s : State) (cls : Nat) : Nat := s.get (TGT_SVN_FLOOR cls)

/-- Step 4 of R447. -/
def State.svnOk (s : State) (im : Image) : Bool :=
  if im.cls = 6 then
    (List.range im.ncomb).all (fun c => (List.range 6).all (fun k =>
      (im.entry c k).none? || decide (s.floor k ≤ (im.entry c k).svn)))
  else decide (s.floor im.cls ≤ im.svn)

/-- The first step of R447 that fails; 0 when the image verifies. -/
def State.verifyStep (s : State) (im : Image) : Nat :=
  if im.env.length ≠ 512 ∨ im.magic ≠ 0x4D495842 ∨ 6 < im.cls ∨ im.num 170 6 ≠ 0 ∨ im.num 272 240 ≠ 0 then 1
  else if im.signer ≠ requiredSigner im.cls ∨ s.rootHash im.signer im.root ≠ some (sha384 im.pubkey) then 2
  else if !ecdsaVerify im.pubkey (im.bytes 0 176) im.sig then 3
  else if !s.svnOk im then 4
  else if sha384 im.body ≠ im.digest then 5
  else 0

/-- The Tollgate verifies an image: a refusal raises source 999 at step 4 and 998 otherwise (R447). -/
def State.verify (s : State) (im : Image) : Bool × State :=
  match s.verifyStep im with
  | 0 => (true, s)
  | 4 => (false, s.raise 999)
  | _ => (false, s.raise 998)

/-! ### Measurement (R448) -/

/-- MR := SHA-384(MR ‖ value). -/
def State.extend (s : State) (k : Nat) (v : List Byte) : State :=
  { s with tgt := { s.tgt with mr := s.tgt.mr.modify k (fun m => sha384 (m ++ v)) } }

/-- The security state record: LIFE, the debug level, the six floors and the root slot states. -/
def State.securityRecord (s : State) : List Byte :=
  ([s.get TGT_STAT_LIFE, s.get TGT_STAT_DBG] ++ (List.range 6).map s.floor
    ++ [s.get TGT_ROOT_OWNVALID, s.get TGT_ROOT_OWNREV, s.get TGT_ROOT_VENREV]).map (BitVec.ofNat 8)

/-- MR8 receives the security state record (R448). -/
def State.measureSecurity (s : State) : State := s.extend 8 s.securityRecord

/-- An image is measured and recorded as loaded: MR1 to MR6 by class, MR7 for the manifest in force;
ARC_VER takes an AR image's versions (R434). -/
def State.measure (s : State) (im : Image) : State :=
  let s1 := s.extend (im.cls + 1) im.digest
  let s2 := { s1 with tgt := { s1.tgt with loaded := s1.tgt.loaded.set im.cls (some ⟨im.digest, im.svn, im.ifver, im.build⟩) } }
  let s3 := if im.cls = 4 then (s2.put ARC_VER_IF im.ifver).put ARC_VER_BUILD im.build else s2
  if im.cls < 6 then s3.put (TGT_SVN_LOADED im.cls) im.svn else s3

/-! ### Floors (R449) -/

/-- Fuse steps are taken one at a time up to a target, each raising source 1000; `bad` says how many succeed before one
fails, with source 1016. A change is a change of the security state record. -/
def State.advanceFloor (s : State) (cls target : Nat) (bad : Option Nat) : State :=
  let n := target - s.floor cls
  let k := match bad with
    | some b => min b n
    | none => n
  let s1 := (List.range k).foldl (fun t _ => ((t.put (TGT_SVN_FLOOR cls) (t.floor cls + 1)).raise 1000).measureSecurity) s
  s1.raiseIf (decide (k < n)) 1016

/-! ### Combinations (R542, R543) -/

/-- The image of a digest. -/
def State.place? (s : State) (d : List Byte) : Option Image := s.pwr.places.find? (fun im => im.digest == d)

/-- An entry's image is present, verifies, and has its SVN and IFVER (R542). -/
def State.entryOk (s : State) (k : Nat) (e : ComboEntry) : Bool :=
  if k = 5 ∧ e.none? then true
  else match s.place? e.digest with
    | some im => im.cls == k && s.verifyStep im == 0 && im.svn == e.svn && im.ifver == e.ifver
    | none => false

/-- The first combination of a manifest all of whose entries qualify. -/
def State.chooseCombo (s : State) (m : Image) : Option Nat :=
  (List.range m.ncomb).find? (fun c => (List.range 6).all (fun k => s.entryOk k (m.entry c k)))

/-- A manifest slot: slot A or B. -/
def State.slotOf (s : State) (b : Bool) : Option Image := if b then s.pwr.slotB else s.pwr.slotA

/-- A manifest becomes last-known-good (R543): LKG := ACTIVE := its slot, and floors advance for the images that the
combination in force lists with ADVANCE = 1 (R449). -/
def State.makeLkg (s : State) (b : Bool) (bad : Option Nat) : State :=
  let s1 := ({ s with pwr := { s.pwr with active := b, lkg := b } }.putb PWR_IMG_ACTIVE b).putb PWR_IMG_LKG b
  match s.slotOf b with
  | none => s1
  | some m => (List.range 6).foldl (fun t k => match t.place? (m.entry (s.get PWR_IMG_COMB) k).digest with
      | some im => if im.advance && decide (t.floor k < im.svn) then t.advanceFloor k im.svn bad else t
      | none => t) s1

end Sys2Proof.Machine
end

