-- ==== Sys2Proof/Machine/Protection.lean ====
section
/-! DEFINITION. Protection information (R368 to R370): guards, fields, checks. -/

namespace Sys2Proof.Machine

/-- One byte into an unreflected CRC-16 with polynomial 0x8BB7. -/
def guard16Byte (c : Nat) (b : Byte) : Nat :=
  (List.range 8).foldl (fun r _ => if 0x8000 ≤ r then ((2 * r) % 65536) ^^^ 0x8BB7 else 2 * r) (c ^^^ (b.toNat * 256))

/-- The 16-bit guard (R368). -/
def guard16 (bs : List Byte) : Nat := bs.foldl guard16Byte 0

/-- One byte into the reflected CRC-64 with polynomial 0xAD93_D235_94C9_3659. -/
def guard64Byte (c : Nat) (b : Byte) : Nat :=
  (List.range 8).foldl (fun r _ => if r % 2 = 1 then (r / 2) ^^^ 0x9A6C9329AC4BC9B5 else r / 2) (c ^^^ b.toNat)

/-- The 64-bit guard (R368). -/
def guard64 (bs : List Byte) : Nat := bs.foldl guard64Byte 0xFFFFFFFFFFFFFFFF ^^^ 0xFFFFFFFFFFFFFFFF

/-- Widths in bytes of guard, application tag and reference tag of an LBA format (Table 12-7). -/
def piWidths (lbaf : Nat) : Nat × Nat × Nat := if lbaf = 1 then (2, 2, 4) else if lbaf = 2 then (8, 2, 6) else (0, 0, 0)

/-- The guard of a format. -/
def piGuard (lbaf : Nat) (data : List Byte) : Nat := if lbaf = 1 then guard16 data else guard64 data

/-- The 16 metadata bytes with the given fields, most significant byte first, zero beyond the format's length. -/
def piBytes (lbaf guard app ref : Nat) : List Byte :=
  let (g, a, r) := piWidths lbaf
  let b := beNum g guard ++ beNum a app ++ beNum r ref
  b ++ List.replicate (16 - b.length) 0

/-- The fields of the metadata bytes. -/
def piFields (lbaf : Nat) (md : List Byte) : Nat × Nat × Nat :=
  let (g, a, r) := piWidths lbaf
  (ofBe (md.take g), ofBe ((md.drop g).take a), ofBe ((md.drop (g + a)).take r))

/-- All ones of a reference tag. -/
def refOnes (lbaf : Nat) : Nat := 2 ^ (8 * (piWidths lbaf).2.2) - 1

/-- The reference tag of a block under Type 1 (R369): the low bits of its LBA. -/
def refOf (lbaf lba : Nat) : Nat := lba % 2 ^ (8 * (piWidths lbaf).2.2)

/-- Metadata of a deallocated or unwritten block (R370). -/
def unwrittenMeta (lbaf : Nat) : List Byte :=
  if lbaf = 1 ∨ lbaf = 2 then piBytes lbaf (piGuard lbaf (List.replicate 4096 0)) 0xFFFF (refOnes lbaf) else List.replicate 16 0

/-- The checks of R369: PRCHK selects guard (bit 2), application tag (bit 1) and reference tag (bit 0). The status code
of the first that fails, if any. -/
def piCheck (lbaf typ prchk app mask lba : Nat) (data md : List Byte) : Option Nat :=
  let (g, a, r) := piFields lbaf md
  if lbaf = 0 ∨ typ = 0 then none
  else if a = 0xFFFF ∧ (typ = 1 ∨ r = refOnes lbaf) then none
  else if prchk.testBit 2 && g != piGuard lbaf data then some 0x82
  else if prchk.testBit 1 && (a &&& mask) != (app &&& mask) then some 0x83
  else if prchk.testBit 0 && typ == 1 && r != refOf lbaf lba then some 0x84
  else none

end Sys2Proof.Machine
end

