-- ==== Sys2Proof/Machine/Roundabout.lean ====
section
/-! DEFINITION. Doorbells, controllers' enabling, reset and shutdown, fetch arbitration, tags and the posting of
completions (spec 13). -/

namespace Sys2Proof.Machine

/-! ### Doorbells (R378) -/

/-- A doorbell write is discarded: source 143 and the asynchronous event (0: Invalid Doorbell Register, 1: Invalid Doorbell
Write Value). -/
def State.badDoorbell (s : State) (f info : Nat) : State := (s.asyncEvent f 0 info).raise 143

/-- SUBMISSION_QUEUE_DOORBELL. -/
def sqDoorbell (f qid v : Nat) (s : State) : State :=
  match (s.ctl f).sqs.find? (fun q => q.qid == qid) with
  | none => s.badDoorbell f 0
  | some q =>
    if q.size ≤ v then s.badDoorbell f 1
    else s.modCtl f (fun c => { c with sqs := c.sqs.map (fun x => if x.qid = qid then { x with tail := v } else x) })

/-- SUBMISSION_QUEUE_DOORBELL. -/
def execSubmissionQueueDoorbell (f : Fin 128) (qid : Fin 4096) (v : Nat) (s : State) : Host.Outcome State Fault Refusal :=
  .next (sqDoorbell f.val qid.val v s)

/-- COMPLETION_QUEUE_DOORBELL: freed slots end the full episode (R379). -/
def cqDoorbell (f qid v : Nat) (s : State) : State :=
  match (s.ctl f).cqs.find? (fun q => q.qid == qid) with
  | none => s.badDoorbell f 0
  | some q =>
    if q.size ≤ v ∨ (q.tail + q.size - q.head) % q.size < (v + q.size - q.head) % q.size then s.badDoorbell f 1
    else s.modCtl f (fun c => { c with cqs := c.cqs.map (fun x => if x.qid = qid then
      { x with head := v, full := if v = x.head then x.full else false } else x) })

/-- COMPLETION_QUEUE_DOORBELL. -/
def execCompletionQueueDoorbell (f : Fin 128) (qid : Fin 4096) (v : Nat) (s : State) : Host.Outcome State Fault Refusal :=
  .next (cqDoorbell f.val qid.val v s)

/-! ### Controllers (R363, R365, R404, R405) -/

/-- CONTROLLER_ENABLE: IOQ as applied comes into force, and CSTS.RDY = 1; a disabled VF, and every controller whose keys
were zeroised, shows CFS = 1 instead (R365, R461). -/
def controllerEnable (f ams asq acq : Nat) (s : State) : State :=
  let c := s.ctl f
  if c.ccEn || !c.ready then s
  else if (decide (2 ≤ f) && !c.en) || s.tgt.debugOpen then s.modCtl f (fun c => { c with ccEn := true, cfs := true })
  else s.modCtl f (fun c => { c with
    ccEn := true, ams := ams, ioq := c.apIoq, rdy := true, shst := 0
    sqs := [⟨0, clampNat 2 4096 asq, 0, 0, 0, 0⟩], cqs := [⟨0, clampNat 2 4096 acq, 0, 0, 0, [], false⟩] })

/-- CONTROLLER_ENABLE. -/
def execControllerEnable (f : Fin 128) (ams : Fin 8) (asq acq : Nat) (s : State) : Host.Outcome State Fault Refusal :=
  .next (controllerEnable f.val ams.val asq acq s)

/-- CONTROLLER_RESET. -/
def execControllerReset (f : Fin 128) (s : State) : Host.Outcome State Fault Refusal :=
  .next (if (s.ctl f.val).ccEn then s.resetCtl f.val else s)

/-- CONTROLLER_SHUTDOWN (R405): fetching stops; once the fetched commands have completed a drain is requested, and when it
ends SHST = 10b. A normal and an abrupt notification act alike. -/
def controllerShutdown (f : Nat) (s : State) : State :=
  if !(s.ctl f).ccEn || (s.ctl f).shst != 0 then s
  else (s.modCtl f (fun c => { c with shst := 1, shutdown := some none })).shutdownStep f

/-- CONTROLLER_SHUTDOWN. -/
def execControllerShutdown (f : Fin 128) (_abrupt : Bool) (s : State) : Host.Outcome State Fault Refusal :=
  .next (controllerShutdown f.val s)

/-! ### Fetch arbitration (13.2, 13.3) -/

/-- Tags not held. -/
def State.freeTags (s : State) : Nat := 16384 - s.rbt.cmds.length

/-- The lowest free tag. -/
def State.newTag (s : State) : Nat :=
  ((List.range (s.rbt.cmds.length + 1)).find? (fun t => !s.rbt.cmds.any (fun c => c.tag == t))).getD 0

/-- An urgent queue: priority Urgent while CC.AMS selects weighted round robin with urgent class (13.2). -/
def sqUrgent (c : Controller) (q : SubQueue) : Bool := q.qid != 0 && c.ams == 1 && q.prio == 0

/-- Fetching has stopped for every controller: on a power-loss signal or PORST_N, or in a debug unlock (R461, R406). -/
def State.fetchStopped (s : State) : Bool := s.sqr.lossHold || s.tgt.debugOpen || s.tgt.unlock.isSome || s.pwr.porstLow

/-- A completion queue is full (R379). -/
def cqFull (q : CompQueue) : Bool := decide ((q.tail + 1) % q.size = q.head)

/-- A submission queue is ready but for tags (R380). -/
def State.sqOpen (s : State) (f : Nat) (c : Controller) (q : SubQueue) : Bool :=
  q.head != q.tail && c.ccEn && !c.pp && c.shst == 0 && !c.cfs && (q.qid == 0 || c.rdy)
  && (match c.cqs.find? (fun x => x.qid == q.cq) with
    | some x => !cqFull x && x.waiting.isEmpty
    | none => false)
  && !s.fetchStopped && decide (f < 128)

/-- Queues of a class that are ready but for tags: class 2 admin, 1 urgent, 0 normal; controller and queue. -/
def State.openQueues (s : State) (cls : Nat) : List (Nat × SubQueue) :=
  s.host.fns.flatMap (fun fc => (fc.2.sqs.filter (fun q =>
    (if q.qid == 0 then 2 else if sqUrgent fc.2 q then 1 else 0) == cls && s.sqOpen fc.1 fc.2 q)).map (fun q => (fc.1, q)))

/-- The next of a list in index order after `last`, wrapping. -/
def nextAfter {α : Type} (key : α → Nat) (last : Nat) (xs : List α) : Option α :=
  let pick (ys : List α) : Option α := ys.foldl (fun b y => match b with
    | none => some y
    | some x => if key y < key x then some y else some x) none
  match pick (xs.filter (fun x => decide (last < key x))) with
  | some x => some x
  | none => pick xs

/-- The weight of a controller: 0 is taken as 1 (R381). -/
def State.cw (s : State) (f : Nat) : Nat := orOne (s.get (RBT_CW_CW f))

/-- The weight of a class under weighted round robin: the Arbitration feature's High, Medium and Low weights, plus one. -/
def wrrWeight (c : Controller) (cls : Nat) : Nat := bitsOf (c.feat 1) (32 - 8 * cls) 8 + 1

/-- Commands that a queue may send in a burst: 2 to the power AB; AB = 7 has no limit. -/
def burstOf (c : Controller) : Nat := if bitsOf (c.feat 1) 0 3 = 7 then 2 ^ 32 else 2 ^ bitsOf (c.feat 1) 0 3

/-- Round robin among queues, staying with the last one served while its burst lasts. -/
def rrPick (c : Controller) (qs : List SubQueue) : Option SubQueue :=
  match qs.find? (fun q => q.qid == c.lastSq && decide (0 < c.burst)) with
  | some q => some q
  | none => nextAfter SubQueue.qid c.lastSq qs

/-- The weighted class that takes its turn: the one in turn while its weight lasts, else the next with a ready queue. -/
def wrrTurn (c : Controller) (qs : List SubQueue) : Nat × Nat :=
  let has (k : Nat) : Bool := qs.any (fun q => clampNat 1 3 q.prio == k)
  if has c.wrrClass && decide (0 < c.wrrLeft) then (c.wrrClass, c.wrrLeft)
  else match [c.wrrClass % 3 + 1, (c.wrrClass + 1) % 3 + 1, (c.wrrClass + 2) % 3 + 1].find? has with
    | some k => (k, wrrWeight c k)
    | none => (c.wrrClass, c.wrrLeft)

/-- The queue that a controller's own arbitration selects among its ready normal queues (R382), and the controller after
the choice. -/
def ownPick (c : Controller) (qs : List SubQueue) : Option (SubQueue × Controller) :=
  let after (c1 : Controller) (q : SubQueue) : Controller :=
    { c1 with lastSq := q.qid, burst := if q.qid = c.lastSq ∧ 0 < c.burst then c.burst - 1 else burstOf c - 1 }
  if c.ams = 1 then
    let (k, left) := wrrTurn c qs
    (rrPick c (qs.filter (fun q => clampNat 1 3 q.prio == k))).map (fun q =>
      (q, after { c with wrrClass := k, wrrLeft := left - 1 } q))
  else (rrPick c qs).map (fun q => (q, after c q))

/-- The cost of a command (R381): 64 KiB units of a Read, Write or Verify; 1 for any other. -/
def fetchCost (admin : Bool) (e : Sqe) : Nat :=
  if !admin && [1, 2, 0xC].contains e.opcode then max 1 (ceilDiv (16 * 4096 * (bitsOf e.c12 0 16 + 1)) 1048576) else 1

/-- The queue from which the Roundabout fetches (R381, R390): controller, queue, class, and the state after the choice
(credits and turns). -/
def State.choose (s : State) (cost : Sqe → Nat) (e : Sqe) : Option (Nat × SubQueue × Nat × State) :=
  let free := s.freeTags
  let admin := s.openQueues 2
  let urgent := s.openQueues 1
  let normal := s.openQueues 0
  if free = 0 then none
  else match nextAfter Prod.fst s.rbt.lastAdmin admin with
    | some (f, q) => some (f, q, 2, { s with rbt := { s.rbt with lastAdmin := f } })
    | none =>
      match nextAfter (fun x => x.1 * 4096 + x.2.qid) (s.rbt.lastUrgent.1 * 4096 + s.rbt.lastUrgent.2) urgent with
      | some (f, q) => some (f, q, 1, { s with rbt := { s.rbt with lastUrgent := (f, q.qid) } })
      | none =>
        if free ≤ 256 then none
        else
          let cred (f : Nat) : Int := KMap.get (fun _ => 0) s.rbt.credit f
          let stay := decide (0 < cred s.rbt.cur) && normal.any (fun x => x.1 == s.rbt.cur)
          match (if stay then some s.rbt.cur else (nextAfter Prod.fst s.rbt.cur normal).map Prod.fst) with
          | none => none
          | some c =>
            let cr := if stay then cred c else min (cred c) 0 + (s.cw c : Int)
            match ownPick (s.ctl c) ((normal.filter (fun x => x.1 == c)).map Prod.snd) with
            | none => none
            | some (q, k) =>
              some (c, q, 0, { s.modCtl c (fun _ => k) with rbt := { s.rbt with
                cur := c, credit := KMap.set (fun _ => 0) s.rbt.credit c (cr - (cost e : Int)) } })

/-- Episodes in which fetching is passed over for want of tags (R390, R391). -/
def State.tagEpisodes (s : State) : State :=
  let normal := !(s.openQueues 0).isEmpty
  let any := normal || !(s.openQueues 1).isEmpty || !(s.openQueues 2).isEmpty
  let s1 := if normal && decide (s.freeTags ≤ 256) && !s.rbt.tagEp then
      ({ s with rbt := { s.rbt with tagEp := true, log := s.rbt.log.modify 0 (· + 1) } }.bump RBT_CNT_EPISODES).raise 140 else s
  if any && s.freeTags == 0 && !s1.rbt.noTagEp then
    ({ s1 with rbt := { s1.rbt with noTagEp := true, log := s1.rbt.log.modify 1 (· + 1) } }.bump RBT_CNT_NOTAG).raise 141
  else s1

/-- Admin opcodes that a VF may use, and those that Cul-de-sac mode serves (Table 13-4). -/
def vfAdmin (op : Nat) : Bool := [0, 1, 2, 4, 5, 6, 8, 9, 0xA, 0xC, 0x80, 0x81, 0x82].contains op
def cdsAdmin (op : Nat) : Bool := [2, 6, 9, 0xA, 0x10, 0x11, 0x81, 0x82].contains op

/-- I/O opcodes (Table 13-6), and the Arcade's (Table 14-2). -/
def arcOp (op : Nat) : Bool := [0x80, 0x82, 0x84, 0x88, 0x8A, 0x8E, 0x90, 0x94].contains op
def ioOp (op : Nat) : Bool := [0, 1, 2, 8, 9, 0xC, 0xD, 0xE, 0x11, 0x15].contains op || arcOp op

/-- The namespace of an NSID, where it is attached to the controller. -/
def State.nsFor (s : State) (f nsid : Nat) : Option Namespace :=
  s.host.ns.find? (fun n => n.nsid == nsid && n.attached.contains f)

/-- The status with which a fetched entry is turned away at once (R408, R455, R458, R438): SCT and SC. -/
def State.fetchStatus (s : State) (f cls : Nat) (e : Sqe) : Option (Nat × Nat) :=
  if cls = 2 then
    if ownerOp e.opcode then
      if 2 ≤ f then some (0, 1)
      else if s.get PWR_STATE_STATE = 5 ∨ (s.get PWR_STATE_STATE = 6 ∧ e.opcode ≠ 0xC8) then some (0, 1)
      else if s.ownerFn = some f then none else some (2, 0x86)
    else if !(vfAdmin e.opcode || (decide (f < 2) && (e.opcode == 0x10 || e.opcode == 0x11))) then some (0, 1)
    else if s.restricted && !cdsAdmin e.opcode then some (0, 1)
    else none
  else if !ioOp e.opcode || s.restricted then some (0, 1)
  else if arcOp e.opcode && !s.is ARC_CTL_EN then some (0, 1)
  else if e.opcode = 0 then none
  else match s.nsFor f e.nsid with
    | none => some (0, 0x0B)
    | some n =>
      if s.get (TGT_TEN_STATE n.ten.val) ≠ 0 then some (7, 0xC3)
      else if n.key.isNone then some (7, 0xC4)
      else none

/-- The deadline of a command (R400): Read, Verify and the Arcade commands but Context and Object Delete. -/
def State.deadlineOf (s : State) (f : Nat) (e : Sqe) : Nat :=
  if !([2, 0xC].contains e.opcode || (arcOp e.opcode && e.opcode != 0x80 && e.opcode != 0x88)) then 0
  else match s.nsFor f e.nsid with
    | none => 0
    | some n =>
      let v := bitsOf e.c13 24 8
      if n.tlo && v != 0 then s.time + v * 1000000
      else if n.tler ≠ 0 then s.time + n.tler * 10000000
      else 0

/-- COMMAND_FETCH (R381, R389, R391, R400, R408): the chosen queue gives an entry, which takes a tag; an entry that the
checks turn away completes at once. -/
def commandFetch (e : Sqe) (s : State) : State :=
  let s0 := s.tagEpisodes
  match s0.choose (fetchCost false) e with
  | none => s0
  | some (f, q, cls, s1) =>
    let tag := s0.newTag
    let c : Cmd := { tag := tag, fn := f, sq := q.qid, cq := q.cq, cls := cls, sqe := e, order := s0.rbt.order
                     deadline := if cls = 2 then 0 else s0.deadlineOf f e
                     phase := .fetched, orphan := false, blocks := 0, steps := 0, committed := false
                     owner := s0.ownerFn == some f }
    let s2 := s1.modCtl f (fun k => { k with sqs := k.sqs.map (fun x =>
      if x.qid = q.qid then { x with head := (x.head + 1) % x.size } else x) })
    let s3 := { s2 with rbt := { s2.rbt with
      cmds := s2.rbt.cmds ++ [c], order := s2.rbt.order + 1, tagEp := if cls = 0 then false else s2.rbt.tagEp
      log := s2.rbt.log.set 6 (max (s2.rbt.log.getD 6 0) (s2.rbt.cmds.length + 1)) } }
    match s3.fetchStatus f cls e with
    | some (sct, sc) => s3.complete tag sct sc 0
    | none => s3

/-- COMMAND_FETCH. -/
def execCommandFetch (e : Sqe) (s : State) : Host.Outcome State Fault Refusal := .next (commandFetch e s)

/-! ### Posting (R379, R389) -/

/-- COMPLETION_POST: the oldest completion of a queue that is not full is posted, and its tag freed; a queue that fills
begins an episode of source 142. -/
def completionPost (f cq : Nat) (s : State) : State :=
  match (s.ctl f).cqs.find? (fun q => q.qid == cq) with
  | none => s
  | some q =>
    if cqFull q then s
    else match q.waiting with
      | [] => s
      | x :: rest =>
        let q1 : CompQueue := { q with tail := (q.tail + 1) % q.size, waiting := rest }
        let q2 : CompQueue := { q1 with full := cqFull q1 }
        let s1 := (s.modCtl f (fun c => { c with cqs := c.cqs.map (fun y => if y.qid = cq then q2 else y) })).raiseIf
          (cqFull q1 && !q.full) 142
        match s1.cmd x.tag with
        | some c => s1.posted c
        | none => s1

/-- COMPLETION_POST. -/
def execCompletionPost (f : Fin 128) (cq : Fin 4096) (s : State) : Host.Outcome State Fault Refusal :=
  .next (completionPost f.val cq.val s)

/-- DRAIN_MERGE_EXPIRY (R398). -/
def execDrainMergeExpiry (s : State) : Host.Outcome State Fault Refusal := .next s.mergeEnd

end Sys2Proof.Machine
end

