-- ==== Sys2Proof/Machine/Nvme.lean ====
section
/-! DEFINITION. Meanings of the I/O commands (spec 12.3, 12.4, 13.4, 13.5 and 17). -/

namespace Sys2Proof.Machine

/-! ### Commands and their namespaces -/

/-- A crypto-erase fetched before the command and not yet completed holds it (R459, step 1). -/
def State.eraseHolds (s : State) (c : Cmd) (n : Namespace) : Bool :=
  s.rbt.cmds.any (fun e => e.cls == 2 && e.phase == .fetched && decide (e.order < c.order)
    && ((e.sqe.opcode == 0x80 && e.sqe.nsid == n.nsid) || e.sqe.opcode == 0x84
      || (e.sqe.opcode == 0xCD && bitsOf e.sqe.c10 0 7 == n.ten.val)))

/-- The fetched I/O command of a tag with the given opcode, and its namespace. -/
def State.ioCmd (s : State) (tag op : Nat) : Option (Cmd × Namespace) :=
  match (s.cmd tag).filter (fun c => c.phase == .fetched && c.cls != 2 && c.sqe.opcode == op) with
  | none => none
  | some c => match s.nsFor c.fn c.sqe.nsid with
    | none => none
    | some n => if s.eraseHolds c n then none else some (c, n)

/-- The state with a namespace changed. -/
def State.modNs (s : State) (nsid : Nat) (f : Namespace → Namespace) : State :=
  { s with host := { s.host with ns := s.host.ns.map (fun n => if n.nsid = nsid then f n else n) } }

/-- Starting LBA and number of blocks. -/
def slba (e : Sqe) : Nat := e.c10 + 2 ^ 32 * e.c11
def nlb (e : Sqe) : Nat := bitsOf e.c12 0 16 + 1

/-- The Host Identifier of a controller (feature 81h). -/
def State.hostId (s : State) (f : Nat) : Nat := (s.ctl f).feat 0x81

/-- The host of a controller is a registrant of a namespace. -/
def Reservation.has (r : Reservation) (h : Nat) : Bool := r.regs.any (fun x => x.host == h)

/-- A write, or a read, conflicts with the reservation of its namespace (R371). -/
def State.conflict (s : State) (c : Cmd) (n : Namespace) (write : Bool) : Bool :=
  let r := n.resv
  let h := s.hostId c.fn
  if r.typ = 0 ∨ (r.typ ≤ 4 ∧ r.holder = h ∧ r.has h) then false
  else if 3 ≤ r.typ && r.has h then false
  else if write then true
  else r.typ == 2 || r.typ == 4 || r.typ == 6

/-- Reservation Conflict (SCT 0h, SC 83h) with source 13. -/
def State.conflictEnd (s : State) (tag : Nat) : State := (s.complete tag 0 0x83 0).raise 13

/-- The gaps that a command's data meets (17.3): staging parity, DVERIFY, pipeline buffers. The status that ends the
command, if any, and the state. -/
def State.hops (s : State) (h : HopFaults) : Option (Nat × Nat) × State :=
  if h.staging then (some (0, 4), (s.bump HST_INTG_STGPAR).raise 101)
  else
    let k := if s.is TGT_INTG_DVERIFY then min 2 h.dverify else 0
    let s1 := (List.range k).foldl (fun t _ => (t.bump TGT_INTG_DVMIS).raise 1026) s
    if k = 2 then (some (0, 6), s1)
    else if h.buffer then (some (0, 6), s1.raise 1028)
    else (none, s1)

/-! ### Write (R274, R369, R392, R440) -/

/-- The metadata stored with a written block (R369), or the status code of the check that fails. -/
def writeMeta (n : Namespace) (e : Sqe) (lba : Nat) (data md : List Byte) : Except Nat (List Byte) :=
  if n.pi = 0 then .ok (if n.lbaf = 0 then List.replicate 16 0 else (md ++ List.replicate 16 0).take 16)
  else if bitsOf e.c12 29 1 = 1 then
    .ok (piBytes n.lbaf (piGuard n.lbaf data) (bitsOf e.c15 0 16) (if n.pi = 1 then refOf n.lbaf lba else e.c14))
  else match piCheck n.lbaf n.pi (bitsOf e.c12 26 3) (bitsOf e.c15 0 16) (bitsOf e.c15 16 16) lba data md with
    | some sc => .error sc
    | none => .ok ((md ++ List.replicate 16 0).take 16)

/-- The checked metadata of every block, or the first failing status code. -/
def writeMetas (n : Namespace) (e : Sqe) : Nat → List (List Byte × List Byte) → Except Nat (List (List Byte × List Byte))
  | _, [] => .ok []
  | lba, b :: bs =>
    match writeMeta n e lba b.1 b.2, writeMetas n e (lba + 1) bs with
    | .ok m, .ok rest => .ok ((b.1, m) :: rest)
    | .error sc, _ => .error sc
    | _, .error sc => .error sc

/-- A plaintext block enciphered for its place (R440). -/
def State.encipher (_s : State) (n : Namespace) (lba : Nat) (data : List Byte) : List Byte :=
  match n.key with
  | some k => xts false k lba data
  | none => data

/-- Blocks of a write are handed to the Square in turn (R274, R441). -/
def State.placeBlocks (s : State) (c : Cmd) (n : Namespace) (lba : Nat) (bs : List (List Byte × List Byte)) (w : WriteInput) : State :=
  let client : SquareClient := .host (s.tenOf c.fn)
  let s1 := bs.zipIdx.foldl (fun t b => t.place {
    client := client, ten := some n.ten, ns := n.nsid - 1, lba := lba + b.2, data := t.encipher n (lba + b.2) b.1.1
    pmeta := b.1.2, tag := some c.tag, page := none, close := w.close, parity := w.parity }) s
  if s.tenOf c.fn = some n.ten then (s1.modCmd c.tag (fun x => { x with phase := .placing, blocks := bs.length })).finishWrites
  else s1.complete c.tag 0 6 0

/-- WRITE (R369, R371, R392). -/
def nvmWrite (tag : Nat) (w : WriteInput) (s : State) : State :=
  match s.ioCmd tag 1 with
  | none => s
  | some (c, n) =>
    let e := c.sqe
    if n.size < (slba e) + (nlb e) then s.complete tag 0 0x80 0
    else if 512 < (nlb e) then s.refuse tag 0
    else if s.conflict c n true then s.conflictEnd tag
    else if w.blocks.length ≠ (nlb e) then s
    else match s.hops w.hops with
      | (some (sct, sc), s1) => s1.complete tag sct sc 0
      | (none, s1) =>
        match writeMetas n e (slba e) w.blocks with
        | .error sc => (s1.raise 12).complete tag 2 sc 0
        | .ok bs => s1.placeBlocks c n (slba e) bs w

/-- WRITE. -/
def execWrite (tag : Nat) (w : WriteInput) (s : State) : Host.Outcome State Fault Refusal := .next (nvmWrite tag w s)

/-! ### Read and Verify (R369, R370, R393, R396) -/

/-- What a block of a read comes to. -/
inductive BlockGot where
  | data (bytes pmeta : List Byte)
  | failed (sct sc qual : Nat)
  | waits
  deriving DecidableEq, Repr

/-- The request of a read (R127, R334): its class, ceiling and deadline. -/
def State.readReq (s : State) (c : Cmd) (n : Namespace) (lba : Nat) : ReadReq :=
  let av := (((s.unitPlaces n.region false ((n.base + lba) / 128)).head?).map Prod.fst).getD 0
  let own := if c.cls = 1 then s.get (AV_LADCTL_UCEIL av) else s.get (AV_LADCTL_NCEIL av)
  ⟨some c.tag, c.cls + 1, min 6 (if bitsOf c.sqe.c12 31 1 = 1 then min own (s.get (AV_LADCTL_LRCEIL av)) else own), c.deadline⟩

/-- A readable page's block: its entry check is made as it is read (R479), and it is deciphered. -/
def State.takeBlock (s : State) (n : Namespace) (lba p : Nat) (d : DramRead) : BlockGot × State :=
  let g := s.page p
  let d1 := if d == .clean && !g.entryOk then DramRead.entryBad else d
  match d1 with
  | .clean => (.data (match n.key with
      | some k => xts true k lba g.data
      | none => g.data) g.pmeta, s.hitPage p false)
  | d2 => (.failed 2 0x81 0x0A, s.dramRead p d2)

/-- One block of a read: from its page, as unwritten, from the lost-write list, or from the media (R269 to R271, R279,
R326); otherwise the read waits on a fill. -/
def State.readBlock (s : State) (c : Cmd) (n : Namespace) (r : ReadInput) (lba : Nat) : BlockGot × State :=
  let k : BlockKey := ⟨s.tenOf c.fn, n.nsid - 1, lba⟩
  let dram := ((r.dram.find? (fun x => x.1 == lba)).map Prod.snd).getD .clean
  match s.sqr.readEnds.find? (fun x => x.1 == c.tag && x.2.1 == lba) with
  | some x => (.failed x.2.2.1 x.2.2.2.1 x.2.2.2.2, s)
  | none =>
    match s.lookupKey k with
    | .hit p => s.takeBlock n lba p dram
    | .lost => (.waits, s)
    | look =>
      if !s.red.written.contains (n.region.val, n.base + lba) then (.data (List.replicate 4096 0) (unwrittenMeta n.lbaf), s)
      else match s.sqr.lost.find? (fun x => x.1 == k) with
        | some x => (.failed 2 0x81 x.2, s)
        | none =>
          let req := s.readReq c n lba
          match r.media.find? (fun x => x.1 == lba), look with
          | some x, .miss =>
            let s1 := s.startFill k req false []
            (match s1.findPage k with
              | none => (.waits, s1)
              | some p =>
                let s2 := s1.fillEnded p x.2
                match x.2 with
                | .data _ _ => s2.takeBlock n lba p dram
                | .failed a b q => (.failed a b q, s2))
          | some x, .wait p =>
            let s2 := s.fillEnded p x.2
            (match x.2 with
              | .data _ _ => s2.takeBlock n lba p dram
              | .failed a b q => (.failed a b q, s2))
          | none, .miss => (.waits, s.startFill k req false [])
          | none, .wait p => (.waits, if (s.sqr.fills.find? (fun f => f.page == p)).any (fun f =>
              f.req.tag == some c.tag || f.waiters.any (fun q => q.tag == some c.tag)) then s else s.joinFill p req)
          | _, .hit _ => (.waits, s)
          | _, .lost => (.waits, s)

/-- Blocks of a read in turn. -/
def readBlocks (c : Cmd) (n : Namespace) (r : ReadInput) (lba count : Nat) (s : State) : List BlockGot × State :=
  (List.range count).foldl (fun acc i =>
    let (g, t) := acc.2.readBlock c n r (lba + i)
    (acc.1 ++ [g], t)) ([], s)

/-- The order of qualifiers (R140). -/
def qualOrder : List Nat := [5, 4, 8, 7, 6, 1, 2, 3, 9, 10]

/-- How a read with failing blocks ends (R140): the first failing LBA, and the first status in order. -/
def State.failRead (s : State) (tag lba : Nat) (got : List BlockGot) : State :=
  let bad := got.zipIdx.filterMap (fun x => match x.1 with
    | .failed a b q => some (lba + x.2, a, b, q)
    | _ => none)
  let first := ((bad.head?).map Prod.fst).getD 0
  match qualOrder.find? (fun q => bad.any (fun x => x.2.1 == 2 && x.2.2.1 == 0x81 && x.2.2.2 == q)) with
  | some q =>
    let s1 := if q = 1 then { s with rbt := { s.rbt with log := s.rbt.log.modify 2 (· + 1) } } else s
    s1.readError tag first q
  | none => match bad.head? with
    | some x => (s.raiseIf (decide (x.2.1 = 7 ∧ x.2.2.1 = 0xC2)) 151).complete tag x.2.1 x.2.2.1 0
    | none => s

/-- The status code of the first protection check that fails (R369); unwritten blocks are not checked (R370). -/
def readChecks (s : State) (n : Namespace) (e : Sqe) (got : List BlockGot) : Option Nat :=
  (got.zipIdx.findSome? (fun x => match x.1 with
    | .data b m => if s.red.written.contains (n.region.val, n.base + (slba e) + x.2) then
        piCheck n.lbaf n.pi (bitsOf e.c12 26 3) (bitsOf e.c15 0 16) (bitsOf e.c15 16 16) (slba e + x.2) b m else none
    | _ => none))

/-- READ and VERIFY (R393, R396): `transfer` says that the data goes to the host. -/
def nvmRead (op tag : Nat) (transfer : Bool) (r : ReadInput) (s : State) : State :=
  match s.ioCmd tag op with
  | none => s
  | some (c, n) =>
    let e := c.sqe
    let dirty := (List.range (nlb e)).any (fun i => match s.findPage ⟨some n.ten, n.nsid - 1, (slba e) + i⟩ with
      | some p => (s.page p).unjournaled
      | none => false)
    if n.size < (slba e) + (nlb e) then s.complete tag 0 0x80 0
    else if 512 < (nlb e) && transfer then s.refuse tag 0
    else if s.conflict c n false then s.conflictEnd tag
    else if !s.is SQR_STAT_READY then s
    else if s.tenOf c.fn ≠ some n.ten then (s.tenancyRefused false (s.tenOf c.fn) none).readError tag (slba e) 0x0A
    else if bitsOf e.c12 30 1 = 1 && dirty then
      if c.steps < 2 then (s.modCmd tag (fun x => { x with steps := c.steps + 2 })).requestDrain.2 else s
    else
      let s0 := if c.steps % 2 = 0 then
        (s.modCmd tag (fun x => { x with steps := c.steps + 1 })).streamRead n.ten (n.nsid - 1) (slba e) (nlb e) else s
      let (got, s1) := readBlocks c n r (slba e) (nlb e) s0
      if got.any (fun g => g == .waits) then s1
      else if got.any (fun g => match g with
        | .failed _ _ _ => true
        | _ => false) then s1.failRead tag (slba e) got
      else match s1.hops r.hops with
        | (some (sct, sc), s2) => s2.complete tag sct sc 0
        | (none, s2) =>
          match readChecks s n e got with
          | some sc => (s2.raise 12).complete tag 2 sc 0
          | none =>
            let bytes := got.flatMap (fun g => match g with
              | .data b m => b ++ (if n.lbaf = 0 ∨ (n.pi ≠ 0 ∧ bitsOf e.c12 29 1 = 1) then [] else m.take (8 * n.lbaf))
              | _ => [])
            (if transfer then s2.answer tag bytes else s2).ok tag

/-- READ. -/
def execRead (tag : Nat) (r : ReadInput) (s : State) : Host.Outcome State Fault Refusal := .next (nvmRead 2 tag true r s)

/-- VERIFY. -/
def execVerify (tag : Nat) (r : ReadInput) (s : State) : Host.Outcome State Fault Refusal := .next (nvmRead 0xC tag false r s)

/-! ### Flush, Write Zeroes and Dataset Management -/

/-- FLUSH (R397): with any NSID. -/
def nvmFlush (tag : Nat) (s : State) : State :=
  match (s.cmd tag).filter (fun c => c.phase == .fetched && c.cls != 2 && c.sqe.opcode == 0) with
  | none => s
  | some _ => s.drainFor tag

/-- FLUSH. -/
def execFlush (tag : Nat) (s : State) : Host.Outcome State Fault Refusal := .next (nvmFlush tag s)

/-- A block is deallocated (R370, R282): it becomes unwritten, its page is freed in any state, and its journal entry and
its place on the lost-write list go. -/
def State.dealloc (s : State) (n : Namespace) (lba : Nat) : State :=
  let k : BlockKey := ⟨some n.ten, n.nsid - 1, lba⟩
  let s1 := match s.findPage k with
    | some p =>
      let t := (s.modPage p (fun g => { g with superseded := true })).ungroup p
      if (s.page p).pins == 0 && (s.page p).st != PageSt.fill && (s.page p).st != PageSt.destage then t.freePg p else t
    | none => s
  ({ s1 with red := { s1.red with written := s1.red.written.filter (fun w => w != (n.region.val, n.base + lba)) } }.modSqr (fun q =>
    { q with journal := q.journal.filter (fun e => e.key != k), lost := q.lost.filter (fun l => l.1 != k)
             onMedia := q.onMedia.filter (fun x => x != k) })).closeEmpty

/-- WRITE_ZEROES (R370): Deallocate (CDW12 bit 25) deallocates; otherwise zeros are written. -/
def nvmWriteZeroes (tag : Nat) (w : WriteInput) (s : State) : State :=
  match s.ioCmd tag 8 with
  | none => s
  | some (c, n) =>
    let e := c.sqe
    if n.size < (slba e) + (nlb e) then s.complete tag 0 0x80 0
    else if s.conflict c n true then s.conflictEnd tag
    else if bitsOf e.c12 25 1 = 1 then ((List.range (nlb e)).foldl (fun t i => t.dealloc n (slba e + i)) s).ok tag
    else match s.hops w.hops with
      | (some (sct, sc), s1) => s1.complete tag sct sc 0
      | (none, s1) =>
        let z : List Byte := List.replicate 4096 0
        let blocks := (List.range (nlb e)).map (fun i => (z, if n.pi = 0 then List.replicate 16 0 else
          piBytes n.lbaf (piGuard n.lbaf z) (bitsOf e.c15 0 16) (if n.pi = 1 then refOf n.lbaf (slba e + i) else e.c14)))
        s1.placeBlocks c n (slba e) blocks w

/-- WRITE_ZEROES. -/
def execWriteZeroes (tag : Nat) (w : WriteInput) (s : State) : Host.Outcome State Fault Refusal := .next (nvmWriteZeroes tag w s)

/-- DATASET_MANAGEMENT: Deallocate only; other attributes are ignored (Table 13-6). -/
def nvmDsm (tag : Nat) (ranges : List (Nat × Nat)) (s : State) : State :=
  match s.ioCmd tag 9 with
  | none => s
  | some (c, n) =>
    if ranges.any (fun r => decide (n.size < r.1 + r.2)) then s.complete tag 0 0x80 0
    else if s.conflict c n true then s.conflictEnd tag
    else if bitsOf c.sqe.c11 2 1 = 0 then s.ok tag
    else (ranges.foldl (fun t r => (List.range r.2).foldl (fun u i => u.dealloc n (r.1 + i)) t) s).ok tag

/-- DATASET_MANAGEMENT. -/
def execDatasetManagement (tag : Nat) (ranges : List (Nat × Nat)) (s : State) : Host.Outcome State Fault Refusal :=
  .next (nvmDsm tag ranges s)

/-! ### Reservations (R371, R372) -/

/-- The fetched reservation command of a tag, when every earlier one of its namespace has ended (R372). -/
def State.resvCmd (s : State) (tag op : Nat) : Option (Cmd × Namespace) :=
  (s.ioCmd tag op).filter (fun x => !s.rbt.cmds.any (fun c => decide (c.order < x.1.order) && c.phase == .fetched && c.cls != 2
    && [0xD, 0xE, 0x11, 0x15].contains c.sqe.opcode && c.sqe.nsid == x.2.nsid))

/-- Registrants' controllers are told, where the host has unmasked the event (R371): the type is reservation. -/
def State.resvNotify (s : State) (rs : List Registrant) (bit : Nat) : State :=
  rs.foldl (fun t r => if ((t.ctl r.fn).feat 0x82).testBit bit then t else t.asyncEvent r.fn 6 0) s

/-- RESERVATION_REGISTER: 0 registers, 1 unregisters, 2 replaces; bit 3 ignores the current key; CPTPL in [31:30]. -/
def resvRegister (tag : Nat) (crkey nrkey : BitVec 64) (s : State) : State :=
  match s.resvCmd tag 0xD with
  | none => s
  | some (c, n) =>
    let act := bitsOf c.sqe.c10 0 3
    let h := s.hostId c.fn
    let r := n.resv
    let mine := r.regs.find? (fun x => x.host == h)
    let keyOk := bitsOf c.sqe.c10 3 1 = 1 ∨ (mine.map Registrant.key) = some crkey.toNat
    let cptpl := bitsOf c.sqe.c10 30 2
    let fin (x : Reservation) : State := (s.modNs n.nsid (fun m => { m with resv := { x with
      gen := (r.gen + 1) % 2 ^ 32, ptpl := if cptpl = 2 then false else if cptpl = 3 then true else r.ptpl } })).ok tag
    match act, mine with
    | 0, none => if 64 ≤ r.regs.length then s.refuse tag 0 else fin { r with regs := r.regs ++ [⟨h, nrkey.toNat, c.fn⟩] }
    | 0, some m => if m.key = nrkey.toNat then fin r else s.conflictEnd tag
    | 1, some _ => if keyOk then
        let rest := r.regs.filter (fun x => x.host != h)
        let gone := (r.typ ≤ 4 ∧ r.holder = h) ∨ rest = []
        let s1 := fin { r with regs := rest, typ := if gone then 0 else r.typ, holder := if gone then 0 else r.holder }
        if gone ∧ r.typ ≠ 0 then s1.resvNotify rest 2 else s1
      else s.conflictEnd tag
    | 2, some _ => if keyOk then
        fin { r with regs := r.regs.map (fun x => if x.host = h then { x with key := nrkey.toNat } else x) }
      else s.conflictEnd tag
    | 1, none | 2, none => s.conflictEnd tag
    | _, _ => s.refuse tag 0

/-- RESERVATION_REGISTER. -/
def execReservationRegister (tag : Nat) (crkey nrkey : BitVec 64) (s : State) : Host.Outcome State Fault Refusal :=
  .next (resvRegister tag crkey nrkey s)

/-- RESERVATION_REPORT: the reservation status data structure, extended when CDW11 bit 0 is 1. -/
def resvReport (tag : Nat) (s : State) : State :=
  match s.resvCmd tag 0xE with
  | none => s
  | some (c, n) =>
    let r := n.resv
    let ext := bitsOf c.sqe.c11 0 1 = 1
    let holds (x : Registrant) : Nat := if r.typ ≠ 0 ∧ (r.holder = x.host ∨ 5 ≤ r.typ) then 1 else 0
    let head := leBytes 4 r.gen ++ leBytes 1 r.typ ++ leBytes 2 r.regs.length ++ leBytes 2 0 ++ leBytes 1 (if r.ptpl then 1 else 0)
      ++ leBytes 14 0 ++ (if ext then leBytes 40 0 else [])
    let one (x : Registrant) : List Byte := leBytes 2 (x.fn + 1) ++ leBytes 1 (holds x) ++ leBytes 5 0
      ++ (if ext then leBytes 8 x.key ++ leBytes 16 x.host ++ leBytes 32 0 else leBytes 8 x.host ++ leBytes 8 x.key)
    (s.answer tag (head ++ r.regs.flatMap one)).ok tag

/-- RESERVATION_REPORT. -/
def execReservationReport (tag : Nat) (s : State) : Host.Outcome State Fault Refusal := .next (resvReport tag s)

/-- RESERVATION_ACQUIRE: 0 acquires, 1 preempts, 2 preempts and aborts; the type in [15:8]. -/
def resvAcquire (tag : Nat) (crkey prkey : BitVec 64) (s : State) : State :=
  match s.resvCmd tag 0x11 with
  | none => s
  | some (c, n) =>
    let act := bitsOf c.sqe.c10 0 3
    let typ := bitsOf c.sqe.c10 8 8
    let h := s.hostId c.fn
    let r := n.resv
    if !(r.regs.any (fun x => x.host == h && x.key == crkey.toNat)) then s.conflictEnd tag
    else if typ = 0 ∨ 6 < typ ∨ 2 < act then s.refuse tag 0
    else if act = 0 then
      if r.typ = 0 then (s.modNs n.nsid (fun m => { m with resv := { r with typ := typ, holder := h } })).ok tag
      else if (r.holder = h ∨ 5 ≤ r.typ) ∧ r.typ = typ then s.ok tag
      else s.conflictEnd tag
    else
      let gone := r.regs.filter (fun x => x.host != h && (x.key == prkey.toNat || (decide (5 ≤ r.typ) && prkey.toNat == 0)))
      let takes := r.typ = 0 ∨ (r.typ ≤ 4 ∧ (gone.any (fun x => x.host == r.holder) || r.holder == h)) ∨ (5 ≤ r.typ ∧ prkey.toNat = 0)
      if gone = [] ∧ !r.regs.any (fun x => x.key == prkey.toNat) ∧ prkey.toNat ≠ 0 then s.conflictEnd tag
      else
        let x : Reservation := { r with
          regs := r.regs.filter (fun y => !gone.contains y), gen := (r.gen + 1) % 2 ^ 32
          typ := if takes then typ else r.typ, holder := if takes then h else r.holder }
        let s1 := (s.modNs n.nsid (fun m => { m with resv := x })).resvNotify gone 1
        let s2 := if act = 2 then
            (s1.rbt.cmds.filter (fun d => d.phase == .fetched && d.cls != 2 && d.sqe.nsid == n.nsid
              && gone.any (fun g => g.fn == d.fn))).foldl (fun t d => t.complete d.tag 0 7 0) s1
          else s1
        s2.ok tag

/-- RESERVATION_ACQUIRE. -/
def execReservationAcquire (tag : Nat) (crkey prkey : BitVec 64) (s : State) : Host.Outcome State Fault Refusal :=
  .next (resvAcquire tag crkey prkey s)

/-- RESERVATION_RELEASE: 0 releases, 1 clears. -/
def resvRelease (tag : Nat) (crkey : BitVec 64) (s : State) : State :=
  match s.resvCmd tag 0x15 with
  | none => s
  | some (c, n) =>
    let act := bitsOf c.sqe.c10 0 3
    let typ := bitsOf c.sqe.c10 8 8
    let h := s.hostId c.fn
    let r := n.resv
    let others := r.regs.filter (fun x => x.host != h)
    if !(r.regs.any (fun x => x.host == h && x.key == crkey.toNat)) then s.conflictEnd tag
    else if act = 1 then
      ((s.modNs n.nsid (fun m => { m with resv := { r with regs := [], typ := 0, holder := 0, gen := (r.gen + 1) % 2 ^ 32 } })).resvNotify
        others 3).ok tag
    else if act ≠ 0 then s.refuse tag 0
    else if r.typ = 0 ∨ ¬ (r.holder = h ∨ 5 ≤ r.typ) then s.ok tag
    else if r.typ ≠ typ then s.refuse tag 0
    else
      let s1 := s.modNs n.nsid (fun m => { m with resv := { r with typ := 0, holder := 0 } })
      (if 3 ≤ r.typ then s1.resvNotify others 2 else s1).ok tag

/-- RESERVATION_RELEASE. -/
def execReservationRelease (tag : Nat) (crkey : BitVec 64) (s : State) : Host.Outcome State Fault Refusal :=
  .next (resvRelease tag crkey s)

end Sys2Proof.Machine
end

