-- ==== Sys2Proof/Machine/Keys.lean ====
section
/-! DEFINITION. Key generation, derivation and records, crypto-erase, tenancies and namespaces' keys (spec 15.1, 15.7). -/

namespace Sys2Proof.Machine

/-! ### Randomness (R435) -/

/-- The entropy health tests fail. -/
def entropyFail (s : State) : State := ((s.putb TGT_STAT_ENTOK false).bump TGT_CNT_ENTFAIL).raise 996

/-- A fresh 256-bit key; none while the entropy health tests fail. -/
def State.drawKey (s : State) : Option (BitVec 256 × State) :=
  if s.is TGT_STAT_ENTOK then
    let (v, s1) := s.fresh 256
    some (BitVec.ofNat 256 v, s1)
  else none

/-- A fresh XTS key, generated again when its halves are equal (R436): `fuel` bounds the attempts. -/
def State.drawXts (s : State) : Nat → Option (XtsKey × State)
  | 0 => none
  | fuel + 1 =>
    match s.drawKey with
    | none => none
    | some (a, s1) => match s1.drawKey with
      | none => none
      | some (b, s2) => if a = b then s2.drawXts fuel else some (⟨a, b⟩, s2)

/-- Attempts at a key whose halves differ. -/
def xtsTries : Nat := 16

/-- The debug nonce takes 32 random bytes (R460). -/
def State.newNonce (s : State) : State :=
  (List.range 8).foldl (fun t k =>
    let (v, t1) := t.fresh 32
    t1.put (TGT_DBGNONCE_NONCE k) v) s

/-- A key generation that fails ends its command with refusal code 8 and raises source 997 (R435, Table 15-12). -/
def State.noRandom (s : State) (tag : Nat) : State := (s.raise 997).refuse tag 8

/-! ### Derived keys (R436) -/

/-- The keys derived from a device root secret: KSEAL and KFLASH. -/
def ksealOf (drs : BitVec 256) : BitVec 256 := BitVec.ofNat 256 (ofBe (kdf108 (beNum 32 drs.toNat) (Config.kdfLabel 0) 32))
def kflashOf (drs : BitVec 256) : XtsKey :=
  let b := kdf108 (beNum 32 drs.toNat) (Config.kdfLabel 2) 64
  ⟨BitVec.ofNat 256 (ofBe (b.take 32)), BitVec.ofNat 256 (ofBe (b.drop 32))⟩

/-- The credential key of a tenant credential and a salt (R458). -/
def credentialKey (cred : List Byte) (salt : BitVec 256) : List Byte :=
  kdf108 (cred ++ beNum 32 salt.toNat) (Config.kdfLabel 3) 32

/-- The Tollgate derives KSEAL, DIK and KFLASH from the DRS, unless its fuses are blocked or destroyed (R436, R461). -/
def State.deriveKeys (s : State) : State :=
  match s.tgt.drs with
  | some d => if s.tgt.drsBlocked then s else
    { s with tgt := { s.tgt with kseal := some (ksealOf d), kflash := some (kflashOf d), dik := true } }.putb TGT_STAT_KEYS true
  | none => s

/-! ### Tenancies (R438, R456, R458) -/

/-- A tenancy's key record, if the tenancy exists. -/
def State.tenKey (s : State) (t : Nat) : Option TenantKey := KMap.get (fun _ => none) s.tgt.tens t

/-- The state with a tenancy's key record replaced. -/
def State.setTenKey (s : State) (t : Nat) (k : Option TenantKey) : State :=
  { s with tgt := { s.tgt with tens := KMap.set (fun _ => none) s.tgt.tens t k } }

/-- The working keys of a tenancy's namespaces follow its own: present while the tenancy's key is (R438). -/
def State.unwrapNs (s : State) (t : Nat) : State :=
  let present := ((s.tenKey t).bind TenantKey.key).isSome
  { s with host := { s.host with ns := s.host.ns.map (fun n =>
    if n.ten.val = t then { n with key := if present then some n.recd else none } else n) } }

/-- A tenancy is locked: its working key goes, and those of its namespaces (R458). -/
def State.lockTen (s : State) (t : Nat) : State :=
  ((s.setTenKey t ((s.tenKey t).map (fun k => { k with key := none }))).put (TGT_TEN_STATE t) 1).unwrapNs t

/-- A tenancy is unlocked: its key is unwrapped, and those of its namespaces. -/
def State.unlockTen (s : State) (t : Nat) : State :=
  ((s.setTenKey t ((s.tenKey t).map (fun k => { k with key := some k.recd }))).put (TGT_TEN_STATE t) 0).unwrapNs t

/-- NNS follows a tenancy's namespaces. -/
def State.countNs (s : State) (t : Nat) : State := s.put (TGT_TEN_NNS t) (s.host.ns.filter (fun n => n.ten.val == t)).length

/-! ### Crypto-erase (R459) -/

/-- Step 3: a namespace's Square pages are freed in every state, its journal entries discarded, its object index emptied,
and every block unwritten. A page with a fill or a media write in progress is freed when that ends (R265). -/
def State.clearNs (s : State) (n : Namespace) : State :=
  let mine (k : BlockKey) : Bool := k.ten == some n.ten && k.ns == n.nsid - 1
  let ps := (s.sqr.pages.filter (fun e => mine e.2.key && e.2.st != PageSt.free && e.2.st != PageSt.retired)).map Prod.fst
  let s1 := ps.foldl (fun t p => ((t.modPage p (fun g => { g with superseded := true, pins := 0 })).ungroup p).tryFree p) s
  let s2 := (s1.modSqr (fun q => { q with
    journal := q.journal.filter (fun e => !mine e.key), lost := q.lost.filter (fun l => !mine l.1)
    onMedia := q.onMedia.filter (fun k => !mine k), held := q.held.filter (fun a => !(a.ten == some n.ten && a.ns == n.nsid - 1))
    })).closeEmpty
  { s2 with red := { s2.red with written := s2.red.written.filter (fun w =>
      !(w.1 == n.region.val && decide (n.base ≤ w.2 ∧ w.2 < n.base + n.size))) } }.modNs n.nsid (fun m => { m with objects := [] })

/-- Step 4 for a namespace: a new key, with a higher generation. -/
def State.rekeyNs (s : State) (n : Namespace) : Option State :=
  (s.drawXts xtsTries).map (fun r => r.2.modNs n.nsid (fun m => { m with
    recd := r.1, gen := m.gen + 1, key := if ((r.2.tenKey n.ten.val).bind TenantKey.key).isSome then some r.1 else none }))

/-- Step 4 for a tenancy. -/
def State.rekeyTen (s : State) (t : Nat) : Option State :=
  match s.tenKey t, s.drawKey with
  | some k, some (v, s1) => some (s1.setTenKey t (some { k with recd := v, gen := k.gen + 1, key := k.key.map (fun _ => v) }))
  | none, _ => some s
  | _, none => none

/-- The keys of a scope are generated; none when randomness fails. -/
def State.rekey (s : State) (tens : List Nat) (nss : List Namespace) : Option State :=
  let s1 := tens.foldl (fun o t => o.bind (fun x => x.rekeyTen t)) (some s)
  nss.foldl (fun o n => o.bind (fun x => x.rekeyNs n)) s1

/-- A crypto-erase over namespaces and tenancies (R459, steps 3 to 6), with the source of its completion. -/
def State.cryptoErase (s : State) (tens : List Nat) (nss : List Namespace) (src : Nat) : Option State :=
  ((nss.foldl State.clearNs s).rekey tens nss).map (fun t => t.raise src)

/-- A command fetched before and not yet ended names a namespace in scope (R459, step 2). -/
def State.scopeBusy (s : State) (c : Cmd) (nss : List Namespace) : Bool :=
  s.rbt.cmds.any (fun d => d.cls != 2 && decide (d.order < c.order) && !(d.phase == .done)
    && nss.any (fun n => n.nsid == d.sqe.nsid && n.attached.contains d.fn))

/-! ### Format NVM, Sanitize, and namespaces (R367, R457, R459) -/

/-- LBA formats with the protection types that Table 12-7 gives them. -/
def lbaFormats : List (Nat × Nat) := [(0, 0), (1, 1), (1, 3), (2, 1)]

/-- FORMAT_NVM: CDW10 [3:0] LBAF, [4] metadata settings, [7:5] protection, [11:9] SES. SES 1 and 2 crypto-erase the
namespace; with SES 0 its blocks become unwritten under the same key. -/
def formatNvm (tag : Nat) (s : State) : State :=
  match s.adminCmd tag 0x80 with
  | none => s
  | some c =>
    let lbaf := bitsOf c.sqe.c10 0 4
    let pi := bitsOf c.sqe.c10 5 3
    let ses := bitsOf c.sqe.c10 9 3
    match s.nsFor c.fn c.sqe.nsid with
    | none => s.complete tag 0 0x0B 0
    | some n =>
      if bitsOf c.sqe.c10 4 1 = 1 ∨ !lbaFormats.contains (lbaf, pi) then s.complete tag 1 0x0A 0
      else if 2 < ses then s.refuse tag 0
      else if s.scopeBusy c [n] then s
      else
        let out := if ses = 0 then some (s.clearNs n) else s.cryptoErase [] [n] 1006
        match out with
        | none => s.noRandom tag
        | some s1 => (s1.modNs n.nsid (fun m => { m with lbaf := lbaf, pi := pi })).ok tag

/-- FORMAT_NVM. -/
def execFormatNvm (tag : Nat) (s : State) : Host.Outcome State Fault Refusal := .next (formatNvm tag s)

/-- SANITIZE: SANACT 100b over every namespace and tenancy. -/
def sanitize (tag : Nat) (s : State) : State :=
  match s.adminCmd tag 0x84 with
  | none => s
  | some c =>
    if bitsOf c.sqe.c10 0 3 ≠ 4 then s.refuse tag 0
    else if s.scopeBusy c s.host.ns then s
    else match s.cryptoErase (s.tgt.tens.map Prod.fst) s.host.ns 1007 with
      | none => s.noRandom tag
      | some s1 => s1.ok tag

/-- SANITIZE. -/
def execSanitize (tag : Nat) (s : State) : Host.Outcome State Fault Refusal := .next (sanitize tag s)

/-- The lifecycle state admits the owner's commands (Table 15-8, code 1). -/
def State.claimed (s : State) : Bool := s.get TGT_STAT_LIFE == 2

/-- The lowest free NSID, 1 to 1,024. -/
def State.freeNsid (s : State) : Option Nat :=
  ((List.range 1024).map (· + 1)).find? (fun k => !s.host.ns.any (fun n => n.nsid == k))

/-- NAMESPACE_CREATE (R415, R457): CDW11[6:0] names the tenancy, CDW12 the index capacity. -/
def namespaceCreate (tag : Nat) (p : NamespaceSpec) (s : State) : State :=
  match s.adminCmd tag 0xC0 with
  | none => s
  | some c =>
    let t := bitsOf c.sqe.c11 0 7
    if !s.claimed then s.refuse tag 1
    else if (s.tenKey t).isNone then s.refuse tag 2
    else if !lbaFormats.contains (p.lbaf.val, p.pi.val) then s.complete tag 1 0x0A 0
    else match s.freeNsid with
      | none => s.complete tag 1 0x16 0
      | some nsid =>
        if p.size = 0 ∨ s.rLayout p.region.val false = 0 ∨ 16777216 < c.sqe.c12
            ∨ 128 * capacity (s.rLayout p.region.val false) (s.rMask p.region.val false) (s.rAlen p.region.val false) < p.base + p.size
            ∨ s.host.ns.any (fun n => n.region == p.region && decide (p.base < n.base + n.size ∧ n.base < p.base + p.size)) then s.refuse tag 0
        else match s.drawXts xtsTries with
          | none => s.noRandom tag
          | some (k, s1) =>
            let n : Namespace := { nsid := nsid, size := p.size, lbaf := p.lbaf.val, pi := p.pi.val, region := p.region
                                   base := p.base, ten := ⟨t % 128, Nat.mod_lt _ (by decide)⟩, icap := c.sqe.c12, attached := []
                                   gen := 1, recd := k, key := if ((s1.tenKey t).bind TenantKey.key).isSome then some k else none
                                   tler := 0, tlo := false, resv := ⟨[], 0, 0, 0, true⟩, objects := [] }
            (({ s1 with host := { s1.host with ns := s1.host.ns ++ [n] } }.countNs t).clearNs n).ok tag nsid

/-- NAMESPACE_CREATE. -/
def execNamespaceCreate (tag : Nat) (p : NamespaceSpec) (s : State) : Host.Outcome State Fault Refusal :=
  .next (namespaceCreate tag p s)

/-- NAMESPACE_DELETE (R457): the NSID in the command. -/
def namespaceDelete (tag : Nat) (s : State) : State :=
  match s.adminCmd tag 0xC1 with
  | none => s
  | some c =>
    if !s.claimed then s.refuse tag 1
    else match s.host.ns.find? (fun n => n.nsid == c.sqe.nsid) with
      | none => s.complete tag 0 0x0B 0
      | some n =>
        if s.scopeBusy c [n] then s
        else
          let s1 := s.clearNs n
          ({ s1 with host := { s1.host with ns := s1.host.ns.filter (fun m => m.nsid != n.nsid) } }.countNs n.ten.val).ok tag

/-- NAMESPACE_DELETE. -/
def execNamespaceDelete (tag : Nat) (s : State) : Host.Outcome State Fault Refusal := .next (namespaceDelete tag s)

/-- NAMESPACE_ATTACH_DETACH (R367): only to controllers bound to the namespace's tenancy. -/
def namespaceAttach (tag f : Nat) (attach : Bool) (s : State) : State :=
  match s.adminCmd tag 0xC2 with
  | none => s
  | some c =>
    if !s.claimed then s.refuse tag 1
    else match s.host.ns.find? (fun n => n.nsid == c.sqe.nsid) with
      | none => s.complete tag 0 0x0B 0
      | some n =>
        let told (t : State) : State := (t.modCtl f (fun k => { k with
          changedNs := if k.changedNs.contains n.nsid then k.changedNs else k.changedNs ++ [n.nsid] })).asyncEvent f 2 0
        if attach then
          if n.attached.contains f then s.complete tag 1 0x18 0
          else if s.tenOf f ≠ some n.ten then s.refuse tag 0
          else (told (s.modNs n.nsid (fun m => { m with attached := m.attached ++ [f] }))).ok tag
        else if !n.attached.contains f then s.complete tag 1 0x1A 0
        else (told (s.modNs n.nsid (fun m => { m with attached := m.attached.erase f }))).ok tag

/-- NAMESPACE_ATTACH_DETACH. -/
def execNamespaceAttachDetach (tag : Nat) (f : Fin 128) (attach : Bool) (s : State) : Host.Outcome State Fault Refusal :=
  .next (namespaceAttach tag f.val attach s)

/-- SET_CONTROLLER_WEIGHT (R382, R411): CDW10[6:0] the controller, CDW11[7:0] its weight. -/
def setControllerWeight (tag : Nat) (s : State) : State :=
  match s.adminCmd tag 0xC7 with
  | none => s
  | some c =>
    if !s.claimed then s.refuse tag 1
    else (s.put (RBT_CW_CW (bitsOf c.sqe.c10 0 7)) (bitsOf c.sqe.c11 0 8)).ok tag

/-- SET_CONTROLLER_WEIGHT. -/
def execSetControllerWeight (tag : Nat) (s : State) : Host.Outcome State Fault Refusal := .next (setControllerWeight tag s)

end Sys2Proof.Machine
end

