-- ==== Sys2Proof/Machine/Ladder.lean ====
section
/-! DEFINITION. The retry ladder (spec 04, 4.4 to 4.8): pins, levels and their order, ceilings, step costs, ends,
classification and records, and the outcome of a decoded sector. -/

namespace Sys2Proof.Machine

/-! ### Outcomes (Table 4-4) -/

/-- The outcome of a sector from what its decoder ended with (Table 4-4, R78). -/
def sectorOutcome (addr : SectorAddr) (c : ReadCtx) (d : Decoded) : SectorOutcome :=
  if !d.converged then .notConverged
  else
    let want := slotTag addr
    let p := scramble want d.payload
    let h := payloadHeader p
    if mediaCrcOk p then
      if !headerOk h then .headerFault
      else if headerTag h ≠ want then .misplaced
      else if (!c.rany && decide ((h.extractLsb' 22 6).toNat ≠ c.region)) ||
        (!c.gany && decide ((h.extractLsb' 16 6).toNat ≠ c.gen)) then .layoutMismatch
      else .good
    else if headerOk h && decide (headerTag h ≠ want) && mediaCrcOk (scramble (headerTag h) d.payload) then .misplaced
    else .miscorrection

/-- The 4,112 data and metadata bytes of a decoded sector (Table 2-3). -/
def sectorBlock (addr : SectorAddr) (d : Decoded) : List Byte :=
  ((scramble (slotTag addr) d.payload).drop 8).take 4112

/-- The outcomes that start the retry ladder (Table 4-4). -/
def needsLadder : SectorOutcome → Bool
  | .miscorrection | .notConverged | .markMiss | .overrun => true
  | _ => false

/-- The code of port OUTCOME (Table 6-5). -/
def outcomeCode : SectorOutcome → Nat
  | .good => 0
  | .layoutMismatch => 1
  | .headerFault => 2
  | .misplaced => 3
  | .miscorrection => 4
  | .notConverged => 5
  | .markMiss => 6
  | .overrun => 7

/-- What an outcome counts and raises by itself (Tables 2-15 and 4-4, R120, R338). -/
def outcomeEvents (n : Fin 4) (o : SectorOutcome) (s : State) : State :=
  match o with
  | .misplaced => s.raise (avSrc n 27)
  | .headerFault => s.raise (avSrc n 28)
  | .layoutMismatch => s.raise (avSrc n 5)
  | .miscorrection => (s.bump (AV_DECCNT_MISCOR n)).raise (avSrc n 52)
  | .overrun => (s.bump (AV_DECCNT_OVERRUN n)).raise (avSrc n 56)
  | _ => s

/-! ### The retry decoders' queue (R122) -/

/-- Urgent jobs in a queue. -/
def urgentJobs (q : List RetryJob) : Nat := (q.filter (fun j => j.cls == 2)).length

/-- The queue admits a job of class `c`: at most 64 jobs, of which at most 4 are urgent. -/
def RetryDecoders.admits (r : RetryDecoders) (c : Nat) : Bool :=
  decide (r.queue.length < 64) && (c != 2 || decide (urgentJobs r.queue < 4))

/-- The held jobs, oldest first, enter the queue as far as it admits them. -/
def RetryDecoders.refill (r : RetryDecoders) : RetryDecoders :=
  r.held.foldl (fun a j => if a.admits j.cls then { a with queue := a.queue ++ [j], held := a.held.erase j } else a) r

/-- Jobs of the same or higher class queued ahead of a new job of class `c`, held ones among them (Table 4-5, q). -/
def RetryDecoders.ahead (r : RetryDecoders) (c : Nat) : Nat :=
  ((r.queue ++ r.held).filter (fun j => decide (c ≤ j.cls))).length

/-! ### Ladders -/

/-- The ladder `id` of Avenue `n`. -/
def State.ladder (s : State) (n : Fin 4) (id : Nat) : Option Ladder := (s.avn n).ladders.find? (fun l => l.id == id)

/-- The state with ladder `l` of Avenue `n` replaced. -/
def State.setLadder (s : State) (n : Fin 4) (l : Ladder) : State :=
  s.modAv n (fun a => { a with ladders := a.ladders.map (fun k => if k.id = l.id then l else k) })

/-- The class code of a ladder's read (Table 6-8). -/
def Ladder.cls (l : Ladder) : Nat := l.sec.ctx.cls

/-- The ceiling of a read (R127); 7 is taken as 6. -/
def State.ceiling (s : State) (n : Fin 4) (c : ReadCtx) : Nat :=
  let own := if !c.host then s.get (AV_LADCTL_ICEIL n)
    else if c.cls = 2 then s.get (AV_LADCTL_UCEIL n) else s.get (AV_LADCTL_NCEIL n)
  let lr := if c.host && c.limited then s.get (AV_LADCTL_LRCEIL n) else 6
  min 6 (min own (min lr (c.peerCeil.getD 6)))

/-- Steps of a level for a sector, 0 where Table 4-5 skips the level. -/
def State.ladderSteps (s : State) (n : Fin 4) (l : Ladder) : Nat → Nat
  | 1 => if l.pinned then 1 else 0
  | 2 => min 4 (s.get (AV_LADLIM_N2 n))
  | 3 => min 4 (s.get (AV_LADLIM_N3 n))
  | 4 => if l.allMarks then 0 else min 4 (s.get (AV_LADLIM_N4 n))
  | 5 => min 6 (s.get (AV_LADLIM_N5 n))
  | 6 => if (l.sec.ctx.recon.map (s.reconPossible l.sec.ctx.region)).getD false then 1 else 0
  | _ => 0

/-- The next step to be run from level `lvl`, index `step` (R126): none when the sector reaches its ceiling or passes
L6. -/
def State.nextStep (s : State) (n : Fin 4) (l : Ladder) (lvl step : Nat) : Option (Nat × Nat) :=
  ((lvl, step) :: (([1, 2, 3, 4, 5, 6] : List Nat).filter (lvl < ·)).map (fun v => (v, 0))).find? (fun p =>
    decide (p.1 ≤ s.ceiling n l.sec.ctx) && decide (p.2 < s.ladderSteps n l p.1))

/-- The sector's ladder record in the Square (R135). -/
def recordLadder (n : Fin 4) (l : Ladder) (e : Option LadderEnd) (s : State) : State :=
  s.modAv n (fun a => { a with
    ladderRecs := a.ladderRecs.filter (fun r => r.addr != l.sec.addr) ++ [⟨l.sec.addr, l.level, l.step, l.rereads, e⟩] })

/-- The pin of a ladder's sector is released (R124). -/
def unpin (n : Fin 4) (l : Ladder) (s : State) : State :=
  if l.pinned then s.put (AV_STORESTAT_PINNED n) (s.get (AV_STORESTAT_PINNED n) - 1) else s

/-- The class of a sector whose ladder ended (Table 4-6); none where the ladder ended with an outcome of Table 4-4. -/
def ladderClass (rereads : Nat) : LadderEnd → Option SectorClass
  | .recovered lvl => some (if lvl = 1 ∨ (lvl ≤ 5 ∧ rereads = 1) then .transient else .lastingRecovered)
  | .outcome _ => none
  | _ => some (if 0 < rereads then .lastingUnrecovered else .transientUnresolved)

/-- A list with `x` in it once. -/
def withOne {α : Type} [DecidableEq α] (xs : List α) (x : α) : List α := if x ∈ xs then xs else xs ++ [x]

/-- An internal read of a transient, unresolved sector that firmware scheduled has been made (R136). -/
def unscheduled (n : Fin 4) (sec : SectorRead) (s : State) : State :=
  if sec.ctx.host then s else s.modAv n (fun a => { a with unresolved := a.unresolved.erase sec.addr })

/-- The classification of R136: counts, events, and what firmware then does with the sector (R137, R138). -/
def classify (n : Fin 4) (sec : SectorRead) (cls : Option SectorClass) (s : State) : State :=
  match cls with
  | none => unscheduled n sec s
  | some .transient => unscheduled n sec ((s.bump (AV_LADCNT0_TRANS n)).raise (avSrc n 49))
  | some .transientUnresolved =>
    let s1 := (s.bump (AV_LADCNT0_TRANS n)).raise (avSrc n 49)
    if !sec.ctx.host && (s1.avn n).unresolved.contains sec.addr then unscheduled n sec s1
    else s1.modAv n (fun a => { a with unresolved := withOne a.unresolved sec.addr })
  | some .lastingRecovered =>
    (unscheduled n sec ((s.bump (AV_LADCNT1_LASTING n)).raise (avSrc n 50))).modAv n (fun a =>
      { a with relocate := withOne a.relocate sec.addr })
  | some .lastingUnrecovered =>
    (unscheduled n sec ((s.bump (AV_LADCNT1_LASTING n)).raise (avSrc n 50))).modAv n (fun a =>
      { a with pendingList := withOne a.pendingList sec.addr })

/-- What a ladder's end counts and raises (4.8). -/
def endEvents (n : Fin 4) (e : LadderEnd) (s : State) : State :=
  match e with
  | .failed => (s.bump (AV_LADCNT1_FAILED n)).raise (avSrc n 51)
  | .timeLimit => (s.bump (AV_LADCNT1_TLIMIT n)).raise (avSrc n 53)
  | _ => s

/-- A ladder ends (R124, R126, R133 to R136): pin released, job withdrawn (a held job then enters the queue where it may), record written, end counted, sector
classified. -/
def endLadder (n : Fin 4) (l : Ladder) (e : LadderEnd) (s : State) : State :=
  let mine : RetryJob → Bool := fun j => j.av == n && j.lad == l.id
  let s1 := (unpin n l s).modAv n (fun a => { a with ladders := a.ladders.filter (fun k => k.id != l.id) })
  let s2 := { s1 with rdec := { s1.rdec with
    queue := s1.rdec.queue.filter (fun j => !mine j), held := s1.rdec.held.filter (fun j => !mine j) }.refill }
  classify n l.sec (ladderClass l.rereads e) (endEvents n e (recordLadder n l (some e) s2))

/-- A ladder goes on from level `lvl`, index `step`: it waits for its next step there, or ends at L7 (R126), or on an
Abort (R134). -/
def advanceLadder (n : Fin 4) (l : Ladder) (lvl step : Nat) (s : State) : State :=
  if l.aborted then endLadder n l .ended s
  else match s.nextStep n l lvl step with
  | none => endLadder n l .failed s
  | some (v, k) =>
    let l1 := { l with level := v, step := k, phase := .waiting }
    recordLadder n l1 none (s.setLadder n l1)

/-- A host Abort reaches a ladder (R134): one that waits ends at once, one with a step in progress at its end. -/
def abortLadder (n : Fin 4) (id : Nat) (s : State) : State :=
  match (s.avn n).ladders.find? (fun l => l.id == id) with
  | none => s
  | some l => if l.phase = .waiting then endLadder n l .ended s else s.setLadder n { l with aborted := true }

/-- The step in progress of a ladder fails (R126, R128): at L1 the pin is released; the ladder goes on. -/
def stepFailed (n : Fin 4) (l : Ladder) (s : State) : State :=
  if l.level = 1 then advanceLadder n { l with pinned := false } 1 1 (unpin n l s)
  else advanceLadder n l l.level (l.step + 1) s

/-- The step in progress of a ladder ends with an outcome of Table 4-4 (R126). -/
def stepEnded (n : Fin 4) (l : Ladder) (o : SectorOutcome) (s : State) : State :=
  match o with
  | .good => endLadder n l (.recovered l.level) s
  | .layoutMismatch | .headerFault | .misplaced => endLadder n l (.outcome o) s
  | _ => stepFailed n l s

/-- An on-the-fly failure (R124, R126): the sector is pinned or counted, and its ladder starts. -/
def startLadder (n : Fin 4) (sec : SectorRead) (s : State) : State :=
  let s1 := s.bump (AV_LADCNT0_OTFFAIL n)
  let pmax := s1.get (AV_LADLIM_PINMAX n)
  let pins := s1.get (AV_STORESTAT_PINNED n)
  let pin := decide (pins < pmax)
  let s2 := if pin then s1.put (AV_STORESTAT_PINNED n) (pins + 1)
    else if 0 < pmax then (s1.bump (AV_STORESTAT_PINFULL n)).raise (avSrc n 54)
    else s1
  let l : Ladder := { id := (s2.avn n).nextLadder, sec := sec, level := 0, step := 0, rereads := 0, pinned := pin,
                      allMarks := sec.marks, phase := .waiting, aborted := false }
  let s3 := s2.modAv n (fun a => { a with ladders := a.ladders ++ [l], nextLadder := a.nextLadder + 1 })
  advanceLadder n l 1 0 (s3.raise (avSrc n 48))

/-! ### Budget (Table 4-5, R133) -/

/-- The cost of an L1 step, in 10 ns units. -/
def State.costL1 (s : State) (c : Nat) : Nat :=
  680 + 1660 * (2 + ceilDiv (s.rdec.ahead c + (if c = 2 then 0 else 4)) 2)

/-- The remaining budget `rem`, in 10 ns units, is less than the cost of a step of level `lvl` for a read of class `c`.
T_rev is 60 s over the measured speed, which SPN_SPEED holds in 1/1,024 rpm. -/
def State.overBudget (s : State) (lvl c : Nat) (rem : Int) : Bool :=
  if lvl = 1 then decide (rem < s.costL1 c)
  else
    let fixed : Int := if lvl = 6 then 1870000 else 10000
    decide ((rem - fixed) * s.speed < 6000000000 * 1024)

/-- A ladder's next step may not start for want of budget (R133); a read without a deadline is never checked. -/
def State.outOfTime (s : State) (l : Ladder) : Bool :=
  l.sec.ctx.deadline != 0 && s.overBudget l.level l.cls ((l.sec.ctx.deadline : Int) - s.time)

/-! ### Re-reads -/

/-- The sector that a re-read step now reads is displaced (R130): the step ends without counting and runs again. -/
def displaced (l : Ladder) : Ladder :=
  if l.phase = .running ∧ 2 ≤ l.level ∧ l.level ≤ 5 then { l with phase := .waiting } else l

/-- The re-reads in progress of Avenue `n` are displaced (R130, R210). -/
def State.displaceRereads (s : State) (n : Fin 4) : State := s.modAv n (fun a => { a with ladders := a.ladders.map displaced })

/-- The ladder whose re-read step `(lvl, k)` reads the sector at `addr` now. -/
def State.rereadOf (s : State) (n : Fin 4) (addr : SectorAddr) (lvl k : Nat) : Option Ladder :=
  (s.avn n).ladders.find? (fun l => decide (l.sec.addr = addr ∧ l.level = lvl ∧ l.step = k ∧ l.phase = .running))

/-- A re-read of a sector ends with an outcome: one more attempt of its ladder (R126, R128). -/
def rereadEnded (n : Fin 4) (sec : SectorRead) (lvl k : Nat) (o : SectorOutcome) (s : State) : State :=
  match s.rereadOf n sec.addr lvl k with
  | none => s
  | some l => stepEnded n { l with rereads := l.rereads + 1, allMarks := l.allMarks && sec.marks } o s

/-- The re-read steps of a track that an entry ended with a status other than Done serves fail (R128): those whose
sector was not read. -/
def failRereads (n : Fin 4) (cyl face lvl k : Nat) (s : State) : State :=
  ((s.avn n).ladders.filter (fun l => decide (l.level = lvl ∧ l.step = k ∧ l.phase = .running ∧
      l.sec.addr.cyl = cyl ∧ l.sec.addr.face = face)
      && !(s.avn n).decoding.any (fun r => r.addr == l.sec.addr))).foldl (fun t l => stepFailed n l t) s

/-! ### The end of a sector's decode (R172) -/

/-- A sector's outcome is determined (R125, R171, R172): queued for microcode, delivered, given to its ladder. -/
def finishSector (n : Fin 4) (sec : SectorRead) (o : SectorOutcome) (block : List Byte) (s : State) : State :=
  let s1 := (outcomeEvents n o s).modSeq n (fun q =>
    { q with outcomes := q.outcomes ++ [⟨o, sec.laneLost, sec.addr.slot⟩] })
  let s2 := if o = .good ∧ sec.verify = false then
      s1.modAv n (fun a => { a with delivered := a.delivered ++ [(sec.ctx.handle, sec.addr.slot, block)] })
    else s1
  match sec.ctx.reread with
  | some (lvl, k) => rereadEnded n sec lvl k o s2
  | none => if needsLadder o then startLadder n sec s2 else if o = .good then unscheduled n sec s2 else s2

/-- The oldest sectors that are not decoded (a mark miss with FLYWHEEL = 0) have their outcome (R77). -/
def drainMisses (n : Fin 4) : Nat → State → State
  | 0, s => s
  | k + 1, s =>
    match (s.avn n).decoding with
    | sec :: rest =>
      if sec.decode then s
      else drainMisses n k (finishSector n sec .markMiss [] (s.modAv n (fun a => { a with decoding := rest })))
    | [] => s

end Sys2Proof.Machine
end

