-- ==== Sys2Proof/Machine/Admin.lean ====
section
/-! DEFINITION. Meanings of the admin commands of queues, features, identify data, log pages and Abort (spec 12.3, 13.6 and
13.8). -/

namespace Sys2Proof.Machine

/-! ### Queues (R366, R367) -/

/-- An I/O command that a queue's deletion ends (Table 13-2): a read, a write whose placement has not begun, or an Arcade
command before its commit point. -/
def Cmd.endable (c : Cmd) : Bool :=
  if arcOp c.sqe.opcode && c.cls != 2 then c.sqe.opcode != 0x80 && !c.committed && !(c.phase == .done)
  else c.phase == .fetched && c.cls != 2 && [1, 2, 0xC].contains c.sqe.opcode

/-- A command ends with a status of its own, and an Arcade command leaves its context. -/
def State.endCmd (s : State) (tag sct sc : Nat) : State := (s.endRun tag).complete tag sct sc 0

/-- DELETE_IO_SUBMISSION_QUEUE: CDW10[15:0]. Its commands end with Commands Aborted due to SQ Deletion where Table 13-2
says so; the others complete. -/
def deleteSq (tag : Nat) (s : State) : State :=
  match s.adminCmd tag 0 with
  | none => s
  | some c =>
    let qid := bitsOf c.sqe.c10 0 16
    if qid = 0 ∨ !(s.ctl c.fn).sqs.any (fun q => q.qid == qid) then s.complete tag 1 1 0
    else
      let gone := s.rbt.cmds.filter (fun d => d.fn == c.fn && d.sq == qid && d.endable)
      let s1 := gone.foldl (fun t d => t.endCmd d.tag 0 8) s
      (s1.modCtl c.fn (fun k => { k with sqs := k.sqs.filter (fun q => q.qid != qid) })).ok tag

/-- DELETE_IO_SUBMISSION_QUEUE. -/
def execDeleteIoSubmissionQueue (tag : Nat) (s : State) : Host.Outcome State Fault Refusal := .next (deleteSq tag s)

/-- A queue identifier may be created: 1 to IOQ, and not in use (R366). -/
def newQid (c : Controller) (used : List Nat) (qid : Nat) : Bool := decide (1 ≤ qid ∧ qid ≤ c.ioq) && !used.contains qid

/-- CREATE_IO_SUBMISSION_QUEUE: CDW10 [15:0] QID, [31:16] size minus 1; CDW11 [0] contiguous, [2:1] priority, [31:16] CQID. -/
def createSq (tag : Nat) (s : State) : State :=
  match s.adminCmd tag 1 with
  | none => s
  | some c =>
    let k := s.ctl c.fn
    let qid := bitsOf c.sqe.c10 0 16
    let size := bitsOf c.sqe.c10 16 16 + 1
    let cq := bitsOf c.sqe.c11 16 16
    if cq = 0 ∨ !k.cqs.any (fun q => q.qid == cq) then s.complete tag 1 0 0
    else if !newQid k (k.sqs.map SubQueue.qid) qid then s.complete tag 1 1 0
    else if size < 2 ∨ 4096 < size then s.complete tag 1 2 0
    else if bitsOf c.sqe.c11 0 1 = 0 then s.refuse tag 0
    else (s.modCtl c.fn (fun k => { k with sqs := k.sqs ++ [⟨qid, size, 0, 0, cq, bitsOf c.sqe.c11 1 2⟩] })).ok tag

/-- CREATE_IO_SUBMISSION_QUEUE. -/
def execCreateIoSubmissionQueue (tag : Nat) (s : State) : Host.Outcome State Fault Refusal := .next (createSq tag s)

/-- DELETE_IO_COMPLETION_QUEUE: refused while a submission queue is bound to it. -/
def deleteCq (tag : Nat) (s : State) : State :=
  match s.adminCmd tag 4 with
  | none => s
  | some c =>
    let k := s.ctl c.fn
    let qid := bitsOf c.sqe.c10 0 16
    if qid = 0 ∨ !k.cqs.any (fun q => q.qid == qid) then s.complete tag 1 1 0
    else if k.sqs.any (fun q => q.cq == qid) then s.complete tag 1 0xC 0
    else
      let left := ((k.cqs.find? (fun q => q.qid == qid)).map CompQueue.waiting).getD []
      let s1 := s.modCtl c.fn (fun k => { k with cqs := k.cqs.filter (fun q => q.qid != qid) })
      (left.foldl (fun t x => t.dropCmd x.tag) s1).ok tag

/-- DELETE_IO_COMPLETION_QUEUE. -/
def execDeleteIoCompletionQueue (tag : Nat) (s : State) : Host.Outcome State Fault Refusal := .next (deleteCq tag s)

/-- CREATE_IO_COMPLETION_QUEUE: the interrupt vector lies below MSIX (R367). -/
def createCq (tag : Nat) (s : State) : State :=
  match s.adminCmd tag 5 with
  | none => s
  | some c =>
    let k := s.ctl c.fn
    let qid := bitsOf c.sqe.c10 0 16
    let size := bitsOf c.sqe.c10 16 16 + 1
    let iv := bitsOf c.sqe.c11 16 16
    if !newQid k (k.cqs.map CompQueue.qid) qid then s.complete tag 1 1 0
    else if size < 2 ∨ 4096 < size then s.complete tag 1 2 0
    else if k.msix ≤ iv then s.complete tag 1 8 0
    else if bitsOf c.sqe.c11 0 1 = 0 then s.refuse tag 0
    else (s.modCtl c.fn (fun k => { k with cqs := k.cqs ++ [⟨qid, size, 0, 0, iv, [], false⟩] })).ok tag

/-- CREATE_IO_COMPLETION_QUEUE. -/
def execCreateIoCompletionQueue (tag : Nat) (s : State) : Host.Outcome State Fault Refusal := .next (createCq tag s)

/-! ### Features (Table 13-7) -/

/-- Features that a controller keeps, by identifier: one value, or one for each index of CDW11. -/
def ctlFeature (fid : Nat) : Bool := [1, 2, 4, 6, 7, 8, 9, 0xB, 0x81, 0x82].contains fid
/-- Features of a namespace. -/
def nsFeature (fid : Nat) : Bool := [5, 0x83, 0xC0].contains fid

/-- Where a controller feature's value is kept: thresholds by sensor and type, vectors by index. -/
def featureKey (fid c11 : Nat) : Nat :=
  if fid = 4 then 4 + 256 * (1 + bitsOf c11 16 6) else if fid = 9 then 9 + 256 * (1 + bitsOf c11 0 16) else fid

/-- The namespaces that a feature names: one attached to the controller, or all of them. -/
def State.featureNs (s : State) (c : Cmd) : List Nat :=
  ((s.host.ns.filter (fun n => n.attached.contains c.fn && (n.nsid == c.sqe.nsid || c.sqe.nsid == 0xFFFFFFFF))).map Namespace.nsid)

/-- Number of Queues: the lower of the number requested and IOQ, each minus 1 (R366). -/
def queueCount (ioq c11 : Nat) : Nat :=
  min (bitsOf c11 0 16) (ioq - 1) + 65536 * min (bitsOf c11 16 16) (ioq - 1)

/-- SET_FEATURES: CDW10 [7:0] the feature, [31] save (not supported); CDW11 its value. -/
def setFeatures (tag : Nat) (data : List Byte) (s : State) : State :=
  match s.adminCmd tag 9 with
  | none => s
  | some c =>
    let fid := bitsOf c.sqe.c10 0 8
    let v := c.sqe.c11
    let keep (x : Nat) : State := s.modCtl c.fn (fun k => { k with features := KMap.set featDefault k.features (featureKey fid v) x })
    if !(ctlFeature fid || nsFeature fid) then s.refuse tag 0
    else if bitsOf c.sqe.c10 31 1 = 1 then s.complete tag 1 0xD 0
    else if nsFeature fid then
      let on := s.featureNs c
      if on.isEmpty then s.complete tag 0 0xB 0
      else if fid = 5 ∧ bitsOf v 16 1 = 1 then s.refuse tag 0
      else (on.foldl (fun t k => t.modNs k (fun n =>
        if fid = 5 then { n with tler := bitsOf v 0 16 }
        else if fid = 0xC0 then { n with tlo := bitsOf v 0 1 == 1 }
        else { n with resv := { n.resv with ptpl := bitsOf v 0 1 == 1 } })) s).ok tag
    else match fid with
      | 2 => if bitsOf v 0 5 = 0 then (keep v).ok tag else s.refuse tag 0
      | 7 => if bitsOf v 0 16 = 65535 ∨ bitsOf v 16 16 = 65535 then s.refuse tag 0
        else (keep (queueCount (s.ctl c.fn).ioq v)).ok tag (queueCount (s.ctl c.fn).ioq v)
      | 6 => (keep (bitsOf v 0 1)).ok tag
      | 9 => if (s.ctl c.fn).msix ≤ bitsOf v 0 16 then s.refuse tag 0 else (keep v).ok tag
      | 0x81 => (keep (ofLe (data.take (if bitsOf v 0 1 = 1 then 16 else 8)))).ok tag
      | _ => (keep v).ok tag

/-- SET_FEATURES. -/
def execSetFeatures (tag : Nat) (data : List Byte) (s : State) : Host.Outcome State Fault Refusal := .next (setFeatures tag data s)

/-- GET_FEATURES: the current value, or the default where CDW10[10:8] asks for it. -/
def getFeatures (tag : Nat) (s : State) : State :=
  match s.adminCmd tag 0xA with
  | none => s
  | some c =>
    let fid := bitsOf c.sqe.c10 0 8
    let k := s.ctl c.fn
    let key := featureKey fid c.sqe.c11
    let dflt := bitsOf c.sqe.c10 8 3 = 1
    if nsFeature fid then
      match s.host.ns.find? (fun n => n.nsid == c.sqe.nsid && n.attached.contains c.fn) with
      | none => s.complete tag 0 0xB 0
      | some n => s.ok tag (if dflt then (if fid = 0x83 then 1 else 0)
        else if fid = 5 then n.tler else if fid = 0xC0 then (if n.tlo then 1 else 0) else if n.resv.ptpl then 1 else 0)
    else if !ctlFeature fid then s.refuse tag 0
    else if fid = 7 then
      s.ok tag (if dflt ∨ !k.features.any (fun x => x.1 == 7) then (k.ioq - 1) * 65537 else k.feat 7)
    else if fid = 0x81 then
      (s.answer tag (leBytes (if bitsOf c.sqe.c11 0 1 = 1 then 16 else 8) (if dflt then 0 else k.feat 0x81))).ok tag
    else s.ok tag (if dflt then featDefault key else k.feat key)

/-- GET_FEATURES. -/
def execGetFeatures (tag : Nat) (s : State) : Host.Outcome State Fault Refusal := .next (getFeatures tag s)

/-- ASYNCHRONOUS_EVENT_REQUEST: it takes a waiting event, or waits for one. -/
def asyncRequest (tag : Nat) (s : State) : State :=
  match s.adminCmd tag 0xC with
  | none => s
  | some c => match (s.ctl c.fn).events with
    | e :: rest => (s.modCtl c.fn (fun k => { k with events := rest })).ok tag (asyncWord e.1 e.2)
    | [] => (s.modCtl c.fn (fun k => { k with aers := k.aers ++ [tag] })).modCmd tag (fun d => { d with phase := .parked })

/-- ASYNCHRONOUS_EVENT_REQUEST. -/
def execAsynchronousEventRequest (tag : Nat) (s : State) : Host.Outcome State Fault Refusal := .next (asyncRequest tag s)

/-! ### Identify (Table 12-5) -/

/-- Bytes with some replaced: each replacement is an offset and bytes. -/
def patched (base : Nat → Byte) (n : Nat) (ps : List (Nat × List Byte)) : List Byte :=
  (List.range n).map (fun i => match ps.find? (fun p => decide (p.1 ≤ i ∧ i < p.1 + p.2.length)) with
    | some p => p.2.getD (i - p.1) 0
    | none => base i)

/-- The identify data of a controller: the values that Table 12-5 and the other chapters give, and otherwise the
implementation's. -/
def State.identifyController (s : State) (f : Nat) : List Byte :=
  patched (Config.identifyByte 1 f) 4096 [
    (0, leBytes 2 Config.vendorId.toNat), (2, leBytes 2 (s.get HST_SSID_SSVID)), (4, (List.finRange 20).map Config.serial)
    , (77, [9]), (78, leBytes 2 (f + 1)), (80, leBytes 4 0x00020000), (88, leBytes 4 5000000), (258, [7]), (260, [0x14])
    , (270, leBytes 2 40), (328, leBytes 4 1), (516, leBytes 4 1024), (520, leBytes 2 0xAC), (526, leBytes 2 0)
    , (528, leBytes 2 63), (536, leBytes 4 0)]

/-- The identify data of a namespace (R368, R371, Table 12-5). -/
def identifyNamespace (n : Namespace) : List Byte :=
  patched (Config.identifyByte 0 n.nsid) 4096 [
    (0, leBytes 8 n.size), (8, leBytes 8 n.size), (16, leBytes 8 n.size), (25, [2]), (26, leBytes 1 n.lbaf), (27, [2])
    , (29, leBytes 1 n.pi), (31, [0x7F]), (33, [9]), (128, [0, 0, 12]), (132, [8, 0, 12]), (136, [16, 0, 12])]

/-- IDENTIFY: CDW10[7:0] selects a namespace (0), the controller (1), or the active namespaces above an NSID (2). -/
def identify (tag : Nat) (s : State) : State :=
  match s.adminCmd tag 6 with
  | none => s
  | some c =>
    match bitsOf c.sqe.c10 0 8 with
    | 0 =>
      if c.sqe.nsid = 0 ∨ 1024 < c.sqe.nsid then s.complete tag 0 0xB 0
      else match s.nsFor c.fn c.sqe.nsid with
        | some n => (s.answer tag (identifyNamespace n)).ok tag
        | none => (s.answer tag (List.replicate 4096 0)).ok tag
    | 1 => (s.answer tag (s.identifyController c.fn)).ok tag
    | 2 =>
      let ids := ((List.range 1024).map (· + 1)).filter (fun k => decide (c.sqe.nsid < k) && (s.nsFor c.fn k).isSome)
      (s.answer tag ((ids.flatMap (leBytes 4) ++ List.replicate 4096 0).take 4096)).ok tag
    | _ => s.refuse tag 0

/-- IDENTIFY. -/
def execIdentify (tag : Nat) (s : State) : Host.Outcome State Fault Refusal := .next (identify tag s)

/-! ### Log pages (Tables 13-8, 13-9, 19-8, 20-7; R434, R526) -/

/-- The Error Information log: 64 entries of 64 bytes, newest first. -/
def errorLog (c : Controller) : List Byte :=
  let one (e : ErrorInfo) : List Byte := leBytes 8 e.count ++ leBytes 2 e.sq ++ leBytes 2 e.cid ++ leBytes 2 (2 * e.sc + 512 * e.sct)
    ++ leBytes 2 0 ++ leBytes 8 e.lba ++ leBytes 4 0 ++ leBytes 4 e.qual ++ List.replicate 32 0
  ((c.errors.flatMap one) ++ List.replicate 4096 0).take 4096

/-- Decimal digits of a number as 8 ASCII bytes, padded with spaces (R541). -/
def decimal8 (n : Nat) : List Byte := (((Nat.toDigits 10 n).map (fun ch : Char => BitVec.ofNat 8 ch.toNat)) ++ List.replicate 8 0x20).take 8

/-- The Firmware Slot Information log (R541): slot 1 is manifest slot A and slot 2 is slot B. -/
def State.slotLog (s : State) : List Byte :=
  let revOf (m : Option Image) : List Byte := match m with
    | some im => decimal8 im.build
    | none => List.replicate 8 0
  let next := if s.pwr.active = s.is PWR_IMG_RUN then 0 else if s.pwr.active then 2 else 1
  leBytes 8 ((if s.is PWR_IMG_RUN then 2 else 1) + 16 * next) ++ revOf s.pwr.slotA ++ revOf s.pwr.slotB ++ List.replicate 488 0

/-- The Fault summary log (Table 19-8). -/
def State.faultLog (s : State) : List Byte :=
  leBytes 8 s.flt.events ++ leBytes 8 s.flt.blockResets ++ leBytes 8 s.flt.chipResets ++ leBytes 8 s.flt.escalations
    ++ List.replicate 32 0 ++ (List.range 1152).flatMap (fun k =>
      let x := KMap.get (fun _ => (⟨0, 0, 0⟩ : SrcCount)) s.flt.perSource k
      leBytes 2 (min 65535 x.events) ++ leBytes 1 (min 255 x.reacts) ++ leBytes 1 (min 255 x.trans))

/-- The Circulating records log: from the mirror and then from SRAM. -/
def State.circLog (s : State) : List Byte :=
  let rs := s.recd.mirror.flatten.filter (fun r => !s.recd.circ.any (fun x => x.seq == r.seq)) ++ s.recd.circ
  leBytes 4 ((rs.head?.map RecEntry.seq).getD 0) ++ leBytes 4 ((rs.getLast?.map RecEntry.seq).getD 0) ++ leBytes 4 rs.length
    ++ List.replicate 84 0 ++ rs.flatMap recordBytes

/-- The Founding records log: 256 slots. -/
def State.foundLog (s : State) : List Byte :=
  ((s.recd.found.flatMap recordBytes) ++ List.replicate (256 * 96) 0xFF).take (256 * 96)

/-- The Start and power log (Table 20-7). -/
def State.powerLog (s : State) : List Byte :=
  leBytes 1 (s.get PWR_START_CDS) ++ leBytes 1 (s.get PWR_START_STOP) ++ leBytes 1 (s.get PWR_START_ATTEMPTS)
    ++ leBytes 1 (s.get PWR_IMG_RUN + 2 * s.get PWR_IMG_COMB) ++ ((List.range 4).flatMap (fun i => leBytes 4 (s.pwr.log.getD i 0)))
    ++ leBytes 8 (s.pwr.log.getD 4 0) ++ List.replicate 36 0

/-- The Arcade log (R434). -/
def State.arcadeLog (s : State) : List Byte :=
  ((List.range 9).flatMap (fun i => leBytes 8 (s.arc.log.getD i 0))) ++ leBytes 4 (s.rd ARC_VER).toNat

/-- The Roundabout log (Table 13-9). -/
def State.roundaboutLog (s : State) : List Byte :=
  ((List.range 7).flatMap (fun i => leBytes 8 (s.rbt.log.getD i 0))) ++ List.replicate 456 0

/-- The bytes of a log page, where the device has it. Pages whose layout the spec leaves to the standard, and pages that
no chapter names, have the implementation's bytes, or none. -/
def State.logPage (s : State) (f lid : Nat) : Option (List Byte) :=
  match lid with
  | 1 => some (errorLog (s.ctl f))
  | 3 => some s.slotLog
  | 4 => some (((s.ctl f).changedNs.flatMap (leBytes 4) ++ List.replicate 4096 0).take 4096)
  | 0xC0 => some s.roundaboutLog
  | 0xC1 => some s.faultLog
  | 0xC2 => some s.circLog
  | 0xC3 => some s.foundLog
  | 0xC4 => some s.powerLog
  | 0xCA => some s.arcadeLog
  | 2 => some (patched (Config.logByte 2 f) 512 [
      (0, leBytes 1 (255 - s.miWarnings)), (1, leBytes 2 (Int.toNat (s.geti PWR_THERM_TJ + 273))), (5, leBytes 1 s.percentUsed)])
  | 5 | 0x80 | 0x81 => some ((List.range 4096).map (Config.logByte lid f))
  | _ => none

/-- GET_LOG_PAGE: CDW10 [7:0] the log, [31:16] and CDW11 [15:0] dwords minus 1, CDW12 and CDW13 the offset. The recorder's
logs are the owner session's (R526); reading the changed namespaces empties their list. -/
def getLogPage (tag : Nat) (s : State) : State :=
  match s.adminCmd tag 2 with
  | none => s
  | some c =>
    let lid := bitsOf c.sqe.c10 0 8
    let len := 4 * (bitsOf c.sqe.c10 16 16 + 65536 * bitsOf c.sqe.c11 0 16 + 1)
    let off := c.sqe.c12 + 2 ^ 32 * c.sqe.c13
    if [0xC1, 0xC2, 0xC3].contains lid && !c.owner then s.complete tag 2 0x86 0
    else match s.logPage c.fn lid with
      | none => s.complete tag 1 9 0
      | some bytes =>
        let s1 := if lid = 4 then s.modCtl c.fn (fun k => { k with changedNs := [] }) else s
        (s1.answer tag ((bytes.drop off).take len)).ok tag

/-- GET_LOG_PAGE. -/
def execGetLogPage (tag : Nat) (s : State) : Host.Outcome State Fault Refusal := .next (getLogPage tag s)

/-! ### Abort (R402, R429) -/

/-- The command that an Abort names: a submission queue and a command identifier of the same controller. -/
def State.aborted? (s : State) (c : Cmd) : Option Cmd :=
  s.rbt.cmds.find? (fun d => d.fn == c.fn && d.sq == bitsOf c.sqe.c10 0 16 && d.sqe.cid == bitsOf c.sqe.c10 16 16
    && !(d.phase == .done) && d.tag != c.tag)

/-- ABORT: at most eight are outstanding. A command that it ends completes with Command Abort Requested, and the Abort
completes after it (DW0 bit 0 is 0); otherwise the Abort completes at once with bit 0 at 1. -/
def abortCmd (tag : Nat) (ladders : List (Fin 4 × Nat)) (s : State) : State :=
  match s.adminCmd tag 8 with
  | none => s
  | some c =>
    if 8 ≤ (s.ctl c.fn).aborts.length then (s.raise 153).complete tag 1 3 0
    else match (s.aborted? c).filter Cmd.endable with
      | none => s.ok tag 1
      | some d =>
        let arc := arcOp d.sqe.opcode
        let s1 := ladders.foldl (fun t l => abortLadder l.1 l.2 t) s
        let s2 := (s1.endCmd d.tag 0 7).modCtl c.fn (fun k => { k with aborts := k.aborts ++ [(tag, d.tag)] })
        let s3 := if arc then (s2.bump ARC_CNT0_ABORTS).raise 1041 else s2
        (({ s3 with rbt := { s3.rbt with log := s3.rbt.log.modify 3 (· + 1) } }).raise 144).modCmd tag (fun x =>
          { x with phase := .parked })

/-- ABORT. -/
def execAbort (tag : Nat) (ladders : List (Fin 4 × Nat)) (s : State) : Host.Outcome State Fault Refusal :=
  .next (abortCmd tag ladders s)

end Sys2Proof.Machine
end

