-- ==== Sys2Proof/Machine/ArcadeOps.lean ====
section
/-! DEFINITION. Shared operations of the Arcade (spec 14): control blocks, the object index, digests, fragments, contexts and
the ends of commands. -/

namespace Sys2Proof.Machine

/-! ### Control blocks (Table 14-3) -/

/-- The number in `n` bytes of a control block from byte `lo`. -/
def cbNum (cb : List Byte) (lo n : Nat) : Nat := ofLe ((cb.drop lo).take n)

/-- FLAGS: BARRIER, SELFCHK, REPLACE, DEALLOC, CHAIN, FINAL. -/
def cbFlag (cb : List Byte) (k : Nat) : Bool := (cbNum cb 3 1).testBit k
/-- DALG and FRAME. -/
def cbDalg (cb : List Byte) : Nat := cbNum cb 4 1 % 16
def cbFrame (cb : List Byte) : Nat := cbNum cb 4 1 / 16
def cbKey (cb : List Byte) : List Byte := (cb.drop 24).take (cbNum cb 5 1)
def cbAfter (cb : List Byte) : List Byte := (cb.drop 272).take (cbNum cb 336 1)
def cbXdigest (cb : List Byte) : List Byte := (cb.drop 88).take 48
/-- CTXV: the persistent context named by CTX is used. -/
def cbCtxv (cb : List Byte) : Bool := (cbNum cb 7 1).testBit 0
/-- SRC = 1: an LBA range. -/
def cbRange (cb : List Byte) : Bool := cbNum cb 136 1 == 1
/-- The extents of a Put: first LBA and count. -/
def cbExtents (cb : List Byte) : List (Nat × Nat) :=
  (List.range (min 12 (cbNum cb 139 1))).map (fun i => (cbNum cb (152 + 10 * i) 6, cbNum cb (158 + 10 * i) 4))

/-- The bytes of a command's data buffer (Table 14-1). -/
def arcBuffer (e : Sqe) : Nat := 4096 * (bitsOf e.c10 0 9 + 1)

/-- Opcodes of Table 14-2. -/
def arcContextOp : Nat := 0x80
def arcGetOp : Nat := 0x82
def arcPutOp : Nat := 0x84
def arcDeleteOp : Nat := 0x88
def arcListOp : Nat := 0x8A
def arcEncodeOp : Nat := 0x8E
def arcDigestOp : Nat := 0x90
def arcVerifyOp : Nat := 0x94

/-- The service reads a source (14.3). -/
def arcSourced (op : Nat) : Bool := op == arcEncodeOp || op == arcDigestOp || op == arcVerifyOp

/-- The service names a key. -/
def arcKeyed (op : Nat) (cb : List Byte) : Bool :=
  op == arcGetOp || op == arcPutOp || op == arcDeleteOp || (arcSourced op && !cbRange cb)

/-- The persistent context of a controller's handle. -/
def State.persistOf (s : State) (f h : Nat) : Option ArcContext := s.arc.persist.find? (fun x => x.fn == f && x.handle == h)

/-- The offset of the first field that a service's rules refuse (R414); 0xFFFF stands for a broken command dword. -/
def State.cbCheck (s : State) (f : Nat) (e : Sqe) (cb : List Byte) : Option Nat :=
  let op := e.opcode
  let len := cbNum cb 16 8
  let klen := cbNum cb 5 1
  let act := cbNum cb 137 1
  let held := (s.persistOf f (cbNum cb 6 1)).isSome
  let rules : List (Nat × Bool) := [
    (0xFFFF, bitsOf e.c10 9 23 != 0 || bitsOf e.c13 0 24 != 0 || e.c14 % 64 != 0 || decide (4096 < e.c14 % 4096 + 512)),
    (0, cbNum cb 0 2 != 1),
    (2, cbNum cb 2 1 != op),
    (3, decide (64 ≤ cbNum cb 3 1)),
    (4, decide (2 < cbDalg cb) || decide (1 < cbFrame cb) || (op == arcDigestOp && cbFlag cb 4 && cbFrame cb == 1)),
    (5, decide (64 < klen) || (arcKeyed op cb && klen == 0)),
    (6, (cbCtxv cb || (op == arcContextOp && act == 2)) && !held),
    (7, decide (1 < cbNum cb 7 1)),
    (16, (arcSourced op && cbRange cb && len == 0) || (op == arcPutOp && (len == 0 || decide (2 ^ 40 < len)))
      || (op == arcGetOp && decide (arcBuffer e < len))),
    (24, ((cb.drop (24 + klen)).take (64 - klen)).any (fun b => b != 0)),
    (136, arcSourced op && decide (1 < cbNum cb 136 1)),
    (137, (op == arcEncodeOp && !decide (1 ≤ act ∧ act ≤ 32)) || (op == arcContextOp && act != 1 && act != 2)),
    (138, op == arcEncodeOp && !decide (1 ≤ cbNum cb 138 1 ∧ cbNum cb 138 1 ≤ 16)),
    (139, op == arcPutOp && !decide (1 ≤ cbNum cb 139 1 ∧ cbNum cb 139 1 ≤ 12)),
    (140, op == arcListOp && !decide (1 ≤ cbNum cb 140 4 ∧ cbNum cb 140 4 ≤ 8192 ∧ 256 * cbNum cb 140 4 ≤ arcBuffer e)),
    (336, op == arcListOp && decide (64 < cbNum cb 336 1)),
    (337, ((cb.drop 337).take 47).any (fun b => b != 0))]
  (rules.find? Prod.snd).map Prod.fst

/-! ### Results (Table 14-3, bytes 384 to 511) -/

/-- The result fields. -/
structure ArcOut where
  outcome : Nat := 0
  more : Nat := 0
  objlen : Nat := 0
  version : Nat := 0
  count : Nat := 0
  faillba : Nat := 2 ^ 64 - 1
  errfield : Nat := 0xFFFF
  digest : List Byte := []
  fraglen : Nat := 0
  deriving DecidableEq, Repr

/-- The 128 result bytes. -/
def ArcOut.bytes (o : ArcOut) (sct sc time : Nat) : List Byte :=
  leBytes 2 (256 * sct + sc) ++ leBytes 1 o.outcome ++ leBytes 1 o.more ++ leBytes 8 o.objlen ++ leBytes 8 o.version
    ++ leBytes 8 o.count ++ leBytes 8 o.faillba ++ leBytes 2 o.errfield ++ leBytes 2 0
    ++ (o.digest ++ List.replicate 48 0).take 48 ++ leBytes 8 o.fraglen ++ leBytes 8 time ++ List.replicate 24 0

/-- The result part of the control block is written (R413). -/
def State.cbResult (s : State) (tag : Nat) (o : ArcOut) (sct sc : Nat) : State :=
  { s with host := { s.host with results := s.host.results.filter (fun r => r.1 != tag) ++ [(tag, o.bytes sct sc s.time)] } }

/-- An Arcade command ends: result, context, completion. -/
def State.arcEnd (s : State) (tag : Nat) (o : ArcOut) (sct sc : Nat) (dw0 : Nat := 0) : State :=
  ((s.cbResult tag o sct sc).endRun tag).complete tag sct sc dw0

/-- The Arcade log's counter `k` rises (R434). -/
def State.arcLog (s : State) (k : Nat) (by' : Nat := 1) : State :=
  { s with arc := { s.arc with log := s.arc.log.modify k (· + by') } }

/-! ### Objects (R416, Table 14-4) -/

/-- Keys compare as unsigned bytes, and a key that is a prefix of another sorts first. -/
def keyLt : List Byte → List Byte → Bool
  | [], [] => false
  | [], _ :: _ => true
  | _ :: _, [] => false
  | a :: as, b :: bs => decide (a.toNat < b.toNat) || (a == b && keyLt as bs)

/-- An entry put in its place in ascending key order. -/
def insertEntry (e : ObjEntry) : List ObjEntry → List ObjEntry
  | [] => [e]
  | x :: xs => if keyLt e.key x.key then e :: x :: xs else x :: insertEntry e xs

/-- The entry of a key. -/
def Namespace.object (n : Namespace) (k : List Byte) : Option ObjEntry := n.objects.find? (fun e => e.key == k)

/-- The 256 bytes of an index entry. -/
def entryBytes (e : ObjEntry) : List Byte :=
  leBytes 2 e.key.length ++ leBytes 1 e.exts.length ++ leBytes 1 e.alg ++ leBytes 4 0 ++ leBytes 8 e.len ++ leBytes 8 e.version
    ++ (e.key ++ List.replicate 64 0).take 64 ++ (e.digest ++ List.replicate 48 0).take 48
    ++ (e.exts.flatMap (fun x : Nat × Nat => leBytes 6 x.1 ++ leBytes 4 x.2) ++ List.replicate 120 0).take 120

/-- The LBAs of extents, in order. -/
def extentBlocks (exts : List (Nat × Nat)) : List Nat := exts.flatMap (fun x : Nat × Nat => (List.range x.2).map (x.1 + ·))

/-- The extents of a Put are good (R417): their counts sum to the object's blocks, each lies inside the namespace, and no
two overlap. -/
def extentsOk (size len : Nat) : List (Nat × Nat) → Bool := fun exts =>
  decide ((exts.map Prod.snd).sum = ceilDiv len 4096) && exts.all (fun x => decide (x.1 + x.2 ≤ size))
    && exts.zipIdx.all (fun x => exts.zipIdx.all (fun y => x.2 == y.2
      || !decide (x.1.1 < y.1.1 + y.1.2 ∧ y.1.1 < x.1.1 + x.1.2)))

/-! ### Digests (R421, R422) -/

/-- H of DALG: SHA-256 or SHA-384, or nothing. -/
def hashOf (dalg : Nat) (m : List Byte) : List Byte := if dalg = 1 then sha256 m else if dalg = 2 then sha384 m else []

/-- Bytes in pieces of `n`. -/
def pieces (n : Nat) : Nat → List Byte → List (List Byte)
  | 0, _ => []
  | k + 1, m => if m.length ≤ n then [m] else m.take n :: pieces n k (m.drop n)

/-- The digest of source bytes under an ALG byte. -/
def arcDigest (alg : Nat) (m : List Byte) : List Byte :=
  let h := hashOf (alg % 16)
  if alg % 16 = 0 then []
  else if alg / 16 = 0 then h m
  else h ([1] ++ leBytes 8 m.length ++ (pieces 1048576 (max 1 (ceilDiv m.length 1048576)) m).flatMap (fun l => h (0 :: l)))

/-! ### Fragments (R424, R425) -/

/-- The length of a fragment. -/
def fragLen (len k : Nat) : Nat := 64 * ceilDiv len (64 * k)

/-- The coefficient of data fragment `i` in parity fragment `j`. -/
def cauchy (m j i : Nat) : Nat := gfInv 0x11D (j ^^^ (m + i))

/-- The data fragments: source bytes, zero beyond their end. -/
def dataFragments (src : List Byte) (k : Nat) : List (List Byte) :=
  let f := fragLen src.length k
  (List.range k).map (fun i => ((src.drop (i * f)).take f ++ List.replicate f 0).take f)

/-- Parity fragment `j`. -/
def parityFragment (ds : List (List Byte)) (m j f : Nat) : List Byte :=
  (List.range f).map (fun t => BitVec.ofNat 8 (ds.zipIdx.foldl (fun a d => a ^^^ gfMul 0x11D (cauchy m j d.2) ((d.1.getD t 0).toNat)) 0))

/-- What Encode returns: the parity fragments, and with a digest algorithm the digests of every fragment. -/
def encodeOut (src : List Byte) (k m dalg : Nat) : List Byte :=
  let ds := dataFragments src k
  let ps := (List.range m).map (fun j => parityFragment ds m j (fragLen src.length k))
  ps.flatten ++ (if dalg = 0 then [] else (ds ++ ps).flatMap (hashOf dalg))

/-- The length of a digest. -/
def digestLen (dalg : Nat) : Nat := if dalg = 1 then 32 else if dalg = 2 then 48 else 0

/-! ### Contexts (R426 to R428) -/

/-- The context that a command runs in. -/
def Cmd.ctx (c : Cmd) : Option Nat := match c.phase with
  | .running k => some k
  | _ => none

/-- A context is taken: by a running command, or held as a persistent one. -/
def State.ctxTaken (s : State) (k : Nat) : Bool := s.rbt.cmds.any (fun c => c.ctx == some k) || s.arc.persist.any (fun p => p.idx == k)

/-- The lowest free context of the 256. -/
def State.freeCtx (s : State) : Option Nat := (List.range 256).find? (fun k => !s.ctxTaken k)

/-- The run of a tag. -/
def State.arcRun (s : State) (tag : Nat) : Option ArcRun := s.arc.runs.find? (fun r => r.tag == tag)

/-- The state with a run changed. -/
def State.modRun (s : State) (tag : Nat) (f : ArcRun → ArcRun) : State :=
  { s with arc := { s.arc with runs := s.arc.runs.map (fun r => if r.tag = tag then f r else r) } }

/-- A command whose control block was read names a persistent context. -/
def State.namesCtx (s : State) (c : Cmd) (p : ArcContext) : Bool := match s.arcRun c.tag with
  | some r => c.fn == p.fn && cbCtxv r.cb && cbNum r.cb 6 1 == p.handle
  | none => false

/-- The context that a command may take now: its persistent one, when no command runs there and no earlier one waits for
it, or a free one. -/
def State.grantable (s : State) (c : Cmd) (cb : List Byte) : Option Nat :=
  if cbCtxv cb then
    match s.persistOf c.fn (cbNum cb 6 1) with
    | none => none
    | some p => if s.rbt.cmds.any (fun d => d.ctx == some p.idx || (decide (d.order < c.order) && s.namesCtx d p)) then none
      else some p.idx
  else s.freeCtx

/-- An earlier command that changes the namespace and has not completed (R427). -/
def State.barred (s : State) (c : Cmd) (n : Namespace) : Bool :=
  s.rbt.cmds.any (fun d => decide (d.order < c.order) && d.cls != 2 && !(d.phase == .done) && d.sqe.nsid == n.nsid
    && [1, 8, 9, 0x84, 0x88].contains d.sqe.opcode && s.tenOf d.fn == some n.ten)

/-- A BARRIER command, as a Put always is (R417). -/
def arcBarrier (op : Nat) (cb : List Byte) : Bool := cbFlag cb 0 || op == arcPutOp

end Sys2Proof.Machine
end

