-- ==== Sys2Proof/Machine/Arcade.lean ====
section
/-! DEFINITION. Meanings of the Arcade's commands, steps, context grants and channel requests (spec 14). -/

namespace Sys2Proof.Machine

/-! ### The services' results (R417 to R425) -/

/-- The part of a run's blocks that its source is. -/
def ArcRun.source (r : ArcRun) : List Byte := (r.data.drop r.skip).take r.len

/-- An index change: the entry of its key is replaced, or removed (R415, R428). -/
def State.indexPut (s : State) (n : Namespace) (e : ObjEntry) : State :=
  s.modNs n.nsid (fun m => { m with objects := insertEntry e (m.objects.filter (fun x => x.key != e.key)) })

/-- Put's steps 3 to 5 (R417), after its source is read. -/
def finishPut (tag : Nat) (n : Namespace) (r : ArcRun) (s : State) : State :=
  let d := arcDigest (cbNum r.cb 4 1) r.source
  let want := cbXdigest r.cb
  let key := cbKey r.cb
  let old := n.object key
  if old.isSome && !cbFlag r.cb 2 then s.arcEnd tag {} 7 0xD2
  else if cbDalg r.cb ≠ 0 ∧ want.any (fun b => b != 0) ∧ d ≠ want.take d.length then s.arcEnd tag {} 7 0xD6
  else if old.isNone && decide (n.icap ≤ n.objects.length) then ((s.bump ARC_CNT1_IDXFULL).raise 1038).arcEnd tag {} 7 0xD1
  else
    let v := ((old.map ObjEntry.version).getD 0) + 1
    let e : ObjEntry := ⟨key, cbExtents r.cb, cbNum r.cb 4 1, cbNum r.cb 16 8, v, d⟩
    (((s.indexPut n e).modCmd tag (fun c => { c with committed := true })).arcLog 0).arcEnd tag
      { objlen := e.len, version := v, digest := d } 0 0

/-- Digest (R422): of the source, or of everything appended to the context since it was opened or last finalised. -/
def finishDigest (tag : Nat) (c : Cmd) (r : ArcRun) (s : State) : State :=
  let src := r.source
  if cbCtxv r.cb && cbFlag r.cb 4 then
    match s.persistOf c.fn (cbNum r.cb 6 1) with
    | none => s.arcEnd tag { errfield := 6 } 0 2
    | some p =>
      let alg := if p.bytes.isEmpty then cbDalg r.cb else p.alg
      let all := p.bytes ++ src
      let last := cbFlag r.cb 5
      let s1 : State := { s with arc := { s.arc with persist := s.arc.persist.map (fun q : ArcContext =>
        if q.idx = p.idx then { q with alg := alg, bytes := if last then [] else all } else q) } }
      (s1.arcLog 4).arcEnd tag { count := src.length, digest := if last then hashOf alg all else [] } 0 0
  else (s.arcLog 4).arcEnd tag { count := src.length, digest := arcDigest (cbNum r.cb 4 1) src } 0 0

/-- Verify compares with the object's stored digest (R423). -/
def verifyStored (cb : List Byte) : Bool :=
  !cbRange cb && cbNum cb 8 8 == 0 && cbNum cb 16 8 == 0 && !(cbXdigest cb).any (fun b => b != 0)

/-- Verify's outcome (R423). -/
def finishVerify (tag : Nat) (r : ArcRun) (s : State) : State :=
  let stored := verifyStored r.cb
  let alg := if stored then (r.entry.map ObjEntry.alg).getD 0 else cbNum r.cb 4 1
  let d := arcDigest alg r.source
  let want := if stored then (r.entry.map ObjEntry.digest).getD [] else (cbXdigest r.cb).take d.length
  let o := if d = want then 0 else 1
  (if o = 1 then s.arcLog 5 else s).arcEnd tag { outcome := o, count := r.len, digest := d } 0 0

/-- Encode's output and results (R424, R425). -/
def finishEncode (tag : Nat) (r : ArcRun) (s : State) : State :=
  let k := cbNum r.cb 137 1
  let m := cbNum r.cb 138 1
  ((s.answer tag (encodeOut r.source k m (cbDalg r.cb))).arcLog 3).arcEnd tag
    { count := r.len, digest := arcDigest (cbNum r.cb 4 1) r.source, fraglen := fragLen r.len k } 0 0

/-- A command whose source is read ends. -/
def finishRun (c : Cmd) (n : Namespace) (r : ArcRun) (s : State) : State :=
  let op := c.sqe.opcode
  if op = arcPutOp then finishPut c.tag n r s
  else if op = arcGetOp then ((s.answer c.tag r.source).arcLog 2).arcEnd c.tag
    { objlen := (r.entry.map ObjEntry.len).getD 0, version := (r.entry.map ObjEntry.version).getD 0, count := r.len } 0 0
  else if op = arcDigestOp then finishDigest c.tag c r s
  else if op = arcVerifyOp then finishVerify c.tag r s
  else if op = arcEncodeOp then finishEncode c.tag r s
  else s

/-- A source is fixed: the blocks of a stream from byte `off`, `len` bytes; an empty one ends the command at once. -/
def beginSource (c : Cmd) (n : Namespace) (e : Option ObjEntry) (stream : List Nat) (off len : Nat) (s : State) : State :=
  let first := off / 4096
  let blocks := if len = 0 then [] else (stream.drop first).take (ceilDiv (off + len) 4096 - first)
  let s1 := s.modRun c.tag (fun r => { r with entry := e, blocks := blocks, skip := off % 4096, len := len, data := [] })
  match s1.arcRun c.tag with
  | some r => if blocks.isEmpty then finishRun c n r s1 else s1
  | none => s1

/-! ### A command starts (14.2, 14.3) -/

/-- Bytes of an object that OFFSET and LENGTH name: clipped at its end, and to its end for LENGTH = 0. -/
def clipped (cb : List Byte) (e : ObjEntry) : Nat × Nat :=
  let off := min (cbNum cb 8 8) e.len
  let len := cbNum cb 16 8
  (off, if len = 0 then e.len - off else min len (e.len - off))

/-- The command starts in its context (R417 to R424): it resolves its key or range. -/
def startRun (c : Cmd) (n : Namespace) (cb : List Byte) (s : State) : State :=
  let op := c.sqe.opcode
  let tag := c.tag
  let key := cbKey cb
  if op = arcDeleteOp then
    match n.object key with
    | none => s.arcEnd tag {} 7 0xD0
    | some e =>
      let s1 := ((s.modNs n.nsid (fun m => { m with objects := m.objects.filter (fun x => x.key != key) })).modCmd tag (fun d =>
        { d with committed := true })).arcLog 1
      let s2 := if cbFlag cb 3 then (extentBlocks e.exts).foldl (fun t l => t.dealloc n l) s1 else s1
      s2.arcEnd tag {} 0 0
  else if op = arcListOp then
    let after := cbAfter cb
    let hits := n.objects.filter (fun e => key.isPrefixOf e.key && (after.isEmpty || keyLt after e.key))
    let k := cbNum cb 140 4
    (s.answer tag ((hits.take k).flatMap entryBytes)).arcEnd tag { more := if k < hits.length then 1 else 0, count := min k hits.length } 0 0
  else if op = arcPutOp then
    let exts := cbExtents cb
    let len := cbNum cb 16 8
    if !extentsOk n.size len exts then s.arcEnd tag {} 7 0xD3
    else if (n.object key).isSome && !cbFlag cb 2 then s.arcEnd tag {} 7 0xD2
    else beginSource c n none (extentBlocks exts) 0 len s
  else if op ≠ arcGetOp ∧ cbRange cb then
    let off := cbNum cb 8 8
    let len := cbNum cb 16 8
    let slba := cbNum cb 144 8
    let count := ceilDiv (off + len) 4096
    if n.size < slba + count then s.arcEnd tag { errfield := 144 } 0 2
    else if op = arcEncodeOp ∧ arcBuffer c.sqe < cbNum cb 138 1 * fragLen len (cbNum cb 137 1)
        + (cbNum cb 137 1 + cbNum cb 138 1) * digestLen (cbDalg cb) then s.arcEnd tag { errfield := 137 } 0 2
    else beginSource c n none ((List.range count).map (slba + ·)) off len s
  else
    match n.object key with
    | none => s.arcEnd tag {} 7 0xD0
    | some e =>
      let (off, len) := clipped cb e
      if op = arcGetOp ∧ arcBuffer c.sqe < len then s.arcEnd tag { errfield := 16 } 0 2
      else if op = arcEncodeOp ∧ arcBuffer c.sqe < cbNum cb 138 1 * fragLen len (cbNum cb 137 1)
          + (cbNum cb 137 1 + cbNum cb 138 1) * digestLen (cbDalg cb) then s.arcEnd tag { errfield := 137 } 0 2
      else beginSource c n (some e) (extentBlocks e.exts) off len s

/-- The command takes a context, whose tenancy the Tollgate records (R442), and starts. -/
def State.enterCtx (s : State) (c : Cmd) (n : Namespace) (cb : List Byte) (k : Nat) : State :=
  let s1 := s.modCmd c.tag (fun d => { d with phase := .running k })
  startRun c n cb { s1 with arc := { s1.arc with ctxTen := KMap.set (fun _ => none) s1.arc.ctxTen k (s.tenOf c.fn) } }

/-- The command asks for a context (R426): it starts, or waits, with source 1043 once for the episode. -/
def State.askCtx (s : State) (c : Cmd) (n : Namespace) (cb : List Byte) : State :=
  let queued := s.rbt.cmds.any (fun d => d.phase == .waitCtx)
  match (if queued then none else s.grantable c cb) with
  | some k => s.enterCtx c n cb k
  | none =>
    let s1 := s.modCmd c.tag (fun d => { d with phase := .waitCtx })
    if s1.arc.waitEp then s1
    else (({ s1 with arc := { s1.arc with waitEp := true } }.bump ARC_CNT1_CTXWAITS).arcLog 8).raise 1043

/-- A service's command, with its control block (R412 to R414, R427): checked, and then barred, waiting or started. -/
def arcService (op tag : Nat) (cb : Option (List Byte)) (s : State) : State :=
  match s.ioCmd tag op, cb with
  | none, _ => s
  | some _, none => s.complete tag 0 4 0
  | some (c, n), some b =>
    match s.cbCheck c.fn c.sqe b with
    | some k => s.arcEnd tag { errfield := k } 0 2
    | none =>
      if n.icap = 0 ∧ (arcKeyed op b ∨ op = arcListOp) then s.arcEnd tag {} 7 0xD7
      else
        let s1 : State := { s with arc := { s.arc with runs := s.arc.runs ++ [⟨tag, b, none, [], 0, 0, []⟩] } }
        if arcBarrier op b && s.barred c n then s1.modCmd tag (fun d => { d with phase := .barrier })
        else s1.askCtx c n b

/-- OBJECT_GET. -/
def execObjectGet (tag : Nat) (cb : Option (List Byte)) (s : State) : Host.Outcome State Fault Refusal :=
  .next (arcService arcGetOp tag cb s)
/-- OBJECT_PUT. -/
def execObjectPut (tag : Nat) (cb : Option (List Byte)) (s : State) : Host.Outcome State Fault Refusal :=
  .next (arcService arcPutOp tag cb s)
/-- OBJECT_DELETE. -/
def execObjectDelete (tag : Nat) (cb : Option (List Byte)) (s : State) : Host.Outcome State Fault Refusal :=
  .next (arcService arcDeleteOp tag cb s)
/-- OBJECT_LIST. -/
def execObjectList (tag : Nat) (cb : Option (List Byte)) (s : State) : Host.Outcome State Fault Refusal :=
  .next (arcService arcListOp tag cb s)
/-- ENCODE. -/
def execEncode (tag : Nat) (cb : Option (List Byte)) (s : State) : Host.Outcome State Fault Refusal :=
  .next (arcService arcEncodeOp tag cb s)
/-- DIGEST. -/
def execDigest (tag : Nat) (cb : Option (List Byte)) (s : State) : Host.Outcome State Fault Refusal :=
  .next (arcService arcDigestOp tag cb s)
/-- ARCADE_VERIFY. -/
def execArcadeVerify (tag : Nat) (cb : Option (List Byte)) (s : State) : Host.Outcome State Fault Refusal :=
  .next (arcService arcVerifyOp tag cb s)

/-! ### Context commands (R426) -/

/-- A Context command of action `act`: its command, namespace and control block once checked; otherwise the state in which
it ended. -/
def State.contextCmd (s : State) (tag act : Nat) (cb : Option (List Byte)) : Except State (Cmd × List Byte) :=
  match s.ioCmd tag arcContextOp, cb with
  | none, _ => .error s
  | some _, none => .error (s.complete tag 0 4 0)
  | some (c, _), some b =>
    match s.cbCheck c.fn c.sqe b with
    | some k => .error (s.arcEnd tag { errfield := k } 0 2)
    | none => if cbNum b 137 1 = act then .ok (c, b) else .error s

/-- ARCADE_CONTEXT_OPEN: the lowest handle below QUOTA that the controller does not hold, in DW0. -/
def contextOpen (tag : Nat) (cb : Option (List Byte)) (s : State) : State :=
  match s.contextCmd tag 1 cb with
  | .error t => t
  | .ok (c, _) =>
    match s.tenOf c.fn with
    | none => (s.raise 1039).arcEnd tag {} 7 0xD4
    | some t =>
      let quota := s.get (ARC_TENQ_QUOTA t)
      let handle := (List.range quota).find? (fun h => (s.persistOf c.fn h).isNone)
      match handle, s.freeCtx with
      | some h, some k =>
        if quota ≤ s.get (ARC_TENQ_USED t) ∨ s.get ARC_CTXCFG_PMAX ≤ s.arc.persist.length then (s.raise 1039).arcEnd tag {} 7 0xD4
        else
          let s1 : State := { s with arc := { s.arc with persist := s.arc.persist ++ [⟨k, c.fn, h, t, 0, []⟩] } }
          (s1.put (ARC_TENQ_USED t) (s1.get (ARC_TENQ_USED t) + 1)).arcEnd tag {} 0 0 h
      | _, _ => (s.raise 1039).arcEnd tag {} 7 0xD4

/-- ARCADE_CONTEXT_OPEN. -/
def execArcadeContextOpen (tag : Nat) (cb : Option (List Byte)) (s : State) : Host.Outcome State Fault Refusal :=
  .next (contextOpen tag cb s)

/-- ARCADE_CONTEXT_CLOSE: once the commands of the context fetched before it have ended (R428). -/
def contextClose (tag : Nat) (cb : Option (List Byte)) (s : State) : State :=
  match s.contextCmd tag 2 cb with
  | .error t => t
  | .ok (c, b) =>
    match s.persistOf c.fn (cbNum b 6 1) with
    | none => s.arcEnd tag { errfield := 6 } 0 2
    | some p =>
      if s.rbt.cmds.any (fun d => d.ctx == some p.idx || (decide (d.order < c.order) && s.namesCtx d p)) then s
      else
        let s1 : State := { s with arc := { s.arc with persist := s.arc.persist.filter (fun q => q.idx != p.idx) } }
        (s1.put (ARC_TENQ_USED p.ten) (s1.get (ARC_TENQ_USED p.ten) - 1)).arcEnd tag {} 0 0

/-- ARCADE_CONTEXT_CLOSE. -/
def execArcadeContextClose (tag : Nat) (cb : Option (List Byte)) (s : State) : Host.Outcome State Fault Refusal :=
  .next (contextClose tag cb s)

/-! ### Grants, barriers and steps -/

/-- The waiting command that a free context goes to: of the highest class, and of those the earliest fetched. -/
def State.nextWaiting (s : State) : Option (Cmd × List Byte × Nat) :=
  let ws := (s.rbt.cmds.filter (fun c => c.phase == .waitCtx)).filterMap (fun c => (s.arcRun c.tag).bind (fun r =>
    (s.grantable c r.cb).map (fun k => (c, r.cb, k))))
  ws.foldl (fun b w => match b with
    | none => some w
    | some x => if x.1.cls < w.1.cls ∨ (x.1.cls = w.1.cls ∧ w.1.order < x.1.order) then some w else some x) none

/-- The episode of waiting ends when no command waits. -/
def State.waitEnd (s : State) : State :=
  if s.rbt.cmds.any (fun c => c.phase == .waitCtx) then s else { s with arc := { s.arc with waitEp := false } }

/-- ARCADE_CONTEXT_GRANT (R426). -/
def contextGrant (s : State) : State :=
  match s.nextWaiting with
  | none => s
  | some (c, cb, k) => match s.nsFor c.fn c.sqe.nsid with
    | some n => (s.enterCtx c n cb k).waitEnd
    | none => (s.arcEnd c.tag {} 0 0xB).waitEnd

/-- ARCADE_CONTEXT_GRANT. -/
def execArcadeContextGrant (s : State) : Host.Outcome State Fault Refusal := .next (contextGrant s)

/-- ARCADE_BARRIER_RELEASE (R427). -/
def barrierRelease (tag : Nat) (s : State) : State :=
  match (s.cmd tag).filter (fun c => c.phase == .barrier), s.arcRun tag with
  | some c, some r => match s.nsFor c.fn c.sqe.nsid with
    | some n => if s.barred c n then s else s.askCtx c n r.cb
    | none => s.arcEnd tag {} 0 0xB
  | _, _ => s

/-- ARCADE_BARRIER_RELEASE. -/
def execArcadeBarrierRelease (tag : Nat) (s : State) : Host.Outcome State Fault Refusal := .next (barrierRelease tag s)

/-- Blocks of a step: 64 KiB. -/
def stepBlocks : Nat := 16

/-- Self-check (R430): differences found in a row, counted and raised; whether the command ends. -/
def State.selfCheck (s : State) (op : Nat) (cb : List Byte) (differ : Nat) : Bool × State :=
  if (cbFlag cb 1 || s.is ARC_CTL_SCALL) && (arcSourced op || op == arcPutOp) then
    let k := min 2 differ
    let s1 := (List.range k).foldl (fun t _ => ((t.bump ARC_CNT0_SCMIS).arcLog 7).raise 1036) s
    (k == 2, if k = 2 then s1.raise 1037 else s1)
  else (false, s)

/-- Blocks of a step in turn: what each comes to. -/
def stepReads (c : Cmd) (n : Namespace) (r : ReadInput) (lbas : List Nat) (s : State) : List BlockGot × State :=
  lbas.foldl (fun acc l =>
    let (g, t) := acc.2.readBlock c n r l
    (acc.1 ++ [g], t)) ([], s)

/-- The guard of a written block fails (R416). -/
def State.guardBad (s : State) (n : Namespace) (lba : Nat) : BlockGot → Bool
  | .data b m => n.pi != 0 && s.red.written.contains (n.region.val, n.base + lba)
      && (piCheck n.lbaf n.pi 4 0 0 lba b m).isSome
  | _ => false

/-- ARCADE_STEP (R428, R423, R429 to R431): up to 16 blocks are read; the last step ends the command. -/
def arcadeStep (tag : Nat) (i : StepInput) (s : State) : State :=
  match (s.cmd tag).filter (fun c => c.ctx.isSome), s.arcRun tag with
  | some c, some r =>
    match s.nsFor c.fn c.sqe.nsid with
    | none => s.arcEnd tag {} 0 0xB
    | some n =>
      let done := r.data.length / 4096
      let lbas := (r.blocks.drop done).take stepBlocks
      let (got, s1) := stepReads c n i.reads lbas s
      let failed (x : BlockGot × Nat) : Option (Nat × Nat × Nat × Nat) := match x.1 with
        | .failed a b q => some (x.2, a, b, q)
        | _ => none
      let bad := (got.zip lbas).findSome? failed
      let isData (g : BlockGot) : Bool := match g with
        | .data _ _ => true
        | _ => false
      if got.any (fun g => g == .waits) then s1
      else match bad with
        | some (l, sct, sc, q) =>
          let before := 4096 * (done + (got.takeWhile isData).length) - r.skip
          if c.sqe.opcode = arcVerifyOp ∧ sct = 2 ∧ sc = 0x81 ∧ q ≠ 1 then
            (s1.arcLog 6).arcEnd tag { outcome := 2, faillba := l, count := min before r.len } 0 0
          else ((s1.cbResult tag { faillba := l } sct sc).endRun tag).failRead tag l (got.dropWhile isData)
        | none =>
          if (got.zip lbas).any (fun x => s1.guardBad n x.2 x.1) then (s1.raise 12).arcEnd tag {} 2 0x82
          else if i.buffer then (s1.raise 1040).arcEnd tag {} 0 6
          else match s1.selfCheck c.sqe.opcode r.cb i.differ with
            | (true, s2) => s2.arcEnd tag {} 7 0xD5
            | (false, s2) =>
              let bytes := got.flatMap (fun g => match g with
                | .data b _ => b
                | _ => [])
              let r1 := { r with data := r.data ++ bytes }
              let s3 := s2.modRun tag (fun _ => r1)
              if done + lbas.length < r.blocks.length then s3 else finishRun c n r1 s3
  | _, _ => s

/-- ARCADE_STEP. -/
def execArcadeStep (tag : Nat) (i : StepInput) (s : State) : Host.Outcome State Fault Refusal := .next (arcadeStep tag i s)

/-! ### The Arcade channel (R442) -/

/-- ARCADE_CHANNEL_REQUEST: served only when the namespace belongs to the context's tenancy; otherwise the block returns
poisoned, TVREF counts, and source 1013 is raised. Index blocks have tweak bit 64 set. -/
def channelRequest (ctx : Nat) (q : ChannelRequest) (s : State) : State :=
  let put (t : State) (a : Option (List Byte)) : State := { t with arc := { t.arc with channel := a } }
  match s.host.ns.find? (fun n => n.nsid == q.nsid) with
  | none => (put s none).bump TGT_CNT_TVREF |>.raise 1013
  | some n =>
    match n.key with
    | none => put s none
    | some k =>
      if KMap.get (fun _ => none) s.arc.ctxTen ctx == some n.ten then
        put s (some (xts (!q.encrypt) k (q.block % 2 ^ 64 + (if q.index then 2 ^ 64 else 0)) q.data))
      else ((put s none).bump TGT_CNT_TVREF).raise 1013

/-- ARCADE_CHANNEL_REQUEST. -/
def execArcadeChannelRequest (ctx : Fin 256) (q : ChannelRequest) (s : State) : Host.Outcome State Fault Refusal :=
  .next (channelRequest ctx.val q s)

end Sys2Proof.Machine
end

