-- ==== Sys2Proof/Machine/F32.lean ====
section
/-! DEFINITION. IEEE 754 binary32 arithmetic with round-to-nearest, ties to even (R202, R204): the values are 32-bit
patterns; each operation is exact and then rounded once. Every not-a-number result is the pattern 0x7FC00000, which no
rule makes visible (assumption 15). -/

namespace Sys2Proof.Machine

/-- A binary32 pattern. -/
abbrev F32 := BitVec 32

namespace F32

/-- What a pattern stands for: not a number, an infinity, or `m * 2 ^ e` with the sign kept for zero. -/
inductive Val where
  | nan
  | inf (neg : Bool)
  | fin (neg : Bool) (m : Nat) (e : Int)
  deriving DecidableEq, Repr

/-- The pattern of a result that is not a number. -/
def nan : F32 := 0x7FC00000#32

/-- The infinity of a sign. -/
def infinity (neg : Bool) : F32 := if neg then 0xFF800000#32 else 0x7F800000#32

/-- What a pattern stands for. -/
def val (x : F32) : Val :=
  let w := x.toNat
  let neg := decide (2 ^ 31 ≤ w)
  let ex : Nat := w / 2 ^ 23 % 256
  let fr : Nat := w % 2 ^ 23
  if ex = 255 then (if fr = 0 then .inf neg else .nan)
  else if ex = 0 then .fin neg fr (-149)
  else .fin neg (fr + 2 ^ 23) ((ex : Int) - 150)

/-- `(-1)^neg * n * 2^e`, plus less than one unit of `n` when `sticky`, rounded to nearest, ties to even. -/
def round (neg : Bool) (n : Nat) (e : Int) (sticky : Bool) : F32 :=
  let sign := if neg then 2 ^ 31 else 0
  if n = 0 then BitVec.ofNat 32 sign
  else
    let q : Int := max (e + Nat.log2 n - 23) (-149)
    let m : Nat :=
      if q ≤ e then n * 2 ^ (e - q).toNat
      else
        let d := (q - e).toNat
        let m0 := n / 2 ^ d
        let rem := n % 2 ^ d
        let half := 2 ^ (d - 1)
        if half < rem ∨ (rem = half ∧ (sticky ∨ m0 % 2 = 1)) then m0 + 1 else m0
    let bits : Nat := (q + 149).toNat * 2 ^ 23 + m
    if 255 * 2 ^ 23 ≤ bits then infinity neg else BitVec.ofNat 32 (sign + bits)

/-- An integer. -/
def ofInt (i : Int) : F32 := round (decide (i < 0)) i.natAbs 0 false

/-- A quotient of two natural numbers, the divisor not 0. -/
def ofRatio (a b : Nat) : F32 := round false (a * 2 ^ 64 / b) (-64) (decide (a * 2 ^ 64 % b ≠ 0))

/-- The opposite. -/
def neg (x : F32) : F32 := x ^^^ 0x80000000#32

/-- The absolute value. -/
def abs (x : F32) : F32 := x &&& 0x7FFFFFFF#32

/-- A signed integer from a sign and a magnitude. -/
def signedOf (neg : Bool) (m : Nat) : Int := if neg then -(m : Int) else m

/-- Sum. -/
def add (x y : F32) : F32 :=
  match val x, val y with
  | .nan, _ | _, .nan => nan
  | .inf a, .inf b => if a = b then infinity a else nan
  | .inf a, _ => infinity a
  | _, .inf b => infinity b
  | .fin a m e, .fin b k f =>
    let lo := min e f
    let s := signedOf a (m * 2 ^ (e - lo).toNat) + signedOf b (k * 2 ^ (f - lo).toNat)
    if s = 0 then (if a && b then 0x80000000#32 else 0) else round (decide (s < 0)) s.natAbs lo false

/-- Difference. -/
def sub (x y : F32) : F32 := add x (neg y)

/-- Product. -/
def mul (x y : F32) : F32 :=
  match val x, val y with
  | .nan, _ | _, .nan => nan
  | .inf a, .inf b => infinity (a != b)
  | .inf a, .fin b k _ => if k = 0 then nan else infinity (a != b)
  | .fin a m _, .inf b => if m = 0 then nan else infinity (a != b)
  | .fin a m e, .fin b k f => round (a != b) (m * k) (e + f) false

/-- Quotient. -/
def div (x y : F32) : F32 :=
  match val x, val y with
  | .nan, _ | _, .nan => nan
  | .inf _, .inf _ => nan
  | .inf a, .fin b _ _ => infinity (a != b)
  | .fin a _ _, .inf b => round (a != b) 0 0 false
  | .fin a m e, .fin b k f =>
    if k = 0 then (if m = 0 then nan else infinity (a != b))
    else round (a != b) (m * 2 ^ 64 / k) (e - f - 64) (decide (m * 2 ^ 64 % k ≠ 0))

/-- The greatest number whose square is at most `n`, from its bits below `2 ^ k`. -/
def isqrt (k n : Nat) : Nat :=
  (List.range k).foldl (fun r i => let t := r + 2 ^ (k - 1 - i); if t * t ≤ n then t else r) 0

/-- Square root. -/
def sqrt (x : F32) : F32 :=
  match val x with
  | .nan => nan
  | .inf neg => if neg then nan else infinity false
  | .fin neg m e =>
    if m = 0 then x
    else if neg then nan
    else
      let m1 := if e % 2 = 0 then m * 2 ^ 60 else m * 2 ^ 61
      let e1 := if e % 2 = 0 then e - 60 else e - 61
      let r := isqrt 44 m1
      round false r (e1 / 2) (decide (r * r ≠ m1))

/-- Less than (false for a value that is not a number). -/
def lt (x y : F32) : Bool :=
  match val x, val y with
  | .nan, _ | _, .nan => false
  | .inf a, .inf b => a && !b
  | .inf a, _ => a
  | _, .inf b => !b
  | .fin a m e, .fin b k f =>
    let lo := min e f
    decide (signedOf a (m * 2 ^ (e - lo).toNat) < signedOf b (k * 2 ^ (f - lo).toNat))

/-- The smaller of two values. -/
def fmin (x y : F32) : F32 := if lt y x then y else x

/-- The greater of two values. -/
def fmax (x y : F32) : F32 := if lt x y then y else x

/-- A value held between two limits. -/
def clamp (x lo hi : F32) : F32 := fmax lo (fmin hi x)

/-- Rounded toward zero to an integer; an infinity gives an integer beyond every count, a value that is not a number a
free value. -/
def trunc (x : F32) : Int :=
  match val x with
  | .nan => Config.nanCount
  | .inf neg => signedOf neg (2 ^ 128)
  | .fin neg m e => signedOf neg (if 0 ≤ e then m * 2 ^ e.toNat else m / 2 ^ (-e).toNat)

/-- Rounded to the nearest integer, ties to even. -/
def nearest (x : F32) : Int :=
  match val x with
  | .nan => Config.nanCount
  | .inf neg => signedOf neg (2 ^ 128)
  | .fin neg m e =>
    if 0 ≤ e then signedOf neg (m * 2 ^ e.toNat)
    else
      let d := (-e).toNat
      let q := m / 2 ^ d
      let rem := m % 2 ^ d
      let half := 2 ^ (d - 1)
      signedOf neg (if half < rem ∨ (rem = half ∧ q % 2 = 1) then q + 1 else q)

end F32

end Sys2Proof.Machine
end

