-- ==== Sys2Proof/Machine/WriteGate.lean ====
section
/-! DEFINITION. Write gate, the write inhibit causes and write faults (spec 05, 5.2 and 5.3), and the end of an open
operation: shared by every family that can drop write gate. -/

namespace Sys2Proof.Machine

/-- The write inhibit causes of Table 5-1 present on Avenue `n`, bit c = cause c (R150). Cause 7 is shown while the
HEADSEL shadow names the timing head; its other half, a request inside a reservation, never arises, because the framer
raises write gate only for the bits of a slot (R66, R146). -/
def State.causes (s : State) (n : Fin 4) : Nat :=
  let a := s.avn n
  let st := s.get (AV_TLSTAT_STATE n)
  let c0 := (s.shock0 && s.is (AV_WINHCTL_SHM0 n)) || (s.shock1 && s.is (AV_WINHCTL_SHM1 n)) || a.shockHold
  let c1 := s.is (SVO_STAT_WINH n)
  let c3 := !(st == 3 || st == 4) || s.is (AV_TLSTAT_FMISM n)
  let c5 := s.is PWR_PLSTAT_SIGNAL
  let c6 := s.is (AV_WINHCTL_SWINH n)
  let c7 := a.kazq.headsel == some (s.get (AV_HMAP_TMG n))
  (if c0 then 1 else 0) + (if c1 then 2 else 0) + (if a.pflt then 4 else 0) + (if c3 then 8 else 0)
    + (if a.underflow then 16 else 0) + (if c5 then 32 else 0) + (if c6 then 64 else 0) + (if c7 then 128 else 0)

/-- The lowest bit set of a cause mask. -/
def lowestBit (m : Nat) : Nat := ((List.range 8).find? (fun c => m / 2 ^ c % 2 == 1)).getD 0

/-- TURN in nanoseconds: below 10 taken as 10, above 40 as 40 (Table 5-4). -/
def State.turnNs (s : State) (n : Fin 4) : Nat := 10 * clampNat 10 40 (s.get (AV_WRCTL_TURN n))

/-- Start an INVALID span of `k` blocks on a reader: overlapping spans end at the later end (R104). -/
def Reader.invalidate (k : Nat) (r : Reader) : Reader := { r with inv := max r.inv k }

/-- Write gate drops; the readers' blocks are INVALID for TURN when it was high (R147). -/
def State.dropGate (s : State) (n : Fin 4) : State :=
  if (s.avn n).wg then
    (s.modAv n (fun a => { a with wg := false })).modReaders n
      (Reader.invalidate (s.spanBlocks n ((s.pace.cur).get n) (s.turnNs n) 0))
  else s

/-- The open operation ends abnormally with a status of Table 6-9, unless one ended it before; its arms are discarded. -/
def State.endOp (s : State) (n : Fin 4) (st : Nat) : State :=
  match (s.seq n).op with
  | none => s
  | some o =>
    if o.ended = 0 then s.modSeq n (fun q => { q with op := some { o with ended := st }, arms := [] }) else s

/-- A write operation is in progress on Avenue `n`: taken, not ended, with a slot in progress or armed (R151). -/
def State.writing (s : State) (n : Fin 4) : Bool :=
  match (s.seq n).op with
  | none => false
  | some o => o.taken && o.ended == 0 && ((s.seq n).slotRun.isSome || !(s.seq n).arms.isEmpty)

/-- The slot that a write fault names (R151): the slot in progress, or the next armed one. -/
def State.faultSlot (s : State) (n : Fin 4) : Nat :=
  match (s.seq n).slotRun with
  | some r => r.arm.slot
  | none => ((s.seq n).arms.head?.map Arm.slot).getD 0

/-- The reads of the adjacent tracks that firmware schedules after a fault of cause 0 or 1 (R154). -/
def adjacentReads (o : MediaOp) (slot : Nat) : List SectorAddr :=
  (if 0 < o.cyl then [⟨o.cyl - 1, o.face, slot⟩] else []) ++ [⟨o.cyl + 1, o.face, slot⟩]

/-- A write fault (R151, R152): write gate drops and stays low, the operation ends with status 5, WFSTAT captures it
while VALID is 0, it is counted, and source 64 of the Avenue is raised. -/
def State.writeFault (s : State) (n : Fin 4) (first : Nat) : State :=
  match (s.seq n).op with
  | none => s
  | some o =>
    let slot := s.faultSlot n
    let s1 :=
      if s.is (AV_WFSTAT_VALID n) then s
      else ((((s.put (AV_WFSTAT_FIRST n) first).put (AV_WFSTAT_CAUSE n) (s.causes n)).put (AV_WFSTAT_FACE n) o.face).put
        (AV_WFSTAT_SLOT n) slot).put (AV_WFSTAT_VALID n) 1
    let s2 := ((s1.bump (AV_WFCNT_FAULTS n)).dropGate n).endOp n 5
    let s3 := s2.modSeq n (fun q => { q with slotRun := none })
    let s4 := if first ≤ 1 then s3.modAv n (fun a => { a with adjacent := a.adjacent ++ adjacentReads o slot }) else s3
    s4.raise (avSrc n 64)

/-- Cause `c` of Table 5-1 arises on Avenue `n`: a write operation in progress ends with a write fault that names it
(R151); with write gate high, cause 1 also raises source 66. -/
def State.inhibit (s : State) (n : Fin 4) (c : Nat) : State :=
  if s.writing n then (s.raiseIf (c == 1 && (s.avn n).wg) (avSrc n 66)).writeFault n c
  else s.dropGate n

end Sys2Proof.Machine
end

