-- ==== Sys2Proof/Machine/LaneOps.lean ====
section
/-! DEFINITION. Shared operations of the timing lane (spec 03): its states and the spans of the read front end. -/

namespace Sys2Proof.Machine

/-- State of the timing lane of Avenue `n` (Table 3-1). -/
def State.laneState (s : State) (n : Fin 4) : Nat := s.get (AV_TLSTAT_STATE n)

/-- The lane is in TRACK or COAST. -/
def State.laneTracks (s : State) (n : Fin 4) : Bool := s.laneState n == 3 || s.laneState n == 4

/-- The lane begins an acquisition attempt (R86, R88, R91): runs cleared, FMISM back to 0. -/
def State.beginAttempt (s : State) (n : Fin 4) : State :=
  (s.put (AV_TLSTAT_FMISM n) 0).modLane n (fun l =>
    { l with lockRun := 0, lossRun := 0, ampRun := 0, mismRun := 0, t0 := s.time })

/-- A read operation in progress carries the timing-lane flag (R106). -/
def State.flagLane (s : State) (n : Fin 4) : State := s.modOp n (fun o => if o.taken then o else { o with laneLost := true })

/-- The lane enters state `st`. Leaving TRACK or COAST brings cause 3 (R92) and the timing-lane flag of a read (R106);
entering ACQUIRE begins an attempt; entering LOST ends a running operation with status 4 (R108). -/
def State.laneTo (s : State) (n : Fin 4) (st : Nat) : State :=
  let left := s.laneTracks n && !(st == 3 || st == 4)
  let s1 := s.put (AV_TLSTAT_STATE n) st
  let s2 := if left then (s1.flagLane n).inhibit n 3 else s1
  let s3 := if st = 2 then s2.beginAttempt n else s2
  if st = 5 then s3.endOp n 4 else s3

/-- A span of a change in Table 3-3 on one reader. -/
def State.span (s : State) (n : Fin 4) (r : Fin 2) (blocks : Nat) : State := s.modReader n r (Reader.invalidate blocks)

/-- A span of a change in Table 3-3 on both readers. -/
def State.spanBoth (s : State) (n : Fin 4) (blocks : Nat) : State := s.modReaders n (Reader.invalidate blocks)

/-- A head switch: 600 ns of preamp settle and 64 samples, INVALID on both readers (Table 3-3). -/
def State.headSwitch (s : State) (n : Fin 4) : State :=
  s.spanBoth n (s.spanBlocks n (s.pace.cur.get n) 600 64)

/-- A zone change takes effect on the lane (Table 3-2): FW := 0 and ACQUIRE from TRACK, COAST, ACQUIRE or LOST, and
2 µs INVALID at the new rate (Table 3-3). -/
def State.laneZoneChange (s : State) (n : Fin 4) : State :=
  let st := s.laneState n
  let s1 := if 2 ≤ st && decide (st ≤ 5) then (s.modLane n (fun l => { l with fw := 0 })).laneTo n 2 else s
  s1.spanBoth n (s1.spanBlocks n (s1.pace.cur.get n) 2000 0)

/-- A seek start meets the lane (Table 3-2): FREERUN from any state but OFF, and FW := 0 (R84). -/
def State.laneSeekStart (s : State) (n : Fin 4) : State :=
  if s.laneState n = 0 then s else (s.laneTo n 1).modLane n (fun l => { l with fw := 0 })

/-- Settle meets the lane (Table 3-2): from FREERUN to ACQUIRE. -/
def State.laneSettle (s : State) (n : Fin 4) : State := if s.laneState n = 1 then s.laneTo n 2 else s

/-- A cycle slip (R90, Table 3-2). -/
def State.laneSlip (s : State) (n : Fin 4) : State :=
  ((s.bump (AV_TLCNT_SLIPS n)).raise (avSrc n 34)).laneTo n 2

/-- The timing domains that the lane of Avenue `n` clocks (R34, R83). -/
def laneDomains (n : Fin 4) : List Nat := [2 * n.val, 2 * n.val + 1, 8 + n.val, 12 + n.val, 16 + n.val]

end Sys2Proof.Machine
end

