-- ==== Sys2Proof/Machine/PaceOps.lean ====
section
/-! DEFINITION. Shared operations of the pace loop (spec 01, 1.5): margins, and the zone changes that wait for them. -/

namespace Sys2Proof.Machine

/-- Spindle speed in 1/1,024 rpm, or the nominal speed while the spindle is stopped (R199). -/
def State.speedOr (s : State) : Nat := if s.speed = 0 then 1024 * s.nominal else s.speed

/-- Channel rate of zone `z` of Avenue `n`, times 61,440, with the nominal speed while the spindle is stopped. -/
def State.paceRate (s : State) (n : Fin 4) (z : Nat) : Nat := 128 * (s.zoneNow n z).cpr16 * s.speedOr

/-- A margin (R44): floor(COUNT × 256 / REQEFF) for REQEFF = `num` / `den`, saturating. -/
def paceMargin (count num den : Nat) : Nat := if num = 0 then 0xFFFF else min 0xFFFF (count * 256 * den / num)

/-- Monitor `m` takes part: enabled, with a requirement (R52). -/
def State.paceOn (s : State) (m : Nat) : Bool := s.is (PWR_PACEREQ_EN m) && s.is (PWR_PACEREQ_REQ m)

/-- The current and the preview margin of monitor `m` with a count (R44). -/
def State.margins (s : State) (m count : Nat) : Nat × Nat :=
  let req := s.get (PWR_PACEREQ_REQ m)
  if m < 8 then
    let n : Fin 4 := ⟨m % 4, Nat.mod_lt _ (by decide)⟩
    let now := s.paceRate n (s.pace.cur.get n)
    let ahead := match s.pace.preview.get n with
      | none => now
      | some z => max now (s.paceRate n z)
    let d := 7200000000 * 61440
    (paceMargin count (req * now) d, paceMargin count (req * ahead) d)
  else (paceMargin count req 1, paceMargin count req 1)

/-- A threshold of PWR_AVSTHR as a Q8 margin. -/
def State.avsThr (s : State) (f : Fld) : Nat := 256 + s.get f

/-- A zone posted as a preview (R48). -/
def State.postPreview (s : State) (n : Fin 4) (z : Nat) : State :=
  { s with pace := { s.pace with preview := s.pace.preview.set n (some z) } }

/-- Both monitors of Avenue `n` allow the change to the previewed zone (R48): the preview margin of each that takes
part, with the count of the last gate, is at least LOW. -/
def State.previewOk (s : State) (n : Fin 4) : Bool :=
  ([n.val, 4 + n.val] : List Nat).all (fun m =>
    !s.paceOn m || decide (s.avsThr PWR_AVSTHR_LOW ≤ (s.margins m (s.get (PWR_PACE_COUNT m))).2))

/-- A zone change takes effect (R48, R207): the preview becomes the current zone, and the lane follows. -/
def zoneTakes (n : Fin 4) (z : Nat) (s : State) : State :=
  let s1 := { s with pace := { s.pace with
    cur := s.pace.cur.set n z, preview := s.pace.preview.set n none, wait := s.pace.wait.set n none } }
  (s1.modLane n (fun l => { l with zone := z })).laneZoneChange n

/-- A change to zone `z`, with that zone posted, need not wait (R48): the zone is no faster, there is no hold, or the
margins are there. -/
def State.zoneReady (s : State) (n : Fin 4) (z : Nat) : Bool :=
  !decide (s.paceRate n (s.pace.cur.get n) < s.paceRate n z) || s.get PWR_AVSCTL_HOLDMAX == 0 || s.previewOk n

/-- A change of Avenue `n` to zone `z` is asked for (R48, R207): it takes effect, or waits for the margins. -/
def zoneChange (n : Fin 4) (z : Nat) (s : State) : State :=
  if z = s.pace.cur.get n then s
  else
    let s1 := s.postPreview n z
    if s1.zoneReady n z then zoneTakes n z s1
    else { s1 with pace := { s1.pace with wait := s1.pace.wait.set n (some z) } }

/-- A waiting change takes effect once it need not wait. -/
def zoneRetry (s : State) (n : Fin 4) : State :=
  match s.pace.wait.get n with
  | some z => if s.zoneReady n z then zoneTakes n z s else s
  | none => s

end Sys2Proof.Machine
end

