-- ==== Sys2Proof/Machine/F32Trig.lean ====
section
/-! DEFINITION. Sine, cosine and the angle of a vector in binary32 (R235, R236, R239): computed to 120 binary places and
then rounded once. -/

namespace Sys2Proof.Machine.F32

/-- Binary places of the fixed-point numbers. -/
def fixBits : Nat := 120

/-- One in fixed point. -/
def fixOne : Int := 2 ^ fixBits

/-- Pi in fixed point. -/
def fixPi : Int := 4175892906503776358826876457663557747

/-- A finite value in fixed point, rounded toward zero beyond 120 places; 0 for what is not finite. -/
def toFix (x : F32) : Int :=
  match val x with
  | .fin neg m e =>
    let k := e + fixBits
    signedOf neg (if 0 ≤ k then m * 2 ^ k.toNat else m / 2 ^ (-k).toNat)
  | _ => 0

/-- A fixed-point number rounded to binary32. -/
def ofFix (i : Int) : F32 := round (decide (i < 0)) i.natAbs (-(fixBits : Int)) (decide (i ≠ 0 ∧ i.natAbs ≠ 2 ^ fixBits))

/-- The sum of a power series whose terms follow from each other: term `k + 1` is minus term `k` times x² over
(2k + a)(2k + a + 1). -/
def series (a : Nat) (x2 : Int) : Nat → Nat → Int → Int
  | 0, _, _ => 0
  | fuel + 1, k, t => t + series a x2 fuel (k + 1) (-(t * x2 / fixOne) / ((2 * k + a) * (2 * k + a + 1) : Nat))

/-- Sine of an angle in radians between -4 and 4. -/
def sin (x : F32) : F32 :=
  match val x with
  | .fin _ _ _ => let f := toFix x; ofFix (series 2 (f * f / fixOne) 48 0 f)
  | _ => nan

/-- Cosine of an angle in radians between -4 and 4. -/
def cos (x : F32) : F32 :=
  match val x with
  | .fin _ _ _ => let f := toFix x; ofFix (series 1 (f * f / fixOne) 48 0 fixOne)
  | _ => nan

/-- The arctangent of a / b for 0 ≤ a ≤ b, b not 0, in fixed point, by Euler's series. -/
def atanSeries (w : Int) : Nat → Nat → Int → Int
  | 0, _, _ => 0
  | fuel + 1, k, t => t + atanSeries w fuel (k + 1) (t * w / fixOne * ((2 * k + 2 : Nat) : Int) / ((2 * k + 3 : Nat) : Int))

/-- The arctangent of a / b for 0 ≤ a ≤ b, b not 0, in fixed point. -/
def atanRatio (a b : Nat) : Int :=
  let d : Nat := a * a + b * b
  atanSeries ((a * a * 2 ^ fixBits / d : Nat) : Int) 128 0 ((a * b * 2 ^ fixBits / d : Nat) : Int)

/-- The angle of the vector (x, y) in radians, from -pi to pi. -/
def atan2 (y x : F32) : F32 :=
  match val y, val x with
  | .fin ny my ey, .fin nx mx ex =>
    if my = 0 ∧ mx = 0 then 0
    else
      let lo := min ey ex
      let a := my * 2 ^ (ey - lo).toNat
      let b := mx * 2 ^ (ex - lo).toNat
      let first := if a ≤ b then atanRatio a b else fixPi / 2 - atanRatio b a
      let half := if nx then fixPi - first else first
      ofFix (if ny then -half else half)
  | _, _ => nan

end Sys2Proof.Machine.F32
end

