-- ==== Sys2Proof/Machine/SpindleOps.lean ====
section
/-! DEFINITION. Shared operations of the spindle controller (spec 08) that the servo engines also reach: its state, the
measured speed, and the end of HOLD. -/

namespace Sys2Proof.Machine

/-- The state with the spindle controller changed. -/
def State.modSpn (s : State) (f : Spindle → Spindle) : State := { s with spn := f s.spn }

/-- State of SPN (Table 8-4). -/
def State.spnState (s : State) : Nat := s.get SPN_STAT_STATE

/-- RETOK (R256): RUN, HOLD or DECEL with SPEED at RETMIN or above. -/
def State.spnRetOk (s : State) : Bool :=
  (s.spnState == 2 || s.spnState == 3 || s.spnState == 4) && decide (1024 * s.get SPN_FLY_RETMIN ≤ s.get SPN_SPEED_SPEED)

/-- STAT.RETOK follows the state and the speed. -/
def State.updateRetOk (s : State) : State := s.putb SPN_STAT_RETOK s.spnRetOk

/-- SPN enters a state: outside RUN, READY is 0 (R248); with the bridge off or V0 where Table 8-4 says so. -/
def State.spnTo (s : State) (st : Nat) : State :=
  let s1 := s.put SPN_STAT_STATE st
  let s2 := if st = 2 then s1 else (s1.putb SPN_STAT_READY false).modSpn (fun p => { p with inBand := false })
  let s3 := if st = 0 ∨ st = 6 ∨ st = 8 then s2.modSpn (fun p => { p with vec := none })
    else if st = 5 then s2.modSpn (fun p => { p with vec := some 0 }) else s2
  s3.updateRetOk

/-- Servo engine `n` is in OFF, PARKED or FAULT. -/
def State.svIdle (s : State) (n : Fin 4) : Bool :=
  let st := s.get (SVO_STAT_STATE n)
  st == 0 || st == 1 || st == 10

/-- Every servo engine is in OFF, PARKED or FAULT. -/
def State.allIdle (s : State) : Bool := s.svIdle 0 && s.svIdle 1 && s.svIdle 2 && s.svIdle 3

/-- HOLD passes to DECEL when every engine reaches OFF, PARKED or FAULT (R249). -/
def State.holdCheck (s : State) : State := if s.spnState = 3 ∧ s.allIdle then s.spnTo 4 else s

/-! ### The measured speed (R237) -/

/-- A quotient as a register shows it: of a value between two units, which one is open. -/
def State.quotient (s : State) (a b : Nat) : Nat × State :=
  if b = 0 then s.fresh 24
  else if a % b = 0 then (a / b, s)
  else let (r, s1) := s.fresh 1; (a / b + r, s1)

/-- The engine found every timing wedge of the last revolution. -/
def fullTurn (v : Servo) : Bool := decide (841 ≤ v.foundAt.length)

/-- The lowest-numbered engine that found every timing wedge of the last revolution. -/
def State.speedEngine (s : State) : Option (Fin 4) := ([0, 1, 2, 3] : List (Fin 4)).find? (fun n => fullTurn (s.svo.get n))

/-- Engine `n` ended a timing wedge, found or missed (R237): the source of SPEED is chosen anew; SPEED follows a found
wedge of the engine that is the source. -/
def State.wedgeSpeed (s : State) (n : Fin 4) (found : Bool) : State :=
  let s1 := s.modSv n (fun v => { v with foundAt := if found then (s.time :: v.foundAt).take 841 else [] })
  match s1.speedEngine with
  | none => s1.putb SPN_SPEED_WEDGE false
  | some k =>
    let s2 := (s1.putb SPN_SPEED_WEDGE true).put SPN_SPEED_SVO k.val
    if k = n ∧ found then
      let stamps := (s2.svo.get n).foundAt
      let (v, s3) := s2.quotient (6000000000 * 1024) (stamps.headD 0 - stamps.getLastD 0)
      (s3.put SPN_SPEED_SPEED (min (2 ^ 24 - 1) v)).updateRetOk
    else s2

end Sys2Proof.Machine
end

