-- ==== Sys2Proof/Machine/ServoOps.lean ====
section
/-! DEFINITION. Shared operations of the servo engines (spec 07): states, write safety, requests, the profile generator,
the controller, unloads. -/

namespace Sys2Proof.Machine

/-! ### States, position and write safety -/

/-- Servo engine `n`. -/
def State.sv (s : State) (n : Fin 4) : Servo := s.svo.get n

/-- State of servo engine `n` (Table 7-5). -/
def State.svState (s : State) (n : Fin 4) : Nat := s.get (SVO_STAT_STATE n)

/-- The engine accepts seeks and moves: SEEK, SETTLE, FOLLOW or IDLE (R203). -/
def State.svServing (s : State) (n : Fin 4) : Bool := let st := s.svState n; decide (3 ≤ st) && decide (st ≤ 6)

/-- Target cylinder of engine `n`. -/
def State.target (s : State) (n : Fin 4) : Nat := s.get (SVO_STAT_TCYL n)

/-- The zone of cylinder `c` of Avenue `n` in the applied layout; 0 while none is applied. -/
def State.zoneOfCyl (s : State) (n : Fin 4) (c : Nat) : Nat := ((s.avn n).layout.map (fun l => l.zoneOf c)).getD 0

/-- The head offset entry of a face and zone. -/
def State.hofs (s : State) (n : Fin 4) (f z : Nat) : Int := s.geti (SVO_HOFS_HOFS n f z)

/-- The reference outside SEEK: 256 × c + OFS + h (R196). -/
def State.reference (s : State) (n : Fin 4) : Int := 256 * (s.target n : Int) + (s.sv n).ofs + (s.sv n).head

/-- Cause 1 is absent: FOLLOW, and the last WRREC wedges were found within WRTHR (R209). -/
def State.writeSafe (s : State) (n : Fin 4) : Bool :=
  s.svState n == 5 && decide (s.get (SVO_THR_WRREC n) ≤ (s.sv n).writeRun)

/-- STAT.WINH shows cause 1; when the cause arises it acts at once (R209, R151). -/
def State.updateWinh (s : State) (n : Fin 4) : State :=
  let was := s.is (SVO_STAT_WINH n)
  let now := !s.writeSafe n
  let s1 := s.putb (SVO_STAT_WINH n) now
  if now && !was then s1.inhibit n 1 else s1

/-- STAT.ONTRK: FOLLOW without an off-track excursion (R208, R210). -/
def State.updateOntrk (s : State) (n : Fin 4) : State :=
  s.putb (SVO_STAT_ONTRK n) (s.svState n == 5 && !(s.sv n).excursion)

/-- The engine enters state `st`: SETTLE starts its count afresh; ONTRK and cause 1 follow, and the spindle's HOLD may
end. -/
def State.svTo (s : State) (n : Fin 4) (st : Nat) : State :=
  let s1 := s.put (SVO_STAT_STATE n) st
  let s2 := if st = 4 then s1.modSv n (fun v => { v with settleRun := 0, excursion := false }) else s1
  ((s2.updateOntrk n).updateWinh n).holdCheck

/-- A request fails (R203): counted, raised, and the Avenue's open operation ends with status 8. -/
def State.seekFail (s : State) (n : Fin 4) : State :=
  (((s.bump (SVO_CNT0_SEEKFAIL n)).raise (svSrc n 5)).modSv n (fun v => { v with req := none })).endOp n 8

/-- A request not yet settled fails; without one nothing happens. -/
def State.dropReq (s : State) (n : Fin 4) : State := if (s.sv n).req.isSome then s.seekFail n else s

/-! ### The profile generator (R204, R205) -/

/-- One profile set in tracks and milliseconds (Table 7-8). -/
structure Profile where
  amax : F32
  adec : F32
  vmax : F32
  jmax : F32
  kff : F32
  deriving DecidableEq, Repr

/-- Profile set `m` of engine `n` (0 quiet, 1 strong). -/
def State.profile (s : State) (n : Fin 4) (m : Nat) : Profile :=
  { amax := F32.ofInt (8 * s.get (SVO_PROF_W0_AMAX n m)), adec := F32.ofInt (8 * s.get (SVO_PROF_W0_ADEC n m))
    vmax := F32.ofInt (64 * s.get (SVO_PROF_W1_VMAX n m)), jmax := F32.ofInt (256 * s.get (SVO_PROF_W1_JMAX n m))
    kff := F32.ofInt (s.get (SVO_PROF_W2_KFF n m)) }

/-- The interval length t in milliseconds at a speed in 1/1,024 rpm (R204). -/
def intervalMs (sp : Nat) : F32 := F32.div (F32.ofInt 60000) (F32.mul (F32.ofInt 840) (F32.ofRatio sp 1024))

/-- The generator advances by one interval toward `target` (R204). -/
def genStep (pr : Profile) (t target : F32) (g : ProfileGen) : ProfileGen :=
  let r := F32.div (F32.sub target g.p) (F32.ofInt 256)
  let vd := F32.fmin pr.vmax (F32.sqrt (F32.mul (F32.mul (F32.ofInt 2) pr.adec) (F32.abs r)))
  let vdes := if F32.lt r 0 then F32.neg vd else if F32.lt 0 r then vd else 0
  let ades := F32.clamp (F32.div (F32.sub vdes g.v) t) (F32.neg pr.amax) pr.amax
  let jt := F32.mul pr.jmax t
  let a := F32.add g.a (F32.clamp (F32.sub ades g.a) (F32.neg jt) jt)
  let v := F32.add g.v (F32.mul a t)
  let p := F32.add g.p (F32.mul (F32.mul (F32.ofInt 256) v) t)
  let half := F32.ofRatio 1 2
  let done := !F32.lt half (F32.abs r) && !F32.lt half (F32.mul (F32.abs v) t)
  { g with p := p, v := v, a := a, ended := done
           fNext := if done then 0 else F32.trunc (F32.div (F32.mul a pr.kff) (F32.ofInt 1024)) }

/-- The generator's state at rest at a position. -/
def genRest (p : F32) : ProfileGen := { ref := p, p := p, v := 0, a := 0, f := 0, fNext := 0, ended := false }

/-- The profile set in force for the next interval (R205): to strong always, to quiet only at |v| ≤ VSW. -/
def State.profileNext (s : State) (n : Fin 4) : Bool :=
  let strong := s.is (SVO_STAT_STRONG n)
  let want := (s.sv n).wantStrong
  if want then true
  else strong && F32.lt (F32.ofInt (64 * s.get (SVO_SEEKCFG_VSW n))) (F32.abs (s.sv n).gen.v)

/-- The generator runs one interval ahead, with the profile set in force there. -/
def State.genAhead (s : State) (n : Fin 4) : State :=
  let strong := s.profileNext n
  let pr := s.profile n (if strong then 1 else 0)
  let g := genStep pr (intervalMs s.speedOr) (F32.ofInt (s.reference n)) (s.sv n).gen
  (s.putb (SVO_STAT_STRONG n) strong).modSv n (fun v => { v with gen := g })

/-! ### Requests (R203, R206, R207) -/

/-- The profile set that a request's class selects: strong or quiet (R203). -/
def State.classStrong (s : State) (n : Fin 4) (cls : Nat) : Bool :=
  if cls = 2 then true else if cls = 1 then s.is (SVO_CTL_NMODE n) else s.is (SVO_CTL_IMODE n)

/-- A seek or move request with face `f` selected (R196, R198, R203, R206, R207). The head offset starts from HOFS when
the face or the cylinder's zone entry is selected anew. -/
def State.seekRequestOn (s : State) (n : Fin 4) (f : Nat) (r : SeekReq) : State :=
  let cyl := if r.move then s.target n else r.cyl
  let fresh := decide (f ≠ (s.sv n).face) || decide (cyl ≠ s.target n)
  let h := if fresh then s.hofs n f (s.zoneOfCyl n cyl) else (s.sv n).head
  if s.get (AV_FMTCYL_NCYL n) ≤ cyl ∨ 127 < (r.ofs + h).natAbs ∨ !s.svServing n then s.seekFail n
  else
    let moving := s.svState n = 3 ∨ cyl ≠ s.target n
    let old := s.reference n
    let s1 := s.modSv n (fun v => { v with req := some r.cls, ofs := r.ofs, face := f, head := h
                                           headHeld := v.headHeld && !fresh, wantStrong := s.classStrong n r.cls })
    if moving then
      let inSeek := s.svState n = 3
      let s2 := (s1.put (SVO_STAT_TCYL n) cyl).modSv n (fun v => { v with settleDue := true })
      let s3 := if inSeek then s2.modSv n (fun v => { v with gen := { v.gen with ended := false } })
        else ((s2.putb (SVO_STAT_STRONG n) (s.classStrong n r.cls)).modSv n (fun v =>
          { v with gen := genRest (F32.ofInt old) })).laneSeekStart n
      let s4 := s3.svTo n 3
      if inSeek then s4 else s4.genAhead n
    else s1.svTo n 4

/-- A seek or move request with the face in use. -/
def State.seekRequest (s : State) (n : Fin 4) (r : SeekReq) : State := s.seekRequestOn n (s.sv n).face r

/-! ### The controller (R202) -/

/-- One section y = b0·x + b1·x1 + b2·x2 - a1·y1 - a2·y2 with its coefficients in a list of five. -/
def runSection (c : List F32) (st : Section) (x : F32) : F32 × Section :=
  let k := fun i => c.getD i 0
  let y := F32.sub (F32.sub (F32.add (F32.add (F32.mul (k 0) x) (F32.mul (k 1) st.x1)) (F32.mul (k 2) st.x2))
    (F32.mul (k 3) st.y1)) (F32.mul (k 4) st.y2)
  (y, { x1 := x, x2 := st.x1, y1 := y, y2 := st.y1 })

/-- A cascade of sections, their coefficients five by five. -/
def runCascade : List F32 → List Section → F32 → F32 × List Section
  | _, [], x => (x, [])
  | c, st :: sts, x =>
    let r := runSection (c.take 5) st x
    let q := runCascade (c.drop 5) sts r.1
    (q.1, r.2 :: q.2)

/-- The coefficient set in force (Table 7-2, R211). -/
def State.coefSet (s : State) (n : Fin 4) : Nat :=
  let st := s.svState n
  let shock := (s.shock0 && s.is (SVO_SHK_SHM0 n)) || (s.shock1 && s.is (SVO_SHK_SHM1 n)) || (s.sv n).shockSet
  let writing := ((s.seq n).op.map (fun o => o.opcode == 2 || o.taken)).getD false
  if st = 3 then 5 else if st = 6 then 3 else if shock then 4 else if st = 4 then 2 else if writing then 1 else 0

/-- Word `w` of a coefficient set (Table 7-3). -/
def State.coef (s : State) (n : Fin 4) (set w : Nat) : F32 := s.rd (SVO_TFSET n set w)

/-- The controller's outputs from the timing-head error `e` (R200, R202); u_m is 0 in IDLE. -/
def State.control (s : State) (n : Fin 4) (e : Int) : State :=
  let set := s.coefSet n
  let v := s.sv n
  let x := F32.ofInt e
  let m := runCascade ((List.range 20).map (fun i => s.coef n set (22 + i))) v.secM x
  let um := if s.svState n = 6 then 0 else F32.mul (s.coef n set 21) m.1
  let d := runSection ((List.range 5).map (fun i => s.coef n set (42 + i))) v.secD um
  let c := runCascade ((List.range 20).map (fun i => s.coef n set (1 + i))) v.secV (F32.add x d.1)
  let uv := F32.mul (s.coef n set 0) c.1
  s.modSv n (fun v => { v with secM := m.2, secD := d.2, secV := c.2, nextM := F32.nearest um, nextV := F32.nearest uv })

/-! ### Unloads, recovery (R218, R221, R225) -/

/-- The engine starts an unload into UNLOADING or EUNLOAD; a request not yet settled fails (R203). An unload from RECOVER
raises source 2. -/
def State.startUnload (s : State) (n : Fin 4) (st : Nat) : State :=
  let s1 := (s.dropReq n).raiseIf (s.svState n == 8) (svSrc n 2)
  (s1.modSv n (fun v => { v with stage := .driving, settleDue := false })).svTo n st

/-- An UNLOAD request (R218): no effect in OFF, PARKED, UNLOADING, EUNLOAD and FAULT. -/
def State.unloadRequest (s : State) (n : Fin 4) : State :=
  let st := s.svState n
  if st = 0 ∨ st = 1 ∨ st = 7 ∨ st = 9 ∨ st = 10 then s else s.startUnload n 7

/-- The power-loss signal meets the engine (R224). -/
def State.emergencyUnload (s : State) (n : Fin 4) : State :=
  let st := s.svState n
  if st = 0 ∨ st = 1 ∨ st = 9 ∨ st = 10 then s else (s.startUnload n 9).raise (svSrc n 17)

/-- The engine enters RECOVER (R225): any seek fails, seek start is signalled to the lane. -/
def State.enterRecover (s : State) (n : Fin 4) : State :=
  ((((s.dropReq n).raise (svSrc n 1)).modSv n (fun v => { v with foundRun := 0, settleDue := false })).laneSeekStart n).svTo n 8

end Sys2Proof.Machine
end

