-- ==== Sys2Proof/Machine/SeqOps.lean ====
section
/-! DEFINITION. Shared operations of an Avenue's sequencer (spec 06): registers and windows, words of the stores, halts,
conditions, the ring selector, the Kazq link's queue, and disabling an Avenue. -/

namespace Sys2Proof.Machine

/-! ### State and windows (6.4) -/

/-- SEQSTAT.STATE: 0 stopped, 1 running, 2 waiting, 3 in trap handler, 4 parked, 5 halted (Table 6-12). -/
def State.seqState (s : State) (n : Fin 4) : Nat := s.get (AV_SEQSTAT_STATE n)

/-- Current microword address. -/
def State.upc (s : State) (n : Fin 4) : Nat := s.get (AV_SEQSTAT_PC n)

/-- Depth D. -/
def State.depth (s : State) (n : Fin 4) : Nat := s.get (AV_SEQSTAT_DEPTH n)

/-- Resident count R. -/
def State.resident (s : State) (n : Fin 4) : Nat := s.get (AV_SEQSTAT_RES n)

/-- Register `i` of window `w`; r0 reads as 0 (R169). -/
def State.winReg (s : State) (n : Fin 4) (w : Nat) (i : Nat) : Word := if i = 0 then 0 else s.rd (AV_WINFILE n w i)

/-- Register `i` of the current window. -/
def State.reg (s : State) (n : Fin 4) (i : Fin 16) : Word := s.winReg n (s.seq n).window i.val

/-- An ALU or IO action writes register `i` of window `w`: r0 and r15 are not written (R169). -/
def State.setReg (s : State) (n : Fin 4) (w : Nat) (i : Fin 16) (v : Word) : State :=
  if i.val = 0 ∨ i.val = 15 then s else s.wr (AV_WINFILE n w i.val) v

/-- Running, or running in the trap handler when the trap window is current. -/
def State.seqRunning (s : State) (n : Fin 4) : State := s.put (AV_SEQSTAT_STATE n) (if (s.seq n).window = 7 then 3 else 1)

/-- The sequencer goes on at an address. -/
def State.goTo (s : State) (n : Fin 4) (a : Nat) : State := (s.put (AV_SEQSTAT_PC n) a).seqRunning n

/-! ### Microwords and nanowords -/

/-- A microword (Table 6-1). -/
structure MicroWord where
  next : Nat
  alt : Nat
  nano : Nat
  cond : Nat
  mode : Nat
  deriving DecidableEq, Repr

/-- A microword from its 40 bits. -/
def microWord (w : Nat) : MicroWord := ⟨bitsOf w 28 12, bitsOf w 16 12, bitsOf w 6 10, bitsOf w 2 4, bitsOf w 0 2⟩

/-- The 40 bits of the microword at address `a`. -/
def State.microBits (s : State) (n : Fin 4) (a : Nat) : Nat :=
  (s.rd (AV_UCODE n a 0)).toNat + 2 ^ 32 * bitsOf (s.rd (AV_UCODE n a 1)).toNat 0 8

/-- The microword at address `a`. -/
def State.micro (s : State) (n : Fin 4) (a : Nat) : MicroWord := microWord (s.microBits n a)

/-- The 128 bits of nanoword `b`. -/
def State.nanoBits (s : State) (n : Fin 4) (b : Nat) : Nat :=
  (List.range 4).foldl (fun x j => x + 2 ^ (32 * j) * (s.rd (AV_NCODE n b j)).toNat) 0

/-! ### Halts (R182, R183) and traps (R180) -/

/-- The sequencer stops into `st`: RUN := 0, and every arm whose slot has not started is discarded. -/
def State.seqStopTo (s : State) (n : Fin 4) (st : Nat) : State :=
  ((s.put (AV_SEQSTAT_STATE n) st).putb (AV_SEQCTL_RUN n) false).modSeq n (fun q => { q with arms := [], owner := none })

/-- A halt with a fault code of Table 6-7: captured while VALID is 0, and source 80. -/
def State.seqFault (s : State) (n : Fin 4) (code : Nat) : State :=
  let s1 := if s.is (AV_SEQFAULT_VALID n) then s
    else (((s.put (AV_SEQFAULT_CODE n) code).put (AV_SEQFAULT_PC n) (s.upc n)).put (AV_SEQFAULT_DEPTH n) (s.depth n)).put
      (AV_SEQFAULT_VALID n) 1
  (s1.raise (avSrc n 80)).seqStopTo n 5

/-- A trap (R180): in the trap window it is fault 2; otherwise flags, F, the window and the return address are saved, the
trap window becomes current, and the sequencer goes to SEQTRAP.BASE + 4 × cause. -/
def State.takeTrap (s : State) (n : Fin 4) (cause ret : Nat) : State :=
  if (s.seq n).window = 7 then s.seqFault n 2
  else
    let s1 := (s.put (AV_SEQTRAP_TRAPPC n) ret).put (AV_SEQTRAP_CAUSE n) cause
    let s2 := if cause = 0 then s1.bump (AV_SEQCNT_OVF n) else s1
    let s3 := s2.raiseIf (cause == 2) (avSrc n 81)
    (s3.modSeq n (fun q => { q with saved := ⟨q.window, q.zero, q.neg, q.flag⟩, window := 7 })).goTo n
      (s.get (AV_SEQTRAP_BASE n) + 4 * cause)

/-! ### The ring selector (R385) -/

/-- The first non-empty ring of `k` rings from `base`, in round robin after ring `last`. -/
def pickRing (rings : List (List RingEntry)) (base k last : Nat) : Option (Nat × RingEntry) :=
  ((List.range k).map (fun i => base + (last + 1 + i) % k)).findSome? (fun r => ((rings.getD r []).head?).map (fun e => (r, e)))

/-- The ring and entry that the selector presents (R385): urgent, then normal with its share of internal, then internal. -/
def State.presented (s : State) (n : Fin 4) : Option (Nat × RingEntry) :=
  let q := s.seq n
  let urg := pickRing q.rings 0 4 q.lastUrgent
  let nor := pickRing q.rings 4 24 q.lastNormal
  let int := pickRing q.rings 28 4 q.lastInternal
  match urg, nor, int with
  | some x, _, _ => some x
  | none, some x, some y => if orOne (s.get RBT_ARB_INTSHARE) ≤ q.normalRun then some y else some x
  | none, some x, none => some x
  | none, none, y => y

/-- The class of an entry (Table 6-8). -/
def entryClass (e : RingEntry) : Nat := bitsOf (e.words.getD 0 0).toNat 22 2

/-- The entry that stands when nothing is presented: all zero. -/
def zeroEntry : RingEntry := ⟨List.replicate 16 0, false, false, none, none⟩

/-- Word `k` of the current entry. -/
def State.cmdWord (s : State) (n : Fin 4) (k : Nat) : Nat := ((s.seq n).entry.words.getD k 0).toNat

/-! ### Conditions (Table 6-3) -/

/-- No arm is queued and no slot is in progress. -/
def State.armIdle (s : State) (n : Fin 4) : Bool := (s.seq n).arms.isEmpty && (s.seq n).slotRun.isNone

/-- Every Kazq frame of the last KZ action has been acknowledged. -/
def Kazq.done (k : Kazq) : Bool :=
  k.seqQ.isEmpty && !k.failed && (match k.cur with
    | some (f, _) => !f.seq
    | none => true)

/-- Condition `c` of Table 6-3. -/
def State.cond (s : State) (n : Fin 4) (c : Nat) : Bool :=
  let q := s.seq n
  match c with
  | 0 => true
  | 1 => q.zero
  | 2 => q.neg
  | 3 => q.flag
  | 4 => (s.presented n).isSome && !s.is (AV_SEQCTL_HOLD n)
  | 5 => ((s.presented n).map (fun p => entryClass p.2 == 2)).getD false && !s.is (AV_SEQCTL_HOLD n)
  | 6 => decide (q.arms.length + (if q.slotRun.isSome then 1 else 0) < 4)
  | 7 => s.armIdle n
  | 8 => !q.outcomes.isEmpty
  | 9 => s.is (SVO_STAT_ONTRK n)
  | 10 => (s.avn n).kazq.done
  | 11 => s.laneTracks n && !s.is (AV_TLSTAT_FMISM n)
  | 12 => s.causes n != 0
  | 13 => (q.op.map (fun o => o.ended != 0)).getD false
  | 14 => (q.slotRun.map (fun r => r.arm.split && r.firstEnded)).getD false
  | _ => decide (64 ≤ q.outcomes.length)

/-- The sequencer waits on CMD or URG at D = 0 with no operation open while HOLD = 1 (R189). -/
def State.parkable (s : State) (n : Fin 4) : Bool :=
  let m := s.micro n (s.upc n)
  s.is (AV_SEQCTL_HOLD n) && m.mode == 3 && (m.cond == 4 || m.cond == 5) && s.depth n == 0 && (s.seq n).op.isNone

/-- The sequencer waits (R165): parked where R189 says so. -/
def State.seqWait (s : State) (n : Fin 4) : State := s.put (AV_SEQSTAT_STATE n) (if s.parkable n then 4 else 2)

/-! ### The Kazq link (R149, R157, R158) -/

/-- A frame may start: HEADSEL, WCUR and WASSIST never while write gate is high (R149). -/
def kzMayStart (a : Avenue) (f : KazqFrame) : Bool := !(a.wg && !f.read && decide (f.addr ≤ 2))

/-- An idle link starts the next frame: the sequencer's before firmware's (R158). -/
def kzStart (a : Avenue) : Avenue :=
  let k := a.kazq
  match k.cur with
  | some _ => a
  | none =>
    match k.seqQ, k.fwQ with
    | f :: fs, _ => if kzMayStart a f then { a with kazq := { k with cur := some (f, 0), seqQ := fs } } else a
    | [], f :: fs => if kzMayStart a f then { a with kazq := { k with cur := some (f, 0), fwQ := fs } } else a
    | [], [] => a

/-! ### Disabling an Avenue (R545) -/

/-- Avenue `n` is off (R544, R545, R34): lane OFF, write gate low, sequencer stopped, servo engine OFF, link idle, clocks no
longer expected. -/
def State.avenueOff (s : State) (n : Fin 4) : State :=
  let s1 := ((s.putb (AV_TLCTL_EN n) false).laneTo n 0).dropGate n
  let s2 := s1.seqStopTo n 0
  let s3 := ((s2.putb (SVO_CTL_EN n) false).dropReq n).svTo n 0
  let s4 := s3.modKz n (fun k => { k with cur := none, seqQ := [], fwQ := [] })
  s4.expect (laneDomains n ++ [20 + n.val]) false

/-- Avenue `n` is disabled (R545): recorded in PWR_AVEN, with source 1134. -/
def State.disableAvenue (s : State) (n : Fin 4) : State := ((s.avenueOff n).putb ⟨PWR_AVEN, n.val, 1⟩ false).raise 1134

end Sys2Proof.Machine
end

