-- ==== Sys2Proof/Machine/WritePath.lean ====
section
/-! DEFINITION. Meanings of the write-path and preamp-link commands (spec 05). -/

namespace Sys2Proof.Machine

/-! ### Shock inputs (R150, R211) -/

/-- The Avenues and engines, in order. -/
def all4 : List (Fin 4) := [0, 1, 2, 3]

/-- The SHM bit of shock input `k` for Avenue `n`. -/
def shmAv (k : Fin 2) (n : Fin 4) : Fld := if k = 0 then AV_WINHCTL_SHM0 n else AV_WINHCTL_SHM1 n

/-- The SHM bit of shock input `k` for engine `n`. -/
def shmSv (k : Fin 2) (n : Fin 4) : Fld := if k = 0 then SVO_SHK_SHM0 n else SVO_SHK_SHM1 n

/-- The level of shock input `k` as the device sees it. -/
def State.setShock (s : State) (k : Fin 2) (b : Bool) : State := if k = 0 then { s with shock0 := b } else { s with shock1 := b }

/-- Cause 0 is present on Avenue `n`. -/
def State.cause0 (s : State) (n : Fin 4) : Bool := s.causes n % 2 == 1

/-- What a rising edge of shock input `k` does to Avenue and engine `n` (R150, R151, R211); `old` is the state before it. -/
def shockRiseOn (k : Fin 2) (old s : State) (n : Fin 4) : State :=
  let s1 := if s.cause0 n && !old.cause0 n then (s.raise (avSrc n 65)).inhibit n 0 else s
  s1.raiseIf (s1.is (shmSv k n)) (svSrc n 16)

/-- SHOCK_RISE. -/
def shockRise (k : Fin 2) (s : State) : State :=
  if (if k = 0 then s.shock0 else s.shock1) then s else all4.foldl (shockRiseOn k s) (s.setShock k true)

/-- SHOCK_RISE. -/
def execShockRise (k : Fin 2) (s : State) : Host.Outcome State Fault Refusal := .next (shockRise k s)

/-- The hold periods that begin when an enabled shock input falls (R150, R211). -/
def shockFallOn (k : Fin 2) (s : State) (n : Fin 4) : State :=
  let s1 := if s.is (shmAv k n) then s.modAv n (fun a => { a with shockHold := true }) else s
  if s1.is (shmSv k n) then s1.modSv n (fun v => { v with shockSet := true }) else s1

/-- SHOCK_FALL. -/
def shockFall (k : Fin 2) (s : State) : State :=
  let up := if k = 0 then s.shock0 else s.shock1
  if up then all4.foldl (shockFallOn k) (s.setShock k false) else s

/-- SHOCK_FALL. -/
def execShockFall (k : Fin 2) (s : State) : Host.Outcome State Fault Refusal := .next (shockFall k s)

/-- SHOCK_HOLD_EXPIRY (R150). -/
def execShockHoldExpiry (n : Fin 4) (s : State) : Host.Outcome State Fault Refusal :=
  .next (s.modAv n (fun a => { a with shockHold := false }))

/-- SHOCK_SET_HOLD_EXPIRY (R211). -/
def execShockSetHoldExpiry (n : Fin 4) (s : State) : Host.Outcome State Fault Refusal :=
  .next (s.modSv n (fun v => { v with shockSet := false }))

/-- PREAMP_FAULT_INPUT (R150): PFLTn_N falls. -/
def preampFault (n : Fin 4) (s : State) : State :=
  if (s.avn n).pflt then s
  else ((s.modAv n (fun a => { a with pflt := true })).raise (avSrc n 67)).inhibit n 2

/-- PREAMP_FAULT_INPUT. -/
def execPreampFaultInput (n : Fin 4) (s : State) : Host.Outcome State Fault Refusal := .next (preampFault n s)

/-- SOFTWARE_WRITE_INHIBIT (R150): SWINH written 1. -/
def softwareInhibit (n : Fin 4) (s : State) : State :=
  if s.is (AV_WINHCTL_SWINH n) then s else (s.putb (AV_WINHCTL_SWINH n) true).inhibit n 6

/-- SOFTWARE_WRITE_INHIBIT. -/
def execSoftwareWriteInhibit (n : Fin 4) (s : State) : Host.Outcome State Fault Refusal := .next (softwareInhibit n s)

/-! ### The Kazq link (5.4) -/

/-- GO written 1 with the frame in KZCMD (R158): ignored while BUSY; refused for a preamp register with an operation open. -/
def kazqGo (n : Fin 4) (s : State) : State :=
  if s.is (AV_KZSTAT_BUSY n) then s
  else
    let f : KazqFrame := ⟨s.is (AV_KZCMD_RD n), s.get (AV_KZCMD_ADDR n), s.get (AV_KZCMD_DATA n), false⟩
    if f.addr ≤ 3 ∧ (s.seq n).op.isSome then s.put (AV_KZSTAT_RESULT n) 3
    else ((s.putb (AV_KZSTAT_BUSY n) true).modKz n (fun k => { k with fwQ := k.fwQ ++ [f] })).modAv n kzStart

/-- KAZQ_COMMAND (R158): a write of KZCMD with GO = 1. -/
def kazqCommand (n : Fin 4) (rd : Bool) (addr : Fin 128) (data : BitVec 16) (s : State) : State :=
  kazqGo n (((s.putb (AV_KZCMD_RD n) rd).put (AV_KZCMD_ADDR n) addr.val).put (AV_KZCMD_DATA n) data.toNat)

/-- KAZQ_COMMAND. -/
def execKazqCommand (n : Fin 4) (rd : Bool) (addr : Fin 128) (data : BitVec 16) (s : State) :
    Host.Outcome State Fault Refusal := .next (kazqCommand n rd addr data s)

/-- The shadow marked invalid (R157, R160). -/
def Kazq.invalid (k : Kazq) : Kazq := { k with headsel := none, wcur := none, wassist := none, heater := none }

/-- The shadow after an acknowledged write frame (R160). -/
def Kazq.shadowed (k : Kazq) (f : KazqFrame) : Kazq :=
  match f.addr with
  | 0 => { k with headsel := some f.data }
  | 1 => { k with wcur := some f.data }
  | 2 => { k with wassist := some f.data }
  | 3 => { k with heater := some f.data }
  | _ => k

/-- A frame fails after its repeats (R157): shadow invalid, source 68, and its requester is told. -/
def kazqFailed (n : Fin 4) (f : KazqFrame) (s : State) : State :=
  let s1 := (s.modKz n Kazq.invalid).raise (avSrc n 68)
  if f.seq then (s1.modKz n (fun k => { k with seqQ := [], failed := true })).endOp n 7
  else (s1.putb (AV_KZSTAT_BUSY n) false).put (AV_KZSTAT_RESULT n) (if f.read then 2 else 1)

/-- The effects of an acknowledged write frame on the Avenue: the head-switch span after HEADSEL (R160), cause 7 when
it names the timing head, and the wait after a heater change (R149). -/
def kazqWritten (n : Fin 4) (f : KazqFrame) (s : State) : State :=
  let changed := (s.avn n).kazq.heater != some f.data
  let s1 := s.modKz n (fun k => k.shadowed f)
  match f.addr with
  | 0 => if f.data = s1.get (AV_HMAP_TMG n) then (s1.headSwitch n).inhibit n 7 else s1.headSwitch n
  | 3 => if changed ∧ 0 < s1.get (AV_WRCTL_HTSET n) then s1.modKz n (fun k => { k with heating := true }) else s1
  | _ => s1

/-- A frame succeeds. -/
def kazqDone (n : Fin 4) (f : KazqFrame) (data : Nat) (s : State) : State :=
  let s1 := if f.read then s else kazqWritten n f s
  if f.seq then s1
  else
    let s2 := (s1.putb (AV_KZSTAT_BUSY n) false).put (AV_KZSTAT_RESULT n) 0
    if f.read then s2.put (AV_KZSTAT_DATA n) data else s2

/-- KAZQ_FRAME_END (R157): the frame in progress ends; the link starts the next one. -/
def kazqFrameEnd (n : Fin 4) (r : KazqReply) (s : State) : State :=
  let s1 := s.modAv n kzStart
  match (s1.avn n).kazq.cur with
  | none => s1
  | some (f, tries) =>
    let ok := if f.read then r.crcOk else r.ack
    if !ok && decide (tries < s1.get (AV_WRCTL_KRETRY n)) then s1.modKz n (fun k => { k with cur := some (f, tries + 1) })
    else
      let s2 := s1.modKz n (fun k => { k with cur := none })
      (if ok then kazqDone n f r.data s2 else kazqFailed n f s2).modAv n kzStart

/-- KAZQ_FRAME_END. -/
def execKazqFrameEnd (n : Fin 4) (r : KazqReply) (s : State) : Host.Outcome State Fault Refusal :=
  .next (kazqFrameEnd n r s)

/-- HEATER_SETTLE_EXPIRY (R149). -/
def execHeaterSettleExpiry (n : Fin 4) (s : State) : Host.Outcome State Fault Refusal :=
  .next (s.modKz n (fun k => { k with heating := false }))

/-! ### Discovery (5.5) -/

/-- DCHK of an identity descriptor holds (Table 5-3, R573). -/
def identOk (d : List Byte) : Bool := decide (d.length = 16) && decide (beBytes 2 (crc16 (d.take 14)) = d.drop 14)

/-- Bytes `lo` to `hi` of a descriptor as a number, most significant first. -/
def identField (d : List Byte) (lo len : Nat) : Nat := (ofBytes 32 ((d.drop lo).take len)).toNat

/-- The first preamp-table entry that a descriptor meets (R161, step 3). -/
def preampMatch (table : List PreampEntry) (d : List Byte) : Option PreampEntry :=
  table.find? (fun e => identField d 0 2 == e.vendor && identField d 2 2 == e.part && decide (e.revMin ≤ identField d 4 1)
    && decide (identField d 4 1 ≤ e.revMax) && (identField d 6 2 &&& e.feat) == e.feat)

/-- The descriptor copied into PAID0 to PAID3, byte 4k in the top byte of word k (Table 5-11). -/
def State.putIdent (s : State) (n : Fin 4) (d : List Byte) : State :=
  (List.range 4).foldl (fun t k => t.wr (AV_PAID n k) (ofBytes 32 ((d.drop (4 * k)).take 4))) s

/-- The firmware frame that discovery sent last, as KZCMD and KZSTAT show it. -/
def State.kzShown (s : State) (n : Fin 4) (rd : Bool) (addr cmd result : Nat) : State :=
  (((s.putb (AV_KZCMD_RD n) rd).put (AV_KZCMD_ADDR n) addr).put (AV_KZCMD_DATA n) cmd).put (AV_KZSTAT_RESULT n) result

/-- An accepted preamp (R161 step 4, R162): HMAP and TMG; a serial number other than the recorded one means a replaced
preamp, whose calibration decides whether the Avenue stays enabled. -/
def preampAccepted (n : Fin 4) (e : PreampEntry) (d : List Byte) (calibrated : Bool) (s : State) : State :=
  let s1 := ((s.put (AV_PASTAT_OUT n) 1).put (AV_HMAP_H n) e.hmap).put (AV_HMAP_TMG n) (identField d 5 1 % 16)
  let serial := identField d 8 4
  if (s1.avn n).serialRec = some serial then s1
  else
    let s2 := ((s1.putb (AV_PASTAT_REPL n) true).raise (avSrc n 71)).modAv n (fun a => { a with calRec := false })
    if calibrated then s2.modAv n (fun a => { a with calRec := true, serialRec := some serial }) else s2.disableAvenue n

/-- PREAMP_DISCOVERY (R161, R162). -/
def preampDiscovery (n : Fin 4) (p : PreampFind) (s : State) : State :=
  let s1 := (s.put (AV_WRCTL_KRATE n) 0).putb (AV_PASTAT_REPL n) false
  if !p.ack then
    ((((((s1.kzShown n false 5 1 1).modKz n Kazq.invalid).raise (avSrc n 68)).put (AV_PASTAT_OUT n) 2).raise
      (avSrc n 69)).disableAvenue n)
  else
    let reads := p.reads.take 3
    let d := (reads.find? identOk).getD (reads.getLastD (List.replicate 16 0))
    let s2 := (((s1.putIdent n d).kzShown n true 0x7F 1 0).put (AV_KZSTAT_DATA n) (identField d 14 2))
    if !identOk d then ((s2.put (AV_PASTAT_OUT n) 3).raise (avSrc n 69)).disableAvenue n
    else
      match preampMatch s2.preampTable d with
      | some e =>
        if identField d 5 1 / 16 < s2.get (AV_FMTCTL_NDATA n) ∨ identField d 12 2 ≠ 1 then
          ((s2.put (AV_PASTAT_OUT n) 4).raise (avSrc n 70)).disableAvenue n
        else preampAccepted n e d p.calibrated s2
      | none => ((s2.put (AV_PASTAT_OUT n) 4).raise (avSrc n 70)).disableAvenue n

/-- PREAMP_DISCOVERY. -/
def execPreampDiscovery (n : Fin 4) (p : PreampFind) (s : State) : Host.Outcome State Fault Refusal :=
  .next (preampDiscovery n p s)

end Sys2Proof.Machine
end

