-- ==== Sys2Proof/Machine/Balls.lean ====
section
/-! DEFINITION. The test port (spec 21.8) and the rise of PFLTn_N (R150). -/

namespace Sys2Proof.Machine

/-- The internal reset that PORST_N applies is in force (R406, R568). -/
def State.porstReset (s : State) : Bool := s.pwr.inReset && !s.pwr.deep

/-- An instruction that takes control of the balls acts as BYPASS outside the PORST_N reset (R568). -/
def loadIr (ir : JtagInstr) (s : State) : State :=
  let takes := ir == .extest || ir == .clamp || ir == .highz
  { s with pins := { s.pins with ir := if takes && !s.porstReset then .bypass else ir } }

/-- The boundary cells drive or float the balls now: the instruction in force takes control, and the reset is still in force. -/
def State.scanControls (s : State) : Bool :=
  s.porstReset && (s.pins.ir == .extest || s.pins.ir == .clamp || s.pins.ir == .highz)

/-- JTAG_BYPASS. -/
def execJtagBypass (s : State) : Host.Outcome State Fault Refusal := .next (loadIr .bypass s)

/-- IDCODE (R568): version MAJOR − 1 in bits [31:28]. -/
def State.idcode (s : State) : Nat := 0x0964054F + (s.get SYS_ID_MAJOR - 1) * 2 ^ 28

/-- JTAG_IDCODE: the code stands in the data register. -/
def jtagIdcode (s : State) : State :=
  let t := loadIr .idcode s
  { t with pins := { t.pins with idreg := t.idcode } }

/-- JTAG_IDCODE. -/
def execJtagIdcode (s : State) : Host.Outcome State Fault Refusal := .next (jtagIdcode s)

/-- Cells as preloaded: those of WGn and SPG_* can drive only low (R568). -/
def preloaded (c : BoundaryCells) : BoundaryCells := { c with wg := 0, spg := 0 }

/-- JTAG_SAMPLE_PRELOAD (R568): the levels at the balls are captured and the cells loaded; the balls are left alone. -/
def jtagSample (captured preload : BoundaryCells) (s : State) : State :=
  let t := loadIr .samplePreload s
  { t with pins := { t.pins with sampled := captured, cells := preloaded preload } }

/-- JTAG_SAMPLE_PRELOAD. -/
def execJtagSamplePreload (captured preload : BoundaryCells) (s : State) : Host.Outcome State Fault Refusal :=
  .next (jtagSample captured preload s)

/-- JTAG_EXTEST. -/
def execJtagExtest (s : State) : Host.Outcome State Fault Refusal := .next (loadIr .extest s)

/-- JTAG_CLAMP. -/
def execJtagClamp (s : State) : Host.Outcome State Fault Refusal := .next (loadIr .clamp s)

/-- JTAG_HIGHZ. -/
def execJtagHighz (s : State) : Host.Outcome State Fault Refusal := .next (loadIr .highz s)

/-- PREAMP_FAULT_CLEAR (R150): PFLTn_N rises, and cause 2 is present no longer. -/
def execPreampFaultClear (n : Fin 4) (s : State) : Host.Outcome State Fault Refusal :=
  .next (s.modAv n (fun a => { a with pflt := false }))

end Sys2Proof.Machine
end

