-- ==== Sys2Proof/Machine/Framing.lean ====
section
/-! DEFINITION. FORMAT_APPLY (spec 02, 2.3): the framing checks of Table 2-1, the layout walk and the zone status. -/

namespace Sys2Proof.Machine

/-- The Avenue has a media operation active or queued (Table 2-1, code 1). -/
def State.mediaBusy (s : State) (n : Fin 4) : Bool :=
  (s.seq n).op.isSome || (s.seq n).rings.any (fun r => !r.isEmpty)

/-- First cylinder of zone `z` as the framing registers hold it (R61). -/
def State.zoneFirst (s : State) (n : Fin 4) (z : Nat) : Nat := s.get (AV_ZONEBND_FIRST n z)

/-- End of zone `z` as the framing registers hold it: the next zone's first cylinder, or NCYL. -/
def State.zoneEnd (s : State) (n : Fin 4) (z : Nat) : Nat :=
  if z < 31 then s.zoneFirst n (z + 1) else s.get (AV_FMTCYL_NCYL n)

/-- The zones that contain a cylinder, from zone 0 upward (R61). -/
def State.fullZones (s : State) (n : Fin 4) : List Nat :=
  (List.range 32).filter (fun z => decide (s.zoneFirst n z < s.zoneEnd n z))

/-- Rule 2 of Table 2-1: NDATA, NCYL and the boundaries of R61. -/
def State.boundsOk (s : State) (n : Fin 4) : Bool :=
  let nd := s.get (AV_FMTCTL_NDATA n)
  let nc := s.get (AV_FMTCYL_NCYL n)
  decide (1 ≤ nd) && decide (nd ≤ 5) && decide (1 ≤ nc) && decide (nc ≤ 4194304) && decide (s.zoneFirst n 0 = 0)
    && (List.range 32).all (fun z => decide (s.zoneFirst n z ≤ s.zoneEnd n z))
    && (List.range 32).all (fun z => decide (s.zoneFirst n z ≤ nc))

/-- A zone's framing as the registers hold it, with what the walk gives (R63, R67). -/
def State.zoneLay (s : State) (n : Fin 4) (z : Nat) : ZoneLay :=
  let cpr := s.get (AV_ZONECFG_CPR16 n z)
  let preg := s.get (AV_ZONEWDG_PREG n z)
  let wlen := s.get (AV_ZONEWDG_WLEN n z)
  let postg := s.get (AV_ZONEWDG_POSTG n z)
  let w := layoutWalk cpr preg wlen postg
  { first := s.zoneFirst n z, cpr16 := cpr, spares := s.get (AV_ZONECFG_SPARES n z), preg := preg, wlen := wlen,
    postg := postg, w := min 64 (s.get (AV_ZONEMRK_W n z)), mthr := min 8 (s.get (AV_ZONEMRK_MTHR n z)),
    fly := s.is (AV_ZONEMRK_FLYWHEEL n z), valid := true, spt := w.slots.length, splits := w.splits, gaps := w.gaps,
    tail := w.tail }

/-- Channel rate of zone `z` at the nominal speed, times 60 (R60). -/
def State.rate60 (s : State) (n : Fin 4) (z : Nat) : Nat := 128 * s.get (AV_ZONECFG_CPR16 n z) * s.nominal

/-- Rule 3: from 3.6 to 7.2 Gbaud at the nominal speed. -/
def rateRule (s : State) (n : Fin 4) (z : Nat) : Bool :=
  decide (60 * 3600000000 ≤ s.rate60 n z) && decide (s.rate60 n z ≤ 60 * 7200000000)

/-- Rule 4: CPR16 does not exceed that of the nearest non-empty zone below. -/
def cprRule (s : State) (n : Fin 4) (z : Nat) : Bool :=
  match ((s.fullZones n).filter (· < z)).getLast? with
  | none => true
  | some y => decide (s.get (AV_ZONECFG_CPR16 n z) ≤ s.get (AV_ZONECFG_CPR16 n y))

/-- Rule 5: the guards' durations and WLEN ≥ 1. -/
def guardRule (s : State) (n : Fin 4) (z : Nat) : Bool :=
  decide (400 * s.rate60 n z ≤ s.get (AV_ZONEWDG_PREG n z) * 32 * 60 * 1000000000)
    && decide (200 * s.rate60 n z ≤ s.get (AV_ZONEWDG_POSTG n z) * 32 * 60 * 1000000000)
    && decide (1 ≤ s.get (AV_ZONEWDG_WLEN n z))

/-- Rule 6: every data area holds at least 74,048 bits. -/
def areaRule (s : State) (n : Fin 4) (z : Nat) : Bool :=
  let bpr := 128 * s.get (AV_ZONECFG_CPR16 n z)
  let res := 32 * (s.get (AV_ZONEWDG_PREG n z) + s.get (AV_ZONEWDG_WLEN n z) + s.get (AV_ZONEWDG_POSTG n z))
  (List.range 96).all (fun k => decide (resStart bpr k + res + 74048 ≤ resStart bpr (k + 1)))

/-- Rule 7: SPT ≤ 2,048 and SPARES < SPT. -/
def slotsRule (s : State) (n : Fin 4) (z : Nat) : Bool :=
  let l := s.zoneLay n z
  decide (l.spt ≤ 2048) && decide (l.spares < l.spt)

/-- The first rule of Table 2-1 broken, with its zone (0 for codes 1 and 2); none when every rule holds (R63). -/
def State.formatBroken (s : State) (n : Fin 4) : Option (Nat × Nat) :=
  if s.mediaBusy n then some (1, 0)
  else if !s.boundsOk n then some (2, 0)
  else
    [(3, rateRule s n), (4, cprRule s n), (5, guardRule s n), (6, areaRule s n), (7, slotsRule s n)].findSome?
      (fun r => ((s.fullZones n).find? (fun z => !r.2 z)).map (fun z => (r.1, z)))

/-- AVn_ZONESTAT[z] and AVn_ZONEUSE[z] cleared (R64). -/
def clearZone (n : Fin 4) (s : State) (z : Nat) : State := (s.wr (AV_ZONESTAT n z) 0).wr (AV_ZONEUSE n z) 0

/-- AVn_ZONESTAT[z] and AVn_ZONEUSE[z] filled from a zone's layout (Table 2-14). -/
def showZone (n : Fin 4) (s : State) (zl : Nat × ZoneLay) : State :=
  let (z, l) := zl
  if l.valid then
    (((((s.put (AV_ZONESTAT_VALID n z) 1).put (AV_ZONESTAT_GAPS n z) l.gaps).put (AV_ZONESTAT_SPLITS n z) l.splits).put
      (AV_ZONESTAT_SPT n z) l.spt).put (AV_ZONEUSE_USPT n z) (l.spt - l.spares)).put (AV_ZONEUSE_TAIL n z) l.tail
  else s

/-- The layout that a successful APPLY puts in force (R63, R81): an empty zone keeps its boundary alone. -/
def State.newLayout (s : State) (n : Fin 4) : Layout :=
  let full := s.fullZones n
  { ndata := s.get (AV_FMTCTL_NDATA n), ncyl := s.get (AV_FMTCYL_NCYL n)
    zones := (List.range 32).map (fun z =>
      if full.contains z then s.zoneLay n z
      else ⟨s.zoneFirst n z, 0, 0, 0, 0, 0, 0, 0, false, false, 0, 0, 0, 0⟩) }

/-- FORMAT_APPLY (R63, R64). -/
def formatApply (n : Fin 4) (s : State) : State :=
  match s.formatBroken n with
  | some (code, z) =>
    let s1 := (s.put (AV_FMTSTAT_CODE n) code).put (AV_FMTSTAT_ZONE n) z
    let s2 := if code = 1 then s1
      else ((List.range 32).foldl (clearZone n) (s1.put (AV_FMTCTL_OK n) 0)).modAv n (fun a => { a with layout := none })
    s2.raise (avSrc n 24)
  | none =>
    let l := s.newLayout n
    let s1 := (List.range 32).foldl (clearZone n) s
    let s2 := ((List.range 32).zip l.zones).foldl (showZone n) s1
    (((s2.put (AV_FMTCTL_OK n) 1).put (AV_FMTSTAT_CODE n) 0).put (AV_FMTSTAT_ZONE n) 0).modAv n
      (fun a => { a with layout := some l })

/-- FORMAT_APPLY. -/
def execFormatApply (n : Fin 4) (s : State) : Host.Outcome State Fault Refusal := .next (formatApply n s)

end Sys2Proof.Machine
end

