-- ==== Sys2Proof/Machine/Detection.lean ====
section
/-! DEFINITION. Meanings of the detection, decoding and ladder commands (spec 04). -/

namespace Sys2Proof.Machine

/-! ### Code tables (R117, Table 4-3) -/

/-- The number of entries of a code table. -/
def codeCount (ws : List Word) : Nat := bitsOf (ws.getD 1 0).toNat 21 11

/-- The entry words of a code table. -/
def codeWords (ws : List Word) : List Nat := ((ws.drop 2).take (codeCount ws)).map BitVec.toNat

/-- The entries of a code table (Table 4-2). -/
def codeEntries (ws : List Word) : List CodeEntry := (codeWords ws).map codeEntry

/-- Rule 2 of Table 4-3. -/
def codeShape (ws : List Word) : Bool :=
  let w0 := (ws.getD 0 0).toNat
  let w1 := (ws.getD 1 0).toNat
  bitsOf w0 16 16 == 1 && bitsOf w1 12 9 == 288 && bitsOf w1 7 5 == 30 && bitsOf w1 0 7 == 127
    && decide (1 ≤ codeCount ws) && decide (codeCount ws ≤ 1536)

/-- A list of numbers rises strictly. -/
def rising : List Nat → Bool
  | a :: b :: xs => decide (a < b) && rising (b :: xs)
  | _ => true

/-- Rule 3: entries in increasing order of (ROW, COL) with no two equal, reserved fields 0, and ROW and COL in the
ranges of Table 4-2 (assumption 13). -/
def codeOrder (ws : List Word) : Bool :=
  rising ((codeWords ws).map (fun w => w / 2 ^ 18)) && (codeWords ws).all (fun w => bitsOf w 0 11 == 0)
    && (codeEntries ws).all (fun e => decide (e.row < 30) && decide (e.col < 288))

/-- Rule 4: identity blocks on the diagonal of the parity part, and nothing above it. -/
def codeTriangle (ws : List Word) : Bool :=
  let es := codeEntries ws
  (List.range 30).all (fun i => es.contains ⟨i, 258 + i, 0⟩) && es.all (fun e => decide (e.col ≤ 258 + e.row))

/-- Rule 5: the weights of block columns and block rows. -/
def codeWeights (ws : List Word) : Bool :=
  let es := codeEntries ws
  (List.range 288).all (fun j =>
      let k := (es.filter (fun e => e.col == j)).length
      decide (1 ≤ k) && decide (k ≤ 6) && (decide (258 ≤ j) || decide (2 ≤ k)))
    && (List.range 30).all (fun i => decide ((es.filter (fun e => e.row == i)).length ≤ 64))

/-- The first of rules 2 to 5 that a table breaks; 0 when none. -/
def codeBroken (ws : List Word) : Nat :=
  if !codeShape ws then 2 else if !codeOrder ws then 3 else if !codeTriangle ws then 4
  else if !codeWeights ws then 5 else 0

/-- The 1,538 words of AVn_CODEMEM. -/
def State.codeMem (s : State) (n : Fin 4) : List Word := (List.range 1538).map (fun w => s.rd (AV_CODEMEM n w))

/-- The 1,538 words of AV0_RDCODEMEM. -/
def State.rdCodeMem (s : State) : List Word := (List.range 1538).map (fun w => s.rd (AV0_RDCODEMEM w))

/-- The words of a table that its entries fill. -/
def codeTable (ws : List Word) : List Word := ws.take (2 + codeCount ws)

/-- CODE_TABLE_LOAD (R117): a load refused on rule 1 leaves OK, CODEID and the table in force (assumption 14). -/
def codeTableLoad (n : Fin 4) (s : State) : State :=
  let ws := s.codeMem n
  if s.mediaBusy n then (s.put (AV_CODECTL_ERR n) 1).raise (avSrc n 55)
  else
    let e := codeBroken ws
    let s1 := s.put (AV_CODECTL_ERR n) e
    if e ≠ 0 then ((s1.put (AV_CODECTL_OK n) 0).modAv n (fun a => { a with code := [] })).raise (avSrc n 55)
    else ((s1.put (AV_CODECTL_OK n) 1).put (AV_CODECTL_CODEID n) (bitsOf (ws.getD 0 0).toNat 0 16)).modAv n (fun a =>
      { a with code := codeTable ws })

/-- CODE_TABLE_LOAD. -/
def execCodeTableLoad (n : Fin 4) (s : State) : Host.Outcome State Fault Refusal := .next (codeTableLoad n s)

/-- A retry decoder job is queued, held or running. -/
def RetryDecoders.busy (r : RetryDecoders) : Bool :=
  !r.queue.isEmpty || !r.held.isEmpty || r.run0.isSome || r.run1.isSome

/-- Rule 6: the table equals that of every Avenue with OK = 1. -/
def State.codeAgrees (s : State) (t : List Word) : Bool :=
  ([0, 1, 2, 3] : List (Fin 4)).all (fun n => !s.is (AV_CODECTL_OK n) || (s.avn n).code == t)

/-- RETRY_CODE_TABLE_LOAD (R117). -/
def retryCodeTableLoad (s : State) : State :=
  let ws := s.rdCodeMem
  if s.rdec.busy then (s.put AV0_RDECCTL_ERR 1).raise (avSrc 0 55)
  else
    let b := codeBroken ws
    let e := if b ≠ 0 then b else if s.codeAgrees (codeTable ws) then 0 else 6
    let s1 := s.put AV0_RDECCTL_ERR e
    if e ≠ 0 then
      ({ s1 with rdec := { s1.rdec with code := [] } }.put AV0_RDECCTL_OK 0).raise (avSrc 0 55)
    else { s1 with rdec := { s1.rdec with code := codeTable ws } }.put AV0_RDECCTL_OK 1

/-- RETRY_CODE_TABLE_LOAD. -/
def execRetryCodeTableLoad (s : State) : Host.Outcome State Fault Refusal := .next (retryCodeTableLoad s)

/-! ### Decoders (R119 to R122) -/

/-- The oldest sector in the on-the-fly decoder ends with an outcome; undecoded sectors behind it follow. -/
def endOldest (n : Fin 4) (o : SectorRead → SectorOutcome) (block : SectorRead → List Byte) (s : State) : State :=
  match (s.avn n).decoding with
  | [] => s
  | sec :: rest =>
    drainMisses n rest.length (finishSector n sec (o sec) (block sec) (s.modAv n (fun a => { a with decoding := rest })))

/-- ON_THE_FLY_DECODE_END (R172). -/
def onTheFlyDecodeEnd (n : Fin 4) (d : Decoded) (s : State) : State :=
  endOldest n (fun sec => sectorOutcome sec.addr sec.ctx d) (fun sec => sectorBlock sec.addr d) s

/-- ON_THE_FLY_DECODE_END. -/
def execOnTheFlyDecodeEnd (n : Fin 4) (d : Decoded) (s : State) : Host.Outcome State Fault Refusal :=
  .next (onTheFlyDecodeEnd n d s)

/-- DECODE_OVERRUN (R120): the decoder holds two codewords and the next one's input is full. -/
def decodeOverrun (n : Fin 4) (s : State) : State :=
  if 2 ≤ (s.avn n).decoding.length then endOldest n (fun _ => .overrun) (fun _ => []) s else s

/-- DECODE_OVERRUN. -/
def execDecodeOverrun (n : Fin 4) (s : State) : Host.Outcome State Fault Refusal := .next (decodeOverrun n s)

/-- RETRY_JOB_SUBMIT (R122): the L1 job of a ladder whose L1 step has started. With RDECCTL.OK = 0 the job fails at once
(R117); an Avenue that holds a job submits no further one. -/
def retryJobSubmit (n : Fin 4) (id : Nat) (s : State) : State :=
  match s.ladder n id with
  | none => s
  | some l =>
    if l.level = 1 ∧ l.phase = .running then
      if !s.is AV0_RDECCTL_OK then stepFailed n l s
      else if s.rdec.held.any (fun j => j.av == n) then s
      else
        let j : RetryJob := ⟨n, id, l.cls⟩
        let r := if s.rdec.admits l.cls && !s.rdec.held.any (fun k => k.cls == l.cls) then
            { s.rdec with queue := s.rdec.queue ++ [j] }
          else { s.rdec with held := s.rdec.held ++ [j] }
        { s with rdec := r }.setLadder n { l with phase := .queued }
    else s

/-- RETRY_JOB_SUBMIT. -/
def execRetryJobSubmit (n : Fin 4) (id : Nat) (s : State) : Host.Outcome State Fault Refusal :=
  .next (retryJobSubmit n id s)

/-- The job that a free decoder takes: the oldest of the highest class present (R122). -/
def nextJob (q : List RetryJob) : Option RetryJob :=
  match q.find? (fun j => j.cls == 2) with
  | some j => some j
  | none =>
    match q.find? (fun j => j.cls == 1) with
    | some j => some j
    | none => q.head?

/-- The job that retry decoder `d` runs. -/
def RetryDecoders.run (r : RetryDecoders) (d : Fin 2) : Option RetryJob := if d = 0 then r.run0 else r.run1

/-- The decoders with the job of decoder `d` replaced. -/
def RetryDecoders.setRun (r : RetryDecoders) (d : Fin 2) (j : Option RetryJob) : RetryDecoders :=
  if d = 0 then { r with run0 := j } else { r with run1 := j }

/-- RETRY_JOB_START (R122). -/
def retryJobStart (d : Fin 2) (s : State) : State :=
  match s.rdec.run d, nextJob s.rdec.queue with
  | none, some j => { s with rdec := ({ s.rdec with queue := s.rdec.queue.erase j }.setRun d (some j)).refill }
  | _, _ => s

/-- RETRY_JOB_START. -/
def execRetryJobStart (d : Fin 2) (s : State) : Host.Outcome State Fault Refusal := .next (retryJobStart d s)

/-- RETRY_JOB_END (R121, R124, R126): the L1 step of the job's ladder ends; a job whose ladder has ended meanwhile has
no further effect. -/
def retryJobEnd (d : Fin 2) (res : Decoded) (s : State) : State :=
  match s.rdec.run d with
  | none => s
  | some j =>
    let s1 := { s with rdec := s.rdec.setRun d none }
    match s1.ladder j.av j.lad with
    | none => s1
    | some l =>
      let o := sectorOutcome l.sec.addr l.sec.ctx res
      let s2 := outcomeEvents j.av o s1
      let s3 := if o = .good ∧ l.sec.verify = false then
          s2.modAv j.av (fun a => { a with
            delivered := a.delivered ++ [(l.sec.ctx.handle, l.sec.addr.slot, sectorBlock l.sec.addr res)] })
        else s2
      stepEnded j.av l o s3

/-- RETRY_JOB_END. -/
def execRetryJobEnd (d : Fin 2) (res : Decoded) (s : State) : Host.Outcome State Fault Refusal :=
  .next (retryJobEnd d res s)

/-! ### Ladder steps -/

/-- LADDER_STEP_START (R126, R128, R133): a waiting ladder's next step starts, or the ladder ends with a time limit.
The skip conditions of Table 4-5 are taken again at this moment. -/
def ladderStepStart (n : Fin 4) (id : Nat) (s : State) : State :=
  match s.ladder n id with
  | none => s
  | some l =>
    if l.phase = .waiting then
      if l.aborted then endLadder n l .ended s
      else match s.nextStep n l l.level l.step with
      | none => endLadder n l .failed s
      | some (v, k) =>
        let l1 := { l with level := v, step := k }
        if s.outOfTime l1 then endLadder n l1 .timeLimit s
        else
          let l2 := { l1 with phase := .running }
          recordLadder n l2 none (s.setLadder n l2)
    else s

/-- LADDER_STEP_START. -/
def execLadderStepStart (n : Fin 4) (id : Nat) (s : State) : Host.Outcome State Fault Refusal :=
  .next (ladderStepStart n id s)

/-- REREAD_DISPLACE (R130): a re-read step waiting for its sector. -/
def rereadDisplace (n : Fin 4) (id : Nat) (s : State) : State :=
  match s.ladder n id with
  | none => s
  | some l => s.setLadder n (displaced l)

/-- REREAD_DISPLACE. -/
def execRereadDisplace (n : Fin 4) (id : Nat) (s : State) : Host.Outcome State Fault Refusal :=
  .next (rereadDisplace n id s)

/-- L6_STEP_END (R132, R336): the Square delivers the block or reports failure. -/
def l6StepEnd (n : Fin 4) (id : Nat) (delivered : Bool) (s : State) : State :=
  match s.ladder n id with
  | none => s
  | some l =>
    if l.level = 6 ∧ l.phase = .running then
      if delivered then endLadder n l (.recovered 6) s else stepFailed n l s
    else s

/-- L6_STEP_END. -/
def execL6StepEnd (n : Fin 4) (id : Nat) (delivered : Bool) (s : State) : Host.Outcome State Fault Refusal :=
  .next (l6StepEnd n id delivered s)

/-- RELOCATE_SECTOR (R137 to R139): of a lasting sector, the first spare that reads back takes its place; with no spare
left, the sector stays and is marked weak. -/
def relocateSector (n : Fin 4) (sec : SectorAddr) (spares : List (SectorAddr × Bool)) (s : State) : State :=
  let a := s.avn n
  if a.relocate.contains sec || a.pendingList.contains sec then
    let s1 := s.modAv n (fun b => { b with relocate := b.relocate.erase sec, pendingList := b.pendingList.erase sec })
    match spares.find? (fun p => p.2) with
    | some (spare, _) =>
      s1.modAv n (fun b => { b with mapping := b.mapping ++ [(sec, spare)], grown := b.grown ++ [(sec, false)] })
    | none => (s1.modAv n (fun b => { b with grown := b.grown ++ [(sec, true)] })).raise (avSrc n 57)
  else s

/-- RELOCATE_SECTOR. -/
def execRelocateSector (n : Fin 4) (sec : SectorAddr) (spares : List (SectorAddr × Bool)) (s : State) :
    Host.Outcome State Fault Refusal := .next (relocateSector n sec spares s)

end Sys2Proof.Machine
end

