-- ==== Sys2Proof/Machine/TimingLane.lean ====
section
/-! DEFINITION. Meanings of the timing-lane and front-end commands (spec 03). The wedge commands, which the servo
engine shares, stand in Machine/ServoWedge.lean. -/

namespace Sys2Proof.Machine

/-- EN written 1 in OFF: the lane's clocks are expected, FREERUN, FW := 0 (R34, R84, R86). -/
def laneEnable (n : Fin 4) (s : State) : State :=
  let s1 := s.putb (AV_TLCTL_EN n) true
  if s.laneState n = 0 then
    ((s1.expect (laneDomains n) true).laneTo n 1).modLane n (fun l => { l with fw := 0 })
  else s1

/-- TIMING_LANE_ENABLE. -/
def execTimingLaneEnable (n : Fin 4) (s : State) : Host.Outcome State Fault Refusal := .next (laneEnable n s)

/-- EN written 0: OFF from any state, write gate drops (R86, R92), the lane's clocks cease to be expected (R34). -/
def laneDisable (n : Fin 4) (s : State) : State :=
  (((s.putb (AV_TLCTL_EN n) false).laneTo n 0).dropGate n).expect (laneDomains n) false

/-- TIMING_LANE_DISABLE. -/
def execTimingLaneDisable (n : Fin 4) (s : State) : Host.Outcome State Fault Refusal := .next (laneDisable n s)

/-- RELOCK written 1: an attempt begins from FREERUN, TRACK, COAST or LOST; ignored in OFF and ACQUIRE (Table 3-2). -/
def laneRelock (n : Fin 4) (s : State) : State :=
  let st := s.laneState n
  if st = 1 ∨ st = 3 ∨ st = 4 ∨ st = 5 then s.laneTo n 2 else s

/-- RELOCK. -/
def execRelock (n : Fin 4) (s : State) : Host.Outcome State Fault Refusal := .next (laneRelock n s)

/-- Mean of the phases, rounded toward zero (R85). -/
def meanPhase (phases : List Int) : Int := Int.tdiv phases.sum 8

/-- Mean of the magnitudes, in whole ADC codes (R85; assumption 11). -/
def meanMag (mags : List Nat) : Nat := mags.sum / 8

/-- An arithmetic shift right. -/
def asr (i : Int) (k : Nat) : Int := i / (2 ^ k : Int)

/-- The update of FW and of the oscillator phase, and the display of AVn_TLFREQ (R85, Table 3-9). -/
def laneLoop (n : Fin 4) (e : Int) (amp : Nat) (s : State) : State :=
  let acq := s.laneState n = 2
  let kp := if acq then s.get (AV_TLCTL_KPA n) else s.get (AV_TLCTL_KPT n)
  let ki := if acq then s.get (AV_TLCTL_KIA n) else s.get (AV_TLCTL_KIT n)
  let s1 := s.modLane n (fun l => { l with fw := l.fw - asr e ki, phase := l.phase - asr e kp })
  let ppm := Int.tdiv ((s1.avn n).lane.fw * 1000000) (2 ^ 24)
  ((s1.puti (AV_TLFREQ_FOFS n) (satInt 16 ppm)).puti (AV_TLFREQ_PHERR n) (max (-127) (min 127 e))).put
    (AV_TLFREQ_AMP n) (min 15 amp)

/-- The lock criterion in ACQUIRE (R88). -/
def laneLock (n : Fin 4) (e : Int) (s : State) : State :=
  let run := if e.natAbs ≤ s.get (AV_TLTHR_LKTHR n) then (s.avn n).lane.lockRun + 1 else 0
  let s1 := s.modLane n (fun l => { l with lockRun := run })
  if orOne (s.get (AV_TLTHR_LKCNT n)) ≤ run then
    ((s1.put (AV_TLSTAT_FAILS n) 0).put (AV_TLSTAT_ACQT n) (min 0xFFFF (s.time - (s.avn n).lane.t0))).laneTo n 3
  else s1

/-- The loss criteria in TRACK (R89). -/
def laneLoss (n : Fin 4) (e : Int) (amp : Nat) (tvgaMax : Bool) (s : State) : State :=
  let l := (s.avn n).lane
  let run := if s.get (AV_TLTHR_LSTHR n) < e.natAbs then l.lossRun + 1 else 0
  let arun := if tvgaMax && decide (amp < s.get (AV_TLTHR_AMIN n)) then l.ampRun + 1 else 0
  let s1 := s.modLane n (fun l => { l with lossRun := run, ampRun := arun })
  let byAmp := decide (4 ≤ arun)
  if decide (orOne (s.get (AV_TLTHR_LSCNT n)) ≤ run) || byAmp then
    ((((s1.bump (AV_TLCNT_LOSSES n)).raise (avSrc n 33)).raiseIf byAmp (avSrc n 36)).laneTo n 2)
  else s1

/-- The frequency mismatch test in TRACK (R91). -/
def laneMismatch (n : Fin 4) (s : State) : State :=
  let l := (s.avn n).lane
  let out := decide (s.get (AV_TLFTOL_FTOL n) * 2 ^ 24 < l.fw.natAbs * 1000000)
  let run := if out then l.mismRun + 1 else 0
  let s1 := s.modLane n (fun l => { l with mismRun := run })
  if decide (64 ≤ run) && !s.is (AV_TLSTAT_FMISM n) then
    ((s1.put (AV_TLSTAT_FMISM n) 1).raise (avSrc n 35)).inhibit n 3
  else s1

/-- One update of the lane (R85 to R91). -/
def laneUpdate (n : Fin 4) (phases : List Int) (mags : List Nat) (tvgaMax : Bool) (s : State) : State :=
  let e := meanPhase phases
  let amp := meanMag mags
  if s.laneState n = 2 then laneLock n e (laneLoop n e amp s)
  else if s.laneState n = 3 then
    let s1 := laneLoss n e amp tvgaMax (laneLoop n e amp s)
    if s1.laneState n = 3 then laneMismatch n s1 else s1
  else s

/-- LANE_UPDATE. -/
def execLaneUpdate (n : Fin 4) (phases : List Int) (mags : List Nat) (tvgaMax : Bool) (s : State) :
    Host.Outcome State Fault Refusal := .next (laneUpdate n phases mags tvgaMax s)

/-- 1.5 µs from the attempt's start without lock, in ACQUIRE (Table 3-2). -/
def acquireTimeout (n : Fin 4) (s : State) : State :=
  if s.laneState n = 2 then
    let fails := min 15 (s.get (AV_TLSTAT_FAILS n) + 1)
    let s1 := ((s.put (AV_TLSTAT_FAILS n) fails).bump (AV_TLCNT_LKFAILS n)).raise (avSrc n 32)
    if orOne (s.get (AV_TLCTL_RELOCKS n)) ≤ fails then (s1.raise (avSrc n 40)).laneTo n 5 else s1.beginAttempt n
  else s

/-- ACQUIRE_TIMEOUT. -/
def execAcquireTimeout (n : Fin 4) (s : State) : Host.Outcome State Fault Refusal := .next (acquireTimeout n s)

/-- A timing wedge begins: from TRACK to COAST (Table 3-2). -/
def wedgeBegin (n : Fin 4) (s : State) : State := if s.laneState n = 3 then s.laneTo n 4 else s

/-- TIMING_WEDGE_BEGIN. -/
def execTimingWedgeBegin (n : Fin 4) (s : State) : Host.Outcome State Fault Refusal := .next (wedgeBegin n s)

/-! ### Sample blocks and skew -/

/-- The quality tags (R101). -/
inductive BlockTag where
  | valid | settling | invalid
  deriving DecidableEq, Repr

/-- The tag of the block of reader `r` that crosses now (R101, R104, R105). -/
def State.tagNow (s : State) (n : Fin 4) (r : Fin 2) : BlockTag :=
  let x := s.reader n r
  if !s.laneTracks n || decide (0 < x.inv) || decide (0 < x.dropped) then .invalid
  else if 0 < x.setl then .settling
  else .valid

/-- A correction of the live skew of reader `r` by `d` steps (R94 to R96): refused, with tracking stopped and source 37
raised, when it would take the skew more than 4 × SKLIM from its value at the start of the operation. -/
def State.moveSkew (s : State) (n : Fin 4) (r : Fin 2) (d : Int) : State :=
  let x := s.reader n r
  if x.stopped then s
  else if 4 * s.get (AV_SKCTL_SKLIM n) < (x.skew + d - x.skew0).natAbs then
    (s.modReader n r (fun y => { y with stopped := true })).raise (avSrc n 37)
  else s.modReader n r (fun y => { y with skew := y.skew + d })

/-- A read operation is open and running. -/
def State.reading (s : State) (n : Fin 4) : Bool :=
  match (s.seq n).op with
  | none => false
  | some o => !o.taken && o.ended == 0

/-- The timing error of a VALID block (R115): the sum of e_k d_(k-1) - e_(k-1) d_k. -/
def timingError : List Int → List Int → Int
  | e0 :: e1 :: es, d0 :: d1 :: ds => e1 * d0 - e0 * d1 + timingError (e1 :: es) (d1 :: ds)
  | _, _ => 0

/-- Live skew tracking over one VALID block (R94): the skew moves one step against the accumulated error when its
magnitude reaches 2^TKG (assumption 12). -/
def trackSkew (n : Fin 4) (r : Fin 2) (err : Int) (s : State) : State :=
  let acc := (s.reader n r).acc + err
  if 2 ^ s.get (AV_SKCTL_TKG n) ≤ acc.natAbs then
    (s.modReader n r (fun y => { y with acc := 0 })).moveSkew n r (if 0 < acc then -1 else 1)
  else s.modReader n r (fun y => { y with acc := acc })

/-- Sign-sign LMS adaptation of the combined taps by 2^-ADSTEP, in quarters of the entry's Q2.13 unit (R112). -/
def adaptTaps (step : Nat) (signs taps : List Int) : List Int :=
  List.zipWith (fun t g => satInt 18 (t + g.sign * (2 ^ (15 - min 15 step) : Int))) taps signs

/-- A sample block crosses (R94, R101 to R105, R112, R115): counted by its tag; a VALID one feeds skew and taps. -/
def sampleBlock (n : Fin 4) (r : Fin 2) (errs decs lms : List Int) (s : State) : State :=
  let tag := s.tagNow n r
  let other := s.tagNow n (if r = 0 then 1 else 0)
  let s1 := match tag with
    | .invalid => s.bump (AV_TAGCNT_INVAL n)
    | .settling => s.bump (AV_TAGCNT_SETTL n)
    | .valid => s
  let s2 := s1.modReader n r (fun y => { y with inv := y.inv - 1, setl := y.setl - 1, dropped := y.dropped - 1 })
  if tag == .valid && s.reading n then
    let s3 := if s.is (AV_SKCTL_TRK n) then trackSkew n r (timingError errs decs) s2 else s2
    if s.is (AV_DETCTL_ADAPT n) && other == .valid then
      s3.modReader n r (fun y => { y with taps := adaptTaps (s.get (AV_DETCTL_ADSTEP n)) lms y.taps })
    else s3
  else s2

/-- SAMPLE_BLOCK. -/
def execSampleBlock (n : Fin 4) (r : Fin 2) (errs decs lms : List Int) (s : State) :
    Host.Outcome State Fault Refusal := .next (sampleBlock n r errs decs lms s)

/-- A background calibration step (R100): the next parameter in the rotation of eight slices and three parameters is
trimmed by one unit, in a direction the spec leaves open, and one block is SETTLING (Table 3-3); at the end of its range
the trim stays and source 39 is raised. While INSECT = 0, a step waits while a slot is in progress. -/
def afeCalStep (n : Fin 4) (r : Fin 2) (limit : Bool) (s : State) : State :=
  if !s.is (AV_AFECAL_EN n) || (!s.is (AV_AFECAL_INSECT n) && (s.seq n).slotRun.isSome) then s
  else
    let x := s.reader n r
    let (dir, s1) := s.fresh 1
    let s2 := s1.modReader n r (fun y =>
      { y with
        calNext := (y.calNext + 1) % 24
        trims := if limit then y.trims
          else KMap.set (fun _ => 0) y.trims y.calNext
            (KMap.get (fun _ => 0) y.trims x.calNext + (if dir = 1 then 1 else -1))
        setl := max y.setl 1 })
    s2.raiseIf limit (avSrc n 39)

/-- AFE_CAL_STEP. -/
def execAfeCalStep (n : Fin 4) (r : Fin 2) (limit : Bool) (s : State) : Host.Outcome State Fault Refusal :=
  .next (afeCalStep n r limit s)

/-! ### The equaliser and the detector's scaling (4.1, 4.2), as pure functions -/

/-- The weight set in force: WA above 16 is taken as 16 (Table 4-16). -/
def weight (w : Nat) : Nat := min 16 w

/-- The combined sample of R110 from the two filter outputs, with no weight set in force or with weight WA. -/
def combineSample (wa : Option Nat) (ya yb : Int) : Rat :=
  match wa with
  | none => ya + yb
  | some w => if weight w = 16 then ya else if w = 0 then yb else (weight w * ya + (16 - weight w) * yb) / 8

/-- An LLR over a SETTLING block, multiplied by the factor that SETSC selects and rounded toward zero (R114). -/
def scaleLlr (setsc : Nat) (llr : Int) : Int :=
  match setsc with
  | 0 => llr
  | 1 => Int.tdiv (3 * llr) 4
  | 2 => Int.tdiv llr 2
  | _ => 0

end Sys2Proof.Machine
end

