-- ==== Sys2Proof/Machine/Framer.lean ====
section
/-! DEFINITION. The framer (spec 06, 6.3, with spec 02, 03 and 05): opening and closing an operation, arms, analogue and
detector settings, preamp preparation, and the slots themselves. -/

namespace Sys2Proof.Machine

/-! ### The current entry (Table 6-8) -/

/-- OPCODE of an entry. -/
def entryOpcode (e : RingEntry) : Nat := bitsOf (e.words.getD 0 0).toNat 24 8

/-- Word `k` of an entry as a number. -/
def entryWord (e : RingEntry) (k : Nat) : Nat := (e.words.getD k 0).toNat

/-- The slip list of an entry. -/
def entrySlips (e : RingEntry) : List Nat :=
  let v := (List.range 6).foldl (fun x j => x + 2 ^ (32 * j) * entryWord e (6 + j)) 0
  (List.range (bitsOf (entryWord e 2) 4 4)).map (fun i => bitsOf v (12 * i) 12)

/-- What an entry carries with each of its sectors. -/
def entryCtx (e : RingEntry) : ReadCtx :=
  let w := entryWord e
  { region := bitsOf (w 0) 16 6, gen := bitsOf (w 0) 10 6, rany := bitsOf (w 0) 9 1 == 1, gany := bitsOf (w 0) 8 1 == 1
    cls := entryClass e, deadline := w 4 + 2 ^ 32 * w 5, handle := bitsOf (w 3) 16 16, tag := bitsOf (w 3) 0 16
    host := e.host, limited := e.limited, peerCeil := e.peerCeil, recon := e.recon
    reread := if entryOpcode e = 3 then some (bitsOf (w 12) 29 3, bitsOf (w 12) 26 3) else none }

/-! ### OPEN and CLOSE (R174, R176) -/

/-- Channel rate times 61,440 within 2.4 to 7.2 Gbaud (R65). -/
def State.rateOpen (s : State) (n : Fin 4) (z : Nat) : Bool :=
  decide (2400000000 * 61440 ≤ s.rateX n z) && decide (s.rateX n z ≤ 7200000000 * 61440)

/-- The status of OPEN's checks (R64, R65, R80, R108, R117), 0 when all hold. -/
def State.openCheck (s : State) (n : Fin 4) (z nslip : Nat) : Nat :=
  if !s.is (AV_FMTCTL_OK n) || !s.is (AV_CODECTL_OK n) then 3
  else if !s.rateOpen n z then 1
  else if (s.zoneNow n z).spares < nslip then 2
  else if s.laneState n = 5 then 4
  else 0

/-- The signed 16-bit tap `t` of an equaliser entry, tap 0 first, from byte 0 (Table 4-1). -/
def State.eqTap (s : State) (n : Fin 4) (f z t : Nat) : Int :=
  signed 16 (bitsOf (s.rd (AV_EQMEM n f z (t / 2))).toNat (16 * (t % 2)) 16)

/-- The combined taps of reader `r`, in quarters of the entry's unit. -/
def State.eqTaps (s : State) (n : Fin 4) (f z r : Nat) : List Int :=
  (List.range 16).map (fun t => 4 * s.eqTap n f z (16 * r + t))

/-- A reader at the start of an operation (R93, R96, R112). -/
def State.openReader (s : State) (n : Fin 4) (f z r : Nat) (x : Reader) : Reader :=
  let k := s.geti (AV_SKEW_SKEW n f r z)
  { x with skew := k, skew0 := k, acc := 0, stopped := false, taps := s.eqTaps n f z r }

/-- The actuator is already settled on the track at offset 0 (R174). -/
def State.settledOn (s : State) (n : Fin 4) (cyl face : Nat) : Bool :=
  s.svState n == 5 && s.target n == cyl && (s.sv n).face == face && (s.sv n).ofs == 0

/-- FRAMER_OPEN (R174). -/
def framerOpen (n : Fin 4) (s : State) : State :=
  match (s.seq n).op with
  | some _ => s.endOp n 14
  | none =>
    let e := (s.seq n).entry
    let cyl := bitsOf (entryWord e 1) 10 22
    let face := bitsOf (entryWord e 1) 7 3
    let z := s.zoneOfCyl n cyl
    let slips := entrySlips e
    let st := s.openCheck n z slips.length
    let op : MediaOp := { cyl := cyl, face := face, zone := z, slips := slips, opcode := entryOpcode e, ctx := entryCtx e,
                          prepRead := false, prepWrite := false, taken := false, ended := st, laneLost := false,
                          dsp := .zone, l4 := false, closing := false }
    let s1 := (s.modSeq n (fun q => { q with op := some op })).raiseIf (st == 1) (avSrc n 25)
    if st ≠ 0 then s1
    else
      let s2 := s1.modAv n (fun a => { a with
        readers := (s.openReader n face z 0 a.readers.1, s.openReader n face z 1 a.readers.2) })
      if s2.settledOn n cyl face then s2
      else s2.seekRequestOn n face { move := false, cyl := cyl, ofs := 0, cls := op.ctx.cls }

/-- FRAMER_OPEN. -/
def execFramerOpen (n : Fin 4) (s : State) : Host.Outcome State Fault Refusal := .next (framerOpen n s)

/-- An adapted tap as the entry holds it: of a value between two codes, which one is open. -/
def writeTap (n : Fin 4) (f z t : Nat) (v : Int) (s : State) : State :=
  let (b, s1) := if v % 4 = 0 then (0, s) else s.fresh 1
  let c : Int := v / 4 + b
  let a := AV_EQMEM n f z (t / 2)
  s1.put ⟨a, 16 * (t % 2), 16⟩ (unsigned 16 (satInt 16 c))

/-- The adapted taps of reader `r` are written back (R112). -/
def writeTaps (n : Fin 4) (f z r : Nat) (s : State) : State :=
  let ts := (if r = 0 then (s.avn n).readers.1 else (s.avn n).readers.2).taps
  (List.range 16).foldl (fun t i => writeTap n f z (16 * r + i) (ts.getD i 0) t) s

/-- The live skew of both readers is written back, and WSKEW follows reader A (R97, R145). -/
def skewBack (n : Fin 4) (f z : Nat) (s : State) : State :=
  let a := (s.avn n).readers.1.skew
  let b := (s.avn n).readers.2.skew
  let delta := a - s.geti (AV_SKEW_SKEW n f 0 z)
  let s1 := if s.is (AV_WRCTL_WFOLLOW n) then
      s.puti (AV_WSKEW_WSKEW n f z) (s.geti (AV_WSKEW_WSKEW n f z) + delta) else s
  (s1.puti (AV_SKEW_SKEW n f 0 z) a).puti (AV_SKEW_SKEW n f 1 z) b

/-- The write-back at the end of a read operation: of the skew while TRK = 1 (R97, Table 3-14), and of the taps while
ADAPT = 1 (R112). -/
def readWriteBack (n : Fin 4) (o : MediaOp) (s : State) : State :=
  let s1 := if s.is (AV_SKCTL_TRK n) then skewBack n o.face o.zone s else s
  if s1.is (AV_DETCTL_ADAPT n) then writeTaps n o.face o.zone 1 (writeTaps n o.face o.zone 0 s1) else s1

/-- The operation ends (R97, R112, R176, R197): the live head offset is written back while HOFSCTL.TRK = 1 (Table 7-9). -/
def closeOp (n : Fin 4) (o : MediaOp) (s : State) : State :=
  let s1 := if o.prepRead && !o.taken then readWriteBack n o s else s
  let s2 := if (s1.sv n).face = o.face ∧ s1.is (SVO_HOFSCTL_TRK n) = true then
      s1.puti (SVO_HOFS_HOFS n o.face o.zone) (s1.sv n).head else s1
  (s2.modSv n (fun v => { v with headHeld := false })).modSeq n (fun q => { q with op := none })

/-- A CLOSE that waits takes effect when no arm is queued or in progress (R176). -/
def tryClose (n : Fin 4) (s : State) : State :=
  match (s.seq n).op with
  | none => s
  | some o => if o.closing && s.armIdle n then closeOp n o s else s

/-- FRAMER_CLOSE (R176). -/
def framerClose (n : Fin 4) (s : State) : State := tryClose n (s.modOp n (fun o => { o with closing := true }))

/-- FRAMER_CLOSE. -/
def execFramerClose (n : Fin 4) (s : State) : Host.Outcome State Fault Refusal := .next (framerClose n s)

/-- CANCEL (R176): every arm whose slot has not started is removed. -/
def framerCancel (n : Fin 4) (s : State) : State := tryClose n (s.modSeq n (fun q => { q with arms := [] }))

/-- FRAMER_CANCEL. -/
def execFramerCancel (n : Fin 4) (s : State) : Host.Outcome State Fault Refusal := .next (framerCancel n s)

/-! ### Arms (R175, R176, R153) -/

/-- The first number of revolutions `r` with `r * bpr + p` at or after `need`. -/
def revAt (bpr p need : Nat) : Nat := ceilDiv (need - p) bpr

/-- Channel bits before the slot's start at which an arm is measured (R175): W for a read or verify, the write-gate lead
for a write. -/
def State.armLead (s : State) (n : Fin 4) (z : ZoneLay) (k : ArmKind) (l4 : Bool) : Nat :=
  match k with
  | .write => 32 * s.get (AV_WRCTL_WGLEAD n)
  | _ => if l4 then 64 else z.w

/-- End of the slot of the arm before, if any: the last arm queued, or the slot in progress. -/
def armBefore (q : Seq) : Nat :=
  match q.arms.getLast?, q.slotRun with
  | some a, _ => a.stop
  | none, some r => r.arm.stop
  | none, none => 0

/-- The slot that an arm names (R79, R168): a slot number, or a user sector. -/
def armSlot (z : ZoneLay) (slips : List Nat) (raw : Bool) (v : Nat) : Option Nat :=
  if raw then (if v < z.spt then some v else none)
  else if v < z.uspt then userSlot z.spt slips v else none

/-- An arm placed at the first occurrence that R175 allows, and whether that is later than the first after arrival. -/
def placeArm (bpr bits lead after : Nat) (p : Placed) : Nat × Bool :=
  let r := revAt bpr p.start (max after (bits + 256 + lead))
  (r, decide (revAt bpr p.start (bits + lead + 1) < r))

/-- An arm joins the queue (R175). -/
def joinArm (n : Fin 4) (o : MediaOp) (k : ArmKind) (slot bits : Nat) (s : State) : State :=
  let z := s.zoneNow n o.zone
  match z.slots[slot]? with
  | none => s
  | some p =>
    let (r, late) := placeArm z.bpr bits (s.armLead n z k o.l4) (armBefore (s.seq n)) p
    let arm : Arm := { kind := k, slot := slot, start := r * z.bpr + p.start, stop := r * z.bpr + p.stop
                       split := p.split, dsp := o.dsp, l4 := o.l4 }
    (if late then s.bump (AV_SEQCNT_LATE n) else s).modSeq n (fun q => { q with arms := q.arms ++ [arm] })

/-- A write operation is taken at its first ARM WRITE, or refused (R153). -/
def takeWrite (n : Fin 4) (o : MediaOp) (s : State) : State :=
  if o.taken then s
  else if s.causes n ≠ 0 then (s.endOp n 6).raise (avSrc n 73)
  else s.modOp n (fun p => { p with taken := true })

/-- An arm (R175, R176): without the required preparation the operation ends with status 0x000E; an arm for which the
queue has no place, or whose slot the zone does not have, is discarded (assumption 35). -/
def arm (n : Fin 4) (k : ArmKind) (v : Nat) (raw : Bool) (bits : Nat) (s : State) : State :=
  match (s.seq n).op with
  | none => s
  | some o =>
    if o.ended ≠ 0 then s
    else if !(if k = .write then o.prepWrite else o.prepRead) then s.endOp n 14
    else
      let s1 := if k = .write then takeWrite n o s else s
      let full := 4 ≤ (s.seq n).arms.length + (if (s.seq n).slotRun.isSome then 1 else 0)
      match (s1.seq n).op, armSlot (s.zoneNow n o.zone) o.slips raw (v % 4096) with
      | some p, some slot => if p.ended ≠ 0 ∨ full then s1 else joinArm n p k slot bits s1
      | _, _ => s1

/-- ARM_READ. -/
def execArmRead (n : Fin 4) (ra : Fin 16) (raw : Bool) (bits : Nat) (s : State) : Host.Outcome State Fault Refusal :=
  .next (arm n .read (s.reg n ra).toNat raw bits s)

/-- ARM_WRITE. -/
def execArmWrite (n : Fin 4) (ra : Fin 16) (raw : Bool) (bits : Nat) (s : State) : Host.Outcome State Fault Refusal :=
  .next (arm n .write (s.reg n ra).toNat raw bits s)

/-- ARM_VERIFY. -/
def execArmVerify (n : Fin 4) (ra : Fin 16) (raw : Bool) (bits : Nat) (s : State) : Host.Outcome State Fault Refusal :=
  .next (arm n .verify (s.reg n ra).toNat raw bits s)

/-! ### Settings (R170) -/

/-- The analogue settings of reader `r`: VGA, CUTOFF and BOOST, with an L2 set's changes clamped to the fields. -/
def State.afeTarget (s : State) (n : Fin 4) (o : MediaOp) (l2 : Option Nat) (r : Fin 2) : Nat × Nat × Nat :=
  let v := s.get (AV_AFESET_VGA n o.face o.zone r.val)
  let c := s.get (AV_AFESET_CUTOFF n o.face o.zone r.val)
  let b := s.get (AV_AFESET_BOOST n o.face o.zone r.val)
  let lim := fun (hi : Int) (i : Int) => (max 0 (min hi i)).toNat
  match l2 with
  | none => (v, c, b)
  | some k => (lim 255 (v + s.geti (AV_L2SET_VGAD n k)), lim 63 (c + s.geti (AV_L2SET_CUTD n k)),
      lim 31 (b + s.geti (AV_L2SET_BOOSTD n k)))

/-- The settings of one reader take effect, and the spans of Table 3-3 follow a change. -/
def afeReader (n : Fin 4) (o : MediaOp) (l2 : Option Nat) (s : State) (r : Fin 2) : State :=
  let (v, c, b) := s.afeTarget n o l2 r
  let dv := s.get (AV_AFEGAIN_VGA n r.val) ≠ v
  let dc := s.get (AV_AFECTF_CUTOFF n r.val) ≠ c ∨ s.get (AV_AFECTF_BOOST n r.val) ≠ b
  let s1 := ((s.put (AV_AFEGAIN_VGA n r.val) v).put (AV_AFECTF_CUTOFF n r.val) c).put (AV_AFECTF_BOOST n r.val) b
  let s2 := if dv then s1.span n r 2 else s1
  if dc then s2.span n r 4 else s2

/-- AFE_APPLY: AFE = 1 or 2 with an operation open. -/
def afeApply (n : Fin 4) (sel rb : Nat) (s : State) : State :=
  match (s.seq n).op with
  | none => s
  | some o =>
    if sel = 0 then s
    else ([0, 1] : List (Fin 2)).foldl (afeReader n o (if sel = 2 then some (rb % 4) else none)) s

/-- AFE_APPLY. -/
def execAfeApply (n : Fin 4) (sel : Fin 3) (rb : Fin 16) (s : State) : Host.Outcome State Fault Refusal :=
  .next (afeApply n sel.val (s.reg n rb).toNat s)

/-- DSP_SELECT: for slots armed from now on. -/
def dspSelect (n : Fin 4) (sel rb : Nat) (s : State) : State :=
  match sel with
  | 1 => s.modOp n (fun o => { o with dsp := .zone })
  | 2 => s.modOp n (fun o => { o with dsp := .l2 (rb % 4) })
  | 3 => s.modOp n (fun o => { o with dsp := .l3 (rb % 4) })
  | _ => s

/-- DSP_SELECT. -/
def execDspSelect (n : Fin 4) (sel : Fin 4) (rb : Fin 16) (s : State) : Host.Outcome State Fault Refusal :=
  .next (dspSelect n sel.val (s.reg n rb).toNat s)

/-- MARK_WINDOW_SELECT. -/
def markWindow (n : Fin 4) (sel : Nat) (s : State) : State := s.modOp n (fun o => { o with l4 := sel == 1 })

/-- MARK_WINDOW_SELECT. -/
def execMarkWindowSelect (n : Fin 4) (sel : Fin 2) (s : State) : Host.Outcome State Fault Refusal :=
  .next (markWindow n sel.val s)

/-! ### Preparation of the preamp (R160) -/

/-- The frames of a prepare action: registers whose shadow differs from the value needed. -/
def State.prepFrames (s : State) (n : Fin 4) (o : MediaOp) (write : Bool) (head : Nat) : List KazqFrame :=
  let k := (s.avn n).kazq
  let need := fun (a : Nat) (have_ : Option Nat) (v : Nat) =>
    if have_ = some v then ([] : List KazqFrame) else [⟨false, a, v, true⟩]
  let heat := if write then s.get (AV_WAT0_WHTR n o.face o.zone) else s.get (AV_WAT1_RHTR n o.face o.zone)
  need 0 k.headsel head ++ need 3 k.heater heat ++
    (if write then
      need 1 k.wcur (256 * s.get (AV_WAT0_OVS n o.face o.zone) + s.get (AV_WAT0_WCUR n o.face o.zone)) ++
        need 2 k.wassist (s.get (AV_WAT0_WAP n o.face o.zone))
    else [])

/-- KZ = 1 or KZ = 2: with the face mapped to the timing head no frame is sent and the operation ends. -/
def prepare (n : Fin 4) (write : Bool) (s : State) : State :=
  match (s.seq n).op with
  | none => s
  | some o =>
    if o.ended ≠ 0 then s
    else
      let head := bitsOf (s.get (AV_HMAP_H n)) (4 * o.face) 4
      if head = s.get (AV_HMAP_TMG n) then (s.endOp n 7).raise (avSrc n 73)
      else
        let fs := s.prepFrames n o write head
        ((s.modOp n (fun p => if write then { p with prepWrite := true } else { p with prepRead := true })).modKz n (fun k =>
          { k with seqQ := k.seqQ ++ fs, failed := false })).modAv n kzStart

/-- PREPARE_READ. -/
def execPrepareRead (n : Fin 4) (s : State) : Host.Outcome State Fault Refusal := .next (prepare n false s)

/-- PREPARE_WRITE. -/
def execPrepareWrite (n : Fin 4) (s : State) : Host.Outcome State Fault Refusal := .next (prepare n true s)

/-! ### Seek and move actions (R203) -/

/-- SVO = 1 or 2, from the ports SVOCYL and SVOOFS, with the open operation's face. -/
def servoAction (n : Fin 4) (move : Bool) (s : State) : State :=
  let q := s.seq n
  s.seekRequestOn n ((q.op.map MediaOp.face).getD (s.sv n).face)
    { move := move, cyl := q.svoCyl.toNat, ofs := signed 32 q.svoOfs.toNat, cls := entryClass q.entry }

/-- SERVO_SEEK_ACTION. -/
def execServoSeekAction (n : Fin 4) (s : State) : Host.Outcome State Fault Refusal := .next (servoAction n false s)

/-- SERVO_MOVE_ACTION. -/
def execServoMoveAction (n : Fin 4) (s : State) : Host.Outcome State Fault Refusal := .next (servoAction n true s)

/-! ### Mark searches (R75 to R77, R129) -/

/-- Candidate `a` is taken before candidate `b` (R75). -/
def betterMark (a b : MarkCand) : Bool :=
  if a.distance ≠ b.distance then decide (a.distance < b.distance)
  else if a.offset.natAbs ≠ b.offset.natAbs then decide (a.offset.natAbs < b.offset.natAbs)
  else decide (a.offset ≤ b.offset)

/-- The offset found, if any, within ±`w` at distance at most `thr`; `hdr` asks the header condition of R129. -/
def searchMark (w thr : Nat) (hdr : Bool) (cands : List MarkCand) : Option Int :=
  ((cands.filter (fun c => decide (c.offset.natAbs ≤ w) && decide (c.distance ≤ thr) && c.clear && (!hdr || c.header))).foldl
    (fun b c => match b with
      | none => some c
      | some d => if betterMark c d then some c else some d) none).map MarkCand.offset

/-- The search of a slot's mark with the settings of its arm. -/
def State.slotSearch (s : State) (n : Fin 4) (z : ZoneLay) (l4 hdr : Bool) (cands : List MarkCand) : Option Int :=
  searchMark (if l4 then 64 else z.w) (if l4 then s.get (AV_LADLIM_L4MTHR n) else z.mthr) (l4 && hdr) cands

/-- What a mark miss counts and raises (R77). -/
def markMiss (n : Fin 4) (fly : Bool) (s : State) : State :=
  let s1 := (s.bump (AV_MARKSTAT_MISSES n)).raise (avSrc n 26)
  if fly then s1.bump (AV_MARKSTAT_FLYWHEELS n) else s1

/-! ### Slots -/

/-- Move an arm, and each later one that its end overtakes, by whole revolutions (R143, R175). -/
def moveArms (bpr : Nat) : Nat → List Arm → List Arm × Nat
  | _, [] => ([], 0)
  | after, a :: as =>
    if a.start < after then
      let d := revAt bpr a.start after * bpr
      let (rest, k) := moveArms bpr (a.stop + d) as
      ({ a with start := a.start + d, stop := a.stop + d } :: rest, k + 1)
    else (a :: as, 0)

/-- The first arm moves to a later revolution, with every later arm that follows it; each is counted (R175). -/
def deferSlot (n : Fin 4) (z : ZoneLay) (s : State) : State :=
  match (s.seq n).arms with
  | [] => s
  | a :: _ =>
    let (as, k) := moveArms z.bpr (a.start + 1) (s.seq n).arms
    (s.bump (AV_SEQCNT_LATE n) k).modSeq n (fun q => { q with arms := as })

/-- The preamble's measurement of one reader (R99): with DGEN and VALID blocks, the factor that brings the 2T magnitude
to DTGT, limited to 0.5 to 2.0. -/
def slotGain (n : Fin 4) (mag : Nat) (r : Fin 2) (s : State) : State :=
  let t := s.get (AV_AFEGAIN_DTGT n r.val)
  if s.is (AV_AFEGAIN_DGEN n r.val) && s.tagNow n r == .valid then
    let f : Nat × Nat := if 2 * mag < t ∨ mag = 0 then (2, 1) else if 2 * t < mag then (1, 2) else (t, mag)
    s.modReader n r (fun x => { x with gainNum := f.1, gainDen := f.2 })
  else s

/-- READAPT of the arm's L2 set: the combined taps restart from the entry (Table 4-15). -/
def slotTaps (n : Fin 4) (o : MediaOp) (a : Arm) (s : State) : State :=
  match a.dsp with
  | .l2 k => if s.is (AV_L2SET_READAPT n k) then
      s.modAv n (fun v => { v with
        readers := ({ v.readers.1 with taps := s.eqTaps n o.face o.zone 0 }, { v.readers.2 with taps := s.eqTaps n o.face o.zone 1 }) })
    else s
  | _ => s

/-- The slot of the first arm begins: the arm leaves the waiting ones. -/
def runSlot (n : Fin 4) (a : Arm) (marks decode : Bool) (align : Int) (s : State) : State :=
  s.modSeq n (fun q => { q with
    arms := q.arms.drop 1
    slotRun := some { arm := a, firstEnded := false, marks := marks, decode := decode, align := align } })

/-- A slot that is read or verified begins (R75 to R77, R95, R99). -/
def readSlot (n : Fin 4) (o : MediaOp) (z : ZoneLay) (a : Arm) (i : SlotInput) (s : State) : State :=
  let s1 := slotTaps n o a (slotGain n i.magB 1 (slotGain n i.magA 0 s))
  match s1.slotSearch n z a.l4 true i.marks with
  | some d =>
    let s2 := if s1.is (AV_SKCTL_MARKFB n) && d != 0 then
        (s1.moveSkew n 0 (64 * d)).moveSkew n 1 (64 * d) else s1
    runSlot n a true true d s2
  | none => runSlot n a false z.fly 0 (markMiss n z.fly s1)

/-- A slot that is written begins (R142, R144 to R146); write gate stays low once a chip reset has begun (R513). -/
def writeSlot (n : Fin 4) (o : MediaOp) (a : Arm) (i : SlotInput) (s : State) : State :=
  let h := header ⟨o.cyl, o.face, a.slot⟩ o.ctx.region o.ctx.gen
  let bytes := sectorBytes (codeEntries (s.avn n).code) (scramble (headerTag h) (payloadOf h i.block))
  let out : Serial := { bytes := bytes, pc1 := s.get (AV_WAT1_PC1 n o.face o.zone), pc2 := s.get (AV_WAT1_PC2 n o.face o.zone)
                        wskew := s.geti (AV_WSKEW_WSKEW n o.face o.zone) }
  runSlot n a true true 0 (s.modAv n (fun v => { v with wg := s.flt.chip.isNone, header := h, serial := some out }))

/-- Steps of 1/64 bit by which the serialiser moves the transition at a bit earlier (R144): from whether the bit and the
two before it carry transitions. -/
def precomp (pc1 pc2 : Nat) (t0 t1 t2 : Bool) : Nat := if t0 && t1 then (if t2 then pc2 else pc1) else 0

/-- Neither reader's preamble measurement is clear of INVALID blocks (R147). -/
def State.bothInvalid (s : State) (n : Fin 4) : Bool := s.tagNow n 0 == .invalid && s.tagNow n 1 == .invalid

/-- SLOT_START (R143, R147, R149, R172, R175): the first arm's slot begins, or moves to a later revolution. -/
def slotStart (n : Fin 4) (i : SlotInput) (s : State) : State :=
  let q := s.seq n
  match q.arms, q.slotRun, q.op with
  | a :: _, none, some o =>
    let z := s.zoneNow n o.zone
    if 64 ≤ q.outcomes.length ∨ (s.avn n).kazq.heating then deferSlot n z s
    else
      match a.kind with
      | .write =>
        if s.causes n ≠ 0 then s.writeFault n (lowestBit (s.causes n))
        else if !i.ready then deferSlot n z (s.bump (AV_WFCNT_SLIPW n))
        else if !i.entryOk then
          tryClose n (((s.bump SQR_ECRCCNT_MISMATCH).raise 222).modSeq n (fun q => { q with arms := q.arms.drop 1 }))
        else writeSlot n o a i s
      | _ => if s.bothInvalid n then deferSlot n z s else readSlot n o z a i s
  | _, _, _ => s

/-- SLOT_START. -/
def execSlotStart (n : Fin 4) (i : SlotInput) (s : State) : Host.Outcome State Fault Refusal := .next (slotStart n i s)

/-- The resume mark of a split slot (R74, R77): its own search, without the header condition. -/
def resumeMark (n : Fin 4) (z : ZoneLay) (r : SlotRun) (cands : List MarkCand) (s : State) : SlotRun × State :=
  if !r.arm.split then (r, s)
  else
    match s.slotSearch n z r.arm.l4 false cands with
    | some _ => (r, s)
    | none => ({ r with marks := false, decode := r.decode && z.fly }, markMiss n z.fly s)

/-- Write gate stays high into the next slot (R146): the next arm writes the slot that begins where this one ends. -/
def contiguous (q : Seq) (stop : Nat) : Bool :=
  match q.arms with
  | [] => false
  | a :: _ => a.kind == .write && a.start == stop

/-- SLOT_END (R147, R172, R175): a read slot's codeword goes to the decoder; write gate drops after a written slot. -/
def slotEnd (n : Fin 4) (resume : List MarkCand) (s : State) : State :=
  match (s.seq n).slotRun, (s.seq n).op with
  | some r, some o =>
    let done := fun (t : State) => t.modSeq n (fun q => { q with slotRun := none, lastEnd := r.arm.stop })
    match r.arm.kind with
    | .write =>
      let s1 := done s
      tryClose n ((if contiguous (s1.seq n) r.arm.stop then s1 else s1.dropGate n).modAv n kzStart)
    | k =>
      let (r1, s1) := resumeMark n (s.zoneNow n o.zone) r resume s
      let sec : SectorRead := { addr := ⟨o.cyl, o.face, r.arm.slot⟩, ctx := o.ctx, verify := k == .verify, marks := r1.marks
                                decode := r1.decode, laneLost := o.laneLost }
      let s2 := (done s1).modAv n (fun a => { a with decoding := a.decoding ++ [sec] })
      tryClose n (drainMisses n (s2.avn n).decoding.length s2)
  | _, _ => s

/-- SLOT_END. -/
def execSlotEnd (n : Fin 4) (resume : List MarkCand) (s : State) : Host.Outcome State Fault Refusal :=
  .next (slotEnd n resume s)

end Sys2Proof.Machine
end

