-- ==== Sys2Proof/Machine/Microcode.lean ====
section
/-! DEFINITION. Meanings of the sequencer's commands (spec 06): microwords, the actions of a nanoword, waits, windows,
traps, rings, and the firmware's control of the sequencer. -/

namespace Sys2Proof.Machine

/-! ### The ALU (Table 6-4) -/

/-- The result of ALUOP `op` on operands A and B. -/
def aluResult (op : Nat) (a b : Word) : Word :=
  match op with
  | 1 => a + b
  | 2 => a - b
  | 3 => a &&& b
  | 4 => a ||| b
  | 5 => a ^^^ b
  | 6 => a <<< (b.toNat % 32)
  | 7 => a >>> (b.toNat % 32)
  | 8 => b
  | _ => a - b

/-- ZERO and NEG from a result. -/
def State.setFlags (s : State) (n : Fin 4) (v : Word) : State := s.modSeq n (fun q => { q with zero := v == 0, neg := v.msb })

/-- An ALU action by itself (R168, R169): the flags, and RD but for CMP. -/
def alu (n : Fin 4) (op : Nat) (x : AluArgs) (s : State) : State :=
  let v := aluResult op (s.reg n x.ra) (if x.useImm then x.imm else s.reg n x.rb)
  let s1 := s.setFlags n v
  if op = 9 then s1 else s1.setReg n (s.seq n).window x.rd v

/-- ALU_ADD. -/
def execAluAdd (n : Fin 4) (x : AluArgs) (s : State) : Host.Outcome State Fault Refusal := .next (alu n 1 x s)

/-- ALU_SUB. -/
def execAluSub (n : Fin 4) (x : AluArgs) (s : State) : Host.Outcome State Fault Refusal := .next (alu n 2 x s)

/-- ALU_AND. -/
def execAluAnd (n : Fin 4) (x : AluArgs) (s : State) : Host.Outcome State Fault Refusal := .next (alu n 3 x s)

/-- ALU_OR. -/
def execAluOr (n : Fin 4) (x : AluArgs) (s : State) : Host.Outcome State Fault Refusal := .next (alu n 4 x s)

/-- ALU_XOR. -/
def execAluXor (n : Fin 4) (x : AluArgs) (s : State) : Host.Outcome State Fault Refusal := .next (alu n 5 x s)

/-- ALU_SHL. -/
def execAluShl (n : Fin 4) (x : AluArgs) (s : State) : Host.Outcome State Fault Refusal := .next (alu n 6 x s)

/-- ALU_SHR. -/
def execAluShr (n : Fin 4) (x : AluArgs) (s : State) : Host.Outcome State Fault Refusal := .next (alu n 7 x s)

/-- ALU_MOV. -/
def execAluMov (n : Fin 4) (x : AluArgs) (s : State) : Host.Outcome State Fault Refusal := .next (alu n 8 x s)

/-- ALU_CMP. -/
def execAluCmp (n : Fin 4) (x : AluArgs) (s : State) : Host.Outcome State Fault Refusal := .next (alu n 9 x s)

/-! ### Ports (Table 6-5) -/

/-- The word of an outcome (port OUTCOME). -/
def outcomeWord (r : OutcomeRec) : Word :=
  BitVec.ofNat 32 (outcomeCode r.outcome * 2 ^ 29 + (if r.laneLost then 2 ^ 28 else 0) + r.slot % 4096)

/-- A read of OUTCOME (R171): the oldest outcome leaves the queue. -/
def outcomePop (n : Fin 4) (s : State) : Word × State :=
  match (s.seq n).outcomes with
  | [] => (0xFFFFFFFF, s)
  | r :: rs => (outcomeWord r, s.modSeq n (fun q => { q with outcomes := rs }))

/-- FRMSTAT. -/
def State.frmStat (s : State) (n : Fin 4) : Word :=
  let q := s.seq n
  BitVec.ofNat 32 (((q.slotRun.map (fun r => r.arm.slot)).getD 0xFFF) % 4096 * 2 ^ 20 + q.arms.length % 8 * 2 ^ 17
    + ((q.op.map MediaOp.ended).getD 0) % 256)

/-- What a port reads as, and the state after the read; `ra` is RA's value. ZONEINFO without an open track is open. -/
def portValue (n : Fin 4) (port : Nat) (ra : Word) (s : State) : Word × State :=
  if port < 16 then (BitVec.ofNat 32 (s.cmdWord n port), s)
  else if port = 0x10 then outcomePop n s
  else if port = 0x11 then (s.frmStat n, s)
  else if port = 0x12 then
    match (s.seq n).op with
    | some o => (BitVec.ofNat 32 ((s.zoneNow n o.zone).uspt % 4096 * 2 ^ 20 + o.zone % 32), s)
    | none => let (v, s1) := s.fresh 32; (BitVec.ofNat 32 v, s1)
  else if port = 0x13 then (BitVec.ofNat 32 s.time, s)
  else if port = 0x20 then (s.rd (AV_OMENTRY n (ra.toNat % 64)), s)
  else let (v, s1) := s.fresh 32; (BitVec.ofNat 32 v, s1)

/-- A write of a port: SVOCYL and SVOOFS. -/
def portPut (n : Fin 4) (port : Nat) (v : Word) (s : State) : State :=
  if port = 0x14 then s.modSeq n (fun q => { q with svoCyl := v })
  else if port = 0x15 then s.modSeq n (fun q => { q with svoOfs := v })
  else s

/-- PORT_READ: port into RD. -/
def portRead (n : Fin 4) (port : Nat) (rd ra : Fin 16) (s : State) : State :=
  let (v, s1) := portValue n port (s.reg n ra) s
  s1.setReg n (s.seq n).window rd v

/-- PORT_READ. -/
def execPortRead (n : Fin 4) (port : Fin 64) (rd ra : Fin 16) (s : State) : Host.Outcome State Fault Refusal :=
  .next (portRead n port.val rd ra s)

/-- OUTCOME_READ (R171). -/
def execOutcomeRead (n : Fin 4) (rd : Fin 16) (s : State) : Host.Outcome State Fault Refusal :=
  .next (portRead n 0x10 rd 0 s)

/-- PORT_WRITE. -/
def execPortWrite (n : Fin 4) (port : Fin 64) (ra : Fin 16) (s : State) : Host.Outcome State Fault Refusal :=
  .next (portPut n port.val (s.reg n ra) s)

/-! ### Rings (R184, R185, R384, R385) -/

/-- The ring selector's pointers after ring `r` was served (R385). -/
def served (q : Seq) (r : Nat) : Seq :=
  if r < 4 then { q with lastUrgent := r }
  else if r < 28 then { q with lastNormal := r - 4, normalRun := q.normalRun + 1 }
  else { q with lastInternal := r - 28, normalRun := 0 }

/-- FETCH (R184). -/
def ringFetch (n : Fin 4) (s : State) : State :=
  match s.presented n with
  | none => s.modSeq n (fun q => { q with entry := zeroEntry, entryLive := false })
  | some (r, e) => s.modSeq n (fun q =>
      { served q r with
        entry := e
        entryLive := true
        rings := q.rings.set r ((q.rings.getD r []).drop 1)
        fetched := q.fetched ++ [e] })

/-- RING_FETCH. -/
def execRingFetch (n : Fin 4) (s : State) : Host.Outcome State Fault Refusal := .next (ringFetch n s)

/-- COMPLETE with a status (R185): the completion is posted and the entry leaves the reorder window; a re-read that did
not end Done fails the steps it served (R128); an owner opcode without an entry raises source 84. -/
def ringComplete (n : Fin 4) (status : Nat) (s : State) : State :=
  let q := s.seq n
  if !q.entryLive then s
  else
    let e := q.entry
    let urg := entryClass e == 2
    let s1 := s.modSeq n (fun q => { q with
      entryLive := false
      fetched := q.fetched.erase e
      winUrgent := q.winUrgent - (if urg then 1 else 0)
      winOther := q.winOther - (if urg then 0 else 1)
      posted := q.posted ++ [(bitsOf (entryWord e 3) 0 16, status)] })
    let s2 := s1.raiseIf (status == 0x000A) (avSrc n 84)
    if entryOpcode e = 3 ∧ status ≠ 0 then
      failRereads n (bitsOf (entryWord e 1) 10 22) (bitsOf (entryWord e 1) 7 3) (bitsOf (entryWord e 12) 29 3)
        (bitsOf (entryWord e 12) 26 3) s2
    else s2

/-- RING_COMPLETE. -/
def execRingComplete (n : Fin 4) (ra : Fin 16) (s : State) : Host.Outcome State Fault Refusal :=
  .next (ringComplete n ((s.reg n ra).toNat % 65536) s)

/-- RING_COMPLETE_FETCH. -/
def execRingCompleteFetch (n : Fin 4) (ra : Fin 16) (s : State) : Host.Outcome State Fault Refusal :=
  .next (ringFetch n (ringComplete n ((s.reg n ra).toNat % 65536) s))

/-- AVENUE_ENTRY_WRITE (R384, R385, R387): within the reorder window of 512, of which 496 for the other classes. -/
def entryWrite (n : Fin 4) (ring : Nat) (atHead : Bool) (e : RingEntry) (s : State) : State :=
  let q := s.seq n
  let urg := decide (ring < 4)
  if q.winUrgent + q.winOther < 512 ∧ (urg ∨ q.winOther < 496) then
    s.modSeq n (fun q => { q with
      rings := q.rings.set ring (if atHead then e :: q.rings.getD ring [] else q.rings.getD ring [] ++ [e])
      winUrgent := q.winUrgent + (if urg then 1 else 0)
      winOther := q.winOther + (if urg then 0 else 1) })
  else s

/-- AVENUE_ENTRY_WRITE. -/
def execAvenueEntryWrite (n : Fin 4) (ring : Fin 32) (atHead : Bool) (e : RingEntry) (s : State) :
    Host.Outcome State Fault Refusal := .next (entryWrite n ring.val atHead e s)

/-! ### The flag F and the windows (R179) -/

/-- F is set or cleared. -/
def State.setF (s : State) (n : Fin 4) (b : Bool) : State := s.modSeq n (fun q => { q with flag := b })

/-- FLAG_SET. -/
def execFlagSet (n : Fin 4) (s : State) : Host.Outcome State Fault Refusal := .next (s.setF n true)

/-- FLAG_CLEAR. -/
def execFlagClear (n : Fin 4) (s : State) : Host.Outcome State Fault Refusal := .next (s.setF n false)

/-- The sixteen words of a window copied from one address to another. -/
def copyWindow (src dst : Nat → Nat) (s : State) : State := (List.range 16).foldl (fun t i => t.wr (dst i) (s.rd (src i))) s

/-- SPILL (R179). -/
def spill (n : Fin 4) (s : State) : State :=
  let d := s.depth n
  let r := s.resident n
  if (s.seq n).window ≠ 7 then s.seqFault n 7
  else if d - r = 32 then s.seqFault n 3
  else if r = 0 then s.seqFault n 7
  else (copyWindow (AV_WINFILE n ((d - r) % 6)) (AV_SPILL n (d - r)) s).put (AV_SEQSTAT_RES n) (r - 1)

/-- WINDOW_SPILL. -/
def execWindowSpill (n : Fin 4) (s : State) : Host.Outcome State Fault Refusal := .next (spill n s)

/-- FILL (R179). -/
def fill (n : Fin 4) (s : State) : State :=
  let d := s.depth n
  let r := s.resident n
  if (s.seq n).window ≠ 7 ∨ d - r = 0 then s.seqFault n 7
  else (copyWindow (AV_SPILL n (d - r - 1)) (AV_WINFILE n ((d - r - 1) % 6)) s).put (AV_SEQSTAT_RES n) (r + 1)

/-- WINDOW_FILL. -/
def execWindowFill (n : Fin 4) (s : State) : Host.Outcome State Fault Refusal := .next (fill n s)

/-- ABANDON (R179): the root window, with no frame active and the trap state left. -/
def abandon (n : Fin 4) (s : State) : State :=
  if (s.seq n).window ≠ 7 then s.seqFault n 7
  else (((s.put (AV_SEQSTAT_DEPTH n) 0).put (AV_SEQSTAT_RES n) 0).modSeq n (fun q =>
    { q with window := 6, owner := none })).seqRunning n

/-- WINDOW_ABANDON. -/
def execWindowAbandon (n : Fin 4) (s : State) : Host.Outcome State Fault Refusal := .next (abandon n s)

/-- SOFTWARE_TRAP (R180): cause 3, with the address that MODE selected. -/
def execSoftwareTrap (n : Fin 4) (ret : BitVec 12) (s : State) : Host.Outcome State Fault Refusal :=
  .next (s.takeTrap n 3 ret.toNat)

/-- HALT (R182): fault code 6. -/
def execHalt (n : Fin 4) (s : State) : Host.Outcome State Fault Refusal := .next (s.seqFault n 6)

/-- OWNER_TIME_LIMIT (R188): fault 5 while an owner sequence runs under a limit. -/
def ownerTimeLimit (n : Fin 4) (s : State) : State :=
  if (s.seq n).owner.isSome ∧ s.get (AV_SEQCTL_OMLIM n) ≠ 0 then s.seqFault n 5 else s

/-- OWNER_TIME_LIMIT. -/
def execOwnerTimeLimit (n : Fin 4) (s : State) : Host.Outcome State Fault Refusal := .next (ownerTimeLimit n s)

/-! ### Nanowords (R168, R173) -/

/-- A nanoword (Table 6-4). -/
structure Nano where
  imm : Word
  op : Nat
  rd : Fin 16
  ra : Fin 16
  rb : Fin 16
  useImm : Bool
  io : Nat
  port : Nat
  frm : Nat
  raw : Bool
  afe : Nat
  dsp : Nat
  mwin : Nat
  kz : Nat
  svo : Nat
  ring : Nat
  flg : Nat
  wlim : Nat
  win : Nat
  trp : Nat
  acalc : Bool
  deriving DecidableEq, Repr

/-- A register number from its four bits. -/
def reg4 (v : Nat) : Fin 16 := ⟨v % 16, Nat.mod_lt _ (by decide)⟩

/-- A nanoword from its 128 bits. -/
def nanoWord (w : Nat) : Nano :=
  { imm := BitVec.ofNat 32 (bitsOf w 96 32), op := bitsOf w 92 4, rd := reg4 (bitsOf w 88 4), ra := reg4 (bitsOf w 84 4)
    rb := reg4 (bitsOf w 80 4), useImm := bitsOf w 79 1 == 1, io := bitsOf w 77 2, port := bitsOf w 71 6
    frm := bitsOf w 68 3, raw := bitsOf w 67 1 == 1, afe := bitsOf w 64 3, dsp := bitsOf w 61 3, mwin := bitsOf w 59 2
    kz := bitsOf w 57 2, svo := bitsOf w 55 2, ring := bitsOf w 53 2, flg := bitsOf w 51 2, wlim := bitsOf w 49 2
    win := bitsOf w 47 2, trp := bitsOf w 45 2, acalc := bitsOf w 44 1 == 1 }

/-- The framer action of a nanoword. -/
def frmAct (n : Fin 4) (x : Nano) (ra : Word) (bits : Nat) (s : State) : State :=
  match x.frm with
  | 1 => framerOpen n s
  | 2 => arm n .read ra.toNat x.raw bits s
  | 3 => arm n .write ra.toNat x.raw bits s
  | 4 => framerClose n s
  | 5 => framerCancel n s
  | 6 => arm n .verify ra.toNat x.raw bits s
  | _ => s

/-- The ring action of a nanoword. -/
def ringAct (n : Fin 4) (x : Nano) (ra : Word) (s : State) : State :=
  match x.ring with
  | 1 => ringFetch n s
  | 2 => ringComplete n (ra.toNat % 65536) s
  | 3 => ringFetch n (ringComplete n (ra.toNat % 65536) s)
  | _ => s

/-- The actions of R173, group 3, in their order. -/
def groupAct (n : Fin 4) (x : Nano) (ra rb : Word) (bits : Nat) (s : State) : State :=
  let s1 := markWindow n x.mwin (dspSelect n x.dsp rb.toNat
    ((if x.afe = 1 ∨ x.afe = 2 then afeApply n x.afe rb.toNat else id) (frmAct n x ra bits s)))
  let s2 := if x.kz = 1 then prepare n false s1 else if x.kz = 2 then prepare n true s1 else s1
  let s3 := if x.svo = 1 then servoAction n false s2 else if x.svo = 2 then servoAction n true s2 else s2
  let s4 := ringAct n x ra s3
  let s5 := if x.flg = 1 then s4.setF n true else if x.flg = 2 then s4.setF n false else s4
  if x.win = 1 then spill n s5 else if x.win = 2 then fill n s5 else if x.win = 3 then abandon n s5 else s5

/-- All actions of a nanoword but TRP (R173); the register writes of IO and ALU go to the window it began in. -/
def nanoAct (n : Fin 4) (x : Nano) (bits : Nat) (s : State) : State :=
  let w := (s.seq n).window
  let ra := s.reg n x.ra
  let rb := s.reg n x.rb
  let io := if x.io = 1 then portValue n x.port ra s else (0, if x.io = 2 then portPut n x.port ra s else s)
  let v := aluResult x.op ra (if x.useImm then x.imm else rb)
  let s1 := if 1 ≤ x.op ∧ x.op ≤ 9 then io.2.setFlags n v else io.2
  let s2 := groupAct n x ra rb bits s1
  let s3 := if x.io = 1 then s2.setReg n w x.rd io.1 else s2
  if 1 ≤ x.op ∧ x.op ≤ 8 then s3.setReg n w x.rd v else s3

/-! ### Microwords (R165, R177, R178, R180) -/

/-- The nanoword that a microword selects. -/
def State.nano (s : State) (n : Fin 4) (m : MicroWord) : Nano := nanoWord (s.nanoBits n m.nano)

/-- Every register of r12 to r14 copied from window `a` to window `b`. -/
def passArgs (n : Fin 4) (a b : Nat) (s : State) : State :=
  ([12, 13, 14] : List Nat).foldl (fun t i => t.wr (AV_WINFILE n b i) (s.winReg n a i)) s

/-- A CALL takes effect (R177): the frame's window is allocated, with the arguments and the return address. -/
def callTo (n : Fin 4) (m : MicroWord) (alt : Nat) (computed : Bool) (s : State) : State :=
  let d := s.depth n
  let w := d % 6
  let s1 := (List.range 11).foldl (fun t i => t.wr (AV_WINFILE n w (i + 1)) 0) (passArgs n (s.seq n).window w s)
  let s2 := s1.wr (AV_WINFILE n w 15) (BitVec.ofNat 32 m.next)
  let s3 := (s2.put (AV_SEQSTAT_DEPTH n) (d + 1)).put (AV_SEQSTAT_RES n) (s.resident n + 1)
  (s3.modSeq n (fun q => { q with
    window := w
    owner := if q.owner.isNone && computed && decide (3072 ≤ alt) then some d else q.owner })).goTo n alt

/-- A return from the trap window (R180). -/
def trapReturn (n : Fin 4) (s : State) : State :=
  let v := (s.seq n).saved
  (s.modSeq n (fun q => { q with window := v.window, zero := v.zero, neg := v.neg, flag := v.flag })).goTo n
    (s.get (AV_SEQTRAP_TRAPPC n))

/-- A RETURN takes effect (R178): results to the caller's window. -/
def returnTo (n : Fin 4) (s : State) : State :=
  let d := s.depth n
  let cur := (s.seq n).window
  let caller := if d = 1 then 6 else (d - 2) % 6
  let s1 := passArgs n cur caller s
  let s2 := (s1.put (AV_SEQSTAT_DEPTH n) (d - 1)).put (AV_SEQSTAT_RES n) (s.resident n - 1)
  (s2.modSeq n (fun q => { q with
    window := caller
    owner := match q.owner with
      | some k => if d - 1 ≤ k then none else some k
      | none => none })).goTo n ((s.winReg n cur 15).toNat % 4096)

/-- A wait begins: NEXT when the condition is already true. -/
def waitOn (n : Fin 4) (m : MicroWord) (alt : Nat) (s : State) : State :=
  if s.cond n m.cond then s.goTo n m.next else (s.modSeq n (fun q => { q with waitAlt := alt })).seqWait n

/-- The next address by MODE (Table 6-2) after the actions gave `t` from `s`; a window trap is taken as if the nanoword
had not acted (R180). -/
def selectNext (n : Fin 4) (m : MicroWord) (x : Nano) (alt : Nat) (s t : State) : State :=
  let c := t.cond n m.cond
  match m.mode with
  | 0 =>
    let a := if c then alt else m.next
    if x.trp = 1 then t.takeTrap n 3 a else t.goTo n a
  | 1 =>
    if !c then t.goTo n m.next
    else if (t.seq n).window = 7 then t.seqFault n 1
    else if t.resident n = 6 then s.takeTrap n 0 (s.upc n)
    else callTo n m alt x.acalc t
  | 2 =>
    if !c then t.goTo n m.next
    else if (t.seq n).window = 7 then trapReturn n t
    else if t.depth n = 0 then t.seqFault n 4
    else if 2 ≤ t.depth n ∧ t.resident n = 1 then s.takeTrap n 1 (s.upc n)
    else returnTo n t
  | _ => waitOn n m alt t

/-- The microword's execution after a clean fetch (R165). -/
def microGo (n : Fin 4) (bits : Nat) (s : State) : State :=
  let m := s.micro n (s.upc n)
  let x := s.nano n m
  let alt := if x.acalc then (s.reg n x.rb).toNat % 4096 else m.alt
  let t := nanoAct n x bits s
  if t.seqState n = 5 then t
  else if x.trp = 2 then t.seqFault n 6
  else selectNext n m x alt s t

/-- The microword at PC executes when the sequencer runs and the word has mode `mode`; its store check comes first
(R180, R181). -/
def micro (n : Fin 4) (mode : Nat) (chk : StoreCheck) (bits : Nat) (s : State) : State :=
  if (s.seqState n = 1 ∨ s.seqState n = 3) ∧ (s.micro n (s.upc n)).mode = mode then
    match chk with
    | .clean => microGo n bits s
    | .corrected => microGo n bits ((s.bump (AV_SEQCNT_CORR n)).raise (avSrc n 82))
    | .uncorrectable => s.takeTrap n 2 (s.upc n)
  else s

/-- MICRO_BRANCH. -/
def execMicroBranch (n : Fin 4) (chk : StoreCheck) (bits : Nat) (s : State) : Host.Outcome State Fault Refusal :=
  .next (micro n 0 chk bits s)

/-- MICRO_CALL. -/
def execMicroCall (n : Fin 4) (chk : StoreCheck) (bits : Nat) (s : State) : Host.Outcome State Fault Refusal :=
  .next (micro n 1 chk bits s)

/-- MICRO_RETURN. -/
def execMicroReturn (n : Fin 4) (chk : StoreCheck) (bits : Nat) (s : State) : Host.Outcome State Fault Refusal :=
  .next (micro n 2 chk bits s)

/-- MICRO_WAIT. -/
def execMicroWait (n : Fin 4) (chk : StoreCheck) (bits : Nat) (s : State) : Host.Outcome State Fault Refusal :=
  .next (micro n 3 chk bits s)

/-! ### Waits (R165, R166) -/

/-- The sequencer waits or is parked. -/
def State.seqWaits (s : State) (n : Fin 4) : Bool := s.seqState n == 2 || s.seqState n == 4

/-- SEQ_WAIT_RESUME: the awaited condition is true. -/
def waitResume (n : Fin 4) (s : State) : State :=
  let m := s.micro n (s.upc n)
  if s.seqWaits n && s.cond n m.cond then s.goTo n m.next else s

/-- SEQ_WAIT_RESUME. -/
def execSeqWaitResume (n : Fin 4) (s : State) : Host.Outcome State Fault Refusal := .next (waitResume n s)

/-- SEQ_WAIT_LIMIT_EXPIRY: WLIM 1 to 3 selected a limit and it expired first. -/
def waitLimit (n : Fin 4) (s : State) : State :=
  let m := s.micro n (s.upc n)
  if s.seqWaits n && !s.cond n m.cond && decide ((s.nano n m).wlim ≠ 0) then s.goTo n (s.seq n).waitAlt else s

/-- SEQ_WAIT_LIMIT_EXPIRY. -/
def execSeqWaitLimitExpiry (n : Fin 4) (s : State) : Host.Outcome State Fault Refusal := .next (waitLimit n s)

/-! ### Firmware's control (R187, R189, R190) -/

/-- RUN written 1 while stopped: microword 0 in the root window with D = R = 0. -/
def seqRun (n : Fin 4) (s : State) : State :=
  if s.seqState n = 0 then
    (((s.putb (AV_SEQCTL_RUN n) true).put (AV_SEQSTAT_DEPTH n) 0).put (AV_SEQSTAT_RES n) 0 |>.modSeq n (fun q =>
      { q with window := 6, owner := none })).goTo n 0
  else s

/-- SEQUENCER_RUN. -/
def execSequencerRun (n : Fin 4) (s : State) : Host.Outcome State Fault Refusal := .next (seqRun n s)

/-- RUN written 0 while running: as a halt, without source or SEQFAULT. -/
def seqStop (n : Fin 4) (s : State) : State :=
  let st := s.seqState n
  if 1 ≤ st ∧ st ≤ 4 then s.seqStopTo n 0 else s

/-- SEQUENCER_STOP. -/
def execSequencerStop (n : Fin 4) (s : State) : Host.Outcome State Fault Refusal := .next (seqStop n s)

/-- A write of HOLD (R189): a waiting sequencer parks where the rule says so, and a parked one waits again. -/
def seqHold (n : Fin 4) (v : Bool) (s : State) : State :=
  let s1 := s.putb (AV_SEQCTL_HOLD n) v
  if s1.seqWaits n then s1.seqWait n else s1

/-- SEQUENCER_HOLD. -/
def execSequencerHold (n : Fin 4) (v : Bool) (s : State) : Host.Outcome State Fault Refusal := .next (seqHold n v s)

end Sys2Proof.Machine
end

