-- ==== Sys2Proof/Machine/ServoWedge.lean ====
section
/-! DEFINITION. Meanings of TIMING_WEDGE_END and EMBEDDED_WEDGE (spec 07, 7.1 to 7.5, and 3.2 for the lane's part). -/

namespace Sys2Proof.Machine

/-! ### Demodulation (R192 to R195) -/

/-- The number that a Gray code of `w` bits stands for. -/
def gray {w : Nat} (g : BitVec w) : Nat := ((List.range w).foldl (fun x k => x ^^^ (g >>> (k + 1))) g).toNat

/-- The candidate that a servo-mark search takes (R194): lowest distance, at most 2, within ±`win`; ties nearest the
expected sync, then the first listed. -/
def takeMark (win : Nat) (ms : List WedgeMark) : Option WedgeMark :=
  (ms.filter (fun m => decide (m.offset.natAbs ≤ win) && decide (m.distance ≤ 2))).foldl (fun b m =>
    match b with
    | none => some m
    | some k => if m.distance < k.distance ∨ (m.distance = k.distance ∧ m.offset.natAbs < k.offset.natAbs) then some m
                else some k) none

/-- Entry `i` of a linearisation table held two to a word, lower index in the low half. -/
def State.linEntry (s : State) (lo hi : Nat → Fld) (i : Nat) : Int :=
  if i % 2 = 0 then s.geti (lo (i / 2)) else s.geti (hi (i / 2))

/-- The index min(63, floor((x + 1) × 32)) of x = (a - b) / (a + b) (R193). -/
def linIndex (a b : Nat) : Nat := min 63 (64 * a / (a + b))

/-- The fine position from four burst sums (R193): from LINN when |N| ≤ |Q|, otherwise from LINQ. Where a pair of bursts
sums to 0 the spec gives no value: the fine position is a free value. -/
def State.finePosition (s : State) (n : Fin 4) (a b c d : Nat) : Int × State :=
  if a + b = 0 ∨ c + d = 0 then
    let r := s.fresh 8
    ((r.1 : Int) - 128, r.2)
  else if ((a : Int) - b).natAbs * (c + d) ≤ ((c : Int) - d).natAbs * (a + b) then
    (s.linEntry (SVO_LINN_LO n) (SVO_LINN_HI n) (linIndex a b), s)
  else (s.linEntry (SVO_LINQ_LO n) (SVO_LINQ_HI n) (linIndex c d), s)

/-- The cycle of the sync of timing wedge `k` in a zone (R192). -/
def syncCycle (cpr16 k : Nat) : Nat := k * 16 * cpr16 / 840 + 24

/-- The engine's estimate of its position before the wedge: the last position found. -/
def State.lastPos (s : State) (n : Fin 4) : Int := s.geti (SVO_POS_POS n)

/-- The cylinder read: of two readings the one whose centre lies nearer the previous estimate (R193). -/
def State.readCylinder (s : State) (n : Fin 4) (w : WedgeInput) : Nat :=
  let c := gray w.cyl
  match w.alt with
  | none => c
  | some a =>
    let d := gray a
    if (256 * (d : Int) - s.lastPos n).natAbs < (256 * (c : Int) - s.lastPos n).natAbs then d else c

/-! ### The lane's part (R85, R90, Table 3-2) -/

/-- The lane meets a found sync of wedge `k` (R85, R90): in TRACK and COAST a difference is a cycle slip; otherwise the
count is set, and in FREERUN and LOST FW is steered to a value that the spec leaves open. -/
def laneSync (n : Fin 4) (k count : Nat) (s : State) : State :=
  let want := syncCycle (s.zoneNow n (s.avn n).lane.zone).cpr16 k
  let st := s.laneState n
  let s1 := s.modLane n (fun l => { l with count := want })
  if st = 3 ∨ st = 4 then (if count ≠ want then s1.laneSlip n else s1)
  else if st = 1 ∨ st = 5 then
    let r := s1.fresh 24
    r.2.modLane n (fun l => { l with fw := signed 24 r.1 })
  else s1

/-- A timing-face wedge ends: from COAST to TRACK (Table 3-2). -/
def laneWedgeEnd (n : Fin 4) (s : State) : State := if s.laneState n = 4 then s.laneTo n 3 else s

/-! ### The engine's part -/

/-- The engine asks the Avenue for a zone change to the target's zone (R207). -/
def askZone (n : Fin 4) (s : State) : State := zoneChange n (s.zoneOfCyl n (s.target n)) s

/-- The profile's end (R207): SETTLE, and a zone change is asked for. -/
def profileEnd (n : Fin 4) (s : State) : State :=
  askZone n ((s.modSv n (fun v => { v with gen := { v.gen with f := 0, fNext := 0, ended := false } })).svTo n 4)

/-- SEEK advances by one wedge interval (R204, R205, R207): the expected frequency follows the zone under the head. -/
def seekInterval (n : Fin 4) (s : State) : State :=
  let g := (s.sv n).gen
  if g.ended then profileEnd n (s.modSv n (fun v => { v with gen := { v.gen with ref := g.p } }))
  else
    let s1 := s.modSv n (fun v => { v with gen := { v.gen with ref := g.p, f := g.fNext } })
    let z := s1.zoneOfCyl n ((s1.lastPos n / 256).toNat)
    (s1.modLane n (fun l => { l with zone := z })).genAhead n

/-- Settle is signalled to the lane at a found wedge with |e_t| ≤ ACQTHR, once the zone change has taken effect (R207). -/
def settleSignal (n : Fin 4) (s : State) : State :=
  let v := s.sv n
  if s.svState n = 4 ∧ v.settleDue = true ∧ s.pace.cur.get n = s.zoneOfCyl n (s.target n)
      ∧ v.et.natAbs ≤ s.get (SVO_SEEKCFG_ACQTHR n) then
    (s.modSv n (fun v => { v with settleDue := false })).laneSettle n
  else s

/-- SETTLE enters FOLLOW after SCNT wedges within STHR; in FOLLOW the same count ends an excursion (R208, R210). -/
def followCheck (n : Fin 4) (s : State) : State :=
  if orOne (s.get (SVO_THR_SCNT n)) ≤ (s.sv n).settleRun then
    if s.svState n = 4 then (s.modSv n (fun v => { v with req := none })).svTo n 5
    else if s.svState n = 5 then (s.modSv n (fun v => { v with excursion := false })).updateOntrk n
    else s
  else s

/-- The found wedges of a load or a recovery (R222, R225): after three the engine enters SETTLE. -/
def acquireCheck (n : Fin 4) (cyl : Nat) (s : State) : State :=
  let run := (s.sv n).foundRun + 1
  let s1 := s.modSv n (fun v => { v with foundRun := run })
  if run < 3 then s1
  else if s.svState n = 2 then
    let h := s1.hofs n 0 (s1.zoneOfCyl n cyl)
    askZone n (((s1.put (SVO_STAT_TCYL n) cyl).modSv n (fun v =>
      { v with ofs := 0, face := 0, head := h, headHeld := false, settleDue := true })).svTo n 4)
  else (s1.svTo n 4).laneSettle n

/-- A timing wedge is missed (R194, R200, R218, R225): counted, and MISSLIM of them in a row enter RECOVER. -/
def wedgeMissed (n : Fin 4) (check : Bool) (s : State) : State :=
  let run := (s.sv n).missRun + 1
  let s1 := ((s.bump (SVO_CNT0_MISSES n)).raise (svSrc n 0)).raiseIf check (svSrc n 14)
  let s2 := (s1.modSv n (fun v => { v with missRun := run, settleRun := 0, writeRun := 0, foundRun := 0 })).updateWinh n
  if orOne (s2.get (SVO_CTL_MISSLIM n)) ≤ run ∧ s2.svServing n = true then s2.enterRecover n
  else if s2.svState n = 3 then seekInterval n s2
  else s2

/-- A timing wedge is found at cylinder `cyl` (R196, R200, R202, R204, R207 to R209). -/
def wedgeFound (n : Fin 4) (cyl : Nat) (w : WedgeInput) (s : State) : State :=
  let (f, s0) := s.finePosition n w.burstA w.burstB w.burstC w.burstD
  let pos := 256 * (cyl : Int) + f
  let s1 := s0.puti (SVO_POS_POS n) pos
  let s2 := if s1.svState n = 3 then seekInterval n s1
    else if s1.svState n = 2 ∨ s1.svState n = 8 then acquireCheck n cyl s1 else s1
  let ref := if s2.svState n = 3 then F32.nearest (s2.sv n).gen.ref else s2.reference n
  let et := pos - ref
  let near := decide (et.natAbs ≤ s2.get (SVO_THR_STHR n))
  let safe := decide (et.natAbs ≤ s2.get (SVO_THR_WRTHR n))
  let s3 := (s2.puti (SVO_PES_ET n) (satInt 16 et)).modSv n (fun v => { v with
    et := et, missRun := 0, bemfSum := 0
    settleRun := if near then v.settleRun + 1 else 0
    writeRun := if safe then v.writeRun + 1 else 0 })
  let s4 := followCheck n (settleSignal n s3)
  let s5 := s4.updateWinh n
  if s5.svServing n then s5.control n et else s5

/-- TIMING_WEDGE_END (R192 to R194): the mark is found or missed; the lane and the engine act on it. An engine in OFF,
PARKED or FAULT takes no position; a lane that is OFF delivers no samples. -/
def timingWedgeEnd (n : Fin 4) (w : WedgeInput) (s : State) : State :=
  let v := s.sv n
  let st := s.svState n
  let tracking := s.laneTracks n
  let win := if tracking then s.get (SVO_SAMWIN_WTRK n) else s.get (SVO_SAMWIN_WACQ n)
  let k := gray w.number
  let cyl := s.readCylinder n w
  let found := s.laneState n != 0 && (takeMark win w.marks).isSome
  let wrongNumber := tracking && decide (k ≠ v.nextWedge)
  let wrongCyl := found && !wrongNumber && decide (4 ≤ st) && decide (st ≤ 6)
    && decide (1 < ((cyl : Int) - s.target n).natAbs)
  let good := found && !wrongNumber && !wrongCyl
  let s1 := s.modSv n (fun x => { x with nextWedge := ((if good then k else v.nextWedge) + 1) % 840, cmd := 0 })
  let s2 := if good then laneSync n k w.count s1 else s1
  let s3 := (laneWedgeEnd n s2).wedgeSpeed n good
  if st = 0 ∨ st = 1 ∨ st = 10 then s3
  else if good then wedgeFound n cyl w s3 else wedgeMissed n wrongCyl s3

/-- TIMING_WEDGE_END. -/
def execTimingWedgeEnd (n : Fin 4) (w : WedgeInput) (s : State) : Host.Outcome State Fault Refusal :=
  .next (timingWedgeEnd n w s)

/-! ### Embedded wedges -/

/-- The live head offset follows a measurement (R197): held, with source 13, when it would pass HOFSLIM. -/
def headUpdate (n : Fin 4) (ed : Int) (s : State) : State :=
  let v := s.sv n
  if !s.is (SVO_HOFSCTL_TRK n) || v.headHeld then s
  else
    let h := v.head - ed / 2 ^ s.get (SVO_HOFSCTL_HKG n)
    if s.get (SVO_HOFSCTL_HOFSLIM n) < h.natAbs then
      (s.modSv n (fun x => { x with headHeld := true })).raise (svSrc n 13)
    else s.modSv n (fun x => { x with head := h })

/-- An off-track excursion (R210): once for the excursion; re-reads in progress are displaced. -/
def excursionCheck (n : Fin 4) (ed : Int) (s : State) : State :=
  if s.svState n = 5 ∧ s.get (SVO_THR_RDTHR n) < ed.natAbs ∧ (s.sv n).excursion = false then
    (((s.modSv n (fun x => { x with excursion := true, settleRun := 0 })).updateOntrk n).raise (svSrc n 3)).displaceRereads n
  else s

/-- A measurement of the data-head error (R195, R197, R208 to R210). -/
def embeddedFound (n : Fin 4) (ed : Int) (s : State) : State :=
  let near := decide (ed.natAbs ≤ s.get (SVO_THR_STHR n))
  let safe := decide (ed.natAbs ≤ s.get (SVO_THR_WRTHR n))
  let s1 := (s.puti (SVO_PES_ED n) (satInt 16 ed)).modSv n (fun x => { x with
    ed := ed, settleRun := if near then x.settleRun else 0, writeRun := if safe then x.writeRun + 1 else 0 })
  (excursionCheck n ed (headUpdate n ed s1)).updateWinh n

/-- An embedded wedge that yields no measurement is a wedge not found within WRTHR (R209). -/
def embeddedMissed (n : Fin 4) (s : State) : State :=
  (s.modSv n (fun x => { x with writeRun := 0 })).updateWinh n

/-- The reservation inside a split slot in progress (R74, R146): the first fragment has ended, and write gate drops. -/
def splitReservation (n : Fin 4) (s : State) : State :=
  match (s.seq n).slotRun with
  | none => s
  | some r =>
    if r.arm.split ∧ r.firstEnded = false then
      (s.modSeq n (fun q => { q with slotRun := some { r with firstEnded := true } })).dropGate n
    else s

/-- After the reservation, write gate rises for the second fragment while no cause is present (R146, R150, R151). -/
def splitResume (n : Fin 4) (before : Bool) (s : State) : State :=
  match (s.seq n).slotRun, (s.seq n).op with
  | some r, some o =>
    if before && r.firstEnded && r.arm.kind == .write && o.ended == 0 && s.causes n == 0 && s.flt.chip.isNone then
      s.modAv n (fun a => { a with wg := true })
    else s
  | _, _ => s

/-- EMBEDDED_WEDGE (R195): a measurement is discarded, with source 14, when the face or cylinder bits differ. -/
def embeddedWedge (n : Fin 4) (w : EmbeddedInput) (s : State) : State :=
  let before := s.avn n |>.wg
  let s1 := splitReservation n s
  let s2 :=
    if !w.found then embeddedMissed n s1
    else if w.face.toNat ≠ (s1.sv n).face % 8 ∨ gray w.cyl ≠ s1.target n % 256 then
      embeddedMissed n (s1.raise (svSrc n 14))
    else
      let (f, s') := s1.finePosition n w.burstA w.burstB w.burstC w.burstD
      embeddedFound n (f - (s'.sv n).ofs) s'
  splitResume n before s2

/-- EMBEDDED_WEDGE. -/
def execEmbeddedWedge (n : Fin 4) (w : EmbeddedInput) (s : State) : Host.Outcome State Fault Refusal :=
  .next (embeddedWedge n w s)

end Sys2Proof.Machine
end

