-- ==== Sys2Proof/Machine/Servo.lean ====
section
/-! DEFINITION. Meanings of the servo commands but for the wedges (spec 07). -/

namespace Sys2Proof.Machine

/-! ### Requests and their limits -/

/-- SEEK_REQUEST (R203). -/
def execSeekRequest (n : Fin 4) (r : SeekReq) (s : State) : Host.Outcome State Fault Refusal :=
  .next (s.seekRequest n r)

/-- SEEK has lasted more than twice the planned full stroke (R204): the request fails and the engine unloads. -/
def seekTimeLimit (n : Fin 4) (s : State) : State := if s.svState n = 3 then (s.seekFail n).startUnload n 7 else s

/-- SEEK_TIME_LIMIT. -/
def execSeekTimeLimit (n : Fin 4) (s : State) : Host.Outcome State Fault Refusal := .next (seekTimeLimit n s)

/-- SETTLE has lasted more than 0.6 ms from profile end (R208). -/
def settleWarn (n : Fin 4) (s : State) : State :=
  if s.svState n = 4 then (s.bump (SVO_CNT0_SETLATE n)).raise (svSrc n 4) else s

/-- SETTLE_WARN_EXPIRY. -/
def execSettleWarnExpiry (n : Fin 4) (s : State) : Host.Outcome State Fault Refusal := .next (settleWarn n s)

/-- SETTLE has lasted more than SETTLEMAX (R208): the request fails, and the engine stays in SETTLE. -/
def settleLimit (n : Fin 4) (s : State) : State := if s.svState n = 4 then s.dropReq n else s

/-- SETTLE_LIMIT_EXPIRY. -/
def execSettleLimitExpiry (n : Fin 4) (s : State) : Host.Outcome State Fault Refusal := .next (settleLimit n s)

/-! ### The command stream (R199 to R201, R212 to R214, R219) -/

/-- A CRC-8 of R156 over the bits of a word, most significant first (R215). -/
def crcBits {w : Nat} (x : BitVec w) : BitVec 8 :=
  (List.range w).foldl (fun c i => crcShift 0x07 (c ^^^ (if x.getLsbD (w - 1 - i) then 0x80 else 0))) (0 : BitVec 8)

/-- A command held within ±`lim`, and whether the clamp takes effect. -/
def clampCmd (lo hi i : Int) : Int × Bool := (max lo (min hi i), decide (i < lo ∨ hi < i))

/-- VCM command limit of profile set `m` (R201). -/
def State.imax (s : State) (n : Fin 4) (m : Nat) : Int := s.get (SVO_PROF_W2_IMAX n m)

/-- The back-EMF velocity estimate, tracks/ms (R219). -/
def State.bemf (s : State) (n : Fin 4) : Int :=
  ((s.geti (SVO_DLSTAT_VSENSE n) - (s.get (SVO_BEMF_RCOIL n) : Int) * s.geti (SVO_DLSTAT_ISENSE n) / 2 ^ 12)
    * s.geti (SVO_BEMF_KBV n)) / 2 ^ 8

/-- A coupling coefficient cpl[i][t] (R212). -/
def State.cpl (s : State) (n : Fin 4) (i t : Nat) : Int :=
  if t % 2 = 0 then s.geti (SVO_CPL_LO n i (t / 2)) else s.geti (SVO_CPL_HI n i (t / 2))

/-- Engine `i`'s newest published value is older than two command periods at the present speed (R213). -/
def State.staleFor (s : State) (i : Fin 4) : Bool :=
  decide (2 * 6000000000 * 1024 < (s.time - (s.sv i).published) * 13440 * s.speedOr)

/-- The other engines whose coupling is enabled for engine `n`. -/
def State.coupled (s : State) (n : Fin 4) : List (Fin 4) :=
  ([0, 1, 2, 3] : List (Fin 4)).filter (fun i => decide (i ≠ n) && s.is ⟨SVO_CPLCTL n, i.val, 1⟩)

/-- Stale engines are noted, and source 12 is raised once for each episode (R213). -/
def noteStale (n : Fin 4) (s : State) : State :=
  let now := ((s.coupled n).filter s.staleFor).map Fin.val
  let new := now.any (fun i => !(s.sv n).stale.contains i)
  (s.raiseIf new (svSrc n 12)).modSv n (fun v => { v with stale := now })

/-- The coupling term c_j (R212, R213). -/
def State.coupling (s : State) (n : Fin 4) : Int :=
  Int.tdiv (((s.coupled n).filter (fun i => !s.staleFor i)).map (fun i =>
    ((List.range 8).map (fun t => s.cpl n i.val t * (s.sv i).history.getD t 0)).sum)).sum 16384

/-- MODE of the frames (Table 7-5). -/
def State.frameMode (s : State) (n : Fin 4) : Nat :=
  let st := s.svState n
  if st = 0 ∨ st = 1 ∨ st = 10 then 0
  else if (st = 7 ∨ st = 9) ∧ (s.sv n).stage = .retract then 2 else 1

/-- The seek feedforward ff_j (R204); 0 outside SEEK. -/
def State.feedforward (s : State) (n : Fin 4) : Int :=
  let v := s.sv n
  if s.svState n = 3 then v.gen.f + Int.tdiv ((v.gen.fNext - v.gen.f) * v.cmd) 16 else 0

/-- The velocity command of a load or unload (R219): KVEL is Q6.6, and the rounding of its product is open. -/
def State.velocityCmd (s : State) (n : Fin 4) : Int × State :=
  let vt : Int := if s.svState n = 2 then 4 * s.get (SVO_LDCFG_LDVEL n) else -(4 * s.get (SVO_UNLD_ULVEL n) : Int)
  let x := (s.get (SVO_UNLD_KVEL n) : Int) * (vt - s.bemf n)
  let (r, s1) := s.fresh 1
  (if x % 64 = 0 then x / 64 else x / 64 + r, s1)

/-- The out frame from its fields (Table 7-4). -/
def outFrame (mode : Nat) (vcm ma : Int) (lp sq : Bool) : BitVec 42 :=
  let top : BitVec 34 := BitVec.ofNat 2 mode ++ BitVec.ofInt 16 vcm ++ BitVec.ofInt 14 ma ++ BitVec.ofBool lp ++ BitVec.ofBool sq
  top ++ crcBits top

/-- VCM and MA before the frame is built, and how many clamps took effect (R201, R219, R221, R225). -/
def State.compose (s : State) (n : Fin 4) : (Int × Int × Nat) × State :=
  let st := s.svState n
  let v := s.sv n
  let c := if s.frameMode n = 1 then s.coupling n else 0
  if st = 2 ∨ ((st = 7 ∨ st = 9) ∧ v.stage ≠ .retract) then
    let (x, s1) := s.velocityCmd n
    let lim := s.imax n 1
    let y := clampCmd (-lim) lim x
    ((y.1, 0, if y.2 then 1 else 0), s1)
  else if st = 7 ∨ st = 9 then ((-128 * (s.get (SVO_IDLE_EUV n) : Int), 0, 0), s)
  else
    let lim := s.imax n (s.get (SVO_STAT_STRONG n))
    let y := clampCmd (-lim) lim (s.feedforward n + v.fbV + c)
    let m := clampCmd (-8192) 8191 (if st = 6 ∨ st = 8 then 0 else v.fbM)
    ((y.1, m.1, (if y.2 then 1 else 0) + (if m.2 then 1 else 0)), s)

/-- COMMAND_PERIOD (R199, R201, R212 to R214): the command is composed, counted where clamped, framed and published; the
outputs of the last wedge serve from command 1 on. -/
def commandPeriod (n : Fin 4) (s : State) : State :=
  let s1 := noteStale n s
  let ((vcm, ma, sats), s2) := s1.compose n
  let mode := s2.frameMode n
  let st := s2.svState n
  let vb := s2.bemf n
  let sq := !(s2.sv n).out.getLsbD 8
  (s2.bump (SVO_CNT1_SATS n) sats).modSv n (fun v => { v with
    out := outFrame mode vcm ma (st == 6) sq
    history := ((if mode = 1 then vcm else 0) :: v.history).take 8
    published := s2.time
    underflows := 0
    cmd := min 15 (v.cmd + 1)
    fbV := v.nextV
    fbM := v.nextM
    bemfSum := if st = 2 ∨ st = 7 ∨ st = 9 then v.bemfSum + vb else v.bemfSum })

/-- COMMAND_PERIOD. -/
def execCommandPeriod (n : Fin 4) (s : State) : Host.Outcome State Fault Refusal := .next (commandPeriod n s)

/-- The engine enters FAULT (R217): a request not yet settled fails. -/
def State.svFault (s : State) (n : Fin 4) : State := (s.dropReq n).svTo n 10

/-- DRIVE_LINK_IN_FRAME (R217). -/
def driveLinkInFrame (n : Fin 4) (fr : BitVec 42) (s : State) : State :=
  let top : BitVec 34 := fr.extractLsb' 8 34
  if crcBits top ≠ fr.extractLsb' 0 8 then
    let run := (s.sv n).badFrames + 1
    ((s.bump (SVO_CNT1_DLERR n)).modSv n (fun v => { v with badFrames := run })).raiseIf (run == 4) (svSrc n 6)
  else
    let old := s.get (SVO_DLSTAT_STAT n) / 2
    let stat := (top.extractLsb' 6 4).toNat
    let s1 := (((s.put (SVO_DLSTAT_ISENSE n) (top.extractLsb' 22 12).toNat).put (SVO_DLSTAT_VSENSE n)
      (top.extractLsb' 10 12).toNat).put (SVO_DLSTAT_STAT n) stat).modSv n (fun v => { v with badFrames := 0 })
    let s2 := s1.raiseIf (old == 0 && stat / 2 != 0) (svSrc n 7)
    if 8 ≤ stat ∧ s2.svState n ≠ 10 then s2.svFault n else s2

/-- DRIVE_LINK_IN_FRAME. -/
def execDriveLinkInFrame (n : Fin 4) (fr : BitVec 42) (s : State) : Host.Outcome State Fault Refusal :=
  .next (driveLinkInFrame n fr s)

/-! ### Enable, load, unload, idle (R218 to R226) -/

/-- The non-empty zones of the applied layout, with their numbers. -/
def State.validZones (s : State) (n : Fin 4) : List (Nat × ZoneLay) :=
  match (s.avn n).layout with
  | none => []
  | some l => ((List.range l.zones.length).zip l.zones).filter (fun p => p.2.valid)

/-- Rule 2 of Table 7-6. -/
def enableRule2 (s : State) (n : Fin 4) : Bool :=
  let okm := fun m =>
    s.get (SVO_PROF_W0_AMAX n m) != 0 && s.get (SVO_PROF_W0_ADEC n m) != 0 && s.get (SVO_PROF_W1_VMAX n m) != 0
      && s.get (SVO_PROF_W1_JMAX n m) != 0 && s.get (SVO_PROF_W2_KFF n m) != 0
      && decide (s.get (SVO_PROF_W0_ADEC n m) ≤ s.get (SVO_PROF_W0_AMAX n m))
      && decide (s.get (SVO_PROF_W2_IMAX n m) ≤ 32767)
  okm 0 && okm 1 && decide (s.get (SVO_THR_STHR n) ≤ s.get (SVO_THR_WRTHR n))
    && decide (s.get (SVO_THR_WRTHR n) ≤ s.get (SVO_THR_RDTHR n))
    && decide (s.get (SVO_THR_WRREC n) ≤ orOne (s.get (SVO_THR_SCNT n)))

/-- Rule 4 of Table 7-6. -/
def enableRule4 (s : State) (n : Fin 4) : Bool :=
  (s.validZones n).all (fun p =>
    decide (56 + 4 * s.get (SVO_TWZ_BLEN n p.1) ≤ 16 * p.2.cpr16 / 21000)
      && decide (8 * (43 + 4 * s.get (SVO_TWZ_EBLEN n p.1)) ≤ 32 * p.2.wlen))

/-- Rule 5 of Table 7-6. -/
def enableRule5 (s : State) (n : Fin 4) : Bool :=
  let lim := s.get (SVO_HOFSCTL_HOFSLIM n)
  decide (lim ≤ 96) && (List.range (((s.avn n).layout.map Layout.ndata).getD 0)).all (fun f =>
    (s.validZones n).all (fun p => decide ((s.hofs n f p.1).natAbs ≤ lim)))

/-- Intervals of R204 from rest at cylinder 0 to the profile's end, within `fuel` of them. -/
def planRun (pr : Profile) (t target : F32) : Nat → Nat → ProfileGen → Option Nat
  | 0, _, _ => none
  | fuel + 1, k, g =>
    let g1 := genStep pr t target g
    if g1.ended then some (k + 1) else planRun pr t target fuel (k + 1) g1

/-- The planned full stroke of profile set `m`, in wedge intervals at the nominal speed (R226); none where it takes more
than `lim` hundredths of a millisecond. -/
def State.plan (s : State) (n : Fin 4) (m lim : Nat) : Option Nat :=
  let sp := 1024 * s.nominal
  planRun (s.profile n m) (intervalMs sp) (F32.ofInt (256 * ((s.get (AV_FMTCYL_NCYL n) : Int) - 1)))
    (lim * 840 * s.nominal / 6000000) 0 (genRest 0)

/-- A number of wedge intervals at the nominal speed, in 10 µs units rounded up. -/
def State.planUnits (s : State) (k : Nat) : Nat := ceilDiv (k * 6000000) (840 * s.nominal)

/-- The checks of Table 7-6: the first rule broken, or the planned times (strong, quiet). -/
def State.enableCheck (s : State) (n : Fin 4) : Nat ⊕ (Nat × Nat) :=
  if !s.is (AV_FMTCTL_OK n) then .inl 1
  else if !enableRule2 s n then .inl 2
  else if s.get (SVO_SEEKCFG_VSW n) < s.get (SVO_PROF_W1_VMAX n 0) then .inl 3
  else if !enableRule4 s n then .inl 4
  else if !enableRule5 s n then .inl 5
  else match s.plan n 1 1800, s.plan n 0 2600 with
    | some a, some b => .inr (s.planUnits a, s.planUnits b)
    | _, _ => .inl 6

/-- SERVO_ENABLE (R226): in OFF the rules are checked. -/
def servoEnable (n : Fin 4) (s : State) : State :=
  let s1 := s.putb (SVO_CTL_EN n) true
  if s.svState n ≠ 0 then s1
  else match s1.enableCheck n with
    | .inl e => (s1.put (SVO_PLAN_ERR n) e).raise (svSrc n 15)
    | .inr (fss, fsq) =>
      let s2 := ((s1.put (SVO_PLAN_ERR n) 0).put (SVO_PLAN_FSS n) fss).put (SVO_PLAN_FSQ n) fsq
      if s2.is (SVO_STAT_LATCH n) then s2.svTo n 1 else s2.startUnload n 7

/-- SERVO_ENABLE. -/
def execServoEnable (n : Fin 4) (s : State) : Host.Outcome State Fault Refusal := .next (servoEnable n s)

/-- EN written 0 (R218, Table 7-5): OFF from any state. -/
def servoDisable (n : Fin 4) (s : State) : State := ((s.putb (SVO_CTL_EN n) false).dropReq n).svTo n 0

/-- SERVO_DISABLE. -/
def execServoDisable (n : Fin 4) (s : State) : Host.Outcome State Fault Refusal := .next (servoDisable n s)

/-- LOAD (R222): from PARKED, once the spindle is ready; without effect otherwise (R218). -/
def servoLoad (n : Fin 4) (s : State) : State :=
  if s.svState n = 1 ∧ s.is SPN_STAT_READY = true then
    (s.modSv n (fun v => { v with foundRun := 0, missRun := 0 })).svTo n 2
  else s

/-- SERVO_LOAD. -/
def execServoLoad (n : Fin 4) (s : State) : Host.Outcome State Fault Refusal := .next (servoLoad n s)

/-- SERVO_UNLOAD (R218, R221). -/
def execServoUnload (n : Fin 4) (s : State) : Host.Outcome State Fault Refusal := .next (s.unloadRequest n)

/-- LDT has passed in LOADING (R222). -/
def loadLimit (n : Fin 4) (s : State) : State := if s.svState n = 2 then (s.raise (svSrc n 11)).startUnload n 7 else s

/-- LOAD_LIMIT_EXPIRY. -/
def execLoadLimitExpiry (n : Fin 4) (s : State) : Host.Outcome State Fault Refusal := .next (loadLimit n s)

/-- No operation has been open for IDLET1: FOLLOW becomes IDLE (R220). -/
def idleTimer (n : Fin 4) (s : State) : State := if s.svState n = 5 ∧ (s.seq n).op = none then s.svTo n 6 else s

/-- IDLE_TIMER_EXPIRY. -/
def execIdleTimerExpiry (n : Fin 4) (s : State) : Host.Outcome State Fault Refusal := .next (idleTimer n s)

/-- No operation has been open for UNLDT, which is nonzero: the engine unloads (R220). -/
def idleUnload (n : Fin 4) (s : State) : State :=
  if s.get (SVO_IDLE_UNLDT n) ≠ 0 ∧ (s.seq n).op = none then s.unloadRequest n else s

/-- IDLE_UNLOAD_EXPIRY. -/
def execIdleUnloadExpiry (n : Fin 4) (s : State) : Host.Outcome State Fault Refusal := .next (idleUnload n s)

/-- The position estimate between wedges (R223): the last position advanced by the integral of v_b. -/
def State.posEstimate (s : State) (n : Fin 4) : Int :=
  s.lastPos n + 256 * (s.sv n).bemfSum * 60000 * 1024 / (13440 * s.speedOr)

/-- LATCH_DET_EDGE (R223): latched with position and time; in an unload a rising edge starts PARKT. A level that does not
change is no edge. -/
def latchDetEdge (n : Fin 4) (rising : Bool) (s : State) : State :=
  if s.is (SVO_STAT_LATCH n) = rising then s
  else
    let st := s.svState n
    let exp := decide (st = 2 ∨ st = 7 ∨ st = 9)
    let s1 := (((((((s.putb (SVO_STAT_LATCH n) rising).puti (SVO_LATCHPOS_POS n) (s.posEstimate n)).put (SVO_LATCHT_TIME n)
      s.time).putb (SVO_LATCHS_EDGE n) rising).putb (SVO_LATCHS_EXPECT n) exp).step1 (SVO_LATCHS_COUNT n)).put
      (SVO_LATCHS_VALID n) 1).raiseIf (!exp) (svSrc n 9)
    if rising ∧ (st = 7 ∨ st = 9) ∧ (s1.sv n).stage = .driving then s1.modSv n (fun v => { v with stage := .edge }) else s1

/-- LATCH_DET_EDGE. -/
def execLatchDetEdge (n : Fin 4) (rising : Bool) (s : State) : Host.Outcome State Fault Refusal :=
  .next (latchDetEdge n rising s)

/-- PARKT ends an unload (R221, R224): PARKED, counted; without a ramp edge source 10; an emergency unload records how it
ended. -/
def parkTime (n : Fin 4) (s : State) : State :=
  let st := s.svState n
  let stage := (s.sv n).stage
  if (st = 7 ∨ st = 9) ∧ stage ≠ .driving then
    let edge := stage == .edge
    let s1 := (s.bump (SVO_CNT1_UNLOADS n)).raiseIf (!edge) (svSrc n 10)
    let s2 := if st = 9 then (s1.putb (SVO_LATCHS_EUOK n) edge).raise (svSrc n 18) else s1
    (s2.modSv n (fun v => { v with stage := .driving })).svTo n 1
  else s

/-- PARK_TIME_EXPIRY. -/
def execParkTimeExpiry (n : Fin 4) (s : State) : Host.Outcome State Fault Refusal := .next (parkTime n s)

/-- ULMAX has passed without a ramp edge (R221): the retract voltage for PARKT. -/
def unloadLimit (n : Fin 4) (s : State) : State :=
  let st := s.svState n
  if (st = 7 ∨ st = 9) ∧ (s.sv n).stage = .driving then s.modSv n (fun v => { v with stage := .retract }) else s

/-- UNLOAD_LIMIT_EXPIRY. -/
def execUnloadLimitExpiry (n : Fin 4) (s : State) : Host.Outcome State Fault Refusal := .next (unloadLimit n s)

/-- 256 wedge intervals have passed in RECOVER (R225): the engine unloads. -/
def recoverLimit (n : Fin 4) (s : State) : State := if s.svState n = 8 then s.startUnload n 7 else s

/-- RECOVER_LIMIT_EXPIRY. -/
def execRecoverLimitExpiry (n : Fin 4) (s : State) : Host.Outcome State Fault Refusal := .next (recoverLimit n s)

end Sys2Proof.Machine
end

