-- ==== Sys2Proof/Machine/Fabric.lean ====
section
/-! DEFINITION. Meanings of the commands of the timing domains, the Ring Road, the pace loop and the time base
(spec 01). -/

namespace Sys2Proof.Machine

/-! ### Timing domains (1.2) -/

/-- The Avenue or actuator that a domain serves, from its offset in a group of four. -/
def tdUnit (td base : Nat) : Fin 4 := ⟨(td - base) % 4, Nat.mod_lt _ (by decide)⟩

/-- The clock-absent source of a domain (Table 1-15). -/
def tdAbsentSource (td : Nat) : Option Nat :=
  if td < 8 then some (avSrc (tdUnit (td / 2) 0) (41 + td % 2))
  else if td < 12 then some (avSrc (tdUnit td 8) 43)
  else if td < 16 then some (avSrc (tdUnit td 12) 44)
  else if td < 20 then some (svSrc (tdUnit td 16) 19)
  else if td < 24 then some (svSrc (tdUnit td 20) 20)
  else match td with
    | 24 => some 957
    | 25 => some 958
    | 35 => some 959
    | 26 => some 16
    | 27 => some 17
    | 28 => some 218
    | 29 => some 983
    | 30 => some (428 + 45)
    | 37 => some 1017
    | 38 => some 1018
    | 31 | 34 | 36 | 39 => some 1124
    | _ => none

/-- CLOCK_ABSENT (R33): the PRESENT bit clears; a domain that is expected raises its source once for the episode. -/
def clockAbsent (td : Nat) (s : State) : State :=
  if s.is (tdPresent td) then
    let s1 := s.putb (tdPresent td) false
    match tdAbsentSource td with
    | some src => s1.raiseIf (s1.is (tdExpect td)) src
    | none => s1
  else s

/-- CLOCK_ABSENT. -/
def execClockAbsent (td : Fin 40) (s : State) : Host.Outcome State Fault Refusal := .next (clockAbsent td.val s)

/-- CLOCK_RETURN (R33). -/
def execClockReturn (td : Fin 40) (s : State) : Host.Outcome State Fault Refusal := .next (s.putb (tdPresent td.val) true)

/-- A TD(8 + n) underflow (Table 1-4, Table 5-1 cause 4): source 72, and write gate drops. -/
def writeUnderflow (n : Fin 4) (s : State) : State :=
  let s1 := ((s.modAv n (fun a => { a with underflow := true })).raise (avSrc n 72)).inhibit n 4
  s1.modAv n (fun a => { a with underflow := false })

/-- A drive-link underflow (Table 1-4): the command is repeated once; the second consecutive one raises source 8 and
sets the command to zero current. -/
def commandUnderflow (n : Fin 4) (s : State) : State :=
  let k := (s.sv n).underflows + 1
  let s1 := s.modSv n (fun v => { v with underflows := k })
  if k < 2 then s1
  else (s1.raiseIf (k == 2) (svSrc n 8)).modSv n (fun v => { v with
    out := outFrame (s.frameMode n) 0 0 (v.out.getLsbD 9) (v.out.getLsbD 8) })

/-- The source of a crossing whose overflow or underflow only raises an event: the one its chapter gives, or an open one
(assumption 9). -/
def crossingSrc (td : Nat) : Nat :=
  match td with
  | 26 => 7
  | 27 => 8
  | 29 => 981
  | 25 => 954
  | _ => (Config.crossingSource td).val

/-- CROSSING_OVERFLOW (R32, Table 1-4): `blocks` sample blocks lost samples. -/
def crossingOverflow (td blocks : Nat) (s : State) : State :=
  if td < 8 then
    let n := tdUnit (td / 2) 0
    (s.modReader n (if td % 2 = 0 then 0 else 1) (fun r => { r with dropped := max r.dropped blocks })).raise (avSrc n 38)
  else if td < 12 then writeUnderflow (tdUnit td 8) s
  else if 20 ≤ td ∧ td < 24 then commandUnderflow (tdUnit td 20) s
  else s.raise (crossingSrc td)

/-- CROSSING_OVERFLOW. -/
def execCrossingOverflow (td : Fin 40) (blocks : Nat) (s : State) : Host.Outcome State Fault Refusal :=
  .next (crossingOverflow td.val blocks s)

/-! ### The Ring Road (1.3) -/

/-- Hops clockwise from one stop to another. -/
def hopsCw (src dst : Nat) : Nat := (dst + 13 - src) % 13

/-- FLIT_DELIVERY (R36, R39): the shorter direction; single-bit errors are corrected and counted by the destination, a
double-bit error poisons the flit, and a flit whose header parity fails is discarded with an event. -/
def flitDelivery (f : Flit) (s : State) : State :=
  let d := f.dst.val
  if f.response && f.late && s.flt.discards.contains d then
    { s with ring := { s.ring with discarded := s.ring.discarded + 1 } }
  else if !f.headerOk then
    { s with ring := { s.ring with discarded := s.ring.discarded + 1 } }.raise (Config.flitParitySource d).val
  else
    let cw := hopsCw f.src.val d
    let ones := (f.errors.filter (fun e => e == 1)).length
    let res : FlitResult := { dst := d, clockwise := decide (cw ≤ 6), hops := min cw (13 - cw)
                              poisoned := f.errors.any (fun e => decide (2 ≤ e)) }
    { s with ring := { s.ring with
      corrected := KMap.set (fun _ => 0) s.ring.corrected d (KMap.get (fun _ => 0) s.ring.corrected d + ones)
      last := some res } }

/-- FLIT_DELIVERY. -/
def execFlitDelivery (f : Flit) (s : State) : Host.Outcome State Fault Refusal := .next (flitDelivery f s)

/-! ### Pace monitors and the AVS loop (1.5) -/

/-- CRIT < WARN < LOW < HIGH does not hold (R51). -/
def State.badThr (s : State) : Bool :=
  !(decide (s.get PWR_AVSTHR_CRIT < s.get PWR_AVSTHR_WARN) && decide (s.get PWR_AVSTHR_WARN < s.get PWR_AVSTHR_LOW)
    && decide (s.get PWR_AVSTHR_LOW < s.get PWR_AVSTHR_HIGH))

/-- The AVS loop may change the code: EN, thresholds in order, and no PGOOD hold (R50, R51). -/
def State.avsRuns (s : State) : Bool := s.is PWR_AVSCTL_EN && !s.badThr && !s.pace.pgHold

/-- The code held between MINCODE and MAXCODE (R45, R46). -/
def State.setCode (s : State) (c : Int) : State :=
  s.put PWR_VREQ_CODE (max (s.get PWR_AVSLIM_MINCODE : Int) (min (s.get PWR_AVSLIM_MAXCODE : Int) c)).toNat

/-- One monitor's part of a gate's end (R44, R49): counts, margin, and the events of the episode. -/
def paceMonitor (s : State) (mc : Nat × Nat) : State :=
  let (m, raw) := mc
  let count := min 0xFFFF raw
  if !s.is (PWR_PACEREQ_EN m) then s
  else
    let (cur, prev) := s.margins m count
    let s1 := (s.put (PWR_PACE_COUNT m) count).put (PWR_PACE_MARGIN m) cur
    let s2 := s1.raiseIf (raw == 0) 1126
    if !s.paceOn m then s2
    else
      let warn := decide (cur < s.avsThr PWR_AVSTHR_WARN)
      let crit := decide (cur < s.avsThr PWR_AVSTHR_CRIT)
      let s3 := (s2.raiseIf (warn && !s.pace.belowWarn.contains m) 1120).raiseIf (crit && !s.pace.belowCrit.contains m) 1121
      { s3 with pace := { s3.pace with
        prev := s3.pace.prev ++ [(m, prev)]
        belowWarn := if warn then s3.pace.belowWarn ++ [m] else s3.pace.belowWarn
        belowCrit := if crit then s3.pace.belowCrit ++ [m] else s3.pace.belowCrit } }

/-- PACE_GATE_END (R44, R45): margins of the enabled monitors; while a current margin is below CRIT the code rises by
FAST at every gate. Zone changes that waited for the margins take effect (R48). -/
def paceGateEnd (counts : List Nat) (s : State) : State :=
  let warn := s.pace.belowWarn
  let crit := s.pace.belowCrit
  let s1 := ((List.range 16).zip counts).foldl paceMonitor { s with pace := { s.pace with prev := [] } }
  let s2 := { s1 with pace := { s1.pace with
    gates := s1.pace.gates + 1
    belowWarn := s1.pace.belowWarn.drop warn.length
    belowCrit := s1.pace.belowCrit.drop crit.length } }
  let s3 := if s2.avsRuns && !s2.pace.belowCrit.isEmpty then s2.setCode (s2.get PWR_VREQ_CODE + s2.get PWR_AVSLIM_FAST) else s2
  all4.foldl zoneRetry s3

/-- PACE_GATE_END. -/
def execPaceGateEnd (counts : List Nat) (s : State) : Host.Outcome State Fault Refusal := .next (paceGateEnd counts s)

/-- The monitor with the lowest preview margin, the lower index first. -/
def worstMonitor (prev : List (Nat × Nat)) : Option (Nat × Nat) :=
  prev.foldl (fun b p => match b with
    | none => some p
    | some q => if p.2 < q.2 then some p else some q) none

/-- AVS_UPDATE (R45): every PERIOD gates; source 1123 after eight periods at MAXCODE with a margin below LOW. -/
def avsUpdate (s : State) : State :=
  if s.pace.gates < orOne (s.get PWR_AVSCTL_PERIOD) then s
  else
    let s1 := { s with pace := { s.pace with gates := 0 } }
    match worstMonitor s.pace.prev with
    | none => s1
    | some (m, margin) =>
      let s2 := s1.put PWR_VREQ_WORST m
      let low := decide (margin < s.avsThr PWR_AVSTHR_LOW)
      let high := decide (s.avsThr PWR_AVSTHR_HIGH < margin)
      let code : Int := s.get PWR_VREQ_CODE
      let s3 := if !s2.avsRuns || !s.pace.belowCrit.isEmpty then s2
        else if low then s2.setCode (code + s.get PWR_AVSLIM_UP)
        else if high then s2.setCode (code - s.get PWR_AVSLIM_DOWN)
        else s2.setCode code
      let run := if low && decide (s.get PWR_AVSLIM_MAXCODE ≤ s3.get PWR_VREQ_CODE) then s.pace.lowRun + 1 else 0
      { s3 with pace := { s3.pace with lowRun := run } }.raiseIf (run == 8) 1123

/-- AVS_UPDATE. -/
def execAvsUpdate (s : State) : Host.Outcome State Fault Refusal := .next (avsUpdate s)

/-- ZONE_PREVIEW_POST. -/
def execZonePreviewPost (n : Fin 4) (z : Fin 32) (s : State) : Host.Outcome State Fault Refusal :=
  .next (s.postPreview n z.val)

/-- ZONE_CHANGE. -/
def execZoneChange (n : Fin 4) (z : Fin 32) (s : State) : Host.Outcome State Fault Refusal := .next (zoneChange n z.val s)

/-- ZONE_CHANGE_HOLD_EXPIRY (R48): the waiting change proceeds, with source 1125. -/
def zoneHoldExpiry (n : Fin 4) (s : State) : State :=
  match s.pace.wait.get n with
  | some z => (zoneTakes n z s).raise 1125
  | none => s

/-- ZONE_CHANGE_HOLD_EXPIRY. -/
def execZoneChangeHoldExpiry (n : Fin 4) (s : State) : Host.Outcome State Fault Refusal := .next (zoneHoldExpiry n s)

/-- PGOOD_FILTER_EXPIRY (R50): low for longer than PGFILT. -/
def pgoodFilter (s : State) : State :=
  if s.is PWR_VREQ_PGOOD || !s.pace.pgTiming then s
  else { s with pace := { s.pace with pgTiming := false, pgHold := true } }.raise 1122

/-- PGOOD_FILTER_EXPIRY. -/
def execPgoodFilterExpiry (s : State) : Host.Outcome State Fault Refusal := .next (pgoodFilter s)

/-- PGOOD_RISE (R50, R547): the level returns, the code is no longer held, and PGOOD is no power-loss cause. -/
def pgoodRise (s : State) : State :=
  { s with pace := { s.pace with pgTiming := false, pgHold := false }
           pwr := { s.pwr with pgtTiming := false, causes := setBits s.pwr.causes 2 1 0 } }.putb PWR_VREQ_PGOOD true

/-- PGOOD_RISE. -/
def execPgoodRise (s : State) : Host.Outcome State Fault Refusal := .next (pgoodRise s)

/-! ### The time base (1.6) -/

/-- The load takes effect (R54): the counter takes TIM_LOAD as it now stands, LOADS rises and a record is written. -/
def timeLoadApply (s : State) : State :=
  if s.tim.loadPending && s.is (tdPresent 31) then
    let v := (s.rd TIM_LOAD_LO).toNat + 2 ^ 32 * (s.rd TIM_LOAD_HI).toNat
    let s1 := { s with tim := { now := BitVec.ofNat 64 v, loadPending := false } }
    (s1.step1 TIM_CTL_LOADS).recordType 1 0
  else s

/-- TIME_LOAD_APPLY: the TD31 cycle at which a pending load takes effect. -/
def execTimeLoadApply (s : State) : Host.Outcome State Fault Refusal := .next (timeLoadApply s)

/-- TIME_LOAD_REQUEST (R54): a load is pending until the next TD31 cycle; a further request adds no second load. -/
def execTimeLoadRequest (s : State) : Host.Outcome State Fault Refusal :=
  .next { s with tim := { s.tim with loadPending := true } }

/-- One TD31 cycle (R53 to R55): with its clock present the counter advances, or takes a pending load. -/
def timeTick (s : State) : State :=
  if !s.is (tdPresent 31) then s
  else if s.tim.loadPending then timeLoadApply s
  else { s with tim := { s.tim with now := s.tim.now + 1 } }

end Sys2Proof.Machine
end

