-- ==== Sys2Proof/Machine/FlashOps.lean ====
section
/-! DEFINITION. The flash store: dies, areas, tables, queues and the effects of array operations (spec 10). -/

namespace Sys2Proof.Machine

/-! ### Dies and blocks -/

/-- A block of the journal pool counts as full until its pointer is rebuilt (R307); other blocks start erased. -/
def blankBlock (b : Nat) : FlashBlock := ⟨if 292 ≤ b then 512 else 0, 0, 0, []⟩

/-- Die `d`. -/
def State.die (s : State) (d : Nat) : FlashDie := if d = 0 then s.fls.die0 else s.fls.die1

/-- STAT.IDLE: no operation in progress on either die. -/
def Flash.idle (f : Flash) : Bool :=
  f.die0.run.isNone && f.die0.erasing.isNone && f.die1.run.isNone && f.die1.erasing.isNone

/-- The state with die `d` changed; STAT.IDLE and the table counts follow. -/
def State.modDie (s : State) (d : Nat) (f : FlashDie → FlashDie) : State :=
  let s1 : State := if d = 0 then { s with fls := { s.fls with die0 := f s.fls.die0 } }
    else { s with fls := { s.fls with die1 := f s.fls.die1 } }
  (((s1.putb FLS_STAT_IDLE s1.fls.idle).put (FLS_BBT_GROWN d) (s1.die d).grown.length).put (FLS_BBT_FACTORY d)
    (s1.die d).factory.length)

/-- Block `b` of a die. -/
def FlashDie.block (d : FlashDie) (b : Nat) : FlashBlock := KMap.get blankBlock d.blocks b

/-- The state with a block changed. -/
def State.modBlock (s : State) (d b : Nat) (f : FlashBlock → FlashBlock) : State :=
  s.modDie d (fun x => { x with blocks := KMap.set blankBlock x.blocks b (f (x.block b)) })

/-- Parts of a PSA (R297). -/
def psaDie (e : FlashEntry) : Nat := bitsOf e.psa.toNat 24 1
def psaBlock (e : FlashEntry) : Nat := bitsOf e.psa.toNat 12 12
def psaPage (e : FlashEntry) : Nat := bitsOf e.psa.toNat 3 9
def psaSector (e : FlashEntry) : Nat := bitsOf e.psa.toNat 0 3

/-- The blocks that an entry addresses: a pair for PAIR = 1. -/
def entryBlocks (e : FlashEntry) : List Nat := if e.pair then [psaBlock e, psaBlock e + 1] else [psaBlock e]

/-! ### Areas (R298, R299, R316) -/

/-- Areas of Table 10-2: 0 boot, 1 image, 2 configuration, 3 recorder, 4 checkpoint, 5 journal pool. -/
def areaOfNumber (b : Nat) : Nat :=
  if b < 4 then 0 else if b < 68 then 1 else if b < 132 then 2 else if b < 164 then 3 else if b < 292 then 4 else 5

/-- The block of Table 10-2 in whose place a block stands: itself, where it replaces none (R316). -/
def FlashDie.place (d : FlashDie) (b : Nat) : Nat :=
  match d.replaced.find? (fun r => r.2 == b) with
  | some r => r.1
  | none => b

/-- The area of a block: a replacement belongs to the area of the block it replaces (R316). -/
def FlashDie.area (d : FlashDie) (b : Nat) : Nat := areaOfNumber (d.place b)

/-- A ring may program or erase in an area (Table 10-2). -/
def ringMay (ring area : Nat) : Bool :=
  match area with
  | 4 => decide (ring ≤ 14)
  | 5 => true
  | _ => ring == 14

/-- The boot, image, configuration and recorder areas, margin-verified and patrolled (R310, R311). -/
def marginArea (area : Nat) : Bool := decide (area < 4)

/-- A block of a bad-block table, or refused once the grown table was full (R313 to R315). -/
def FlashDie.bad (d : FlashDie) (b : Nat) : Bool :=
  d.factory.contains b || d.grown.any (fun g => g.block == b) || d.refused.contains b

/-- A failing block is retired (R315, R316): it enters the grown table, or is refused unrecorded when that is full, and
outside the journal pool the lowest-numbered good block of the pool takes its place. -/
def State.retireBlock (s : State) (d b : Nat) (c : GrownCause) : State :=
  let x := s.die d
  if x.bad b then s
  else
    let s1 := if x.grown.length < 256 then
        let s2 := (s.modDie d (fun y => { y with grown := y.grown ++ [⟨b, c, s.time⟩] })).raise 969
        s2.raiseIf (x.grown.length == 255) 970
      else s.modDie d (fun y => { y with refused := y.refused ++ [b] })
    let y := s1.die d
    if y.area b = 5 then s1
    else match ((List.range 3804).map (· + 292)).find? (fun k => !y.bad k && y.area k == 5 && !s1.fls.reserve.contains (d, k)) with
      | some k => s1.modDie d (fun z => { z with replaced := z.replaced ++ [(y.place b, k)] })
      | none => s1

/-! ### Completions (R305) -/

/-- Statuses that ERRCAP captures: every one but done, done with a high count, and erased. -/
def failing (st : Nat) : Bool := st != 0 && st != 1 && st != 3

/-- The source of a status (Table 10-5). -/
def statusSource (st : Nat) : Option Nat :=
  match st with
  | 1 => some 967
  | 2 => some 966
  | 4 => some 964
  | 5 => some 965
  | 6 | 7 | 11 | 13 => some 980
  | 9 => some 975
  | 10 => some 977
  | _ => none

/-- A completion is posted, a failing entry captured while VALID = 0. -/
def State.flashPost (s : State) (e : FlashEntry) (st bits psa : Nat) (data pmeta : List Byte) : State :=
  let s1 := { s with fls := { s.fls with posted := s.fls.posted ++ [⟨e.ring.val, e.tag.val, st, bits, data, pmeta⟩] } }
  if failing st && !s1.is FLS_ERRCAP_VALID then
    ((s1.putb FLS_ERRCAP_VALID true).put FLS_ERRCAP_STATUS st).put FLS_ERRCAP_PSA psa
  else s1

/-- A completion with its status and source. -/
def State.flashEnd (s : State) (e : FlashEntry) (st : Nat) : State :=
  let s1 := s.flashPost e st 0 e.psa.toNat [] []
  match statusSource st with
  | some src => s1.raise src
  | none => s1

/-! ### Starting operations (R304, R307, R309) -/

/-- READs and MREADs. -/
def FlashOp.isRead : FlashOp → Bool
  | .read => true
  | .mread => true
  | _ => false

/-- Why an operation is refused at its start: the block stands in a bad-block table (data of a grown-bad block stays
readable by READ), or the page is not the next to program (R307, R315). -/
def FlashDie.startRefusal (d : FlashDie) (j : FlashJob) : Option Nat :=
  let bs := entryBlocks j.entry
  let bad := match j.op with
    | .read => bs.any (fun b => d.factory.contains b)
    | _ => bs.any d.bad
  if bad then some 6
  else if j.op == .program && bs.any (fun b => (d.block b).ptr != psaPage j.entry) then some 7
  else none

/-- A read waits behind the erase that runs or stands suspended. -/
def FlashDie.readWaits (d : FlashDie) : Bool :=
  match d.erasing with
  | some r => d.queue.any (fun j => j.op.isRead && (entryBlocks r.job.entry).all (fun b => b != psaBlock j.entry))
  | none => false

/-- The entry that the die may start now: the oldest in its queue, or during a suspended erase the oldest read of another
block, up to SUSPRD of them (R304, R309). -/
def State.nextJob (s : State) (d : Nat) : Option FlashJob :=
  let x := s.die d
  if x.run.isSome || s.get FLS_STAT_BAND == 2 then none
  else match x.erasing with
    | none => x.queue.head?
    | some r => if x.suspended && decide (r.served < s.get FLS_SUSP_SUSPRD) then
        x.queue.find? (fun j => j.op.isRead && (entryBlocks r.job.entry).all (fun b => b != psaBlock j.entry)) else none

/-- Queued operations start while the die is free; refused ones end at once (`fuel` bounds their number). -/
def startLoop (d : Nat) : Nat → State → State
  | 0, s => s
  | k + 1, s =>
    match s.nextJob d with
    | none => s
    | some j =>
      let s1 := s.modDie d (fun x => { x with queue := x.queue.erase j })
      match (s1.die d).startRefusal j with
      | some st => startLoop d k (s1.flashEnd j.entry st)
      | none =>
        if j.op == .erase then s1.modDie d (fun x => { x with erasing := some ⟨j, 0, 0, false⟩, suspended := false })
        else s1.modDie d (fun x => { x with run := some j })

/-- Source 976 is raised once for an erase that has had SUSPMAX suspends while reads wait (R309). -/
def State.suspendLimit (s : State) (d : Nat) : State :=
  match (s.die d).erasing with
  | some r => if !r.raised && !(s.die d).suspended && (s.die d).readWaits && decide (s.get FLS_SUSP_SUSPMAX ≤ r.suspends) then
      (s.modDie d (fun x => { x with erasing := some { r with raised := true } })).raise 976 else s
  | none => s

/-- A die goes on. -/
def State.dieStart (s : State) (d : Nat) : State :=
  (startLoop d ((s.die d).queue.length + 1) s).suspendLimit d

/-- An entry of Table 10-4 has legal fields for its operation. -/
def entryLegal (op : FlashOp) (e : FlashEntry) : Bool :=
  e.valid && (match op with
    | .read | .mread => decide (psaSector e + e.count.val ≤ 7)
    | .program => psaSector e == 0 && decide (1 ≤ e.typ.val ∧ e.typ.val ≤ 7) && (!e.pair || psaBlock e % 2 == 0)
    | .erase => psaSector e == 0 && psaPage e == 0 && (!e.pair || psaBlock e % 2 == 0))

/-- An entry reaches the controller (R299, R303, R304, R320 to R322): refused, or placed in its die's queue. -/
def State.flashEntry (s : State) (op : FlashOp) (e : FlashEntry) : State :=
  let d := psaDie e
  let x := s.die d
  let ring := e.ring.val
  let writes := op == .program || op == .erase
  let reserved := (entryBlocks e).any (fun b => s.fls.reserve.contains (d, b))
  if !entryLegal op e then s.flashEnd e 0x0D
  else if writes && (!(entryBlocks e).all (fun b => ringMay ring (x.area b)) || (reserved && ring != 15)) then s.flashEnd e 0x0B
  else if s.is FLS_STAT_COMMIT && ring != 15 then s.flashEnd e 0x08
  else if s.get FLS_STAT_BAND = 2 then s.flashEnd e 0x0C
  else (s.modDie d (fun y => { y with queue := y.queue ++ [⟨op, e⟩] })).dieStart d

/-! ### Effects of array operations -/

/-- SCRC (R300): CRC-32C over the plaintext data and bytes 2,048 to 2,079. -/
def sectorCrc (data cmeta : List Byte) (seq typ : Nat) : Word :=
  crc32c (data ++ cmeta ++ leBytes 8 seq ++ leBytes 2 typ ++ List.replicate 6 0)

/-- A sector as programmed (R300, R301): encrypted under the flash key with the PSA as tweak. -/
def State.sealSector (s : State) (psa seq typ : Nat) (data cmeta : List Byte) : FlashSector :=
  { data := match s.tgt.kflash with
      | some k => xts false k psa data
      | none => data
    cmeta := cmeta, seq := seq, typ := typ, scrc := sectorCrc data cmeta seq typ }

/-- A sector's plaintext, where its bit errors are within 112 and its SCRC fits (R302). -/
def State.openSector (s : State) (psa : Nat) (bits : Nat) (x : FlashSector) : Option (List Byte) :=
  let plain := match s.tgt.kflash with
    | some k => xts true k psa x.data
    | none => x.data
  if bits ≤ 112 ∧ sectorCrc plain x.cmeta x.seq x.typ = x.scrc then some plain else none

/-- The PSA of a sector. -/
def psaOf (d b p k : Nat) : Nat := d * 2 ^ 24 + b * 2 ^ 12 + p * 8 + k

/-- Sectors of a read with their bit counts, first sector first: position, count and content. -/
def readSectors (e : FlashEntry) (page : List FlashSector) (bits : List Nat) : List (Nat × Nat × FlashSector) :=
  (List.range (e.count.val + 1)).filterMap (fun i =>
    (page[psaSector e + i]?).map (fun x => (psaSector e + i, bits.getD i 0, x)))

/-- A READ or MREAD ends (R302, R305, R315). -/
def State.readEnd (s : State) (d : Nat) (j : FlashJob) (r : FlashResult) : State :=
  let e := j.entry
  let b := psaBlock e
  let page := KMap.get (fun _ => []) ((s.die d).block b).pages (psaPage e)
  if page.isEmpty || r.erased then s.flashPost e 3 0 e.psa.toNat [] []
  else
    let secs := readSectors e page r.bits
    let out := secs.map (fun x => (x.1, x.2.1, s.openSector (psaOf d b (psaPage e) x.1) x.2.1 x.2.2, x.2.2.cmeta))
    let badSecs := out.filter (fun x => x.2.2.1.isNone)
    let high := out.filter (fun x => x.2.2.1.isSome && decide (s.get FLS_MARGIN_REFTHR < x.2.1))
    let most := (out.filter (fun x => x.2.2.1.isSome)).foldl (fun m x => max m x.2.1) 0
    let st := if !badSecs.isEmpty then 2 else if !high.isEmpty then 1 else 0
    let s1 := (s.bump FLS_CNT0_UNCORR badSecs.length).bump FLS_CNT0_CORRHI high.length
    let s2 := high.foldl (fun t _ => t.raise 967) (badSecs.foldl (fun t _ => t.raise 966) s1)
    let first := match badSecs with
      | x :: _ => psaOf d b (psaPage e) x.1
      | [] => e.psa.toNat
    let s3 := s2.flashPost e st most first (out.flatMap (fun x => (x.2.2.1).getD [])) (out.flatMap (fun x => x.2.2.2))
    if j.op == .read && !badSecs.isEmpty then
      let s4 := s3.modBlock d b (fun k => { k with uncorr := k.uncorr + 1 })
      if 2 ≤ ((s4.die d).block b).uncorr then s4.retireBlock d b .read else s4
    else s3

/-- WUSED as one number. -/
def State.wused (s : State) : Nat := s.get FLS_WUSED_LO_WUSED + 2 ^ 32 * s.get FLS_WUSED_HI_WUSED

/-- User bytes programmed count toward WUSED; passing 80 % and 100 % of BUDGET is raised (R318). -/
def State.wear (s : State) (bytes : Nat) : State :=
  let before := s.wused * 2 ^ 20 + s.fls.rest
  let after := before + bytes
  let w := after / 2 ^ 20
  let s1 := { ((s.put FLS_WUSED_LO_WUSED (w % 2 ^ 32)).put FLS_WUSED_HI_WUSED (w / 2 ^ 32)) with
    fls := { s.fls with rest := after % 2 ^ 20 } }
  let budget := s.get FLS_WEARCFG_BUDGET * 10 ^ 12
  (s1.raiseIf (decide (before * 100 ≤ budget * 80 ∧ budget * 80 < after * 100)) 972).raiseIf
    (decide (before ≤ budget ∧ budget < after)) 973

/-- One page of a PROGRAM is stored, with the next SEQ (R300); index `i` is the page of a pair. -/
def State.storePage (s : State) (d b : Nat) (e : FlashEntry) (i : Nat) : State :=
  let seq := s.fls.seq
  let page := (List.range 8).map (fun k =>
    s.sealSector (psaOf d b (psaPage e) k) seq e.typ.val ((e.data.drop (16384 * i + 2048 * k)).take 2048)
      ((e.pmeta.drop (128 * i + 16 * k)).take 16))
  { s with fls := { s.fls with seq := (seq + 1) % 2 ^ 64 } }.modBlock d b (fun x =>
    { x with pages := KMap.set (fun _ => []) x.pages (psaPage e) page })

/-- A PROGRAM ends (R307, R310, R315, R318). -/
def State.programEnd (s : State) (d : Nat) (j : FlashJob) (r : FlashResult) : State :=
  let e := j.entry
  let bs := entryBlocks e
  let ptr (t : State) (f : Nat → Nat) : State := bs.foldl (fun u b => u.modBlock d b (fun x => { x with ptr := f x.ptr })) t
  if !r.pass then
    let s1 := (ptr s (fun _ => 512)).bump FLS_CNT1_PFAIL
    (bs.foldl (fun u b => u.retireBlock d b .program) s1).flashEnd e 4
  else
    let s1 := bs.zipIdx.foldl (fun u bi => u.storePage d bi.1 e bi.2) s
    let s2 := if bs.any (fun b => decide (4 ≤ (s1.die d).area b)) then s1.wear (16384 * bs.length) else s1
    let s3 := { s2 with fls := { s2.fls with reserve := s2.fls.reserve.filter (fun x => !(x.1 == d && bs.contains x.2)) } }
    let s4 := s3.put FLS_STAT_RESERVE s3.fls.reserve.length
    if bs.any (fun b => marginArea ((s4.die d).area b)) && decide (s.get FLS_MARGIN_MVTHR < r.margin) then
      ((bs.foldl (fun u b => u.retireBlock d b .margin) (ptr s4 (fun _ => 512))).raise 968).flashPost e 4 r.margin e.psa.toNat [] []
    else (ptr s4 (· + 1)).flashEnd e 0

/-- A block is erased (R307, R317): its pointer and counts, and its retirement at ERLIMIT. -/
def State.eraseBlock (s : State) (d b : Nat) : State :=
  let s1 := s.modBlock d b (fun x => ⟨0, x.erases + 1, 0, []⟩)
  if (s1.die d).area b = 5 ∧ s1.get FLS_WEARCFG_ERLIMIT ≤ ((s1.die d).block b).erases then
    (s1.retireBlock d b .wear).raise 974 else s1

/-- An ERASE ends (R307, R315). -/
def State.eraseEnd (s : State) (d : Nat) (j : FlashJob) (r : FlashResult) : State :=
  let bs := entryBlocks j.entry
  if r.pass then (bs.foldl (fun u b => u.eraseBlock d b) s).flashEnd j.entry 0
  else ((bs.foldl (fun u b => u.retireBlock d b .erase) s).bump FLS_CNT1_EFAIL).flashEnd j.entry 5

/-- FLASH_OPERATION_END (R305): the operation in progress on a die ends, and the die goes on. -/
def State.flashOpEnd (s : State) (d : Nat) (r : FlashResult) : State :=
  match (s.die d).run with
  | some j =>
    let s1 := s.modDie d (fun x => { x with run := none, erasing := x.erasing.map (fun k =>
      if x.suspended && j.op.isRead then { k with served := k.served + 1 } else k) })
    let s2 := match j.op with
      | .program => s1.programEnd d j r
      | _ => s1.readEnd d j r
    s2.dieStart d
  | none =>
    match (s.die d).erasing with
    | some k => if (s.die d).suspended then s else
        ((s.modDie d (fun x => { x with erasing := none })).eraseEnd d k.job r).dieStart d
    | none => s

/-- A block whose erase or program was cut has no pointer until it is erased again (R322). -/
def State.cutBlocks (s : State) (d : Nat) (j : FlashJob) : State :=
  if j.op.isRead then s
  else (entryBlocks j.entry).foldl (fun u b => u.modBlock d b (fun x => { x with ptr := 512 })) s

/-- FLASH_DIE_TIMEOUT (R306): the die is reset and every entry in progress on it ends with status 0x09. -/
def State.dieTimeout (s : State) (d : Nat) : State :=
  let x := s.die d
  let js := x.run.toList ++ (x.erasing.map EraseRun.job).toList
  if js.isEmpty then s
  else
    let s1 := s.modDie d (fun y => { y with run := none, erasing := none, suspended := false })
    let s2 := js.foldl (fun t j => (t.cutBlocks d j).flashPost j.entry 9 0 j.entry.psa.toNat [] []) s1
    (s2.raise 975).dieStart d

/-- ERASE_SUSPEND (R309). -/
def State.suspendErase (s : State) (d : Nat) : State :=
  let x := s.die d
  match x.erasing with
  | some r =>
    if !x.suspended && x.readWaits && s.is FLS_SUSP_SUSPRD && decide (r.suspends < s.get FLS_SUSP_SUSPMAX) then
      ((s.modDie d (fun y => { y with
        suspended := true, erasing := some { r with suspends := r.suspends + 1, served := 0 } })).bump FLS_CNT1_SUSPENDS).dieStart d
    else s.suspendLimit d
  | none => s

/-- ERASE_RESUME (R309): after SUSPRD reads, or with no read waiting. -/
def State.resumeErase (s : State) (d : Nat) : State :=
  let x := s.die d
  match x.erasing with
  | some r =>
    if x.suspended && x.run.isNone && (!x.readWaits || decide (s.get FLS_SUSP_SUSPRD ≤ r.served)) then
      (s.modDie d (fun y => { y with suspended := false })).suspendLimit d
    else s
  | none => s

/-- PATROL_READ (R311): a page of a patrolled area that corrects more than REFTHR bits flags its block. -/
def State.patrolRead (s : State) (d b p bits : Nat) : State :=
  let x := s.die d
  if !s.is FLS_CTL_PATROL || !marginArea (x.area b) || (KMap.get (fun _ => []) (x.block b).pages p).isEmpty
      || decide (bits ≤ s.get FLS_MARGIN_REFTHR) then s
  else
    let s1 := if s.fls.patrol.contains (d, b) then s else { s with fls := { s.fls with patrol := s.fls.patrol ++ [(d, b)] } }
    let o := s1.fls.patrol.headD (d, b)
    (((s1.putb FLS_PATROL_VALID true).put FLS_PATROL_DIE o.1).put FLS_PATROL_BLOCK o.2).raise 982

/-- VFLASH_BAND_CHANGE (R319, R320). -/
def State.bandChange (s : State) (b : FlashBand) : State :=
  let v := match b with
    | .band0 => 0
    | .band1 => 1
    | .low => 2
  let s1 := (s.put FLS_STAT_BAND v).raiseIf (v == 2 && s.get FLS_STAT_BAND != 2) 978
  (s1.dieStart 0).dieStart 1

/-- The required reserve (R321). -/
def State.reserveNeed (s : State) : Nat := 2 * (ceilDiv (clampNat 1 256 (s.get SQR_WIN_WIN)) 16 + 1)

/-- Good blocks of the journal pool, over both dies. -/
def State.goodJournal (s : State) : Nat :=
  ((List.range 3804).filter (fun i => !s.fls.die0.bad (i + 292) && s.fls.die0.area (i + 292) == 5)).length
  + ((List.range 3804).filter (fun i => !s.fls.die1.bad (i + 292) && s.fls.die1.area (i + 292) == 5)).length

/-- RESERVE_ERASE (R321): a block pair of the journal pool is erased ahead of need. Where good blocks are wanting,
DEGRADED is set and source 971 raised. -/
def State.reserveErase (s : State) (d b : Nat) (ok : Bool) : State :=
  let x := s.die d
  let pair := [b - b % 2, b - b % 2 + 1]
  let s0 := s.put FLS_STAT_RESREQ s.reserveNeed
  let s1 := if s.reserveNeed ≤ s.fls.reserve.length || pair.any (fun k => x.bad k || x.area k != 5 || s.fls.reserve.contains (d, k))
      || s.get FLS_STAT_BAND == 2 || s.is FLS_STAT_COMMIT then s0
    else if ok then
      let t := pair.foldl (fun u k => u.eraseBlock d k) s0
      { t with fls := { t.fls with reserve := t.fls.reserve ++ (pair.filter (fun k => !(t.die d).bad k)).map (fun k => (d, k)) } }
    else (pair.foldl (fun u k => u.retireBlock d k .erase) ((s0.bump FLS_CNT1_EFAIL).raise 965))
  let short := decide (s1.fls.reserve.length < s1.reserveNeed) && decide (s1.goodJournal < s1.reserveNeed)
  ((s1.put FLS_STAT_RESERVE s1.fls.reserve.length).putb FLS_STAT_DEGRADED short).raiseIf (short && !s.is FLS_STAT_DEGRADED) 971

/-- The flash store at the power-loss signal or a PORST_N commit (R322): a running erase is abandoned and its block left
unusable, queued entries of rings 0 to 14 end with status 0x0A, and only ring 15 is served. -/
def State.flashCommit (s : State) : State :=
  let abandon (t : State) (d : Nat) : State :=
    let x := t.die d
    let t1 := match x.erasing with
      | some r => ((t.modDie d (fun y => { y with erasing := none, suspended := false })).cutBlocks d r.job).flashEnd r.job.entry 10
      | none => t
    let gone := x.queue.filter (fun j => j.entry.ring.val != 15)
    gone.foldl (fun u j => u.flashEnd j.entry 10) (t1.modDie d (fun y => { y with queue := y.queue.filter (fun j => j.entry.ring.val == 15) }))
  (abandon (abandon s 0) 1).putb FLS_STAT_COMMIT true

end Sys2Proof.Machine
end

