-- ==== Sys2Proof/Machine/RegisterBus.lean ====
section
/-! DEFINITION. Reading and writing registers (spec 00, R16 to R27): the values that the device computes for a read, the
effect of a read and of a write by access code, the shadows of multi-word values, and bad accesses. -/

namespace Sys2Proof.Machine

/-! ### Values that a read shows and no write stores -/

/-- Journal-pool erase counts of a die (Table 10-9). -/
def FlashDie.eraseCounts (d : FlashDie) : List Nat :=
  ((List.range 3804).filter (fun i => d.area (i + 292) == 5)).map (fun i => (d.block (i + 292)).erases)

/-- PWR_STATE.STATE (Table 20-1): a state that service may have left shows whether an operation is open on an Avenue, and
Idle when there is none, no command is in flight (a parked one, which waits for an event, apart) and the spindle is READY. -/
def State.powerState (s : State) : Nat :=
  let st := s.get PWR_STATE_STATE
  let served := st == 1 || st == 2 || (st == 3 && s.get SPN_TARGET_TARGET != 0)
  if !served then st
  else if s.av.any (fun a => a.seq.op.isSome) then 1
  else if s.rbt.cmds.all (fun c => c.phase == .parked) && s.is SPN_STAT_READY then 2
  else 1

/-- PWR_START.STEP (Table 20-3): once the functions are ready, step 9 until the spindle is enabled, 10 until it is READY, and
then 11. -/
def State.startStep (s : State) : Nat :=
  let k := s.get PWR_START_STEP
  if k = 9 then (if !s.is SPN_CTL_EN then 9 else if !s.is SPN_STAT_READY then 10 else 11) else k

/-- The fields of the word at an address that the device computes when the word is read. -/
def State.views (s : State) (a : Nat) : List (Fld × Nat) :=
  let b (x : Bool) : Nat := if x then 1 else 0
  if a = TIM_NOW_LO then [(TIM_NOW_LO_NOW, s.time)]
  else if a = TIM_NOW_HI then [(TIM_NOW_HI_NOW, s.time / 2 ^ 32)]
  else if a = PWR_VREQ then
    [(PWR_VREQ_BADTHR, b (!decide (s.get PWR_AVSTHR_CRIT < s.get PWR_AVSTHR_WARN ∧ s.get PWR_AVSTHR_WARN < s.get PWR_AVSTHR_LOW
        ∧ s.get PWR_AVSTHR_LOW < s.get PWR_AVSTHR_HIGH))),
      (PWR_VREQ_HOLD, b (s.pace.wait.any Option.isSome))]
  else if a = AV0_RDECSTAT then
    [(AV0_RDECSTAT_QDEPTH, s.rdec.queue.length), (AV0_RDECSTAT_UQ, (s.rdec.queue.filter (fun j => j.cls == 2)).length),
      (AV0_RDECSTAT_BUSY, b s.rdec.run0.isSome + 2 * b s.rdec.run1.isSome)]
  else if a = SQR_FREE then [(SQR_FREE_FREE, s.freePages)]
  else if a = SQR_WINSTAT then [(SQR_WINSTAT_HELD, b (!s.sqr.held.isEmpty)), (SQR_WINSTAT_DIRTY, s.dirtyPages)]
  else if a = SQR_GSTAT then [(SQR_GSTAT_OPEN, s.openGroups.length)]
  else if 0x401000 ≤ a ∧ a < 0x401400 then
    let k := (a - 0x401000) / 4
    let l := s.lock k
    [(SQR_LOCKSTAT_HELD k, b (l.owner != 0)), (SQR_LOCKSTAT_ORPHANED k, b l.orphaned), (SQR_LOCKSTAT_LAST k, l.last),
      (SQR_LOCKSTAT_OWNER k, l.owner)]
  else if a = FLS_STAT then [(FLS_STAT_IDLE, b s.fls.idle), (FLS_STAT_RESREQ, s.reserveNeed)]
  else if a = FLS_ECNT then
    let cs := s.fls.die0.eraseCounts ++ s.fls.die1.eraseCounts
    [(FLS_ECNT_MAX, min 0xFFFF (cs.foldl max 0)), (FLS_ECNT_MIN, cs.foldl min 0xFFFF)]
  else if a = SQR_REDSTAT then
    let n (f : Nat → Fld) : Nat := ((List.range 64).filter (fun r => s.is (f r))).length
    [(SQR_REDSTAT_NDEG, n SQR_REGION1_DEG), (SQR_REDSTAT_NSYNC, n SQR_REGION1_RSY), (SQR_REDSTAT_NRESH, n SQR_REGION1_RSH),
      (SQR_REDSTAT_NSUSP, n SQR_REGION1_SUSPECT)]
  else if a = RBT_TAGSTAT then
    [(RBT_TAGSTAT_HOLD, b (decide (s.freeTags ≤ 256))), (RBT_TAGSTAT_FREE, s.freeTags),
      (RBT_TAGSTAT_URGENT, (s.rbt.cmds.filter (fun c => c.cls != 0)).length)]
  else if a = RBT_ACT then [(RBT_ACT_INFLIGHT, min 0xFFFF s.rbt.cmds.length)]
  else if 0x300020 ≤ a ∧ a < 0x300030 then
    let k := (a - 0x300020) / 4
    let q := (s.av.get ⟨k % 4, Nat.mod_lt _ (by decide)⟩).seq
    [(RBT_AVWIN_OPS k, q.winUrgent + q.winOther), (RBT_AVWIN_URG k, min 31 (q.winUrgent + q.winOther - 496))]
  else if a = ARC_STAT then
    [(ARC_STAT_ACTIVE, s.arc.runs.length), (ARC_STAT_PERSIST, s.arc.persist.length),
      (ARC_STAT_WAITING, min 0x7FFF (s.rbt.cmds.filter (fun c => c.phase == .waitCtx)).length)]
  else if a = PWR_STATE then [(PWR_STATE_STATE, s.powerState)]
  else if a = PWR_START then [(PWR_START_STEP, s.startStep)]
  else if a = PIN_GPIOIN then
    (List.range 8).map (fun k => (⟨PIN_GPIOIN, k, 1⟩,
      if s.is (PIN_GPIOCFG_DIR k) && !(s.is (PIN_GPIOCFG_OD k) && s.is (PIN_GPIOCFG_OUT k)) then s.get (PIN_GPIOCFG_OUT k)
      else bitsOf s.pins.gpio k 1))
  else []

/-- The word that the register at an address shows, with no side effect: also what a capture read returns (R520). -/
def State.peek (s : State) (a : Nat) : Word :=
  BitVec.ofNat 32 ((s.views a).foldl (fun w v => setBits w v.1.lo v.1.wid v.2) (s.rd a).toNat)

/-! ### Reading (R20, R21, R25) -/

/-- The RC fields of a register are cleared, and what the device added to them in the same moment is applied after. -/
def clearRc (a : Nat) (changes : List FieldChange) (fs : List FieldSpec) (s : State) : State :=
  fs.foldl (fun t f =>
    if f.acc = .rc then
      t.put ⟨a, f.lo, f.wid⟩ (min (2 ^ f.wid - 1) (((changes.filter (fun c => c.lo == f.lo)).map FieldChange.amount).sum))
    else t) s

/-- The upper words of the multi-word value whose lower word stands at an address (R25). -/
def upperWords (a : Nat) : List Nat :=
  if a = TIM_NOW_LO ∨ a = TIM_LOAD_LO ∨ a = FLS_WUSED_LO ∨ a = CPU_ECCADDR_LO ∨ a = REC_TRBASE_LO then [a + 4]
  else if 0x501000 ≤ a ∧ a < 0x502000 ∧ (a % 0x40 = 4 ∨ a % 0x40 = 0x20) then [a + 4]
  else []

/-- The address holds an upper word. -/
def isUpper (a : Nat) : Bool := decide (4 ≤ a) && !(upperWords (a - 4)).isEmpty

/-- A read of the register at a mapped address by any requester: an upper word comes from the shadow, a lower word captures
the upper ones, and RC fields are cleared. -/
def State.readReg (s : State) (a : Nat) (changes : List FieldChange := []) : Word × State :=
  match regAt a with
  | none => (0, s)
  | some (_, r) =>
    let w := if isUpper a then KMap.get (fun _ => 0) s.bus.shadow a else s.peek a
    let sh := (upperWords a).foldl (fun m u => KMap.set (fun _ => 0) m u (s.peek u)) s.bus.shadow
    (w, clearRc a changes r.fields { s with bus := { s.bus with shadow := sh } })

/-! ### Bad accesses (R27) -/

/-- A bad access is counted, and captured while VALID = 0. -/
def State.badAccess (s : State) (cause : Nat) (bar write : Bool) (addr : Nat) : State :=
  let s1 := s.bump SYS_BADCNT_COUNT
  if s1.is SYS_BADACC_VALID then s1
  else (((((s1.putb SYS_BADACC_VALID true).putb SYS_BADACC_BAROFS bar).put SYS_BADACC_CAUSE cause).putb SYS_BADACC_WRITE write).put
    SYS_BADACC_ADDR addr)

/-! ### Writing (R20 to R24, R46) -/

/-- Fields that a command of their own writes (the rows of the table that name such a write), and HST_FN[0].EN, which is RO 1
(Table 12-11): a plain write leaves them. -/
def rowFields (a : Nat) : List Fld :=
  let per (n : Nat) : List Fld := [AV_TLCTL_EN n, AV_SEQCTL_RUN n, AV_SEQCTL_HOLD n, SVO_CTL_EN n]
  ((List.range 4).flatMap per ++ [SPN_CTL_EN, SPN_TARGET_TARGET, FLT_FNSTAT_ACTIVE, REC_CURSOR_SEQ, REC_FCURSOR_INDEX]
    ++ (List.range 64).map DMA_CHTAIL_TAIL ++ (List.range 6).flatMap (fun k => [CPU_L1CFG_IWAYS k, CPU_L1CFG_DWAYS k])
    ++ (List.range 13).map CPU_LFSR_STATE ++ [HST_FN_EN 0]).filter (fun f => f.addr == a)

/-- Fields of which a command of its own sets the bit (SWINH) or clears it (a channel's EN): a plain write does the other. -/
def clearOnly (a : Nat) : List Fld := ((List.range 4).map AV_WINHCTL_SWINH).filter (fun f => f.addr == a)
def setOnly (a : Nat) : List Fld := ((List.range 64).map DMA_CHCFG_EN).filter (fun f => f.addr == a)

/-- What a write of `v` gives one field that holds `old`, while the block's LOCK bit is `locked`. -/
def writeField (acc : Access) (locked : Bool) (old v wid : Nat) : Nat :=
  match acc with
  | .rw => v
  | .rwl => if locked then old else v
  | .w1c => old &&& (2 ^ wid - 1 - v % 2 ^ wid)
  | .w1s => old ||| v
  | .ro | .wo | .rc => old

/-- The block's LOCK bit for a register (R22). -/
def lockedNow (s : State) (base : Nat) (r : RegSpec) : Bool :=
  match r.lock with
  | some o => s.is ⟨base + o, 31, 1⟩
  | none => false

/-- The word that a register holds after a write of `v`, by its fields' access codes. -/
def writtenWord (s : State) (base a : Nat) (r : RegSpec) (v : Nat) : Nat :=
  let locked := lockedNow s base r
  let old := (s.rd a).toNat
  let w := r.fields.foldl (fun x f => setBits x f.lo f.wid (writeField f.acc locked (bitsOf old f.lo f.wid) (bitsOf v f.lo f.wid) f.wid)) old
  let w1 := (rowFields a).foldl (fun x f => setBits x f.lo f.wid (bitsOf old f.lo f.wid)) w
  let w2 := (clearOnly a).foldl (fun x f => setBits x f.lo f.wid (bitsOf old f.lo f.wid &&& bitsOf v f.lo f.wid)) w1
  (setOnly a).foldl (fun x f => setBits x f.lo f.wid (bitsOf old f.lo f.wid ||| bitsOf v f.lo f.wid)) w2

/-- MINCODE and MAXCODE take the limits 70 and 350 (R46). -/
def codeLimits (s : State) : State :=
  (s.put PWR_AVSLIM_MINCODE (clampNat 70 350 (s.get PWR_AVSLIM_MINCODE))).put PWR_AVSLIM_MAXCODE
    (clampNat 70 350 (s.get PWR_AVSLIM_MAXCODE))

/-- A cleared PATROL.VALID shows the next block that awaits refresh (R311). -/
def patrolNext (s : State) : State :=
  if s.is FLS_PATROL_VALID then s
  else
    let rest := s.fls.patrol.drop 1
    let s1 := { s with fls := { s.fls with patrol := rest } }
    match rest.head? with
    | some o => ((s1.putb FLS_PATROL_VALID true).put FLS_PATROL_DIE o.1).put FLS_PATROL_BLOCK o.2
    | none => s1

/-- What the device does at once on a write besides storing it: the limits of R46, the next patrolled block (R311), the
clocks of the trace port and of SPIN_CMD (R34), and a channel that is enabled and leaves the stopped state (R468). -/
def writeHook (a : Nat) (v : Nat) (s : State) : State :=
  if a = PWR_AVSLIM then codeLimits s
  else if a = FLS_PATROL ∧ bitsOf v 31 1 = 1 then patrolNext s
  else if a = REC_TRCFG then s.expect [34] (s.is REC_TRCFG_PORT)
  else if a = SPN_CEIL then s.expect [35] (s.is SPN_CEIL_MODE)
  else if (setOnly a).any (fun f => bitsOf v f.lo 1 == 1) then
    let c := (a - 0x501000) / 0x40
    if s.get (DMA_CHSTAT_STATE c) = 3 then
      s.put (DMA_CHSTAT_STATE c) (if s.get (DMA_CHHEAD_HEAD c) = s.get (DMA_CHTAIL_TAIL c) then 0 else 1) else s
  else s

/-- Blocks of reader `r` of Avenue `n` that a write of the register at `a` tags INVALID (R98, Table 3-3), from the states
before and after: 2 for a VGA step, 4 for a change of cutoff or boost. -/
def analogueBlocks (a : Nat) (old s : State) (n : Fin 4) (r : Fin 2) : Nat :=
  if a = AV_AFEGAIN n r.val then (if s.get (AV_AFEGAIN_VGA n r.val) = old.get (AV_AFEGAIN_VGA n r.val) then 0 else 2)
  else if a = AV_AFECTF n r.val then (if s.rd a = old.rd a then 0 else 4)
  else 0

/-- The spans that follow a register write of the analogue settings of one reader. -/
def analogueSpan (a : Nat) (old s : State) (nr : Fin 4 × Fin 2) : State :=
  match analogueBlocks a old s nr.1 nr.2 with
  | 0 => s
  | k => s.span nr.1 nr.2 k

/-- The readers of every Avenue. -/
def allReaders : List (Fin 4 × Fin 2) := all4.flatMap (fun n => [(n, 0), (n, 1)])

/-- What a register write of the analogue settings (R98) or of what cause 0 and cause 7 depend on (R150: the shock masks, the
timing head's index) does besides storing it: the spans of Table 3-3, and the effect of a cause that the write brings. -/
def avenueHook (a : Nat) (old s : State) : State :=
  let s1 := allReaders.foldl (analogueSpan a old) s
  all4.foldl (fun (t : State) (n : Fin 4) =>
    if a = AV_WINHCTL n ∧ t.cause0 n = true ∧ old.cause0 n = false then (t.raise (avSrc n 65)).inhibit n 0
    else if a = AV_HMAP n ∧ 128 ≤ t.causes n ∧ old.causes n < 128 then t.inhibit n 7
    else t) s1

/-- A register whose fields take no write now: all RO, or FLT_INJ outside MANUFACTURE and RMA (R518). -/
def allRo (s : State) (a : Nat) (r : RegSpec) : Bool :=
  r.fields.all (fun f => decide (f.acc = .ro)) || (a == FLT_INJ && s.get TGT_STAT_LIFE != 0 && s.get TGT_STAT_LIFE != 3)

/-- The written value differs from a locked RWL field (R22). -/
def lockedDiffers (s : State) (base a : Nat) (r : RegSpec) (v : Nat) : Bool :=
  lockedNow s base r && r.fields.any (fun f => decide (f.acc = .rwl) && !(a == HST_FN 0 && f.lo == 31) && bitsOf (s.rd a).toNat f.lo f.wid != bitsOf v f.lo f.wid)

/-- A write of a whole word to the register at a mapped address by any requester. -/
def State.writeReg (s : State) (a : Nat) (v : Word) : State :=
  match regAt a with
  | none => s
  | some (base, r) =>
    if allRo s a r then s.badAccess 3 false true a
    else
      let s1 := s.wr a (BitVec.ofNat 32 (writtenWord s base a r v.toNat))
      let s2 := if lockedDiffers s base a r v.toNat then s1.badAccess 4 false true a else s1
      avenueHook a s (writeHook a v.toNat s2)

/-! ### Accesses (R17 to R19) -/

/-- Where an access goes: nowhere, to SETUP_PAGE, to the register at a device address, or a bad access with its cause,
BAROFS and address. -/
inductive Target where
  | closed
  | page
  | reg (a : Nat)
  | bad (cause : Nat) (bar : Bool) (addr : Nat)
  deriving DecidableEq, Repr

/-- Where an access goes. SQR_LOCKOP is not reachable through the window (9.7). -/
def State.accessTarget (s : State) (acc : BusAccess) : Target :=
  match acc with
  | .internal a => if (regAt a).isSome ∧ a % 4 = 0 then .reg a else .bad 1 false a
  | .window off width en =>
    if !s.bus.winOpen then .closed
    else
      let inWin := decide (off < 0x400000)
      let dev := s.bus.page * 0x400000 + off
      if width ≠ 4 ∨ off % 4 ≠ 0 ∨ en ≠ 15 then .bad 2 (!inWin) (if inWin then dev else off % 2 ^ 25)
      else if inWin then
        if (regAt dev).isSome ∧ ¬ (0x402000 ≤ dev ∧ dev < 0x402400) then .reg dev else .bad 1 false dev
      else if off = 0x400000 then .page
      else .bad 1 true (off % 2 ^ 25)

/-- The vendor region of the Avenues' stores (R187): it reads as 0 through the window. -/
def vendorWord (acc : BusAccess) (a : Nat) : Bool :=
  match acc with
  | .internal _ => false
  | .window _ _ _ =>
    let o := a % 0x100000
    decide (0x1000000 ≤ a ∧ a < 0x1400000) && (decide (0x50000 ≤ o ∧ o < 0x50000 + 3072 * 8)
      || decide (0x60000 ≤ o ∧ o < 0x60000 + 768 * 16))

/-- The word that an access returned. -/
def State.returned (s : State) (w : Word) : State := { s with bus := { s.bus with rdata := w } }

/-- A read access. -/
def readAccess (acc : BusAccess) (changes : List FieldChange) (s : State) : State :=
  match s.accessTarget acc with
  | .closed => s.returned 0
  | .page => s.returned (BitVec.ofNat 32 (2 ^ 31 + s.bus.page))
  | .bad c b a => (s.badAccess c b false a).returned 0
  | .reg a =>
    let r := s.readReg a changes
    r.2.returned (if vendorWord acc a then 0 else r.1)

/-- A write access. -/
def writeAccess (acc : BusAccess) (v : Word) (s : State) : State :=
  match s.accessTarget acc with
  | .closed => s
  | .page => { s with bus := { s.bus with page := v.toNat % 8 } }
  | .bad c b a => s.badAccess c b true a
  | .reg a => s.writeReg a v

/-! ### The commands of chapter 00 and of R42 -/

/-- REGISTER_WRITE (R20, R22 to R24, R27). -/
def execRegisterWrite (acc : BusAccess) (value : Word) (s : State) : Host.Outcome State Fault Refusal :=
  .next (writeAccess acc value s)

/-- READ_CLEAR_ACCESS (R20, R21). -/
def execReadClearAccess (acc : BusAccess) (changes : List FieldChange) (s : State) : Host.Outcome State Fault Refusal :=
  .next (readAccess acc changes s)

/-- LOWER_WORD_CAPTURE_READ (R25). -/
def execLowerWordCaptureRead (acc : BusAccess) (s : State) : Host.Outcome State Fault Refusal := .next (readAccess acc [] s)

/-- TIM_FENCE_READ (R42): commands are taken one by one, so every earlier write of the window has taken effect, and the read
returns 1; through the closed window it returns 0 (R18). -/
def timFenceRead (window : Bool) (s : State) : State :=
  if window && !s.bus.winOpen then s.returned 0 else s.returned (s.readReg TIM_FENCE).1

/-- TIM_FENCE_READ. -/
def execTimFenceRead (window : Bool) (s : State) : Host.Outcome State Fault Refusal := .next (timFenceRead window s)

end Sys2Proof.Machine
end

