-- ==== Sys2Proof/Machine/DmaOps.lean ====
section
/-! DEFINITION. Shared operations of the DMA engine (spec 16): the DMA address space, reads and writes of its regions,
descriptors and their checks, halts, write-backs, and the copy through the holding register. -/

namespace Sys2Proof.Machine

/-! ### The address space (R463, Table 16-1) -/

/-- Regions of Table 16-1. -/
inductive DmaRegion where
  | dram | reg | scratch
  deriving DecidableEq, Repr

/-- The region in which `n` bytes at a DMA address lie wholly. -/
def State.dmaRegion (s : State) (a n : Nat) : Option DmaRegion :=
  if a + n ≤ s.fwBytes + s.descBytes + 4096 * s.get SQR_STAT_NPAGES then some .dram
  else if 0x1000000000 ≤ a ∧ a + n ≤ 0x1002000000 then some .reg
  else if 0x2000000000 ≤ a ∧ a + n ≤ 0x2000100000 then some .scratch
  else none

/-- The region that an address belongs to by Table 16-1 alone. -/
def regionOf (a : Nat) : Option DmaRegion :=
  if a < 0x400000000 then some .dram
  else if 0x1000000000 ≤ a ∧ a < 0x1002000000 then some .reg
  else if 0x2000000000 ≤ a ∧ a < 0x2000100000 then some .scratch
  else none

/-- The 32 bytes of a page's descriptor (Table 9-1). -/
def descriptorBytes (g : Page) : List Byte :=
  let st := match g.st with
    | .free => 0 | .fill => 1 | .clean => 2 | .dirty => 3 | .destage => 4 | .retired => 5
  let b (x : Bool) (k : Nat) : Nat := if x then 2 ^ k else 0
  let w0 := st * 2 ^ 28 + b g.j 27 + b g.g 26 + b g.ref 25 + b g.prot 24 + b g.key.ten.isSome 23
    + ((g.key.ten.map Fin.val).getD 0) * 2 ^ 16 + (g.key.ns % 1024) * 2 ^ 6 + g.pins % 64
  leBytes 4 w0 ++ leBytes 6 g.key.lba ++ leBytes 1 g.epoch ++ [0] ++ leBytes 4 g.ecrc.toNat
    ++ (List.range 16).map (fun i => g.pmeta.getD i 0)

/-- A byte of the buffer space (R261). -/
def State.dramByte (s : State) (a : Nat) : Byte :=
  if a < s.fwBytes then KMap.get blankByte s.mem.fw a
  else if a < s.fwBytes + s.descBytes then
    let o := a - s.fwBytes
    if o / 32 < s.get SQR_STAT_NPAGES then (descriptorBytes (s.page (o / 32))).getD (o % 32) 0 else 0
  else
    let o := a - s.fwBytes - s.descBytes
    (s.page (o / 4096)).data.getD (o % 4096) 0

/-- An uncorrectable word lies among `n` bytes at a DMA address (R488). -/
def State.dmaBad (s : State) (a n : Nat) : Bool :=
  match s.dmaRegion a n with
  | some .dram => s.mem.fwBad.any (fun w => decide (8 * w < a + n ∧ a < 8 * w + 8))
  | some .scratch => s.mem.scratchBad.any (fun w => decide (8 * w < a - 0x2000000000 + n ∧ a - 0x2000000000 < 8 * w + 8))
  | _ => false

/-- A register that the DMA engine may reach (Table 16-1): SQR_LOCKOP and the Tollgate's key units are refused. -/
def dmaMayReach (r : Nat) : Bool := (regAt r).isSome && r % 4 == 0 && !decide (0x402000 ≤ r ∧ r < 0x402400)

/-- A read of `n` bytes at a DMA address: none where it is refused (cause 5). -/
def State.dmaRead (s : State) (a n : Nat) : Option (List Byte × State) :=
  match s.dmaRegion a n with
  | none => none
  | some .dram => some ((List.range n).map (fun i => s.dramByte (a + i)), s)
  | some .scratch => some ((List.range n).map (fun i => KMap.get blankByte s.mem.scratch (a - 0x2000000000 + i)), s)
  | some .reg =>
    if n = 4 && dmaMayReach (a - 0x1000000000) then
      let r := s.readReg (a - 0x1000000000)
      some (leBytes 4 r.1.toNat, r.2)
    else none

/-- The bad words that a write of `n` bytes leaves: one that it covers whole is replaced (R488). -/
def healed (bad : List Nat) (a n : Nat) : List Nat := bad.filter (fun w => !decide (a ≤ 8 * w ∧ 8 * w + 8 ≤ a + n))

/-- A narrow write would meet a bad word (R485). -/
def narrowOnBad (bad : List Nat) (a n : Nat) : Bool :=
  bad.any (fun w => decide (8 * w < a + n ∧ a < 8 * w + 8) && !decide (a ≤ 8 * w ∧ 8 * w + 8 ≤ a + n))

/-- A byte map with bytes stored from an offset on. -/
def storeBytes (m : KMap Byte) (a : Nat) (bs : List Byte) : KMap Byte :=
  bs.zipIdx.foldl (fun x b => KMap.set blankByte x (a + b.2) b.1) m

/-- How a write of bytes at a DMA address ends: refused (cause 5), not acknowledged as done (cause 7), or done. -/
inductive DmaPut where
  | refused
  | failed
  | done (s : State)

/-- A write of bytes at a DMA address. Only the Square writes descriptors (R262). -/
def State.dmaWrite (s : State) (a : Nat) (bs : List Byte) : DmaPut :=
  match s.dmaRegion a bs.length with
  | none => .refused
  | some .dram =>
    if a + bs.length ≤ s.fwBytes then
      if narrowOnBad s.mem.fwBad a bs.length then .failed
      else .done { s with mem := { s.mem with
        fw := storeBytes s.mem.fw a bs, fwBad := healed s.mem.fwBad a bs.length } }
    else if a < s.fwBytes + s.descBytes then .failed
    else
      let o := a - s.fwBytes - s.descBytes
      .done (bs.zipIdx.foldl (fun t b =>
        t.modPage ((o + b.2) / 4096) (fun g => { g with
          data := (g.data ++ List.replicate (4096 - g.data.length) 0).set ((o + b.2) % 4096) b.1 })) s)
  | some .scratch =>
    let o := a - 0x2000000000
    if narrowOnBad s.mem.scratchBad o bs.length then .failed
    else .done { s with mem := { s.mem with
      scratch := storeBytes s.mem.scratch o bs, scratchBad := healed s.mem.scratchBad o bs.length } }
  | some .reg =>
    if bs.length = 4 && dmaMayReach (a - 0x1000000000) then
      .done (s.writeReg (a - 0x1000000000) (BitVec.ofNat 32 (ofLe bs)))
    else .refused

/-! ### Channels and descriptors (R464, R465) -/

/-- A channel not listed: nothing started. -/
def idleChannel : Channel := ⟨[], [], false⟩

/-- Channel `c`, and the state with it changed. -/
def State.chan (s : State) (c : Nat) : Channel := KMap.get (fun _ => idleChannel) s.dma c
def State.modChan (s : State) (c : Nat) (f : Channel → Channel) : State :=
  { s with dma := KMap.set (fun _ => idleChannel) s.dma c (f (s.chan c)) }

/-- Descriptors in the ring: 2^SIZE, SIZE from 1 to 10 (R464). -/
def State.ringLen (s : State) (c : Nat) : Nat := 2 ^ clampNat 1 10 (s.get (DMA_CHCFG_SIZE c))

/-- CHBASE. -/
def State.ringBase (s : State) (c : Nat) : Nat := 32 * s.get (DMA_CHBASE_LO_BASE c) + 2 ^ 32 * s.get (DMA_CHBASE_HI_BASE c)

/-- The DMA address of descriptor `i`. -/
def State.descAddr (s : State) (c i : Nat) : Nat := s.ringBase c + 32 * i

/-- The ring index of the descriptor that starts next: HEAD and those started after it. -/
def State.nextIndex (s : State) (c : Nat) : Nat :=
  (s.get (DMA_CHHEAD_HEAD c) + (s.chan c).runs.length) % s.ringLen c

/-- The words of 32 bytes. -/
def wordsOf (bs : List Byte) : List Word := (List.range (bs.length / 4)).map (fun i => BitVec.ofNat 32 (ofLe ((bs.drop (4 * i)).take 4)))

/-- Word `i` of a descriptor as a number. -/
def dw (d : List Word) (i : Nat) : Nat := (d.getD i 0).toNat

/-- Fields of Table 16-2. -/
def dType (d : List Word) : Nat := bitsOf (dw d 0) 28 3
def dFence (d : List Word) : Bool := bitsOf (dw d 0) 26 1 == 1
def dIrq (d : List Word) : Bool := bitsOf (dw d 0) 27 1 == 1
def dSrcWidth (d : List Word) : Nat := 2 ^ bitsOf (dw d 0) 24 2
def dDstWidth (d : List Word) : Nat := 2 ^ bitsOf (dw d 0) 22 2
def dSrcFixed (d : List Word) : Bool := bitsOf (dw d 0) 21 1 == 1
def dDstFixed (d : List Word) : Bool := bitsOf (dw d 0) 20 1 == 1
def dLength (d : List Word) : Nat := bitsOf (dw d 1) 0 24
def dSrc (d : List Word) : Nat := dw d 2 + 2 ^ 32 * bitsOf (dw d 3) 0 8
def dDst (d : List Word) : Nat := dw d 4 + 2 ^ 32 * bitsOf (dw d 5) 0 8
def dLock (d : List Word) : Nat := bitsOf (dw d 1) 0 8
def dRelease (d : List Word) : Bool := bitsOf (dw d 1) 8 1 == 1
def dRing (d : List Word) : Nat := bitsOf (dw d 1) 0 4

/-- The operation code of a flash entry, where it is valid (Table 10-4). -/
def dFlashOp (d : List Word) : Option FlashOp :=
  match bitsOf (dw d 2) 28 4 with
  | 1 => some .read
  | 2 => some .program
  | 3 => some .erase
  | 4 => some .mread
  | _ => none

/-- The reserved fields of a descriptor hold 0 for its TYPE (R466). -/
def reservedZero (d : List Word) : Bool :=
  let z (i lo wid : Nat) : Bool := bitsOf (dw d i) lo wid == 0
  z 0 0 20 && (match dType d with
    | 0 => z 3 8 24 && z 5 8 24 && z 6 0 32 && z 7 0 32
    | 1 => z 0 24 2 && z 0 21 1 && z 2 0 32 && z 3 0 32 && z 5 8 24 && z 7 0 32
    | 2 => z 0 20 6 && z 1 4 4
    | _ => z 0 20 6 && z 1 9 7 && [2, 3, 4, 5, 6, 7].all (fun i => z i 0 32))

/-- The checks of R466 on a descriptor of channel `c`. -/
def State.descValid (s : State) (c : Nat) (d : List Word) : Bool :=
  let len := dLength d
  let regOk (a w : Nat) : Bool := regionOf a != some .reg || (w == 4 && a % 4 == 0 && len % 4 == 0)
  decide (dType d ≤ 3) && reservedZero d && (match dType d with
    | 0 => len != 0 && len % max (dSrcWidth d) (dDstWidth d) == 0 && dSrc d % dSrcWidth d == 0 && dDst d % dDstWidth d == 0
        && regOk (dSrc d) (dSrcWidth d) && regOk (dDst d) (dDstWidth d)
    | 1 => len != 0 && dDst d % dDstWidth d == 0 && regOk (dDst d) (dDstWidth d)
    | 2 => decide (dRing d ≤ 14) && bitsOf (s.get (DMA_CHCFG_FRMASK c)) (dRing d) 1 == 1 && (dFlashOp d).isSome
    | _ => dRelease d == ((s.lock (dLock d)).owner == 0x40 + c))

/-! ### Status, interrupts and halts (R468, R472, R473) -/

/-- STATE follows the ring: idle when nothing is left, stopped when a stop was asked for and no descriptor is in progress. -/
def State.chanState (s : State) (c : Nat) : State :=
  let ch := s.chan c
  let st := s.get (DMA_CHSTAT_STATE c)
  let s1 := s.put (DMA_CHSTAT_FLIGHT c)
    ((ch.runs.filter (fun r => match r.wait with
      | .flash _ => true
      | _ => false)).length + ch.drops.length)
  if st = 2 ∨ st = 3 then s1
  else if ch.stopping && ch.runs.isEmpty then (s1.modChan c (fun x => { x with stopping := false })).put (DMA_CHSTAT_STATE c) 3
  else s1.put (DMA_CHSTAT_STATE c) (if s.get (DMA_CHHEAD_HEAD c) = s.get (DMA_CHTAIL_TAIL c) then 0 else 1)

/-- The pending bit of a channel. -/
def dmaPending (c : Nat) : Fld := if c < 32 then ⟨DMA_IRQ0, c, 1⟩ else ⟨DMA_IRQ1, c - 32, 1⟩

/-- The completion signal of a control core is level-held while a pending bit routed to it is 1 (R472). -/
def State.dmaSignals (s : State) (k : Nat) : Bool :=
  (List.range 64).any (fun c => s.is (dmaPending c) && (let r := s.get (DMA_CHCFG_CORE c); if r < 6 then r == k else k == 0))

/-- A halt (R473): cause, address and bytes written are captured, and source 300 + c is raised. -/
def State.dmaHalt (s : State) (c cause index addr bytes : Nat) : State :=
  let s1 := (((s.putb (DMA_CHERR0_VALID c) true).put (DMA_CHERR0_CAUSE c) cause).put (DMA_CHERR0_INDEX c) index)
  let s2 := ((s1.put (DMA_CHERR1_ADDR c) (addr % 2 ^ 32)).put (DMA_CHERR2_ADDR c) (addr / 2 ^ 32)).put (DMA_CHERR3_BYTES c) bytes
  ((s2.put (DMA_CHSTAT_STATE c) 2).putb (dmaPending c) true).raise (300 + c)

/-- The descriptor that a channel may start now (R468): the channel runs, the ring is not exhausted, no started descriptor
holds a fence, no lock is awaited, and no stop was asked for. -/
def State.mayStart (s : State) (c : Nat) : Bool :=
  let ch := s.chan c
  s.is DMA_CTL_EN && s.is (DMA_CHCFG_EN c) && decide (s.get (DMA_CHSTAT_STATE c) ≤ 1) && !ch.stopping
    && s.nextIndex c != s.get (DMA_CHTAIL_TAIL c)
    && ch.runs.all (fun r => !dFence r.words && (match r.wait with
      | .busy => false
      | .granted (some _) => false
      | _ => true))

/-- What the channel finds at its next descriptor: nothing to start, a halt, or a descriptor that passes R466. -/
inductive Fetched where
  | none
  | halt (s : State)
  | ok (index : Nat) (d : List Word)

/-- The channel fetches its next descriptor (R468); `want` is the TYPE that the command starts, and `rel` its REL for LOCK. -/
def State.dmaFetch (s : State) (c want : Nat) (rel : Option Bool) (badDesc : Bool) : Fetched :=
  if !s.mayStart c then .none
  else
    let i := s.nextIndex c
    let a := s.descAddr c i
    if badDesc || s.dmaBad a 32 then .halt (s.dmaHalt c 2 i a 0)
    else match s.dmaRead a 32 with
      | none => .halt (s.dmaHalt c 5 i a 0)
      | some (bs, _) =>
        let d := wordsOf bs
        if bitsOf (dw d 0) 31 1 = 0 then .halt (s.dmaHalt c 4 i a 0)
        else if 4 ≤ dType d then .halt (s.dmaHalt c 3 i a 0)
        else if dType d ≠ want ∨ rel.any (fun r => r != dRelease d) then .none
        else if s.descValid c d then .ok i d
        else .halt (s.dmaHalt c 3 i a 0)

/-- A descriptor has started. -/
def State.started (s : State) (c index : Nat) (d : List Word) (w : DmaWait) : State :=
  (s.modChan c (fun x => { x with runs := x.runs ++ [⟨index, d, w⟩] })).chanState c

/-! ### The copy (R467) -/

/-- One side of a copy: its base address, access width, whether the address is fixed, and whether its consecutive accesses
are combined up to 32-byte boundaries. -/
structure DmaSide where
  base : Nat
  width : Nat
  fixed : Bool
  combined : Bool

/-- The side of a descriptor. -/
def dmaSide (base width : Nat) (fixed : Bool) : DmaSide := ⟨base, width, fixed, !fixed && regionOf base != some .reg⟩

/-- The address of the access that begins at byte `o`. -/
def DmaSide.addr (d : DmaSide) (o : Nat) : Nat := if d.fixed then d.base else d.base + o

/-- Bytes that an access beginning at byte `o` may move of `n` that remain. -/
def DmaSide.span (d : DmaSide) (o n : Nat) : Nat := if d.combined then min n (32 - (d.base + o) % 32) else min n d.width

/-- The 32-byte unit, or the access, that a failing read is recorded under (Table 16-4). -/
def DmaSide.unit (d : DmaSide) (o : Nat) : Nat := if d.combined then (d.base + o) / 32 * 32 else d.addr o

/-- How a copy ends: done, or halted with its cause, address and destination bytes written. -/
inductive CopyEnd where
  | done (s : State)
  | halt (s : State) (cause addr bytes : Nat)

/-- The copy through the holding register: `so` bytes read and `wo` written of `len`, `buf` waiting. A destination access
takes the oldest bytes as soon as it is full; otherwise the next source access is made. A FILL gives `pattern` in place of
a source. -/
def copyLoop (src dst : DmaSide) (pattern : Option Nat) (len : Nat) (m : DmaMeets) :
    Nat → Nat → Nat → List Byte → State → CopyEnd
  | 0, _, _, _, s => .done s
  | k + 1, so, wo, buf, s =>
    let full := if so = len then buf.length else buf.length / dst.width * dst.width
    let n := dst.span wo full
    if n ≠ 0 then
      let a := dst.addr wo
      if m.nack.any (fun x => decide (wo ≤ x ∧ x < wo + n)) then .halt s 7 a wo
      else match s.dmaWrite a (buf.take n) with
        | .refused => .halt s 5 a wo
        | .failed => .halt s 7 a wo
        | .done t => copyLoop src dst pattern len m k so (wo + n) (buf.drop n) t
    else if so = len then .done s
    else match pattern with
      | some p =>
        let n := min 4 (len - so)
        copyLoop src dst pattern len m k (so + n) wo (buf ++ (leBytes 4 p).take n) s
      | none =>
        let n := src.span so (len - so)
        let a := src.addr so
        match s.dmaRegion a n with
        | none => .halt s 5 a wo
        | some _ =>
          if m.poison.any (fun x => decide (so ≤ x ∧ x < so + n)) || s.dmaBad a n then .halt s 1 (src.unit so) wo
          else match s.dmaRead a n with
            | none => .halt s 5 a wo
            | some (bs, t) => copyLoop src dst pattern len m k (so + n) wo (buf ++ bs) t

/-- What a poisoned source read leads to at its owner (Table 16-4): the page concerned is retired (R279); a word of the
firmware area stays uncorrectable and acts under R488; a scratch word is counted (R484). -/
def State.poisonActs (s : State) (a : Nat) : State :=
  match s.dmaRegion a 1 with
  | some .dram =>
    if a < s.fwBytes then
      let w := (s.mem.fwBad.find? (fun x => decide (a ≤ 8 * x + 7 ∧ 8 * x < a + 32))).getD (a / 8)
      { s with mem := { s.mem with fwBad := if s.mem.fwBad.contains w then s.mem.fwBad else s.mem.fwBad ++ [w] } }.dramBad
        (dramWord (8 * w))
    else if a < s.fwBytes + s.descBytes then s.descriptorBad ((a - s.fwBytes) / 32) (dramWord a)
    else s.dramRead ((a - s.fwBytes - s.descBytes) / 4096) .uncorrectable
  | some .scratch =>
    let w := (a - 0x2000000000) / 8
    ({ s with mem := { s.mem with
      scratchBad := if s.mem.scratchBad.contains w then s.mem.scratchBad else s.mem.scratchBad ++ [w] } }.bump DMA_SRAMECC_UNCORR).raise 401
  | _ => s

/-- A started COPY or FILL: done, or the channel halts. -/
def State.runCopy (s : State) (c index : Nat) (d : List Word) (pattern : Option Nat) (m : DmaMeets) : State :=
  let len := dLength d
  match copyLoop (dmaSide (dSrc d) (dSrcWidth d) (dSrcFixed d)) (dmaSide (dDst d) (dDstWidth d) (dDstFixed d)) pattern len m
      (2 * len + 2) 0 0 [] s with
  | .done t => t.started c index d .made
  | .halt t cause a bytes => (if cause = 1 then t.poisonActs a else t).dmaHalt c cause index a bytes

/-! ### Write-back (R465, R468, R472) -/

/-- The words written back: OWN 0, STATUS, and for FLASH and LOCK the fields that Table 16-2 gives. -/
def backWords (d : List Word) (status : Nat) (mid : Option (Nat × Nat × Nat)) : List Word :=
  let w1 := setBits (dw d 1) 24 8 status
  let w1' := match mid with
    | some (lo, wid, v) => setBits w1 lo wid v
    | none => w1
  (d.set 0 (BitVec.ofNat 32 (setBits (dw d 0) 31 1 0))).set 1 (BitVec.ofNat 32 w1')

/-- A descriptor is written back as one 32-byte write, HEAD advances, and a completion with IRQ = 1 is signalled. -/
def State.writeBack (s : State) (c index : Nat) (d : List Word) : State :=
  let s1 := match s.dmaWrite (s.descAddr c index) (d.flatMap (fun w => leBytes 4 w.toNat)) with
    | .done t => t
    | _ => s
  let s2 := (s1.put (DMA_CHHEAD_HEAD c) ((s1.get (DMA_CHHEAD_HEAD c) + 1) % s1.ringLen c)).bump (DMA_CHSTAT_DONE c)
  (if dIrq d then s2.putb (dmaPending c) true else s2).chanState c

/-- A completion of the flash store that an engine's tag awaits. -/
def State.flashDone (s : State) (ring tag : Nat) : Option FlashDone :=
  s.fls.posted.find? (fun p => p.ring == ring && p.tag == tag)

/-- Bytes moved to a DMA address in units of at most 32 bytes; a part that is refused or fails is not stored. -/
def moveBytes (a : Nat) : Nat → List Byte → State → State
  | 0, _, s => s
  | k + 1, bs, s =>
    if bs.isEmpty then s
    else
      let n := min bs.length (32 - a % 32)
      moveBytes (a + n) k (bs.drop n) (match s.dmaWrite a (bs.take n) with
        | .done t => t
        | _ => s)

/-- The completion of a flash entry is taken: its data and meta go to DADDR and MADDR of the entry (R303, R469). -/
def State.takeFlash (s : State) (d : List Word) (p : FlashDone) : State :=
  let daddr := dw d 4 + 2 ^ 32 * bitsOf (dw d 5) 0 8
  let maddr := dw d 6 + 2 ^ 32 * bitsOf (dw d 7) 0 8
  moveBytes maddr (p.pmeta.length + 1) p.pmeta (moveBytes daddr (p.data.length + 1) p.data
    { s with fls := { s.fls with posted := s.fls.posted.erase p } })

end Sys2Proof.Machine
end

