-- ==== Sys2Proof/Machine/Dma.lean ====
section
/-! DEFINITION. Meanings of the DMA engine's commands (spec 16). -/

namespace Sys2Proof.Machine

/-! ### Starting descriptors (R464 to R470) -/

/-- DMA_TAIL_WRITE (R464): a TAIL of at least 2^SIZE is discarded with source 364; otherwise descriptors are made ready. -/
def dmaTailWrite (c tail : Nat) (s : State) : State :=
  if s.ringLen c ≤ tail then s.raise 364 else (s.put (DMA_CHTAIL_TAIL c) tail).chanState c

/-- DMA_TAIL_WRITE. -/
def execDmaTailWrite (c : Fin 64) (tail : Fin 1024) (s : State) : Host.Outcome State Fault Refusal :=
  .next (dmaTailWrite c.val tail.val s)

/-- DMA_COPY (R466 to R468, R473). -/
def dmaCopy (c : Nat) (m : DmaMeets) (s : State) : State :=
  match s.dmaFetch c 0 none m.badDesc with
  | .none => s
  | .halt t => t
  | .ok i d => s.runCopy c i d none m

/-- DMA_COPY. -/
def execDmaCopy (c : Fin 64) (m : DmaMeets) (s : State) : Host.Outcome State Fault Refusal := .next (dmaCopy c.val m s)

/-- DMA_FILL (R467): destination byte k holds PATTERN byte k mod 4. -/
def dmaFill (c : Nat) (m : DmaMeets) (s : State) : State :=
  match s.dmaFetch c 1 none m.badDesc with
  | .none => s
  | .halt t => t
  | .ok i d => s.runCopy c i d (some (dw d 6)) m

/-- DMA_FILL. -/
def execDmaFill (c : Fin 64) (m : DmaMeets) (s : State) : Host.Outcome State Fault Refusal := .next (dmaFill c.val m s)

/-- The engine's own tag for a flash entry of channel `c` (R465): the first of the channel's eight that is free
(assumption 8). -/
def State.flashTag (s : State) (c : Nat) : Option Nat :=
  let ch := s.chan c
  let used := ch.runs.filterMap (fun r => match r.wait with
    | .flash t => some t
    | _ => none) ++ ch.drops.map DmaDrop.tag
  ((List.range 8).map (fun k => 0xFE00 + 8 * c + k)).find? (fun t => !used.contains t)

/-- The bytes that a PROGRAM fetches from its buffers (R303): a buffer that the DMA address space does not hold reads as
blank bytes (assumption 8). -/
def State.fetchBytes (s : State) (a n : Nat) : List Byte := ((s.dmaRead a n).map Prod.fst).getD (List.replicate n 0)

/-- The flash entry that a FLASH descriptor gives, with the engine's tag. -/
def State.flashEntryOf (s : State) (d : List Word) (op : FlashOp) (tag : Nat) : FlashEntry :=
  let w := dw d 2
  let pair := bitsOf w 27 1 == 1
  let pages := if pair then 2 else 1
  let daddr := dw d 4 + 2 ^ 32 * bitsOf (dw d 5) 0 8
  let maddr := dw d 6 + 2 ^ 32 * bitsOf (dw d 7) 0 8
  { ring := ⟨dRing d % 16, Nat.mod_lt _ (by decide)⟩
    valid := bitsOf w 22 2 != 3 && bitsOf (dw d 3) 25 7 == 0 && bitsOf (dw d 5) 8 24 == 0 && bitsOf (dw d 7) 8 24 == 0
    pair := pair
    count := ⟨bitsOf w 24 3 % 8, Nat.mod_lt _ (by decide)⟩
    mref := ⟨bitsOf w 22 2 % 3, Nat.mod_lt _ (by decide)⟩
    typ := ⟨bitsOf w 16 6 % 64, Nat.mod_lt _ (by decide)⟩
    tag := ⟨tag % 65536, Nat.mod_lt _ (by decide)⟩
    psa := BitVec.ofNat 25 (bitsOf (dw d 3) 0 25)
    data := if op == .program then s.fetchBytes daddr (16384 * pages) else []
    pmeta := if op == .program then s.fetchBytes maddr (128 * pages) else [] }

/-- DMA_FLASH (R469): the entry is placed on its ring, with at most eight of the channel in flight. -/
def dmaFlash (c : Nat) (badDesc : Bool) (s : State) : State :=
  match s.dmaFetch c 2 none badDesc with
  | .none => s
  | .halt t => t
  | .ok i d =>
    match s.flashTag c, dFlashOp d with
    | some tag, some op => (s.started c i d (.flash tag)).flashEntry op (s.flashEntryOf d op tag)
    | _, _ => s

/-- DMA_FLASH. -/
def execDmaFlash (c : Fin 64) (badDesc : Bool) (s : State) : Host.Outcome State Fault Refusal := .next (dmaFlash c.val badDesc s)

/-- The result of a lock read as the channel takes it (R470): BUSY is awaited, GRANTED and ORPHAN are held. -/
def lockWait (w : Word) : DmaWait :=
  match bitsOf w.toNat 29 3 with
  | 1 => .busy
  | 2 => .granted (some (bitsOf w.toNat 8 8))
  | _ => .granted none

/-- DMA_LOCK_ACQUIRE (R470): SQR_LOCKOP is read as owner 0x40 + c. -/
def dmaLockAcquire (c : Nat) (badDesc : Bool) (s : State) : State :=
  match s.dmaFetch c 3 (some false) badDesc with
  | .none => s
  | .halt t => t
  | .ok i d =>
    let r := s.acquire (dLock d) (0x40 + c)
    r.2.started c i d (lockWait r.1)

/-- DMA_LOCK_ACQUIRE. -/
def execDmaLockAcquire (c : Fin 64) (badDesc : Bool) (s : State) : Host.Outcome State Fault Refusal :=
  .next (dmaLockAcquire c.val badDesc s)

/-- DMA_LOCK_RELEASE (R470): 0 is written to SQR_LOCKOP. -/
def dmaLockRelease (c : Nat) (badDesc : Bool) (s : State) : State :=
  match s.dmaFetch c 3 (some true) badDesc with
  | .none => s
  | .halt t => t
  | .ok i d => (s.releaseLock (dLock d) (0x40 + c)).started c i d .made

/-- DMA_LOCK_RELEASE. -/
def execDmaLockRelease (c : Fin 64) (badDesc : Bool) (s : State) : Host.Outcome State Fault Refusal :=
  .next (dmaLockRelease c.val badDesc s)

/-- DMA_LOCK_RETRY (R470): an acquire that is BUSY reads again. -/
def dmaLockRetry (c : Nat) (s : State) : State :=
  match (s.chan c).runs.find? (fun r => r.wait == .busy) with
  | none => s
  | some r =>
    let a := s.acquire (dLock r.words) (0x40 + c)
    a.2.modChan c (fun x => { x with runs := x.runs.map (fun q => if q.wait == .busy then { q with wait := lockWait a.1 } else q) })

/-- DMA_LOCK_RETRY. -/
def execDmaLockRetry (c : Fin 64) (s : State) : Host.Outcome State Fault Refusal := .next (dmaLockRetry c.val s)

/-! ### Write-backs (R465, R468 to R470, R474) -/

/-- A flash entry whose write-back is discarded has completed (R474). -/
def State.dropEnds (s : State) (c : Nat) : State :=
  match (s.chan c).drops.find? (fun p => (s.flashDone (dRing p.words) p.tag).isSome) with
  | none => s
  | some p => match s.flashDone (dRing p.words) p.tag with
    | some f => ((s.takeFlash p.words f).modChan c (fun x => { x with drops := x.drops.erase p })).chanState c
    | none => s

/-- DMA_WRITE_BACK (R465, R468 to R470): the oldest started descriptor, once it has ended. A LOCK granted with ORPHAN then
halts the channel with cause 6. -/
def dmaWriteBack (c : Nat) (s : State) : State :=
  match (s.chan c).runs with
  | [] => s.dropEnds c
  | r :: rest =>
    let pop (t : State) : State := t.modChan c (fun x => { x with runs := rest })
    match r.wait with
    | .made | .granted none => (pop s).writeBack c r.index (backWords r.words 0 none)
    | .granted (some last) =>
      ((pop s).writeBack c r.index (backWords r.words 3 (some (16, 8, last)))).dmaHalt c 6 r.index (s.descAddr c r.index) 0
    | .flash tag => match s.flashDone (dRing r.words) tag with
      | some p => ((pop (s.takeFlash r.words p)).writeBack c r.index
          (backWords r.words (if p.status = 0 then 0 else 1) (some (8, 16, 256 * p.status + min 255 p.bits))))
      | none => s.dropEnds c
    | .busy => s

/-- DMA_WRITE_BACK. -/
def execDmaWriteBack (c : Fin 64) (s : State) : Host.Outcome State Fault Refusal := .next (dmaWriteBack c.val s)

/-! ### Recovery and stops (R473 to R475) -/

/-- DMA_RESUME (R473): the halted channel runs on, from the descriptor at its place in the ring. -/
def dmaResume (c : Nat) (s : State) : State :=
  if s.get (DMA_CHSTAT_STATE c) = 2 then (s.put (DMA_CHSTAT_STATE c) 1).chanState c else s

/-- DMA_RESUME. -/
def execDmaResume (c : Fin 64) (s : State) : Host.Outcome State Fault Refusal := .next (dmaResume c.val s)

/-- DMA_SKIP (R473): once the earlier descriptors are written back, the halted one is written back with STATUS 0x02 as its
words stand in the ring. -/
def dmaSkip (c : Nat) (s : State) : State :=
  let i := s.get (DMA_CHHEAD_HEAD c)
  if s.get (DMA_CHSTAT_STATE c) = 2 ∧ (s.chan c).runs = [] ∧ i ≠ s.get (DMA_CHTAIL_TAIL c) then
    let a := s.descAddr c i
    if s.dmaBad a 32 then s.dmaHalt c 2 i a 0
    else match s.dmaRead a 32 with
      | none => s.dmaHalt c 5 i a 0
      | some (bs, _) => (s.put (DMA_CHSTAT_STATE c) 1).writeBack c i (backWords (wordsOf bs) 2 none)
  else s

/-- DMA_SKIP. -/
def execDmaSkip (c : Fin 64) (s : State) : Host.Outcome State Fault Refusal := .next (dmaSkip c.val s)

/-- A channel's work is ended: flash entries in flight complete later with their write-backs discarded. -/
def State.dropRuns (s : State) (c : Nat) : State :=
  (s.modChan c (fun x => { runs := [], stopping := false, drops := x.drops ++ x.runs.filterMap (fun r => match r.wait with
    | .flash t => some ⟨t, r.words⟩
    | _ => none) })).putb (DMA_CHERR0_VALID c) false

/-- A channel reset without the notice to the Square (R474): HEAD and TAIL are 0 and the channel is idle. -/
def State.resetChannel (s : State) (c : Nat) : State :=
  (((s.dropRuns c).put (DMA_CHHEAD_HEAD c) 0).put (DMA_CHTAIL_TAIL c) 0).put (DMA_CHSTAT_STATE c) 0 |>.chanState c

/-- DMA_CHANNEL_RESET (R474): and the Square orphans every lock that the channel held. -/
def dmaChannelReset (c : Nat) (s : State) : State := (s.resetChannel c).resetNotice (0x40 + c)

/-- DMA_CHANNEL_RESET. -/
def execDmaChannelReset (c : Fin 64) (s : State) : Host.Outcome State Fault Refusal := .next (dmaChannelReset c.val s)

/-- DMA_CHANNEL_DISABLE (R474): the locks, HEAD and TAIL are kept, and the channel reads stopped. -/
def dmaChannelDisable (c : Nat) (s : State) : State :=
  (((s.putb (DMA_CHCFG_EN c) false).dropRuns c).put (DMA_CHSTAT_STATE c) 3).chanState c

/-- DMA_CHANNEL_DISABLE. -/
def execDmaChannelDisable (c : Fin 64) (s : State) : Host.Outcome State Fault Refusal := .next (dmaChannelDisable c.val s)

/-- DMA_CHANNEL_STOP (R474): the channel ends at its next descriptor boundary and keeps its locks. -/
def dmaChannelStop (c : Nat) (s : State) : State :=
  if s.get (DMA_CHSTAT_STATE c) ≤ 1 then (s.modChan c (fun x => { x with stopping := true })).chanState c else s

/-- DMA_CHANNEL_STOP. -/
def execDmaChannelStop (c : Fin 64) (s : State) : Host.Outcome State Fault Refusal := .next (dmaChannelStop c.val s)

/-- The power-loss signal (R475): every running channel stops at its next descriptor boundary, and source 365 is raised. -/
def State.dmaPowerLoss (s : State) : State :=
  ((List.range 64).foldl (fun t c => if t.is (DMA_CHCFG_EN c) then dmaChannelStop c t else t) s).raise 365

end Sys2Proof.Machine
end

