-- ==== Sys2Proof/Machine/CoreOps.lean ====
section
/-! DEFINITION. Shared operations of the control cores' caches (spec 18): sets, lookups, replacement, write-backs,
invalidation, captures and precise traps. -/

namespace Sys2Proof.Machine

/-! ### Lines and sets (Table 18-1, R495) -/

/-- The number of the L2 among the caches. -/
def l2No : Nat := 12

/-- The cache of core `k` that a fetch or a load uses. -/
def l1Of (k : Nat) (fetch : Bool) : Nat := if fetch then 2 * k else 2 * k + 1

/-- The set of an address in an L1: bits [10:6]. -/
def l1Set (a : Nat) : Nat := bitsOf a 6 5

/-- The set of an address in the L2 (R495). -/
def l2Set (a : Nat) : Nat := bitsOf a 6 12 ^^^ bitsOf a 18 12 ^^^ bitsOf a 30 10

/-- The set of an address in cache `c`. -/
def setOf (c a : Nat) : Nat := if c = l2No then l2Set a else l1Set a

/-- What stands in a way of a set of cache `c`, and the state with it replaced. -/
def State.way (s : State) (c st w : Nat) : Option CacheLine := KMap.get (fun _ => none) (s.cores.caches.getD c []) (16 * st + w)
def State.setWay (s : State) (c st w : Nat) (l : Option CacheLine) : State :=
  { s with cores := { s.cores with caches := s.cores.caches.modify c (fun m => KMap.set (fun _ => none) m (16 * st + w) l) } }

/-- Enabled ways of a core's L1 (R498): 2 to 16. -/
def State.l1Ways (s : State) (k : Nat) (fetch : Bool) : Nat :=
  clampNat 2 16 (if fetch then s.get (CPU_L1CFG_IWAYS k) else s.get (CPU_L1CFG_DWAYS k))

/-- The way of a set of cache `c` that holds the line of an address. -/
def State.findWay (s : State) (c a : Nat) : Option Nat :=
  (List.range 16).find? (fun w => match s.way c (setOf c a) w with
    | some l => l.line == a / 64
    | none => false)

/-! ### Replacement (R499 to R502) -/

/-- One step of an LFSR (R499). -/
def lfsrNext (x : Nat) : Nat :=
  let bit := bitsOf x 0 1 ^^^ bitsOf x 2 1 ^^^ bitsOf x 3 1 ^^^ bitsOf x 5 1
  x / 2 + bit * 2 ^ 15

/-- The way that an allocation takes (R500): the lowest invalid one it may use, or the drawn victim. -/
def pickWay (valid : Nat → Bool) (allowed : List Nat) (x : Nat) : Nat :=
  match allowed.find? (fun w => !valid w) with
  | some w => w
  | none => allowed.getD (x * allowed.length / 2 ^ 16) 0

/-- An allocation in a set of cache `c`: its LFSR steps, and the way is chosen. -/
def State.allocate (s : State) (c st : Nat) (allowed : List Nat) : Nat × State :=
  let x := lfsrNext (s.get (CPU_LFSR_STATE c))
  (pickWay (fun w => (s.way c st w).isSome) allowed x, s.put (CPU_LFSR_STATE c) x)

/-- The partition of the work that an allocation serves (R502). -/
def State.partOf (s : State) (w : CacheWork) : Nat :=
  match w with
  | .urgent => 1
  | .own => 0
  | .tenancy t => max 2 (s.get ⟨0x1900080 + 4 * (t.val / 8), 4 * (t.val % 8), 3⟩)

/-- The ways of a partition (R502): a mask of 0 is taken as 0xFFFF. -/
def State.partWays (s : State) (p : Nat) : List Nat :=
  let m := s.get (CPU_L2PART_MASK p)
  (List.range 16).filter (fun w => m == 0 || bitsOf m w 1 == 1)

/-! ### Lines and the DRAM -/

/-- The 64 bytes of a line in the firmware area. -/
def State.lineBytes (s : State) (line : Nat) : List Byte := (List.range 64).map (fun i => KMap.get blankByte s.mem.fw (64 * line + i))

/-- A line is written back to the firmware area: whole words, so that it replaces bad ones (R488). -/
def State.writeLine (s : State) (line : Nat) (bs : List Byte) : State :=
  { s with mem := { s.mem with
    fw := bs.zipIdx.foldl (fun m b => KMap.set blankByte m (64 * line + b.2) b.1) s.mem.fw
    fwBad := s.mem.fwBad.filter (fun w => w / 8 != line) } }

/-- A line is written to the DRAM with poisoned check bits: every later read of its words is uncorrectable (Table 18-2). -/
def State.poisonLine (s : State) (line : Nat) : State :=
  { s with mem := { s.mem with fwBad := s.mem.fwBad.filter (fun w => w / 8 != line) ++ (List.range 8).map (fun i => 8 * line + i) } }

/-- A line leaves every L1 (the L2 is inclusive of them). -/
def State.dropL1 (s : State) (line : Nat) : State :=
  (List.range 12).foldl (fun t c => (List.range 16).foldl (fun u w => match u.way c (l1Set (64 * line)) w with
    | some l => if l.line = line then u.setWay c (l1Set (64 * line)) w none else u
    | none => u) t) s

/-- A way of the L2 is emptied, with the L1 copies of its line. -/
def State.dropL2 (s : State) (st w : Nat) : State :=
  match s.way l2No st w with
  | some l => (s.dropL1 l.line).setWay l2No st w none
  | none => s

/-- Both L1 caches of a core are invalidated (R507). -/
def State.emptyL1 (s : State) (k : Nat) : State :=
  { s with cores := { s.cores with caches := (s.cores.caches.set (2 * k) []).set (2 * k + 1) [] } }

/-! ### Errors (R504, R505) -/

/-- An uncorrectable error is counted, and captured while VALID = 0: cache, array, set, way, and the line address, 0 for a
tag. -/
def State.cacheError (s : State) (c : Nat) (tag : Bool) (st w line : Nat) : State :=
  let s1 := s.bump CPU_ECCCNT_UNCORR
  if s1.is CPU_ECCCAP_VALID then s1
  else
    let a := if tag then 0 else 64 * line
    (((((s1.putb CPU_ECCCAP_VALID true).put CPU_ECCCAP_CACHE c).putb CPU_ECCCAP_TAG tag).put CPU_ECCCAP_SET st).put CPU_ECCCAP_WAY w
      |>.put CPU_ECCADDR_LO_ADDR (a % 2 ^ 32)).put CPU_ECCADDR_HI_ADDR (a / 2 ^ 32)

/-- A corrected word of cache `c` (R504). -/
def State.cacheCorrected (s : State) (c : Nat) : State := (s.bump CPU_ECCCNT_CORR).raise (if c = l2No then 1096 else 1084 + c / 2)

/-- A core takes a precise trap on a memory error (R505). -/
def State.preciseTrap (s : State) (k pc addr : Nat) (memory : Bool) : State :=
  (({ s with cores := { s.cores with traps := s.cores.traps.set k (some ⟨pc, addr, memory⟩) } }.bump (CPU_CORESTAT_TRAPS k)).put
    (CPU_CORESTAT_STATE k) 3).raiseIf memory (1100 + k)

/-- An uncorrectable word of an L1 (Table 18-2): its line is invalidated. -/
def State.l1Error (s : State) (c st w : Nat) (tag : Bool) : State :=
  let line := ((s.way c st w).map CacheLine.line).getD 0
  ((s.cacheError c tag st w line).setWay c st w none).raise (1090 + c / 2)

/-- An uncorrectable data word of the L2 (Table 18-2): a dirty line goes to the DRAM poisoned; the line is invalidated. -/
def State.l2DataError (s : State) (st w : Nat) : State :=
  match s.way l2No st w with
  | none => s
  | some l =>
    let s1 := (s.cacheError l2No false st w l.line).raise 1097
    (if l.dirty then (s1.poisonLine l.line).raise 1099 else s1).dropL2 st w

/-- An uncorrectable tag of the L2 (Table 18-2): every line of the set is invalidated. -/
def State.l2TagError (s : State) (st w : Nat) : State :=
  (List.range 16).foldl (fun t v => t.dropL2 st v) ((s.cacheError l2No true st w 0).raise 1098)

end Sys2Proof.Machine
end

