-- ==== Sys2Proof/Machine/Integrity.lean ====
section
/-! DEFINITION. Meanings of the scrub commands (spec 17). -/

namespace Sys2Proof.Machine

/-! ### The DRAM scrub (R482, R489) -/

/-- Words of the DRAM, check region included. -/
def State.dramWords (s : State) : Nat := (s.get SQR_DRAMCFG_SIZE + 1) * 2 ^ 29

/-- The buffer-space byte whose 64-bit word a DRAM word holds, or whose check byte `b` it holds (R482). -/
def bufferOf (w b : Nat) : Nat := if w % 64 < 56 then w / 64 * 448 + 8 * (w % 64) else w / 64 * 448 + 64 * (w % 64 - 56) + 8 * b

/-- An uncorrectable word that the scrub finds (R489): by the area that the word lies in. -/
def State.scrubBad (s : State) (a : Nat) : State :=
  if a < s.fwBytes then
    let w := a / 8
    { s with mem := { s.mem with fwBad := if s.mem.fwBad.contains w then s.mem.fwBad else s.mem.fwBad ++ [w] } }.dramBad (dramWord a)
  else if a < s.fwBytes + s.descBytes then
    if (a - s.fwBytes) / 32 < s.get SQR_STAT_NPAGES then s.descriptorBad ((a - s.fwBytes) / 32) (dramWord a) else s.dramBad (dramWord a)
  else
    let p := (a - s.fwBytes - s.descBytes) / 4096
    let s1 := s.dramBad (dramWord a)
    if p < s.get SQR_STAT_NPAGES then s1.retirePage p else s1

/-- The scrub pass reaches a descriptor whose page the index has lost (Table 17-4): the entry is found again, or the page is
superseded where a newer one of its key stands, and the reads that waited look the key up. -/
def State.reindex (s : State) (p : Nat) : State :=
  let g := s.page p
  if g.live && !g.indexed && (g.st == .dirty || g.st == .destage) then
    let s1 := if (s.findPage g.key).isSome then (s.setPage p { g with superseded := true }).tryFree p
      else s.setPage p { g with indexed := true }
    let ws := s1.sqr.lostIndex.filter (fun x => decide (x.1 = g.key))
    ws.foldl (fun t x => t.readKey x.1 x.2) (s1.modSqr (fun q => { q with lostIndex := q.lostIndex.filter (fun x => x.1 != g.key) }))
  else s

/-- The next word, and the end of a pass (R489): source 225, PASSES and PROGRESS. -/
def State.scrubOn (s : State) : State :=
  let n := s.mem.scrubPos + 1
  let total := s.dramWords
  let s1 := { s with mem := { s.mem with scrubPos := n % total } }
  let s2 := if n % total = 0 then (s1.step1 SQR_SCRUB_PASSES).raise 225 else s1
  s2.put SQR_SCRUB_PROGRESS (n % total * 65536 / total)

/-- DRAM_SCRUB_READ (R484, R487 to R489). -/
def dramScrubRead (find : MemFind) (byte : Nat) (s : State) : State :=
  if !s.is SQR_INTGCTL_DSCRUB then s
  else
    let w := s.mem.scrubPos
    let a := bufferOf w byte
    if w % 64 = 63 then s.scrubOn
    else
      let s1 := match find with
        | .clean => s
        | .corrected => (s.bump SQR_ECCCNT_CORR).raise 220
        | .uncorrectable => s.scrubBad a
      (if find != .uncorrectable && decide (s.fwBytes ≤ a ∧ a < s.fwBytes + s.descBytes) then s1.reindex ((a - s.fwBytes) / 32)
        else s1).scrubOn

/-- DRAM_SCRUB_READ. -/
def execDramScrubRead (find : MemFind) (byte : Fin 8) (s : State) : Host.Outcome State Fault Refusal :=
  .next (dramScrubRead find byte.val s)

/-! ### The on-die scrub (R490, Table 17-3) -/

/-- A corrected word raises its memory's correctable source, and is counted where its block counts. -/
def State.sramCorrected (s : State) (w : SramWord) : State :=
  match w with
  | .hostEngine _ => s.raise 102
  | .roundabout _ => s.raise 104
  | .squareIndex _ _ _ | .squareStream _ | .squareLock _ => s.raise 226
  | .scratch _ => (s.bump DMA_SRAMECC_CORR).raise 400
  | .tenancyKey _ | .deviceKey _ | .tollgateBuffer _ => s.raise 1027
  | .avenueStore n => (s.bump (AV_SEQCNT_CORR n)).raise (avSrc n 82)
  | .cacheData c _ _ | .cacheTag c _ _ => s.cacheCorrected c.val
  | .arcadeBuffer _ | .sampleStore _ | .recordSlot _ | .foundingSlot _ | .routeEntry _ => s

/-- An empty record slot (TYPE 0xFF, Table 19-7). -/
def emptySlot : RecEntry :=
  { time := 0, seq := 0, source := 0, typ := 0xFF, prof := 0, boot := 0, react := 0, flags := 0, regs := [], detail := 0 }

/-- The host command of a buffer ends with Internal Error (Table 17-4, R431). -/
def State.bufferEnds (s : State) (tag : Option (Fin 16384)) : State :=
  match tag with
  | some t => if (s.cmd t.val).isSome then (s.endRun t.val).complete t.val 0 6 0 else s
  | none => s

/-- An uncorrectable word of an on-die memory (Table 17-3, Table 17-4, Table 18-2). -/
def State.sramBad (s : State) (w : SramWord) : State :=
  match w with
  | .hostEngine f => (s.raise 103).resetCtl f.val
  | .roundabout f => (s.raise 105).resetCtl f.val
  | .squareIndex t ns lba =>
    let k : BlockKey := ⟨t, ns, lba⟩
    (match s.findPage k with
      | some p => s.modPage p (fun g => { g with indexed := false })
      | none => s).raise 227
  | .squareStream i => (s.modSqr (fun q => { q with streams := q.streams.eraseIdx i.val })).raise 227
  | .squareLock _ => s.raise 227
  | .scratch i =>
    ({ s with mem := { s.mem with
      scratchBad := if s.mem.scratchBad.contains i.val then s.mem.scratchBad else s.mem.scratchBad ++ [i.val] } }.bump
      DMA_SRAMECC_UNCORR).raise 401
  | .tenancyKey _ | .deviceKey _ => s.raise 1012
  | .tollgateBuffer t => (s.bufferEnds t).raise 1028
  | .arcadeBuffer t => (s.bufferEnds t).raise 1040
  | .avenueStore n => s.raise (avSrc n 81)
  | .sampleStore n => s.bump (AV_TAGCNT_INVAL n)
  | .cacheData c st v => if c.val = l2No then s.l2DataError st.val v.val else s.l1Error c.val (st.val % 32) v.val false
  | .cacheTag c st v => if c.val = l2No then s.l2TagError st.val v.val else s.l1Error c.val (st.val % 32) v.val true
  | .recordSlot i => { s with recd := { s.recd with circ := s.recd.circ.modify i.val (fun _ => emptySlot) } }.raise 1148
  | .foundingSlot i => { s with recd := { s.recd with found := s.recd.found.modify i.val (fun _ => emptySlot) } }.raise 1148
  | .routeEntry src => (s.wr (FLT_ROUTE src.val) (resetWord (FLT_ROUTE src.val))).raise 1149

/-- SRAM_SCRUB_READ (R484, R490). -/
def sramScrubRead (w : SramWord) (find : MemFind) (s : State) : State :=
  if !s.is SYS_SCRUB_EN then s
  else match find with
    | .clean => s
    | .corrected => s.sramCorrected w
    | .uncorrectable => s.sramBad w

/-- SRAM_SCRUB_READ. -/
def execSramScrubRead (word : SramWord) (find : MemFind) (s : State) : Host.Outcome State Fault Refusal :=
  .next (sramScrubRead word find s)

/-! ### The media scrub (R491) -/

/-- A VERIFY entry of the internal class (Table 6-8), whose ladders run under ICEIL (R127). -/
def scrubEntry (e : RingEntry) : Bool := !e.host && entryOpcode e == 4 && entryClass e == 0

/-- MEDIA_SCRUB (R491): an internal-class VERIFY entry goes on one of the Avenue's internal rings, 28 to 31. -/
def mediaScrub (n : Fin 4) (ring : Nat) (e : RingEntry) (s : State) : State :=
  if s.get SQR_INTGCTL_MSCRUB = 0 ∨ scrubEntry e = false then s else entryWrite n (28 + ring) false e s

/-- MEDIA_SCRUB. -/
def execMediaScrub (n : Fin 4) (ring : Fin 4) (e : RingEntry) (s : State) : Host.Outcome State Fault Refusal :=
  .next (mediaScrub n ring.val e s)

end Sys2Proof.Machine
end

