-- ==== Sys2Proof/Machine/PowerOps.lean ====
section
/-! DEFINITION. Shared operations of the power block: blocks that are switched off, and Cul-de-sac and claim modes
(spec 20.5). -/

namespace Sys2Proof.Machine

/-- Every Avenue. -/
def allAvs : List (Fin 4) := [0, 1, 2, 3]

/-- The Square and the memories without the DRAM's content: what the flash store holds stays, and locks are free (R292). -/
def squareLost (q : Square) : Square :=
  { freshSquare with journal := q.journal, onMedia := q.onMedia, lost := q.lost, stamp := q.stamp }

/-- The DRAM is off: its content is lost, the Square is not READY, and its clock is not expected (R34, R544). -/
def State.dramOff (s : State) : State :=
  ((({ s with sqr := squareLost s.sqr, mem := { s.mem with fw := [], fwBad := [] } }.putb PWR_START_DRAMOK false).putb
    SQR_STAT_READY false).put SQR_STAT_NPAGES 0).expect [28] false

/-- The spindle is off with its clocks. -/
def State.spindleOff (s : State) : State := ((s.putb SPN_CTL_EN false).spnTo 0).expect [24, 25] false

/-- What Cul-de-sac and claim modes leave (R544, R546): port B idle, PF0 alone, VF Enable 0, and the DRAM, the spindle, the
servo engines and the Avenues off. -/
def State.restrict (s : State) : State :=
  let s1 := (allAvs.foldl State.avenueOff s).spindleOff.dramOff.expect [30, 35] false
  let s2 := (((s1.putb (HST_PORT_UP 1) false).put (HST_PORT_RATE 1) 0).put (HST_PORT_WIDTH 1) 0).expect [27] false
  let s3 := (List.range 128).foldl (fun t f => if f = 0 then t else t.modCtl f (fun c => { c with ready := false })) s2
  let s4 := s3.modCtl 0 (fun c => { c with vfEnable := false })
  if s4.is (HST_PORT_UP 0) then s4.modCtl 0 (fun c => { c with ready := true }) else s4

/-- Cul-de-sac mode with a reason of Table 20-6 (R544): source 1130. CDS has three bits and reason 8 reads 0 in it
(assumption 60). -/
def State.culDeSac (s : State) (reason : Nat) : State :=
  ((s.restrict.put PWR_STATE_STATE 5).put PWR_START_CDS reason).raise 1130

/-- Claim mode (R546): as Cul-de-sac mode, with no reason code. -/
def State.claimMode (s : State) : State := s.restrict.put PWR_STATE_STATE 6

end Sys2Proof.Machine
end

