-- ==== Sys2Proof/Machine/Spindle.lean ====
section
/-! DEFINITION. Meanings of the spindle commands (spec 08). The observer and the loops compute in binary32 in volts,
amperes, webers, newton metres, radians, seconds and rpm, each rule's operations in the order in which it is printed. -/

namespace Sys2Proof.Machine

/-! ### Quantities -/

/-- A signed quotient of integers in binary32. -/
def fRatio (a : Int) (b : Nat) : F32 := if a < 0 then F32.neg (F32.ofRatio a.natAbs b) else F32.ofRatio a.natAbs b

/-- Latest conversion of channel `c`. -/
def State.adc (s : State) (c : Nat) : Nat := s.get (SPN_ADCLAST_VALUE c)

/-- A phase current in amperes (R234). -/
def State.spnI (s : State) (c : Nat) : F32 :=
  fRatio (((s.adc c : Int) - 2048) * s.get SPN_SCALE_ISC) (1000000 * 2 ^ s.get (SPN_ADCLAST_GAIN c))

/-- A voltage in volts (R234). -/
def State.spnV (s : State) (c : Nat) : F32 := F32.ofRatio (s.adc c * s.get SPN_SCALE_VSC) 100000

/-- The latest VBUS conversion in 10 µV units. -/
def State.vbusRaw (s : State) : Nat := s.adc 6 * s.get SPN_SCALE_VSC

/-- A field in volts from its units of 0.1 V. -/
def State.vField (s : State) (f : Fld) : F32 := F32.ofRatio (s.get f) 10

/-- The magnet flux in webers. -/
def State.psiPm (s : State) : F32 := F32.ofRatio (s.get SPN_MOT0_PSI) 1000000

/-- A torque field in newton metres from its units of 1 mN·m. -/
def State.torque (s : State) (f : Fld) : F32 := F32.ofRatio (s.get f) 1000

/-- Two pi. -/
def twoPi : F32 := F32.ofFix (2 * F32.fixPi)

/-- The α and β parts of three phase quantities (R235). -/
def clarke (a b c : F32) : F32 × F32 :=
  (F32.div (F32.sub (F32.sub (F32.mul (F32.ofInt 2) a) b) c) (F32.ofInt 3), F32.div (F32.sub b c) (F32.sqrt (F32.ofInt 3)))

/-- The switching state of a vector (Table 8-1). -/
def switches : Fin 8 → Nat × Nat × Nat
  | 0 => (0, 0, 0)
  | 1 => (1, 0, 0)
  | 2 => (1, 1, 0)
  | 3 => (0, 1, 0)
  | 4 => (0, 1, 1)
  | 5 => (0, 0, 1)
  | 6 => (1, 0, 1)
  | 7 => (1, 1, 1)

/-- Dead time of a phase change in nanoseconds: DEADT below 4 is taken as 4 (R229). -/
def State.deadNs (s : State) : Nat := 5 * max 4 (s.get SPN_OBS_DEADT)

/-- The applied voltage (R235). -/
def State.spnApplied (s : State) : F32 × F32 :=
  match s.spn.vec with
  | some k =>
    let (a, b, c) := switches k
    let r := fun (v : F32) (d : F32) => F32.div (F32.mul (s.spnV 6) v) d
    (r (F32.ofInt (2 * a - b - c : Int)) (F32.ofInt 3), r (F32.ofInt ((b : Int) - c)) (F32.sqrt (F32.ofInt 3)))
  | none =>
    let mean := F32.div (F32.add (F32.add (s.spnV 3) (s.spnV 4)) (s.spnV 5)) (F32.ofInt 3)
    clarke (F32.sub (s.spnV 3) mean) (F32.sub (s.spnV 4) mean) (F32.sub (s.spnV 5) mean)

/-- Length of the step that ends, in µs (R233). -/
def State.stepUs (s : State) : Nat := if s.spn.longStep then 5 else 4

/-- An angle difference brought into -pi to pi. -/
def wrapAngle (d : F32) : F32 :=
  let pi := F32.ofFix F32.fixPi
  if F32.lt pi d then F32.sub d twoPi else if F32.lt d (F32.neg pi) then F32.add d twoPi else d

/-- Magnitude of a vector. -/
def mag (a b : F32) : F32 := F32.sqrt (F32.add (F32.mul a a) (F32.mul b b))

/-- The observer over one step (R235, R236). -/
def observe (s : State) : State :=
  let p := s.spn
  let i := clarke (s.spnI 0) (s.spnI 1) (s.spnI 2)
  let v := s.spnApplied
  let g := F32.ofRatio 1 (2 ^ s.get SPN_OBS_LEAK)
  let rs := F32.ofRatio (s.get SPN_MOT0_RS) 1000
  let dt := F32.ofRatio s.stepUs 1000000
  let flux := fun (psi vx ix trig : F32) =>
    F32.add (F32.add (F32.mul psi (F32.sub (F32.ofInt 1) g)) (F32.mul (F32.sub vx (F32.mul rs ix)) dt))
      (F32.mul (F32.mul g s.psiPm) trig)
  let a := flux p.psiA v.1 i.1 (F32.cos p.theta)
  let b := flux p.psiB v.2 i.2 (F32.sin p.theta)
  let t := F32.mul (F32.mul (F32.ofRatio 3 2) (F32.ofInt (s.get SPN_MOT0_POLEP))) (F32.sub (F32.mul a i.2) (F32.mul b i.1))
  let th := F32.atan2 b a
  s.modSpn (fun p => { p with psiA := a, psiB := b, tEst := t, theta := th
                              turns := ((wrapAngle (F32.sub th p.theta), s.stepUs) :: p.turns).take 64 })

/-- The observer speed in rpm (R236). -/
def State.obsSpeed (s : State) : F32 :=
  let ts := s.spn.turns
  let d := ts.foldr (fun t x => F32.add x t.1) 0
  let us := (ts.map (fun t => t.2)).sum
  F32.div (F32.mul d (F32.ofInt 60000000)) (F32.mul (F32.mul twoPi (F32.ofInt us)) (F32.ofInt (s.get SPN_MOT0_POLEP)))

/-- SPEED shows a value in rpm; of a value between two units, which one is open. -/
def State.showSpeed (s : State) (v : F32) : State :=
  let k := F32.trunc (F32.mul v (F32.ofInt 1024))
  let (r, s1) := s.fresh 1
  let exact := F32.ofInt k == F32.mul v (F32.ofInt 1024)
  s1.put SPN_SPEED_SPEED (min (2 ^ 24 - 1) (k + (if exact then 0 else r)).toNat)

/-- SPEED without a wedge source is the observer speed (R237). -/
def observerSpeed (s : State) : State := if s.is SPN_SPEED_WEDGE then s else s.showSpeed s.obsSpeed

/-- The measured speed in rpm. -/
def State.speedRpm (s : State) : F32 := F32.ofRatio s.speed 1024

/-! ### Unloads, FAULT, OFF -/

/-- An unload request to every engine that still flies (R249, R250). -/
def unloadAll (s : State) : State := all.foldl (fun t n => t.unloadRequest n) s
where all : List (Fin 4) := [0, 1, 2, 3]

/-- RETURN ends with a code of RETEND, if SPN is in it or resynchronises for it (R258). -/
def returnEnds (code : Option Nat) (s : State) : State :=
  if s.spnState = 7 ∨ (s.spnState = 6 ∧ s.spn.from_ = 7) then
    (match code with
      | some c => s.put SPN_STAT_RETEND c
      | none => s).raise 953
  else s

/-- SPN enters FAULT (R244): bridge off, unload requests, source 956. Before step 12 of a start the device enters Cul-de-sac
mode with reason 7 (Table 20-6). -/
def spnFault (s : State) : State :=
  let s1 := unloadAll (((returnEnds (some 3) s).spnTo 8).raise 956)
  if s1.get PWR_START_STEP = 9 ∧ s1.get PWR_STATE_STATE = 0 then s1.culDeSac 7 else s1

/-- SPN enters OFF; with EN = 0 its clocks cease to be expected (R34). -/
def spnOff (s : State) : State :=
  let s1 := s.spnTo 0
  if s1.is SPN_CTL_EN then s1 else s1.expect [24, 25] false

/-- SPN enters RUN from the measured speed (R247, R253, R258). -/
def runAtSpeed (s : State) : State := (s.modSpn (fun p => { p with omega := s.speedRpm })).spnTo 2

/-- A start attempt fails (R247): the third one enters FAULT; after the others the bridge stays off for 1 s. -/
def startFails (s : State) : State :=
  let k := s.spn.attempts + 1
  let s1 := ((s.bump SPN_CNT_STARTS).raise 940).modSpn (fun p => { p with attempts := k, handoff := 0 })
  if 3 ≤ k then spnFault s1
  else ((s1.put SPN_STAT_SUB 0).spnTo 1).modSpn (fun p => { p with retryWait := true, catchBrake := false, vec := none })

/-! ### The effective target (R246, R249) -/

/-- The firmware target. -/
def State.fwTarget (s : State) : Nat := min 10800 (s.get SPN_TARGET_TARGET)

/-- The effective target. -/
def State.effTarget (s : State) : Nat := if s.is SPN_CEIL_VALID then min s.fwTarget (s.get SPN_CEIL_CEIL) else s.fwTarget

/-- STAT.EFF and CEILLIM show the effective target. -/
def showTarget (s : State) : State :=
  (s.put SPN_STAT_EFF s.effTarget).putb SPN_STAT_CEILLIM (s.is SPN_CEIL_VALID && decide (s.get SPN_CEIL_CEIL < s.fwTarget))

/-- A stop is requested: EN = 0, or an effective target below 4,800 rpm. -/
def State.stopWanted (s : State) : Bool := !s.is SPN_CTL_EN || decide (s.effTarget < 4800)

/-- EN and the effective target meet the state (R247, R249, R253). -/
def targetActs (s0 : State) : State :=
  let s := showTarget s0
  match s.spnState with
  | 1 => if s.stopWanted then (if s.get SPN_STAT_SUB ≤ 2 then spnOff s else s.spnTo 4) else s
  | 2 => if s.stopWanted then (if s.allIdle then s.spnTo 4 else (s.spnTo 3).raise 949) else s
  | 3 => if s.stopWanted then s.holdCheck else s.spnTo 2
  | 4 => if s.stopWanted then s else runAtSpeed s
  | _ => s

/-! ### Plausibility (R241) -/

/-- The P2 band holds for a flux magnitude. -/
def State.inFluxBand (s : State) (m : F32) : Bool :=
  let tol := F32.ofRatio (s.get SPN_PLAUS_FLUXTOL) 256
  !F32.lt m (F32.mul s.psiPm (F32.sub (F32.ofInt 1) tol)) && !F32.lt (F32.mul s.psiPm (F32.add (F32.ofInt 1) tol)) m

/-- One step's run counts of P1 to P3 and of the steps without a fresh current. -/
def countBreaks (s : State) : State :=
  let p := s.spn
  let sum := F32.abs (F32.add (F32.add (s.spnI 0) (s.spnI 1)) (s.spnI 2))
  let b1 := F32.lt (F32.ofRatio (s.get SPN_CUR_ISUMMAX) 100) sum
  let b2 := !s.inFluxBand (mag p.psiA p.psiB)
  let lim := F32.mul (F32.ofRatio (s.get SPN_PLAUS_SPDTOL) 1000) s.speedRpm
  let b3 := s.is SPN_SPEED_WEDGE && F32.lt lim (F32.abs (F32.sub s.obsSpeed s.speedRpm))
  s.modSpn (fun p => { p with
    p1 := if b1 then p.p1 + 1 else 0
    p2 := if b2 then p.p2 + 1 else 0
    p3 := if b3 then p.p3 + 1 else 0
    stale := if p.fresh.any (fun c => decide (c ≤ 2)) then 0 else p.stale + 1 })

/-- A loss of synchronism enters RESYNC (R242): the resync is counted, bridge off, source 941. -/
def enterResync (s : State) : State :=
  (((s.bump SPN_CNT_RESYNCS).raise 941).modSpn (fun p => { p with from_ := s.spnState, p2 := 0, p3 := 0, stale := 0 })).spnTo 6

/-- The plausibility rules after a step (R241, R243, R247). -/
def plausible (s0 : State) : State :=
  let st := s0.spnState
  if !(st == 2 || st == 3 || st == 4 || st == 7) then s0
  else
    let s := countBreaks s0
    let n := orOne (s.get SPN_PLAUS_PLCNT)
    let turn := (s.spn.turns.head?.map (fun t => t.1)).getD 0
    let p2 := decide (n ≤ s.spn.p2)
    let p3 := decide (n ≤ s.spn.p3)
    let p4 := F32.lt (F32.ofFix (F32.fixPi / 12)) (F32.abs turn)
    let p5 := decide (3 ≤ s.spn.stale)
    if n ≤ s.spn.p1 then spnFault (s.raise 943)
    else if decide (0 < s.spn.handoff) && (p2 || p4 || p5) then startFails s
    else if p2 || p3 || p4 || p5 then enterResync s
    else s

/-! ### References, comparators, vectors -/

/-- The speed reference moves toward the effective target (R246). -/
def rampOmega (s : State) : State :=
  let tgt := F32.ofInt s.effTarget
  let d := F32.ofRatio (orOne (s.get SPN_TARGET_RAMP) * s.stepUs) 1000000
  let w := s.spn.omega
  let w1 := if F32.lt w tgt then F32.fmin tgt (F32.add w d) else F32.fmax tgt (F32.sub w d)
  s.modSpn (fun p => { p with omega := w1 })

/-- The speed loop (R246). -/
def speedLoop (s : State) : State :=
  let lim := s.torque SPN_TQ_TQMAX
  let e := F32.sub s.spn.omega s.speedRpm
  let ki := F32.ofRatio (s.get SPN_SPD_KI) 65536000
  let kp := F32.ofRatio (s.get SPN_SPD_KP) 256000
  let i := F32.clamp (F32.add s.spn.integ (F32.mul ki e)) (F32.neg lim) lim
  s.modSpn (fun p => { p with integ := i, tRef := F32.clamp (F32.add (F32.mul kp e) i) (F32.neg lim) lim })

/-- The VBUS loop of RETURN (R257). -/
def returnLoop (s : State) : State :=
  let lim := F32.neg (s.torque SPN_RET_TQRET)
  let ev := F32.sub (s.vField SPN_VBUS_VRET) (s.spnV 6)
  let kiv := F32.ofRatio (s.get SPN_RET_KIV) 256000
  let kpv := F32.ofRatio (s.get SPN_RET_KPV) 10000
  let i := F32.clamp (F32.add s.spn.integ (F32.mul kiv ev)) lim 0
  s.modSpn (fun p => { p with integ := i, tRef := F32.clamp (F32.add (F32.mul kpv ev) i) lim 0 })

/-- The torque reference of the state in force. -/
def torqueRef (s : State) : State :=
  match s.spnState with
  | 2 => speedLoop (rampOmega s)
  | 3 => speedLoop s
  | 4 => s.modSpn (fun p => { p with tRef := F32.neg (s.torque SPN_TQ_DECTQ) })
  | 7 => returnLoop s
  | _ => s.modSpn (fun p => { p with tRef := 0 })

/-- The VBUS watch (R254): whether V0 overrides the table, and the state with t_ref reduced and episodes counted. -/
def vbusWatch (s : State) : Bool × State :=
  let v := s.spnV 6
  let ov := s.vField SPN_VBUS_VBOV
  let hi := s.vField SPN_VBUS_VBHI
  let atTop := !F32.lt v ov
  if !F32.lt s.spn.tRef 0 then (false, s.modSpn (fun p => { p with vbov := p.vbov && atTop }))
  else if atTop then
    let s1 := if s.spn.vbov then s else (s.bump SPN_CNT_VBOVS).raise 945
    (true, s1.modSpn (fun p => { p with vbov := true }))
  else
    let s1 := s.modSpn (fun p => { p with vbov := false })
    if F32.lt hi v then
      (false, s1.modSpn (fun p => { p with tRef := F32.div (F32.mul p.tRef (F32.sub ov v)) (F32.sub ov hi) }))
    else (false, s1)

/-- The comparators (R238). -/
def comparators (s : State) : State :=
  let p := s.spn
  let m := mag p.psiA p.psiB
  let hf := F32.mul (F32.ofRatio (s.get SPN_OBS_HF) 256) s.psiPm
  let ht := F32.ofRatio (s.get SPN_OBS_HT) 10000
  let dpsi := if F32.lt m (F32.sub s.psiPm hf) then true else if F32.lt (F32.add s.psiPm hf) m then false else p.dpsi
  let dt : Int := if F32.lt p.tEst (F32.sub p.tRef ht) then 1
    else if F32.lt (F32.add p.tRef ht) p.tEst then -1
    else if p.dtq = 1 ∧ F32.lt p.tEst p.tRef = false then 0
    else if p.dtq = -1 ∧ F32.lt p.tRef p.tEst = false then 0
    else p.dtq
  s.modSpn (fun p => { p with dpsi := dpsi, dtq := dt })

/-- The sector of an angle in radians, 1 to 6 (R239). -/
def sector (th : F32) : Nat := ((F32.toFix th + F32.fixPi / 6) / (F32.fixPi / 3) % 6).toNat + 1

/-- Vector V(k + j), indices modulo 6 in 1 to 6. -/
def vecAt (k : Nat) (j : Int) : Fin 8 := ⟨(((k : Int) - 1 + j) % 6).toNat % 6 + 1, by omega⟩

/-- The zero vector that changes one phase (R239). -/
def zeroVec (v : Option (Fin 8)) : Fin 8 :=
  match v with
  | some 0 | some 1 | some 3 | some 5 => 0
  | _ => 7

/-- Table 8-2. -/
def tableVec (k : Nat) (dpsi : Bool) (dt : Int) (v : Option (Fin 8)) : Fin 8 :=
  if dt = 0 then zeroVec v else vecAt k ((if dpsi then 1 else 2) * dt)

/-- The vector that moves the current toward `ISPIN` at an angle (R247): outside the band of ISPIN / 8, the one nearest
to the current's error; inside it, which vector serves is open. -/
def alignVec (s : State) (angle : F32) : State :=
  let i := clarke (s.spnI 0) (s.spnI 1) (s.spnI 2)
  let set := F32.ofRatio (s.get SPN_CUR_ISPIN) 100
  let ea := F32.sub (F32.mul set (F32.cos angle)) i.1
  let eb := F32.sub (F32.mul set (F32.sin angle)) i.2
  if F32.lt (F32.div set (F32.ofInt 8)) (mag ea eb) then
    s.modSpn (fun p => { p with vec := some (vecAt (sector (F32.atan2 eb ea)) 0) })
  else
    let (r, s1) := s.fresh 3
    s1.modSpn (fun p => { p with vec := some ⟨r % 8, Nat.mod_lt _ (by decide)⟩ })

/-- Handoff (R247): the flux at the open-loop angle, ω_r = HANDOFF, RUN. -/
def handOff (s : State) : State :=
  let th := s.spn.olAngle
  (s.modSpn (fun p => { p with
    psiA := F32.mul s.psiPm (F32.cos th), psiB := F32.mul s.psiPm (F32.sin th), theta := th, turns := []
    omega := F32.ofInt (s.get SPN_STRT_HANDOFF), handoff := 64, p1 := 0, p2 := 0, p3 := 0, stale := 0 })).spnTo 2

/-- One open-loop step (R247): the implied speed rises and the current vector turns. -/
def openLoop (s : State) : State :=
  let dt := F32.ofRatio s.stepUs 1000000
  let w := F32.add s.spn.olSpeed (F32.mul (F32.ofInt (s.get SPN_STRT2_OLRATE)) dt)
  let turn := F32.mul (F32.mul (F32.div (F32.mul twoPi w) (F32.ofInt 60)) (F32.ofInt (s.get SPN_MOT0_POLEP))) dt
  let s1 := s.modSpn (fun p => { p with olSpeed := w, olAngle := wrapAngle (F32.add p.olAngle turn) })
  if F32.lt w (F32.ofInt (s.get SPN_STRT_HANDOFF)) then alignVec s1 s1.spn.olAngle else handOff s1

/-- The vector of the next step under DTC (R239, R254). -/
def dtcVec (s : State) : State :=
  let (v0, s1) := vbusWatch (torqueRef s)
  let s2 := comparators s1
  let p := s2.spn
  s2.modSpn (fun p' => { p' with vec := some (if v0 then 0 else tableVec (sector p.theta) p.dpsi p.dtq p.vec)
                                 handoff := p'.handoff - 1 })

/-- The vector of the next step by state (Table 8-4, R247). -/
def nextVec (s : State) : State :=
  match s.spnState with
  | 1 =>
    match s.get SPN_STAT_SUB with
    | 0 => s.modSpn (fun p => { p with vec := if p.catchBrake then some 0 else none })
    | 1 => s.modSpn (fun p => { p with vec := some 0 })
    | 2 => alignVec s 0
    | _ => openLoop s
  | 2 | 3 | 4 | 7 => dtcVec s
  | 5 => s.modSpn (fun p => { p with vec := some 0 })
  | _ => s.modSpn (fun p => { p with vec := none })

/-! ### Speed limits and READY -/

/-- SPEED has fallen to BRKSPD in DECEL, or below RETMIN in RETURN (R253, R258). -/
def brakeCheck (s : State) : State :=
  if s.spnState = 4 ∧ s.speed ≤ 1024 * s.get SPN_STOP_BRKSPD then s.spnTo 5
  else if s.spnState = 7 ∧ s.speed < 1024 * s.get SPN_FLY_RETMIN then (returnEnds (some 1) s).spnTo 5
  else s

/-- SPEED falls below FLYMIN (R250): unload requests, once, and source 947. -/
def flyCheck (s : State) : State :=
  let low := decide (s.speed < 1024 * s.get SPN_FLY_FLYMIN)
  let s1 := s.modSpn (fun p => { p with flying := !low })
  if low && s.spn.flying then unloadAll (s1.raise 947) else s1

/-- SPEED lies within `k` × LOADTOL × 0.01 % of the effective target. -/
def State.nearTarget (s : State) (k : Nat) : Bool :=
  decide (((s.speed : Int) - 1024 * s.effTarget).natAbs * 10000 ≤ k * s.get SPN_PLAUS_LOADTOL * 1024 * s.effTarget)

/-- READY and its conditions after a step (R248). -/
def readyCheck (s : State) : State :=
  let cond := s.spnState == 2 && s.spn.omega == F32.ofInt s.effTarget && s.nearTarget 1
  let s1 := s.modSpn (fun p => { p with inBand := cond })
  if s1.is SPN_STAT_READY && !s1.nearTarget 4 then (s1.putb SPN_STAT_READY false).raiseIf (s1.spnState == 2) 951 else s1

/-- The end of a step: a gain change takes effect with a step of 5 µs (R233). -/
def stepEnd (s : State) : State :=
  let want := if s.spnState = 1 then s.get SPN_OBS_GAINS else s.get SPN_OBS_GAINR
  s.modSpn (fun p => { p with fresh := [], gain := want, longStep := decide (want ≠ p.gain) })

/-- SPINDLE_CONTROL_STEP (R232 to R258): no step runs in OFF with EN = 0, where the clocks stand (R34). -/
def spindleStep (s : State) : State :=
  if s.spnState = 0 ∧ s.is SPN_CTL_EN = false then s
  else stepEnd (readyCheck (flyCheck (nextVec (brakeCheck (targetActs (plausible (observerSpeed (observe s)))))))).updateRetOk

/-- SPINDLE_CONTROL_STEP. -/
def execSpindleControlStep (s : State) : Host.Outcome State Fault Refusal := .next (spindleStep s)

/-! ### Conversions and trips -/

/-- The VBUS low signal (R255). -/
def vbusLowCheck (s : State) : State :=
  let lo := 10000 * s.get SPN_VBUS_VBLO
  let v := s.vbusRaw
  let n := orOne (s.get SPN_STOP_VBLOCNT)
  let s1 := s.modSpn (fun p => { p with lowRun := if v < lo then p.lowRun + 1 else 0
                                        okRun := if lo + 20000 ≤ v then p.okRun + 1 else 0 })
  if !s1.is SPN_STAT_VBLOW && decide (n ≤ s1.spn.lowRun) then (s1.putb SPN_STAT_VBLOW true).raise 946
  else if s1.is SPN_STAT_VBLOW && decide (n ≤ s1.spn.okRun) then s1.putb SPN_STAT_VBLOW false
  else s1

/-- SPINDLE_CONVERSION (R234): the tagged word, whose SEQ counts the converter's kept conversions with this one. -/
def conversion (conv ch value : Nat) (s : State) : State :=
  let s1 := s.modSpn (fun p => { p with
    kept0 := if conv = 0 then (p.kept0 + 1) % 256 else p.kept0
    kept1 := if conv = 0 then p.kept1 else (p.kept1 + 1) % 256
    fresh := ch :: p.fresh })
  let sq := if conv = 0 then s1.spn.kept0 else s1.spn.kept1
  let s2 := ((((s1.put (SPN_ADCLAST_CONV ch) conv).put (SPN_ADCLAST_CH ch) ch).put (SPN_ADCLAST_GAIN ch)
    (if ch ≤ 2 then s.spn.gain else 0)).put (SPN_ADCLAST_SEQ ch) sq).put (SPN_ADCLAST_VALUE ch) value
  if ch = 6 then vbusLowCheck s2 else s2

/-- SPINDLE_CONVERSION. -/
def execSpindleConversion (conv : Fin 2) (ch : Fin 7) (value : BitVec 12) (s : State) :
    Host.Outcome State Fault Refusal := .next (conversion conv.val ch.val value.toNat s)

/-- OVERCURRENT_TRIP (R230): the bridge is off until the step's end, where the next vector is chosen; eight trips within
1 ms enter FAULT. -/
def overcurrent (s : State) : State :=
  let ts := (s.time :: s.spn.trips).filter (fun t => decide (s.time ≤ t + 100000))
  let s1 := ((s.bump SPN_CNT_OCTRIPS).raise 944).modSpn (fun p => { p with vec := none, trips := ts.take 8 })
  if 8 ≤ ts.length ∧ s1.spnState ≠ 0 ∧ s1.spnState ≠ 8 then spnFault s1 else s1

/-- OVERCURRENT_TRIP. -/
def execOvercurrentTrip (_phase : Fin 3) (s : State) : Host.Outcome State Fault Refusal := .next (overcurrent s)

/-! ### Control (R244 to R246) -/

/-- The first rule of Table 8-5 broken; 0 when none. -/
def State.spnCheck (s : State) : Nat :=
  let pp := s.get SPN_MOT0_POLEP
  let lo := s.get SPN_VBUS_VBLO
  let hi := s.get SPN_VBUS_VBHI
  let ov := s.get SPN_VBUS_VBOV
  if !(decide (1 ≤ pp) && decide (pp ≤ 8) && s.is SPN_MOT0_RS && s.is SPN_MOT0_PSI && s.is SPN_SCALE_ISC && s.is SPN_SCALE_VSC)
  then 1
  else if !(decide (s.get SPN_VBUS_VRET < lo) && decide (lo < hi) && decide (hi < ov) && decide (ov ≤ 160)) then 2
  else if !(decide (s.get SPN_STOP_BRKSPD < s.get SPN_STRT_HANDOFF) && decide (s.get SPN_STRT_HANDOFF < s.get SPN_FLY_RETMIN)
    && decide (s.get SPN_FLY_RETMIN < s.get SPN_FLY_FLYMIN) && decide (s.get SPN_FLY_FLYMIN ≤ 4800)) then 3
  else if !(s.is SPN_TQ_TQMAX && decide (s.get SPN_TQ_DECTQ ≤ s.get SPN_TQ_TQMAX)
    && decide (s.get SPN_RET_TQRET ≤ s.get SPN_TQ_TQMAX) && decide (s.get SPN_CUR_ISPIN < s.get SPN_CUR_IPK)) then 4
  else if !(decide (10000 * lo ≤ s.vbusRaw) && decide (s.vbusRaw ≤ 10000 * hi)) then 5
  else 0

/-- SPINDLE_ENABLE (R244, R245): EN written 1 acts in OFF. -/
def spindleEnable (s : State) : State :=
  let s1 := s.putb SPN_CTL_EN true
  if s.spnState ≠ 0 then s1
  else
    let e := s.spnCheck
    let s2 := (s1.expect [24, 25] true).put SPN_STAT_ERR e
    if e ≠ 0 then s2.raise 955
    else (((s2.put SPN_STAT_SUB 0).put SPN_STAT_RETEND 0).spnTo 1).modSpn (fun p => { p with
      attempts := 0, retryWait := false, catchBrake := false, wasReady := false, handoff := 0, vec := none })

/-- SPINDLE_ENABLE. -/
def execSpindleEnable (s : State) : Host.Outcome State Fault Refusal := .next (spindleEnable s)

/-- SPINDLE_DISABLE (R244): FAULT to OFF, else the stop path. -/
def spindleDisable (s : State) : State :=
  let s1 := s.putb SPN_CTL_EN false
  if s.spnState = 0 ∨ s.spnState = 8 then spnOff s1 else targetActs s1

/-- SPINDLE_DISABLE. -/
def execSpindleDisable (s : State) : Host.Outcome State Fault Refusal := .next (spindleDisable s)

/-- SPINDLE_KILL (R244): bridge off, OFF, unload requests. -/
def spindleKill (s : State) : State := unloadAll (spnOff (returnEnds none s))

/-- SPINDLE_KILL. -/
def execSpindleKill (s : State) : Host.Outcome State Fault Refusal := .next (spindleKill s)

/-- SPINDLE_TARGET_WRITE (R246). -/
def targetWrite (t : Nat) (s : State) : State := targetActs (s.put SPN_TARGET_TARGET t)

/-- SPINDLE_TARGET_WRITE. -/
def execSpindleTargetWrite (t : BitVec 14) (s : State) : Host.Outcome State Fault Refusal := .next (targetWrite t.toNat s)

/-! ### Measurements, start phases, timers -/

/-- A consistent measurement at HANDOFF or above with its flux in the P2 band (R242, R247). -/
def State.measureOk (s : State) (m : EmfMeasure) : Bool :=
  m.consistent && !F32.lt m.speed (F32.ofInt (s.get SPN_STRT_HANDOFF)) && s.inFluxBand (F32.div m.emf m.omega)

/-- The observer set from a measurement (R242): the angle less 90°, and the flux |e| / ω_e. -/
def observerFrom (m : EmfMeasure) (s : State) : State :=
  let th := wrapAngle (F32.sub m.angle (F32.ofFix (F32.fixPi / 2)))
  let r := F32.div m.emf m.omega
  s.modSpn (fun p => { p with theta := th, psiA := F32.mul r (F32.cos th), psiB := F32.mul r (F32.sin th), turns := []
                              p1 := 0, p2 := 0, p3 := 0, stale := 0 })

/-- The state that a successful resync returns to (R242, R256): RETURN while the power-loss signal is present. -/
def State.resyncTarget (s : State) : Nat :=
  let f := s.spn.from_
  if s.is PWR_PLSTAT_SIGNAL && (f == 2 || f == 3 || f == 4) then 7 else f

/-- RESYNC_MEASURE_END (R242): on failure SPN measures again, or enters FAULT after RSMAX failures within 1 s. -/
def resyncEnd (m : EmfMeasure) (s : State) : State :=
  if s.spnState ≠ 6 then s
  else if s.measureOk m then
    let t := s.resyncTarget
    ((observerFrom m s).spnTo t).raiseIf (t == 7 && s.spn.from_ != 7) 952
  else
    let ts := (s.time :: s.spn.resyncFails).filter (fun t => decide (s.time ≤ t + 100000000))
    let s1 := (s.raise 942).modSpn (fun p => { p with resyncFails := ts })
    if orOne (s.get SPN_PLAUS_RSMAX) ≤ ts.length then spnFault s1 else s1

/-- RESYNC_MEASURE_END. -/
def execResyncMeasureEnd (m : EmfMeasure) (s : State) : Host.Outcome State Fault Refusal := .next (resyncEnd m s)

/-- SPN is in START at phase `k`, not waiting after a failed attempt. -/
def State.startPhase (s : State) (k : Nat) : Bool := s.spnState == 1 && s.get SPN_STAT_SUB == k && !s.spn.retryWait

/-- START_CATCH_END (R247): RUN; or V0 for BRKT and phase 0 again; or precharge when no consistent advance is found. -/
def catchEnd (m : EmfMeasure) (s : State) : State :=
  if !s.startPhase 0 || s.spn.catchBrake then s
  else if s.measureOk m then
    let s1 := observerFrom m s
    let w := if s1.is SPN_SPEED_WEDGE then s1 else s1.showSpeed m.speed
    runAtSpeed w
  else if m.consistent then
    if F32.lt m.speed (F32.ofInt (s.get SPN_STRT_HANDOFF)) then
      s.modSpn (fun p => { p with catchBrake := true })
    else s
  else s.put SPN_STAT_SUB 1

/-- START_CATCH_END. -/
def execStartCatchEnd (m : EmfMeasure) (s : State) : Host.Outcome State Fault Refusal := .next (catchEnd m s)

/-- PRECHARGE_END: phase 1 to phase 2. -/
def prechargeEnd (s : State) : State := if s.startPhase 1 then s.put SPN_STAT_SUB 2 else s

/-- PRECHARGE_END. -/
def execPrechargeEnd (s : State) : Host.Outcome State Fault Refusal := .next (prechargeEnd s)

/-- ALIGN_END: phase 2 to phase 3, from rest at angle 0. -/
def alignEnd (s : State) : State :=
  if s.startPhase 2 then (s.put SPN_STAT_SUB 3).modSpn (fun p => { p with olSpeed := 0, olAngle := 0 }) else s

/-- ALIGN_END. -/
def execAlignEnd (s : State) : Host.Outcome State Fault Refusal := .next (alignEnd s)

/-- START_RETRY_EXPIRY: phase 0 again. -/
def retryExpiry (s : State) : State :=
  if s.spnState = 1 then (s.put SPN_STAT_SUB 0).modSpn (fun p => { p with retryWait := false }) else s

/-- START_RETRY_EXPIRY. -/
def execStartRetryExpiry (s : State) : Host.Outcome State Fault Refusal := .next (retryExpiry s)

/-- SPIN_TIME_LIMIT: READY has not become 1 within SPINT of EN written 1. -/
def spinLimit (s : State) : State :=
  let st := s.spnState
  if s.is SPN_CTL_EN && !s.spn.wasReady && !(st == 0 || st == 5 || st == 8) then spnFault s else s

/-- SPIN_TIME_LIMIT. -/
def execSpinTimeLimit (s : State) : Host.Outcome State Fault Refusal := .next (spinLimit s)

/-- READY_TIME_EXPIRY (R248): the conditions have held for READYT. -/
def readyExpiry (s : State) : State :=
  if s.spn.inBand && !s.is SPN_STAT_READY then
    ((s.putb SPN_STAT_READY true).raise 950).modSpn (fun p => { p with wasReady := true })
  else s

/-- READY_TIME_EXPIRY. -/
def execReadyTimeExpiry (s : State) : Host.Outcome State Fault Refusal := .next (readyExpiry s)

/-- HOLD_TIME_EXPIRY (R249): unload requests to the engines still loaded. -/
def holdExpiry (s : State) : State := if s.spnState = 3 then unloadAll s else s

/-- HOLD_TIME_EXPIRY. -/
def execHoldTimeExpiry (s : State) : Host.Outcome State Fault Refusal := .next (holdExpiry s)

/-- BRAKE_END (R253): BRAKE to OFF; in the catch phase, the measurement is repeated (R247). -/
def brakeEnd (s : State) : State :=
  if s.spnState = 5 then spnOff s
  else if s.spnState = 1 ∧ s.spn.catchBrake then s.modSpn (fun p => { p with catchBrake := false, vec := none })
  else s

/-- BRAKE_END. -/
def execBrakeEnd (s : State) : Host.Outcome State Fault Refusal := .next (brakeEnd s)

/-! ### SPIN_CMD (8.6) -/

/-- The ceiling of a window as a fraction of rpm (Table 8-6); none when the input is invalid. -/
def spinCeiling (mode : Nat) (i : SpinInput) : Option (Nat × Nat) :=
  match mode, i with
  | 1, .volts uv => if uv.isEmpty then none else some (9000 * min (1200000 * uv.length) uv.sum, 1000000 * uv.length)
  | 2, .duty cs lvl =>
    if cs.isEmpty then
      match lvl with
      | some b => some (if b then 10800 else 0, 1)
      | none => none
    else if cs.any (fun c => decide (c.2 < 1000) || decide (100000 < c.2)) then none
    else
      let r := cs.foldl (fun (a : Nat × Nat) c => (a.1 * c.2 + c.1 * a.2, a.2 * c.2)) (0, 1)
      some (10800 * r.1, r.2 * cs.length)
  | 3, .freq ps => if ps.isEmpty then some (0, 1) else some (min (4 * 100000000 * ps.length) (10800 * ps.sum), ps.sum)
  | _, _ => none

/-- SPIN_CMD_WINDOW (R251, R252): of a frequency's ceiling between two units, which one is open. -/
def spinWindow (i : SpinInput) (s : State) : State :=
  let mode := s.get SPN_CEIL_MODE
  if mode = 0 then s
  else
    match spinCeiling mode i with
    | none => ((s.putb SPN_CEIL_ERR true).raiseIf (!s.spn.badCmd) 948).modSpn (fun p => { p with badCmd := true })
    | some (a, b) =>
      let (c, s1) := if mode = 3 then s.quotient a b else (a / b, s)
      let c := min 10800 c
      let s2 := (s1.putb SPN_CEIL_ERR false).modSpn (fun p => { p with badCmd := false })
      let old := s2.get SPN_CEIL_CEIL
      if s2.is SPN_CEIL_VALID && decide (((c : Int) - old).natAbs ≤ 8) then s2
      else targetActs ((s2.put SPN_CEIL_CEIL c).putb SPN_CEIL_VALID true)

/-- SPIN_CMD_WINDOW. -/
def execSpinCmdWindow (i : SpinInput) (s : State) : Host.Outcome State Fault Refusal := .next (spinWindow i s)

/-! ### Power loss (R256, R258) -/

/-- The power-loss signal meets SPN (R256): RUN, HOLD and DECEL enter RETURN. -/
def spnPowerLoss (s : State) : State :=
  let st := s.spnState
  if st = 2 ∨ st = 3 ∨ st = 4 then (s.spnTo 7).raise 952 else s

/-- The power-loss signal is withdrawn (R258): RETURN ends in RUN at the measured speed. -/
def spnPowerBack (s : State) : State := if s.spnState = 7 then runAtSpeed (returnEnds (some 2) s) else s

end Sys2Proof.Machine
end

