-- ==== Sys2Proof/Machine/Loader.lean ====
section
/-! DEFINITION. Meanings of AM_LOAD and OM_LOAD: the image loader and its checks (spec 6.7). -/

namespace Sys2Proof.Machine

/-- The image that a loader's image is an envelope and body of. -/
def imageOf (im : AvImage) : Image := ⟨im.env, im.body⟩

/-! ### Checks (Table 6-10) -/

/-- A nanoword's reserved fields and codes are 0, and its IO and ALU fields agree (rule 2). -/
def nanoOk (w : Nat) : Bool :=
  let io := bitsOf w 77 2
  let alu := bitsOf w 92 4
  let port := bitsOf w 71 6
  let writes := decide (1 ≤ alu ∧ alu ≤ 8)
  bitsOf w 0 44 == 0 && decide (alu ≤ 9) && io != 3 && bitsOf w 68 3 != 7 && decide (bitsOf w 64 3 ≤ 2) && decide (bitsOf w 61 3 ≤ 3)
    && decide (bitsOf w 59 2 ≤ 1) && bitsOf w 57 2 != 3 && bitsOf w 55 2 != 3 && bitsOf w 51 2 != 3 && bitsOf w 45 2 != 3
    && (io == 0 || decide (port ≤ 0x15) || port == 0x20)
    && !(io == 1 && writes) && !((io == 1 || writes) && bitsOf w 88 4 == 15)

/-- A nanoword uses no vendor-only field or code and does not read port 0x20 (rule 6). -/
def nanoOwner (w : Nat) : Bool :=
  bitsOf w 68 3 != 4 && bitsOf w 67 1 == 0 && bitsOf w 53 2 != 3 && bitsOf w 47 2 != 3 && bitsOf w 45 2 != 2 && bitsOf w 44 1 == 0
    && !(bitsOf w 77 2 == 1 && bitsOf w 71 6 == 0x20)

/-- The first broken word among words by address. -/
def firstBad (ws : List (Nat × Nat)) (ok : Nat → Nat → Bool) : Option Nat := (ws.find? (fun w => !ok w.1 w.2)).map Prod.fst

/-- An address of the owner region, or a valid export. -/
def State.ownerTarget (s : State) (n : Fin 4) (a : Nat) : Bool :=
  decide (3072 ≤ a) || (List.range 64).any (fun k => s.is (AV_SEQEXP_VALID n k) && s.get (AV_SEQEXP_ADDR n k) == a)

/-- The first rule that an AM breaks and the offending address. -/
def State.amCheck (s : State) (n : Fin 4) (im : AvImage) : Option (Nat × Nat) :=
  if s.seqState n ≠ 0 then some (1, 0)
  else match firstBad im.nano (fun _ w => nanoOk w) with
    | some a => some (2, a)
    | none => match firstBad im.micro (fun _ w => decide ((microWord w).nano ≤ 767)) with
      | some a => some (3, a)
      | none =>
        if 3071 < im.base + 15 then some (4, im.base % 4096)
        else (im.exps.find? (fun e => decide (3072 ≤ e.2))).map (fun e => (4, e.2 % 4096))

/-- The first rule that an OM breaks and the offending address. -/
def State.omCheck (s : State) (n : Fin 4) (im : AvImage) : Option (Nat × Nat) :=
  if s.seqState n ≠ 0 ∧ s.seqState n ≠ 4 then some (1, 0)
  else match firstBad im.nano (fun _ w => nanoOk w) with
    | some a => some (2, a)
    | none => match firstBad im.micro (fun _ w => decide (768 ≤ (microWord w).nano)) with
      | some a => some (3, a)
      | none =>
        if (imageOf im).ifver % 65536 ≠ s.get (AV_SEQVER_AMIF n) then some (5, 0)
        else match firstBad im.nano (fun _ w => nanoOwner w) with
          | some a => some (6, a)
          | none => match firstBad im.micro (fun _ w => s.ownerTarget n (microWord w).next && s.ownerTarget n (microWord w).alt) with
            | some a => some (7, a)
            | none => (im.entries.find? (fun e => !decide (3072 ≤ e.2 ∧ e.2 < 4096))).map (fun e => (7, e.2 % 4096))

/-- A load is refused (R186): CODE and the address, and source 83. -/
def State.loadRefused (s : State) (n : Fin 4) (e : Nat × Nat) : State :=
  ((s.put (AV_SEQLDST_CODE n) e.1).put (AV_SEQLDST_ADDR n) e.2).raise (avSrc n 83)

/-! ### Loading (R187, R189) -/

/-- Microwords and nanowords are written to the stores. -/
def State.writeStores (s : State) (n : Fin 4) (im : AvImage) : State :=
  let s1 := im.micro.foldl (fun t w => (t.wr (AV_UCODE n w.1 0) (BitVec.ofNat 32 w.2)).wr (AV_UCODE n w.1 1)
    (BitVec.ofNat 32 (w.2 / 2 ^ 32 % 256))) s
  im.nano.foldl (fun t w => (List.range 4).foldl (fun u j => u.wr (AV_NCODE n w.1 j) (BitVec.ofNat 32 (w.2 / 2 ^ (32 * j)))) t) s1

/-- An image of a class is verified, and measured unless the image in force is the same (R447, R448). -/
def State.letIn (s : State) (im : AvImage) (cls : Nat) : Bool × State :=
  let x := imageOf im
  if x.cls ≠ cls then (false, s.raise 998)
  else match s.verify x with
    | (true, s1) => (true, if (s1.tgt.loaded.getD cls none).map Loaded.digest = some x.digest then s1 else s1.measure x)
    | r => r

/-- The loaded OM is dropped: owner opcodes have no entry. -/
def State.dropOm (s : State) (n : Fin 4) : State :=
  (List.range 64).foldl (fun t k => t.putb (AV_OMENTRY_VALID n k) false) ((s.putb (AV_SEQLDST_OMOK n) false).put (AV_SEQVER_OMIF n) 0)

/-- AM_LOAD: the words, the trap base, the exports and the interface version; an OM built against another interface
version is refused under rule 5 (R189). -/
def amLoad (n : Fin 4) (im : AvImage) (s : State) : State :=
  match s.letIn im 1 with
  | (false, s1) => s1
  | (true, s1) => match s1.amCheck n im with
    | some e => s1.loadRefused n e
    | none =>
      let s2 := (s1.writeStores n im).put (AV_SEQTRAP_BASE n) im.base
      let s3 := (List.range 64).foldl (fun t k => match im.exps.find? (fun e => e.1 == k) with
        | some e => (t.put (AV_SEQEXP_ADDR n k) e.2).putb (AV_SEQEXP_VALID n k) true
        | none => (t.put (AV_SEQEXP_ADDR n k) 0).putb (AV_SEQEXP_VALID n k) false) s2
      let s4 := (s3.put (AV_SEQVER_AMIF n) (imageOf im).ifver).putb (AV_SEQLDST_AMOK n) true
      if s4.is (AV_SEQLDST_OMOK n) && s4.get (AV_SEQVER_OMIF n) != s4.get (AV_SEQVER_AMIF n) then (s4.dropOm n).loadRefused n (5, 0)
      else s4

/-- AM_LOAD. -/
def execAmLoad (n : Fin 4) (im : AvImage) (s : State) : Host.Outcome State Fault Refusal := .next (amLoad n im s)

/-- OM_LOAD: the owner region, the entry table and OMIF; HOLD is cleared, and a parked sequencer waits again. -/
def omLoad (n : Fin 4) (im : AvImage) (s : State) : State :=
  match s.letIn im 5 with
  | (false, s1) => s1
  | (true, s1) => match s1.omCheck n im with
    | some e => s1.loadRefused n e
    | none =>
      let s2 := (List.range 64).foldl (fun t k => match im.entries.find? (fun e => e.1 == k) with
        | some e => (t.put (AV_OMENTRY_ADDR n k) e.2).putb (AV_OMENTRY_VALID n k) true
        | none => (t.put (AV_OMENTRY_ADDR n k) 0).putb (AV_OMENTRY_VALID n k) false) (s1.writeStores n im)
      let s3 := ((s2.put (AV_SEQVER_OMIF n) (imageOf im).ifver).putb (AV_SEQLDST_OMOK n) true).putb (AV_SEQCTL_HOLD n) false
      if s3.seqState n = 4 then s3.put (AV_SEQSTAT_STATE n) 2 else s3

/-- OM_LOAD. -/
def execOmLoad (n : Fin 4) (im : AvImage) (s : State) : Host.Outcome State Fault Refusal := .next (omLoad n im s)

end Sys2Proof.Machine
end

