-- ==== Sys2Proof/Machine/Firmware.lean ====
section
/-! DEFINITION. Meanings of Firmware Image Download and Firmware Commit, of activation without reset, and of the Security
commands (spec 13.7, 15.5 and 20.4). -/

namespace Sys2Proof.Machine

/-! ### Download (R541) -/

/-- The staged bytes: the parts in order of their offsets, as far as they join. -/
def stagedBytes (parts : List (Nat × List Byte)) : Nat → List Byte → List Byte
  | 0, acc => acc
  | k + 1, acc => match parts.find? (fun p => p.1 == acc.length && !p.2.isEmpty) with
    | some p => stagedBytes parts k (acc ++ p.2)
    | none => acc

/-- The images that the staged bytes hold. -/
def State.stagedImages (s : State) : Option (List Image) :=
  parseImages 32 (stagedBytes s.pwr.partials s.pwr.partials.length [])

/-- FIRMWARE_IMAGE_DOWNLOAD: a part that overlaps an earlier one is refused. -/
def imageDownload (tag : Nat) (p : DownloadPart) (s : State) : State :=
  match s.adminCmd tag 0x11 with
  | none => s
  | some _ =>
    if s.pwr.partials.any (fun q => decide (q.1 < p.offset + p.bytes.length ∧ p.offset < q.1 + q.2.length)) then s.complete tag 1 0x14 0
    else { s with pwr := { s.pwr with partials := s.pwr.partials ++ [(p.offset, p.bytes)] } }.ok tag

/-- FIRMWARE_IMAGE_DOWNLOAD. -/
def execFirmwareImageDownload (tag : Nat) (p : DownloadPart) (s : State) : Host.Outcome State Fault Refusal :=
  .next (imageDownload tag p s)

/-! ### Commit (R407, R541, R544) -/

/-- Every staged image verifies; a refusal raises its source. -/
def State.verifyAll (s : State) : List Image → Bool × State
  | [] => (true, s)
  | im :: rest => match s.verify im with
    | (true, s1) => s1.verifyAll rest
    | (false, s1) => (false, s1)

/-- The staged manifest and images written to a slot (CA 000b and 001b): none where an image does not verify, or no
combination is complete, or the 24 image places are too few. -/
def State.storeStaged (s : State) (b : Bool) : Bool × State :=
  match s.stagedImages with
  | none => (false, s)
  | some ims =>
    match s.verifyAll ims, (ims.filter (fun im => im.cls == 6)).getLast? with
    | (false, s1), _ => (false, s1)
    | (true, s1), none => (false, s1)
    | (true, s1), some m =>
      let kept : List (List Byte) := ((s1.slotOf (!b)).map Image.names).getD [] ++ m.names
      let fresh := ims.filter (fun im => im.cls != 6)
      let old := s1.pwr.places.filter (fun im => kept.contains im.digest && !fresh.any (fun x => x.digest == im.digest))
      let s2 : State := { s1 with pwr := { s1.pwr with places := old ++ fresh } }
      if decide (24 < (old ++ fresh).length) || (s2.chooseCombo m).isNone then (false, s1)
      else (true, { s2 with pwr := { s2.pwr with
        partials := [], slotA := if b then s2.pwr.slotA else some m, slotB := if b then some m else s2.pwr.slotB } })

/-- ACTIVE := FS, in the boot record and in PWR_IMG. -/
def State.setActive (s : State) (b : Bool) : State :=
  { s with pwr := { s.pwr with active := b } }.putb PWR_IMG_ACTIVE b

/-- A commit that succeeds in Cul-de-sac mode sets ATTEMPTS := 0 and ACTIVE := FS, and PERST_A_N may start the device afresh
(R544); claim mode does the same but leaves ATTEMPTS (R546). -/
def State.restrictedCommit (s : State) (b : Bool) : State :=
  if s.restricted then
    ({ s with pwr := { s.pwr with
      attempts := if s.get PWR_STATE_STATE = 5 then 0 else s.pwr.attempts, restart := true } }).setActive b
  else s

/-- An image of the class differs from the one loaded. -/
def State.differs (s : State) (m : Image) (c k : Nat) : Bool :=
  let d := (m.entry c k).digest
  match s.tgt.loaded.getD k none with
  | some l => l.digest != d
  | none => !(m.entry c k).none?

/-- Activation without reset begins (R407, Table 13-3, step 1): events, PP, and the wait for commands in flight. -/
def State.beginActivation (s : State) (tag : Nat) (slot : Nat) : State :=
  let s1 := (List.range 128).foldl (fun t f =>
    if (t.ctl f).ccEn then
      let u := if bitsOf ((t.ctl f).feat 0xB) 9 1 = 1 then t.asyncEvent f 2 1 else t
      u.modCtl f (fun c => { c with pp := true })
    else t) s
  ((({ s1 with rbt := { s1.rbt with act := some ⟨tag, slot, none⟩ } }.put RBT_ACT_STEP 3).raise 146).modCmd tag (fun c =>
    { c with phase := .parked })).activationStep

/-- FIRMWARE_COMMIT: CDW10 [2:0] FS (0 = the slot that is not ACTIVE), [5:3] CA. -/
def firmwareCommit (tag : Nat) (s : State) : State :=
  match s.adminCmd tag 0x10 with
  | none => s
  | some c =>
    let fs := bitsOf c.sqe.c10 0 3
    let ca := bitsOf c.sqe.c10 3 3
    let b : Bool := if fs = 0 then !s.pwr.active else fs == 2
    let inUse := (s.tgt.loaded.getD 6 none).isSome && s.is PWR_IMG_RUN == b
    if 3 < ca then s.refuse tag 0
    else if 2 < fs ∨ inUse then s.complete tag 1 6 0
    else if ca ≤ 1 then
      match s.storeStaged b with
      | (false, s1) => s1.complete tag 1 7 0
      | (true, s1) => ((if ca = 1 then s1.setActive b else s1).restrictedCommit b).ok tag
    else match s.slotOf b with
      | none => s.complete tag 1 7 0
      | some m =>
        if ca = 2 then ((s.setActive b).restrictedCommit b).ok tag
        else if s.restricted then s.complete tag 1 0xB 0
        else match s.chooseCombo m with
          | none => (s.raise 148).complete tag 1 7 0
          | some k =>
            if s.differs m k 2 || s.differs m k 3 then ((s.setActive b).raise 148).complete tag 1 0xB 0
            else (s.setActive b).beginActivation tag (if b then 2 else 1)

/-- FIRMWARE_COMMIT. -/
def execFirmwareCommit (tag : Nat) (s : State) : Host.Outcome State Fault Refusal := .next (firmwareCommit tag s)

/-! ### Activation (R407, R543, Table 13-3) -/

/-- Step 5 for one class: a new image is measured; a new AM stops every sequencer, and a new OM alone holds them so that
they park (R189). The image loader's rows then write the stores. -/
def State.switchImage (s : State) (m : Image) (c k : Nat) : State :=
  if !s.differs m c k then s
  else
    let s1 := match s.place? (m.entry c k).digest with
      | some im => s.measure im
      | none => { s with tgt := { s.tgt with loaded := s.tgt.loaded.set k none } }
    if k = 1 then (List.finRange 4).foldl (fun t n => t.seqStopTo n 0) s1
    else if k = 5 then (List.finRange 4).foldl (fun t n => if t.seqState n = 0 then t else t.putb (AV_SEQCTL_HOLD n) true) s1
    else s1

/-- ACTIVATION_SWITCH: once commands have completed and the window is drained (steps 5 and 6). -/
def activationSwitch (bad : Option Nat) (s : State) : State :=
  match s.rbt.act with
  | none => s
  | some a =>
    if s.get RBT_ACT_STEP ≠ 5 then s
    else
      let b := a.slot == 2
      match s.slotOf b with
      | none => s
      | some m =>
        match s.chooseCombo m with
        | none => s
        | some c =>
          let s1 := (List.range 6).foldl (fun t k => t.switchImage m c k) s
          let s2 := (((s1.measure m).putb PWR_IMG_RUN b).put PWR_IMG_COMB c).makeLkg b bad
          let s3 := (List.range 128).foldl (fun t f => t.modCtl f (fun k => { k with pp := false })) s2
          ({ s3 with rbt := { s3.rbt with act := none } }.put RBT_ACT_STEP 0).ok a.tag

/-- ACTIVATION_SWITCH. -/
def execActivationSwitch (bad : Option Nat) (s : State) : Host.Outcome State Fault Refusal := .next (activationSwitch bad s)

/-- ACTIVATION_ABORT_TIMEOUT: commands still in flight 2 s after activation began end with Activation Abort; source 147. -/
def activationAbort (s : State) : State :=
  match s.rbt.act with
  | none => s
  | some a =>
    let late := s.rbt.cmds.filter (fun c => c.tag != a.tag && !(c.phase == .parked) && !(c.phase == .done))
    if s.get RBT_ACT_STEP ≠ 3 || late.isEmpty then s
    else
      let s1 := late.foldl (fun t c => t.endCmd c.tag 7 0xC1) s
      ({ s1 with rbt := { s1.rbt with log := s1.rbt.log.modify 4 (· + late.length) } }.raise 147).activationStep

/-- ACTIVATION_ABORT_TIMEOUT. -/
def execActivationAbortTimeout (s : State) : Host.Outcome State Fault Refusal := .next (activationAbort s)

/-! ### Security Send and Receive (R450) -/

/-- The security protocol of SPDM in CDW10[31:24]. -/
def spdmProtocol (c : Cmd) : Bool := bitsOf c.sqe.c10 24 8 == 0xE8

/-- SECURITY_SEND: an SPDM request is delivered; its own row answers it. -/
def securitySend (tag : Nat) (s : State) : State :=
  match s.adminCmd tag 0x81 with
  | none => s
  | some c => if spdmProtocol c then s.ok tag else s.refuse tag 0

/-- SECURITY_SEND. -/
def execSecuritySend (tag : Nat) (s : State) : Host.Outcome State Fault Refusal := .next (securitySend tag s)

/-- The code of an SPDM response, its two parameters, and what follows. -/
def spdmParts : SpdmResponse → Nat × Nat × Nat × List Byte
  | .version => (0x04, 0, 0, [0, 1, 0x00, 0x12])
  | .capabilities => (0x61, 0, 0, (List.range 16).map (Config.spdmByte 0x61))
  | .algorithms => (0x63, 0, 0, (List.range 48).map (Config.spdmByte 0x63))
  | .digests ds => (0x01, 0, (ds.map (fun d => 2 ^ d.1)).sum, ds.flatMap Prod.snd)
  | .certificate slot part left => (0x02, slot, 0, leBytes 2 part.length ++ leBytes 2 left ++ part)
  | .challengeAuth slot d nonce sig => (0x03, slot, 2 ^ slot, d ++ nonce ++ sig)
  | .measurements bs sig => (0x60, bs.length, 0, bs.flatMap (fun b => leBytes 1 b.1 ++ b.2) ++ (match sig with
      | some (nonce, s) => nonce ++ s
      | none => []))
  | .keyExchangeRsp m rand sig => (0x64, 0, 0, leBytes 1 (if m then 1 else 0) ++ rand ++ sig)
  | .finishRsp => (0x65, 0, 0, [])
  | .endSessionAck => (0x6C, 0, 0, [])
  | .heartbeatAck => (0x68, 0, 0, [])
  | .keyUpdateAck => (0x69, 0, 0, [])
  | .encapsulatedRequest => (0x6A, 0, 0, [])
  | .encapsulatedResponseAck => (0x6B, 0, 0, [])
  | .csr sig => (0x6D, 0, 0, sig)
  | .setCertificateRsp => (0x6E, 1, 0, [])
  | .vendorDefined => (0x7E, 0, 0, [])
  | .error code => (0x7F, code, 0, [])

/-- A response in bytes: version 1.2, code, parameters, payload. -/
def spdmBytes (r : SpdmResponse) : List Byte :=
  let (code, p1, p2, rest) := spdmParts r
  leBytes 1 0x12 ++ leBytes 1 code ++ leBytes 1 p1 ++ leBytes 1 p2 ++ rest

/-- SECURITY_RECEIVE: the controller's last SPDM response is returned, up to the allocation length in CDW11. -/
def securityReceive (tag : Nat) (s : State) : State :=
  match s.adminCmd tag 0x82 with
  | none => s
  | some c =>
    if spdmProtocol c then 
      (s.answer tag ((((KMap.get (fun _ => (none : Option SpdmResponse)) s.tgt.response c.fn).map spdmBytes).getD []).take c.sqe.c11)).ok tag
    else s.refuse tag 0

/-- SECURITY_RECEIVE. -/
def execSecurityReceive (tag : Nat) (s : State) : Host.Outcome State Fault Refusal := .next (securityReceive tag s)

end Sys2Proof.Machine
end

