-- ==== Sys2Proof/Machine/Spdm.lean ====
section
/-! DEFINITION. Meanings of the SPDM requests, of tenants' credentials and of the entropy source's events (spec 15.1, 15.5 to
15.7). -/

namespace Sys2Proof.Machine

/-! ### Entropy (R435) -/

/-- ENTROPY_HEALTH_FAIL. -/
def execEntropyHealthFail (s : State) : Host.Outcome State Fault Refusal := .next (entropyFail s)

/-- ENTROPY_HEALTH_RECOVER. -/
def execEntropyHealthRecover (s : State) : Host.Outcome State Fault Refusal := .next (s.putb TGT_STAT_ENTOK true)

/-! ### Responses -/

/-- A controller's response. -/
def State.spdm (s : State) (f : Nat) (r : SpdmResponse) : State :=
  { s with tgt := { s.tgt with response := KMap.set (fun _ => none) s.tgt.response f (some r) } }

/-- ERROR codes of SPDM: InvalidRequest, Busy, UnexpectedRequest, Unspecified, UnsupportedRequest, SessionLimitExceeded and
SessionRequired. -/
def errInvalid : Nat := 1
def errBusy : Nat := 3
def errUnexpected : Nat := 4
def errUnspecified : Nat := 5
def errUnsupported : Nat := 7
def errSessionLimit : Nat := 0xA
def errSessionRequired : Nat := 0xB

/-- An ERROR response. -/
def State.spdmError (s : State) (f code : Nat) : State := s.spdm f (.error code)

/-- How far a controller's connection stands: 0, version, capabilities, algorithms. -/
def State.conn (s : State) (f : Nat) : Nat := KMap.get (fun _ => 0) s.tgt.conn f

/-- The state with a connection's stage set. -/
def State.setConn (s : State) (f k : Nat) : State := { s with tgt := { s.tgt with conn := KMap.set (fun _ => 0) s.tgt.conn f k } }

/-- A controller's session. -/
def State.session (s : State) (f : Nat) : Option Session := s.tgt.sessions.find? (fun x => x.fn == f)

/-- The state with a controller's session changed; a message arrived in it. -/
def State.modSession (s : State) (f : Nat) (g : Session → Session) : State :=
  { s with tgt := { s.tgt with sessions := s.tgt.sessions.map (fun x => if x.fn = f then { g x with last := s.time } else x) } }

/-- `n` random bytes. -/
def State.randomBytes (s : State) (n : Nat) : List Byte × State :=
  let (v, s1) := s.fresh (8 * n)
  (beNum n v, s1)

/-- A DIK signature over bytes; none while DIK is zeroised or randomness fails (R435, R452). -/
def State.sign (s : State) (m : List Byte) : Option (List Byte × State) :=
  match s.tgt.drs with
  | some d => if s.tgt.dik && s.is TGT_STAT_ENTOK then
      let (v, s1) := s.fresh 256
      some (Config.dikSign d m v, s1)
    else none
  | none => none

/-! ### Requests (Table 15-6) -/

/-- GET_VERSION: 1.2; the connection begins again. -/
def getVersion (f : Nat) (s : State) : State := (s.setConn f 1).spdm f .version

/-- GET_VERSION. -/
def execGetVersion (f : Fin 128) (s : State) : Host.Outcome State Fault Refusal := .next (getVersion f.val s)

/-- GET_CAPABILITIES. -/
def getCapabilities (f : Nat) (s : State) : State :=
  if s.conn f = 0 then s.spdmError f errUnexpected else (s.setConn f (max 2 (s.conn f))).spdm f .capabilities

/-- GET_CAPABILITIES. -/
def execGetCapabilities (f : Fin 128) (s : State) : Host.Outcome State Fault Refusal := .next (getCapabilities f.val s)

/-- NEGOTIATE_ALGORITHMS: ECDSA P-384, SHA-384, secp384r1, AES-256-GCM and the SPDM key schedule, where offered. -/
def negotiateAlgorithms (f : Nat) (offered : Bool) (s : State) : State :=
  if s.conn f < 2 then s.spdmError f errUnexpected
  else if !offered then s.spdmError f errInvalid
  else (s.setConn f 3).spdm f .algorithms

/-- NEGOTIATE_ALGORITHMS. -/
def execNegotiateAlgorithms (f : Fin 128) (offered : Bool) (s : State) : Host.Outcome State Fault Refusal :=
  .next (negotiateAlgorithms f.val offered s)

/-- A request that needs the algorithms negotiated. -/
def State.negotiated (s : State) (f : Nat) (k : State → State) : State := if s.conn f < 3 then s.spdmError f errUnexpected else k s

/-- The chain of a certificate slot; slots other than 0 and 1 are empty (R451). -/
def State.chainOf (s : State) (slot : Nat) : List Byte := if slot = 0 then s.tgt.cert0 else if slot = 1 then s.tgt.cert1 else []

/-- A message comes in a controller's session, if it has one (R453). -/
def State.touch (s : State) (f : Nat) : State := s.modSession f id

/-- GET_DIGESTS. -/
def getDigests (f : Nat) (s : State) : State :=
  s.negotiated f (fun t => (t.touch f).spdm f (.digests (([0, 1].filter (fun k => !(t.chainOf k).isEmpty)).map (fun k =>
    (k, sha384 (t.chainOf k))))))

/-- GET_DIGESTS. -/
def execGetDigests (f : Fin 128) (s : State) : Host.Outcome State Fault Refusal := .next (getDigests f.val s)

/-- GET_CERTIFICATE. -/
def getCertificate (f slot offset length : Nat) (s : State) : State :=
  s.negotiated f (fun t =>
    let c := t.chainOf slot
    if c.length ≤ offset then t.spdmError f errInvalid
    else (t.touch f).spdm f (.certificate slot ((c.drop offset).take length) ((c.drop offset).drop length).length))

/-- GET_CERTIFICATE. -/
def execGetCertificate (f : Fin 128) (slot offset length : Nat) (s : State) : Host.Outcome State Fault Refusal :=
  .next (getCertificate f.val slot offset length s)

/-- CHALLENGE. -/
def challenge (f slot : Nat) (s : State) : State :=
  s.negotiated f (fun t =>
    if (t.chainOf slot).isEmpty then t.spdmError f errInvalid
    else
      let (nonce, t1) := t.randomBytes 32
      let d := sha384 (t.chainOf slot)
      match t1.sign (d ++ nonce) with
      | some (sig, t2) => (t2.touch f).spdm f (.challengeAuth slot d nonce sig)
      | none => t.spdmError f errUnspecified)

/-- CHALLENGE. -/
def execChallenge (f : Fin 128) (slot : Nat) (s : State) : Host.Outcome State Fault Refusal := .next (challenge f.val slot s)

/-- Measurement blocks 1 to 17 (R452). -/
def State.measurementBlocks (s : State) : List (Nat × List Byte) :=
  (List.range 10).map (fun k => (k + 1, s.tgt.mr.getD k [])) ++ (List.range 7).map (fun k =>
    (k + 11, match s.tgt.loaded.getD k none with
      | some l => l.digest
      | none => []))

/-- GET_MEASUREMENTS, signed or unsigned (R452). -/
def getMeasurements (f : Nat) (signed : Bool) (s : State) : State :=
  s.negotiated f (fun t =>
    let b := t.measurementBlocks
    if signed then
      let (nonce, t1) := t.randomBytes 32
      match t1.sign (b.flatMap Prod.snd ++ nonce) with
      | some (sig, t2) => (t2.touch f).spdm f (.measurements b (some (nonce, sig)))
      | none => t.spdmError f errUnspecified
    else (t.touch f).spdm f (.measurements b none))

/-- GET_MEASUREMENTS. -/
def execGetMeasurements (f : Fin 128) (signed : Bool) (s : State) : Host.Outcome State Fault Refusal :=
  .next (getMeasurements f.val signed s)

/-! ### Sessions (R453, R454) -/

/-- KEY_EXCHANGE: at most 8 sessions, one per controller; a mutual one while another is under way or held receives Busy, and
after 8 failed authentications it is refused. -/
def keyExchange (f : Nat) (mutAuth : Bool) (s : State) : State :=
  s.negotiated f (fun t =>
    if (t.session f).isSome ∨ 8 ≤ t.tgt.sessions.length then t.spdmError f errSessionLimit
    else if mutAuth && t.tgt.sessions.any (fun x => x.mutAuth || x.owner) then t.spdmError f errBusy
    else if mutAuth && decide (8 ≤ t.tgt.authFails) then t.spdmError f errUnspecified
    else
      let (rand, t1) := t.randomBytes 32
      match t1.sign rand with
      | none => t.spdmError f errUnspecified
      | some (sig, t2) =>
        let x : Session := ⟨f, mutAuth, none, false, false, 0, 0, t2.time⟩
        ({ t2 with tgt := { t2.tgt with sessions := t2.tgt.sessions ++ [x] } }.sessionRegs).spdm f (.keyExchangeRsp mutAuth rand sig))

/-- KEY_EXCHANGE. -/
def execKeyExchange (f : Fin 128) (mutAuth : Bool) (s : State) : Host.Outcome State Fault Refusal :=
  .next (keyExchange f.val mutAuth s)

/-- The filled, unrevoked owner slot that a requester's chain verifies to. -/
def State.ownerSlot (s : State) (c : Option RequesterChain) : Option Nat :=
  match c with
  | some r => if r.valid then (List.range 4).find? (fun k => s.rootHash 1 k == some (sha384 r.root)) else none
  | none => none

/-- A failed owner authentication (R454): counted, source 1003, and the session does not come about. -/
def State.authFail (s : State) (f : Nat) : State :=
  let s1 := (s.bump TGT_CNT_AUTHFAIL).raise 1003
  ({ s1 with tgt := { s1.tgt with authFails := s1.tgt.authFails + 1 } }.endSession f).spdmError f errUnspecified

/-- FINISH: the session is established; it is an owner session where R454 says so. -/
def finishSession (f : Nat) (p : FinishProof) (s : State) : State :=
  match s.session f with
  | none => s.spdmError f errSessionRequired
  | some x =>
    if x.established then s.spdmError f errUnexpected
    else if !p.hmac then (s.endSession f).spdmError f errUnspecified
    else
      let held := s.tgt.sessions.any (fun y => y.owner)
      if s.get TGT_STAT_LIFE = 1 ∧ f = 0 ∧ held = false then
        (((s.modSession f (fun y => { y with established := true, owner := true })).sessionRegs).raise 1001).spdm f .finishRsp
      else if x.mutAuth then
        match s.ownerSlot x.chain with
        | some k =>
          if !p.sig then s.authFail f
          else if f < 2 ∧ held = false then
            (((s.modSession f (fun y => { y with established := true, owner := true, slot := k })).sessionRegs).raise 1001).spdm f .finishRsp
          else (s.modSession f (fun y => { y with established := true })).spdm f .finishRsp
        | none => s.authFail f
      else (s.modSession f (fun y => { y with established := true })).spdm f .finishRsp

/-- FINISH. -/
def execFinish (f : Fin 128) (p : FinishProof) (s : State) : Host.Outcome State Fault Refusal := .next (finishSession f.val p s)

/-- A request that needs an established session. -/
def State.inSession (s : State) (f : Nat) (k : State → State) : State :=
  match s.session f with
  | some x => if x.established then k (s.touch f) else s.spdmError f errSessionRequired
  | none => s.spdmError f errSessionRequired

/-- END_SESSION. -/
def execEndSession (f : Fin 128) (s : State) : Host.Outcome State Fault Refusal :=
  .next (s.inSession f.val (fun t => (t.endSession f.val).spdm f.val .endSessionAck))

/-- HEARTBEAT. -/
def execHeartbeat (f : Fin 128) (s : State) : Host.Outcome State Fault Refusal :=
  .next (s.inSession f.val (fun t => t.spdm f.val .heartbeatAck))

/-- KEY_UPDATE. -/
def execKeyUpdate (f : Fin 128) (s : State) : Host.Outcome State Fault Refusal :=
  .next (s.inSession f.val (fun t => (t.modSession f.val (fun x => { x with updates := x.updates + 1 })).spdm f.val .keyUpdateAck))

/-- GET_ENCAPSULATED_REQUEST: in a session that asked for mutual authentication, the device asks for the requester's chain. -/
def getEncapsulated (f : Nat) (s : State) : State :=
  match s.session f with
  | some x => if x.mutAuth && !x.established then (s.touch f).spdm f .encapsulatedRequest else s.spdmError f errUnexpected
  | none => s.spdmError f errSessionRequired

/-- GET_ENCAPSULATED_REQUEST. -/
def execGetEncapsulatedRequest (f : Fin 128) (s : State) : Host.Outcome State Fault Refusal := .next (getEncapsulated f.val s)

/-- DELIVER_ENCAPSULATED_RESPONSE: the requester's chain arrives. -/
def deliverEncapsulated (f : Nat) (c : RequesterChain) (s : State) : State :=
  match s.session f with
  | some x => if x.mutAuth && !x.established then (s.modSession f (fun y => { y with chain := some c })).spdm f .encapsulatedResponseAck
    else s.spdmError f errUnexpected
  | none => s.spdmError f errSessionRequired

/-- DELIVER_ENCAPSULATED_RESPONSE. -/
def execDeliverEncapsulatedResponse (f : Fin 128) (c : RequesterChain) (s : State) : Host.Outcome State Fault Refusal :=
  .next (deliverEncapsulated f.val c s)

/-- A request of an owner session. -/
def State.inOwner (s : State) (f : Nat) (k : State → State) : State :=
  if s.ownerFn = some f then k (s.touch f) else s.spdmError f errUnexpected

/-- GET_CSR: for slot 1, within an owner session. -/
def getCsr (f : Nat) (s : State) : State :=
  s.inOwner f (fun t => match t.sign t.tgt.cert1 with
    | some (sig, t1) => t1.spdm f (.csr sig)
    | none => t.spdmError f errUnspecified)

/-- GET_CSR. -/
def execGetCsr (f : Fin 128) (s : State) : Host.Outcome State Fault Refusal := .next (getCsr f.val s)

/-- SET_CERTIFICATE: slot 1 alone, within an owner session. -/
def setCertificate (f slot : Nat) (chain : List Byte) (s : State) : State :=
  s.inOwner f (fun t => if slot = 1 then ({ t with tgt := { t.tgt with cert1 := chain } }).spdm f .setCertificateRsp
    else t.spdmError f errInvalid)

/-- SET_CERTIFICATE. -/
def execSetCertificate (f : Fin 128) (slot : Nat) (chain : List Byte) (s : State) : Host.Outcome State Fault Refusal :=
  .next (setCertificate f.val slot chain s)

/-- SESSION_HEARTBEAT_EXPIRY (R453). -/
def heartbeatExpiry (f : Nat) (s : State) : State :=
  match s.session f with
  | some x => if s.get TGT_CTL_HBEAT ≠ 0 ∧ x.last + s.get TGT_CTL_HBEAT * 100000000 ≤ s.time then s.endSession f else s
  | none => s

/-- SESSION_HEARTBEAT_EXPIRY. -/
def execSessionHeartbeatExpiry (f : Fin 128) (s : State) : Host.Outcome State Fault Refusal := .next (heartbeatExpiry f.val s)

/-! ### Tenants' credentials (R458) -/

/-- The LOCKREQ tenancy that a message in a controller's session is for, with its key record. -/
def State.credTen (s : State) (f : Nat) : Option (Nat × TenantKey) :=
  match s.tenOf f with
  | some t => if s.is (TGT_TEN_LOCKREQ t) then (s.tenKey t).map (fun k => (t.val, k)) else none
  | none => none

/-- A failed UNLOCK or CHANGE: counted, source 1008, and at the fifth source 1009. -/
def State.credFail (s : State) (f t : Nat) : State :=
  let n := s.get (TGT_TEN_FAILS t)
  (((s.put (TGT_TEN_FAILS t) (min 5 (n + 1))).raise 1008).raiseIf (n == 4) 1009).spdmError f errUnspecified

/-- CREDENTIAL_SET: accepted only in AWAITING; the tenancy is then UNLOCKED. -/
def credentialSet (f : Nat) (cred : List Byte) (s : State) : State :=
  s.inSession f (fun u => match u.credTen f with
    | none => u.spdmError f errUnexpected
    | some (t, k) =>
      if u.get (TGT_TEN_STATE t) ≠ 2 ∨ cred.length ≠ 32 then u.spdmError f errUnexpected
      else ((u.setTenKey t (some { k with cred := some (credentialKey cred k.salt) })).unlockTen t).spdm f .vendorDefined)

/-- CREDENTIAL_SET. -/
def execCredentialSet (f : Fin 128) (cred : List Byte) (s : State) : Host.Outcome State Fault Refusal :=
  .next (credentialSet f.val cred s)

/-- CREDENTIAL_UNLOCK: at 5 failures UNLOCK is refused until chip reset. -/
def credentialUnlock (f : Nat) (cred : List Byte) (s : State) : State :=
  s.inSession f (fun u => match u.credTen f with
    | none => u.spdmError f errUnexpected
    | some (t, k) =>
      if u.get (TGT_TEN_STATE t) = 2 ∨ u.get (TGT_TEN_FAILS t) = 5 then u.spdmError f errUnexpected
      else if k.cred = some (credentialKey cred k.salt) then (u.unlockTen t).spdm f .vendorDefined
      else u.credFail f t)

/-- CREDENTIAL_UNLOCK. -/
def execCredentialUnlock (f : Fin 128) (cred : List Byte) (s : State) : Host.Outcome State Fault Refusal :=
  .next (credentialUnlock f.val cred s)

/-- CREDENTIAL_CHANGE. -/
def credentialChange (f : Nat) (old new : List Byte) (s : State) : State :=
  s.inSession f (fun u => match u.credTen f with
    | none => u.spdmError f errUnexpected
    | some (t, k) =>
      if u.get (TGT_TEN_STATE t) = 2 ∨ new.length ≠ 32 then u.spdmError f errUnexpected
      else if k.cred = some (credentialKey old k.salt) then
        (u.setTenKey t (some { k with cred := some (credentialKey new k.salt) })).spdm f .vendorDefined
      else u.credFail f t)

/-- CREDENTIAL_CHANGE. -/
def execCredentialChange (f : Fin 128) (old new : List Byte) (s : State) : Host.Outcome State Fault Refusal :=
  .next (credentialChange f.val old new s)

end Sys2Proof.Machine
end

