-- ==== Sys2Proof/Machine/Start.lean ====
section
/-! DEFINITION. The internal reset and the start sequence (spec 20.3 to 20.6, 19.6, 11.5), and SQUARE_INIT, at which a start
goes on. -/

namespace Sys2Proof.Machine

/-! ### The internal reset (R406, R513, R517, R523) -/

/-- Register words that a chip reset leaves whole: the always-on domain (R517, R552), the straps as sampled (R561), the clock
watchdogs (R33), what the flash store keeps (bindings, regions, declared elements, WUSED) and what describes the recorder's
SRAM (R523). -/
def keptWord (a : Nat) : Bool :=
  [FLT_FNSTAT, FLT_CRREASON, PWR_AON, PIN_STRAP, TIM_TDSTAT0, TIM_TDSTAT1, SQR_AVFAIL, FLS_WUSED_LO, FLS_WUSED_HI, REC_HEAD,
    REC_TAIL, REC_MIRR, REC_FSTAT].contains a
  || decide (SQR_REGION0 0 ≤ a ∧ a < SQR_REGION0 64) || decide (TGT_BIND 0 ≤ a ∧ a < TGT_BIND 128)

/-- Fields that a chip reset leaves: fuses, levels at balls, what the key records hold, and counts of what the flash store keeps. -/
def keptFields : List Fld :=
  [TGT_STAT_LIFE, TGT_ROOT_OWNVALID, TGT_ROOT_OWNREV, TGT_ROOT_VENREV, PWR_VREQ_PGOOD, FLS_STAT_BAND, FLS_STAT_RESERVE,
    FLS_BBT_FACTORY 0, FLS_BBT_GROWN 0, FLS_BBT_FACTORY 1, FLS_BBT_GROWN 1, REC_STAT_FFULL]
  ++ (List.range 6).map TGT_SVN_FLOOR ++ (List.range 4).map SVO_STAT_LATCH ++ (List.range 2).map HST_PORT_PERST
  ++ (List.range 128).flatMap (fun t => [TGT_TEN_EXIST t, TGT_TEN_LOCKREQ t, TGT_TEN_NNS t])

/-- What an Avenue keeps in the flash store, with the level of PFLTn_N. -/
def Avenue.kept (a : Avenue) : Avenue :=
  { freshAvenue with serialRec := a.serialRec, calRec := a.calRec, codeRec := a.codeRec, grown := a.grown
                     mapping := a.mapping, pendingList := a.pendingList, relocate := a.relocate, pflt := a.pflt }

/-- A die's contents and tables; what was queued or in progress is gone, and a cut block has no pointer (R307, R322). -/
def State.cutFlash (s : State) : State :=
  let cut (t : State) (d : Nat) : State :=
    let x := t.die d
    (((x.run.toList ++ (x.erasing.map EraseRun.job).toList).foldl (fun u j => u.cutBlocks d j) t).modDie d (fun y =>
      { y with queue := [], run := none, erasing := none, suspended := false }))
  let s1 := cut (cut s 0) 1
  { s1 with fls := { s1.fls with posted := [], patrol := [] } }

/-- The internal reset: every register at its reset value and every part as at reset, but for what the always-on domain, the
fuses, the flash store, the recorder's SRAM and the balls keep. The setup window closes with source 15 (R374). -/
def State.internalReset (s0 : State) : State :=
  let s := s0.cutFlash
  let base : State := { State.reset with
    regs := s.regs.filter (fun e => keptWord e.1)
    tim := { s.tim with loadPending := false }
    pace := { State.reset.pace with pgTiming := s.pace.pgTiming, pgHold := s.pace.pgHold }
    av := s.av.map Avenue.kept
    sqr := squareLost s.sqr
    fls := s.fls
    red := s.red
    host := { State.reset.host with ns := s.host.ns.map (fun n => { n with key := none, tler := 0, tlo := false }) }
    rbt := { freshRoundabout with log := s.rbt.log }
    arc := { freshArcade with log := s.arc.log }
    tgt := { freshTollgate with
      drs := s.tgt.drs, owners := s.tgt.owners, cert0 := s.tgt.cert0, cert1 := s.tgt.cert1
      tens := s.tgt.tens.map (fun e => (e.1, e.2.map (fun k => { k with key := none }))) }
    pwr := { s.pwr with
      partials := [], restart := false, lowRuns := List.replicate 4 0, causes := 4 * bitsOf s.pwr.causes 2 1, commit := none, inReset := true, railOut := false
      hotWarn := false, hotCrit := false }
    flt := { freshCollector with
      events := s.flt.events, blockResets := s.flt.blockResets, chipResets := s.flt.chipResets
      escalations := s.flt.escalations, perSource := s.flt.perSource }
    recd := { s.recd with dropped := false, dropEpisode := false, ovfEpisode := false, lost := 0, port := none, waiting := [] }
    pins := s.pins
    shock0 := s.shock0, shock1 := s.shock1, preampTable := s.preampTable, freeCtr := s.freeCtr
    pending := s.pending }
  (keptFields.foldl (fun t f => t.put f (s.get f)) base).raiseIf s.bus.winOpen 15

/-! ### The recorder at start (R523) -/

/-- The newest SEQ mirrored. -/
def State.newestMirrored (s : State) : Option Nat := mirrorTop s.recd.mirror

/-- Records in pages of 168 (R524). -/
def mirrorPages : Nat → List RecEntry → List (List RecEntry)
  | 0, _ => []
  | k + 1, rs => if rs.isEmpty then [] else rs.take 168 :: mirrorPages k (rs.drop 168)

/-- Records that a commit programmed enter the mirror (R549). -/
def State.takeCommitted (s : State) : State :=
  let t : State := { s with recd := { s.recd with
    mirror := s.recd.mirror ++ mirrorPages s.recd.committed.length s.recd.committed, committed := [] } }
  t.put REC_MIRR_SEQ (t.newestMirrored.getD 0)

/-- The recorder checks its SRAM header: valid, it goes on from the next SEQ; not valid, SEQ starts at a multiple of 65,536
that no mirrored record has reached, a power-cycle marker is written, and the founding area is reloaded. -/
def State.recorderStart (s0 : State) (headerOk : Bool) : State :=
  let s := s0.takeCommitted.putb REC_STAT_HDROK headerOk
  if headerOk then s
  else
    let n := s.newestMirrored
    let s1 : State := { s with recd := { s.recd with
      circ := [], found := s.recd.foundMirror, fifo := []
      nextSeq := (match n with
        | some q => (q / 65536 + 1) * 65536 % 2 ^ 32
        | none => 0) } }
    let s2 := (s1.put REC_FSTAT_FUSED s1.recd.found.length).putb REC_STAT_FFULL (s1.recd.found.length == 256)
    s2.traceFill.recHeads.recordType 2 (n.getD 0xFFFFFFFF)

/-! ### Images (R542) -/

/-- An image that does not qualify is refused at start: source 1132, with the Tollgate's source where it does not verify. -/
def State.refuseEntry (s : State) (k : Nat) (e : ComboEntry) : State :=
  if s.entryOk k e then s
  else match s.place? e.digest with
    | some im => (s.verify im).2.raise 1132
    | none => s.raise 1132

/-- The combination of a manifest slot that qualifies, if its manifest verifies and one does; every image refused on the way
raises its sources. -/
def State.trySlot (s : State) (b : Bool) : Option Nat × State :=
  match s.slotOf b with
  | none => (none, s)
  | some m =>
    match s.verify m with
    | (false, s1) => (none, s1.raise 1132)
    | (true, s1) =>
      let c := s1.chooseCombo m
      (c, (List.range (c.getD m.ncomb)).foldl (fun t i => (List.range 6).foldl (fun u k => u.refuseEntry k (m.entry i k)) t) s1)

/-- A manifest slot passes R447. -/
def State.slotPasses (s : State) (b : Bool) : Bool := (s.slotOf b).any (fun m => s.verifyStep m == 0)

/-- The slot and combination of a start that read ATTEMPTS = `a`: ACTIVE at 0, else LKG; LKG where ACTIVE gives none. Where LKG
is used in place of ACTIVE, source 1131 and the log count it. -/
def State.pickImages (s : State) (a : Nat) : Option (Bool × Nat) × State :=
  let fallback (t : State) : State :=
    { t with pwr := { t.pwr with log := t.pwr.log.modify 3 (· + 1) } }.raise 1131
  let lkg := s.pwr.lkg
  if a = 0 then
    match s.trySlot s.pwr.active with
    | (some c, s1) => (some (s.pwr.active, c), s1)
    | (none, s1) => match (fallback s1).trySlot lkg with
      | (some c, s2) => (some (lkg, c), s2)
      | (none, s2) => (none, s2)
  else
    match (if lkg = s.pwr.active then s else fallback s).trySlot lkg with
    | (some c, s1) => (some (lkg, c), s1)
    | (none, s1) => (none, s1)

/-- The nominal speed that an SP image names, from 4,800 to 10,800 rpm (R60). -/
def Image.nominal (im : Image) : Nat := 4800 + Config.spSpeed im.body % 6001

/-- An entry's image is measured and loaded; a loaded SP image names the nominal speed (R60). -/
def State.loadEntry (s : State) (m : Image) (c k : Nat) : State :=
  match s.place? (m.entry c k).digest with
  | some im => { s.measure im with nominal := if k = 3 then im.nominal else s.nominal }
  | none => s

/-- The vendor-signed CF of highest BUILD that verifies (R546). -/
def State.vendorCf (s : State) : Option Image :=
  (s.pwr.places.filter (fun im => im.cls == 0 && s.verifyStep im == 0)).foldl (fun b im => match b with
    | some x => if x.build < im.build then some im else some x
    | none => some im) none

/-! ### Replay, keys and regions (R346, R349, R356, R438, R458, R549) -/

/-- Every journaled key is placed in the Square again: its page of highest SEQ, DIRTY with J = 1. Journaled parity pages are
written to their slots (R332). -/
def State.replay (s0 : State) : State :=
  let s : State := { s0 with red := { s0.red with journaled := [] } }
  let s1 := s.modSqr (fun q => { q with journal := q.journal.map (fun e => { e with tag := none }) })
  (s1.sqr.journal.map JournalBlock.key).eraseDups.foldl State.refill s1

/-- Key records are unwrapped; a tenancy with LOCKREQ is LOCKED, or awaits its credential still. -/
def State.restoreKeys (s : State) : State :=
  s.tgt.tens.foldl (fun t e => match e.2 with
    | none => t
    | some k =>
      if t.is (TGT_TEN_LOCKREQ e.1) then
        let u := t.lockTen e.1
        if k.cred.isNone then u.put (TGT_TEN_STATE e.1) 2 else u
      else t.unlockTen e.1) s

/-- A region after an unclean stop: resynchronised from 0 unless it is degraded or rebuilt, SUSPECT when the commit failed;
a reshape goes back to its checkpoint and resynchronises both layouts. After a clean stop a resynchronisation goes on from
its checkpoint. -/
def State.resyncRegion (s : State) (clean failed : Bool) (r : Nat) : State :=
  if clean then
    if s.is (SQR_REGION1_RSY r) then s.put (SQR_REGION16_CURSOR r) (KMap.get (fun _ => 0) s.red.cursorCk r) else s
  else
    let rsh := s.is (SQR_REGION1_RSH r)
    let s1 := if rsh then s.put (SQR_REGION14_BOUND r) (KMap.get (fun _ => (0, 0)) s.red.reshapeCk r).1 else s
    if s.regionLayered r && !s.is (SQR_REGION1_DEG r) && !s.is (SQR_REGION1_RBD r) then
      let s2 := ((s1.putb (SQR_REGION1_RSY r) true).put (SQR_REGION16_CURSOR r) 0).raise 436 r
      let s3 : State := { s2 with red := { s2.red with found := s2.red.found.erase r } }
      if failed then s3.putb (SQR_REGION1_SUSPECT r) true else s3
    else s1

/-! ### The steps of Table 20-3 -/

/-- Steps 1 and 2: straps, keys, entropy, MR0, MR8 and MR9, the recorder, core 0, and the clocks that the start starts. -/
def State.startFirst (s : State) (i : StartInput) : State :=
  let n := s.pwr.log.getD 0 0 + 1
  let s1 : State := { s with pwr := { s.pwr with log := s.pwr.log.modify 0 (· + 1), inReset := false, deep := false } }
  let s2 := (s1.put HST_CTL_MODE (s1.get PIN_STRAP_PORTMODE)).put SPN_CEIL_MODE (s1.get PIN_STRAP_SPINMODE)
  let s3 := (((s2.put REC_BOOT_BOOT n).putb PWR_AON_DSBY s.pwr.deep).expect [29, 31, 36, 38, 39] true).expect [35] (s2.is SPN_CEIL_MODE)
  let s4 := (s3.expect [26] (!s3.is (HST_PORT_PERST 0))).expect [27] (s3.is HST_CTL_MODE && !s3.is (HST_PORT_PERST 1))
  let s5 := s4.deriveKeys
  let s6 := if i.entropyOk then (s5.putb TGT_STAT_ENTOK true).newNonce else entropyFail s5
  let s7 := ((s6.extend 0 Config.bootRomDigest).measureSecurity).extend 9 (sha384 Config.ownerConfig)
  (s7.recorderStart i.headerOk).put (CPU_CORESTAT_STATE 0) 1

/-- How the stop before this start reads (R549, R550): 0 clean, 1 unclean with a successful commit, 2 with a failed one. -/
def State.stopKind (s : State) : Nat := if s.pwr.cleanStop then 0 else if s.pwr.newestOk then 1 else 2

/-- ATTEMPTS as step 3 takes it (R540): an attempt cut by a power loss is not counted. -/
def State.attemptsRead (s : State) : Nat :=
  let cut := s.pwr.newest.any (fun r => r.start && r.kind == 1
    && r.boot == (s.pwr.log.getD 0 0 - 1) % 65536)
  if cut then s.pwr.attempts - 1 else s.pwr.attempts

/-- Step 5: the DRAM is trained, KDRAM generated, and DRAMOK set; the start then waits for SQUARE_INIT. Without randomness it
halts there. -/
def State.startDram (s : State) (ok : Bool) : State :=
  let s1 := s.put PWR_START_STEP 5
  if !ok then s1.culDeSac 4
  else match s1.drawXts xtsTries with
    | none => s1.raise 997
    | some (k, s2) =>
      ({ s2 with tgt := { s2.tgt with kdram := some k } }.putb PWR_START_DRAMOK true).expect [28] true

/-- Step 4: a manifest and a combination are chosen; CF is measured, and every core runs. -/
def State.startImages (s : State) (a : Nat) (ok : Bool) : State :=
  match s.pickImages a with
  | (none, s1) =>
    (s1.put PWR_START_STEP 4).culDeSac (if s1.slotPasses s.pwr.active || s1.slotPasses s.pwr.lkg then 3 else 2)
  | (some (b, c), s1) =>
    match s1.slotOf b with
    | none => s1
    | some m =>
      let s2 := ((s1.loadEntry m c 0).putb PWR_IMG_RUN b).put PWR_IMG_COMB c
      ((List.range 6).foldl (fun t k => t.put (CPU_CORESTAT_STATE k) 1) s2).startDram ok

/-- A start, from the internal reset to SQUARE_INIT, or to Cul-de-sac or claim mode. -/
def State.start (s0 : State) (i : StartInput) : State :=
  let s := s0.startFirst i
  let st := s.stopKind
  let s1 := (((s.put PWR_START_STEP 3).put PWR_START_STOP st).putb PWR_IMG_ACTIVE s.pwr.active).putb PWR_IMG_LKG s.pwr.lkg
  let s2 := if st = 2 then { s1 with pwr := { s1.pwr with log := s1.pwr.log.modify 2 (· + 1) } }.raise 1129 else s1
  if !i.recordsOk then s2.culDeSac 8
  else if s2.get TGT_STAT_LIFE = 1 then
    (match s2.vendorCf with
      | some im => s2.measure im
      | none => s2).claimMode
  else
    let a := s2.attemptsRead
    let s3 := s2.put PWR_START_ATTEMPTS (min 3 a)
    if 3 ≤ a then s3.culDeSac 1
    else State.startImages { s3 with pwr := { s3.pwr with attempts := a + 1 } } a i.dramOk

/-! ### Resets that a start follows -/

/-- The start after an internal reset: at once, unless PORST_N holds the reset (R406). Where PORST_N has risen meanwhile, the
straps then sampled are in force and the start meets what it met. -/
def State.startAfter (s : State) (i : StartInput) : State :=
  if s.pwr.porstLow then s
  else match s.pwr.risen with
    | some (straps, j) =>
      let t : State := { s with pwr := { s.pwr with risen := none }, tim := { s.tim with now := 0 } }
      (t.wr PIN_STRAP (BitVec.ofNat 32 straps.val)).start j
    | none => s.start i

/-- What a start that nothing specified would meet: it serves only where PORST_N has risen, whose own input then counts. -/
def anyStart : StartInput := ⟨true, true, true, true⟩

/-- A chip reset (R547, R540): the internal reset and a start. -/
def State.chipReset (s : State) (i : StartInput) : State := s.internalReset.startAfter i

/-! ### Steps 6 to 8 -/

/-- Steps 6 to 8, once the Square is ready: the other images are measured, keys unwrapped, the journal replayed, regions set for
resynchronisation, and configuration requests answered. -/
def State.startRest (s : State) : State :=
  let st := s.get PWR_START_STOP
  let s1 := match s.slotOf (s.is PWR_IMG_RUN) with
    | some m => ((List.range 5).foldl (fun (t : State) k => t.loadEntry m (s.get PWR_IMG_COMB) (k + 1)) s).measure m
    | none => s
  let s2 : State := allRegions.foldl (fun (t : State) r => t.resyncRegion (st == 0) (st == 2) r) s1.restoreKeys.replay
  let s3 := s2.put PWR_START_STEP 9
  (List.range 2).foldl (fun t p => if t.is (HST_PORT_UP p) then t.readyPort p else t) s3

/-- SQUARE_INIT (R293): at step 5 of a start a refusal leads to Cul-de-sac mode with reason 5, and a success to steps 6 to 8. -/
def squareInit (s : State) : State :=
  let s1 := s.initSquare
  if s.get PWR_START_STEP = 5 ∧ !s.restricted then
    if s.initCheck ≠ 0 then s1.culDeSac 5 else s1.startRest
  else s1

/-- SQUARE_INIT. -/
def execSquareInit (s : State) : Host.Outcome State Fault Refusal := .next (squareInit s)

end Sys2Proof.Machine
end

