-- ==== Sys2Proof/Machine/CollectorOps.lean ====
section
/-! DEFINITION. Shared operations of the fault collector (spec 19): the units and sources of Table 19-3, records of events, the
start of a commit, chip resets, block resets with their effects, non-maskable traps, and the handling of one event. -/

namespace Sys2Proof.Machine

/-! ### Sources (19.1, Table 19-3) -/

/-- A source that some chapter marks reserved, or that does not exist: it is never raised (R509). -/
def sourceReserved (s : Nat) : Bool :=
  let k := (s - 428) % 96
  let isIn (lo hi : Nat) : Bool := decide (lo ≤ s ∧ s ≤ hi)
  isIn 18 99 || isIn 106 139 || isIn 154 203 || isIn 228 299 || isIn 366 399 || isIn 402 427
  || (isIn 428 811 && (k == 6 || k == 7 || (decide (524 ≤ s) && decide (8 ≤ k ∧ k ≤ 15))))
  || (isIn 812 939 && decide (21 ≤ (s - 812) % 32)) || isIn 960 963 || isIn 984 995 || isIn 1019 1025 || isIn 1029 1035
  || isIn 1044 1083 || isIn 1112 1119 || decide (1152 ≤ s)

/-- What reaction 3 resets for a source: a unit code of Table 19-3 (32 + c for DMA channel c), or the reaction that it is taken
as. -/
inductive ResetUnit where
  | unit (u : Nat)
  | takenAs (r : Nat)
  deriving DecidableEq, Repr

/-- Table 19-3. -/
def resetUnit (s : Nat) : ResetUnit :=
  if s < 140 then .unit 0
  else if s < 204 then .unit 1
  else if s < 300 then .unit 2
  else if s < 364 then .unit (32 + (s - 300))
  else if s < 428 then .unit 3
  else if 436 ≤ s ∧ s ≤ 442 then .takenAs 1
  else if s < 812 then .unit (4 + (s - 428) / 96)
  else if s < 940 then .unit (8 + (s - 812) / 32)
  else if s < 964 then .unit 12
  else if s < 996 then .unit 13
  else if 1036 ≤ s ∧ s < 1084 then .unit 14
  else if 1084 ≤ s ∧ s < 1096 then .unit (16 + (s - 1084) % 6)
  else if 1100 ≤ s ∧ s < 1112 then .unit (16 + (s - 1100) % 6)
  else .takenAs 4

/-- The reaction that a REACT or ESC code of a source stands for (Tables 19-2 and 19-3): 5 to 7 are taken as 0. -/
def takenReaction (s code : Nat) : Nat :=
  if 5 ≤ code then 0
  else if code = 3 then
    (match resetUnit s with
    | .unit _ => 3
    | .takenAs r => r)
  else code

/-! ### Records of events (R519 to R522) -/

/-- The trigger profile that writes a source's record (R519). -/
def State.profileFor (s : State) (src : Nat) : Option Nat :=
  (List.range 64).find? (fun p => s.is (REC_PROF_W0_EN p)
    && decide (s.get (REC_PROF_W1_FIRST p) ≤ src ∧ src ≤ s.get (REC_PROF_W1_LAST p))
    && (s.get (REC_PROF_W0_MAXREC p) == 0 || decide (s.get (REC_PROF_W0_USED p) < s.get (REC_PROF_W0_MAXREC p))))

/-- The registers that a profile captures, in list order (R519, R520). -/
def State.capture (s : State) (p : Nat) : List Word :=
  (List.range (min 16 (s.get (REC_PROF_W0_NREG p)))).map (fun i =>
    let a := s.get (REC_PROF_W2_ADDR p i)
    if (regAt a).isSome then s.peek a else 0)

/-- The record last written enters the founding area, and its copy in the flash store (R522, R524). -/
def State.foundRecord (s : State) : State :=
  match s.recd.circ.getLast? with
  | none => s
  | some e =>
    let s1 : State := { s with recd := { s.recd with
      found := s.recd.found ++ [e], foundMirror := s.recd.foundMirror ++ [e] } }
    let s2 := s1.put REC_FSTAT_FUSED s1.recd.found.length
    if s1.recd.found.length = 256 then (s2.putb REC_STAT_FFULL true).raise 1146 else s2

/-- An event goes unrecorded because 32 captures are in progress (R521). -/
def State.dropRecord (s : State) : State :=
  ({ s with recd := { s.recd with dropped := true, dropEpisode := true } }.bump REC_STAT_DROPS).raiseIf
    (!s.recd.dropEpisode) 1144

/-- An event is passed to the recorder (R510, R519): `react` is the byte REACT of its record, `esc` that its source is
ESCALATED, and `full` that the recorder holds 32 captures in progress. -/
def State.recordEvent (s : State) (e : Raised) (react : Nat) (esc full : Bool) : State :=
  let p := s.profileFor e.src
  if !s.is REC_CTL_EN || (p.isNone && !s.is (FLT_ROUTE_REC e.src)) then s
  else if full then s.dropRecord
  else
    let found := (p.map (fun k => s.is (REC_PROF_W0_FOUND k))).getD false && decide (s.recd.found.length < 256)
    let regs := ((p.map s.capture).getD [])
    let s1 := match p with
      | some k => s.bump (REC_PROF_W0_USED k)
      | none => s
    let s2 := s1.record
      { time := e.time, seq := 0, source := e.src, typ := 0, prof := p.getD 0xFF, boot := 0, react := react
        flags := (if found then 1 else 0) + (if esc then 4 else 0) + (if e.inj then 8 else 0)
        regs := regs ++ List.replicate (16 - regs.length) 0, detail := e.detail }
    if found then s2.foundRecord else s2

/-! ### Interrupts and non-maskable traps (Table 19-2, R511) -/

/-- A core is neither in reset nor halted. -/
def State.coreLive (s : State) (k : Nat) : Bool :=
  let st := s.get (CPU_CORESTAT_STATE k)
  st != 0 && st != 4

/-- The core that a source's entry routes to: codes 6 and 7 are taken as 0. -/
def State.routedCore (s : State) (src : Nat) : Nat :=
  let c := s.get (FLT_ROUTE_CORE src)
  if c ≤ 5 then c else 0

/-- The core signalled for a source: the routed one, or the lowest-numbered running core in place of one in reset or
halted. -/
def State.signalledCore (s : State) (src : Nat) : Option Nat :=
  if s.coreLive (s.routedCore src) then some (s.routedCore src) else (List.range 6).find? s.coreLive

/-- The source's pending bit. -/
def pendBit (src : Nat) : Fld := ⟨FLT_PEND (src / 32), src % 32, 1⟩

/-- The signal of a core is held while a pending bit that it serves is 1. -/
def State.coreSignal (s : State) (k : Nat) : Bool :=
  (List.range 1152).any (fun src => s.is (pendBit src) && s.signalledCore src == some k)

/-- A core takes a non-maskable trap; a stalled one takes it when it goes on. -/
def State.takeNmi (s : State) (k : Nat) : State :=
  let s1 : State := { s with flt := { s.flt with inNmi := s.flt.inNmi ++ [k] } }
  if s.get (CPU_CORESTAT_STATE k) = 1 then s1.put (CPU_CORESTAT_STATE k) 3 else s1

/-- A non-maskable trap is due for a source's core: taken, or held while the core is in its handler (R511). -/
def State.nmi (s : State) (src : Nat) : State :=
  match s.signalledCore src with
  | none => s
  | some k =>
    if s.flt.inNmi.contains k then
      ({ s with flt := { s.flt with held := s.flt.held ++ [(k, src)] } }.bump FLT_CNT_HELD).raise 1142
    else s.takeNmi k

/-! ### Chip resets (R513) and the start of a commit (20.4) -/

/-- Engines in OFF, PARKED or FAULT, bit n for engine n. -/
def State.idleMask (s : State) : Nat := (allAvs.map (fun n => if s.svIdle n then 2 ^ n.val else 0)).sum

/-- Pages that a commit writes: those counted in the dirty window that are not superseded (R278), oldest first. -/
def State.commitPages (s : State) : List Nat := s.byAge (fun e => e.2.unjournaled && !e.2.superseded)

/-- A commit with its kind (Table 20-5) begins, unless one is running: placements are held and the flash store serves it alone
(R278, R322, Table 20-8). With pages to write, no older record is the newest page any more (R549). -/
def State.beginCommit (s : State) (kind : Nat) : State :=
  if s.pwr.commit.isSome then s
  else
    let s1 := (s.modSqr (fun q => { q with lossHold := true })).flashCommit
    { s1 with pwr := { s1.pwr with
      commit := some kind, committed := none, idleAt := s.idleMask
      newestOk := s1.pwr.newestOk && s.commitPages.isEmpty } }

/-- FLT_CRREASON names a reset. -/
def State.resetReason (s : State) (kind src : Nat) (cut : Bool) : State :=
  (((s.putb FLT_CRREASON_VALID true).put FLT_CRREASON_KIND kind).put FLT_CRREASON_SOURCE src).putb FLT_CRREASON_CUT cut

/-- Sources whose chip reset runs no commit. -/
def commitExcluded (src : Nat) : Bool :=
  decide (204 ≤ src ∧ src ≤ 299) || decide (964 ≤ src ∧ src ≤ 995) || decide (1120 ≤ src ∧ src ≤ 1139)

/-- A chip reset by the collector begins (steps 1 to 3 of Table 19-5): block resets give way to it, write gates drop, engines
unload, and the commit runs where it may. -/
def State.chipResetBegin (s : State) (src : Nat) : State :=
  if s.flt.chip.isSome then s
  else
    let s1 : State := { s.resetReason 1 src false with flt := { s.flt with
      chip := some src, chipResets := s.flt.chipResets + 1, resets := [] } }
    let s2 := allAvs.foldl State.dropGate ((s1.putb FLT_STAT_RESET false).putb FLT_BRST_BUSY false)
    unloadAll (if s2.is FLT_CTL_CRCOMMIT && !commitExcluded src then s2.beginCommit 4 else s2)

/-! ### Block resets (R512, Tables 19-3 and 19-4) -/

/-- Unit codes of Table 19-3. -/
def unitListed (u : Nat) : Bool := u != 15 && decide (u < 22)

/-- Registers from `lo` up to `hi` take their reset values, but for the fields that `keep` names (register offset from `lo`,
register and field); a LOCK bit is always cleared (R22). -/
def State.resetRegs (s : State) (lo hi : Nat) (keep : Nat → RegSpec → FieldSpec → Bool) : State :=
  (s.regs.filter (fun e => decide (lo ≤ e.1 ∧ e.1 < hi))).foldl (fun (t : State) e =>
    match regAt e.1 with
    | none => t
    | some (_, r) => t.wr e.1 (BitVec.ofNat 32 (r.fields.foldl (fun w f =>
        if decide (f.acc ≠ .w1s) && keep (e.1 - lo) r f then setBits w f.lo f.wid (bitsOf e.2.toNat f.lo f.wid) else w)
        (resetOf r.fields)))) s

/-- Fields that firmware and the owner set. -/
def isConfig (f : FieldSpec) : Bool := decide (f.acc = .rw) || decide (f.acc = .rwl)

/-- Registers of an Avenue that its block reset keeps: framing, the timing lane, skew, code, equaliser and write tables, and
the stores with what was loaded into them. -/
def avKeeps (o : Nat) : Bool :=
  decide (0x800 ≤ o ∧ o < 0xC18) || decide (0x1000 ≤ o ∧ o < 0x1780) || o == 0x1808 || decide (0x1E00 ≤ o ∧ o < 0x1E08)
  || o == 0x40C || o == 0x420 || o == 0x428 || decide (0x500 ≤ o ∧ o < 0x700) || decide (0x20000 ≤ o)

/-- Fetched entries complete with a status (R185): the completions are posted and the entries leave the reorder window. -/
def completeFetched (status : Nat) (q : Seq) : Seq :=
  let urg := (q.fetched.filter (fun e => entryClass e == 2)).length
  { q with winUrgent := q.winUrgent - urg, winOther := q.winOther - (q.fetched.length - urg), fetched := [], entryLive := false
           posted := q.posted ++ q.fetched.map (fun e => (bitsOf (e.words.getD 3 0).toNat 0 16, status)) }

/-- A ladder that an Avenue's reset ends (R135, R403): the command of a host read completes with Internal Reset. -/
def resetLadder (n : Fin 4) (s : State) (l : Ladder) : State :=
  let s1 := endLadder n l .ended s
  if l.sec.ctx.host then s1.complete l.sec.ctx.tag 7 0xC0 0 else s1

/-- The reset of Avenue `n`. -/
def State.resetAvenue (s : State) (n : Fin 4) : State :=
  let s1 := (s.avn n).ladders.foldl (resetLadder n) (s.dropGate n)
  let s2 := s1.modAv n (fun a =>
    let q := completeFetched 0x000C a.seq
    { a with
      readers := ({ freshReader with skew := a.readers.1.skew, skew0 := a.readers.1.skew },
                  { freshReader with skew := a.readers.2.skew, skew0 := a.readers.2.skew })
      decoding := [], ladders := [], shockHold := false, underflow := false, serial := none, kazq := freshAvenue.kazq
      seq := { freshSeq with
        rings := q.rings, lastUrgent := q.lastUrgent, lastNormal := q.lastNormal, lastInternal := q.lastInternal
        normalRun := q.normalRun, winUrgent := q.winUrgent, winOther := q.winOther, posted := q.posted } })
  s2.resetRegs (avBase n.val) (avBase n.val + 0x100000) (fun o _ _ => avKeeps o)

/-- The reset of servo engine `n`: all RWL fields and arrays, and the latch that the link reports, stay. -/
def State.resetServo (s : State) (n : Fin 4) : State :=
  let latch := s.is (SVO_STAT_LATCH n)
  let s1 := (s.modSv n (fun _ => freshServo)).resetRegs (svBase n.val) (svBase n.val + 0x40000) (fun _ r f =>
    decide (f.acc = Access.rwl) || !r.dims.isEmpty)
  (s1.putb (SVO_STAT_LATCH n) latch).svTo n 0

/-- The reset of the spindle block: all RWL fields stay. -/
def State.resetSpindle (s : State) : State :=
  (({ s with spn := freshSpindle }.resetRegs SPN_CTL (SPN_CTL + 0x100000) (fun _ _ f => decide (f.acc = Access.rwl))).spnTo 0).expect [24, 25] false

/-- The reset of the flash controller: wear counts, the supply band and the reserve stay; queued entries are served. -/
def State.resetFlash (s : State) : State :=
  let s1 := s.resetRegs FLS_CTL (FLS_CTL + 0x100000) (fun o _ _ =>
    [FLS_WUSED_LO, FLS_WUSED_HI].contains (FLS_CTL + o))
  let s2 := (s1.put FLS_STAT_BAND (s.get FLS_STAT_BAND)).put FLS_STAT_RESERVE s.fls.reserve.length
  (((s2.modDie 0 id).modDie 1 id).dieStart 0).dieStart 1

/-- Both dies are reset before the flash controller: entries in progress end with status 0x09 (Table 19-3). -/
def State.resetDies (s : State) : State :=
  let one (t : State) (d : Nat) : State :=
    let x := t.die d
    (x.run.toList ++ (x.erasing.map EraseRun.job).toList).foldl (fun u j =>
      (u.cutBlocks d j).flashPost j.entry 9 0 j.entry.psa.toNat [] [])
      (t.modDie d (fun y => { y with run := none, erasing := none, suspended := false }))
  one (one s 0) 1

/-- The reset of the Arcade (R429): running commands end with Internal Reset, an index change past its commit point being
completed from the journal; persistent contexts and indexes stay. -/
def State.resetArcade (s : State) : State :=
  let mine := s.rbt.cmds.filter (fun c => match c.phase with
    | .running _ => true
    | _ => false)
  let s1 := mine.foldl (fun (t : State) c => ((t.endRun c.tag).raiseIf c.committed 1042).complete c.tag 7 0xC0 0) s
  let s2 : State := { s1 with arc := { s1.arc with runs := [], waitEp := false, ctxTen := [] } }
  s2.resetRegs ARC_CTL (ARC_CTL + 0x100000) (fun o _ _ => decide (ARC_TENQ 0 ≤ ARC_CTL + o ∧ ARC_CTL + o < ARC_TENQ 128))

/-- The reset of the Square: DRAM, descriptors, epochs and lock states stay; the stream table is rebuilt empty and the index
from the descriptors. -/
def State.resetSquare (s : State) : State :=
  let s1 := s.modSqr (fun q => { q with streams := [] })
  (s1.sqr.pages.map Prod.fst).foldl State.reindex ((s1.resetRegs SQR_CTL (SQR_CTL + 0x100000) (fun _ _ _ => true)))

/-- The reset of the host engine: a port event on each port (R362); its configuration and the levels of its balls stay. -/
def State.resetHost (s : State) : State :=
  let s1 := s.resetRegs HST_CTL (HST_CTL + 0x100000) (fun _ _ f => isConfig f)
  let s2 := (List.range 2).foldl (fun (t : State) p => t.putb (HST_PORT_PERST p) (s.is (HST_PORT_PERST p))) s1
  let s3 := s2.portEvent 0
  if s3.is HST_CTL_MODE then s3.portEvent 1 else s3

/-- The reset of the Roundabout: every controller is reset as under R364, and commands end as Table 13-2 states. -/
def State.resetRoundabout (s : State) : State :=
  let s1 := (List.range 128).foldl (fun (t : State) f => if (t.ctl f).en ∨ f < 2 then t.resetFn f else t) s
  let s2 : State := { s1 with rbt := { freshRoundabout with log := s1.rbt.log, order := s1.rbt.order } }
  s2.resetRegs RBT_CTL (RBT_CTL + 0x100000) (fun _ _ f => isConfig f)

/-- The reset of core `k` (R507). -/
def State.resetCore (s : State) (k : Nat) : State :=
  let s1 : State := { s.emptyL1 k with flt := { s.flt with
    inNmi := s.flt.inNmi.filter (fun c => c != k), held := s.flt.held.filter (fun h => h.1 != k) } }
  (s1.put (CPU_CORESTAT_STATE k) 1).raise (1106 + k)

/-- An Avenue or engine by number. -/
def quadIdx (k : Nat) : Fin 4 := ⟨k % 4, Nat.mod_lt _ (by decide)⟩

/-- The lock owner IDs of a unit (Table 19-3). -/
def unitLocks (u : Nat) : List Nat :=
  if 32 ≤ u then [0x40 + (u - 32)]
  else if u = 3 then (List.range 64).map (· + 0x40)
  else if 4 ≤ u ∧ u ≤ 7 then [0x10 + (u - 4)]
  else if u = 13 then [0x19]
  else if u = 14 then [0x18]
  else if 16 ≤ u then [1 + (u - 16)]
  else []

/-- The Ring Road stops of a unit (1.3), numbered in ring order. -/
def unitStops (u : Nat) : List Nat :=
  if 32 ≤ u ∨ u = 3 then [8]
  else if u ≤ 1 then [0]
  else if u = 2 then [1, 2]
  else if u ≤ 7 then [3 + (u - 4)]
  else if u ≤ 11 then [3 + (u - 8)]
  else if u = 12 then [12]
  else if u = 13 then [9]
  else if u = 14 then [7]
  else [10]

/-- Step 2 of a block reset: the action before it. -/
def State.beforeReset (s : State) (u : Nat) : State :=
  if 4 ≤ u ∧ u ≤ 7 then s.modSeq (quadIdx (u - 4)) (fun q => { q with arms := [] })
  else if 8 ≤ u ∧ u ≤ 11 then
    let n := quadIdx (u - 8)
    if s.svIdle n then s else ((s.dropReq n).modSv n (fun v => { v with stage := .retract, settleDue := false })).svTo n 7
  else if u = 12 then spindleKill s
  else if u = 13 then s.resetDies
  else s

/-- Step 6: the reset of a unit's logic and its effect on work. -/
def State.resetUnitLogic (s : State) (u : Nat) : State :=
  if 32 ≤ u then s.resetChannel (u - 32)
  else match u with
    | 0 => s.resetHost
    | 1 => s.resetRoundabout
    | 2 => s.resetSquare
    | 3 => (List.range 64).foldl State.resetChannel s
    | 12 => s.resetSpindle
    | 13 => s.resetFlash
    | 14 => s.resetArcade
    | _ =>
      if u ≤ 7 then s.resetAvenue (quadIdx (u - 4))
      else if u ≤ 11 then s.resetServo (quadIdx (u - 8))
      else s.resetCore (u - 16)

/-- A block reset is requested, by a source or by FLT_BRST; one of a unit whose reset is running is merged into it. -/
def State.blockReset (s : State) (u : Nat) (src : Option Nat) : State :=
  if s.flt.chip.isSome then s
  else
    let running := s.flt.resets.any (fun r => r.unit == u)
    let s1 : State := { s with flt := { s.flt with resets := s.flt.resets ++ [⟨u, src⟩] } }
    let s2 := (s1.putb FLT_STAT_RESET true).putb FLT_BRST_BUSY (s.is FLT_BRST_BUSY || src.isNone)
    if running then s2 else s2.beforeReset u

/-- A QUIET state without a quiet period ends with its reaction. -/
def State.quietOver (s : State) (src : Nat) : State :=
  if s.get (FLT_ROUTE_STATE src) = 1 ∧ s.get (FLT_ROUTE_QUIET src) = 0 then s.put (FLT_ROUTE_STATE src) 0 else s

/-- Steps 5 to 7 of a running block reset: the lock notice, the reset, and the pending bit of each source that asked for it. -/
def State.finishReset (s : State) (u : Nat) : State :=
  let mine := s.flt.resets.filter (fun r => r.unit == u)
  if mine.isEmpty then s
  else
    let s1 := ((unitLocks u).foldl State.resetNotice s).resetUnitLogic u
    let rest := s1.flt.resets.filter (fun r => r.unit != u)
    let s2 : State := { s1 with flt := { s1.flt with resets := rest, blockResets := s1.flt.blockResets + 1 } }
    let s3 := (s2.putb FLT_STAT_RESET (!rest.isEmpty)).putb FLT_BRST_BUSY (rest.any (fun r => r.source.isNone))
    ((mine.filterMap UnitReset.source).foldl (fun (t : State) src => (t.putb (pendBit src) true).quietOver src) s3).raise 1140

/-! ### Reactions (Table 19-2) and one event (R510, R514) -/

/-- A reaction is applied. -/
def State.react (s : State) (src r : Nat) : State :=
  match r with
  | 1 => (s.putb (pendBit src) true).quietOver src
  | 2 => ((s.putb (pendBit src) true).nmi src).quietOver src
  | 3 =>
    (match resetUnit src with
    | .unit u => s.blockReset u (some src)
    | .takenAs _ => s)
  | 4 => s.chipResetBegin src
  | _ => s.quietOver src

/-- What R514 selects for an event: the source's next STATE and RCNT, the reaction applied, and whether it is ESC. -/
structure Selected where
  st : Nat
  rcnt : Nat
  reaction : Option Nat
  esc : Bool
  deriving DecidableEq, Repr

/-- R514. -/
def State.select (s : State) (src : Nat) : Selected :=
  let st := s.get (FLT_ROUTE_STATE src)
  let rcnt := s.get (FLT_ROUTE_RCNT src)
  let react := takenReaction src (s.get (FLT_ROUTE_REACT src))
  let rlim := s.get (FLT_ROUTE_RLIM src)
  if !s.is (FLT_ROUTE_EN src) || decide (2 ≤ st) || (st == 1 && decide (react ≤ 2)) then ⟨st, rcnt, none, false⟩
  else
    let n := min 15 (rcnt + 1)
    if rlim ≠ 0 ∧ rlim ≤ n ∧ react ≠ 4 then ⟨2, n, some (takenReaction src (s.get (FLT_ROUTE_ESC src))), true⟩
    else ⟨1, n, some react, false⟩

/-- What the fault summary log counts of a source, saturating (Table 19-8). -/
def State.countSrc (s : State) (src : Nat) (f : SrcCount → SrcCount) : State :=
  { s with flt := { s.flt with
    perSource := KMap.set (fun _ => ⟨0, 0, 0⟩) s.flt.perSource src (f (KMap.get (fun _ => ⟨0, 0, 0⟩) s.flt.perSource src)) } }

/-- FN acts (R517): FAULT_N is driven low, and FIRST names the source that set ACTIVE. -/
def State.faultPin (s : State) (src : Nat) : State :=
  (if s.is FLT_FNSTAT_ACTIVE then s else s.put FLT_FNSTAT_FIRST src).putb FLT_FNSTAT_ACTIVE true

/-- The counts that every event makes (R510, Table 19-8, R515). -/
def State.countEvent (s : State) (src : Nat) : State :=
  let s1 := (((s.bump (FLT_ROUTE_COUNT src)).bump FLT_STAT_ARRIVED).put FLT_STAT_LAST src).countSrc src (fun c =>
    { c with events := min 0xFFFF (c.events + 1) })
  { s1 with flt := { s1.flt with
    events := s1.flt.events + 1
    quietHit := if s.get (FLT_ROUTE_STATE src) = 1 ∧ !s1.flt.quietHit.contains src then s1.flt.quietHit ++ [src]
      else s1.flt.quietHit } }

/-- The collector handles one event (R510): it is counted, its reaction selected and recorded, and then applied. -/
def State.handleEvent (s : State) (e : Raised) (full : Bool) : State :=
  let s1 := s.countEvent e.src
  let x := s1.select e.src
  let s2 := (s1.put (FLT_ROUTE_STATE e.src) x.st).put (FLT_ROUTE_RCNT e.src) x.rcnt
  let s3 := if s2.is (FLT_ROUTE_EN e.src) && s2.is (FLT_ROUTE_FN e.src) then s2.faultPin e.src else s2
  let s4 := if x.esc then
      ({ s3 with flt := { s3.flt with escalations := s3.flt.escalations + 1 } }.bump FLT_CNT_ESCAL).raise 1141 else s3
  let s5 := s4.recordEvent e (x.reaction.getD 0 + (if x.esc then 0x80 else 0)) (x.st == 2) full
  let s6 := match x.reaction with
    | some r => (s5.countSrc e.src (fun c => { c with reacts := min 0xFF (c.reacts + 1) })).react e.src r
    | none => s5
  s6.raiseIf e.inj 1151

end Sys2Proof.Machine
end

