-- ==== Sys2Proof/Machine/Collector.lean ====
section
/-! DEFINITION. Meanings of the fault collector's commands (spec 19.1 to 19.4). -/

namespace Sys2Proof.Machine

/-! ### Events (R509, R510) -/

/-- The event that the collector handles next: of those raised at one time with the oldest, the one of lowest source. -/
def nextEvent (inbox : List Raised) : Option Raised :=
  match inbox with
  | [] => none
  | e :: _ => some ((inbox.filter (fun x => x.time == e.time)).foldl (fun b x => if x.src < b.src then x else b) e)

/-- EVENT_ARRIVAL (R509, R510, R514, R519). -/
def eventArrival (full : Bool) (s : State) : State :=
  match nextEvent s.flt.inbox with
  | none => s
  | some e =>
    let s1 : State := { s with flt := { s.flt with inbox := s.flt.inbox.erase e } }
    s1.handleEvent e full

/-- EVENT_ARRIVAL. -/
def execEventArrival (full : Bool) (s : State) : Host.Outcome State Fault Refusal := .next (eventArrival full s)

/-- CHIP_RESET_TIMEOUT (R513, Table 19-5 step 4): the internal reset is applied once every engine is in OFF, PARKED or FAULT and
the commit has ended, or at 600 ms; CUT tells that the commit was cut or not run. A start follows (20.3). -/
def chipResetTimeout (timeout : Bool) (i : StartInput) (s : State) : State :=
  if s.flt.chip.isNone then s
  else if timeout || (s.allIdle && s.pwr.commit.isNone) then
    (s.putb FLT_CRREASON_CUT (s.pwr.committed != some true)).chipReset i
  else s

/-- CHIP_RESET_TIMEOUT. -/
def execChipResetTimeout (timeout : Bool) (i : StartInput) (s : State) : Host.Outcome State Fault Refusal :=
  .next (chipResetTimeout timeout i s)

/-! ### Quiet periods and recovery counts (R515) -/

/-- QUIET_PERIOD_EXPIRY (R515): a quiet period runs from the end of the reaction, so none ends while the source's block reset
runs. -/
def quietExpiry (src : Nat) (s : State) : State :=
  if s.get (FLT_ROUTE_STATE src) ≠ 1 ∨ s.flt.resets.any (fun r => r.source == some src) then s
  else
    let hit := s.flt.quietHit.contains src
    let s1 := s.put (FLT_ROUTE_STATE src) 0
    let s2 : State := { s1 with flt := { s1.flt with quietHit := s1.flt.quietHit.filter (fun x => x != src) } }
    if hit then s2 else (s2.bump FLT_CNT_TRANS).countSrc src (fun c => { c with trans := min 0xFF (c.trans + 1) })

/-- QUIET_PERIOD_EXPIRY. -/
def execQuietPeriodExpiry (src : Fin 1152) (s : State) : Host.Outcome State Fault Refusal := .next (quietExpiry src.val s)

/-- RCNT_DECAY_EXPIRY (R515): DECAY = 0 never clears RCNT. -/
def rcntDecay (src : Nat) (s : State) : State :=
  if s.get FLT_CTL_DECAY = 0 then s else s.put (FLT_ROUTE_RCNT src) 0

/-- RCNT_DECAY_EXPIRY. -/
def execRcntDecayExpiry (src : Fin 1152) (s : State) : Host.Outcome State Fault Refusal := .next (rcntDecay src.val s)

/-- SOURCE_REARM (R515): the sources of the bits set return to IDLE with RCNT 0. -/
def sourceRearm (i : Nat) (mask : Word) (s : State) : State :=
  (List.range 32).foldl (fun (t : State) j =>
    if mask.getLsbD j then
      let u := (t.put (FLT_ROUTE_STATE (32 * i + j)) 0).put (FLT_ROUTE_RCNT (32 * i + j)) 0
      { u with flt := { u.flt with quietHit := u.flt.quietHit.filter (fun x => x != 32 * i + j) } }
    else t) s

/-- SOURCE_REARM. -/
def execSourceRearm (i : Fin 36) (mask : Word) (s : State) : Host.Outcome State Fault Refusal :=
  .next (sourceRearm i.val mask s)

/-! ### Block resets (R512) -/

/-- BLOCK_RESET_REQUEST (R512): a code that Table 19-3 does not list does nothing. -/
def blockResetRequest (u : Nat) (s : State) : State :=
  let s1 := s.put FLT_BRST_UNIT u
  if unitListed u then s1.blockReset u none else s1

/-- BLOCK_RESET_REQUEST. -/
def execBlockResetRequest (unit : Fin 32) (s : State) : Host.Outcome State Fault Refusal :=
  .next (blockResetRequest unit.val s)

/-- BLOCK_RESET_DRAIN_END (R512, Table 19-4 steps 5 to 7). -/
def execBlockResetDrainEnd (unit : Fin 96) (s : State) : Host.Outcome State Fault Refusal := .next (s.finishReset unit.val)

/-- BLOCK_RESET_DRAIN_FORCED (R512): source 1143, and the unit's stop discards every later response to the unit. -/
def drainForced (u : Nat) (s : State) : State :=
  if s.flt.resets.any (fun r => r.unit == u) then
    let s1 : State := { s with flt := { s.flt with
      discards := s.flt.discards ++ (unitStops u).filter (fun d => !s.flt.discards.contains d) } }
    (s1.raise 1143).finishReset u
  else s

/-- BLOCK_RESET_DRAIN_FORCED. -/
def execBlockResetDrainForced (unit : Fin 96) (s : State) : Host.Outcome State Fault Refusal := .next (drainForced unit.val s)

/-! ### Non-maskable traps (R511) -/

/-- NMI_RETURN (R511): the handler ends, and the core takes its held trap of lowest source, if any. -/
def nmiReturn (k : Nat) (s : State) : State :=
  if !s.flt.inNmi.contains k then s
  else
    match (s.flt.held.filter (fun h => h.1 == k)).foldl (fun (b : Option (Nat × Nat)) h => match b with
      | some x => if h.2 < x.2 then some h else b
      | none => some h) none with
    | some h => { s with flt := { s.flt with held := s.flt.held.erase h } }
    | none =>
      let s1 : State := { s with flt := { s.flt with inNmi := s.flt.inNmi.filter (fun c => c != k) } }
      if s.get (CPU_CORESTAT_STATE k) = 3 then s1.put (CPU_CORESTAT_STATE k) 1 else s1

/-- NMI_RETURN. -/
def execNmiReturn (k : Fin 6) (s : State) : Host.Outcome State Fault Refusal := .next (nmiReturn k.val s)

/-! ### FAULT_N and injection (R517, R518) -/

/-- FAULT_PIN_RELEASE (R517). -/
def execFaultPinRelease (s : State) : Host.Outcome State Fault Refusal := .next (s.putb FLT_FNSTAT_ACTIVE false)

/-- FAULT_INJECT (R518): in MANUFACTURE and RMA the source is raised as if its block had, unless it is a reserved one (R509); in
every other lifecycle state the write is a bad access of cause 3. -/
def faultInject (src : Nat) (s : State) : State :=
  let life := s.get TGT_STAT_LIFE
  if life = 0 ∨ life = 3 then
    let s1 := s.put FLT_INJ_SOURCE src
    if sourceReserved src then s1
    else { s1 with flt := { s1.flt with inbox := s1.flt.inbox ++ [⟨src, s1.time, 0, true⟩] } }
  else s.badAccess 3 false true FLT_INJ

/-- FAULT_INJECT. -/
def execFaultInject (src : Fin 2048) (s : State) : Host.Outcome State Fault Refusal := .next (faultInject src.val s)

end Sys2Proof.Machine
end

