-- ==== Sys2Proof/Machine/Cores.lean ====
section
/-! DEFINITION. Meanings of the commands of the control cores' caches (spec 18). -/

namespace Sys2Proof.Machine

/-- Ways beyond `w` of cache `c` are invalidated (R498). -/
def State.shrink (s : State) (c w : Nat) : State :=
  { s with cores := { s.cores with caches := s.cores.caches.modify c (fun m => m.filter (fun e => decide (e.1 % 16 < w))) } }

/-- L1_WAY_CHANGE (R498, R508): the fields are RWL; lines of ways being disabled are invalidated and newly enabled ways are
invalid. -/
def l1WayChange (k iways dways : Nat) (s : State) : State :=
  if s.is CPU_CTL_LOCK then
    if s.get (CPU_L1CFG_IWAYS k) = iways ∧ s.get (CPU_L1CFG_DWAYS k) = dways then s
    else s.badAccess 4 false true (CPU_L1CFG k)
  else
    let s1 := (s.put (CPU_L1CFG_IWAYS k) iways).put (CPU_L1CFG_DWAYS k) dways
    (s1.shrink (2 * k) (s1.l1Ways k true)).shrink (2 * k + 1) (s1.l1Ways k false)

/-- L1_WAY_CHANGE. -/
def execL1WayChange (k : Fin 6) (iways dways : Fin 32) (s : State) : Host.Outcome State Fault Refusal :=
  .next (l1WayChange k.val iways.val dways.val s)

/-- LFSR_LOAD (R501): 0 loads the reset seed. -/
def lfsrLoad (c v : Nat) (s : State) : State := s.put (CPU_LFSR_STATE c) (if v = 0 then 0xACE1 else v)

/-- LFSR_LOAD. -/
def execLfsrLoad (c : Fin 13) (value : Fin 65536) (s : State) : Host.Outcome State Fault Refusal :=
  .next (lfsrLoad c.val value.val s)

/-- The core goes on after a fill; one in a non-maskable trap handler stays in it. -/
def State.coreRuns (s : State) (k : Nat) : State := s.put (CPU_CORESTAT_STATE k) (if s.flt.inNmi.contains k then 3 else 1)

/-- The line enters the core's L1 (R497, R500). -/
def State.fillL1 (s : State) (k : Nat) (fetch : Bool) (addr : Nat) (data : List Byte) : State :=
  let c := l1Of k fetch
  let (w, s1) := s.allocate c (l1Set addr) (List.range (s.l1Ways k fetch))
  (s1.setWay c (l1Set addr) w (some ⟨addr / 64, false, data⟩)).coreRuns k

/-- A DRAM fill of the L2 (R500, Table 18-2): none where the DRAM word is uncorrectable. The victim is written back first,
or goes to the DRAM poisoned where its data is uncorrectable. -/
def State.fillL2 (s : State) (addr : Nat) (work : CacheWork) (badVictim badDram : Bool) : Option State :=
  if badDram || s.mem.fwBad.any (fun w => w / 8 == addr / 64) then none
  else
    let st := l2Set addr
    let (w, s1) := s.allocate l2No st (s.partWays (s.partOf work))
    let s2 := match s1.way l2No st w with
      | some l => if !l.dirty then s1.dropL2 st w
          else if badVictim then s1.l2DataError st w
          else (s1.writeLine l.line l.data).dropL2 st w
      | none => s1
    some (s2.setWay l2No st w (some ⟨addr / 64, false, s2.lineBytes (addr / 64)⟩))

/-- A store that the L2 holds the line of (R496): the line changes and is dirty; the core's own L1D copy follows and every
other core's is invalidated before the acknowledgement. -/
def State.storeHit (s : State) (k : Nat) (x : CoreStore) (w : Nat) : State :=
  let upd (l : CacheLine) : CacheLine := { l with data := l.data.set (x.addr % 64) x.byte }
  let s1 := s.setWay l2No (l2Set x.addr) w ((s.way l2No (l2Set x.addr) w).map (fun l => { upd l with dirty := true }))
  (List.range 6).foldl (fun t j => match t.findWay (2 * j + 1) x.addr with
    | some v => t.setWay (2 * j + 1) (l1Set x.addr) v (if j = k then (t.way (2 * j + 1) (l1Set x.addr) v).map upd else none)
    | none => t) s1

/-- A store of core `k` that reaches the L2, which allocates the line where it does not hold it (assumption 48); over an
uncorrectable DRAM word it fails (R485). A store outside the firmware area passes the caches by (R494). -/
def State.takeStore (s : State) (k : Nat) (work : CacheWork) (x : CoreStore) : State :=
  if s.fwBytes ≤ x.addr then s
  else match s.findWay l2No x.addr with
    | some w => s.storeHit k x w
    | none => match s.fillL2 x.addr work false false with
      | none => s.dramBad (dramWord (x.addr / 8 * 8))
      | some t => match t.findWay l2No x.addr with
        | some w => t.storeHit k x w
        | none => t

/-- A DRAM error below the L2 (Table 18-2, R488): the port's word is captured and stays uncorrectable, and the core traps. -/
def State.dramMiss (s : State) (k pc addr : Nat) : State :=
  let w := (s.mem.fwBad.find? (fun x => x / 8 == addr / 64)).getD (addr / 64 * 8)
  let s1 := { s with mem := { s.mem with fwBad := if s.mem.fwBad.contains w then s.mem.fwBad else s.mem.fwBad ++ [w] } }
  ((s1.dramBad (dramWord (8 * w))).cacheError 13 false (l2Set addr) 0 (addr / 64)).preciseTrap k pc addr true

/-- The L2 serves the miss, and the line enters the L1. -/
def State.serveMiss (s : State) (m : MissArgs) : State :=
  let k := m.core.val
  let a := m.addr.toNat
  match s.findWay l2No a with
  | some w =>
    if m.find = .l2Data then (s.l2DataError (l2Set a) w).preciseTrap k m.pc a false
    else s.fillL1 k m.fetch a (((s.way l2No (l2Set a) w).map CacheLine.data).getD [])
  | none =>
    match s.fillL2 a m.work (m.find == .l2Victim) (m.find == .dram) with
    | none => s.dramMiss k m.pc a
    | some t => t.fillL1 k m.fetch a (t.lineBytes (a / 64))

/-- L1_MISS_FILL (R494 to R505): only the firmware area is cacheable, and a hit fills nothing. -/
def l1MissFill (m : MissArgs) (s : State) : State :=
  let k := m.core.val
  let a := m.addr.toNat
  let c := l1Of k m.fetch
  if s.fwBytes ≤ a ∨ s.get (CPU_CORESTAT_STATE k) = 0 ∨ s.get (CPU_CORESTAT_STATE k) = 4 then s
  else
    let s0 := m.stores.foldl (fun t x => t.takeStore k m.work x) s
    let miss (t : State) : State := if (t.findWay c a).isSome then t.coreRuns k else t.serveMiss m
    match m.find with
    | .l1Corrected => miss (s0.cacheCorrected c)
    | .l2Corrected => miss (s0.cacheCorrected l2No)
    | .l1Data w => let t := s0.l1Error c (l1Set a) w.val false
      if m.fetch then t.preciseTrap k m.pc a false else miss t
    | .l1Tag w => let t := s0.l1Error c (l1Set a) w.val true
      if m.fetch then t.preciseTrap k m.pc a false else miss t
    | .l2Tag w => miss (s0.l2TagError (l2Set a) w.val)
    | .clean | .l2Data | .l2Victim | .dram => miss s0

/-- L1_MISS_FILL. -/
def execL1MissFill (m : MissArgs) (s : State) : Host.Outcome State Fault Refusal := .next (l1MissFill m s)

end Sys2Proof.Machine
end

