-- ==== Sys2Proof/Machine/Flash.lean ====
section
/-! DEFINITION. Meanings of the commands of the flash store (spec 10). -/

namespace Sys2Proof.Machine

/-- FLASH_READ: the entry is refused or placed. -/
def execFlashRead (e : FlashEntry) (s : State) : Host.Outcome State Fault Refusal := .next (s.flashEntry .read e)

/-- FLASH_PROGRAM. -/
def execFlashProgram (e : FlashEntry) (s : State) : Host.Outcome State Fault Refusal := .next (s.flashEntry .program e)

/-- FLASH_ERASE. -/
def execFlashErase (e : FlashEntry) (s : State) : Host.Outcome State Fault Refusal := .next (s.flashEntry .erase e)

/-- FLASH_MREAD. -/
def execFlashMread (e : FlashEntry) (s : State) : Host.Outcome State Fault Refusal := .next (s.flashEntry .mread e)

/-- FLASH_OPERATION_END. -/
def execFlashOperationEnd (die : Fin 2) (r : FlashResult) (s : State) : Host.Outcome State Fault Refusal :=
  .next (s.flashOpEnd die.val r)

/-- FLASH_DIE_TIMEOUT. -/
def execFlashDieTimeout (die : Fin 2) (s : State) : Host.Outcome State Fault Refusal := .next (s.dieTimeout die.val)

/-- ERASE_SUSPEND. -/
def execEraseSuspend (die : Fin 2) (s : State) : Host.Outcome State Fault Refusal := .next (s.suspendErase die.val)

/-- ERASE_RESUME. -/
def execEraseResume (die : Fin 2) (s : State) : Host.Outcome State Fault Refusal := .next (s.resumeErase die.val)

/-- PATROL_READ. -/
def execPatrolRead (die : Fin 2) (block : Fin 4096) (page : Fin 512) (bits : Nat) (s : State) :
    Host.Outcome State Fault Refusal := .next (s.patrolRead die.val block.val page.val bits)

/-- VFLASH_BAND_CHANGE. -/
def execVflashBandChange (b : FlashBand) (s : State) : Host.Outcome State Fault Refusal := .next (s.bandChange b)

/-- RESERVE_ERASE. -/
def execReserveErase (die : Fin 2) (block : Fin 4096) (ok : Bool) (s : State) : Host.Outcome State Fault Refusal :=
  .next (s.reserveErase die.val block.val ok)

end Sys2Proof.Machine
end

