-- ==== Sys2Proof/Machine/Owner.lean ====
section
/-! DEFINITION. Meanings of the owner commands of the Tollgate (spec 15.6 to 15.8). -/

namespace Sys2Proof.Machine

/-- An owner command: refused with code 1 in the wrong lifecycle state (Table 15-8). -/
def State.ownerCmd (s : State) (tag op life : Nat) (k : Cmd → State) : State :=
  match s.adminCmd tag op with
  | none => s
  | some c => if s.get TGT_STAT_LIFE = life then k c else s.refuse tag 1

/-- An owner root slot is filled with the hash of a public key (R446). -/
def State.fillSlot (s : State) (k : Nat) (key : List Byte) : State :=
  { s with tgt := { s.tgt with owners := s.tgt.owners.set k (some (sha384 key)) } }.put TGT_ROOT_OWNVALID
    (setBits (s.get TGT_ROOT_OWNVALID) k 1 1)

/-- OWNER_CLAIM: slot 0 fused; LIFE := CLAIMED; source 1014. -/
def ownerClaim (tag : Nat) (key : List Byte) (s : State) : State :=
  s.ownerCmd tag 0xC8 1 (fun _ =>
    (((((s.fillSlot 0 key).put TGT_STAT_LIFE 2).raise 1014).measureSecurity)).ok tag)

/-- OWNER_CLAIM. -/
def execOwnerClaim (tag : Nat) (key : List Byte) (s : State) : Host.Outcome State Fault Refusal := .next (ownerClaim tag key s)

/-- OWNER_ROOT_UPDATE: CDW10 [1:0] the slot, [8] revoke; source 1015. -/
def ownerRootUpdate (tag : Nat) (key : List Byte) (s : State) : State :=
  s.ownerCmd tag 0xC9 2 (fun c =>
    let k := bitsOf c.sqe.c10 0 2
    if bitsOf c.sqe.c10 8 1 = 0 then
      if bitsOf (s.get TGT_ROOT_OWNVALID) k 1 = 1 then s.refuse tag 5
      else (((s.fillSlot k key).raise 1015).measureSecurity).ok tag
    else if s.get TGT_ROOT_OSLOT = k then s.refuse tag 5
    else (((s.put TGT_ROOT_OWNREV (setBits (s.get TGT_ROOT_OWNREV) k 1 1)).raise 1015).measureSecurity).ok tag)

/-- OWNER_ROOT_UPDATE. -/
def execOwnerRootUpdate (tag : Nat) (key : List Byte) (s : State) : Host.Outcome State Fault Refusal :=
  .next (ownerRootUpdate tag key s)

/-- TENANCY_CREATE: CDW10 [6:0] t, [8] LOCKREQ; UNLOCKED, or AWAITING under LOCKREQ; source 1004. -/
def tenancyCreate (tag : Nat) (s : State) : State :=
  s.ownerCmd tag 0xCA 2 (fun c =>
    let t := bitsOf c.sqe.c10 0 7
    let lock := bitsOf c.sqe.c10 8 1 == 1
    if (s.tenKey t).isSome then s.refuse tag 2
    else match s.drawKey with
      | none => s.noRandom tag
      | some (key, s1) =>
        let (salt, s2) := s1.fresh 256
        let s3 := s2.setTenKey t (some ⟨1, key, if lock then none else some key, BitVec.ofNat 256 salt, none⟩)
        let s4 := (((s3.wr (TGT_TEN t) 0).putb (TGT_TEN_EXIST t) true).putb (TGT_TEN_LOCKREQ t) lock).put (TGT_TEN_STATE t)
          (if lock then 2 else 0)
        (s4.raise 1004).ok tag)

/-- TENANCY_CREATE. -/
def execTenancyCreate (tag : Nat) (s : State) : Host.Outcome State Fault Refusal := .next (tenancyCreate tag s)

/-- A function is bound to a tenancy. -/
def State.boundTo (s : State) (t f : Nat) : Bool := s.is (TGT_BIND_BOUND f) && s.get (TGT_BIND_TEN f) == t

/-- TENANCY_DELETE: without namespaces and bound controllers; source 1005. -/
def tenancyDelete (tag : Nat) (s : State) : State :=
  s.ownerCmd tag 0xCB 2 (fun c =>
    let t := bitsOf c.sqe.c10 0 7
    if (s.tenKey t).isNone then s.refuse tag 2
    else if s.host.ns.any (fun n => n.ten.val == t) || (List.range 128).any (s.boundTo t) then s.refuse tag 3
    else ((((s.setTenKey t none).wr (TGT_TEN t) 0)).raise 1005).ok tag)

/-- TENANCY_DELETE. -/
def execTenancyDelete (tag : Nat) (s : State) : Host.Outcome State Fault Refusal := .next (tenancyDelete tag s)

/-- CONTROLLER_BIND: CDW10 [6:0] f, [14:8] t, [15] unbind. -/
def controllerBind (tag : Nat) (s : State) : State :=
  s.ownerCmd tag 0xCC 2 (fun c =>
    let f := bitsOf c.sqe.c10 0 7
    let t := bitsOf c.sqe.c10 8 7
    let off := bitsOf c.sqe.c10 15 1 == 1
    if !(s.ctl f).en || s.host.ns.any (fun n => n.attached.contains f) || (!off && (s.tenKey t).isNone) then s.refuse tag 4
    else ((s.put (TGT_BIND_TEN f) (if off then 0 else t)).putb (TGT_BIND_BOUND f) (!off)).ok tag)

/-- CONTROLLER_BIND. -/
def execControllerBind (tag : Nat) (s : State) : Host.Outcome State Fault Refusal := .next (controllerBind tag s)

/-- TENANCY_CRYPTO_ERASE: every namespace of the tenancy and its KTEN (R459). -/
def tenancyErase (tag : Nat) (s : State) : State :=
  s.ownerCmd tag 0xCD 2 (fun c =>
    let t := bitsOf c.sqe.c10 0 7
    let nss := s.host.ns.filter (fun n => n.ten.val == t)
    if (s.tenKey t).isNone then s.refuse tag 2
    else if s.scopeBusy c nss then s
    else match s.cryptoErase [t] nss 1006 with
      | none => s.noRandom tag
      | some s1 => s1.ok tag)

/-- TENANCY_CRYPTO_ERASE. -/
def execTenancyCryptoErase (tag : Nat) (s : State) : Host.Outcome State Fault Refusal := .next (tenancyErase tag s)

/-- ANTI_ROLLBACK_ADVANCE: CDW10 [2:0] the class, [15:8] the target. -/
def rollbackAdvance (tag : Nat) (bad : Option Nat) (s : State) : State :=
  s.ownerCmd tag 0xCE 2 (fun c =>
    let k := bitsOf c.sqe.c10 0 3
    let v := bitsOf c.sqe.c10 8 8
    let loaded := match s.tgt.loaded.getD k none with
      | some l => decide (v ≤ l.svn)
      | none => false
    if 5 < k ∨ v ≤ s.floor k ∨ 128 < v ∨ loaded = false then s.refuse tag 6
    else (s.advanceFloor k v bad).ok tag)

/-- ANTI_ROLLBACK_ADVANCE. -/
def execAntiRollbackAdvance (tag : Nat) (bad : Option Nat) (s : State) : Host.Outcome State Fault Refusal :=
  .next (rollbackAdvance tag bad s)

/-! ### Debug unlock (R460, R461) -/

/-- The nonce's 32 bytes. -/
def State.nonce (s : State) : List Byte := (List.range 8).flatMap (fun k => leBytes 4 (s.get (TGT_DBGNONCE_NONCE k)))

/-- The token verifies: a signature over nonce ‖ level ‖ SHA-384 of DIK's public key, by an unrevoked owner root key for
level 1 or vendor root key for level 2. -/
def State.tokenOk (s : State) (level : Nat) (token key : List Byte) : Bool :=
  let signer := if level = 1 then 1 else 0
  let dik := sha384 (match s.tgt.drs with
    | some d => Config.dikPublic d
    | none => [])
  (level == 1 || level == 2) && (List.range 4).any (fun k => s.rootHash signer k == some (sha384 key))
    && ecdsaVerify key (s.nonce ++ leBytes 1 level ++ dik) token

/-- Every key is zeroised, the sessions end, the DRS is blocked until chip reset, MR8 is extended, and every controller
reports CSTS.CFS = 1 (R461, step 3). -/
def State.zeroise (s : State) (level : Nat) : State :=
  let s1 := (s.tgt.sessions.map Session.fn).foldl State.endSession s
  let s2 : State := { s1 with
    tgt := { s1.tgt with drsBlocked := true, kseal := none, kflash := none, kdram := none, dik := false
                         tens := s1.tgt.tens.map (fun e => (e.1, e.2.map (fun k => { k with key := none }))) }
    host := { s1.host with ns := s1.host.ns.map (fun n => { n with key := none }) } }
  let s3 := ((s2.putb TGT_STAT_KEYS false).put TGT_STAT_DBG level).measureSecurity
  (List.range 128).foldl (fun t f => t.modCtl f (fun c => { c with cfs := true })) s3

/-- Steps 3 to 5: for level 2 the DRS is destroyed and LIFE set to RMA; the debug paths open; source 1011. -/
def State.openDebug (s : State) (tag level : Nat) : State :=
  let s1 := s.zeroise level
  let s2 : State := if level = 2 then (({ s1 with tgt := { s1.tgt with drs := none } }).put TGT_STAT_LIFE 3).measureSecurity else s1
  (({ s2 with tgt := { s2.tgt with unlock := none, debugOpen := true } }).raise 1011).ok tag

/-- The drain of a debug unlock has ended. -/
def State.drainOver (s : State) (id : Nat) : Bool := !s.sqr.drains.any (fun d => d.id == id) && !s.sqr.drainWait.contains id

/-- DEBUG_UNLOCK: CDW10 [1:0] the level. An accepted one stops fetching and drains the dirty window; once the drain has
ended (at once, when nothing is dirty) the keys are zeroised and the debug paths open. -/
def debugUnlock (tag : Nat) (token key : List Byte) (s : State) : State :=
  s.ownerCmd tag 0xCF 2 (fun c =>
    match s.tgt.unlock with
    | some (level, id) => if s.drainOver id then s.openDebug tag level else s
    | none =>
      let level := bitsOf c.sqe.c10 0 2
      if !s.tokenOk level token key then (((s.bump TGT_CNT_DBGREF).raise 1010).newNonce).refuse tag 7
      else
        let s1 := s.newNonce
        if s1.dirtyPages = 0 then s1.openDebug tag level
        else
          let (id, s2) := s1.requestDrain
          { s2 with tgt := { s2.tgt with unlock := some (level, id) } })

/-- DEBUG_UNLOCK. -/
def execDebugUnlock (tag : Nat) (token key : List Byte) (s : State) : Host.Outcome State Fault Refusal :=
  .next (debugUnlock tag token key s)

end Sys2Proof.Machine
end

