-- ==== Sys2Proof/Machine/Power.lean ====
section
/-! DEFINITION. Meanings of the power block's commands (spec 20), and of PORST_N (R406). -/

namespace Sys2Proof.Machine

/-! ### Port events (R361, R544) -/

/-- A port event; an assertion of PERST_A_N after a commit in Cul-de-sac or claim mode starts the device afresh (R544). -/
def portEventStart (p : Nat) (c : PortCause) (s : State) : State :=
  match c with
  | .perst i => if p = 0 && s.restricted && s.pwr.restart then (portEvent p c s).chipReset i else portEvent p c s
  | .linkDown | .hotReset => portEvent p c s

/-- PORT_EVENT. -/
def execPortEvent (p : Fin 2) (c : PortCause) (s : State) : Host.Outcome State Fault Refusal :=
  .next (portEventStart p.val c s)

/-! ### PORST_N (R406, R539) -/

/-- PORST_FALL (R406): with supply, both ports meet a port event, placements are held, engines unload and the commit runs; without
supply the power-loss sequence applies instead, and in a device that is off nothing more happens. -/
def porstFall (s : State) : State :=
  if s.pwr.porstLow then s
  else
    let s1 : State := { s with pwr := { s.pwr with porstLow := true, risen := none } }
    if s1.pwr.inReset || s1.is PWR_PLSTAT_SIGNAL || !s1.is PWR_VREQ_PGOOD then s1
    else
      let s2 := s1.portEvent 0
      let s3 := if s2.is HST_CTL_MODE then s2.portEvent 1 else s2
      unloadAll (s3.beginCommit 3)

/-- PORST_FALL. -/
def execPorstFall (s : State) : Host.Outcome State Fault Refusal := .next (porstFall s)

/-- A commit that is still running is cut and recorded as failed. -/
def State.cutCommit (s : State) : State :=
  if s.pwr.commit.isSome then { s with pwr := { s.pwr with commit := none, committed := some false, newestOk := false } } else s

/-- PORST_COMMIT_CUT (R406): 600 ms after the falling edge the internal reset is applied; a commit cut so has failed, and source
150 is raised. -/
def porstCommitCut (s : State) : State :=
  if s.pwr.inReset || !(s.pwr.porstLow || s.pwr.risen.isSome) || s.pwr.commit.isNone then s
  else ((s.cutCommit.resetReason 2 0 true).internalReset.raise 150).startAfter anyStart

/-- PORST_COMMIT_CUT. -/
def execPorstCommitCut (s : State) : Host.Outcome State Fault Refusal := .next (porstCommitCut s)

/-- PORST_HOLD_EXPIRY (R406): low for 1 s without a break, PORST_N applies the internal reset whatever the commit. -/
def porstHold (s : State) : State :=
  if s.pwr.porstLow && !s.pwr.inReset then (s.cutCommit.resetReason 3 0 s.pwr.commit.isSome).internalReset else s

/-- PORST_HOLD_EXPIRY. -/
def execPorstHoldExpiry (s : State) : Host.Outcome State Fault Refusal := .next (porstHold s)

/-- A start that samples the straps (R561), with the time base from 0 (R53). A start from deep standby raises source 1138, and
its recorder SRAM was lost (R523, R536). -/
def State.coldStart (s : State) (straps : Fin 16) (i : StartInput) : State :=
  let s1 : State := { s with tim := { s.tim with now := 0 } }
  ((s1.wr PIN_STRAP (BitVec.ofNat 32 straps.val)).raiseIf s.pwr.deep 1138).start
    { i with headerOk := i.headerOk && !s.pwr.deep }

/-- PORST_RELEASE (R406, 20.3): the start begins; before the internal reset has been applied it waits for that. -/
def porstRelease (straps : Fin 16) (i : StartInput) (s : State) : State :=
  if !s.pwr.porstLow then s
  else
    let s1 : State := { s with pwr := { s.pwr with porstLow := false } }
    if s.pwr.inReset then s1.coldStart straps i
    else { s1 with pwr := { s1.pwr with risen := some (straps, i) } }

/-- PORST_RELEASE. -/
def execPorstRelease (straps : Fin 16) (i : StartInput) (s : State) : Host.Outcome State Fault Refusal :=
  .next (porstRelease straps i s)

/-! ### The commit record (R549, Table 20-5) -/

/-- Writes of at most 64 blocks whose placement has not ended: the command, its namespace and its blocks. -/
def State.openWrites (s : State) : List (Cmd × Namespace × Nat) :=
  (s.rbt.cmds.filter (fun c => c.phase == .placing && decide (bitsOf c.sqe.c12 0 16 < 64))).filterMap (fun c =>
    (s.nsFor c.fn c.sqe.nsid).map (fun n => (c, n, bitsOf c.sqe.c12 0 16 + 1)))

/-- The first LBA of a command. -/
def firstLba (e : Sqe) : Nat := e.c10 + 2 ^ 32 * e.c11

/-- A journaled page belongs to an open write. -/
def inOpenWrite (w : List (Cmd × Namespace × Nat)) (e : JournalBlock) : Bool :=
  w.any (fun x => e.tag == some x.1.tag && e.key.ns == x.2.1.nsid - 1
    && decide (firstLba x.1.sqe ≤ e.key.lba ∧ e.key.lba < firstLba x.1.sqe + x.2.2))

/-- A page as the commit journals it. -/
def Page.journalBlock (g : Page) : JournalBlock := ⟨g.key, g.epoch, g.data, g.pmeta, g.loc, g.tag⟩

/-- The pages of a commit are in the journal (Table 20-8 step 6); those of open writes are as replay leaves them, dropped
(R394). -/
def State.commitToJournal (s : State) : State :=
  let ps := s.commitPages
  let w := s.openWrites
  let s1 := ps.foldl (fun (t : State) p => t.modPage p (fun g => { g with j := true })) s
  s1.modSqr (fun q => { q with
    journal := (q.journal ++ ps.map (fun p => (s.page p).journalBlock)).filter (fun e => !inOpenWrite w e) })

/-- PARK: EUOK of each engine, and the engines that were idle when the commit began. -/
def State.parkByte (s : State) : Nat :=
  ((List.range 4).map (fun n => s.get (SVO_LATCHS_EUOK n) * 2 ^ n)).sum + 16 * s.pwr.idleAt

/-- CAUSE of a commit of a kind. -/
def State.commitCause (s : State) (kind : Nat) : Nat :=
  match kind with
  | 1 => s.get PWR_PLSTAT_CAUSE
  | 3 => 8
  | _ => 16

/-- Flash pages, in plane pairs, that a commit's data and records take: eight blocks, or 336 records, to a pair. -/
def commitFlashPages (npages nrec : Nat) : Nat := 2 * ceilDiv npages 8 + 2 * ceilDiv nrec 336

/-- Plane pairs of a record with that many open writes. -/
def recordPairs (nopen : Nat) : Nat := 1 + ceilDiv (nopen - 2044) 2048

/-- Pages programmed on ring 15 or ring 0 take their SEQ and count toward the wear budget (R300, R318). -/
def State.programmed (s : State) (pages : Nat) : State :=
  let s1 : State := { s with fls := { s.fls with
    seq := (s.fls.seq + pages) % 2 ^ 64, reserve := s.fls.reserve.drop (ceilDiv pages 512) } }
  (s1.wear (16384 * pages)).put FLS_STAT_RESERVE s1.fls.reserve.length

/-- The commit record is programmed: the commit is recorded as successful. START stands for a power-loss signal before step 12
(Table 20-5); a PORST_N or a chip reset there is a failed start instead (R540). -/
def State.writeCommit (s : State) (kind : Nat) : State :=
  let n := s.commitPages.length
  let w := s.openWrites
  let recs := unmirrored s.recd.circ (mirrorTop s.recd.mirror)
  let k := commitFlashPages n recs.length
  let r : CommitRec :=
    { kind := kind, cause := s.commitCause kind, park := s.parkByte, start := kind == 1 && s.get PWR_START_STEP != 0
      boot := s.get REC_BOOT_BOOT, npages := n, seqFirst := s.fls.seq, seqLast := s.fls.seq + k - 1, nrec := recs.length
      opens := w.map (fun x => (x.2.1.ten, x.2.1.nsid - 1, firstLba x.1.sqe, x.2.2)), time := s.time }
  let s1 := s.commitToJournal.programmed (k + 2 * recordPairs w.length)
  let s2 : State := { s1 with
    recd := { s1.recd with committed := recs }
    pwr := { s1.pwr with
      newest := some r, newestOk := true, cleanStop := false, commit := none, committed := some true
      log := (if kind = 1 then s1.pwr.log.modify 1 (· + 1) else s1.pwr.log).set 4 s.time } }
  s2.raise 1128

/-- COMMIT_RECORD (R549, Table 20-8 step 7): once the pages are programmed and no engine is in EUNLOAD. A commit for PORST_N is
followed by the internal reset (R406). -/
def commitRecord (ok : Bool) (s : State) : State :=
  match s.pwr.commit with
  | none => s
  | some kind =>
    if allAvs.any (fun n => s.svState n == 9) then s
    else
      let s1 := if ok then s.writeCommit kind else s.cutCommit
      if kind = 3 then (s1.resetReason 2 0 false).internalReset.startAfter anyStart else s1

/-- COMMIT_RECORD. -/
def execCommitRecord (ok : Bool) (s : State) : Host.Outcome State Fault Refusal := .next (commitRecord ok s)

/-! ### Power loss (R547) -/

/-- Power-loss causes present and enabled, as CAUSE of Table 20-5. -/
def State.lossCauses (s : State) : Nat := ((if s.is SPN_STAT_VBLOW then 1 else 0) + s.pwr.causes) &&& (s.rd PWR_PLCTL).toNat

/-- POWER_LOSS_SIGNAL (R547, Table 20-8 steps 1 to 5). -/
def powerLossSignal (s : State) : State :=
  let c := s.lossCauses
  if c = 0 || s.is PWR_PLSTAT_SIGNAL || s.pwr.inReset then s
  else
    let s1 := (((s.putb PWR_PLSTAT_SIGNAL true).put PWR_PLSTAT_CAUSE c).put PWR_STATE_STATE 7).raise 1127
    let s2 := allAvs.foldl (fun (t : State) n => t.inhibit n 5) (s1.beginCommit 1)
    (spnPowerLoss (allAvs.foldl State.emergencyUnload s2)).dmaPowerLoss

/-- POWER_LOSS_SIGNAL. -/
def execPowerLossSignal (s : State) : Host.Outcome State Fault Refusal := .next (powerLossSignal s)

/-- POWER_LOSS_WITHDRAW (R547, R258): the commit has ended and no cause is present; a chip reset follows. -/
def powerLossWithdraw (i : StartInput) (s : State) : State :=
  if s.is PWR_PLSTAT_SIGNAL && s.pwr.commit.isNone && s.lossCauses == 0 then
    (spnPowerBack (s.putb PWR_PLSTAT_SIGNAL false)).chipReset i
  else s

/-- POWER_LOSS_WITHDRAW. -/
def execPowerLossWithdraw (i : StartInput) (s : State) : Host.Outcome State Fault Refusal := .next (powerLossWithdraw i s)

/-- Consecutive low samples of a rail, counted to 4. -/
def lowRun (run level thr : Nat) : Nat := if level < thr then min 4 (run + 1) else 0

/-- The rails with a threshold, with their levels: VIO, VANA, VFLASH 2.5 V and 1.2 V (R547). -/
def State.railPairs (s : State) (r : RailLevels) : List (Nat × Nat) :=
  [(r.vio, s.get PWR_PLTHR_VIO), (r.vana, s.get PWR_PLTHR_VANA), (r.vf25, s.get PWR_PLTHR_VF25), (r.vf12, s.get PWR_PLTHR2_VF12)]

/-- The rail monitors take a sample: the rail cause holds while a rail has been low in 4 consecutive samples (R547). A rail that
leaves its window without meeting that cause is raised once for the episode (R551). -/
def State.sampleRails (s : State) (m : SupplySample) : State :=
  let ps := s.railPairs m.rails
  let runs := ps.zipIdx.map (fun p => lowRun (s.pwr.lowRuns.getD p.2 0) p.1.1 p.1.2)
  let low := runs.any (fun r => r != 0)
  let short := (s.pwr.lowRuns.zip runs).any (fun p => p.1 != 0 && p.1 != 4 && p.2 == 0)
  let out := !s.pwr.railOut && ((!m.inWindow && !low) || short)
  let s1 : State := { s with pwr := { s.pwr with
    lowRuns := runs, causes := setBits s.pwr.causes 1 1 (if runs.any (fun r => r == 4) then 1 else 0)
    railOut := !m.inWindow && (s.pwr.railOut || out) } }
  s1.raiseIf out 1137

/-- Firmware answers a temperature above TWARN by lowering WIN to 64 MiB (R551). -/
def State.coolWindow (s : State) : State :=
  if 64 < s.get SQR_WIN_WIN then s.writeReg SQR_WIN (BitVec.ofNat 32 (setBits (s.rd SQR_WIN).toNat 0 9 64)) else s

/-- The junction temperatures of a sample (R551): TJ is the highest, and each limit is raised once for an episode above it. -/
def State.sampleTemps (s : State) (temps : List Int) : State :=
  match temps with
  | [] => s
  | t0 :: ts =>
    let tj := ts.foldl max t0
    let warm := decide ((s.get PWR_THERM_TWARN : Int) < tj)
    let crit := decide ((s.get PWR_THERM_TCRIT : Int) < tj)
    let s1 : State := { s with pwr := { s.pwr with hotWarn := warm, hotCrit := crit } }
    let s2 := ((s1.puti PWR_THERM_TJ (satInt 8 tj)).raiseIf (warm && !s.pwr.hotWarn) 1135).raiseIf (crit && !s.pwr.hotCrit) 1136
    if warm && !s.pwr.hotWarn then s2.coolWindow else s2

/-- SUPPLY_MONITOR_SAMPLE (R547, R551). -/
def supplySample (m : SupplySample) (s : State) : State :=
  if s.pwr.inReset then s else (s.sampleRails m).sampleTemps m.temps

/-- SUPPLY_MONITOR_SAMPLE. -/
def execSupplyMonitorSample (m : SupplySample) (s : State) : Host.Outcome State Fault Refusal := .next (supplySample m s)

/-- PGOOD_FALL (R50, R547): both filters run. -/
def pgoodFall (s : State) : State :=
  let s1 : State := { s with pace := { s.pace with pgTiming := true }, pwr := { s.pwr with pgtTiming := true } }
  s1.putb PWR_VREQ_PGOOD false

/-- PGOOD_FALL. -/
def execPgoodFall (s : State) : Host.Outcome State Fault Refusal := .next (pgoodFall s)

/-- PGOOD_LOSS_EXPIRY (R547): low for longer than PGT, PGOOD is a power-loss cause. -/
def pgoodLoss (s : State) : State :=
  if s.pwr.pgtTiming && !s.is PWR_VREQ_PGOOD then
    { s with pwr := { s.pwr with pgtTiming := false, causes := setBits s.pwr.causes 2 1 1 } }
  else s

/-- PGOOD_LOSS_EXPIRY. -/
def execPgoodLossExpiry (s : State) : Host.Outcome State Fault Refusal := .next (pgoodLoss s)

/-! ### Clean stops (R550) -/

/-- Every row write and mirrored write has ended, every reshape checkpoint is current and the dirty window is empty. -/
def State.stopReady (s : State) : Bool :=
  s.dirtyPages == 0 && s.sqr.pages.all (fun e => e.2.st != .destage) && s.sqr.groups.all (fun g => !g.writing)
  && allRegions.all (fun r => !s.is (SQR_REGION1_RSH r)
    || (KMap.get (fun _ => (0, 0)) s.red.reshapeCk r).1 == s.get (SQR_REGION14_BOUND r))

/-- A record of the journal pool that no commit makes: one plane pair on ring 0. -/
def State.stopRecord (s : State) (kind : Nat) (clean : Bool) : State :=
  let r : CommitRec :=
    { kind := kind, cause := 0, park := s.parkByte, start := false, boot := s.get REC_BOOT_BOOT
      npages := 0, seqFirst := s.fls.seq, seqLast := s.fls.seq, nrec := 0, opens := [], time := s.time }
  let s1 := s.programmed 2
  { s1 with pwr := { s1.pwr with newest := some r, newestOk := false, cleanStop := clean } }

/-- Firmware writes a clean-stop record where it may. -/
def State.cleanStop (s : State) : State :=
  if s.stopReady && !s.pwr.cleanStop && !s.sqr.lossHold then s.stopRecord 2 true else s

/-- Every enabled controller has completed a shutdown notification (R405). -/
def State.allShut (s : State) : Bool :=
  (List.range 128).any (fun f => (s.ctl f).ccEn) && (List.range 128).all (fun f => !(s.ctl f).ccEn || (s.ctl f).shst == 2)

/-- CLEAN_STOP_RECORD (R550). On entry to Sleep, SLEEP_ENTRY writes it. -/
def execCleanStopRecord (s : State) : Host.Outcome State Fault Refusal := .next (if s.allShut then s.cleanStop else s)

/-- OPEN_MARKER (R550). -/
def execOpenMarker (s : State) : Host.Outcome State Fault Refusal :=
  .next (if s.pwr.cleanStop then s.stopRecord 5 false else s)

/-! ### Power states (R534 to R537) -/

/-- The dirty window is drained: one drain at a time is asked for. -/
def State.drainWindow (s : State) : State := if s.sqr.drains.isEmpty then s.requestDrain.2 else s

/-- No host command is in flight, one that waits for an event apart. -/
def State.noCommands (s : State) : Bool := s.rbt.cmds.all (fun c => c.phase == .parked)

/-- STANDBY_ENTRY (R534): the window is drained; once it is empty the engines unload and the spindle stops. -/
def standbyEntry (s : State) : State :=
  if s.get PWR_PMCFG_STBYT = 0 || !(s.powerState == 2) || !s.noCommands then s
  else if s.dirtyPages ≠ 0 then s.drainWindow
  else (targetWrite 0 (unloadAll s)).put PWR_STATE_STATE 3

/-- STANDBY_ENTRY. -/
def execStandbyEntry (s : State) : Host.Outcome State Fault Refusal := .next (standbyEntry s)

/-- Every port is in L1.2 or has no link (R535). -/
def State.portsQuiet (s : State) : Bool :=
  (List.range 2).all (fun p => !s.portUsed p || !s.is (HST_PORT_UP p) || s.host.l12.contains p)

/-- The domains of the Avenues, the servo engines and the spindle (Table 1-2). -/
def mediaDomains : List Nat := List.range 26 ++ [30, 35]

/-- The whole trace FIFO goes to the DRAM ring, and a Sleep-entry frame after it, whatever PORT holds (R530). -/
def State.drainTrace (s : State) : State :=
  let s1 := (List.range (s.recd.fifo.length + 1)).foldl (fun (t : State) _ => t.drainFrame true) s
  (frameBytes ⟨6, 0xFF, leBytes 8 s.time⟩).foldl State.traceByte s1

/-- Cores that run stall (R535). -/
def State.stallCores (s : State) : State :=
  (List.range 6).foldl (fun (t : State) k => if t.coreLive k then t.put (CPU_CORESTAT_STATE k) 2 else t) s

/-- SLEEP_ENTRY (R535): drained, a clean-stop record written, media clocks stopped, the trace FIFO drained, the DRAM in
self-refresh and MINCODE driven; the cores then stall. -/
def sleepEntry (s : State) : State :=
  if s.powerState ≠ 3 || !s.portsQuiet then s
  else if s.dirtyPages ≠ 0 then s.drainWindow
  else
    let s1 := (s.cleanStop.expect mediaDomains false).drainTrace
    (((s1.expect [28] false).put PWR_VREQ_CODE (s1.get PWR_AVSLIM_MINCODE)).stallCores).put PWR_STATE_STATE 4

/-- SLEEP_ENTRY. -/
def execSleepEntry (s : State) : Host.Outcome State Fault Refusal := .next (sleepEntry s)

/-- The clocks that run on purpose outside Sleep are expected again (R34). -/
def State.mediaExpected (s : State) : State :=
  let s1 := allAvs.foldl (fun (t : State) n =>
    (t.expect (laneDomains n) (t.is (AV_TLCTL_EN n))).expect [20 + n.val] (t.is ⟨PWR_AVEN, n.val, 1⟩)) s
  ((s1.expect [30] (s1.get PWR_AVEN_EN != 0)).expect [24, 25] (s1.is SPN_CTL_EN || s1.spnState != 0)).expect [35]
    (s1.get SPN_CEIL_MODE != 0)

/-- Sleep ends (R535, R530): the DRAM serves again, the cores go on, a Sleep-exit frame is emitted, and the device is in
Standby. -/
def State.leaveSleep (s : State) : State :=
  if s.get PWR_STATE_STATE = 4 then
    let s1 := (List.range 6).foldl (fun (t : State) k => if t.get (CPU_CORESTAT_STATE k) = 2 then
      t.put (CPU_CORESTAT_STATE k) (if t.flt.inNmi.contains k then 3 else 1) else t) s
    ((s1.mediaExpected.expect [28] true).trace ⟨7, 0xFF, leBytes 8 s.time⟩).put PWR_STATE_STATE 3
  else s

/-- SLEEP_EXIT (R535): a port leaves L1.2 for L0, PERST_x_N of an enabled port is released, or WAKE_N falls. -/
def sleepExit (why : SleepWake) (s : State) : State :=
  match why with
  | .linkUp p =>
    if s.host.l12.contains p.val then
      let s1 : State := { s with host := { s.host with l12 := s.host.l12.erase p.val } }
      (s1.expect [portTd p.val] true).leaveSleep
    else s
  | .perst p => if s.portUsed p.val then (perstRelease p.val s).leaveSleep else s
  | .wakePin => s.leaveSleep

/-- SLEEP_EXIT. -/
def execSleepExit (why : SleepWake) (s : State) : Host.Outcome State Fault Refusal := .next (sleepExit why s)

/-- DEEP_STANDBY_ENTRY (R536): DSBY is set, and all but the wake island may lose its supply: the key store, the recorder's SRAM
and FIFO, the DRAM and the time base are lost. -/
def deepStandbyEntry (s : State) : State :=
  if s.get PWR_STATE_STATE = 4 && s.is PWR_PMCFG_DSEN && (List.range 2).all (fun p => !s.portUsed p || s.is (HST_PORT_PERST p))
  then
    let s1 := s.internalReset
    let s2 : State := { s1 with
      tim := { now := 0, loadPending := false }
      recd := { s1.recd with circ := [], found := [], fifo := [] }
      flt := { s1.flt with inbox := [] }
      pwr := { s1.pwr with deep := true, wakeSpent := false } }
    s2.putb PWR_AON_DSBY true
  else s

/-- DEEP_STANDBY_ENTRY. -/
def execDeepStandbyEntry (s : State) : Host.Outcome State Fault Refusal := .next (deepStandbyEntry s)

/-- DEEP_STANDBY_WAKE (R537). -/
def deepStandbyWake (edge : Bool) (straps : Fin 16) (i : StartInput) (s : State) : State :=
  if !s.pwr.deep || s.pwr.porstLow || (s.pwr.wakeSpent && !edge) then s
  else
    let s1 : State := { s with pwr := { s.pwr with wakeSpent := false } }
    s1.coldStart straps i

/-- DEEP_STANDBY_WAKE. -/
def execDeepStandbyWake (edge : Bool) (straps : Fin 16) (i : StartInput) (s : State) : Host.Outcome State Fault Refusal :=
  .next (deepStandbyWake edge straps i s)

/-- WAKE_SUPPLY_TIMEOUT (R537): the device stays in deep standby, and WAKE_N must rise and fall again. -/
def execWakeSupplyTimeout (s : State) : Host.Outcome State Fault Refusal :=
  .next (if s.pwr.deep then { s with pwr := { s.pwr with wakeSpent := true } } else s)

/-! ### Starts (R540, R543, R545) -/

/-- START_STEP_LIMIT (R540): source 1139, then a chip reset. -/
def startStepLimit (i : StartInput) (s : State) : State :=
  if s.pwr.inReset || s.restricted || s.get PWR_START_STEP = 0 || s.get PWR_START_STEPLIM = 0 then s
  else (s.handleEvent ⟨1139, s.time, 0, false⟩ false).chipReset i

/-- START_STEP_LIMIT. -/
def execStartStepLimit (i : StartInput) (s : State) : Host.Outcome State Fault Refusal := .next (startStepLimit i s)

/-- The code identifier of an Avenue matches the format record, where there is one (R118). -/
def State.codeMatches (s : State) (n : Fin 4) : Bool :=
  match (s.avn n).codeRec with
  | none => true
  | some c => c == s.get (AV_CODECTL_CODEID n)

/-- What R545 asks of an Avenue: its preamp is accepted (and calibrated, where replaced), its framing applies, its code
identifier matches, and its servo engine passes R226. -/
def State.avUsable (s : State) (n : Fin 4) : Bool :=
  s.get (AV_PASTAT_OUT n) == 1 && (!s.is (AV_PASTAT_REPL n) || (s.avn n).calRec) && s.is (AV_FMTCTL_OK n) && s.codeMatches n
  && (match s.enableCheck n with
    | .inr _ => true
    | .inl _ => false)

/-- An Avenue at step 9: enabled with its clocks expected, or disabled. Under another code no layout is applied (R118). -/
def State.stepNine (s : State) (n : Fin 4) : State :=
  let s1 := if s.codeMatches n then s else ((s.modAv n (fun a => { a with layout := none })).putb (AV_FMTCTL_OK n) false).raise (avSrc n 55)
  if s.avUsable n then (s1.putb ⟨PWR_AVEN, n.val, 1⟩ true).expect [20 + n.val, 30] true else s1.disableAvenue n

/-- DATA_SERVICE_READY (R540, R543, R545): step 12. Without a usable Avenue the device enters Cul-de-sac mode. -/
def dataServiceReady (fuse : Option Nat) (s : State) : State :=
  if s.get PWR_START_STEP ≠ 9 || s.restricted || !s.is SPN_STAT_READY then s
  else
    let s1 := allAvs.foldl State.stepNine s
    if s1.get PWR_AVEN_EN = 0 then s1.culDeSac 6
    else
      let s2 : State := { s1 with pwr := { s1.pwr with attempts := 0 } }
      (((s2.makeLkg (s2.is PWR_IMG_RUN) fuse).put PWR_START_STEP 0).put PWR_STATE_STATE 2).raise 1133

/-- DATA_SERVICE_READY. -/
def execDataServiceReady (fuse : Option Nat) (s : State) : Host.Outcome State Fault Refusal := .next (dataServiceReady fuse s)

end Sys2Proof.Machine
end

