-- ==== Sys2Proof/Machine/Recorder.lean ====
section
/-! DEFINITION. Meanings of the event recorder's commands (spec 19.6 and 19.7). -/

namespace Sys2Proof.Machine

/-! ### The mirror (R524) -/

/-- Pages that the mirror ring holds, and those of one block, which its wrap erases (R524). -/
def mirrorMax : Nat := 30 * 512
def mirrorBlock : Nat := 512

/-- MIRROR_PAGE (R524, R527): the oldest 168 unmirrored records, or as many as there are, are programmed as one page; an erase
that was asked for comes first. -/
def mirrorPage (s : State) : State :=
  let base := if s.recd.eraseMirror then [] else s.recd.mirror
  let page := (unmirrored s.recd.circ (mirrorTop base)).take 168
  if page.isEmpty then s
  else
    let room := if mirrorMax ≤ base.length then base.drop mirrorBlock else base
    let t : State := { s with recd := { s.recd with mirror := room ++ [page], eraseMirror := false } }
    t.put REC_MIRR_SEQ ((mirrorTop t.recd.mirror).getD 0)

/-- MIRROR_PAGE. -/
def execMirrorPage (s : State) : Host.Outcome State Fault Refusal := .next (mirrorPage s)

/-- MIRROR_OVERDUE (R524): a page that fell due is still not programmed. -/
def execMirrorOverdue (s : State) : Host.Outcome State Fault Refusal :=
  .next (s.raiseIf (!(unmirrored s.recd.circ (mirrorTop s.recd.mirror)).isEmpty) 1145)

/-! ### The record window (R525) -/

/-- A record is copied into REC_WIN, byte 4k of it in the low byte of word k. -/
def loadWin (bs : List Byte) (s : State) : State :=
  (List.range 24).foldl (fun (t : State) k => t.put (REC_WIN_DATA k) (ofLe ((bs.drop (4 * k)).take 4))) s

/-- REC_WIN takes a record, or reads as holding none. -/
def showRecord (r : Option RecEntry) (founding : Bool) (s : State) : State :=
  match r with
  | none => s.putb REC_WSTAT_VALID false
  | some e => (loadWin (recordBytes e) (s.putb REC_WSTAT_VALID true)).putb REC_WSTAT_AREA founding

/-- RECORD_CURSOR_LOAD (R525). -/
def recordCursorLoad (seq : Word) (s : State) : State :=
  showRecord (s.recd.circ.find? (fun r => r.seq == seq.toNat)) false (s.put REC_CURSOR_SEQ seq.toNat)

/-- RECORD_CURSOR_LOAD. -/
def execRecordCursorLoad (seq : Word) (s : State) : Host.Outcome State Fault Refusal := .next (recordCursorLoad seq s)

/-- FOUNDING_CURSOR_LOAD (R525). -/
def foundingCursorLoad (i : Nat) (s : State) : State := showRecord s.recd.found[i]? true (s.put REC_FCURSOR_INDEX i)

/-- FOUNDING_CURSOR_LOAD. -/
def execFoundingCursorLoad (i : Fin 256) (s : State) : Host.Outcome State Fault Refusal := .next (foundingCursorLoad i.val s)

/-! ### Clearing (R527) -/

/-- RECORD_CLEAR (R527): the circulating area is emptied and an erase of the mirror asked for; then a TYPE 3 record, and
source 1150. -/
def recordClear (s : State) : State :=
  let t : State := { s with recd := { s.recd with circ := [], eraseMirror := true } }
  (t.recHeads.recordType 3 0).raise 1150

/-- RECORD_CLEAR. -/
def execRecordClear (s : State) : Host.Outcome State Fault Refusal := .next (recordClear s)

/-- FOUNDING_CLEAR (R527): in MANUFACTURE the founding area, its flash copies and every profile's USED; in any other state a
bad access of cause 4. -/
def foundingClear (s : State) : State :=
  if s.get TGT_STAT_LIFE = 0 then
    let t : State := { s with recd := { s.recd with found := [], foundMirror := [] } }
    (List.range 64).foldl (fun (u : State) p => u.put (REC_PROF_W0_USED p) 0)
      ((t.put REC_FSTAT_FUSED 0).putb REC_STAT_FFULL false)
  else s.badAccess 4 false true REC_CTL

/-- FOUNDING_CLEAR. -/
def execFoundingClear (s : State) : Host.Outcome State Fault Refusal := .next (foundingClear s)

/-! ### Trace frames of waits (R528) -/

/-- WAIT_ENTER_REPORT (R528): a unit enabled in WAITMASK has stalled for longer than WAITMIN × 100 ns. -/
def waitEnter (u : Nat) (start : BitVec 64) (s : State) : State :=
  if bitsOf (s.get REC_TRCFG_WAITMASK) u 1 = 1 ∧ 10 * s.get REC_TRCFG_WAITMIN < s.time - start.toNat
      ∧ !s.recd.waiting.contains u then
    State.trace { s with recd := { s.recd with waiting := s.recd.waiting ++ [u] } } ⟨2, u, leBytes 8 start.toNat⟩
  else s

/-- WAIT_ENTER_REPORT. -/
def execWaitEnterReport (u : Fin 16) (start : BitVec 64) (s : State) : Host.Outcome State Fault Refusal :=
  .next (waitEnter u.val start s)

/-- WAIT_EXIT_REPORT (R528): a unit whose stall was reported resumes. -/
def waitExit (u : Nat) (s : State) : State :=
  if s.recd.waiting.contains u then
    State.trace { s with recd := { s.recd with waiting := s.recd.waiting.filter (fun w => w != u) } } ⟨3, u, leBytes 8 s.time⟩
  else s

/-- WAIT_EXIT_REPORT. -/
def execWaitExitReport (u : Fin 16) (s : State) : Host.Outcome State Fault Refusal := .next (waitExit u.val s)

end Sys2Proof.Machine
end

