-- ==== Sys2Proof/Machine/Redundancy.lean ====
section
/-! DEFINITION. Meanings of the commands of regions, failed elements, reconstruction, resynchronisation and reshape
(spec 11). -/

namespace Sys2Proof.Machine

/-! ### Defining, deleting and reshaping regions (R327) -/

/-- Rule 3 of Table 11-2. -/
def specShape (p : RegionSpec) : Bool :=
  (match p.layout with
    | 1 => p.mask.val != 0
    | 2 => p.mask.val == 3 || p.mask.val == 0xC || p.mask.val == 0xF
    | 3 => p.mask.val == 0xF
    | _ => false)
  && [1, 2, 4, 8, 16, 32, 64].contains p.chunk && decide (1 ≤ p.alen) && p.alen % p.chunk == 0 && p.fits

/-- The ranges of a region's layout: Avenue, first unit and length. -/
def State.ranges (s : State) (r : Nat) (tgt : Bool) : List (Nat × Nat × Nat) :=
  if s.rLayout r tgt = 0 then [] else (maskAvs (s.rMask r tgt)).map (fun n => (n, s.rBase r tgt n, s.rAlen r tgt))

/-- Rule 4 of Table 11-2: no overlap with a range of another region, source or target; for a reshape, of its own. -/
def State.specClear (s : State) (r : Nat) (p : RegionSpec) (own : Bool) : Bool :=
  let mine := (maskAvs p.mask.val).map (fun n => (n, p.base.getD n 0, p.alen))
  let others := allRegions.flatMap (fun k =>
    if k = r ∧ !own then [] else s.ranges k false ++ (if s.is (SQR_REGION1_RSH k) then s.ranges k true else []))
  mine.all (fun a => others.all (fun b => a.1 != b.1 || decide (a.2.1 + a.2.2 ≤ b.2.1) || decide (b.2.1 + b.2.2 ≤ a.2.1)))

/-- Rule 5 of Table 11-2. -/
def State.specHealthy (s : State) (p : RegionSpec) : Bool :=
  (maskAvs p.mask.val).all (fun n => !s.actFailed n && s.is ⟨PWR_AVEN, n, 1⟩
    && (decide (2 ≤ p.layout) || (List.range 5).all (fun f => !s.faceFailed n f)))

/-- A region has reshape, rebuild or resynchronisation work. -/
def State.regionBusy (s : State) (r : Nat) : Bool :=
  s.is (SQR_REGION1_RSH r) || s.is (SQR_REGION1_RBD r) || s.is (SQR_REGION1_RSY r)

/-- The layout fields of a region's entry take a specification and a generation. -/
def State.putLayout (s : State) (r : Nat) (tgt : Bool) (p : RegionSpec) (gen : Nat) : State :=
  let s1 := ((((s.put (regFld r tgt 0 30 2) p.layout).put (regFld r tgt 0 26 4) p.mask.val).put (regFld r tgt 0 19 7)
    p.chunk).put (regFld r tgt 0 13 6) gen).put (regFld r tgt 3 0 24) p.alen
  (List.range 4).foldl (fun t n => t.put (regFld r tgt (4 + n) 0 24)
    (if (maskAvs p.mask.val).contains n then p.base.getD n 0 else 0)) s1

/-- REGION_DEFINE (R327): the first rule of Table 11-2 broken refuses; a defined region takes GEN = 0, its flags at 0 and
every block unwritten. -/
def regionDefine (tag r : Nat) (p : RegionSpec) (s : State) : State :=
  match s.adminCmd tag 0xC3 with
  | none => s
  | some _ =>
    if s.rLayout r false ≠ 0 then s.refuse tag 1
    else if !specShape p then s.refuse tag 3
    else if !s.specClear r p false then s.refuse tag 4
    else if !s.specHealthy p then s.refuse tag 5
    else
      let s1 := ((s.putLayout r false p 0).wr (SQR_REGION1 r) 0).put (SQR_REGION2_RSIZE r) (capacity p.layout p.mask.val p.alen)
      { s1 with red := { s1.red with written := s1.red.written.filter (fun w => w.1 != r) } }.ok tag

/-- REGION_DEFINE. -/
def execRegionDefine (tag : Nat) (r : Fin 64) (p : RegionSpec) (s : State) : Host.Outcome State Fault Refusal :=
  .next (regionDefine tag r.val p s)

/-- REGION_DELETE (R327). -/
def regionDelete (tag r : Nat) (s : State) : State :=
  match s.adminCmd tag 0xC4 with
  | none => s
  | some _ =>
    if s.rLayout r false = 0 ∨ s.host.ns.any (fun n => n.region.val == r) ∨ s.regionBusy r then s.refuse tag 2
    else
      let s1 := (List.range 17).foldl (fun t w => t.wr (SQR_REGION0 r + 4 * w) 0) s
      { s1 with red := { s1.red with
        written := s1.red.written.filter (fun w => w.1 != r), remaps := s1.red.remaps.filter (fun m => m.region != r)
        lostUnits := s1.red.lostUnits.filter (fun u => u.1 != r), lostAvs := s1.red.lostAvs.filter (fun u => u.1 != r) } }.ok tag

/-- REGION_DELETE. -/
def execRegionDelete (tag : Nat) (r : Fin 64) (s : State) : Host.Outcome State Fault Refusal := .next (regionDelete tag r.val s)

/-- RESHAPE_START (R327, R351). -/
def reshapeStart (tag r : Nat) (p : RegionSpec) (s : State) : State :=
  match s.adminCmd tag 0xC5 with
  | none => s
  | some _ =>
    let rsize := s.get (SQR_REGION2_RSIZE r)
    if !specShape p then s.refuse tag 3
    else if !s.specClear r p true then s.refuse tag 4
    else if !s.specHealthy p then s.refuse tag 5
    else if s.rLayout r false = 0 ∨ s.regionBusy r then s.refuse tag 6
    else if capacity p.layout p.mask.val p.alen < rsize ∨ ((p.layout = 3 ∨ s.rLayout r false = 3) ∧ rsize % 3 ≠ 0) then
      s.refuse tag 7
    else
      ((((s.putLayout r true p ((s.rGen r false + 1) % 64)).putb (SQR_REGION1_RSH r) true).put (SQR_REGION14_BOUND r) 0).put
        (SQR_REGION15_BCKPT r) 0 |>.raise 439).ok tag

/-- RESHAPE_START. -/
def execReshapeStart (tag : Nat) (r : Fin 64) (p : RegionSpec) (s : State) : Host.Outcome State Fault Refusal :=
  .next (reshapeStart tag r.val p s)

/-! ### Failed elements and rebuild (11.4) -/

/-- The register bit of an element (SQR_AVFAIL). -/
def elementBit : Element → Fld
  | .actuator n => ⟨SQR_AVFAIL, n.val, 1⟩
  | .face n f => ⟨SQR_AVFAIL, 4 + 5 * n.val + f.val, 1⟩

/-- The Avenue of an element. -/
def elementAv : Element → Fin 4
  | .actuator n => n
  | .face n _ => n

/-- What a failed element does to one region that uses its Avenue (R341, R342, R350). -/
def State.degrade (s : State) (e : Element) (units : List (Nat × Nat)) (r : Nat) : State :=
  let n := (elementAv e).val
  let lost := match e with
    | .actuator _ => true
    | .face _ _ => units.any (fun u => u.1 == r)
  if !s.regionUses r n || !lost then s
  else
    let s1 := { s with red := { s.red with
      lostAvs := (match e with
        | .actuator _ => if s.red.lostAvs.contains (r, n) then s.red.lostAvs else s.red.lostAvs ++ [(r, n)]
        | .face _ _ => s.red.lostAvs)
      lostUnits := (match e with
        | .actuator _ => s.red.lostUnits
        | .face _ _ => s.red.lostUnits ++ (units.filter (fun u : Nat × Nat => u.1 == r)).map (fun u : Nat × Nat => (r, n, u.2)))
      stopped := if s.is (SQR_REGION1_RSY r) then KMap.set (fun _ => 0) s.red.stopped r (s.get (SQR_REGION16_CURSOR r))
        else s.red.stopped } }
    let s2 := (s1.putb (SQR_REGION1_DEG r) true).putb (SQR_REGION1_RSY r) false
    match e with
    | .face _ _ => if s.regionLayered r then (s2.putb (SQR_REGION1_RBD r) true).put (SQR_REGION16_CURSOR r) 0 else s2
    | .actuator _ => s2

/-- A reshape pauses when its plain target includes a failed element (R357). -/
def State.pauseReshape (s : State) (e : Element) (r : Nat) : State :=
  if s.is (SQR_REGION1_RSH r) && s.rLayout r true == 1 && (maskAvs (s.rMask r true)).contains (elementAv e).val
      && !s.is (SQR_REGION1_PAUSE r) then
    (s.putb (SQR_REGION1_PAUSE r) true).raise 441
  else s

/-- A condition of Table 11-3 applies to the element. -/
def State.failApplies (s : State) (e : Element) (c : FailCause) : Bool :=
  match e, c with
  | _, .owner tag => (s.adminCmd tag 0xC6).isSome
  | .actuator _, .preamp | .actuator _, .servoFault | .actuator _, .laneLost | .actuator _, .loads => true
  | .face _ _, .headsel => true
  | .face _ _, .sectors k => s.is SQR_REDCTL_FACELIM && decide (s.get SQR_REDCTL_FACELIM < k)
  | _, _ => false

/-- ELEMENT_DECLARE (R340, R341): recorded in the configuration area, then set in SQR_AVFAIL, with its source. -/
def elementDeclare (e : Element) (c : FailCause) (units : List (Nat × Nat)) (s : State) : State :=
  if !s.failApplies e c then s
  else
    let s1 := if s.red.declared.contains e then s
      else
        let s2 := ({ s with red := { s.red with declared := s.red.declared ++ [e] } }.putb (elementBit e) true).raise
          (avSrc (elementAv e) (match e with | .actuator _ => 0 | .face _ _ => 1))
        allRegions.foldl (fun t r => (t.degrade e units r).pauseReshape e r) s2
    match c with
    | .owner tag => s1.ok tag
    | _ => s1

/-- ELEMENT_DECLARE. -/
def execElementDeclare (e : Element) (c : FailCause) (units : List (Fin 64 × Nat)) (s : State) :
    Host.Outcome State Fault Refusal := .next (elementDeclare e c (units.map (fun u => (u.1.val, u.2))) s)

/-- A region's reshape resumes when no element of its plain target has failed (R357). -/
def State.unpause (s : State) (r : Nat) : State :=
  if s.is (SQR_REGION1_PAUSE r) && (maskAvs (s.rMask r true)).all (fun n =>
      !s.actFailed n && (List.range 5).all (fun f => !s.faceFailed n f)) then s.putb (SQR_REGION1_PAUSE r) false else s

/-- ELEMENT_REINSTATE (R344): the declaration is cleared and the element's lost units are rebuilt in place. -/
def elementReinstate (tag : Nat) (e : Element) (s : State) : State :=
  match s.adminCmd tag 0xC6 with
  | none => s
  | some _ =>
    if !s.red.declared.contains e then s.ok tag
    else
      let n := (elementAv e).val
      let s1 := { s with red := { s.red with declared := s.red.declared.erase e } }.putb (elementBit e) false
      let s2 := allRegions.foldl (fun t r =>
        let mine := t.red.lostAvs.contains (r, n) || t.red.lostUnits.any (fun u => u.1 == r && u.2.1 == n)
        (if mine && t.regionLayered r then (t.putb (SQR_REGION1_RBD r) true).put (SQR_REGION16_CURSOR r) 0
          else t).unpause r) s1
      s2.ok tag

/-- ELEMENT_REINSTATE. -/
def execElementReinstate (tag : Nat) (e : Element) (s : State) : Host.Outcome State Fault Refusal :=
  .next (elementReinstate tag e s)

/-- The first lost unit at or above CURSOR that a rebuild can recover: its offset and Avenue. -/
def State.nextLost (s : State) (r : Nat) : Option (Nat × Nat) :=
  let c := s.get (SQR_REGION16_CURSOR r)
  let faces := (s.red.lostUnits.filter (fun u => u.1 == r && decide (c ≤ u.2.2) && !s.actFailed u.2.1)).map (fun u => (u.2.2, u.2.1))
  let avs := if c < s.cursorEnd r then
    (s.red.lostAvs.filter (fun u => u.1 == r && !s.actFailed u.2)).map (fun u => (c, u.2)) else []
  (faces ++ avs).foldl (fun b x => match b with
    | none => some x
    | some y => if x.1 < y.1 then some x else some y) none

/-- Region blocks of the unit at an offset on an Avenue, as CURSOR counts it, that have been written there (Table 11-5). -/
def State.unitBlocks (s : State) (r av off : Nat) : List Nat :=
  let (tgt, o) := s.cursorAt r off
  let there (u : Nat) : Bool := if tgt then s.unitTarget r u
    else !s.is (SQR_REGION1_RSH r) || decide (s.get (SQR_REGION15_BCKPT r) ≤ u)
  (s.red.written.filter (fun w => w.1 == r && there (w.2 / 128) && (s.unitPlaces r tgt (w.2 / 128)).contains (av, o))).map Prod.snd

/-- A stripe is held by a row write that has not ended (R331). -/
def State.stripeHeld (s : State) (r st : Nat) : Bool :=
  s.sqr.groups.any (fun g => g.region == r && g.stripe == st && g.writing)

/-- The end of a rebuild (R343). -/
def State.rebuildEnd (s : State) (r : Nat) (av : Nat) : State :=
  if s.regionLost r then s.putb (SQR_REGION1_RBD r) false
  else (((s.putb (SQR_REGION1_RBD r) false).putb (SQR_REGION1_DEG r) false).raise (428 + 96 * av + 2))

/-- REBUILD_STEP (R342 to R344, R350): the lost unit at the cursor is reconstructed into a spare (or in place after a
reinstatement), verified and remapped; without a spare the rebuild stops. -/
def rebuildStep (r : Nat) (spare : Option Nat) (unrec : List Nat) (verified : Bool) (s : State) : State :=
  if !s.is (SQR_REGION1_RBD r) then s
  else match s.nextLost r with
    | none => s.putb (SQR_REGION1_RBD r) false
    | some (off, av) =>
      let inPlace := s.red.lostAvs.contains (r, av) || (List.range 5).all (fun f => !s.faceFailed av f)
      if s.stripeHeld r (s.cursorAt r off).2 then s
      else if spare.isNone && !inPlace then (s.putb (SQR_REGION1_RBD r) false).raise (428 + 96 * av + 3)
      else if !verified then s
      else
        let blocks := s.unitBlocks r av off
        let suspect := s.is (SQR_REGION1_SUSPECT r) && decide (KMap.get (fun _ => 0) s.red.stopped r ≤ off)
        let lose (t : State) (b q : Nat) : State := match t.keyOf r b with
          | some k => t.loseKey k q
          | none => t
        let s1 := if suspect then blocks.foldl (fun t b => lose t b 9) s
          else
            let t := (blocks.filter (fun b => unrec.contains (b % 128))).foldl (fun t b =>
              { t with red := { t.red with unreadable := t.red.unreadable ++ [(r, b)] } }.raise (428 + 96 * av + 4)) s
            t.bump SQR_REDCNT_RECON (blocks.filter (fun b => !unrec.contains (b % 128))).length
        let last := decide (s.cursorEnd r ≤ off + 1)
        let s2 := { s1 with red := { s1.red with
          remaps := (match spare with
            | some u => if inPlace then s1.red.remaps else s1.red.remaps ++ [Remap.mk r av off u]
            | none => s1.red.remaps)
          lostUnits := s1.red.lostUnits.filter (fun u => u != (r, av, off)) } }
        let whole := s2.red.lostAvs.contains (r, av)
        let s3 := if whole && last then { s2 with red := { s2.red with lostAvs := s2.red.lostAvs.filter (fun u => u != (r, av)) } } else s2
        let more := s3.red.lostUnits.any (fun u => u.1 == r && u.2.2 == off)
        let s4 := s3.put (SQR_REGION16_CURSOR r) (if more then off else off + 1)
        match s4.nextLost r with
        | none => s4.rebuildEnd r av
        | some _ => s4

/-- REBUILD_STEP. -/
def execRebuildStep (r : Fin 64) (spare : Option Nat) (unrec : List Nat) (verified : Bool) (s : State) :
    Host.Outcome State Fault Refusal := .next (rebuildStep r.val spare unrec verified s)

/-! ### Row writes and reconstruction (11.2, 11.3) -/

/-- Rows of a group that hold a placed block (R330). -/
def placedRows (g : Group) : List Nat := (g.members.map (fun m => m.1 % 128)).eraseDups

/-- ROW_WRITE (R330, R332): in a degraded region every placed page and parity page is journaled first; then the placed
pages enter DESTAGE, parity of rows without a placed block is not written, and blocks on a lost unit have no write. -/
def rowWrite (r st : Nat) (tgt : Bool) (s : State) : State :=
  match s.sqr.groups.find? (fun g => g.region == r && g.stripe == st && g.target == tgt && g.writing) with
  | none => s
  | some g =>
    let rows := placedRows g
    let par := g.parity.filter (fun m => rows.contains m.1)
    let deg := s.is (SQR_REGION1_DEG r) || s.is (SQR_REGION1_RBD r)
    let want := (g.members.filter (fun m => (s.page m.2).unjournaled)).map Prod.snd
      ++ (par.filter (fun m => !s.red.journaled.contains (r, st, m.1))).map Prod.snd
    if deg && !want.isEmpty then
      s.modSqr (fun q => { q with journalQ := q.journalQ ++ want.filter (fun p => !q.journalQ.contains p) })
    else
      let pAv := 3 - st % 4
      let skip := if s.unitLost r pAv (s.cursorOf r tgt st) then g.parity else g.parity.filter (fun m => !rows.contains m.1)
      let s1 := (skip.map Prod.snd).foldl State.freePg s
      let s2 := s1.modSqr (fun q => { q with groups := q.groups.map (fun x =>
        if x = g then { x with parity := x.parity.filter (fun m => !skip.contains m) } else x) })
      (g.members.foldl (fun t m =>
        let av := (pAv + 1 + m.1 / 128) % 4
        if (t.page m.2).st == .dirty then t.modPage m.2 (fun x => { x with
          st := .destage, left := if s.unitLost r av (s.cursorOf r tgt st) then 0 else t.writesNeeded (t.page m.2) }) else t) s2).closeWritten

/-- ROW_WRITE. -/
def execRowWrite (r : Fin 64) (st : Nat) (tgt : Bool) (s : State) : Host.Outcome State Fault Refusal :=
  .next (rowWrite r.val st tgt s)

/-- The peers of a region block (R333): for each other unit of its stripe the Avenue, and the region block that stands
there (none: parity, or the other copy of the same block). -/
def State.peersOf (s : State) (r : Nat) (tgt : Bool) (block : Nat) : List (Nat × Option Nat) :=
  let u := block / 128
  if s.rLayout r tgt = 3 then
    let st := u / 3
    let pAv := 3 - st % 4
    ((List.range 3).filter (fun d => d != u % 3)).map (fun d => ((pAv + 1 + d) % 4, some ((3 * st + d) * 128 + block % 128)))
      ++ [(pAv, none)]
  else ((s.unitPlaces r tgt u).map (fun p => (p.1, none))).drop 1

/-- One peer block (R333): a CLEAN page of it, zeros where unwritten (R326), else what the media read gave. -/
def State.peerBlock (s : State) (r : Nat) (p : Nat × Option Nat) (read : Option (List Byte × List Byte)) :
    Option (List Byte × List Byte) :=
  match p.2 with
  | none => read
  | some b =>
    if !s.red.written.contains (r, b) then some zeroBlock
    else match ((s.keyOf r b).bind s.findPage).filter (fun q => (s.page q).st == .clean && !(s.page q).g) with
      | some q => some ((s.page q).data, (s.page q).pmeta)
      | none => read

/-- The block's fill ends with reconstructed data, or begins and ends. -/
def State.deliver (s : State) (k : BlockKey) (req : ReadReq) (b : List Byte × List Byte) : State :=
  let s1 := match s.lookupKey k with
    | .miss => s.startFill k req false []
    | _ => s
  match s1.findPage k with
  | some p => s1.fillEnded p (.data b.1 b.2)
  | none => s1

/-- RECONSTRUCT (R333 to R338, R352, R480): under the layout that the block is read from. -/
def reconstruct (r block : Nat) (req : ReadReq) (peers : List (Option (List Byte × List Byte))) (miss : Option Bool)
    (own : Nat) (s : State) : State :=
  let tgt := s.unitTarget r (block / 128)
  match s.keyOf r block, (s.unitPlaces r tgt (block / 128)).head? with
  | some k, some (av, off) =>
    let i := s.cursorOf r tgt off
    let lost := s.unitLost r av i
    let suspect := s.suspectAt r i
    let ps := s.peersOf r tgt block
    let possible := decide (2 ≤ s.rLayout r tgt) && ps.all (fun p => !s.unitLost r p.1 i) && !suspect
    if s.stripeHeld r off then s
    else if !possible then
      (s.raiseIf suspect 442).noteRead req k.lba 2 0x81 (if suspect then 9 else if lost then 6 else own)
    else
      let got := (ps.zipIdx).map (fun p => s.peerBlock r p.1 (peers.getD p.2 none))
      let fails (t : State) : State :=
        ({ t with red := { t.red with unreadable := t.red.unreadable ++ [(r, block)] } }.raise (428 + 96 * av + 4)).noteRead
          req k.lba 2 0x81 own
      if got.any Option.isNone then fails s
      else
        let b := (got.filterMap id).foldl (fun a x => (xorBytes a.1 x.1, xorBytes a.2 x.2)) zeroBlock
        match miss with
        | some true => fails (s.raise 223)
        | m =>
          let s1 := (if m.isSome then s.bump SQR_ECRCCNT_PARMIS else s).bump SQR_REDCNT_RECON
          let s2 := s1.deliver k req b
          if lost then s2 else { s2 with red := { s2.red with relocate := s2.red.relocate ++ [(r, block)] } }
  | _, _ => s

/-- RECONSTRUCT. -/
def execReconstruct (r : Fin 64) (block : Nat) (req : ReadReq) (peers : List (Option (List Byte × List Byte)))
    (miss : Option Bool) (own : Nat) (s : State) : Host.Outcome State Fault Refusal :=
  .next (reconstruct r.val block req peers miss own s)

/-! ### Resynchronisation (11.5) -/

/-- A difference was found (R347): counted, and source 428 + 10 once per region per resynchronisation. -/
def State.syncDiff (s : State) (r : Nat) : State :=
  let s1 := s.bump SQR_REDCNT_SYNCMIS
  if s.red.found.contains r then s1
  else { s1 with red := { s1.red with found := s1.red.found ++ [r] } }.raise 438

/-- A data block that cannot be read is put on the pending list. -/
def State.pend (s : State) (r block : Nat) : State :=
  { s with red := { s.red with unreadable := s.red.unreadable ++ [(r, block)] } }

/-- One row of a 3+1 stripe (R347, step 3): blocks in the order of the data units, then parity. -/
def State.syncParity (s : State) (r : Nat) (tgt : Bool) (st : Nat) (row : SyncRow) : State :=
  let region (d : Nat) : Nat := (3 * st + d) * 128 + row.row
  let wr (d : Nat) : Bool := s.red.written.contains (r, region d) && s.unitTarget r (3 * st + d) == tgt
  let data := (List.range 3).map (fun d => if wr d then row.blocks.getD d none else some zeroBlock)
  let parity := row.blocks.getD 3 none
  let badData := (List.range 3).filter (fun d => (data.getD d none).isNone)
  if !(wr 0 || wr 1 || wr 2) then s
  else if 2 ≤ badData.length + (if parity.isNone then 1 else 0) then
    badData.foldl (fun t d => (t.pend r (region d)).raise (428 + 96 * ((3 - st % 4 + 1 + d) % 4) + 4)) (s.bump SQR_REDCNT_SYNCMIS)
  else match badData, parity with
    | d :: _, _ => { (s.bump SQR_REDCNT_RECON) with red := { s.red with relocate := s.red.relocate ++ [(r, region d)] } }
    | [], none => s
    | [], some p =>
      let x := (data.filterMap id).foldl (fun a b => (xorBytes a.1 b.1, xorBytes a.2 b.2)) zeroBlock
      if x = p then s else s.syncDiff r

/-- One block of a pair (R347, step 4): the primary copy, then the secondary. -/
def State.syncPair (s : State) (r : Nat) (tgt : Bool) (off : Nat) (row : SyncRow) : State :=
  let blocks := s.red.written.filter (fun w => w.1 == r && w.2 % 128 == row.row && s.unitTarget r (w.2 / 128) == tgt
    && (s.unitPlaces r tgt (w.2 / 128)).any (fun p => p.2 == off))
  match blocks with
  | [] => s
  | w :: _ => match row.blocks.getD 0 none, row.blocks.getD 1 none with
    | some a, some b => if a = b then s else s.syncDiff r
    | none, none => s.pend r w.2
    | _, _ => s

/-- RESYNC_STEP (R347, R356): the stripe at CURSOR is compared and repaired, and CURSOR advances; past the last offset RSY
and SUSPECT clear and source 428 + 9 is raised. CURSOR is checkpointed every 256 steps. -/
def resyncStep (r : Nat) (rows : List SyncRow) (s : State) : State :=
  let off := s.get (SQR_REGION16_CURSOR r)
  let (tgt, o) := s.cursorAt r off
  if !s.is (SQR_REGION1_RSY r) || s.stripeHeld r o then s
  else
    let s1 := rows.foldl (fun t row => match s.rLayout r tgt with
      | 3 => t.syncParity r tgt o row
      | 2 => t.syncPair r tgt o row
      | _ => t) s
    let s2 := s1.put (SQR_REGION16_CURSOR r) (off + 1)
    let s3 := if (off + 1) % 256 = 0 then { s2 with red := { s2.red with
      cursorCk := KMap.set (fun _ => 0) s2.red.cursorCk r (off + 1) } } else s2
    if s.cursorEnd r ≤ off + 1 then
      let s4 := ((s3.putb (SQR_REGION1_RSY r) false).putb (SQR_REGION1_SUSPECT r) false).raise 437
      { s4 with red := { s4.red with found := s4.red.found.erase r } }
    else s3

/-- RESYNC_STEP. -/
def execResyncStep (r : Fin 64) (rows : List SyncRow) (s : State) : Host.Outcome State Fault Refusal :=
  .next (resyncStep r.val rows s)

/-- RESYNC_CHECKPOINT (R347). -/
def resyncCheckpoint (r : Nat) (s : State) : State :=
  if s.is (SQR_REGION1_RSY r) then
    { s with red := { s.red with cursorCk := KMap.set (fun _ => 0) s.red.cursorCk r (s.get (SQR_REGION16_CURSOR r)) } }
  else s

/-- RESYNC_CHECKPOINT. -/
def execResyncCheckpoint (r : Fin 64) (s : State) : Host.Outcome State Fault Refusal := .next (resyncCheckpoint r.val s)

/-! ### Reshape (11.6) -/

/-- The step S (R351). -/
def State.reshapeS (s : State) (r : Nat) : Nat := if s.rLayout r false = 3 ∨ s.rLayout r true = 3 then 3 else 1

/-- RESHAPE_STEP (R353): units BOUND to BOUND + S − 1 are copied; a source block that cannot be recovered goes on the
lost-write list. No gather group may stand on those units, and the reshape waits for resynchronisation and pauses
(R356, R357). -/
def reshapeStep (r : Nat) (lost : List Nat) (s : State) : State :=
  let b := s.get (SQR_REGION14_BOUND r)
  let st := s.reshapeS r
  let groups := s.sqr.groups.any (fun g => g.region == r && decide (3 * g.stripe < b + st ∧ b < 3 * g.stripe + 3))
  if !s.is (SQR_REGION1_RSH r) || s.is (SQR_REGION1_PAUSE r) || s.is (SQR_REGION1_RSY r)
      || decide (s.get (SQR_REGION2_RSIZE r) ≤ b) || groups then s
  else
    let s1 := (lost.filter (fun i => decide (i < 128 * st) && s.red.written.contains (r, 128 * b + i))).foldl (fun t i =>
      match t.keyOf r (128 * b + i) with
      | some k => t.loseKey k 7
      | none => t) s
    s1.put (SQR_REGION14_BOUND r) (b + st)

/-- RESHAPE_STEP. -/
def execReshapeStep (r : Fin 64) (lost : List Nat) (s : State) : Host.Outcome State Fault Refusal :=
  .next (reshapeStep r.val lost s)

/-- RESHAPE_CHECKPOINT (R354): (BOUND, TGEN) is checkpointed, and BCKPT follows. -/
def reshapeCheckpoint (r : Nat) (s : State) : State :=
  if !s.is (SQR_REGION1_RSH r) then s
  else
    let b := s.get (SQR_REGION14_BOUND r)
    { s with red := { s.red with reshapeCk := KMap.set (fun _ => (0, 0)) s.red.reshapeCk r (b, s.rGen r true) } }.put
      (SQR_REGION15_BCKPT r) b

/-- RESHAPE_CHECKPOINT. -/
def execReshapeCheckpoint (r : Fin 64) (s : State) : Host.Outcome State Fault Refusal := .next (reshapeCheckpoint r.val s)

/-- What firmware keeps for a region goes over to the target layout at the end of its reshape (R344, R355): units of the
source are no longer the region's, and those of the target are counted from 0. -/
def State.targetUnits (s : State) (r : Nat) : State :=
  let n := s.rAlen r false
  { s with red := { s.red with
    lostUnits := s.red.lostUnits.filterMap (fun u => if u.1 ≠ r then some u else if u.2.2 < n then none else some (r, u.2.1, u.2.2 - n))
    lostAvs := s.red.lostAvs.filter (fun u => u.1 != r || (maskAvs (s.rMask r true)).contains u.2)
    remaps := s.red.remaps.filterMap (fun m =>
      if m.region ≠ r then some m else if m.offset < n then none else some { m with offset := m.offset - n }) } }

/-- RESHAPE_END (R344, R355): the entry takes the target layout and GEN := TGEN, RSH clears and source 428 + 12 is raised. A
region without a lost unit is no longer degraded; a rebuild that is still to be made starts again from CURSOR 0. -/
def reshapeEnd (r : Nat) (s : State) : State :=
  if !s.is (SQR_REGION1_RSH r) || decide (s.get (SQR_REGION14_BOUND r) < s.get (SQR_REGION2_RSIZE r)) then s
  else
    let s1 := (reshapeCheckpoint r s).targetUnits r
    let s2 := (s1.wr (SQR_REGION0 r) (s1.rd (SQR_REGION8 r))).wr (SQR_REGION3 r) (s1.rd (SQR_REGION9 r))
    let s3 := (List.range 4).foldl (fun t n => t.put (regFld r false (4 + n) 0 24) (t.rBase r true n)) s2
    let s4 := ((s3.putb (SQR_REGION1_RSH r) false).putb (SQR_REGION1_PAUSE r) false).raise 440
    if s4.regionLost r then (if s4.is (SQR_REGION1_RBD r) then s4.put (SQR_REGION16_CURSOR r) 0 else s4)
    else (s4.putb (SQR_REGION1_DEG r) false).putb (SQR_REGION1_RBD r) false

/-- RESHAPE_END. -/
def execReshapeEnd (r : Fin 64) (s : State) : Host.Outcome State Fault Refusal := .next (reshapeEnd r.val s)

end Sys2Proof.Machine
end

