-- ==== Sys2Proof/Machine/Square.lean ====
section
/-! DEFINITION. Meanings of the commands of the Square (spec 09). -/

namespace Sys2Proof.Machine

/-- The tenancy that a client's flits carry. -/
def clientTen : SquareClient → Option (Fin 128)
  | .host t => t
  | .media => none

/-- SQUARE_READ_LOOKUP (R268, R269, R272, R279, R479): refused until READY = 1 and where the tenancy does not fit; a hit is
pinned unless its data is bad, which retires the page and ends a host read with qualifier 0x0A (Table 17-4). -/
def squareReadLookup (a : LookupArgs) (s : State) : State :=
  if !s.is SQR_STAT_READY then s
  else
    let refusedPage : Option (Option Nat) := match a.client with
      | .host none => some none
      | c => match a.page with
        | some p => if clientMay c (s.page p) then none else some (some p)
        | none => none
    match refusedPage with
    | some p => s.tenancyRefused false (clientTen a.client) p
    | none =>
      let ten := match a.client with
        | .host t => t
        | .media => a.ten
      let k : BlockKey := ⟨ten, a.ns, a.lba⟩
      let s1 := match a.client, a.stream, ten with
        | .host _, some (b, n), some t => s.streamRead t a.ns b n
        | _, _, _ => s
      match (a.page.filter (fun p => (s1.page p).live)).map (fun p => if (s1.page p).st == .fill then Lookup.wait p else .hit p)
          |>.getD (s1.lookupKey k) with
      | .hit p =>
        match a.dram with
        | .clean => s1.hitPage p true
        | d => ((s1.hitPage p false).dramRead p d).noteRead a.req a.lba 2 0x81 0x0A
      | .wait p => s1.joinFill p a.req
      | .lost => s1.readKey k a.req
      | .miss => s1.startFill k a.req false []

/-- SQUARE_READ_LOOKUP. -/
def execSquareReadLookup (a : LookupArgs) (s : State) : Host.Outcome State Fault Refusal := .next (squareReadLookup a s)

/-- FILL_END (R271). -/
def execFillEnd (page : Nat) (e : FillEnd) (s : State) : Host.Outcome State Fault Refusal := .next (s.fillEnded page e)

/-- PAGE_TRANSFER_END (R265): PINS decrements; a superseded page may become FREE. -/
def execPageTransferEnd (page : Nat) (s : State) : Host.Outcome State Fault Refusal :=
  .next ((s.modPage page (fun g => { g with pins := g.pins - 1 })).tryFree page)

/-- ALLOCATION_RESUME (R266). -/
def execAllocationResume (s : State) : Host.Outcome State Fault Refusal := .next s.resumeAlloc.finishWrites

/-- PLACEMENT (R265). -/
def execPlacement (p : PlaceArgs) (s : State) : Host.Outcome State Fault Refusal := .next (s.place p).finishWrites

/-- PLACEMENT_RELEASE (R275). -/
def execPlacementRelease (s : State) : Host.Outcome State Fault Refusal := .next s.releaseHeld.finishWrites

/-- GATHER_TIMEOUT (R281): the group is completed, counted, and source 207 raised. From a power-loss signal or another commit
to the reset that follows, the Square serves the commit alone (R278, R548). -/
def gatherTimeout (r stripe : Nat) (target : Bool) (peers : List PeerBlock) (miss : List ParityMiss) (s : State) : State :=
  match s.openGroup r stripe target with
  | some g => if s.sqr.lossHold then s else ((s.forceGroup g peers miss).bump SQR_CNT1_GTIMEOUTS).raise 207
  | none => s

/-- GATHER_TIMEOUT. -/
def execGatherTimeout (r : Fin 64) (stripe : Nat) (target : Bool) (peers : List PeerBlock) (miss : List ParityMiss)
    (s : State) : Host.Outcome State Fault Refusal := .next (gatherTimeout r stripe target peers miss s)

/-- MEDIA_WRITE_END (R277). -/
def execMediaWriteEnd (page : Nat) (ok : Bool) (s : State) : Host.Outcome State Fault Refusal := .next (s.mediaWriteEnded page ok)

/-- JOURNAL_PROGRAM_END (R276). -/
def execJournalProgramEnd (page : Nat) (ok : Bool) (s : State) : Host.Outcome State Fault Refusal := .next (s.journaled page ok)

/-- DRAIN_REQUEST (R284). -/
def execDrainRequest (s : State) : Host.Outcome State Fault Refusal := .next s.requestDrain.2

/-- DRAIN_END (R284): the oldest drain ends, and the commands and shutdowns that wait on it complete. -/
def drainEnd (s : State) : State :=
  match s.endDrain with
  | some (id, s1) => s1.drainEnded id
  | none => s

/-- DRAIN_END. -/
def execDrainEnd (s : State) : Host.Outcome State Fault Refusal := .next (drainEnd s)

/-- DRAIN_JOURNAL_FALLBACK (R286). -/
def execDrainJournalFallback (s : State) : Host.Outcome State Fault Refusal := .next s.drainFallback

/-- LOCK_ACQUIRE (R288): the result word is what the read returns. -/
def lockAcquire (k : Nat) (c : LockClient) (s : State) : State :=
  let (w, s1) := s.acquire k (ownerId c)
  { s1 with bus := { s1.bus with rdata := w } }

/-- LOCK_ACQUIRE. -/
def execLockAcquire (k : Fin 256) (c : LockClient) (s : State) : Host.Outcome State Fault Refusal := .next (lockAcquire k.val c s)

/-- LOCK_RELEASE (R289). -/
def execLockRelease (k : Fin 256) (c : LockClient) (s : State) : Host.Outcome State Fault Refusal :=
  .next (s.releaseLock k.val (ownerId c))

/-- LOCK_CLEAR_ORPHANED (R289). -/
def execLockClearOrphaned (k : Fin 256) (c : LockClient) (s : State) : Host.Outcome State Fault Refusal :=
  .next (s.clearOrphan k.val (ownerId c))

/-- LOCK_RESET_NOTICE (R290). -/
def execLockResetNotice (c : LockClient) (s : State) : Host.Outcome State Fault Refusal := .next (s.resetNotice (ownerId c))

/-- LOCK_HOLD_WARN (R292): once per holding; LOCKWARN = 0 warns of none. -/
def lockHoldWarn (k : Nat) (s : State) : State :=
  let l := s.lock k
  if l.owner ≠ 0 ∧ !l.warned ∧ s.get SQR_LOCKCFG_LOCKWARN ≠ 0 then (s.setLock k { l with warned := true }).raise 213 else s

/-- LOCK_HOLD_WARN. -/
def execLockHoldWarn (k : Fin 256) (s : State) : Host.Outcome State Fault Refusal := .next (lockHoldWarn k.val s)

end Sys2Proof.Machine
end

