-- ==== Sys2Proof/Machine/Dispatch.lean ====
section
/-! DEFINITION. Every command's meaning (spec/opcode_table.json): one arm for each constructor, each one call of its meaning. -/

namespace Sys2Proof.Machine

def exec (i : Instr) (s : State) : Host.Outcome State Fault Refusal :=
  match i with
  | .registerWrite acc value => Sys2Proof.Machine.execRegisterWrite acc value s
  | .readClearAccess acc changes => Sys2Proof.Machine.execReadClearAccess acc changes s
  | .lowerWordCaptureRead acc => Sys2Proof.Machine.execLowerWordCaptureRead acc s
  | .crossingOverflow td blocks => Sys2Proof.Machine.execCrossingOverflow td blocks s
  | .clockAbsent td => Sys2Proof.Machine.execClockAbsent td s
  | .clockReturn td => Sys2Proof.Machine.execClockReturn td s
  | .flitDelivery f => Sys2Proof.Machine.execFlitDelivery f s
  | .timFenceRead window => Sys2Proof.Machine.execTimFenceRead window s
  | .paceGateEnd counts => Sys2Proof.Machine.execPaceGateEnd counts s
  | .avsUpdate => Sys2Proof.Machine.execAvsUpdate s
  | .zonePreviewPost n z => Sys2Proof.Machine.execZonePreviewPost n z s
  | .zoneChange n z => Sys2Proof.Machine.execZoneChange n z s
  | .zoneChangeHoldExpiry n => Sys2Proof.Machine.execZoneChangeHoldExpiry n s
  | .pgoodFilterExpiry => Sys2Proof.Machine.execPgoodFilterExpiry s
  | .pgoodRise => Sys2Proof.Machine.execPgoodRise s
  | .timeLoadRequest => Sys2Proof.Machine.execTimeLoadRequest s
  | .timeLoadApply => Sys2Proof.Machine.execTimeLoadApply s
  | .formatApply n => Sys2Proof.Machine.execFormatApply n s
  | .timingLaneEnable n => Sys2Proof.Machine.execTimingLaneEnable n s
  | .timingLaneDisable n => Sys2Proof.Machine.execTimingLaneDisable n s
  | .relock n => Sys2Proof.Machine.execRelock n s
  | .laneUpdate n phases mags tvgaMax => Sys2Proof.Machine.execLaneUpdate n phases mags tvgaMax s
  | .acquireTimeout n => Sys2Proof.Machine.execAcquireTimeout n s
  | .timingWedgeBegin n => Sys2Proof.Machine.execTimingWedgeBegin n s
  | .timingWedgeEnd n w => Sys2Proof.Machine.execTimingWedgeEnd n w s
  | .embeddedWedge n w => Sys2Proof.Machine.execEmbeddedWedge n w s
  | .sampleBlock n r errs decs lms => Sys2Proof.Machine.execSampleBlock n r errs decs lms s
  | .afeCalStep n r limit => Sys2Proof.Machine.execAfeCalStep n r limit s
  | .codeTableLoad n => Sys2Proof.Machine.execCodeTableLoad n s
  | .retryCodeTableLoad => Sys2Proof.Machine.execRetryCodeTableLoad s
  | .onTheFlyDecodeEnd n d => Sys2Proof.Machine.execOnTheFlyDecodeEnd n d s
  | .decodeOverrun n => Sys2Proof.Machine.execDecodeOverrun n s
  | .retryJobSubmit n lad => Sys2Proof.Machine.execRetryJobSubmit n lad s
  | .retryJobStart d => Sys2Proof.Machine.execRetryJobStart d s
  | .retryJobEnd d res => Sys2Proof.Machine.execRetryJobEnd d res s
  | .ladderStepStart n lad => Sys2Proof.Machine.execLadderStepStart n lad s
  | .rereadDisplace n lad => Sys2Proof.Machine.execRereadDisplace n lad s
  | .l6StepEnd n lad delivered => Sys2Proof.Machine.execL6StepEnd n lad delivered s
  | .relocateSector n sec spares => Sys2Proof.Machine.execRelocateSector n sec spares s
  | .shockRise k => Sys2Proof.Machine.execShockRise k s
  | .shockFall k => Sys2Proof.Machine.execShockFall k s
  | .shockHoldExpiry n => Sys2Proof.Machine.execShockHoldExpiry n s
  | .shockSetHoldExpiry n => Sys2Proof.Machine.execShockSetHoldExpiry n s
  | .preampFaultInput n => Sys2Proof.Machine.execPreampFaultInput n s
  | .softwareWriteInhibit n => Sys2Proof.Machine.execSoftwareWriteInhibit n s
  | .kazqCommand n rd addr data => Sys2Proof.Machine.execKazqCommand n rd addr data s
  | .kazqFrameEnd n r => Sys2Proof.Machine.execKazqFrameEnd n r s
  | .heaterSettleExpiry n => Sys2Proof.Machine.execHeaterSettleExpiry n s
  | .preampDiscovery n p => Sys2Proof.Machine.execPreampDiscovery n p s
  | .microBranch n chk bits => Sys2Proof.Machine.execMicroBranch n chk bits s
  | .microCall n chk bits => Sys2Proof.Machine.execMicroCall n chk bits s
  | .microReturn n chk bits => Sys2Proof.Machine.execMicroReturn n chk bits s
  | .microWait n chk bits => Sys2Proof.Machine.execMicroWait n chk bits s
  | .seqWaitResume n => Sys2Proof.Machine.execSeqWaitResume n s
  | .seqWaitLimitExpiry n => Sys2Proof.Machine.execSeqWaitLimitExpiry n s
  | .aluAdd n x => Sys2Proof.Machine.execAluAdd n x s
  | .aluSub n x => Sys2Proof.Machine.execAluSub n x s
  | .aluAnd n x => Sys2Proof.Machine.execAluAnd n x s
  | .aluOr n x => Sys2Proof.Machine.execAluOr n x s
  | .aluXor n x => Sys2Proof.Machine.execAluXor n x s
  | .aluShl n x => Sys2Proof.Machine.execAluShl n x s
  | .aluShr n x => Sys2Proof.Machine.execAluShr n x s
  | .aluMov n x => Sys2Proof.Machine.execAluMov n x s
  | .aluCmp n x => Sys2Proof.Machine.execAluCmp n x s
  | .portRead n port rd ra => Sys2Proof.Machine.execPortRead n port rd ra s
  | .outcomeRead n rd => Sys2Proof.Machine.execOutcomeRead n rd s
  | .portWrite n port ra => Sys2Proof.Machine.execPortWrite n port ra s
  | .framerOpen n => Sys2Proof.Machine.execFramerOpen n s
  | .armRead n ra raw bits => Sys2Proof.Machine.execArmRead n ra raw bits s
  | .armWrite n ra raw bits => Sys2Proof.Machine.execArmWrite n ra raw bits s
  | .armVerify n ra raw bits => Sys2Proof.Machine.execArmVerify n ra raw bits s
  | .framerCancel n => Sys2Proof.Machine.execFramerCancel n s
  | .framerClose n => Sys2Proof.Machine.execFramerClose n s
  | .afeApply n sel rb => Sys2Proof.Machine.execAfeApply n sel rb s
  | .dspSelect n sel rb => Sys2Proof.Machine.execDspSelect n sel rb s
  | .markWindowSelect n sel => Sys2Proof.Machine.execMarkWindowSelect n sel s
  | .prepareRead n => Sys2Proof.Machine.execPrepareRead n s
  | .prepareWrite n => Sys2Proof.Machine.execPrepareWrite n s
  | .servoSeekAction n => Sys2Proof.Machine.execServoSeekAction n s
  | .servoMoveAction n => Sys2Proof.Machine.execServoMoveAction n s
  | .ringFetch n => Sys2Proof.Machine.execRingFetch n s
  | .ringComplete n ra => Sys2Proof.Machine.execRingComplete n ra s
  | .ringCompleteFetch n ra => Sys2Proof.Machine.execRingCompleteFetch n ra s
  | .flagSet n => Sys2Proof.Machine.execFlagSet n s
  | .flagClear n => Sys2Proof.Machine.execFlagClear n s
  | .windowSpill n => Sys2Proof.Machine.execWindowSpill n s
  | .windowFill n => Sys2Proof.Machine.execWindowFill n s
  | .windowAbandon n => Sys2Proof.Machine.execWindowAbandon n s
  | .softwareTrap n ret => Sys2Proof.Machine.execSoftwareTrap n ret s
  | .halt n => Sys2Proof.Machine.execHalt n s
  | .ownerTimeLimit n => Sys2Proof.Machine.execOwnerTimeLimit n s
  | .slotStart n x => Sys2Proof.Machine.execSlotStart n x s
  | .slotEnd n resume => Sys2Proof.Machine.execSlotEnd n resume s
  | .avenueEntryWrite n ring atHead e => Sys2Proof.Machine.execAvenueEntryWrite n ring atHead e s
  | .sequencerRun n => Sys2Proof.Machine.execSequencerRun n s
  | .sequencerStop n => Sys2Proof.Machine.execSequencerStop n s
  | .sequencerHold n v => Sys2Proof.Machine.execSequencerHold n v s
  | .amLoad n img => Sys2Proof.Machine.execAmLoad n img s
  | .omLoad n img => Sys2Proof.Machine.execOmLoad n img s
  | .seekRequest n r => Sys2Proof.Machine.execSeekRequest n r s
  | .seekTimeLimit n => Sys2Proof.Machine.execSeekTimeLimit n s
  | .settleWarnExpiry n => Sys2Proof.Machine.execSettleWarnExpiry n s
  | .settleLimitExpiry n => Sys2Proof.Machine.execSettleLimitExpiry n s
  | .commandPeriod n => Sys2Proof.Machine.execCommandPeriod n s
  | .driveLinkInFrame n frame => Sys2Proof.Machine.execDriveLinkInFrame n frame s
  | .servoEnable n => Sys2Proof.Machine.execServoEnable n s
  | .servoDisable n => Sys2Proof.Machine.execServoDisable n s
  | .servoLoad n => Sys2Proof.Machine.execServoLoad n s
  | .servoUnload n => Sys2Proof.Machine.execServoUnload n s
  | .loadLimitExpiry n => Sys2Proof.Machine.execLoadLimitExpiry n s
  | .idleTimerExpiry n => Sys2Proof.Machine.execIdleTimerExpiry n s
  | .idleUnloadExpiry n => Sys2Proof.Machine.execIdleUnloadExpiry n s
  | .latchDetEdge n rising => Sys2Proof.Machine.execLatchDetEdge n rising s
  | .parkTimeExpiry n => Sys2Proof.Machine.execParkTimeExpiry n s
  | .unloadLimitExpiry n => Sys2Proof.Machine.execUnloadLimitExpiry n s
  | .recoverLimitExpiry n => Sys2Proof.Machine.execRecoverLimitExpiry n s
  | .spindleControlStep => Sys2Proof.Machine.execSpindleControlStep s
  | .spindleConversion conv ch value => Sys2Proof.Machine.execSpindleConversion conv ch value s
  | .overcurrentTrip phase => Sys2Proof.Machine.execOvercurrentTrip phase s
  | .spindleEnable => Sys2Proof.Machine.execSpindleEnable s
  | .spindleDisable => Sys2Proof.Machine.execSpindleDisable s
  | .spindleKill => Sys2Proof.Machine.execSpindleKill s
  | .spindleTargetWrite t => Sys2Proof.Machine.execSpindleTargetWrite t s
  | .resyncMeasureEnd m => Sys2Proof.Machine.execResyncMeasureEnd m s
  | .startCatchEnd m => Sys2Proof.Machine.execStartCatchEnd m s
  | .prechargeEnd => Sys2Proof.Machine.execPrechargeEnd s
  | .alignEnd => Sys2Proof.Machine.execAlignEnd s
  | .startRetryExpiry => Sys2Proof.Machine.execStartRetryExpiry s
  | .spinTimeLimit => Sys2Proof.Machine.execSpinTimeLimit s
  | .readyTimeExpiry => Sys2Proof.Machine.execReadyTimeExpiry s
  | .holdTimeExpiry => Sys2Proof.Machine.execHoldTimeExpiry s
  | .brakeEnd => Sys2Proof.Machine.execBrakeEnd s
  | .spinCmdWindow x => Sys2Proof.Machine.execSpinCmdWindow x s
  | .squareReadLookup a => Sys2Proof.Machine.execSquareReadLookup a s
  | .fillEnd page e => Sys2Proof.Machine.execFillEnd page e s
  | .pageTransferEnd page => Sys2Proof.Machine.execPageTransferEnd page s
  | .allocationResume => Sys2Proof.Machine.execAllocationResume s
  | .placement p => Sys2Proof.Machine.execPlacement p s
  | .placementRelease => Sys2Proof.Machine.execPlacementRelease s
  | .gatherTimeout region stripe target peers parity => Sys2Proof.Machine.execGatherTimeout region stripe target peers parity s
  | .mediaWriteEnd page ok => Sys2Proof.Machine.execMediaWriteEnd page ok s
  | .journalProgramEnd page ok => Sys2Proof.Machine.execJournalProgramEnd page ok s
  | .drainRequest => Sys2Proof.Machine.execDrainRequest s
  | .drainEnd => Sys2Proof.Machine.execDrainEnd s
  | .drainJournalFallback => Sys2Proof.Machine.execDrainJournalFallback s
  | .lockAcquire k c => Sys2Proof.Machine.execLockAcquire k c s
  | .lockRelease k c => Sys2Proof.Machine.execLockRelease k c s
  | .lockClearOrphaned k c => Sys2Proof.Machine.execLockClearOrphaned k c s
  | .lockResetNotice c => Sys2Proof.Machine.execLockResetNotice c s
  | .lockHoldWarn k => Sys2Proof.Machine.execLockHoldWarn k s
  | .squareInit => Sys2Proof.Machine.execSquareInit s
  | .flashRead e => Sys2Proof.Machine.execFlashRead e s
  | .flashProgram e => Sys2Proof.Machine.execFlashProgram e s
  | .flashErase e => Sys2Proof.Machine.execFlashErase e s
  | .flashMread e => Sys2Proof.Machine.execFlashMread e s
  | .flashOperationEnd die r => Sys2Proof.Machine.execFlashOperationEnd die r s
  | .flashDieTimeout die => Sys2Proof.Machine.execFlashDieTimeout die s
  | .eraseSuspend die => Sys2Proof.Machine.execEraseSuspend die s
  | .eraseResume die => Sys2Proof.Machine.execEraseResume die s
  | .patrolRead die block page bits => Sys2Proof.Machine.execPatrolRead die block page bits s
  | .vflashBandChange b => Sys2Proof.Machine.execVflashBandChange b s
  | .reserveErase die block ok => Sys2Proof.Machine.execReserveErase die block ok s
  | .regionDefine tag r spec => Sys2Proof.Machine.execRegionDefine tag r spec s
  | .regionDelete tag r => Sys2Proof.Machine.execRegionDelete tag r s
  | .reshapeStart tag r spec => Sys2Proof.Machine.execReshapeStart tag r spec s
  | .elementDeclare e c units => Sys2Proof.Machine.execElementDeclare e c units s
  | .elementReinstate tag e => Sys2Proof.Machine.execElementReinstate tag e s
  | .rowWrite region stripe target => Sys2Proof.Machine.execRowWrite region stripe target s
  | .reconstruct region block req peers miss own => Sys2Proof.Machine.execReconstruct region block req peers miss own s
  | .rebuildStep region spare unrec verified => Sys2Proof.Machine.execRebuildStep region spare unrec verified s
  | .resyncStep region rows => Sys2Proof.Machine.execResyncStep region rows s
  | .reshapeStep region lost => Sys2Proof.Machine.execReshapeStep region lost s
  | .reshapeCheckpoint region => Sys2Proof.Machine.execReshapeCheckpoint region s
  | .reshapeEnd region => Sys2Proof.Machine.execReshapeEnd region s
  | .resyncCheckpoint region => Sys2Proof.Machine.execResyncCheckpoint region s
  | .portEvent p c => Sys2Proof.Machine.execPortEvent p c s
  | .linkUp p rate width => Sys2Proof.Machine.execLinkUp p rate width s
  | .perstRelease p => Sys2Proof.Machine.execPerstRelease p s
  | .linkL12Entry p => Sys2Proof.Machine.execLinkL12Entry p s
  | .functionLevelReset f => Sys2Proof.Machine.execFunctionLevelReset f s
  | .functionConfigApply => Sys2Proof.Machine.execFunctionConfigApply s
  | .tlpReceive p t => Sys2Proof.Machine.execTlpReceive p t s
  | .pciConfigWrite f w => Sys2Proof.Machine.execPciConfigWrite f w s
  | .setupWindowOpen => Sys2Proof.Machine.execSetupWindowOpen s
  | .nvmeMiRead r => Sys2Proof.Machine.execNvmeMiRead r s
  | .submissionQueueDoorbell f qid value => Sys2Proof.Machine.execSubmissionQueueDoorbell f qid value s
  | .completionQueueDoorbell f qid value => Sys2Proof.Machine.execCompletionQueueDoorbell f qid value s
  | .controllerEnable f ams asq acq => Sys2Proof.Machine.execControllerEnable f ams asq acq s
  | .controllerReset f => Sys2Proof.Machine.execControllerReset f s
  | .controllerShutdown f abrupt => Sys2Proof.Machine.execControllerShutdown f abrupt s
  | .commandFetch e => Sys2Proof.Machine.execCommandFetch e s
  | .completionPost f cq => Sys2Proof.Machine.execCompletionPost f cq s
  | .flush tag => Sys2Proof.Machine.execFlush tag s
  | .write tag w => Sys2Proof.Machine.execWrite tag w s
  | .read tag r => Sys2Proof.Machine.execRead tag r s
  | .writeZeroes tag w => Sys2Proof.Machine.execWriteZeroes tag w s
  | .datasetManagement tag ranges => Sys2Proof.Machine.execDatasetManagement tag ranges s
  | .verify tag r => Sys2Proof.Machine.execVerify tag r s
  | .reservationRegister tag crkey nrkey => Sys2Proof.Machine.execReservationRegister tag crkey nrkey s
  | .reservationReport tag => Sys2Proof.Machine.execReservationReport tag s
  | .reservationAcquire tag crkey prkey => Sys2Proof.Machine.execReservationAcquire tag crkey prkey s
  | .reservationRelease tag crkey => Sys2Proof.Machine.execReservationRelease tag crkey s
  | .deleteIoSubmissionQueue tag => Sys2Proof.Machine.execDeleteIoSubmissionQueue tag s
  | .createIoSubmissionQueue tag => Sys2Proof.Machine.execCreateIoSubmissionQueue tag s
  | .deleteIoCompletionQueue tag => Sys2Proof.Machine.execDeleteIoCompletionQueue tag s
  | .createIoCompletionQueue tag => Sys2Proof.Machine.execCreateIoCompletionQueue tag s
  | .getLogPage tag => Sys2Proof.Machine.execGetLogPage tag s
  | .identify tag => Sys2Proof.Machine.execIdentify tag s
  | .abort tag ladders => Sys2Proof.Machine.execAbort tag ladders s
  | .setFeatures tag data => Sys2Proof.Machine.execSetFeatures tag data s
  | .getFeatures tag => Sys2Proof.Machine.execGetFeatures tag s
  | .asynchronousEventRequest tag => Sys2Proof.Machine.execAsynchronousEventRequest tag s
  | .firmwareImageDownload tag p => Sys2Proof.Machine.execFirmwareImageDownload tag p s
  | .firmwareCommit tag => Sys2Proof.Machine.execFirmwareCommit tag s
  | .activationSwitch bad => Sys2Proof.Machine.execActivationSwitch bad s
  | .activationAbortTimeout => Sys2Proof.Machine.execActivationAbortTimeout s
  | .formatNvm tag => Sys2Proof.Machine.execFormatNvm tag s
  | .securitySend tag => Sys2Proof.Machine.execSecuritySend tag s
  | .securityReceive tag => Sys2Proof.Machine.execSecurityReceive tag s
  | .sanitize tag => Sys2Proof.Machine.execSanitize tag s
  | .namespaceCreate tag n => Sys2Proof.Machine.execNamespaceCreate tag n s
  | .namespaceDelete tag => Sys2Proof.Machine.execNamespaceDelete tag s
  | .namespaceAttachDetach tag f attach => Sys2Proof.Machine.execNamespaceAttachDetach tag f attach s
  | .setControllerWeight tag => Sys2Proof.Machine.execSetControllerWeight tag s
  | .drainMergeExpiry => Sys2Proof.Machine.execDrainMergeExpiry s
  | .porstFall => Sys2Proof.Machine.execPorstFall s
  | .porstCommitCut => Sys2Proof.Machine.execPorstCommitCut s
  | .porstHoldExpiry => Sys2Proof.Machine.execPorstHoldExpiry s
  | .arcadeContextOpen tag cb => Sys2Proof.Machine.execArcadeContextOpen tag cb s
  | .arcadeContextClose tag cb => Sys2Proof.Machine.execArcadeContextClose tag cb s
  | .objectGet tag cb => Sys2Proof.Machine.execObjectGet tag cb s
  | .objectPut tag cb => Sys2Proof.Machine.execObjectPut tag cb s
  | .objectDelete tag cb => Sys2Proof.Machine.execObjectDelete tag cb s
  | .objectList tag cb => Sys2Proof.Machine.execObjectList tag cb s
  | .encode tag cb => Sys2Proof.Machine.execEncode tag cb s
  | .digest tag cb => Sys2Proof.Machine.execDigest tag cb s
  | .arcadeVerify tag cb => Sys2Proof.Machine.execArcadeVerify tag cb s
  | .arcadeContextGrant => Sys2Proof.Machine.execArcadeContextGrant s
  | .arcadeBarrierRelease tag => Sys2Proof.Machine.execArcadeBarrierRelease tag s
  | .arcadeStep tag x => Sys2Proof.Machine.execArcadeStep tag x s
  | .arcadeChannelRequest ctx q => Sys2Proof.Machine.execArcadeChannelRequest ctx q s
  | .entropyHealthFail => Sys2Proof.Machine.execEntropyHealthFail s
  | .entropyHealthRecover => Sys2Proof.Machine.execEntropyHealthRecover s
  | .getVersion f => Sys2Proof.Machine.execGetVersion f s
  | .getCapabilities f => Sys2Proof.Machine.execGetCapabilities f s
  | .negotiateAlgorithms f offered => Sys2Proof.Machine.execNegotiateAlgorithms f offered s
  | .getDigests f => Sys2Proof.Machine.execGetDigests f s
  | .getCertificate f slot offset length => Sys2Proof.Machine.execGetCertificate f slot offset length s
  | .challenge f slot => Sys2Proof.Machine.execChallenge f slot s
  | .getMeasurements f signed => Sys2Proof.Machine.execGetMeasurements f signed s
  | .keyExchange f mutAuth => Sys2Proof.Machine.execKeyExchange f mutAuth s
  | .finish f p => Sys2Proof.Machine.execFinish f p s
  | .endSession f => Sys2Proof.Machine.execEndSession f s
  | .heartbeat f => Sys2Proof.Machine.execHeartbeat f s
  | .keyUpdate f => Sys2Proof.Machine.execKeyUpdate f s
  | .getEncapsulatedRequest f => Sys2Proof.Machine.execGetEncapsulatedRequest f s
  | .deliverEncapsulatedResponse f c => Sys2Proof.Machine.execDeliverEncapsulatedResponse f c s
  | .getCsr f => Sys2Proof.Machine.execGetCsr f s
  | .setCertificate f slot chain => Sys2Proof.Machine.execSetCertificate f slot chain s
  | .credentialSet f cred => Sys2Proof.Machine.execCredentialSet f cred s
  | .credentialUnlock f cred => Sys2Proof.Machine.execCredentialUnlock f cred s
  | .credentialChange f old new => Sys2Proof.Machine.execCredentialChange f old new s
  | .sessionHeartbeatExpiry f => Sys2Proof.Machine.execSessionHeartbeatExpiry f s
  | .ownerClaim tag key => Sys2Proof.Machine.execOwnerClaim tag key s
  | .ownerRootUpdate tag key => Sys2Proof.Machine.execOwnerRootUpdate tag key s
  | .tenancyCreate tag => Sys2Proof.Machine.execTenancyCreate tag s
  | .tenancyDelete tag => Sys2Proof.Machine.execTenancyDelete tag s
  | .controllerBind tag => Sys2Proof.Machine.execControllerBind tag s
  | .tenancyCryptoErase tag => Sys2Proof.Machine.execTenancyCryptoErase tag s
  | .antiRollbackAdvance tag bad => Sys2Proof.Machine.execAntiRollbackAdvance tag bad s
  | .debugUnlock tag token key => Sys2Proof.Machine.execDebugUnlock tag token key s
  | .dmaTailWrite c tail => Sys2Proof.Machine.execDmaTailWrite c tail s
  | .dmaCopy c m => Sys2Proof.Machine.execDmaCopy c m s
  | .dmaFill c m => Sys2Proof.Machine.execDmaFill c m s
  | .dmaFlash c badDesc => Sys2Proof.Machine.execDmaFlash c badDesc s
  | .dmaLockAcquire c badDesc => Sys2Proof.Machine.execDmaLockAcquire c badDesc s
  | .dmaLockRelease c badDesc => Sys2Proof.Machine.execDmaLockRelease c badDesc s
  | .dmaLockRetry c => Sys2Proof.Machine.execDmaLockRetry c s
  | .dmaWriteBack c => Sys2Proof.Machine.execDmaWriteBack c s
  | .dmaResume c => Sys2Proof.Machine.execDmaResume c s
  | .dmaSkip c => Sys2Proof.Machine.execDmaSkip c s
  | .dmaChannelReset c => Sys2Proof.Machine.execDmaChannelReset c s
  | .dmaChannelDisable c => Sys2Proof.Machine.execDmaChannelDisable c s
  | .dmaChannelStop c => Sys2Proof.Machine.execDmaChannelStop c s
  | .dramScrubRead find byte => Sys2Proof.Machine.execDramScrubRead find byte s
  | .sramScrubRead word find => Sys2Proof.Machine.execSramScrubRead word find s
  | .mediaScrub n ring e => Sys2Proof.Machine.execMediaScrub n ring e s
  | .l1WayChange k iways dways => Sys2Proof.Machine.execL1WayChange k iways dways s
  | .lfsrLoad c value => Sys2Proof.Machine.execLfsrLoad c value s
  | .l1MissFill m => Sys2Proof.Machine.execL1MissFill m s
  | .jtagBypass => Sys2Proof.Machine.execJtagBypass s
  | .jtagIdcode => Sys2Proof.Machine.execJtagIdcode s
  | .jtagSamplePreload captured preload => Sys2Proof.Machine.execJtagSamplePreload captured preload s
  | .jtagExtest => Sys2Proof.Machine.execJtagExtest s
  | .jtagClamp => Sys2Proof.Machine.execJtagClamp s
  | .jtagHighz => Sys2Proof.Machine.execJtagHighz s
  | .eventArrival full => Sys2Proof.Machine.execEventArrival full s
  | .chipResetTimeout timeout inp => Sys2Proof.Machine.execChipResetTimeout timeout inp s
  | .quietPeriodExpiry src => Sys2Proof.Machine.execQuietPeriodExpiry src s
  | .rcntDecayExpiry src => Sys2Proof.Machine.execRcntDecayExpiry src s
  | .sourceRearm x mask => Sys2Proof.Machine.execSourceRearm x mask s
  | .blockResetRequest unit => Sys2Proof.Machine.execBlockResetRequest unit s
  | .blockResetDrainEnd unit => Sys2Proof.Machine.execBlockResetDrainEnd unit s
  | .blockResetDrainForced unit => Sys2Proof.Machine.execBlockResetDrainForced unit s
  | .nmiReturn k => Sys2Proof.Machine.execNmiReturn k s
  | .faultPinRelease => Sys2Proof.Machine.execFaultPinRelease s
  | .faultInject src => Sys2Proof.Machine.execFaultInject src s
  | .mirrorPage => Sys2Proof.Machine.execMirrorPage s
  | .mirrorOverdue => Sys2Proof.Machine.execMirrorOverdue s
  | .recordCursorLoad seq => Sys2Proof.Machine.execRecordCursorLoad seq s
  | .foundingCursorLoad x => Sys2Proof.Machine.execFoundingCursorLoad x s
  | .recordClear => Sys2Proof.Machine.execRecordClear s
  | .foundingClear => Sys2Proof.Machine.execFoundingClear s
  | .waitEnterReport u start => Sys2Proof.Machine.execWaitEnterReport u start s
  | .waitExitReport u => Sys2Proof.Machine.execWaitExitReport u s
  | .standbyEntry => Sys2Proof.Machine.execStandbyEntry s
  | .sleepEntry => Sys2Proof.Machine.execSleepEntry s
  | .sleepExit why => Sys2Proof.Machine.execSleepExit why s
  | .deepStandbyEntry => Sys2Proof.Machine.execDeepStandbyEntry s
  | .deepStandbyWake edge straps inp => Sys2Proof.Machine.execDeepStandbyWake edge straps inp s
  | .wakeSupplyTimeout => Sys2Proof.Machine.execWakeSupplyTimeout s
  | .porstRelease straps inp => Sys2Proof.Machine.execPorstRelease straps inp s
  | .dataServiceReady fuse => Sys2Proof.Machine.execDataServiceReady fuse s
  | .startStepLimit inp => Sys2Proof.Machine.execStartStepLimit inp s
  | .supplyMonitorSample m => Sys2Proof.Machine.execSupplyMonitorSample m s
  | .pgoodFall => Sys2Proof.Machine.execPgoodFall s
  | .pgoodLossExpiry => Sys2Proof.Machine.execPgoodLossExpiry s
  | .powerLossSignal => Sys2Proof.Machine.execPowerLossSignal s
  | .commitRecord ok => Sys2Proof.Machine.execCommitRecord ok s
  | .powerLossWithdraw inp => Sys2Proof.Machine.execPowerLossWithdraw inp s
  | .cleanStopRecord => Sys2Proof.Machine.execCleanStopRecord s
  | .openMarker => Sys2Proof.Machine.execOpenMarker s
  | .preampFaultClear n => Sys2Proof.Machine.execPreampFaultClear n s

end Sys2Proof.Machine
end

