-- ==== Sys2Proof/Machine/Step.lean ====
section
/-! DEFINITION. One step of the device: the command at the front of the queue, or, with nothing waiting, one cycle of the
time base. -/

namespace Sys2Proof.Machine

/-- A step with no command waiting (assumption 17): one TD31 cycle (R53) and one trace frame out of the FIFO, to the trace
port or the ring (R529). -/
def idle (s : State) : State := (timeTick s).drainFrame (!s.is REC_TRCFG_PORT)

/-- One step: the command at the front of the queue acts on the state with the queue's rest; an empty queue idles. -/
def step (s : State) : Host.Outcome State Fault Refusal :=
  match s.pending with
  | [] => .next (idle s)
  | c :: cs => exec c { s with pending := cs }

/-- The state with the command that a table word spells at the front of its queue: no row of the table has bits, so the
state as it stands. -/
def State.withFetchWord (s : State) (nbits w : Nat) : State :=
  match decodeTableWord nbits w with
  | none => s
  | some c => { s with pending := c :: s.pending }

end Sys2Proof.Machine
end

