-- ==== Sys2Proof/Safety.lean ====
section
/-! DEFINITION. What statements about the device are made of: the parts of the state, what a command leaves alone, and the
conditions that every step keeps. -/

namespace Sys2Proof.Machine

/-- The parts of the state. -/
inductive Part where
  | regs | bus | tim | ring | pace | av | rdec | svo | spn | sqr | fls | red | host | rbt | arc | tgt | pwr | flt | recd
  | dma | mem | cores | pins | shock | preampTable | nominal | freeCtr | pending
  deriving DecidableEq, Repr

/-- Two states agree on a part. -/
def Part.same (s t : State) : Part → Prop
  | .regs => t.regs = s.regs
  | .bus => t.bus = s.bus
  | .tim => t.tim = s.tim
  | .ring => t.ring = s.ring
  | .pace => t.pace = s.pace
  | .av => t.av = s.av
  | .rdec => t.rdec = s.rdec
  | .svo => t.svo = s.svo
  | .spn => t.spn = s.spn
  | .sqr => t.sqr = s.sqr
  | .fls => t.fls = s.fls
  | .red => t.red = s.red
  | .host => t.host = s.host
  | .rbt => t.rbt = s.rbt
  | .arc => t.arc = s.arc
  | .tgt => t.tgt = s.tgt
  | .pwr => t.pwr = s.pwr
  | .flt => t.flt = s.flt
  | .recd => t.recd = s.recd
  | .dma => t.dma = s.dma
  | .mem => t.mem = s.mem
  | .cores => t.cores = s.cores
  | .pins => t.pins = s.pins
  | .shock => t.shock0 = s.shock0 ∧ t.shock1 = s.shock1
  | .preampTable => t.preampTable = s.preampTable
  | .nominal => t.nominal = s.nominal
  | .freeCtr => t.freeCtr = s.freeCtr
  | .pending => t.pending = s.pending

/-- Every part but the listed ones is as it was. -/
def Untouched (ps : List Part) (s t : State) : Prop := ∀ p : Part, p ∉ ps → p.same s t

/-- Two register fields share no bit. -/
def Fld.apart (f g : Fld) : Prop := f.addr ≠ g.addr ∨ f.lo + f.wid ≤ g.lo ∨ g.lo + g.wid ≤ f.lo

/-- Every register field that shares no bit with a listed one reads as it did. -/
def FieldsBut (fs : List Fld) (s t : State) : Prop := ∀ g : Fld, (∀ f ∈ fs, f.apart g) → t.get g = s.get g

/-- What a command leaves alone: every register field but those listed, and every part but those listed (the register
file, which `fs` speaks of, among them where a field is listed). -/
def Frame (fs : List Fld) (ps : List Part) (s t : State) : Prop := FieldsBut fs s t ∧ Untouched ps s t

/-- Avenues other than `n` are as they were. -/
def OtherAvenues (n : Fin 4) (s t : State) : Prop := ∀ m : Fin 4, m ≠ n → t.avn m = s.avn m

/-- Servo engines other than `n` are as they were. -/
def OtherServos (n : Fin 4) (s t : State) : Prop := ∀ m : Fin 4, m ≠ n → t.svo.get m = s.svo.get m

/-- An event on `src` with this detail, and nothing else, has been added to what waits for the collector (R509). -/
def Raised1 (src detail : Nat) (s t : State) : Prop :=
  t.flt = { s.flt with inbox := s.flt.inbox ++ [⟨src, s.time, detail, false⟩] }

/-- The sixteen words of window `w` of Avenue `n`, as fields. -/
def windowFlds (n : Fin 4) (w : Nat) : List Fld := (List.range 16).map (fun i => ⟨AV_WINFILE n w i, 0, 32⟩)

/-- Every register word but the one at `a` is as it was. -/
def WordsBut (as : List Nat) (s t : State) : Prop := ∀ a : Nat, a ∉ as → t.rd a = s.rd a

/-- What an ALU action with result `v` leaves (R168, R169): the flags, and the destination register of the current window
where there is one and it is neither r0 nor r15. -/
def AluLeaves (n : Fin 4) (v : Word) (rd : Option (Fin 16)) (s t : State) : Prop :=
  t.avn n = { s.avn n with seq := { s.seq n with zero := decide (v = 0), neg := v.msb } } ∧ OtherAvenues n s t ∧
  (match rd with
    | none => t.regs = s.regs
    | some r => if r.val = 0 ∨ r.val = 15 then t.regs = s.regs
      else t.rd (AV_WINFILE n (s.seq n).window r.val) = v ∧ WordsBut [AV_WINFILE n (s.seq n).window r.val] s t) ∧
  Untouched [.regs, .av] s t

/-- An arm of kind `k` for `slot` has joined the queue of Avenue `n`, at the first occurrence that begins at or after channel
bit `need` (R175). -/
def ArmJoined (n : Fin 4) (k : ArmKind) (o : MediaOp) (slot need : Nat) (s t : State) : Prop :=
  ∃ (a : Arm) (p : Placed) (r : Nat), (s.zoneNow n o.zone).slots[slot]? = some p ∧ (t.seq n).arms = (s.seq n).arms ++ [a] ∧
    a.kind = k ∧ a.slot = slot ∧ a.start = r * (s.zoneNow n o.zone).bpr + p.start ∧
    a.stop = r * (s.zoneNow n o.zone).bpr + p.stop ∧ a.split = p.split ∧ a.dsp = o.dsp ∧ a.l4 = o.l4 ∧ need ≤ a.start ∧
    ∀ r', need ≤ r' * (s.zoneNow n o.zone).bpr + p.start → r ≤ r'

/-- A change of state of servo engine `n`, with the listed fields besides: no more than the engine, its Avenue's operation,
write gate and write-fault record, the spindle's HOLD, and events. -/
def MotionFrame (n : Fin 4) (fs : List Fld) (s t : State) : Prop :=
  Frame (fs ++ [SVO_STAT_STATE n, SVO_STAT_ONTRK n, SVO_STAT_WINH n, SVO_CNT0_SEEKFAIL n, AV_WFSTAT_FIRST n, AV_WFSTAT_CAUSE n,
    AV_WFSTAT_FACE n, AV_WFSTAT_SLOT n, AV_WFSTAT_VALID n, AV_WFCNT_FAULTS n, SPN_STAT_STATE, SPN_STAT_READY, SPN_STAT_RETOK])
    [.regs, .av, .svo, .spn, .flt] s t ∧ OtherAvenues n s t ∧ OtherServos n s t

/-- A saturating counter has gone up by one. -/
def Counted (f : Fld) (s t : State) : Prop := t.get f = min (2 ^ f.wid - 1) (s.get f + 1)

/-- Command `c` of a tag is in flight, fetched and answerable: its controller still has its completion queue and no reset has
ended its use. -/
def InFlight (tag : Nat) (c : Cmd) (s : State) : Prop :=
  s.cmd tag = some c ∧ c.phase = .fetched ∧ c.orphan = false ∧ ∃ q ∈ (s.ctl c.fn).cqs, q.qid = c.cq

/-- Admin command `c` of a tag with opcode `op` may run now (R455). -/
def Admitted (tag op : Nat) (c : Cmd) (s : State) : Prop := s.adminCmd tag op = some c ∧ InFlight tag c s

/-- Command `c` has completed with a status type, a status code and dword 0: its completion waits for its completion queue
(R392, R395). -/
def Completed (c : Cmd) (sct sc dw0 : Nat) (s t : State) : Prop :=
  (t.cmd c.tag).map Cmd.phase = some .done ∧
  ∀ q ∈ (s.ctl c.fn).cqs, q.qid = c.cq →
    { q with waiting := q.waiting ++ [⟨c.tag, c.sq, c.sqe.cid, sct, sc, dw0, false⟩] } ∈ (t.ctl c.fn).cqs

/-- Controller `f` has been reset (R363, R404): its commands have ended, its queues are gone, its features are at their
defaults, its session and contexts have ended, source 152 is raised; namespaces, other controllers and its logs stay. -/
def ControllerReset (f : Nat) (s t : State) : Prop :=
  (t.ctl f).ccEn = false ∧ (t.ctl f).rdy = false ∧ (t.ctl f).sqs = [] ∧ (t.ctl f).cqs = [] ∧ (t.ctl f).features = [] ∧
  (t.ctl f).aers = [] ∧ (t.ctl f).shst = 0 ∧ (t.ctl f).errors = (s.ctl f).errors ∧ (∀ c ∈ t.rbt.cmds, c.fn ≠ f) ∧
  (∀ x ∈ t.tgt.sessions, x.fn ≠ f) ∧ (∀ c ∈ t.arc.persist, c.fn ≠ f) ∧ t.host.ns = s.host.ns ∧
  ⟨152, s.time, 0, false⟩ ∈ t.flt.inbox

/-- Function `f` has been reset with its controller (R362, R364, R365). -/
def FunctionReset (f : Nat) (s t : State) : Prop :=
  ControllerReset f s t ∧ (t.ctl f).mse = false ∧ (t.ctl f).vfEnable = false ∧ (t.ctl f).en = (s.ctl f).apEn ∧
  (t.ctl f).msix = (s.ctl f).apMsix ∧ ⟨6, s.time, 0, false⟩ ∈ t.flt.inbox

/-- What a reset of a controller or function touches. -/
def resetParts : List Part := [.bus, .tgt, .flt, .arc, .sqr, .host, .rbt, .regs]

/-- The register fields that follow sessions and contexts, which a reset of a controller may change. -/
def resetFlds : List Fld :=
  [TGT_STAT_NSESS, TGT_STAT_OSESS, TGT_STAT_OSFN, TGT_ROOT_OSLOT] ++ (List.range 128).map ARC_TENQ_USED

/-- A drain has been asked of the Square and has opened, with the current epoch (R284). -/
def DrainAsked (s t : State) : Prop :=
  ⟨s.sqr.nextDrain, s.get SQR_DRAIN_EPOCH, s.time⟩ ∈ t.sqr.drains ∧ t.sqr.nextDrain = s.sqr.nextDrain + 1 ∧
  t.get SQR_DRAIN_EPOCH = (s.get SQR_DRAIN_EPOCH + 1) % 256

/-- An entry of queue `q` of controller `f` has been fetched with class `cls` into a tag that no command held (R389). -/
def CommandFetched (f : Nat) (q : SubQueue) (cls : Nat) (e : Sqe) (s t : State) : Prop :=
  ∃ c : Cmd, t.rbt.cmds = s.rbt.cmds ++ [c] ∧ (∀ d ∈ s.rbt.cmds, d.tag ≠ c.tag) ∧ c.fn = f ∧ c.sq = q.qid ∧ c.cq = q.cq ∧
    c.cls = cls ∧ c.sqe = e ∧ c.order = s.rbt.order ∧ c.phase = .fetched ∧
    { q with head := (q.head + 1) % q.size } ∈ (t.ctl f).sqs ∧ (∀ g, g ≠ f → t.ctl g = s.ctl g)

/-- Controller `f` has received this SPDM response (R450). -/
def Responded (f : Nat) (r : SpdmResponse) (t : State) : Prop := KMap.get (fun _ => none) t.tgt.response f = some r

/-- No more than the Tollgate has changed, and of it no more than responses, connections and sessions. -/
def SpdmOnly (s t : State) : Prop :=
  t.tgt = { s.tgt with response := t.tgt.response, conn := t.tgt.conn, sessions := t.tgt.sessions } ∧
  Untouched [.tgt, .freeCtr] s t

/-- The fields that follow the sessions (Table 15-11). -/
def sessionFlds : List Fld := [TGT_STAT_NSESS, TGT_STAT_OSESS, TGT_STAT_OSFN, TGT_ROOT_OSLOT]

/-- Channel `c` has halted (R473, Table 16-5): what the halt captures, and source 300 + c. -/
def DmaHalted (c cause index addr bytes : Nat) (s t : State) : Prop :=
  t.get (DMA_CHERR0_VALID c) = 1 ∧ t.get (DMA_CHERR0_CAUSE c) = cause ∧ t.get (DMA_CHERR0_INDEX c) = index % 1024 ∧
  t.get (DMA_CHERR1_ADDR c) = addr % 2 ^ 32 ∧ t.get (DMA_CHERR2_ADDR c) = addr / 2 ^ 32 % 256 ∧
  t.get (DMA_CHERR3_BYTES c) = bytes % 2 ^ 24 ∧ t.get (DMA_CHSTAT_STATE c) = 2 ∧ t.get (dmaPending c) = 1 ∧
  ⟨300 + c, s.time, 0, false⟩ ∈ t.flt.inbox

/-- The fields of channel `c` that a halt writes. -/
def haltFlds (c : Nat) : List Fld :=
  [DMA_CHERR0_VALID c, DMA_CHERR0_CAUSE c, DMA_CHERR0_INDEX c, DMA_CHERR1_ADDR c, DMA_CHERR2_ADDR c, DMA_CHERR3_BYTES c,
    DMA_CHSTAT_STATE c, dmaPending c]

/-- The fields of channel `c` that follow its work. -/
def chanFlds (c : Nat) : List Fld := [DMA_CHSTAT_FLIGHT c, DMA_CHSTAT_STATE c]

/-- A byte of the firmware area or of the scratch SRAM by DMA address (Table 16-1). -/
def State.dmaByte (s : State) (a : Nat) : Byte :=
  if a < 0x2000000000 then KMap.get blankByte s.mem.fw a else KMap.get blankByte s.mem.scratch (a - 0x2000000000)

/-- `n` bytes at a DMA address lie in the firmware area or in the scratch SRAM. -/
def State.dmaPlain (s : State) (a n : Nat) : Prop :=
  a + n ≤ s.fwBytes ∨ (0x2000000000 ≤ a ∧ a + n ≤ 0x2000100000)

/-- A run of a channel has joined its runs. -/
def RunJoined (c : Nat) (r : DmaRun) (s t : State) : Prop :=
  t.chan c = { s.chan c with runs := (s.chan c).runs ++ [r] } ∧ ∀ k, k ≠ c → t.chan k = s.chan k

/-- The oldest run of a channel, whose descriptor stood in the scratch SRAM, has been written back as `d`: HEAD has advanced
and DONE counted. -/
def WrittenBack (c index : Nat) (d : List Word) (s t : State) : Prop :=
  (∀ j, j < 32 → t.dmaByte (s.descAddr c index + j) = (d.flatMap (fun w => leBytes 4 w.toNat)).getD j 0) ∧
  (∀ a, ¬ (s.descAddr c index ≤ a ∧ a < s.descAddr c index + 32) → t.dmaByte a = s.dmaByte a) ∧
  t.get (DMA_CHHEAD_HEAD c) = (s.get (DMA_CHHEAD_HEAD c) + 1) % s.ringLen c ∧ Counted (DMA_CHSTAT_DONE c) s t ∧
  (t.chan c).runs = (s.chan c).runs.tail ∧ (dIrq d = true → t.get (dmaPending c) = 1)

/-- The collector has handled event `e` (R510, Table 19-8): it is gone from what waits, and counted. -/
def EventHandled (e : Raised) (s t : State) : Prop :=
  Counted (FLT_ROUTE_COUNT e.src) s t ∧ Counted FLT_STAT_ARRIVED s t ∧ t.get FLT_STAT_LAST = e.src ∧
  t.flt.events = s.flt.events + 1 ∧ (KMap.get (fun _ => ⟨0, 0, 0⟩) t.flt.perSource e.src).events =
    min 0xFFFF ((KMap.get (fun _ => ⟨0, 0, 0⟩) s.flt.perSource e.src).events + 1)

/-- What waits for the collector after event `e`: the others, what its handling raised, and source 1151 after an injected
event. -/
def inboxAfter (e : Raised) (raised : List Nat) (s : State) : List Raised :=
  s.flt.inbox.erase e ++ ((raised ++ (if e.inj then [1151] else [])).map (fun k => ⟨k, s.time, 0, false⟩))

/-- The register fields that every event changes. -/
def countFlds (src : Nat) : List Fld := [FLT_ROUTE_COUNT src, FLT_STAT_ARRIVED, FLT_STAT_LAST]

/-- A block reset of unit `u` has ended (R512, Table 19-4 step 7): it runs no more, the pending bit of each source that asked
for it is set, and source 1140 is raised. -/
def BlockResetEnded (u : Nat) (s t : State) : Prop :=
  t.flt.resets = s.flt.resets.filter (fun r => r.unit != u) ∧ t.flt.blockResets = s.flt.blockResets + 1 ∧
  t.get FLT_STAT_RESET = (if (s.flt.resets.filter (fun r => r.unit != u)).isEmpty then 0 else 1) ∧
  (∀ r ∈ s.flt.resets, r.unit = u → ∀ src, r.source = some src → t.get (pendBit src) = 1) ∧
  ⟨1140, s.time, 0, false⟩ ∈ t.flt.inbox

/-- The internal reset is in force (R406, R513, R517, R523): registers stand at their reset values but for those kept, no
block reset, chip reset or commit is left, volatile memory is gone, and the flash store's tables, the recorder's SRAM and the
fuses are as they were. -/
def WasReset (s t : State) : Prop :=
  (∀ a, keptWord a = false → (∀ f ∈ keptFields, f.addr ≠ a) → t.rd a = resetWord a) ∧
  (∀ a, keptWord a = true → a ≠ FLT_CRREASON → a ≠ PWR_AON → t.rd a = s.rd a) ∧
  (∀ f ∈ keptFields, f.addr ≠ FLS_BBT 0 → f.addr ≠ FLS_BBT 1 → t.get f = s.get f) ∧ t.pwr.inReset = true ∧
  t.pwr.commit = none ∧ t.flt.chip = none ∧ t.flt.resets = [] ∧ t.bus = State.reset.bus ∧ t.mem = State.reset.mem ∧
  t.sqr.journal = s.sqr.journal ∧ t.red = s.red ∧ t.recd.mirror = s.recd.mirror ∧ t.tgt.drs = s.tgt.drs ∧
  t.tgt.owners = s.tgt.owners ∧ t.pwr.slotA = s.pwr.slotA ∧ t.pwr.slotB = s.pwr.slotB ∧ t.pwr.attempts = s.pwr.attempts

/-- Cul-de-sac mode is entered with a reason of Table 20-6 (R544); CDS has three bits, so that reason 8 reads 0 (assumption 60). -/
def CulDeSac (reason : Nat) (s t : State) : Prop :=
  t.get PWR_STATE_STATE = 5 ∧ t.get PWR_START_CDS = reason % 8 ∧ ⟨1130, s.time, 0, false⟩ ∈ t.flt.inbox

/-- A start has been made from what state `s` keeps (20.3, Table 20-3): it is counted, the straps are in force, STOP tells how
the stop before it was, and the start has gone on to SQUARE_INIT, or to Cul-de-sac or claim mode. -/
def Started (i : StartInput) (s t : State) : Prop :=
  t.pwr.inReset = false ∧ t.pwr.deep = false ∧ t.get REC_BOOT_BOOT = (s.pwr.log.getD 0 0 + 1) % 2 ^ 16 ∧
  t.pwr.log.getD 0 0 = s.pwr.log.getD 0 0 + 1 ∧
  t.get HST_CTL_MODE = s.get PIN_STRAP_PORTMODE ∧ t.get SPN_CEIL_MODE = s.get PIN_STRAP_SPINMODE ∧
  t.get TGT_STAT_ENTOK = (if i.entropyOk then 1 else 0) ∧ t.get REC_STAT_HDROK = (if i.headerOk then 1 else 0) ∧
  (i.headerOk = true → t.recd.circ = s.recd.circ) ∧ t.get PWR_START_STOP = s.stopKind ∧
  (s.stopKind = 2 → ⟨1129, s.time, 0, false⟩ ∈ t.flt.inbox) ∧
  t.get PWR_IMG_ACTIVE = (if s.pwr.active then 1 else 0) ∧ t.get PWR_IMG_LKG = (if s.pwr.lkg then 1 else 0) ∧
  (i.recordsOk = false → CulDeSac 8 s t) ∧
  (i.recordsOk = true → s.get TGT_STAT_LIFE = 1 → t.get PWR_STATE_STATE = 6) ∧
  (i.recordsOk = true → s.get TGT_STAT_LIFE ≠ 1 → s.pwr.newest = none →
    t.get PWR_START_ATTEMPTS = min 3 s.pwr.attempts ∧
    (3 ≤ s.pwr.attempts → CulDeSac 1 s t) ∧
    (s.pwr.attempts < 3 → t.pwr.attempts = s.pwr.attempts + 1 ∧
      (s.pwr.slotA = none → s.pwr.slotB = none → CulDeSac 2 s t) ∧
      (CulDeSac 2 s t ∨ CulDeSac 3 s t ∨ (i.dramOk = false ∧ CulDeSac 4 s t) ∨ (i.dramOk = true ∧ t.get PWR_START_STEP = 5 ∧
        (t.get PWR_START_DRAMOK = 1 ∨ ⟨997, s.time, 0, false⟩ ∈ t.flt.inbox) ∧ ∀ k, k < 6 → t.get (CPU_CORESTAT_STATE k) = 1))))

/-- The byte memories are in their canonical form. -/
def Memories.wf (m : Memories) : Bool := KMap.wf blankByte m.fw && KMap.wf blankByte m.scratch

/-- The sparse parts of the state are in their canonical form: the register file, the firmware area and the scratch SRAM, and
the channels. -/
def State.canonical (s : State) : Bool :=
  KMap.wf resetWord s.regs && s.mem.wf && KMap.wf (fun _ => idleChannel) s.dma

/-- The retry decoders' queue holds at most 64 jobs (R122). -/
def State.retryBounded (s : State) : Prop := s.rdec.queue.length ≤ 64

end Sys2Proof.Machine
end

