-- ==== Sys2Proof/Certificates/Slice0/Obligations.lean ====
section
/-! DEFINITION. The statements for the provers: what each command does where it completes, what it leaves alone, and what
every step keeps. A clause that rests on a choice of the model names the log entry. -/

open Sys2Proof Sys2Proof.Machine

/-- A step runs the command at the front of the queue on the state with the queue's rest. -/
def Obligations.StepRunsTheFrontCommand : Prop :=
  ∀ (s : State) (c : Instr) (cs : List Instr), s.pending = c :: cs → step s = exec c { s with pending := cs }

/-- With no command waiting, no load pending and nothing to trace, a step is one TD31 cycle: while the domain's clock is
present the counter advances by one unit, while it is absent it holds its value, and nothing else changes (R53, R55; that
an idle step is one cycle is the model's choice, log 17). -/
def Obligations.IdleStepIsOneCycle : Prop :=
  ∀ s : State, s.pending = [] → s.tim.loadPending = false → s.recd.fifo = [] →
    (s.get (tdPresent 31) = 1 → step s = .next { s with tim := { s.tim with now := s.tim.now + 1 } }) ∧
    (s.get (tdPresent 31) = 0 → step s = .next s)

/-- What reset leaves (R34, R53, R117, R218, R287, R406, R445): the counter at 0, every TD32 and TD33 bit and every lock
clear, no codeword table, every actuator and the spindle off, no session and no command, sparse parts in canonical form and
no retry job; the identification and the reset values of the registers named. The part's LIFE is the model's choice
(log 3). -/
def Obligations.ResetValues : Prop :=
  State.reset.time = 0 ∧ State.reset.canonical = true ∧ State.reset.retryBounded ∧ State.reset.pending = [] ∧
  State.reset.get SYS_ID_PART = 0x9640 ∧ State.reset.get SYS_ID_MAJOR = 1 ∧ State.reset.get SYS_ID_MINOR = 0 ∧
  State.reset.get PWR_VREQ_CODE = 250 ∧ State.reset.get SYS_BADACC_VALID = 0 ∧ State.reset.get SYS_BADCNT_COUNT = 0 ∧
  State.reset.get (tdExpect 32) = 0 ∧ State.reset.get (tdExpect 33) = 0 ∧ State.reset.get AV0_RDECCTL_OK = 0 ∧
  State.reset.get SPN_STAT_STATE = 0 ∧ State.reset.bus.winOpen = false ∧ State.reset.tgt.sessions = [] ∧
  (∀ k : Fin 256, (State.reset.lock k).owner = 0 ∧ (State.reset.lock k).orphaned = false) ∧
  (∀ n : Fin 4, State.reset.get (AV_TLSTAT_STATE n) = 0 ∧ State.reset.get (SVO_STAT_STATE n) = 0 ∧
    State.reset.get (AV_CODECTL_OK n) = 0 ∧ (State.reset.avn n).wg = false)

/-- Every step keeps the register file, the firmware area, the scratch memory and the channels in canonical form: keys
strictly rising and nothing listed that an unlisted key reads as, so that equal contents are equal data. -/
def Obligations.EveryStepKeepsCanonicalForm : Prop :=
  ∀ s t : State, s.canonical = true → step s = .next t → t.canonical = true

/-- Every step keeps at most 64 jobs in the retry decoders' queue (R122). -/
def Obligations.EveryStepKeepsRetryQueueBound : Prop :=
  ∀ s t : State, s.retryBounded → step s = .next t → t.retryBounded

/-- Register writes (R17 to R24, R46). A whole-word write from inside to a mapped register sets each field by its access
code: RW takes the value, RWL takes it while the block's LOCK bit is 0 and stays while it is 1, RO, WO and RC stay, W1C
loses the bits written 1 and W1S gains them. A field that a command of its own writes stays, as does HST_FN[0].EN, and SWINH can be cleared only:
that such writes are commands of their own is the model's reading of the table's rows (log 20). A write that steps a reader's
VGA tags 2 of its blocks INVALID, and one that changes its cutoff or boost 4. What else the write of FLS_PATROL, of a channel's
EN, of a shock mask with a shock input high or of the timing head's index with a head selected does is not said here. A write to the code limits takes 70 or 350 where it lies below or
above. A write of SETUP_PAGE sets PAGE; a write through the closed window is discarded. -/
def Obligations.RegisterWriteByAccessCode : Prop :=
  (∀ (s : State) (a base : Nat) (r : RegSpec) (v : Word), a % 4 = 0 → regAt a = some (base, r) → allRo s a r = false →
    setOnly a = [] → a ≠ PWR_AVSLIM → a ≠ FLS_PATROL →
    (∀ n : Fin 4, (a = AV_WINHCTL n → s.shock0 = false ∧ s.shock1 = false) ∧
      (a = AV_HMAP n → (s.avn n).kazq.headsel = none)) →
    ∃ t, exec (.registerWrite (.internal a) v) s = .next t ∧
      (∀ f ∈ r.fields,
        let fld : Fld := ⟨a, f.lo, f.wid⟩
        let new := bitsOf v.toNat f.lo f.wid
        (fld ∈ rowFields a → t.get fld = s.get fld) ∧
        (fld ∈ clearOnly a → t.get fld = s.get fld &&& new) ∧
        (fld ∉ rowFields a → fld ∉ clearOnly a → t.get fld =
          match f.acc with
          | .rw => new
          | .rwl => if lockedNow s base r then s.get fld else new
          | .w1s => s.get fld ||| new
          | .w1c => s.get fld &&& (2 ^ f.wid - 1 - new)
          | .ro | .wo | .rc => s.get fld)) ∧
      (∀ (n : Fin 4) (q : Fin 2), t.reader n q = Reader.invalidate (analogueBlocks a s t n q) (s.reader n q)) ∧
      (∀ n : Fin 4, { t.avn n with readers := (s.avn n).readers } = s.avn n) ∧
      (∀ b, b ∉ [a, SYS_BADACC, SYS_BADCNT, TIM_TDEXP1] → t.rd b = s.rd b) ∧ Untouched [.regs, .av] s t) ∧
  (∀ (s : State) (v : Word), s.get PWR_AVSCTL_LOCK = 0 → ∃ t, exec (.registerWrite (.internal PWR_AVSLIM) v) s = .next t ∧
    t.get PWR_AVSLIM_MINCODE = max 70 (min 350 (bitsOf v.toNat PWR_AVSLIM_MINCODE.lo PWR_AVSLIM_MINCODE.wid)) ∧
    t.get PWR_AVSLIM_MAXCODE = max 70 (min 350 (bitsOf v.toNat PWR_AVSLIM_MAXCODE.lo PWR_AVSLIM_MAXCODE.wid)) ∧
    (∀ b, b ≠ PWR_AVSLIM → t.rd b = s.rd b) ∧ Untouched [.regs] s t) ∧
  (∀ (s : State) (v : Word), s.bus.winOpen = true →
    exec (.registerWrite (.window 0x400000 4 15) v) s = .next { s with bus := { s.bus with page := v.toNat % 8 } }) ∧
  (∀ (s : State) (off width en : Nat) (v : Word), s.bus.winOpen = false →
    exec (.registerWrite (.window off width en) v) s = .next s)

/-- Register reads (R18, R20, R21, R25, R27, R42). A read from inside returns the word that the register shows, an upper
word its shadow, and leaves each RC field at the changes that the device made in the same moment, saturated, and every
other field as it was; a read of a lower word captures the word that the upper register shows. Through the closed window a
read returns 0 and changes nothing else. A read of TIM_FENCE returns what the register shows. An unmapped device address is
counted, captured with CAUSE 1 while VALID = 0, and reads as 0. -/
def Obligations.RegisterReads : Prop :=
  (∀ (s : State) (a base : Nat) (r : RegSpec) (ch : List FieldChange), a % 4 = 0 → regAt a = some (base, r) →
    ∃ t, exec (.readClearAccess (.internal a) ch) s = .next t ∧
      t.bus.rdata = (if isUpper a then KMap.get (fun _ => 0) s.bus.shadow a else s.peek a) ∧
      (∀ f ∈ r.fields, t.get ⟨a, f.lo, f.wid⟩ =
        if f.acc = .rc then min (2 ^ f.wid - 1) ((ch.filter (fun c => c.lo == f.lo)).map FieldChange.amount).sum
        else s.get ⟨a, f.lo, f.wid⟩) ∧
      (∀ b, b ≠ a → t.rd b = s.rd b) ∧ Untouched [.regs, .bus] s t) ∧
  (∀ s : State, ∃ t, exec (.lowerWordCaptureRead (.internal TIM_NOW_LO)) s = .next t ∧
      t.bus.rdata = BitVec.ofNat 32 s.time ∧
      KMap.get (fun _ => 0) t.bus.shadow TIM_NOW_HI = BitVec.ofNat 32 (s.time / 2 ^ 32) ∧
      (∀ b, b ≠ TIM_NOW_HI → KMap.get (fun _ => 0) t.bus.shadow b = KMap.get (fun _ => 0) s.bus.shadow b) ∧
      (∀ b, t.rd b = s.rd b) ∧ Untouched [.bus, .regs] s t) ∧
  (∀ (s : State) (off width en : Nat) (ch : List FieldChange), s.bus.winOpen = false →
    exec (.readClearAccess (.window off width en) ch) s = .next { s with bus := { s.bus with rdata := 0 } }) ∧
  (∀ s : State, exec (.timFenceRead false) s = .next { s with bus := { s.bus with rdata := s.peek TIM_FENCE } } ∧
    (s.bus.winOpen = true → exec (.timFenceRead true) s = .next { s with bus := { s.bus with rdata := s.peek TIM_FENCE } }) ∧
    (s.bus.winOpen = false → exec (.timFenceRead true) s = .next { s with bus := { s.bus with rdata := 0 } })) ∧
  (∀ (s : State) (a : Nat) (ch : List FieldChange), regAt a = none → s.get SYS_BADACC_VALID = 0 →
    ∃ t, exec (.readClearAccess (.internal a) ch) s = .next t ∧ t.bus.rdata = 0 ∧ t.get SYS_BADACC_VALID = 1 ∧
      t.get SYS_BADACC_BAROFS = 0 ∧ t.get SYS_BADACC_CAUSE = 1 ∧ t.get SYS_BADACC_WRITE = 0 ∧
      t.get SYS_BADACC_ADDR = a % 2 ^ 25 ∧ t.get SYS_BADCNT_COUNT = min 0xFFFF (s.get SYS_BADCNT_COUNT + 1) ∧
      Frame [SYS_BADCNT_COUNT, SYS_BADACC_VALID, SYS_BADACC_BAROFS, SYS_BADACC_CAUSE, SYS_BADACC_WRITE, SYS_BADACC_ADDR]
        [.regs, .bus] s t)

/-- Timing domains and the time base (R32 to R34, R54, Tables 1-4 and 1-15). A clock that stops clears its PRESENT bit and,
where the domain is expected, raises the source of Table 1-15; one that returns sets the bit. A reader's crossing that
overflows drops blocks and raises source 38 of its Avenue; TD25 raises 954; an underflow of a drive link repeats the command
once, and a second one in a row raises source 8 of its engine. A load is pending from its request; applied, the counter takes
TIM_LOAD and LOADS rises by one. -/
def Obligations.TimingDomainsAndTimeBase : Prop :=
  (∀ (s : State) (td : Fin 40) (src : Nat),
    (td.val, src) ∈ (List.range 4).flatMap (fun n => [(2 * n, 428 + 96 * n + 41), (2 * n + 1, 428 + 96 * n + 42),
        (8 + n, 428 + 96 * n + 43), (12 + n, 428 + 96 * n + 44), (16 + n, 812 + 32 * n + 19), (20 + n, 812 + 32 * n + 20)])
      ++ [(24, 957), (25, 958), (35, 959), (26, 16), (27, 17), (28, 218), (29, 983), (30, 428 + 45), (31, 1124), (34, 1124),
        (36, 1124), (39, 1124), (37, 1017), (38, 1018)] →
    s.get (tdPresent td) = 1 →
    ∃ t, exec (.clockAbsent td) s = .next t ∧ t.get (tdPresent td) = 0 ∧
      (s.get (tdExpect td) = 1 → Raised1 src 0 s t) ∧ (s.get (tdExpect td) = 0 → t.flt = s.flt) ∧
      Frame [tdPresent td] [.regs, .flt] s t) ∧
  (∀ (s : State) (td : Fin 40), ∃ t, exec (.clockReturn td) s = .next t ∧ t.get (tdPresent td) = 1 ∧
    Frame [tdPresent td] [.regs] s t) ∧
  (∀ (s : State) (n : Fin 4) (blocks : Nat), ∃ t, exec (.crossingOverflow ⟨2 * n.val, by omega⟩ blocks) s = .next t ∧
    (t.reader n 0).dropped = max (s.reader n 0).dropped blocks ∧ t.reader n 1 = s.reader n 1 ∧ OtherAvenues n s t ∧
    Raised1 (428 + 96 * n.val + 38) 0 s t ∧ Untouched [.av, .flt] s t) ∧
  (∀ (s : State) (blocks : Nat), ∃ t, exec (.crossingOverflow 25 blocks) s = .next t ∧ Raised1 954 0 s t ∧
    Untouched [.flt] s t) ∧
  (∀ (s : State) (n : Fin 4) (blocks : Nat), ∃ t, exec (.crossingOverflow ⟨20 + n.val, by omega⟩ blocks) s = .next t ∧
    (t.svo.get n).underflows = (s.svo.get n).underflows + 1 ∧ OtherServos n s t ∧
    ((s.svo.get n).underflows = 0 → (t.svo.get n).out = (s.svo.get n).out ∧ t.flt = s.flt) ∧
    ((s.svo.get n).underflows = 1 → Raised1 (812 + 32 * n.val + 8) 0 s t) ∧ Untouched [.svo, .flt] s t) ∧
  (∀ s : State, exec .timeLoadRequest s = .next { s with tim := { s.tim with loadPending := true } }) ∧
  (∀ s : State, s.tim.loadPending = true → s.get (tdPresent 31) = 1 →
    ∃ t, exec .timeLoadApply s = .next t ∧
      t.tim.now = BitVec.ofNat 64 ((s.rd TIM_LOAD_LO).toNat + 2 ^ 32 * (s.rd TIM_LOAD_HI).toNat) ∧
      t.tim.loadPending = false ∧
      t.get TIM_CTL_LOADS = (s.get TIM_CTL_LOADS + 1) % 2 ^ TIM_CTL_LOADS.wid ∧
      (s.get REC_CTL_EN = 1 → t.recd.nextSeq = (s.recd.nextSeq + 1) % 2 ^ 32 ∧
        (t.recd.circ.getLast?.map RecEntry.typ) = some 1) ∧
      Untouched [.tim, .regs, .recd, .flt] s t)

/-- Write underflows and flits (R36, R39, Table 1-4, Table 5-1 cause 4). An underflow with no operation writing drops write gate
and raises source 72 of the Avenue; other Avenues are as they were. A flit takes the shorter way round the ring; each word with one
bad bit is corrected and counted at its destination, and one with two bad bits arrives poisoned; a flit whose header is bad is
discarded, counted and raised. -/
def Obligations.FlitsAndWriteUnderflow : Prop :=
  (∀ (s : State) (n : Fin 4) (blocks : Nat), s.writing n = false →
    ∃ t, exec (.crossingOverflow ⟨8 + n.val, by omega⟩ blocks) s = .next t ∧ (t.avn n).wg = false ∧
      (t.avn n).underflow = false ∧ Raised1 (428 + 96 * n.val + 72) 0 s t ∧ OtherAvenues n s t ∧
      Untouched [.av, .flt] s t) ∧
  (∀ (s : State) (f : Flit), f.headerOk = true → (f.response && f.late) = false →
    ∃ t, exec (.flitDelivery f) s = .next t ∧
      (∃ r, t.ring.last = some r ∧ r.dst = f.dst.val ∧
        r.clockwise = decide ((f.dst.val + 13 - f.src.val) % 13 ≤ (f.src.val + 13 - f.dst.val) % 13) ∧
        (f.src ≠ f.dst → r.hops = min ((f.dst.val + 13 - f.src.val) % 13) ((f.src.val + 13 - f.dst.val) % 13)) ∧
        (r.poisoned = true ↔ ∃ e ∈ f.errors, 2 ≤ e)) ∧
      KMap.get (fun _ => 0) t.ring.corrected f.dst.val =
        KMap.get (fun _ => 0) s.ring.corrected f.dst.val + (f.errors.filter (fun e => e == 1)).length ∧
      (∀ d, d ≠ f.dst.val → KMap.get (fun _ => 0) t.ring.corrected d = KMap.get (fun _ => 0) s.ring.corrected d) ∧
      t.ring.discarded = s.ring.discarded ∧ Untouched [.ring] s t) ∧
  (∀ (s : State) (f : Flit), f.headerOk = false → (f.response && f.late) = false →
    ∃ t src, exec (.flitDelivery f) s = .next t ∧ t.ring.discarded = s.ring.discarded + 1 ∧ t.ring.last = s.ring.last ∧
      t.ring.corrected = s.ring.corrected ∧ Raised1 src 0 s t ∧ Untouched [.ring, .flt] s t)

/-- The pace loop (R44, R45, R48 to R50). A gate's end gives each enabled unscaled monitor its count and its margin, and leaves
a disabled one alone. At a period's end, with the loop running, no current margin below CRIT and every zone settled, the lowest preview
margin below LOW raises the code by UP, and above HIGH lowers it by DOWN, held between MINCODE and MAXCODE. A preview is
posted; a change to a zone that is no faster takes effect, the preview then being spent; a faster one without the margins
waits, and at HOLDMAX proceeds with source 1125. PGOOD low for longer than PGFILT holds the code with source 1122; its return
ends the hold. -/
def Obligations.PaceLoop : Prop :=
  (∀ (s : State) (counts : List Nat), counts.length = 16 → s.pace.wait = .all none →
    ∃ t, exec (.paceGateEnd counts) s = .next t ∧ t.pace.gates = s.pace.gates + 1 ∧
      (∀ m, 8 ≤ m → m < 16 → s.get (PWR_PACEREQ_EN m) = 1 → 0 < s.get (PWR_PACEREQ_REQ m) →
        t.get (PWR_PACE_COUNT m) = min 0xFFFF (counts.getD m 0) ∧
        t.get (PWR_PACE_MARGIN m) = min 0xFFFF (min 0xFFFF (counts.getD m 0) * 256 / s.get (PWR_PACEREQ_REQ m))) ∧
      (∀ m < 16, s.get (PWR_PACEREQ_EN m) = 0 → t.get (PWR_PACE_COUNT m) = s.get (PWR_PACE_COUNT m) ∧
        t.get (PWR_PACE_MARGIN m) = s.get (PWR_PACE_MARGIN m)) ∧
      Untouched [.regs, .pace, .flt] s t) ∧
  (∀ (s : State) (m margin : Nat), max 1 (s.get PWR_AVSCTL_PERIOD) ≤ s.pace.gates → s.pace.prev = [(m, margin)] →
    s.get PWR_AVSCTL_EN = 1 → s.pace.pgHold = false → s.pace.belowCrit = [] →
    s.get PWR_AVSTHR_CRIT < s.get PWR_AVSTHR_WARN → s.get PWR_AVSTHR_WARN < s.get PWR_AVSTHR_LOW →
    s.get PWR_AVSTHR_LOW < s.get PWR_AVSTHR_HIGH → m < 16 → s.get PWR_AVSLIM_MINCODE ≤ s.get PWR_AVSLIM_MAXCODE →
    ∃ t, exec .avsUpdate s = .next t ∧ t.get PWR_VREQ_WORST = m ∧ t.pace.gates = 0 ∧
      (margin < 256 + s.get PWR_AVSTHR_LOW → t.get PWR_VREQ_CODE =
        max (s.get PWR_AVSLIM_MINCODE) (min (s.get PWR_AVSLIM_MAXCODE) (s.get PWR_VREQ_CODE + s.get PWR_AVSLIM_UP))) ∧
      (256 + s.get PWR_AVSTHR_HIGH < margin → t.get PWR_VREQ_CODE =
        max (s.get PWR_AVSLIM_MINCODE) (min (s.get PWR_AVSLIM_MAXCODE) (s.get PWR_VREQ_CODE - s.get PWR_AVSLIM_DOWN))) ∧
      Frame [PWR_VREQ_WORST, PWR_VREQ_CODE] [.regs, .pace, .flt] s t) ∧
  (∀ (s : State) (n : Fin 4) (z : Fin 32), ∃ t, exec (.zonePreviewPost n z) s = .next t ∧
    t.pace = { s.pace with preview := s.pace.preview.set n (some z.val) } ∧ Untouched [.pace] s t) ∧
  (∀ (s : State) (n : Fin 4) (z : Fin 32), z.val ≠ s.pace.cur.get n →
    s.paceRate n z.val ≤ s.paceRate n (s.pace.cur.get n) →
    ∃ t, exec (.zoneChange n z) s = .next t ∧ t.pace.cur = s.pace.cur.set n z.val ∧
      t.pace.preview = s.pace.preview.set n none ∧ t.pace.wait = s.pace.wait.set n none ∧ OtherAvenues n s t) ∧
  (∀ (s : State) (n : Fin 4) (z : Fin 32), s.paceRate n (s.pace.cur.get n) < s.paceRate n z.val →
    0 < s.get PWR_AVSCTL_HOLDMAX → (s.postPreview n z.val).previewOk n = false →
    exec (.zoneChange n z) s = .next { s with pace := { s.pace with
      preview := s.pace.preview.set n (some z.val), wait := s.pace.wait.set n (some z.val) } }) ∧
  (∀ (s : State) (n : Fin 4) (z : Nat), s.pace.wait.get n = some z →
    ∃ t, exec (.zoneChangeHoldExpiry n) s = .next t ∧ t.pace.cur = s.pace.cur.set n z ∧
      t.pace.preview = s.pace.preview.set n none ∧ t.pace.wait = s.pace.wait.set n none ∧
      (t.flt.inbox.getLast?.map Raised.src) = some 1125 ∧ OtherAvenues n s t) ∧
  (∀ s : State, s.get PWR_VREQ_PGOOD = 0 → s.pace.pgTiming = true →
    ∃ t, exec .pgoodFilterExpiry s = .next t ∧ t.pace = { s.pace with pgTiming := false, pgHold := true } ∧
      Raised1 1122 0 s t ∧ Untouched [.pace, .flt] s t) ∧
  (∀ s : State, ∃ t, exec .pgoodRise s = .next t ∧ t.get PWR_VREQ_PGOOD = 1 ∧ t.pace.pgHold = false ∧
    t.pwr.causes = setBits s.pwr.causes 2 1 0 ∧ Frame [PWR_VREQ_PGOOD] [.regs, .pace, .pwr] s t)

/-- FORMAT_APPLY (R63, R64, Tables 2-1 and 2-14). With no rule broken the layout of the framing registers is in force, OK is 1
and the status shows it; with a rule other than 1 broken, OK is 0, no layout is in force and code and zone are shown; with a
media operation active, only the code changes. A refusal raises source 24 of the Avenue. -/
def Obligations.FormatApply : Prop :=
  (∀ (s : State) (n : Fin 4), s.formatBroken n = none → ∃ t, exec (.formatApply n) s = .next t ∧
    t.get (AV_FMTCTL_OK n) = 1 ∧ t.get (AV_FMTSTAT_CODE n) = 0 ∧ t.get (AV_FMTSTAT_ZONE n) = 0 ∧
    (t.avn n) = { s.avn n with layout := some (s.newLayout n) } ∧
    (∀ z < 32, z ∈ s.fullZones n → t.get (AV_ZONESTAT_VALID n z) = 1 ∧
      t.get (AV_ZONESTAT_SPT n z) = (s.zoneLay n z).spt % 2 ^ (AV_ZONESTAT_SPT n z).wid ∧
      t.get (AV_ZONESTAT_SPLITS n z) = (s.zoneLay n z).splits % 2 ^ (AV_ZONESTAT_SPLITS n z).wid ∧
      t.get (AV_ZONESTAT_GAPS n z) = (s.zoneLay n z).gaps % 2 ^ (AV_ZONESTAT_GAPS n z).wid) ∧
    (∀ z < 32, z ∉ s.fullZones n → t.rd (AV_ZONESTAT n z) = 0 ∧ t.rd (AV_ZONEUSE n z) = 0) ∧
    (∀ a, a ∉ AV_FMTCTL n :: AV_FMTSTAT n :: (List.range 32).flatMap (fun z => [AV_ZONESTAT n z, AV_ZONEUSE n z]) →
      t.rd a = s.rd a) ∧ OtherAvenues n s t ∧ Untouched [.regs, .av] s t) ∧
  (∀ (s : State) (n : Fin 4) (code z : Nat), s.formatBroken n = some (code, z) → code ≠ 1 →
    ∃ t, exec (.formatApply n) s = .next t ∧ t.get (AV_FMTCTL_OK n) = 0 ∧ t.get (AV_FMTSTAT_CODE n) = code ∧
      t.get (AV_FMTSTAT_ZONE n) = z ∧ (t.avn n) = { s.avn n with layout := none } ∧
      (∀ y < 32, t.rd (AV_ZONESTAT n y) = 0 ∧ t.rd (AV_ZONEUSE n y) = 0) ∧ Raised1 (428 + 96 * n.val + 24) 0 s t ∧
      OtherAvenues n s t ∧ Untouched [.regs, .av, .flt] s t) ∧
  (∀ (s : State) (n : Fin 4), s.mediaBusy n = true → ∃ t, exec (.formatApply n) s = .next t ∧
    t.get (AV_FMTSTAT_CODE n) = 1 ∧ Raised1 (428 + 96 * n.val + 24) 0 s t ∧
    Frame [AV_FMTSTAT_CODE n, AV_FMTSTAT_ZONE n] [.regs, .flt] s t)

/-- The timing lane's states (R84 to R92, Table 3-2), with no write operation in progress: enabled from OFF it enters FREERUN
with FW = 0 and its clocks are expected; disabled it enters OFF from any state, write gate drops and they are not; RELOCK
begins an attempt from FREERUN, TRACK, COAST and LOST, and is ignored in OFF and ACQUIRE; an attempt without lock in time is
counted and raised, and the last of them enters LOST; a wedge takes TRACK to COAST. -/
def Obligations.TimingLaneStates : Prop :=
  (∀ (s : State) (n : Fin 4), s.get (AV_TLSTAT_STATE n) = 0 → ∃ t, exec (.timingLaneEnable n) s = .next t ∧
    t.get (AV_TLSTAT_STATE n) = 1 ∧ t.get (AV_TLCTL_EN n) = 1 ∧ t.avn n = { s.avn n with lane := { (s.avn n).lane with fw := 0 } } ∧
    (∀ d ∈ laneDomains n, t.get (tdExpect d) = 1) ∧ OtherAvenues n s t ∧
    Frame (AV_TLCTL_EN n :: AV_TLSTAT_STATE n :: (laneDomains n).map tdExpect) [.regs, .av] s t) ∧
  (∀ (s : State) (n : Fin 4), s.writing n = false → ∃ t, exec (.timingLaneDisable n) s = .next t ∧
    t.get (AV_TLSTAT_STATE n) = 0 ∧ t.get (AV_TLCTL_EN n) = 0 ∧ (t.avn n).wg = false ∧
    (∀ d ∈ laneDomains n, t.get (tdExpect d) = 0) ∧ OtherAvenues n s t ∧
    Frame (AV_TLCTL_EN n :: AV_TLSTAT_STATE n :: (laneDomains n).map tdExpect) [.regs, .av] s t) ∧
  (∀ (s : State) (n : Fin 4), s.writing n = false → s.get (AV_TLSTAT_STATE n) ∈ [1, 3, 4, 5] →
    ∃ t, exec (.relock n) s = .next t ∧ t.get (AV_TLSTAT_STATE n) = 2 ∧ t.get (AV_TLSTAT_FMISM n) = 0 ∧
      (t.avn n).lane = { (s.avn n).lane with lockRun := 0, lossRun := 0, ampRun := 0, mismRun := 0, t0 := s.time } ∧
      OtherAvenues n s t ∧ Frame [AV_TLSTAT_STATE n, AV_TLSTAT_FMISM n] [.regs, .av] s t) ∧
  (∀ (s : State) (n : Fin 4), s.get (AV_TLSTAT_STATE n) ∈ [0, 2] → exec (.relock n) s = .next s) ∧
  (∀ (s : State) (n : Fin 4), s.get (AV_TLSTAT_STATE n) = 2 →
    let fails := min 15 (s.get (AV_TLSTAT_FAILS n) + 1)
    ∃ t, exec (.acquireTimeout n) s = .next t ∧ t.get (AV_TLSTAT_FAILS n) = fails ∧
      t.get (AV_TLCNT_LKFAILS n) = min 255 (s.get (AV_TLCNT_LKFAILS n) + 1) ∧
      (fails < max 1 (s.get (AV_TLCTL_RELOCKS n)) → t.get (AV_TLSTAT_STATE n) = 2 ∧ (t.avn n).lane.t0 = s.time ∧
        Raised1 (428 + 96 * n.val + 32) 0 s t) ∧
      (max 1 (s.get (AV_TLCTL_RELOCKS n)) ≤ fails → t.get (AV_TLSTAT_STATE n) = 5 ∧
        t.flt.inbox = s.flt.inbox ++ [⟨428 + 96 * n.val + 32, s.time, 0, false⟩, ⟨428 + 96 * n.val + 40, s.time, 0, false⟩]) ∧
      OtherAvenues n s t ∧ Frame [AV_TLSTAT_STATE n, AV_TLSTAT_FAILS n, AV_TLSTAT_FMISM n, AV_TLCNT_LKFAILS n]
        [.regs, .av, .flt] s t) ∧
  (∀ (s : State) (n : Fin 4), s.get (AV_TLSTAT_STATE n) = 3 → ∃ t, exec (.timingWedgeBegin n) s = .next t ∧
    t.get (AV_TLSTAT_STATE n) = 4 ∧ Frame [AV_TLSTAT_STATE n] [.regs] s t)

/-- The timing lane's update (R85, R88) from eight phases with mean `e` rounded toward zero: in ACQUIRE FW falls by e >> KIA
and the phase by e >> KPA, and LKCNT updates in a row within LKTHR enter TRACK; in TRACK the tracking gains apply. -/
def Obligations.TimingLaneUpdate : Prop :=
  (∀ (s : State) (n : Fin 4) (ph : List Int) (mg : List Nat) (mx : Bool), s.get (AV_TLSTAT_STATE n) = 2 →
    let e := Int.tdiv ph.sum 8
    ∃ t, exec (.laneUpdate n ph mg mx) s = .next t ∧
      (t.avn n).lane.fw = (s.avn n).lane.fw - e / 2 ^ s.get (AV_TLCTL_KIA n) ∧
      (t.avn n).lane.phase = (s.avn n).lane.phase - e / 2 ^ s.get (AV_TLCTL_KPA n) ∧
      (t.avn n).lane.lockRun = (if e.natAbs ≤ s.get (AV_TLTHR_LKTHR n) then (s.avn n).lane.lockRun + 1 else 0) ∧
      (max 1 (s.get (AV_TLTHR_LKCNT n)) ≤ (t.avn n).lane.lockRun → t.get (AV_TLSTAT_STATE n) = 3 ∧
        t.get (AV_TLSTAT_FAILS n) = 0 ∧ t.get (AV_TLSTAT_ACQT n) = min 0xFFFF (s.time - (s.avn n).lane.t0)) ∧
      ((t.avn n).lane.lockRun < max 1 (s.get (AV_TLTHR_LKCNT n)) → t.get (AV_TLSTAT_STATE n) = 2) ∧
      OtherAvenues n s t ∧
      Frame [AV_TLSTAT_STATE n, AV_TLSTAT_FAILS n, AV_TLSTAT_ACQT n, AV_TLFREQ_FOFS n, AV_TLFREQ_PHERR n, AV_TLFREQ_AMP n]
        [.regs, .av] s t) ∧
  (∀ (s : State) (n : Fin 4) (ph : List Int) (mg : List Nat) (mx : Bool), s.get (AV_TLSTAT_STATE n) = 3 →
    let e := Int.tdiv ph.sum 8
    ∃ t, exec (.laneUpdate n ph mg mx) s = .next t ∧
      (t.avn n).lane.fw = (s.avn n).lane.fw - e / 2 ^ s.get (AV_TLCTL_KIT n) ∧
      (t.avn n).lane.phase = (s.avn n).lane.phase - e / 2 ^ s.get (AV_TLCTL_KPT n) ∧
      (e.natAbs ≤ s.get (AV_TLTHR_LSTHR n) → mx = false → 0 < s.get (AV_TLTHR_LSCNT n) → t.get (AV_TLSTAT_STATE n) = 3) ∧
      OtherAvenues n s t ∧ Untouched [.regs, .av, .flt] s t)

/-- Sample blocks, calibration steps and code tables (R94, R100, R101, R117). A block that crosses while the lane does not
track is INVALID and counted; a VALID one, with no read in progress, changes nothing but the spans; in a read with tracking
it adds its timing error to the accumulator. A calibration step trims the next parameter by one unit, in a direction that the
spec leaves open, or at the range's end raises source 39 and trims nothing. A code table that breaks no rule is in force with
its identifier; one that breaks a rule leaves no table and raises source 55. -/
def Obligations.FrontEndAndCodeTables : Prop :=
  (∀ (s : State) (n : Fin 4) (r : Fin 2) (errs decs lms : List Int), s.laneTracks n = false →
    ∃ t, exec (.sampleBlock n r errs decs lms) s = .next t ∧
      t.get (AV_TAGCNT_INVAL n) = min 0xFFFF (s.get (AV_TAGCNT_INVAL n) + 1) ∧
      t.reader n r = { s.reader n r with inv := (s.reader n r).inv - 1, setl := (s.reader n r).setl - 1,
                                         dropped := (s.reader n r).dropped - 1 } ∧
      OtherAvenues n s t ∧ Frame [AV_TAGCNT_INVAL n] [.regs, .av] s t) ∧
  (∀ (s : State) (n : Fin 4) (r : Fin 2) (errs decs lms : List Int), s.tagNow n r = .valid → s.reading n = true →
    s.get (AV_SKCTL_TRK n) = 1 → s.get (AV_DETCTL_ADAPT n) = 0 →
    ((s.reader n r).acc + timingError errs decs).natAbs < 2 ^ s.get (AV_SKCTL_TKG n) →
    ∃ t, exec (.sampleBlock n r errs decs lms) s = .next t ∧
      (t.reader n r).acc = (s.reader n r).acc + timingError errs decs ∧ (t.reader n r).skew = (s.reader n r).skew ∧
      OtherAvenues n s t ∧ Untouched [.av] s t) ∧
  (∀ (s : State) (n : Fin 4) (r : Fin 2), s.get (AV_AFECAL_EN n) = 1 → (s.seq n).slotRun = none →
    ∃ t, exec (.afeCalStep n r false) s = .next t ∧ (t.reader n r).calNext = ((s.reader n r).calNext + 1) % 24 ∧
      (t.reader n r).setl = max (s.reader n r).setl 1 ∧
      (KMap.get (fun _ => 0) (t.reader n r).trims (s.reader n r).calNext
        - KMap.get (fun _ => 0) (s.reader n r).trims (s.reader n r).calNext).natAbs = 1 ∧
      (∀ k, k ≠ (s.reader n r).calNext →
        KMap.get (fun _ => 0) (t.reader n r).trims k = KMap.get (fun _ => 0) (s.reader n r).trims k) ∧
      OtherAvenues n s t ∧ Untouched [.av, .freeCtr] s t) ∧
  (∀ (s : State) (n : Fin 4) (r : Fin 2), s.get (AV_AFECAL_EN n) = 1 → (s.seq n).slotRun = none →
    ∃ t, exec (.afeCalStep n r true) s = .next t ∧ (t.reader n r).trims = (s.reader n r).trims ∧
      Raised1 (428 + 96 * n.val + 39) 0 s t ∧ Untouched [.av, .freeCtr, .flt] s t) ∧
  (∀ (s : State) (n : Fin 4), s.mediaBusy n = false → codeBroken (s.codeMem n) = 0 →
    ∃ t, exec (.codeTableLoad n) s = .next t ∧ t.get (AV_CODECTL_OK n) = 1 ∧ t.get (AV_CODECTL_ERR n) = 0 ∧
      t.get (AV_CODECTL_CODEID n) = (s.rd (AV_CODEMEM n 0)).toNat % 2 ^ 16 ∧
      t.avn n = { s.avn n with code := codeTable (s.codeMem n) } ∧ OtherAvenues n s t ∧
      Frame [AV_CODECTL_OK n, AV_CODECTL_ERR n, AV_CODECTL_CODEID n] [.regs, .av] s t) ∧
  (∀ (s : State) (n : Fin 4), s.mediaBusy n = false → codeBroken (s.codeMem n) ≠ 0 →
    ∃ t, exec (.codeTableLoad n) s = .next t ∧ t.get (AV_CODECTL_OK n) = 0 ∧
      t.get (AV_CODECTL_ERR n) = codeBroken (s.codeMem n) ∧ (t.avn n).code = [] ∧
      Raised1 (428 + 96 * n.val + 55) 0 s t ∧ Frame [AV_CODECTL_OK n, AV_CODECTL_ERR n] [.regs, .av, .flt] s t) ∧
  (∀ s : State, s.rdec.busy = false → codeBroken s.rdCodeMem = 0 → s.codeAgrees (codeTable s.rdCodeMem) = true →
    ∃ t, exec .retryCodeTableLoad s = .next t ∧ t.get AV0_RDECCTL_OK = 1 ∧ t.get AV0_RDECCTL_ERR = 0 ∧
      t.rdec = { s.rdec with code := codeTable s.rdCodeMem } ∧ Frame [AV0_RDECCTL_OK, AV0_RDECCTL_ERR] [.regs, .rdec] s t)

/-- Wedges (R192 to R196, R200, R209). In FOLLOW with the lane in COAST, a found wedge with the expected number, the target's
cylinder within 1 and the expected cycle count gives the position and its error and returns the lane to TRACK; a wedge without
a mark is counted, raised and clears the runs. In SETTLE, with no slot in progress and no head tracking, an embedded wedge
gives the data-head error; one of another face or cylinder raises source 14 and gives none. -/
def Obligations.ServoWedges : Prop :=
  (∀ (s : State) (n : Fin 4) (w : WedgeInput), s.get (SVO_STAT_STATE n) = 5 → s.get (AV_TLSTAT_STATE n) = 4 →
    (takeMark (s.get (SVO_SAMWIN_WTRK n)) w.marks).isSome = true → gray w.number = (s.svo.get n).nextWedge → w.alt = none →
    ((gray w.cyl : Int) - s.target n).natAbs ≤ 1 → 0 < w.burstA + w.burstB → 0 < w.burstC + w.burstD →
    w.count = syncCycle (s.zoneNow n (s.avn n).lane.zone).cpr16 (gray w.number) →
    let f := (s.finePosition n w.burstA w.burstB w.burstC w.burstD).1
    ∃ t, exec (.timingWedgeEnd n w) s = .next t ∧ t.get (SVO_POS_POS n) = unsigned 32 (256 * (gray w.cyl : Int) + f) ∧
      t.get (SVO_PES_ET n) = unsigned 16 (satInt 16 (256 * (gray w.cyl : Int) + f - s.reference n)) ∧
      t.get (AV_TLSTAT_STATE n) = 3 ∧ (t.svo.get n).nextWedge = (gray w.number + 1) % 840 ∧ (t.svo.get n).missRun = 0 ∧
      OtherServos n s t ∧ OtherAvenues n s t ∧ Untouched [.regs, .av, .svo, .spn, .flt, .freeCtr] s t) ∧
  (∀ (s : State) (n : Fin 4) (w : WedgeInput), s.get (SVO_STAT_STATE n) = 5 → w.marks = [] →
    (s.svo.get n).missRun + 1 < s.get (SVO_CTL_MISSLIM n) →
    ∃ t, exec (.timingWedgeEnd n w) s = .next t ∧ t.get (SVO_CNT0_MISSES n) = min 0xFFFF (s.get (SVO_CNT0_MISSES n) + 1) ∧
      (t.svo.get n).missRun = (s.svo.get n).missRun + 1 ∧ (t.svo.get n).settleRun = 0 ∧ (t.svo.get n).writeRun = 0 ∧
      (t.svo.get n).nextWedge = ((s.svo.get n).nextWedge + 1) % 840 ∧ t.get (SVO_STAT_STATE n) = 5 ∧
      ⟨812 + 32 * n.val, s.time, 0, false⟩ ∈ t.flt.inbox ∧ OtherServos n s t ∧ OtherAvenues n s t ∧
      Untouched [.regs, .av, .svo, .spn, .flt, .freeCtr] s t) ∧
  (∀ (s : State) (n : Fin 4) (w : EmbeddedInput), s.get (SVO_STAT_STATE n) = 4 → (s.seq n).slotRun = none →
    s.get (SVO_HOFSCTL_TRK n) = 0 → w.found = true → w.face.toNat = (s.svo.get n).face % 8 →
    gray w.cyl = s.target n % 256 → 0 < w.burstA + w.burstB → 0 < w.burstC + w.burstD →
    let ed := (s.finePosition n w.burstA w.burstB w.burstC w.burstD).1 - (s.svo.get n).ofs
    ∃ t, exec (.embeddedWedge n w) s = .next t ∧ t.get (SVO_PES_ED n) = unsigned 16 (satInt 16 ed) ∧
      (t.svo.get n).ed = ed ∧ (t.svo.get n).head = (s.svo.get n).head ∧
      (t.svo.get n).writeRun = (if ed.natAbs ≤ s.get (SVO_THR_WRTHR n) then (s.svo.get n).writeRun + 1 else 0) ∧
      OtherServos n s t ∧ OtherAvenues n s t ∧ Untouched [.regs, .av, .svo, .flt] s t) ∧
  (∀ (s : State) (n : Fin 4) (w : EmbeddedInput), (s.seq n).slotRun = none → w.found = true →
    w.face.toNat ≠ (s.svo.get n).face % 8 →
    ∃ t, exec (.embeddedWedge n w) s = .next t ∧ (t.svo.get n).writeRun = 0 ∧ t.get (SVO_PES_ED n) = s.get (SVO_PES_ED n) ∧
      ⟨812 + 32 * n.val + 14, s.time, 0, false⟩ ∈ t.flt.inbox ∧ OtherServos n s t ∧ OtherAvenues n s t ∧
      Untouched [.regs, .av, .svo, .flt] s t)

/-- The on-the-fly decoder and the retry decoders (R117, R120 to R122, R124 to R126, R172). A good sector of a host read is
delivered and its outcome queued; one that does not converge starts a ladder at L1, pinned while a pin is free; a full
decoder ends the oldest codeword with an overrun. The L1 job of a running step is queued where the queue admits it, with
none of its class held; a free decoder takes the job that R122 names; a job whose ladder has ended has no further effect, and
one that recovers its sector ends the ladder. -/
def Obligations.DecodersAndRetryJobs : Prop :=
  (∀ (s : State) (n : Fin 4) (d : Decoded) (sec : SectorRead), (s.avn n).decoding = [sec] → sec.ctx.reread = none →
    sec.verify = false → sec.ctx.host = true → sectorOutcome sec.addr sec.ctx d = .good →
    ∃ t, exec (.onTheFlyDecodeEnd n d) s = .next t ∧ (t.avn n).decoding = [] ∧
      (t.avn n).delivered = (s.avn n).delivered ++ [(sec.ctx.handle, sec.addr.slot, sectorBlock sec.addr d)] ∧
      (t.avn n).seq.outcomes = (s.avn n).seq.outcomes ++ [⟨.good, sec.laneLost, sec.addr.slot⟩] ∧
      (t.avn n).ladders = (s.avn n).ladders ∧ OtherAvenues n s t ∧ Untouched [.av] s t) ∧
  (∀ (s : State) (n : Fin 4) (d : Decoded) (sec : SectorRead), (s.avn n).decoding = [sec] → sec.ctx.reread = none →
    d.converged = false → 1 ≤ s.ceiling n sec.ctx → s.get (AV_STORESTAT_PINNED n) < s.get (AV_LADLIM_PINMAX n) →
    ∃ t, exec (.onTheFlyDecodeEnd n d) s = .next t ∧ (t.avn n).decoding = [] ∧
      t.get (AV_LADCNT0_OTFFAIL n) = min (2 ^ (AV_LADCNT0_OTFFAIL n).wid - 1) (s.get (AV_LADCNT0_OTFFAIL n) + 1) ∧
      t.get (AV_STORESTAT_PINNED n) = s.get (AV_STORESTAT_PINNED n) + 1 ∧
      (∃ l ∈ (t.avn n).ladders, l.id = (s.avn n).nextLadder ∧ l.sec = sec ∧ l.level = 1 ∧ l.step = 0 ∧ l.pinned = true ∧
        l.phase = .waiting) ∧
      (t.avn n).delivered = (s.avn n).delivered ∧ Raised1 (428 + 96 * n.val + 48) 0 s t ∧ OtherAvenues n s t ∧
      Frame [AV_LADCNT0_OTFFAIL n, AV_STORESTAT_PINNED n] [.regs, .av, .flt] s t) ∧
  (∀ (s : State) (n : Fin 4) (a b : SectorRead), (s.avn n).decoding = [a, b] → b.decode = true → a.ctx.reread = none →
    ∃ t, exec (.decodeOverrun n) s = .next t ∧ (t.avn n).decoding = [b] ∧
      t.get (AV_DECCNT_OVERRUN n) = min (2 ^ (AV_DECCNT_OVERRUN n).wid - 1) (s.get (AV_DECCNT_OVERRUN n) + 1) ∧
      (∃ o ∈ (t.avn n).seq.outcomes, o = ⟨.overrun, a.laneLost, a.addr.slot⟩) ∧
      ⟨428 + 96 * n.val + 56, s.time, 0, false⟩ ∈ t.flt.inbox ∧ OtherAvenues n s t ∧
      Untouched [.regs, .av, .flt, .rdec] s t) ∧
  (∀ (s : State) (n : Fin 4) (l : Ladder), s.ladder n l.id = some l → l.level = 1 → l.phase = .running →
    s.get AV0_RDECCTL_OK = 1 → s.rdec.held = [] → s.rdec.queue.length < 64 →
    (l.sec.ctx.cls = 2 → (s.rdec.queue.filter (fun j => j.cls == 2)).length < 4) →
    ∃ t, exec (.retryJobSubmit n l.id) s = .next t ∧
      t.rdec = { s.rdec with queue := s.rdec.queue ++ [⟨n, l.id, l.sec.ctx.cls⟩] } ∧
      (t.avn n).ladders = (s.avn n).ladders.map (fun k => if k.id = l.id then { l with phase := .queued } else k) ∧
      OtherAvenues n s t ∧ Untouched [.av, .rdec] s t) ∧
  (∀ (s : State) (j : RetryJob), s.rdec.run0 = none → nextJob s.rdec.queue = some j → s.rdec.held = [] →
    exec (.retryJobStart 0) s = .next { s with rdec := { s.rdec with queue := s.rdec.queue.erase j, run0 := some j } }) ∧
  (∀ (s : State) (j : RetryJob) (res : Decoded), s.rdec.run1 = some j → s.ladder j.av j.lad = none →
    exec (.retryJobEnd 1 res) s = .next { s with rdec := { s.rdec with run1 := none } }) ∧
  (∀ (s : State) (j : RetryJob) (l : Ladder) (res : Decoded), s.rdec.run0 = some j → s.ladder j.av j.lad = some l →
    l.level = 1 → l.sec.verify = false → l.sec.ctx.host = true → sectorOutcome l.sec.addr l.sec.ctx res = .good →
    ∃ t, exec (.retryJobEnd 0 res) s = .next t ∧ t.rdec.run0 = none ∧ t.ladder j.av j.lad = none ∧
      (l.sec.ctx.handle, l.sec.addr.slot, sectorBlock l.sec.addr res) ∈ (t.avn j.av).delivered ∧
      t.get (AV_LADCNT0_TRANS j.av) = min (2 ^ (AV_LADCNT0_TRANS j.av).wid - 1) (s.get (AV_LADCNT0_TRANS j.av) + 1) ∧
      Raised1 (428 + 96 * j.av.val + 49) 0 s t ∧ OtherAvenues j.av s t ∧ Untouched [.regs, .av, .rdec, .flt] s t)

/-- The retry ladder's steps (R126, R128, R130, R132, R133, R136 to R139). A waiting ladder with a next step and time for it
runs that step; a running re-read that is displaced waits again; reconstruction that delivers recovers the sector, which is
then lasting and to be relocated; relocation takes the first spare that reads back, and with none marks the sector weak. -/
def Obligations.RetryLadderSteps : Prop :=
  (∀ (s : State) (n : Fin 4) (l : Ladder) (v k : Nat), s.ladder n l.id = some l → l.phase = .waiting → l.aborted = false →
    s.nextStep n l l.level l.step = some (v, k) → l.sec.ctx.deadline = 0 →
    ∃ t, exec (.ladderStepStart n l.id) s = .next t ∧
      (t.avn n).ladders = (s.avn n).ladders.map (fun x => if x.id = l.id then { l with level := v, step := k, phase := .running }
        else x) ∧ OtherAvenues n s t ∧ Untouched [.av] s t) ∧
  (∀ (s : State) (n : Fin 4) (l : Ladder), s.ladder n l.id = some l → l.phase = .running → 2 ≤ l.level → l.level ≤ 5 →
    ∃ t, exec (.rereadDisplace n l.id) s = .next t ∧
      (t.avn n).ladders = (s.avn n).ladders.map (fun x => if x.id = l.id then { l with phase := .waiting } else x) ∧
      OtherAvenues n s t ∧ Untouched [.av] s t) ∧
  (∀ (s : State) (n : Fin 4) (l : Ladder), s.ladder n l.id = some l → l.level = 6 → l.phase = .running → l.pinned = false →
    l.sec.ctx.host = true →
    ∃ t, exec (.l6StepEnd n l.id true) s = .next t ∧ t.ladder n l.id = none ∧ l.sec.addr ∈ (t.avn n).relocate ∧
      t.get (AV_LADCNT1_LASTING n) = min (2 ^ (AV_LADCNT1_LASTING n).wid - 1) (s.get (AV_LADCNT1_LASTING n) + 1) ∧
      Raised1 (428 + 96 * n.val + 50) 0 s t ∧ OtherAvenues n s t ∧
      Frame [AV_LADCNT1_LASTING n] [.regs, .av, .rdec, .flt] s t) ∧
  (∀ (s : State) (n : Fin 4) (sec spare : SectorAddr) (bad : List (SectorAddr × Bool)) (rest : List (SectorAddr × Bool)),
    sec ∈ (s.avn n).relocate → (∀ p ∈ bad, p.2 = false) →
    ∃ t, exec (.relocateSector n sec (bad ++ (spare, true) :: rest)) s = .next t ∧
      t.avn n = { s.avn n with relocate := (s.avn n).relocate.erase sec, pendingList := (s.avn n).pendingList.erase sec,
                               mapping := (s.avn n).mapping ++ [(sec, spare)], grown := (s.avn n).grown ++ [(sec, false)] } ∧
      OtherAvenues n s t ∧ Untouched [.av] s t) ∧
  (∀ (s : State) (n : Fin 4) (sec : SectorAddr) (bad : List (SectorAddr × Bool)), sec ∈ (s.avn n).pendingList →
    (∀ p ∈ bad, p.2 = false) →
    ∃ t, exec (.relocateSector n sec bad) s = .next t ∧ (t.avn n).grown = (s.avn n).grown ++ [(sec, true)] ∧
      (t.avn n).mapping = (s.avn n).mapping ∧ Raised1 (428 + 96 * n.val + 57) 0 s t ∧ OtherAvenues n s t ∧
      Untouched [.av, .flt] s t)

/-- The write inhibit causes (R150 to R152, R211). With no write in progress each cause drops write gate: a shock input that
rises with its enable set and no cause 0 present raises source 65 of the Avenue, a preamp fault input source 67 once, and
SWINH is set. The hold after a shock begins at the fall of an enabled input and ends with its period. With a write in progress
a preamp fault ends the operation with status 5, is counted and raises source 64 as well. -/
def Obligations.WriteInhibits : Prop :=
  (∀ (s : State) (n : Fin 4), s.shock0 = false → (∀ m, s.writing m = false) → s.get (AV_WINHCTL_SHM0 n) = 1 →
    s.cause0 n = false →
    ∃ t, exec (.shockRise 0) s = .next t ∧ t.shock0 = true ∧ t.shock1 = s.shock1 ∧ (t.avn n).wg = false ∧
      ⟨428 + 96 * n.val + 65, s.time, 0, false⟩ ∈ t.flt.inbox ∧ t.regs = s.regs ∧ Untouched [.shock, .av, .flt] s t) ∧
  (∀ s : State, s.shock1 = true → ∃ t, exec (.shockFall 1) s = .next t ∧ t.shock1 = false ∧ t.shock0 = s.shock0 ∧
    (∀ n, (t.avn n).shockHold = ((s.avn n).shockHold || decide (s.get (AV_WINHCTL_SHM1 n) = 1))) ∧
    (∀ n, (t.svo.get n).shockSet = ((s.svo.get n).shockSet || decide (s.get (SVO_SHK_SHM1 n) = 1))) ∧
    Untouched [.shock, .av, .svo] s t) ∧
  (∀ (s : State) (n : Fin 4), ∃ t, exec (.shockHoldExpiry n) s = .next t ∧
    t.avn n = { s.avn n with shockHold := false } ∧ OtherAvenues n s t ∧ Untouched [.av] s t) ∧
  (∀ (s : State) (n : Fin 4), ∃ t, exec (.shockSetHoldExpiry n) s = .next t ∧
    t.svo.get n = { s.svo.get n with shockSet := false } ∧ OtherServos n s t ∧ Untouched [.svo] s t) ∧
  (∀ (s : State) (n : Fin 4), (s.avn n).pflt = false → s.writing n = false →
    ∃ t, exec (.preampFaultInput n) s = .next t ∧ (t.avn n).pflt = true ∧ (t.avn n).wg = false ∧
      Raised1 (428 + 96 * n.val + 67) 0 s t ∧ OtherAvenues n s t ∧ Untouched [.av, .flt] s t) ∧
  (∀ (s : State) (n : Fin 4), (s.avn n).pflt = false → s.writing n = true → s.get (AV_WFSTAT_VALID n) = 0 →
    ∃ t, exec (.preampFaultInput n) s = .next t ∧ (t.avn n).pflt = true ∧ (t.avn n).wg = false ∧
      ((t.seq n).op.map MediaOp.ended) = some 5 ∧ (t.seq n).arms = [] ∧ (t.seq n).slotRun = none ∧
      t.get (AV_WFSTAT_VALID n) = 1 ∧ t.get (AV_WFSTAT_FIRST n) = 2 ∧
      t.get (AV_WFCNT_FAULTS n) = min (2 ^ (AV_WFCNT_FAULTS n).wid - 1) (s.get (AV_WFCNT_FAULTS n) + 1) ∧
      t.flt.inbox = s.flt.inbox ++ [⟨428 + 96 * n.val + 67, s.time, 0, false⟩, ⟨428 + 96 * n.val + 64, s.time, 0, false⟩] ∧
      OtherAvenues n s t ∧ Untouched [.regs, .av, .flt] s t) ∧
  (∀ (s : State) (n : Fin 4), s.get (AV_WINHCTL_SWINH n) = 0 → s.writing n = false →
    ∃ t, exec (.softwareWriteInhibit n) s = .next t ∧ t.get (AV_WINHCTL_SWINH n) = 1 ∧ (t.avn n).wg = false ∧
      OtherAvenues n s t ∧ Frame [AV_WINHCTL_SWINH n] [.regs, .av] s t) ∧
  (∀ (s : State) (n : Fin 4), ∃ t, exec (.preampFaultClear n) s = .next t ∧ t.avn n = { s.avn n with pflt := false } ∧
    OtherAvenues n s t ∧ Untouched [.av] s t)

/-- The Kazq link and preamp discovery (R149, R155 to R158, R160 to R162). A command with the link idle makes it BUSY with the
frame queued or in progress; a preamp register's frame is refused with RESULT 3 while an operation is open; an acknowledged
frame of firmware ends BUSY with RESULT 0, a read giving DATA and a write its shadow; a missing acknowledge is repeated up to
KRETRY. A preamp that does not acknowledge is absent: source 69, and its Avenue is disabled; one accepted with the recorded
serial gives HMAP and TMG. -/
def Obligations.KazqLinkAndDiscovery : Prop :=
  (∀ (s : State) (n : Fin 4) (rd : Bool) (addr : Fin 128) (data : BitVec 16), s.get (AV_KZSTAT_BUSY n) = 0 →
    ((s.seq n).op = none ∨ 3 < addr.val) →
    ∃ t, exec (.kazqCommand n rd addr data) s = .next t ∧ t.get (AV_KZSTAT_BUSY n) = 1 ∧
      t.get (AV_KZCMD_ADDR n) = addr.val ∧ t.get (AV_KZCMD_DATA n) = data.toNat ∧
      (let k := (t.avn n).kazq; (k.cur.map Prod.fst) = some ⟨rd, addr.val, data.toNat, false⟩ ∨
        ⟨rd, addr.val, data.toNat, false⟩ ∈ k.fwQ) ∧ OtherAvenues n s t ∧
      Frame [AV_KZSTAT_BUSY n, AV_KZCMD_RD n, AV_KZCMD_ADDR n, AV_KZCMD_DATA n] [.regs, .av] s t) ∧
  (∀ (s : State) (n : Fin 4) (rd : Bool) (addr : Fin 128) (data : BitVec 16), s.get (AV_KZSTAT_BUSY n) = 0 →
    (s.seq n).op.isSome = true → addr.val ≤ 3 →
    ∃ t, exec (.kazqCommand n rd addr data) s = .next t ∧ t.get (AV_KZSTAT_RESULT n) = 3 ∧ t.get (AV_KZSTAT_BUSY n) = 0 ∧
      Frame [AV_KZSTAT_RESULT n, AV_KZCMD_RD n, AV_KZCMD_ADDR n, AV_KZCMD_DATA n] [.regs] s t) ∧
  (∀ (s : State) (n : Fin 4) (a tries : Nat) (r : KazqReply), (s.avn n).kazq.cur = some (⟨true, a, 0, false⟩, tries) →
    (s.avn n).kazq.seqQ = [] → (s.avn n).kazq.fwQ = [] → r.crcOk = true → r.data < 65536 →
    ∃ t, exec (.kazqFrameEnd n r) s = .next t ∧ t.get (AV_KZSTAT_BUSY n) = 0 ∧ t.get (AV_KZSTAT_RESULT n) = 0 ∧
      t.get (AV_KZSTAT_DATA n) = r.data ∧ (t.avn n).kazq.cur = none ∧ OtherAvenues n s t ∧
      Frame [AV_KZSTAT_BUSY n, AV_KZSTAT_RESULT n, AV_KZSTAT_DATA n] [.regs, .av] s t) ∧
  (∀ (s : State) (n : Fin 4) (v tries : Nat) (r : KazqReply), (s.avn n).kazq.cur = some (⟨false, 1, v, false⟩, tries) →
    (s.avn n).kazq.seqQ = [] → (s.avn n).kazq.fwQ = [] → r.ack = true →
    ∃ t, exec (.kazqFrameEnd n r) s = .next t ∧ t.get (AV_KZSTAT_BUSY n) = 0 ∧ t.get (AV_KZSTAT_RESULT n) = 0 ∧
      (t.avn n).kazq = { (s.avn n).kazq with cur := none, wcur := some v } ∧ OtherAvenues n s t ∧
      Frame [AV_KZSTAT_BUSY n, AV_KZSTAT_RESULT n] [.regs, .av] s t) ∧
  (∀ (s : State) (n : Fin 4) (f : KazqFrame) (tries : Nat) (r : KazqReply), (s.avn n).kazq.cur = some (f, tries) →
    (if f.read then r.crcOk else r.ack) = false → tries < s.get (AV_WRCTL_KRETRY n) →
    ∃ t, exec (.kazqFrameEnd n r) s = .next t ∧ (t.avn n).kazq = { (s.avn n).kazq with cur := some (f, tries + 1) } ∧
      OtherAvenues n s t ∧ Untouched [.av] s t) ∧
  (∀ (s : State) (n : Fin 4), ∃ t, exec (.heaterSettleExpiry n) s = .next t ∧
    (t.avn n).kazq = { (s.avn n).kazq with heating := false } ∧ OtherAvenues n s t ∧ Untouched [.av] s t) ∧
  (∀ (s : State) (n : Fin 4) (p : PreampFind), p.ack = false →
    ∃ t, exec (.preampDiscovery n p) s = .next t ∧ t.get (AV_PASTAT_OUT n) = 2 ∧
      ⟨428 + 96 * n.val + 69, s.time, 0, false⟩ ∈ t.flt.inbox ∧ t.get (AV_TLSTAT_STATE n) = 0) ∧
  (∀ (s : State) (n : Fin 4) (d : List Byte) (e : PreampEntry) (cal : Bool), identOk d = true →
    preampMatch s.preampTable d = some e → s.get (AV_FMTCTL_NDATA n) ≤ identField d 5 1 / 16 → identField d 12 2 = 1 →
    (s.avn n).serialRec = some (identField d 8 4) → e.hmap < 2 ^ (AV_HMAP_H n).wid →
    ∃ t, exec (.preampDiscovery n ⟨true, [d], cal⟩) s = .next t ∧ t.get (AV_PASTAT_OUT n) = 1 ∧ t.get (AV_PASTAT_REPL n) = 0 ∧
      t.get (AV_HMAP_H n) = e.hmap ∧ t.get (AV_HMAP_TMG n) = identField d 5 1 % 16 ∧ Untouched [.regs] s t)

/-- Microwords (R165, R168, R173, R177, R178, R180, R181). With the store clean, a microword's actions are those of its
nanoword and the next address is ALT or NEXT by the condition after them; a call allocates the next window, clears r1 to r11,
passes r12 to r14 and leaves NEXT in r15; a return passes r12 to r14 back and goes to r15; a return from the trap window restores
what the trap saved; a wait goes on at NEXT at once where its condition holds and waits otherwise; a resume goes to NEXT and an
expired limit to ALT. An uncorrectable word is trap cause 2, and a full or empty window file trap cause 0 or 1, the nanoword
not having acted. -/
def Obligations.MicroFlow : Prop :=
  (∀ (s : State) (n : Fin 4) (bits : Nat), (s.seqState n = 1 ∨ s.seqState n = 3) →
    let m := s.micro n (s.upc n)
    let x := s.nano n m
    let t0 := nanoAct n x bits s
    let alt := if x.acalc then (s.reg n x.rb).toNat % 4096 else m.alt
    let nx := if t0.cond n m.cond then alt else m.next
    let cur := (t0.seq n).window
    let w := t0.depth n % 6
    let caller := if t0.depth n = 1 then 6 else (t0.depth n - 2) % 6
    let run : Nat := if cur = 7 then 3 else 1
    t0.seqState n ≠ 5 → x.trp ≠ 2 →
    (m.mode = 0 → x.trp ≠ 1 → ∃ t, exec (.microBranch n .clean bits) s = .next t ∧ t.upc n = nx ∧ t.seqState n = run ∧
      Frame [AV_SEQSTAT_PC n, AV_SEQSTAT_STATE n] [.regs] t0 t) ∧
    (m.mode = 0 → x.trp = 1 → cur ≠ 7 → ∃ t, exec (.microBranch n .clean bits) s = .next t ∧
      t.upc n = (t0.get (AV_SEQTRAP_BASE n) + 12) % 4096 ∧ t.get (AV_SEQTRAP_TRAPPC n) = nx ∧ t.get (AV_SEQTRAP_CAUSE n) = 3 ∧
      (t.seq n).window = 7 ∧ (t.seq n).saved = ⟨cur, (t0.seq n).zero, (t0.seq n).neg, (t0.seq n).flag⟩) ∧
    (m.mode = 1 → t0.cond n m.cond = true → cur ≠ 7 → t0.resident n < 6 → t0.depth n < 38 →
      ∃ t, exec (.microCall n .clean bits) s = .next t ∧ t.upc n = alt ∧ t.depth n = t0.depth n + 1 ∧
        t.resident n = t0.resident n + 1 ∧ (t.seq n).window = w ∧ t.rd (AV_WINFILE n w 15) = BitVec.ofNat 32 m.next ∧
        (∀ i, 1 ≤ i → i ≤ 11 → t.rd (AV_WINFILE n w i) = 0) ∧
        (∀ i, 12 ≤ i → i ≤ 14 → t.rd (AV_WINFILE n w i) = t0.rd (AV_WINFILE n cur i)) ∧ OtherAvenues n t0 t ∧
        Frame ([AV_SEQSTAT_PC n, AV_SEQSTAT_STATE n, AV_SEQSTAT_DEPTH n, AV_SEQSTAT_RES n] ++ windowFlds n w) [.regs, .av] t0 t) ∧
    (m.mode = 1 → t0.cond n m.cond = true → cur ≠ 7 → t0.resident n = 6 → (s.seq n).window ≠ 7 →
      ∃ t, exec (.microCall n .clean bits) s = .next t ∧ t.upc n = s.get (AV_SEQTRAP_BASE n) ∧
        t.get (AV_SEQTRAP_TRAPPC n) = s.upc n ∧ t.get (AV_SEQTRAP_CAUSE n) = 0 ∧ (t.seq n).window = 7 ∧
        Frame [AV_SEQSTAT_PC n, AV_SEQSTAT_STATE n, AV_SEQTRAP_TRAPPC n, AV_SEQTRAP_CAUSE n, AV_SEQCNT_OVF n] [.regs, .av] s t) ∧
    (m.mode = 2 → t0.cond n m.cond = true → cur ≠ 7 → 1 ≤ t0.depth n → 1 ≤ t0.resident n →
      (2 ≤ t0.depth n → 2 ≤ t0.resident n) →
      ∃ t, exec (.microReturn n .clean bits) s = .next t ∧ t.upc n = (t0.winReg n cur 15).toNat % 4096 ∧
        t.depth n = t0.depth n - 1 ∧ t.resident n = t0.resident n - 1 ∧ (t.seq n).window = caller ∧
        (∀ i, 12 ≤ i → i ≤ 14 → t.rd (AV_WINFILE n caller i) = t0.rd (AV_WINFILE n cur i)) ∧ OtherAvenues n t0 t ∧
        Frame ([AV_SEQSTAT_PC n, AV_SEQSTAT_STATE n, AV_SEQSTAT_DEPTH n, AV_SEQSTAT_RES n] ++ windowFlds n caller)
          [.regs, .av] t0 t) ∧
    (m.mode = 2 → t0.cond n m.cond = true → cur = 7 → ∃ t, exec (.microReturn n .clean bits) s = .next t ∧
      t.upc n = t0.get (AV_SEQTRAP_TRAPPC n) ∧ (t.seq n).window = (t0.seq n).saved.window ∧
      (t.seq n).zero = (t0.seq n).saved.zero ∧ (t.seq n).neg = (t0.seq n).saved.neg ∧
      (t.seq n).flag = (t0.seq n).saved.flag ∧ OtherAvenues n t0 t ∧
      Frame [AV_SEQSTAT_PC n, AV_SEQSTAT_STATE n] [.regs, .av] t0 t) ∧
    (m.mode = 3 → t0.cond n m.cond = true → ∃ t, exec (.microWait n .clean bits) s = .next t ∧ t.upc n = m.next ∧
      t.seqState n = run ∧ Frame [AV_SEQSTAT_PC n, AV_SEQSTAT_STATE n] [.regs] t0 t) ∧
    (m.mode = 3 → t0.cond n m.cond = false → ∃ t, exec (.microWait n .clean bits) s = .next t ∧
      (t.seqState n = 2 ∨ t.seqState n = 4) ∧ t.avn n = { t0.avn n with seq := { t0.seq n with waitAlt := alt } } ∧
      OtherAvenues n t0 t ∧ Frame [AV_SEQSTAT_STATE n] [.regs, .av] t0 t)) ∧
  (∀ (s : State) (n : Fin 4) (bits : Nat), (s.seqState n = 1 ∨ s.seqState n = 3) → (s.micro n (s.upc n)).mode = 0 →
    (s.seq n).window ≠ 7 →
    ∃ t, exec (.microBranch n .uncorrectable bits) s = .next t ∧ t.upc n = (s.get (AV_SEQTRAP_BASE n) + 8) % 4096 ∧
      t.get (AV_SEQTRAP_TRAPPC n) = s.upc n ∧ t.get (AV_SEQTRAP_CAUSE n) = 2 ∧ (t.seq n).window = 7 ∧
      Raised1 (428 + 96 * n.val + 81) 0 s t ∧ OtherAvenues n s t ∧
      Frame [AV_SEQSTAT_PC n, AV_SEQSTAT_STATE n, AV_SEQTRAP_TRAPPC n, AV_SEQTRAP_CAUSE n] [.regs, .av, .flt] s t) ∧
  (∀ (s : State) (n : Fin 4), (s.seqState n = 2 ∨ s.seqState n = 4) → s.cond n (s.micro n (s.upc n)).cond = true →
    ∃ t, exec (.seqWaitResume n) s = .next t ∧ t.upc n = (s.micro n (s.upc n)).next ∧
      t.seqState n = (if (s.seq n).window = 7 then 3 else 1) ∧ Frame [AV_SEQSTAT_PC n, AV_SEQSTAT_STATE n] [.regs] s t) ∧
  (∀ (s : State) (n : Fin 4), (s.seqState n = 2 ∨ s.seqState n = 4) → s.cond n (s.micro n (s.upc n)).cond = false →
    (s.nano n (s.micro n (s.upc n))).wlim ≠ 0 →
    ∃ t, exec (.seqWaitLimitExpiry n) s = .next t ∧ t.upc n = (s.seq n).waitAlt % 4096 ∧
      t.seqState n = (if (s.seq n).window = 7 then 3 else 1) ∧ Frame [AV_SEQSTAT_PC n, AV_SEQSTAT_STATE n] [.regs] s t)

/-- ALU actions (R168, R169). The result sets ZERO and NEG and goes to RD of the current window, except for CMP, which writes
no register; r0 and r15 are not written; shifts take the amount modulo 32. -/
def Obligations.AluActions : Prop :=
  ∀ (s : State) (n : Fin 4) (x : AluArgs),
    let a := s.reg n x.ra
    let b := if x.useImm then x.imm else s.reg n x.rb
    (∃ t, exec (.aluAdd n x) s = .next t ∧ AluLeaves n (a + b) (some x.rd) s t) ∧
    (∃ t, exec (.aluSub n x) s = .next t ∧ AluLeaves n (a - b) (some x.rd) s t) ∧
    (∃ t, exec (.aluAnd n x) s = .next t ∧ AluLeaves n (a &&& b) (some x.rd) s t) ∧
    (∃ t, exec (.aluOr n x) s = .next t ∧ AluLeaves n (a ||| b) (some x.rd) s t) ∧
    (∃ t, exec (.aluXor n x) s = .next t ∧ AluLeaves n (a ^^^ b) (some x.rd) s t) ∧
    (∃ t, exec (.aluShl n x) s = .next t ∧ AluLeaves n (a <<< (b.toNat % 32)) (some x.rd) s t) ∧
    (∃ t, exec (.aluShr n x) s = .next t ∧ AluLeaves n (a >>> (b.toNat % 32)) (some x.rd) s t) ∧
    (∃ t, exec (.aluMov n x) s = .next t ∧ AluLeaves n b (some x.rd) s t) ∧
    (∃ t, exec (.aluCmp n x) s = .next t ∧ AluLeaves n (a - b) none s t)

/-- Ports, the flag F and the command rings (R166, R171, R172, R184, R185, R384, R385). A port read goes to RD of the current
window; OUTCOME reads the oldest outcome and drops it, or all ones when the queue is empty; SVOCYL and SVOOFS are written; a
fetch takes the presented entry and leaves the urgent class first; a completion is posted with its tag, and the entry leaves
the reorder window; an entry joins its ring while the window of 512, 496 of them for the other classes, has room. -/
def Obligations.PortsAndRings : Prop :=
  (∀ (s : State) (n : Fin 4) (k : Fin 16) (rd ra : Fin 16), rd.val ≠ 0 → rd.val ≠ 15 →
    ∃ t, exec (.portRead n ⟨k.val, by omega⟩ rd ra) s = .next t ∧
      t.rd (AV_WINFILE n (s.seq n).window rd.val) = (s.seq n).entry.words.getD k.val 0 ∧
      WordsBut [AV_WINFILE n (s.seq n).window rd.val] s t ∧ Untouched [.regs] s t) ∧
  (∀ (s : State) (n : Fin 4) (rd ra : Fin 16), rd.val ≠ 0 → rd.val ≠ 15 →
    ∃ t, exec (.portRead n 0x20 rd ra) s = .next t ∧
      t.rd (AV_WINFILE n (s.seq n).window rd.val) = s.rd (AV_OMENTRY n ((s.reg n ra).toNat % 64)) ∧
      WordsBut [AV_WINFILE n (s.seq n).window rd.val] s t ∧ Untouched [.regs] s t) ∧
  (∀ (s : State) (n : Fin 4) (rd ra : Fin 16), rd.val ≠ 0 → rd.val ≠ 15 →
    ∃ t, exec (.portRead n 0x13 rd ra) s = .next t ∧
      t.rd (AV_WINFILE n (s.seq n).window rd.val) = BitVec.ofNat 32 s.tim.now.toNat ∧
      WordsBut [AV_WINFILE n (s.seq n).window rd.val] s t ∧ Untouched [.regs] s t) ∧
  (∀ (s : State) (n : Fin 4) (rd : Fin 16) (r : OutcomeRec) (rs : List OutcomeRec), rd.val ≠ 0 → rd.val ≠ 15 →
    (s.seq n).outcomes = r :: rs →
    ∃ t, exec (.outcomeRead n rd) s = .next t ∧
      (t.rd (AV_WINFILE n (s.seq n).window rd.val)).toNat % 4096 = r.slot % 4096 ∧
      (t.rd (AV_WINFILE n (s.seq n).window rd.val)).toNat / 2 ^ 29 = outcomeCode r.outcome ∧
      (t.rd (AV_WINFILE n (s.seq n).window rd.val)).toNat / 2 ^ 28 % 2 = (if r.laneLost then 1 else 0) ∧
      t.avn n = { s.avn n with seq := { s.seq n with outcomes := rs } } ∧ OtherAvenues n s t ∧
      WordsBut [AV_WINFILE n (s.seq n).window rd.val] s t ∧ Untouched [.regs, .av] s t) ∧
  (∀ (s : State) (n : Fin 4) (rd : Fin 16), rd.val ≠ 0 → rd.val ≠ 15 → (s.seq n).outcomes = [] →
    ∃ t, exec (.outcomeRead n rd) s = .next t ∧ t.rd (AV_WINFILE n (s.seq n).window rd.val) = 0xFFFFFFFF ∧
      WordsBut [AV_WINFILE n (s.seq n).window rd.val] s t ∧ Untouched [.regs] s t) ∧
  (∀ (s : State) (n : Fin 4) (rd : Fin 16), (rd.val = 0 ∨ rd.val = 15) →
    ∃ t, exec (.outcomeRead n rd) s = .next t ∧ t.avn n = { s.avn n with seq := { s.seq n with
      outcomes := (s.seq n).outcomes.drop 1 } } ∧ OtherAvenues n s t ∧ Untouched [.av] s t) ∧
  (∀ (s : State) (n : Fin 4) (ra : Fin 16),
    (∃ t, exec (.portWrite n 0x14 ra) s = .next t ∧ t.avn n = { s.avn n with seq := { s.seq n with svoCyl := s.reg n ra } } ∧
      OtherAvenues n s t ∧ Untouched [.av] s t) ∧
    (∃ t, exec (.portWrite n 0x15 ra) s = .next t ∧ t.avn n = { s.avn n with seq := { s.seq n with svoOfs := s.reg n ra } } ∧
      OtherAvenues n s t ∧ Untouched [.av] s t) ∧
    (∃ t, exec (.flagSet n) s = .next t ∧ t.avn n = { s.avn n with seq := { s.seq n with flag := true } } ∧
      OtherAvenues n s t ∧ Untouched [.av] s t) ∧
    (∃ t, exec (.flagClear n) s = .next t ∧ t.avn n = { s.avn n with seq := { s.seq n with flag := false } } ∧
      OtherAvenues n s t ∧ Untouched [.av] s t)) ∧
  (∀ (s : State) (n : Fin 4) (r : Nat) (e : RingEntry) (es : List RingEntry), r < 4 → (s.seq n).rings.length = 32 →
    (s.seq n).lastUrgent < 4 → (s.seq n).rings.getD r [] = e :: es →
    (∀ k, k < 4 → k ≠ r → (s.seq n).rings.getD k [] = []) →
    ∃ t, exec (.ringFetch n) s = .next t ∧ (t.seq n).entry = e ∧ (t.seq n).entryLive = true ∧
      (t.seq n).rings = (s.seq n).rings.set r es ∧ (t.seq n).fetched = (s.seq n).fetched ++ [e] ∧
      (t.seq n).lastUrgent = r ∧ (t.seq n).outcomes = (s.seq n).outcomes ∧ OtherAvenues n s t ∧ Untouched [.av] s t) ∧
  (∀ (s : State) (n : Fin 4), (∀ k, k < 32 → (s.seq n).rings.getD k [] = []) →
    ∃ t, exec (.ringFetch n) s = .next t ∧ (t.seq n).entry.words = List.replicate 16 0 ∧ (t.seq n).entryLive = false ∧
      (t.seq n).rings = (s.seq n).rings ∧ OtherAvenues n s t ∧ Untouched [.av] s t) ∧
  (∀ (s : State) (n : Fin 4) (ra : Fin 16), (s.seq n).entryLive = true → (s.reg n ra).toNat % 65536 = 0 →
    (entryClass (s.seq n).entry = 2 → 1 ≤ (s.seq n).winUrgent) →
    ∃ t, exec (.ringComplete n ra) s = .next t ∧ (t.seq n).entryLive = false ∧
      (t.seq n).posted = (s.seq n).posted ++ [(((s.seq n).entry.words.getD 3 0).toNat % 65536, 0)] ∧
      (t.seq n).fetched = (s.seq n).fetched.erase (s.seq n).entry ∧
      (entryClass (s.seq n).entry = 2 → (t.seq n).winUrgent + 1 = (s.seq n).winUrgent ∧
        (t.seq n).winOther = (s.seq n).winOther) ∧
      (entryClass (s.seq n).entry ≠ 2 → (t.seq n).winUrgent = (s.seq n).winUrgent ∧
        (t.seq n).winOther = (s.seq n).winOther - 1) ∧ OtherAvenues n s t ∧ Untouched [.av] s t) ∧
  (∀ (s : State) (n : Fin 4) (ra : Fin 16), (s.seq n).entryLive = true → (s.reg n ra).toNat % 65536 = 0 →
    (∀ k, k < 32 → (s.seq n).rings.getD k [] = []) →
    ∃ t, exec (.ringCompleteFetch n ra) s = .next t ∧
      (t.seq n).posted = (s.seq n).posted ++ [(((s.seq n).entry.words.getD 3 0).toNat % 65536, 0)] ∧
      (t.seq n).entry.words = List.replicate 16 0 ∧ (t.seq n).entryLive = false ∧ OtherAvenues n s t ∧
      Untouched [.av] s t) ∧
  (∀ (s : State) (n : Fin 4) (ring : Fin 32) (atHead : Bool) (e : RingEntry), (s.seq n).rings.length = 32 →
    (s.seq n).winUrgent + (s.seq n).winOther < 512 → (4 ≤ ring.val → (s.seq n).winOther < 496) →
    ∃ t, exec (.avenueEntryWrite n ring atHead e) s = .next t ∧
      (t.seq n).rings.getD ring.val [] = (if atHead then e :: (s.seq n).rings.getD ring.val []
        else (s.seq n).rings.getD ring.val [] ++ [e]) ∧
      (∀ k, k ≠ ring.val → (t.seq n).rings.getD k [] = (s.seq n).rings.getD k []) ∧
      (t.seq n).winUrgent + (t.seq n).winOther = (s.seq n).winUrgent + (s.seq n).winOther + 1 ∧
      OtherAvenues n s t ∧ Untouched [.av] s t) ∧
  (∀ (s : State) (n : Fin 4) (ring : Fin 32) (atHead : Bool) (e : RingEntry),
    (512 ≤ (s.seq n).winUrgent + (s.seq n).winOther ∨ (4 ≤ ring.val ∧ 496 ≤ (s.seq n).winOther)) →
    exec (.avenueEntryWrite n ring atHead e) s = .next s)

/-- The framer's operation and its slots (R66, R75 to R77, R97, R143, R147, R153, R174 to R176). OPEN takes the entry's
track and the readers' skews, or ends with the status of the check that fails, 14 when a track is open; an arm joins the queue
at the first occurrence 256 channel bits and its lead away and after the arm before it, needs its preparation, and a write is
refused with a cause present; CANCEL discards waiting arms; CLOSE takes effect when no arm is left. A slot's mark is searched,
a write raises write gate and slips a revolution when its codeword is not ready, and a slot that ends gives its sector to the
decoder or drops write gate. -/
def Obligations.FramerOperations : Prop :=
  (∀ (s : State) (n : Fin 4), (s.seq n).op = none →
    let e := (s.seq n).entry
    let cyl := (e.words.getD 1 0).toNat / 1024 % 2 ^ 22
    let face := (e.words.getD 1 0).toNat / 128 % 8
    let z := s.zoneOfCyl n cyl
    (s.get (AV_FMTCTL_OK n) = 1 → s.get (AV_CODECTL_OK n) = 1 → s.rateOpen n z = true →
      (entrySlips e).length ≤ (s.zoneNow n z).spares → s.laneState n ≠ 5 → s.settledOn n cyl face = true →
      ∃ t o, exec (.framerOpen n) s = .next t ∧ (t.seq n).op = some o ∧ o.cyl = cyl ∧ o.face = face ∧ o.zone = z ∧
        o.slips = entrySlips e ∧ o.ended = 0 ∧ o.taken = false ∧ o.prepRead = false ∧ o.prepWrite = false ∧
        (∀ r : Fin 2, (t.reader n r).skew = s.geti (AV_SKEW_SKEW n face r.val z) ∧ (t.reader n r).acc = 0 ∧
          (t.reader n r).stopped = false) ∧ OtherAvenues n s t ∧ Untouched [.av] s t) ∧
    (∀ st : Nat, s.openCheck n z (entrySlips e).length = st → st ≠ 0 → st ≠ 1 →
      ∃ t o, exec (.framerOpen n) s = .next t ∧ (t.seq n).op = some o ∧ o.ended = st ∧ o.cyl = cyl ∧ o.face = face ∧
        OtherAvenues n s t ∧ Untouched [.av] s t) ∧
    (s.openCheck n z (entrySlips e).length = 1 → ∃ t o, exec (.framerOpen n) s = .next t ∧ (t.seq n).op = some o ∧
      o.ended = 1 ∧ Raised1 (428 + 96 * n.val + 25) 0 s t ∧ OtherAvenues n s t ∧ Untouched [.av, .flt] s t)) ∧
  (∀ (s : State) (n : Fin 4) (o : MediaOp), (s.seq n).op = some o → o.ended = 0 →
    ∃ t, exec (.framerOpen n) s = .next t ∧
      t.avn n = { s.avn n with seq := { s.seq n with op := some { o with ended := 14 }, arms := [] } } ∧
      OtherAvenues n s t ∧ Untouched [.av] s t) ∧
  (∀ (s : State) (n : Fin 4) (o : MediaOp) (ra : Fin 16) (raw : Bool) (bits slot : Nat), (s.seq n).op = some o → o.ended = 0 →
    armSlot (s.zoneNow n o.zone) o.slips raw ((s.reg n ra).toNat % 4096) = some slot → 0 < (s.zoneNow n o.zone).bpr →
    slot < (s.zoneNow n o.zone).slots.length →
    (s.seq n).arms.length + (if (s.seq n).slotRun.isSome then 1 else 0) < 4 →
    let lead := if o.l4 then 64 else (s.zoneNow n o.zone).w
    (o.prepRead = true →
      (∃ t, exec (.armRead n ra raw bits) s = .next t ∧
        ArmJoined n .read o slot (max (armBefore (s.seq n)) (bits + 256 + lead)) s t ∧ (t.seq n).op = some o ∧
        OtherAvenues n s t ∧ Frame [AV_SEQCNT_LATE n] [.regs, .av] s t) ∧
      (∃ t, exec (.armVerify n ra raw bits) s = .next t ∧
        ArmJoined n .verify o slot (max (armBefore (s.seq n)) (bits + 256 + lead)) s t ∧ (t.seq n).op = some o ∧
        OtherAvenues n s t ∧ Frame [AV_SEQCNT_LATE n] [.regs, .av] s t)) ∧
    (o.prepWrite = true → (o.taken = true ∨ s.causes n = 0) → ∃ t, exec (.armWrite n ra raw bits) s = .next t ∧
      ArmJoined n .write o slot (max (armBefore (s.seq n)) (bits + 256 + 32 * s.get (AV_WRCTL_WGLEAD n))) s t ∧
      (t.seq n).op = some { o with taken := true } ∧ OtherAvenues n s t ∧ Frame [AV_SEQCNT_LATE n] [.regs, .av] s t) ∧
    (o.prepWrite = true → o.taken = false → s.causes n ≠ 0 → ∃ t, exec (.armWrite n ra raw bits) s = .next t ∧
      t.avn n = { s.avn n with seq := { s.seq n with op := some { o with ended := 6 }, arms := [] } } ∧
      Raised1 (428 + 96 * n.val + 73) 0 s t ∧ OtherAvenues n s t ∧ Untouched [.av, .flt] s t) ∧
    (o.prepRead = false → ∃ t, exec (.armRead n ra raw bits) s = .next t ∧
      t.avn n = { s.avn n with seq := { s.seq n with op := some { o with ended := 14 }, arms := [] } } ∧
      OtherAvenues n s t ∧ Untouched [.av] s t)) ∧
  (∀ (s : State) (n : Fin 4) (o : MediaOp), (s.seq n).op = some o → o.closing = false →
    ∃ t, exec (.framerCancel n) s = .next t ∧ t.avn n = { s.avn n with seq := { s.seq n with arms := [] } } ∧
      OtherAvenues n s t ∧ Untouched [.av] s t) ∧
  (∀ (s : State) (n : Fin 4) (o : MediaOp), (s.seq n).op = some o → ((s.seq n).arms ≠ [] ∨ (s.seq n).slotRun.isSome = true) →
    ∃ t, exec (.framerClose n) s = .next t ∧
      t.avn n = { s.avn n with seq := { s.seq n with op := some { o with closing := true } } } ∧
      OtherAvenues n s t ∧ Untouched [.av] s t) ∧
  (∀ (s : State) (n : Fin 4) (o : MediaOp), (s.seq n).op = some o → (s.seq n).arms = [] → (s.seq n).slotRun = none →
    o.prepRead = true → o.taken = false → (s.svo.get n).face ≠ o.face → s.get (AV_SKCTL_TRK n) = 0 →
    s.get (AV_DETCTL_ADAPT n) = 0 →
    ∃ t, exec (.framerClose n) s = .next t ∧ (t.seq n).op = none ∧ t.svo.get n = { s.svo.get n with headHeld := false } ∧
      OtherAvenues n s t ∧ OtherServos n s t ∧ Untouched [.av, .svo] s t) ∧
  (∀ (s : State) (n : Fin 4) (o : MediaOp), (s.seq n).op = some o → (s.seq n).arms = [] → (s.seq n).slotRun = none →
    o.prepRead = true → o.taken = false → (s.svo.get n).face ≠ o.face → s.get (AV_SKCTL_TRK n) = 1 →
    s.get (AV_WRCTL_WFOLLOW n) = 0 → s.get (AV_DETCTL_ADAPT n) = 0 → o.zone < 32 → o.face < 8 →
    (∀ r : Fin 2, -(2 ^ 23) ≤ (s.reader n r).skew ∧ (s.reader n r).skew < 2 ^ 23) →
    ∃ t, exec (.framerClose n) s = .next t ∧ (t.seq n).op = none ∧
      (∀ r : Fin 2, t.geti (AV_SKEW_SKEW n o.face r.val o.zone) = (s.reader n r).skew) ∧
      t.svo.get n = { s.svo.get n with headHeld := false } ∧ OtherAvenues n s t ∧ OtherServos n s t ∧
      Frame [AV_SKEW_SKEW n o.face 0 o.zone, AV_SKEW_SKEW n o.face 1 o.zone] [.regs, .av, .svo] s t) ∧
  (∀ (s : State) (n : Fin 4) (o : MediaOp) (a : Arm) (as : List Arm) (i : SlotInput), (s.seq n).op = some o →
    (s.seq n).arms = a :: as → (s.seq n).slotRun = none → (s.seq n).outcomes.length < 64 → (s.avn n).kazq.heating = false →
    (a.kind = .read → s.bothInvalid n = false → s.get (AV_AFEGAIN_DGEN n 0) = 0 → s.get (AV_AFEGAIN_DGEN n 1) = 0 →
      a.dsp = .zone → a.l4 = false →
      (∀ c : MarkCand, i.marks = [c] → c.offset.natAbs ≤ (s.zoneNow n o.zone).w → c.distance ≤ (s.zoneNow n o.zone).mthr →
        c.clear = true → s.get (AV_SKCTL_MARKFB n) = 0 →
        ∃ t, exec (.slotStart n i) s = .next t ∧ t.avn n = { s.avn n with seq := { s.seq n with
          arms := as, slotRun := some ⟨a, false, true, true, c.offset⟩ } } ∧ OtherAvenues n s t ∧ Untouched [.av] s t) ∧
      (i.marks = [] → (s.zoneNow n o.zone).fly = false →
        ∃ t, exec (.slotStart n i) s = .next t ∧ t.avn n = { s.avn n with seq := { s.seq n with
          arms := as, slotRun := some ⟨a, false, false, false, 0⟩ } } ∧
        t.get (AV_MARKSTAT_MISSES n) = min (2 ^ (AV_MARKSTAT_MISSES n).wid - 1) (s.get (AV_MARKSTAT_MISSES n) + 1) ∧
        Raised1 (428 + 96 * n.val + 26) 0 s t ∧ OtherAvenues n s t ∧ Frame [AV_MARKSTAT_MISSES n] [.regs, .av, .flt] s t)) ∧
    (a.kind = .write → s.causes n = 0 → i.ready = true → i.entryOk = true → s.flt.chip = none →
      ∃ t out, exec (.slotStart n i) s = .next t ∧ (t.avn n).wg = true ∧ (t.avn n).serial = some out ∧
        out.pc1 = s.get (AV_WAT1_PC1 n o.face o.zone) ∧ out.pc2 = s.get (AV_WAT1_PC2 n o.face o.zone) ∧
        out.wskew = s.geti (AV_WSKEW_WSKEW n o.face o.zone) ∧
        (t.avn n).header = header ⟨o.cyl, o.face, a.slot⟩ o.ctx.region o.ctx.gen ∧ (t.seq n).arms = as ∧
        (t.seq n).slotRun = some ⟨a, false, true, true, 0⟩ ∧ OtherAvenues n s t ∧ Untouched [.av] s t) ∧
    (a.kind = .write → s.causes n = 0 → i.ready = false → as = [] → 0 < (s.zoneNow n o.zone).bpr →
      ∃ t, exec (.slotStart n i) s = .next t ∧ (t.avn n).wg = (s.avn n).wg ∧ (t.seq n).slotRun = none ∧
        (t.seq n).arms = [{ a with start := a.start + (s.zoneNow n o.zone).bpr, stop := a.stop + (s.zoneNow n o.zone).bpr }] ∧
        t.get (AV_WFCNT_SLIPW n) = min (2 ^ (AV_WFCNT_SLIPW n).wid - 1) (s.get (AV_WFCNT_SLIPW n) + 1) ∧
        t.get (AV_SEQCNT_LATE n) = min (2 ^ (AV_SEQCNT_LATE n).wid - 1) (s.get (AV_SEQCNT_LATE n) + 1) ∧
        OtherAvenues n s t ∧ Frame [AV_WFCNT_SLIPW n, AV_SEQCNT_LATE n] [.regs, .av] s t)) ∧
  (∀ (s : State) (n : Fin 4) (o : MediaOp) (r : SlotRun) (m : List MarkCand), (s.seq n).op = some o → o.closing = false →
    (s.seq n).slotRun = some r →
    (r.arm.kind = .read → r.arm.split = false → r.decode = true → (s.avn n).decoding = [] →
      ∃ t sec, exec (.slotEnd n m) s = .next t ∧ (t.avn n).decoding = [sec] ∧ sec.addr = ⟨o.cyl, o.face, r.arm.slot⟩ ∧
        sec.verify = false ∧ sec.marks = r.marks ∧ sec.laneLost = o.laneLost ∧ sec.ctx = o.ctx ∧ (t.seq n).slotRun = none ∧
        (t.seq n).lastEnd = r.arm.stop ∧ (t.seq n).arms = (s.seq n).arms ∧ OtherAvenues n s t ∧ Untouched [.av] s t) ∧
    (r.arm.kind = .write → (s.seq n).arms = [] → ∃ t, exec (.slotEnd n m) s = .next t ∧ (t.avn n).wg = false ∧
      (t.seq n).slotRun = none ∧ OtherAvenues n s t ∧ Untouched [.av] s t) ∧
    (∀ (a : Arm) (as : List Arm), r.arm.kind = .write → (s.seq n).arms = a :: as → a.kind = .write → a.start = r.arm.stop →
      ∃ t, exec (.slotEnd n m) s = .next t ∧ (t.avn n).wg = (s.avn n).wg ∧ (t.seq n).slotRun = none ∧
        OtherAvenues n s t ∧ Untouched [.av] s t))

/-- Analogue and detector settings, preamp preparation, and seek and move actions (R149, R160, R170, R176, R203, R208). AFE = 1
applies the settings of the track's face and zone to both readers, AFE = 2 with an L2 set's changes within the fields' limits,
and a change tags blocks INVALID; detector and mark settings are the operation's for slots armed from then on; a prepare
action sends the frames whose shadow differs, and refuses the timing head with status 7; a seek action selects the ports'
cylinder and enters SEEK, a move the ports' offset and SETTLE. -/
def Obligations.FrontSettingsAndPreparation : Prop :=
  (∀ (s : State) (n : Fin 4) (o : MediaOp) (rb : Fin 16), (s.seq n).op = some o →
    let fs := [AV_AFEGAIN_VGA n 0, AV_AFEGAIN_VGA n 1, AV_AFECTF_CUTOFF n 0, AV_AFECTF_CUTOFF n 1, AV_AFECTF_BOOST n 0,
      AV_AFECTF_BOOST n 1]
    let k := (s.reg n rb).toNat % 4
    (∃ t, exec (.afeApply n 1 rb) s = .next t ∧ (∀ r : Fin 2,
        t.get (AV_AFEGAIN_VGA n r.val) = s.get (AV_AFESET_VGA n o.face o.zone r.val) ∧
        t.get (AV_AFECTF_CUTOFF n r.val) = s.get (AV_AFESET_CUTOFF n o.face o.zone r.val) ∧
        t.get (AV_AFECTF_BOOST n r.val) = s.get (AV_AFESET_BOOST n o.face o.zone r.val) ∧
        (s.get (AV_AFEGAIN_VGA n r.val) ≠ s.get (AV_AFESET_VGA n o.face o.zone r.val) → 2 ≤ (t.reader n r).inv) ∧
        (s.get (AV_AFECTF_CUTOFF n r.val) ≠ s.get (AV_AFESET_CUTOFF n o.face o.zone r.val) → 4 ≤ (t.reader n r).inv)) ∧
      t.seq n = s.seq n ∧ OtherAvenues n s t ∧ Frame fs [.regs, .av] s t) ∧
    (∃ t, exec (.afeApply n 2 rb) s = .next t ∧ (∀ r : Fin 2,
        (t.get (AV_AFEGAIN_VGA n r.val) : Int) =
          max 0 (min 255 (s.get (AV_AFESET_VGA n o.face o.zone r.val) + s.geti (AV_L2SET_VGAD n k))) ∧
        (t.get (AV_AFECTF_CUTOFF n r.val) : Int) =
          max 0 (min 63 (s.get (AV_AFESET_CUTOFF n o.face o.zone r.val) + s.geti (AV_L2SET_CUTD n k))) ∧
        (t.get (AV_AFECTF_BOOST n r.val) : Int) =
          max 0 (min 31 (s.get (AV_AFESET_BOOST n o.face o.zone r.val) + s.geti (AV_L2SET_BOOSTD n k)))) ∧
      t.seq n = s.seq n ∧ OtherAvenues n s t ∧ Frame fs [.regs, .av] s t) ∧
    (∃ t, exec (.dspSelect n 1 rb) s = .next t ∧ (t.seq n).op = some { o with dsp := .zone } ∧
      (t.seq n).arms = (s.seq n).arms ∧ OtherAvenues n s t ∧ Untouched [.av] s t) ∧
    (∃ t, exec (.dspSelect n 2 rb) s = .next t ∧ (t.seq n).op = some { o with dsp := .l2 k } ∧
      (t.seq n).arms = (s.seq n).arms ∧ OtherAvenues n s t ∧ Untouched [.av] s t) ∧
    (∃ t, exec (.dspSelect n 3 rb) s = .next t ∧ (t.seq n).op = some { o with dsp := .l3 k } ∧
      (t.seq n).arms = (s.seq n).arms ∧ OtherAvenues n s t ∧ Untouched [.av] s t) ∧
    (∀ sel : Fin 2, ∃ t, exec (.markWindowSelect n sel) s = .next t ∧
      (t.seq n).op = some { o with l4 := decide (sel.val = 1) } ∧ (t.seq n).arms = (s.seq n).arms ∧ OtherAvenues n s t ∧
      Untouched [.av] s t)) ∧
  (∀ (s : State) (n : Fin 4) (o : MediaOp), (s.seq n).op = some o → o.ended = 0 →
    let head := s.get (AV_HMAP_H n) / 2 ^ (4 * o.face) % 16
    let k := (s.avn n).kazq
    let rh := s.get (AV_WAT1_RHTR n o.face o.zone)
    let wh := s.get (AV_WAT0_WHTR n o.face o.zone)
    let wc := 256 * s.get (AV_WAT0_OVS n o.face o.zone) + s.get (AV_WAT0_WCUR n o.face o.zone)
    let wa := s.get (AV_WAT0_WAP n o.face o.zone)
    (head ≠ s.get (AV_HMAP_TMG n) → k.cur.isSome = true → k.headsel = none → k.heater = none →
      ∃ t, exec (.prepareRead n) s = .next t ∧ t.avn n = { s.avn n with
          kazq := { k with seqQ := k.seqQ ++ [⟨false, 0, head, true⟩, ⟨false, 3, rh, true⟩], failed := false },
          seq := { s.seq n with op := some { o with prepRead := true } } } ∧ OtherAvenues n s t ∧ Untouched [.av] s t) ∧
    (head ≠ s.get (AV_HMAP_TMG n) → k.cur.isSome = true → k.headsel = none → k.heater = none → k.wcur = none →
      k.wassist = none → ∃ t, exec (.prepareWrite n) s = .next t ∧ t.avn n = { s.avn n with
          kazq := { k with seqQ := k.seqQ ++ [⟨false, 0, head, true⟩, ⟨false, 3, wh, true⟩, ⟨false, 1, wc, true⟩,
            ⟨false, 2, wa, true⟩], failed := false },
          seq := { s.seq n with op := some { o with prepWrite := true } } } ∧ OtherAvenues n s t ∧ Untouched [.av] s t) ∧
    (head ≠ s.get (AV_HMAP_TMG n) → k.headsel = some head → k.heater = some wh → k.wcur = some wc → k.wassist = some wa →
      k.cur = none → k.seqQ = [] → k.fwQ = [] → ∃ t, exec (.prepareWrite n) s = .next t ∧ t.avn n = { s.avn n with
          kazq := { k with failed := false }, seq := { s.seq n with op := some { o with prepWrite := true } } } ∧
        OtherAvenues n s t ∧ Untouched [.av] s t) ∧
    (head = s.get (AV_HMAP_TMG n) → ∃ t, exec (.prepareRead n) s = .next t ∧ t.avn n = { s.avn n with
          seq := { s.seq n with op := some { o with ended := 7 }, arms := [] } } ∧
        Raised1 (428 + 96 * n.val + 73) 0 s t ∧ OtherAvenues n s t ∧ Untouched [.av, .flt] s t)) ∧
  (∀ (s : State) (n : Fin 4) (o : MediaOp), (s.seq n).op = some o → s.svState n = 5 →
    let q := s.seq n
    let v := s.svo.get n
    let cyl := q.svoCyl.toNat
    let ofs : Int := q.svoOfs.toInt
    let h := s.hofs n o.face (s.zoneOfCyl n cyl)
    (cyl < s.get (AV_FMTCYL_NCYL n) → cyl < 2 ^ 22 → cyl ≠ s.target n → (ofs + h).natAbs ≤ 127 →
      ∃ t, exec (.servoSeekAction n) s = .next t ∧ t.svState n = 3 ∧ t.target n = cyl ∧
        (t.svo.get n).req = some (entryClass q.entry) ∧ (t.svo.get n).ofs = ofs ∧ (t.svo.get n).face = o.face ∧
        (t.svo.get n).head = h ∧ t.get (SVO_STAT_ONTRK n) = 0 ∧ t.get (SVO_STAT_WINH n) = 1 ∧ OtherServos n s t ∧
        OtherAvenues n s t) ∧
    (s.target n < s.get (AV_FMTCYL_NCYL n) → v.face = o.face → (ofs + v.head).natAbs ≤ 127 →
      ∃ t, exec (.servoMoveAction n) s = .next t ∧ t.svState n = 4 ∧ t.target n = s.target n ∧
        (t.svo.get n).req = some (entryClass q.entry) ∧ (t.svo.get n).ofs = ofs ∧ (t.svo.get n).head = v.head ∧
        (t.svo.get n).settleRun = 0 ∧ t.get (SVO_STAT_WINH n) = 1 ∧ OtherServos n s t ∧ OtherAvenues n s t))

/-- Windows, traps, halts and firmware's control of a sequencer (R165, R179, R180, R182, R183, R187 to R190). A spill copies
the oldest resident window to the spill area and a fill the newest spilled one back, in the trap window alone; an abandon leaves
the root window with no frame; a trap saves the flags, the window and the address; a halt captures its code while VALID is 0,
discards the arms that have not started and raises source 80; RUN starts at microword 0 in the root window; a stop is no fault;
HOLD parks a sequencer that waits for a command between operations. -/
def Obligations.WindowsTrapsAndControl : Prop :=
  (∀ (s : State) (n : Fin 4), (s.seq n).window = 7 → 1 ≤ s.resident n → s.depth n - s.resident n < 32 →
    let k := s.depth n - s.resident n
    ∃ t, exec (.windowSpill n) s = .next t ∧ t.resident n = s.resident n - 1 ∧
      (∀ i, i < 16 → t.rd (AV_SPILL n k i) = s.rd (AV_WINFILE n (k % 6) i)) ∧
      Frame (AV_SEQSTAT_RES n :: (List.range 16).map (fun i => ⟨AV_SPILL n k i, 0, 32⟩)) [.regs] s t) ∧
  (∀ (s : State) (n : Fin 4), (s.seq n).window = 7 → s.resident n < s.depth n → s.resident n ≤ 5 →
    let k := s.depth n - s.resident n - 1
    ∃ t, exec (.windowFill n) s = .next t ∧ t.resident n = s.resident n + 1 ∧
      (∀ i, i < 16 → t.rd (AV_WINFILE n (k % 6) i) = s.rd (AV_SPILL n k i)) ∧
      Frame (AV_SEQSTAT_RES n :: windowFlds n (k % 6)) [.regs] s t) ∧
  (∀ (s : State) (n : Fin 4), (s.seq n).window = 7 →
    ∃ t, exec (.windowAbandon n) s = .next t ∧ t.depth n = 0 ∧ t.resident n = 0 ∧ (t.seq n).window = 6 ∧ t.seqState n = 1 ∧
      OtherAvenues n s t ∧ Frame [AV_SEQSTAT_DEPTH n, AV_SEQSTAT_RES n, AV_SEQSTAT_STATE n] [.regs, .av] s t) ∧
  (∀ (s : State) (n : Fin 4) (ret : BitVec 12), (s.seq n).window ≠ 7 →
    ∃ t, exec (.softwareTrap n ret) s = .next t ∧ t.upc n = (s.get (AV_SEQTRAP_BASE n) + 12) % 4096 ∧ t.seqState n = 3 ∧
      t.get (AV_SEQTRAP_TRAPPC n) = ret.toNat ∧ t.get (AV_SEQTRAP_CAUSE n) = 3 ∧
      t.avn n = { s.avn n with seq := { s.seq n with window := 7, saved := ⟨(s.seq n).window, (s.seq n).zero, (s.seq n).neg,
        (s.seq n).flag⟩ } } ∧ OtherAvenues n s t ∧
      Frame [AV_SEQSTAT_PC n, AV_SEQSTAT_STATE n, AV_SEQTRAP_TRAPPC n, AV_SEQTRAP_CAUSE n] [.regs, .av] s t) ∧
  (∀ (s : State) (n : Fin 4) (c : Instr) (code : Nat),
    ((c = .halt n ∧ code = 6) ∨ (c = .windowAbandon n ∧ (s.seq n).window ≠ 7 ∧ code = 7) ∨
      (c = .windowSpill n ∧ (s.seq n).window ≠ 7 ∧ code = 7) ∨ (c = .windowFill n ∧ (s.seq n).window ≠ 7 ∧ code = 7) ∨
      (c = .windowSpill n ∧ (s.seq n).window = 7 ∧ s.depth n - s.resident n = 32 ∧ code = 3) ∨
      (c = .softwareTrap n 0 ∧ (s.seq n).window = 7 ∧ code = 2) ∨
      (c = .ownerTimeLimit n ∧ (s.seq n).owner.isSome = true ∧ s.get (AV_SEQCTL_OMLIM n) ≠ 0 ∧ code = 5)) →
    ∃ t, exec c s = .next t ∧ t.seqState n = 5 ∧ t.get (AV_SEQCTL_RUN n) = 0 ∧ t.get (AV_SEQFAULT_VALID n) = 1 ∧
      (s.get (AV_SEQFAULT_VALID n) = 0 → t.get (AV_SEQFAULT_CODE n) = code ∧ t.get (AV_SEQFAULT_PC n) = s.upc n ∧
        t.get (AV_SEQFAULT_DEPTH n) = s.depth n) ∧
      (s.get (AV_SEQFAULT_VALID n) = 1 → t.get (AV_SEQFAULT_CODE n) = s.get (AV_SEQFAULT_CODE n) ∧
        t.get (AV_SEQFAULT_PC n) = s.get (AV_SEQFAULT_PC n)) ∧
      t.avn n = { s.avn n with seq := { s.seq n with arms := [], owner := none } } ∧
      Raised1 (428 + 96 * n.val + 80) 0 s t ∧ OtherAvenues n s t ∧
      Frame [AV_SEQSTAT_STATE n, AV_SEQCTL_RUN n, AV_SEQFAULT_VALID n, AV_SEQFAULT_CODE n, AV_SEQFAULT_PC n,
        AV_SEQFAULT_DEPTH n] [.regs, .av, .flt] s t) ∧
  (∀ (s : State) (n : Fin 4), ((s.seq n).owner = none ∨ s.get (AV_SEQCTL_OMLIM n) = 0) →
    exec (.ownerTimeLimit n) s = .next s) ∧
  (∀ (s : State) (n : Fin 4), s.seqState n = 0 →
    ∃ t, exec (.sequencerRun n) s = .next t ∧ t.get (AV_SEQCTL_RUN n) = 1 ∧ t.seqState n = 1 ∧ t.upc n = 0 ∧ t.depth n = 0 ∧
      t.resident n = 0 ∧ t.avn n = { s.avn n with seq := { s.seq n with window := 6, owner := none } } ∧ OtherAvenues n s t ∧
      Frame [AV_SEQCTL_RUN n, AV_SEQSTAT_STATE n, AV_SEQSTAT_PC n, AV_SEQSTAT_DEPTH n, AV_SEQSTAT_RES n] [.regs, .av] s t) ∧
  (∀ (s : State) (n : Fin 4), 1 ≤ s.seqState n → s.seqState n ≤ 4 →
    ∃ t, exec (.sequencerStop n) s = .next t ∧ t.get (AV_SEQCTL_RUN n) = 0 ∧ t.seqState n = 0 ∧
      t.avn n = { s.avn n with seq := { s.seq n with arms := [], owner := none } } ∧ OtherAvenues n s t ∧
      Frame [AV_SEQCTL_RUN n, AV_SEQSTAT_STATE n] [.regs, .av] s t) ∧
  (∀ (s : State) (n : Fin 4) (v : Bool),
    (s.seqState n ≠ 2 → s.seqState n ≠ 4 → ∃ t, exec (.sequencerHold n v) s = .next t ∧
      t.get (AV_SEQCTL_HOLD n) = (if v then 1 else 0) ∧ Frame [AV_SEQCTL_HOLD n] [.regs] s t) ∧
    (v = true → s.seqState n = 2 → (s.micro n (s.upc n)).mode = 3 → (s.micro n (s.upc n)).cond = 4 → s.depth n = 0 →
      (s.seq n).op = none → ∃ t, exec (.sequencerHold n v) s = .next t ∧ t.get (AV_SEQCTL_HOLD n) = 1 ∧ t.seqState n = 4 ∧
      Frame [AV_SEQCTL_HOLD n, AV_SEQSTAT_STATE n] [.regs] s t) ∧
    (v = false → s.seqState n = 4 → ∃ t, exec (.sequencerHold n v) s = .next t ∧ t.get (AV_SEQCTL_HOLD n) = 0 ∧
      t.seqState n = 2 ∧ Frame [AV_SEQCTL_HOLD n, AV_SEQSTAT_STATE n] [.regs] s t))

/-- Servo requests, the command stream and the drive link (R199, R201, R203, R204, R208, R214, R215, R217). A seek to another
cylinder enters SEEK and a move SETTLE, with the class and offset of the request; a request that the engine cannot serve fails,
is counted and raises source 5; a seek that outlasts its limit fails and unloads, a settle that outlasts its limit fails. In
FOLLOW the command carries the clamped sum for VCM and MA with its CRC, and each clamp is counted; an in frame with a bad CRC is
counted, the fourth in a row raises source 6, and a good one gives its fields and, with STAT at 8 or above, FAULT. -/
def Obligations.ServoRequestsAndDriveLink : Prop :=
  (∀ (s : State) (n : Fin 4) (r : SeekReq), (s.svState n = 4 ∨ s.svState n = 5 ∨ s.svState n = 6) →
    let h := s.hofs n (s.svo.get n).face (s.zoneOfCyl n r.cyl)
    (r.move = false → r.cyl < s.get (AV_FMTCYL_NCYL n) → r.cyl < 2 ^ 22 → r.cyl ≠ s.target n → (r.ofs + h).natAbs ≤ 127 →
      ∃ t, exec (.seekRequest n r) s = .next t ∧ t.svState n = 3 ∧ t.target n = r.cyl ∧ (t.svo.get n).req = some r.cls ∧
        (t.svo.get n).ofs = r.ofs ∧ (t.svo.get n).head = h ∧ t.get (SVO_STAT_ONTRK n) = 0 ∧ t.get (SVO_STAT_WINH n) = 1 ∧
        MotionFrame n [SVO_STAT_TCYL n, SVO_STAT_STRONG n, AV_TLSTAT_STATE n, AV_TLSTAT_FMISM n] s t) ∧
    (r.move = true → s.target n < s.get (AV_FMTCYL_NCYL n) → (r.ofs + (s.svo.get n).head).natAbs ≤ 127 →
      ∃ t, exec (.seekRequest n r) s = .next t ∧ t.svState n = 4 ∧ (t.svo.get n).req = some r.cls ∧
        (t.svo.get n).ofs = r.ofs ∧ (t.svo.get n).settleRun = 0 ∧ t.get (SVO_STAT_WINH n) = 1 ∧ MotionFrame n [] s t)) ∧
  (∀ (s : State) (n : Fin 4) (r : SeekReq), (s.svState n < 3 ∨ 6 < s.svState n) →
    ∃ t, exec (.seekRequest n r) s = .next t ∧ Counted (SVO_CNT0_SEEKFAIL n) s t ∧ (t.svo.get n).req = none ∧
      Raised1 (812 + 32 * n.val + 5) 0 s t ∧ t.svState n = s.svState n ∧
      (∀ o, (s.seq n).op = some o → o.ended = 0 → (t.seq n).op = some { o with ended := 8 }) ∧
      Frame [SVO_CNT0_SEEKFAIL n] [.regs, .av, .svo, .flt] s t ∧ OtherAvenues n s t ∧ OtherServos n s t) ∧
  (∀ (s : State) (n : Fin 4), s.svState n = 3 →
    ∃ t, exec (.seekTimeLimit n) s = .next t ∧ t.svState n = 7 ∧ (t.svo.get n).req = none ∧ (t.svo.get n).stage = .driving ∧
      Counted (SVO_CNT0_SEEKFAIL n) s t ∧ ⟨812 + 32 * n.val + 5, s.time, 0, false⟩ ∈ t.flt.inbox ∧ MotionFrame n [] s t) ∧
  (∀ (s : State) (n : Fin 4), s.svState n = 4 →
    (∃ t, exec (.settleWarnExpiry n) s = .next t ∧ Counted (SVO_CNT0_SETLATE n) s t ∧ Raised1 (812 + 32 * n.val + 4) 0 s t ∧
      Frame [SVO_CNT0_SETLATE n] [.regs, .flt] s t) ∧
    ((s.svo.get n).req.isSome = true → ∃ t, exec (.settleLimitExpiry n) s = .next t ∧ t.svState n = 4 ∧
      (t.svo.get n).req = none ∧ Counted (SVO_CNT0_SEEKFAIL n) s t ∧ Raised1 (812 + 32 * n.val + 5) 0 s t ∧
      Frame [SVO_CNT0_SEEKFAIL n] [.regs, .av, .svo, .flt] s t ∧ OtherAvenues n s t ∧ OtherServos n s t) ∧
    ((s.svo.get n).req = none → exec (.settleLimitExpiry n) s = .next s)) ∧
  (∀ (s : State) (n : Fin 4), s.svState n = 5 → s.coupled n = [] → (s.svo.get n).stale = [] →
    let lim : Int := s.get (SVO_PROF_W2_IMAX n (s.get (SVO_STAT_STRONG n)))
    let v := s.svo.get n
    let vcm := max (-lim) (min lim v.fbV)
    let ma := max (-8192) (min 8191 v.fbM)
    ∃ t, exec (.commandPeriod n) s = .next t ∧ (t.svo.get n).out.extractLsb' 40 2 = 1#2 ∧
      (t.svo.get n).out.extractLsb' 24 16 = BitVec.ofInt 16 vcm ∧ (t.svo.get n).out.extractLsb' 10 14 = BitVec.ofInt 14 ma ∧
      (t.svo.get n).out.getLsbD 8 = !v.out.getLsbD 8 ∧
      (t.svo.get n).out.extractLsb' 0 8 = crcBits ((t.svo.get n).out.extractLsb' 8 34) ∧
      (t.svo.get n).history = (vcm :: v.history).take 8 ∧ (t.svo.get n).fbV = v.nextV ∧ (t.svo.get n).fbM = v.nextM ∧
      t.get (SVO_CNT1_SATS n) = min (2 ^ (SVO_CNT1_SATS n).wid - 1) (s.get (SVO_CNT1_SATS n) +
        (if v.fbV < -lim ∨ lim < v.fbV then 1 else 0) + (if v.fbM < -8192 ∨ 8191 < v.fbM then 1 else 0)) ∧
      OtherServos n s t ∧ Frame [SVO_CNT1_SATS n] [.regs, .svo] s t) ∧
  (∀ (s : State) (n : Fin 4) (fr : BitVec 42), crcBits (fr.extractLsb' 8 34) ≠ fr.extractLsb' 0 8 →
    ∃ t, exec (.driveLinkInFrame n fr) s = .next t ∧ Counted (SVO_CNT1_DLERR n) s t ∧
      t.svo.get n = { s.svo.get n with badFrames := (s.svo.get n).badFrames + 1 } ∧
      ((s.svo.get n).badFrames = 3 → Raised1 (812 + 32 * n.val + 6) 0 s t) ∧
      ((s.svo.get n).badFrames ≠ 3 → t.flt = s.flt) ∧ OtherServos n s t ∧ Frame [SVO_CNT1_DLERR n] [.regs, .svo, .flt] s t) ∧
  (∀ (s : State) (n : Fin 4) (fr : BitVec 42), crcBits (fr.extractLsb' 8 34) = fr.extractLsb' 0 8 →
    ∃ t, exec (.driveLinkInFrame n fr) s = .next t ∧ t.get (SVO_DLSTAT_ISENSE n) = (fr.extractLsb' 30 12).toNat ∧
      t.get (SVO_DLSTAT_VSENSE n) = (fr.extractLsb' 18 12).toNat ∧ t.get (SVO_DLSTAT_STAT n) = (fr.extractLsb' 14 4).toNat ∧
      (t.svo.get n).badFrames = 0 ∧
      ((fr.extractLsb' 14 4).toNat < 8 → t.svState n = s.svState n) ∧ (8 ≤ (fr.extractLsb' 14 4).toNat → t.svState n = 10) ∧
      (s.get (SVO_DLSTAT_STAT n) ≤ 1 → 2 ≤ (fr.extractLsb' 14 4).toNat →
        ⟨812 + 32 * n.val + 7, s.time, 0, false⟩ ∈ t.flt.inbox) ∧
      MotionFrame n [SVO_DLSTAT_ISENSE n, SVO_DLSTAT_VSENSE n, SVO_DLSTAT_STAT n] s t)

/-- The states of a servo engine (R218, R220 to R226). Enabled in OFF it checks Table 7-6: a rule broken gives ERR and source 15,
and otherwise the planned times, with PARKED on the ramp and an unload off it; disabled it is OFF; a load needs PARKED and the
spindle ready; unload, the load limit, the idle limits and the recovery limit unload; a ramp edge is latched and starts the
park time, whose end parks; without an edge at ULMAX the retract voltage follows. -/
def Obligations.ServoStates : Prop :=
  (∀ (s : State) (n : Fin 4), s.svState n = 0 →
    let s1 := s.putb (SVO_CTL_EN n) true
    (∀ e, s1.enableCheck n = .inl e → e < 8 → ∃ t, exec (.servoEnable n) s = .next t ∧ t.get (SVO_CTL_EN n) = 1 ∧
      t.get (SVO_PLAN_ERR n) = e ∧ t.svState n = 0 ∧ Raised1 (812 + 32 * n.val + 15) 0 s t ∧
      Frame [SVO_CTL_EN n, SVO_PLAN_ERR n] [.regs, .flt] s t) ∧
    (s.get (AV_FMTCTL_OK n) = 0 → s1.enableCheck n = .inl 1) ∧
    (∀ a b, s1.enableCheck n = .inr (a, b) → ∃ t, exec (.servoEnable n) s = .next t ∧ t.get (SVO_CTL_EN n) = 1 ∧
      t.get (SVO_PLAN_ERR n) = 0 ∧ t.get (SVO_PLAN_FSS n) = a % 2 ^ (SVO_PLAN_FSS n).wid ∧
      t.get (SVO_PLAN_FSQ n) = b % 2 ^ (SVO_PLAN_FSQ n).wid ∧
      t.svState n = (if s.get (SVO_STAT_LATCH n) = 1 then 1 else 7) ∧
      MotionFrame n [SVO_CTL_EN n, SVO_PLAN_ERR n, SVO_PLAN_FSS n, SVO_PLAN_FSQ n] s t)) ∧
  (∀ (s : State) (n : Fin 4), s.svState n ≠ 0 →
    ∃ t, exec (.servoEnable n) s = .next t ∧ t.get (SVO_CTL_EN n) = 1 ∧ Frame [SVO_CTL_EN n] [.regs] s t) ∧
  (∀ (s : State) (n : Fin 4), ∃ t, exec (.servoDisable n) s = .next t ∧ t.get (SVO_CTL_EN n) = 0 ∧ t.svState n = 0 ∧
    t.get (SVO_STAT_ONTRK n) = 0 ∧ t.get (SVO_STAT_WINH n) = 1 ∧ (t.svo.get n).req = none ∧
    ((s.svo.get n).req.isSome = true → Counted (SVO_CNT0_SEEKFAIL n) s t) ∧ MotionFrame n [SVO_CTL_EN n] s t) ∧
  (∀ (s : State) (n : Fin 4), s.svState n = 1 →
    (s.get SPN_STAT_READY = 1 → ∃ t, exec (.servoLoad n) s = .next t ∧ t.svState n = 2 ∧ (t.svo.get n).foundRun = 0 ∧
      MotionFrame n [] s t) ∧
    (s.get SPN_STAT_READY = 0 → exec (.servoLoad n) s = .next s) ∧ exec (.servoUnload n) s = .next s) ∧
  (∀ (s : State) (n : Fin 4), 2 ≤ s.svState n → s.svState n ≤ 6 → ∃ t, exec (.servoUnload n) s = .next t ∧ t.svState n = 7 ∧
    (t.svo.get n).req = none ∧ (t.svo.get n).stage = .driving ∧ t.get (SVO_STAT_WINH n) = 1 ∧ MotionFrame n [] s t) ∧
  (∀ (s : State) (n : Fin 4), s.svState n = 2 → ∃ t, exec (.loadLimitExpiry n) s = .next t ∧ t.svState n = 7 ∧
    ⟨812 + 32 * n.val + 11, s.time, 0, false⟩ ∈ t.flt.inbox ∧ MotionFrame n [] s t) ∧
  (∀ (s : State) (n : Fin 4), s.svState n = 5 → (s.seq n).op = none →
    (∃ t, exec (.idleTimerExpiry n) s = .next t ∧ t.svState n = 6 ∧ t.get (SVO_STAT_ONTRK n) = 0 ∧ MotionFrame n [] s t) ∧
    (s.get (SVO_IDLE_UNLDT n) ≠ 0 → ∃ t, exec (.idleUnloadExpiry n) s = .next t ∧ t.svState n = 7 ∧ MotionFrame n [] s t) ∧
    (s.get (SVO_IDLE_UNLDT n) = 0 → exec (.idleUnloadExpiry n) s = .next s)) ∧
  (∀ (s : State) (n : Fin 4) (rising : Bool), s.get (SVO_STAT_LATCH n) = (if rising then 0 else 1) →
    ∃ t, exec (.latchDetEdge n rising) s = .next t ∧ t.get (SVO_STAT_LATCH n) = (if rising then 1 else 0) ∧
      t.get (SVO_LATCHS_EDGE n) = (if rising then 1 else 0) ∧ t.get (SVO_LATCHS_VALID n) = 1 ∧
      t.get (SVO_LATCHT_TIME n) = s.tim.now.toNat % 2 ^ (SVO_LATCHT_TIME n).wid ∧
      t.get (SVO_LATCHS_COUNT n) = (s.get (SVO_LATCHS_COUNT n) + 1) % 2 ^ (SVO_LATCHS_COUNT n).wid ∧
      (s.svState n = 5 → t.get (SVO_LATCHS_EXPECT n) = 0 ∧ Raised1 (812 + 32 * n.val + 9) 0 s t ∧
        (t.svo.get n).stage = (s.svo.get n).stage) ∧
      (s.svState n = 7 → t.get (SVO_LATCHS_EXPECT n) = 1 ∧ t.flt = s.flt ∧
        (rising = true → (s.svo.get n).stage = .driving → (t.svo.get n).stage = .edge)) ∧ OtherServos n s t ∧
      Frame [SVO_STAT_LATCH n, SVO_LATCHPOS_POS n, SVO_LATCHT_TIME n, SVO_LATCHS_EDGE n, SVO_LATCHS_EXPECT n,
        SVO_LATCHS_COUNT n, SVO_LATCHS_VALID n] [.regs, .svo, .flt] s t) ∧
  (∀ (s : State) (n : Fin 4), s.svState n = 7 →
    ((s.svo.get n).stage = .edge → ∃ t, exec (.parkTimeExpiry n) s = .next t ∧ t.svState n = 1 ∧
      Counted (SVO_CNT1_UNLOADS n) s t ∧ MotionFrame n [SVO_CNT1_UNLOADS n] s t) ∧
    ((s.svo.get n).stage = .retract → ∃ t, exec (.parkTimeExpiry n) s = .next t ∧ t.svState n = 1 ∧
      Counted (SVO_CNT1_UNLOADS n) s t ∧ ⟨812 + 32 * n.val + 10, s.time, 0, false⟩ ∈ t.flt.inbox ∧
      MotionFrame n [SVO_CNT1_UNLOADS n] s t) ∧
    ((s.svo.get n).stage = .driving → exec (.parkTimeExpiry n) s = .next s ∧
      ∃ t, exec (.unloadLimitExpiry n) s = .next t ∧ t.svo.get n = { s.svo.get n with stage := .retract } ∧ OtherServos n s t ∧
        Untouched [.svo] s t)) ∧
  (∀ (s : State) (n : Fin 4), s.svState n = 9 → (s.svo.get n).stage = .edge →
    ∃ t, exec (.parkTimeExpiry n) s = .next t ∧ t.svState n = 1 ∧ t.get (SVO_LATCHS_EUOK n) = 1 ∧
      ⟨812 + 32 * n.val + 18, s.time, 0, false⟩ ∈ t.flt.inbox ∧ MotionFrame n [SVO_CNT1_UNLOADS n, SVO_LATCHS_EUOK n] s t) ∧
  (∀ (s : State) (n : Fin 4), s.svState n = 8 → ∃ t, exec (.recoverLimitExpiry n) s = .next t ∧ t.svState n = 7 ∧
    ⟨812 + 32 * n.val + 2, s.time, 0, false⟩ ∈ t.flt.inbox ∧ MotionFrame n [] s t)

/-- Control of the spindle (R230, R234, R235, R239, R244 to R246, R249, R253 to R255). A step chooses the vector of its state:
under DTC the table's, or V0 where the VBUS watch overrides it, V0 in BRAKE, and none with the bridge off; a conversion stands in
ADCLAST; a trip turns the bridge off and the eighth within 1 ms is FAULT; EN checks Table 8-5 and starts; EN = 0 stops by way of
HOLD while an engine flies and of DECEL otherwise; KILL is OFF with unload requests; a target is limited to 10,800 rpm. -/
def Obligations.SpindleControl : Prop :=
  (∀ s : State, s.spnState = 0 → s.get SPN_CTL_EN = 0 → exec .spindleControlStep s = .next s) ∧
  (∀ s : State, (s.spnState ≠ 0 ∨ s.get SPN_CTL_EN = 1) →
    let u := brakeCheck (targetActs (plausible (observerSpeed (observe s))))
    (u.spnState = 2 ∨ u.spnState = 3 ∨ u.spnState = 4 ∨ u.spnState = 7 → ∃ t, exec .spindleControlStep s = .next t ∧
      t.spn.vec = some (if (vbusWatch (torqueRef u)).1 then 0 else
        if t.spn.dtq = 0 then (if u.spn.vec = some 0 ∨ u.spn.vec = some 1 ∨ u.spn.vec = some 3 ∨ u.spn.vec = some 5 then 0 else 7)
        else vecAt (sector t.spn.theta) ((if t.spn.dpsi then 1 else 2) * t.spn.dtq)) ∧ t.spn.fresh = [] ∧
      t.spn.turns.length ≤ 64 ∧ Untouched [.regs, .spn, .svo, .av, .flt, .freeCtr, .sqr, .host, .mem] s t) ∧
    (u.spnState = 5 → ∃ t, exec .spindleControlStep s = .next t ∧ t.spn.vec = some 0 ∧ t.spn.fresh = []) ∧
    (u.spnState = 0 ∨ u.spnState = 6 ∨ u.spnState = 8 → ∃ t, exec .spindleControlStep s = .next t ∧ t.spn.vec = none ∧
      t.spn.fresh = [])) ∧
  (∀ (s : State) (conv : Fin 2) (ch : Fin 7) (v : BitVec 12), ch.val ≤ 5 →
    ∃ t, exec (.spindleConversion conv ch v) s = .next t ∧ t.get (SPN_ADCLAST_VALUE ch.val) = v.toNat ∧
      t.get (SPN_ADCLAST_CH ch.val) = ch.val ∧ t.get (SPN_ADCLAST_CONV ch.val) = conv.val ∧
      (3 ≤ ch.val → t.get (SPN_ADCLAST_GAIN ch.val) = 0) ∧ (ch.val ≤ 2 → t.get (SPN_ADCLAST_GAIN ch.val) = s.spn.gain % 4) ∧
      t.get (SPN_ADCLAST_SEQ ch.val) = ((if conv = 0 then s.spn.kept0 else s.spn.kept1) + 1) % 256 ∧
      ch.val ∈ t.spn.fresh ∧ Frame [SPN_ADCLAST_VALUE ch.val, SPN_ADCLAST_CH ch.val, SPN_ADCLAST_CONV ch.val,
        SPN_ADCLAST_GAIN ch.val, SPN_ADCLAST_SEQ ch.val] [.regs, .spn] s t) ∧
  (∀ (s : State) (conv : Fin 2) (v : BitVec 12), s.get SPN_STAT_VBLOW = 0 →
    v.toNat * s.get SPN_SCALE_VSC < 10000 * s.get SPN_VBUS_VBLO → orOne (s.get SPN_STOP_VBLOCNT) ≤ s.spn.lowRun + 1 →
    ∃ t, exec (.spindleConversion conv 6 v) s = .next t ∧ t.get SPN_STAT_VBLOW = 1 ∧ Raised1 946 0 s t) ∧
  (∀ (s : State) (ph : Fin 3), (s.spn.trips.filter (fun t => decide (s.time ≤ t + 100000))).length < 7 →
    ∃ t, exec (.overcurrentTrip ph) s = .next t ∧ t.spn.vec = none ∧ Counted SPN_CNT_OCTRIPS s t ∧ Raised1 944 0 s t ∧
      t.spnState = s.spnState ∧ Frame [SPN_CNT_OCTRIPS] [.regs, .spn, .flt] s t) ∧
  (∀ (s : State) (ph : Fin 3), 7 ≤ (s.spn.trips.filter (fun t => decide (s.time ≤ t + 100000))).length → s.spnState = 2 →
    s.get PWR_START_STEP ≠ 9 →
    ∃ t, exec (.overcurrentTrip ph) s = .next t ∧ t.spnState = 8 ∧ t.spn.vec = none ∧
      ⟨944, s.time, 0, false⟩ ∈ t.flt.inbox ∧ ⟨956, s.time, 0, false⟩ ∈ t.flt.inbox) ∧
  (∀ s : State, s.spnState = 0 →
    (s.spnCheck = 0 → ∃ t, exec .spindleEnable s = .next t ∧ t.get SPN_CTL_EN = 1 ∧ t.spnState = 1 ∧ t.get SPN_STAT_SUB = 0 ∧
      t.get SPN_STAT_ERR = 0 ∧ t.get SPN_STAT_RETEND = 0 ∧ t.get (tdExpect 24) = 1 ∧ t.get (tdExpect 25) = 1 ∧
      t.spn.vec = none ∧ t.spn.attempts = 0 ∧ t.spn.wasReady = false ∧
      Frame [SPN_CTL_EN, SPN_STAT_STATE, SPN_STAT_SUB, SPN_STAT_ERR, SPN_STAT_RETEND, SPN_STAT_READY, SPN_STAT_RETOK,
        tdExpect 24, tdExpect 25] [.regs, .spn] s t) ∧
    (s.spnCheck ≠ 0 → ∃ t, exec .spindleEnable s = .next t ∧ t.get SPN_CTL_EN = 1 ∧ t.spnState = 0 ∧
      t.get SPN_STAT_ERR = s.spnCheck ∧ Raised1 955 0 s t ∧
      Frame [SPN_CTL_EN, SPN_STAT_ERR, tdExpect 24, tdExpect 25] [.regs, .flt] s t) ∧
    (s.get SPN_MOT0_POLEP = 0 → s.spnCheck = 1)) ∧
  (∀ s : State,
    let fs := [SPN_CTL_EN, SPN_STAT_STATE, SPN_STAT_READY, SPN_STAT_RETOK, SPN_STAT_EFF, SPN_STAT_CEILLIM, tdExpect 24,
      tdExpect 25]
    (s.spnState = 8 → ∃ t, exec .spindleDisable s = .next t ∧ t.get SPN_CTL_EN = 0 ∧ t.spnState = 0 ∧ t.spn.vec = none ∧
      t.get (tdExpect 24) = 0 ∧ Frame fs [.regs, .spn] s t) ∧
    (s.spnState = 2 → s.allIdle = false → ∃ t, exec .spindleDisable s = .next t ∧ t.get SPN_CTL_EN = 0 ∧ t.spnState = 3 ∧
      t.get SPN_STAT_READY = 0 ∧ Raised1 949 0 s t ∧ Frame fs [.regs, .spn, .flt] s t) ∧
    (s.spnState = 2 → s.allIdle = true → ∃ t, exec .spindleDisable s = .next t ∧ t.get SPN_CTL_EN = 0 ∧ t.spnState = 4 ∧
      Frame fs [.regs, .spn] s t) ∧
    (s.spnState = 1 → s.get SPN_STAT_SUB ≤ 2 → ∃ t, exec .spindleDisable s = .next t ∧ t.spnState = 0 ∧
      Frame fs [.regs, .spn] s t)) ∧
  (∀ s : State, ∃ t, exec .spindleKill s = .next t ∧ t.spnState = 0 ∧ t.spn.vec = none ∧ t.get SPN_STAT_READY = 0 ∧
    (∀ n : Fin 4, 2 ≤ s.svState n → s.svState n ≤ 6 → t.svState n = 7) ∧
    (∀ n : Fin 4, (s.svState n ≤ 1 ∨ s.svState n = 9 ∨ s.svState n = 10) → t.svState n = s.svState n)) ∧
  (∀ (s : State) (x : BitVec 14), s.get SPN_CEIL_VALID = 0 → s.get SPN_CTL_EN = 1 → s.spnState = 2 →
    let fs := [SPN_TARGET_TARGET, SPN_STAT_EFF, SPN_STAT_CEILLIM, SPN_STAT_STATE, SPN_STAT_READY, SPN_STAT_RETOK]
    (4800 ≤ x.toNat → ∃ t, exec (.spindleTargetWrite x) s = .next t ∧ t.get SPN_TARGET_TARGET = x.toNat ∧
      t.get SPN_STAT_EFF = min 10800 x.toNat ∧ t.get SPN_STAT_CEILLIM = 0 ∧ t.spnState = 2 ∧ Frame fs [.regs] s t) ∧
    (x.toNat < 4800 → s.allIdle = false → ∃ t, exec (.spindleTargetWrite x) s = .next t ∧ t.get SPN_STAT_EFF = x.toNat ∧
      t.spnState = 3 ∧ Raised1 949 0 s t ∧ Frame fs [.regs, .spn, .flt] s t))

/-- Start phases, resynchronisation, stops and SPIN_CMD (R242, R245, R247 to R249, R251 to R253). A consistent measurement in
band gives RUN at the measured speed; one below HANDOFF brakes; none goes to precharge; a failed resync raises source 942 and the
last that RSMAX allows is FAULT; precharge goes to align and align to open loop from rest; the retry time and the brake time lead
back to catch; READY follows its time; the hold time unloads; a window of SPIN_CMD gives the ceiling of its mode, and an invalid
one keeps it with source 948 once. -/
def Obligations.SpindlePhases : Prop :=
  (∀ (s : State) (m : EmfMeasure), s.spnState = 6 →
    (s.measureOk m = true → s.spn.from_ = 2 → s.get PWR_PLSTAT_SIGNAL = 0 →
      ∃ t, exec (.resyncMeasureEnd m) s = .next t ∧ t.spnState = 2 ∧ t.spn.turns = [] ∧ t.flt = s.flt ∧
        Frame [SPN_STAT_STATE, SPN_STAT_RETOK] [.regs, .spn] s t) ∧
    (s.measureOk m = false → 1 + (s.spn.resyncFails.filter (fun t => decide (s.time ≤ t + 100000000))).length <
        orOne (s.get SPN_PLAUS_RSMAX) →
      ∃ t, exec (.resyncMeasureEnd m) s = .next t ∧ t.spnState = 6 ∧ Raised1 942 0 s t ∧ Untouched [.spn, .flt] s t) ∧
    (s.measureOk m = false → orOne (s.get SPN_PLAUS_RSMAX) ≤
        1 + (s.spn.resyncFails.filter (fun t => decide (s.time ≤ t + 100000000))).length → s.get PWR_START_STEP ≠ 9 →
      ∃ t, exec (.resyncMeasureEnd m) s = .next t ∧ t.spnState = 8 ∧ ⟨942, s.time, 0, false⟩ ∈ t.flt.inbox ∧
        ⟨956, s.time, 0, false⟩ ∈ t.flt.inbox)) ∧
  (∀ (s : State) (m : EmfMeasure), s.spnState = 1 → s.get SPN_STAT_SUB = 0 → s.spn.retryWait = false →
    s.spn.catchBrake = false →
    (s.measureOk m = true → s.get SPN_SPEED_WEDGE = 1 → ∃ t, exec (.startCatchEnd m) s = .next t ∧ t.spnState = 2 ∧
      t.spn.omega = s.speedRpm ∧ Frame [SPN_STAT_STATE, SPN_STAT_RETOK] [.regs, .spn] s t) ∧
    (s.measureOk m = false → m.consistent = true → F32.lt m.speed (F32.ofInt (s.get SPN_STRT_HANDOFF)) = true →
      ∃ t, exec (.startCatchEnd m) s = .next t ∧ t.spn = { s.spn with catchBrake := true } ∧ Untouched [.spn] s t) ∧
    (m.consistent = false → ∃ t, exec (.startCatchEnd m) s = .next t ∧ t.get SPN_STAT_SUB = 1 ∧ t.spnState = 1 ∧
      Frame [SPN_STAT_SUB] [.regs] s t)) ∧
  (∀ s : State, s.spnState = 1 → s.spn.retryWait = false →
    (s.get SPN_STAT_SUB = 1 → ∃ t, exec .prechargeEnd s = .next t ∧ t.get SPN_STAT_SUB = 2 ∧ Frame [SPN_STAT_SUB] [.regs] s t) ∧
    (s.get SPN_STAT_SUB = 2 → ∃ t, exec .alignEnd s = .next t ∧ t.get SPN_STAT_SUB = 3 ∧
      t.spn = { s.spn with olSpeed := 0, olAngle := 0 } ∧ Frame [SPN_STAT_SUB] [.regs, .spn] s t)) ∧
  (∀ s : State, s.spnState = 1 → ∃ t, exec .startRetryExpiry s = .next t ∧ t.get SPN_STAT_SUB = 0 ∧
    t.spn = { s.spn with retryWait := false } ∧ Frame [SPN_STAT_SUB] [.regs, .spn] s t) ∧
  (∀ s : State, s.get SPN_CTL_EN = 1 → s.spn.wasReady = false → s.spnState = 1 → s.get PWR_START_STEP ≠ 9 →
    ∃ t, exec .spinTimeLimit s = .next t ∧ t.spnState = 8 ∧ t.spn.vec = none ∧ ⟨956, s.time, 0, false⟩ ∈ t.flt.inbox) ∧
  (∀ s : State, s.spn.wasReady = true → exec .spinTimeLimit s = .next s) ∧
  (∀ s : State, s.spn.inBand = true → s.get SPN_STAT_READY = 0 → ∃ t, exec .readyTimeExpiry s = .next t ∧
    t.get SPN_STAT_READY = 1 ∧ t.spn = { s.spn with wasReady := true } ∧ Raised1 950 0 s t ∧
    Frame [SPN_STAT_READY] [.regs, .spn, .flt] s t) ∧
  (∀ s : State, s.spnState = 3 → ∃ t, exec .holdTimeExpiry s = .next t ∧
    (∀ n : Fin 4, 2 ≤ s.svState n → s.svState n ≤ 6 → t.svState n = 7) ∧
    (∀ n : Fin 4, (s.svState n ≤ 1 ∨ s.svState n = 9 ∨ s.svState n = 10) → t.svState n = s.svState n)) ∧
  (∀ s : State, (s.spnState = 5 → ∃ t, exec .brakeEnd s = .next t ∧ t.spnState = 0 ∧ t.spn.vec = none ∧
      Frame [SPN_STAT_STATE, SPN_STAT_READY, SPN_STAT_RETOK, tdExpect 24, tdExpect 25] [.regs, .spn] s t) ∧
    (s.spnState = 1 → s.spn.catchBrake = true → ∃ t, exec .brakeEnd s = .next t ∧
      t.spn = { s.spn with catchBrake := false, vec := none } ∧ Untouched [.spn] s t)) ∧
  (∀ s : State,
    let fs := [SPN_CEIL_CEIL, SPN_CEIL_VALID, SPN_CEIL_ERR, SPN_STAT_EFF, SPN_STAT_CEILLIM, SPN_STAT_STATE, SPN_STAT_READY,
      SPN_STAT_RETOK, tdExpect 24, tdExpect 25]
    (∀ i, s.get SPN_CEIL_MODE = 0 → exec (.spinCmdWindow i) s = .next s) ∧
    (∀ uv : Nat, s.get SPN_CEIL_MODE = 1 → s.get SPN_CEIL_VALID = 0 → ∃ t, exec (.spinCmdWindow (.volts [uv])) s = .next t ∧
      t.get SPN_CEIL_CEIL = 9000 * min 1200000 uv / 1000000 ∧ t.get SPN_CEIL_VALID = 1 ∧ t.get SPN_CEIL_ERR = 0 ∧
      Frame fs [.regs, .spn, .flt] s t) ∧
    (∀ hi per : Nat, s.get SPN_CEIL_MODE = 2 → s.get SPN_CEIL_VALID = 0 → 1000 ≤ per → per ≤ 100000 → hi ≤ per →
      ∃ t, exec (.spinCmdWindow (.duty [(hi, per)] none)) s = .next t ∧ t.get SPN_CEIL_CEIL = 10800 * hi / per ∧
        t.get SPN_CEIL_VALID = 1 ∧ Frame fs [.regs, .spn, .flt] s t) ∧
    (∀ per : Nat, s.get SPN_CEIL_MODE = 3 → s.get SPN_CEIL_VALID = 0 → 0 < per → per ∣ 400000000 →
      ∃ t, exec (.spinCmdWindow (.freq [per])) s = .next t ∧ t.get SPN_CEIL_CEIL = min 10800 (400000000 / per) ∧
        t.get SPN_CEIL_VALID = 1 ∧ Frame fs [.regs, .spn, .flt] s t) ∧
    (s.get SPN_CEIL_MODE = 1 → s.spn.badCmd = false → ∃ t, exec (.spinCmdWindow (.volts [])) s = .next t ∧
      t.get SPN_CEIL_ERR = 1 ∧ t.get SPN_CEIL_CEIL = s.get SPN_CEIL_CEIL ∧ t.get SPN_CEIL_VALID = s.get SPN_CEIL_VALID ∧
      t.spn = { s.spn with badCmd := true } ∧ Raised1 948 0 s t ∧ Frame [SPN_CEIL_ERR] [.regs, .spn, .flt] s t))

/-- Pages of the Square (R262, R264 to R271, R274, R275, R278, R285). A hit pins its page; a miss puts a free page in FILL, or
waits for one with source 205; a client without its tenancy is refused, captured and source 204 raised; a fill with data is CLEAN
at the tail of probation, and one without is freed with the status noted; a transfer's end unpins, and a superseded page is then
freed; a placement is DIRTY with J = 0 in the current epoch, or in that of the undurable page it supersedes; it is held on a power
loss or, with source 206, while the window is full. -/
def Obligations.SquarePages : Prop :=
  (∀ (s : State) (a : LookupArgs), s.get SQR_STAT_READY = 0 → exec (.squareReadLookup a) s = .next s) ∧
  (∀ (s : State) (a : LookupArgs) (ten : Fin 128) (p : Nat), s.get SQR_STAT_READY = 1 → a.client = .host (some ten) →
    a.page = none → a.stream = none → a.dram = .clean → s.findPage ⟨some ten, a.ns, a.lba⟩ = some p →
    (s.page p).st = .dirty →
    ∃ t, exec (.squareReadLookup a) s = .next t ∧
      t.page p = { s.page p with ref := true, pins := min 63 ((s.page p).pins + 1) } ∧ (∀ q, q ≠ p → t.page q = s.page q) ∧
      t.sqr = { s.sqr with pages := t.sqr.pages } ∧ Untouched [.sqr] s t) ∧
  (∀ (s : State) (a : LookupArgs) (ten : Fin 128), s.get SQR_STAT_READY = 1 → a.client = .host (some ten) → a.page = none →
    a.stream = none → a.req.cls ≠ 2 → s.lookupKey ⟨some ten, a.ns, a.lba⟩ = .miss →
    (∀ (p : Nat) (u : State), s.takePage false = some (p, u) → ∃ t, exec (.squareReadLookup a) s = .next t ∧
      (t.page p).st = .fill ∧ (t.page p).key = ⟨some ten, a.ns, a.lba⟩ ∧ (t.page p).indexed = true ∧
      t.sqr.fills = u.sqr.fills ++ [⟨p, a.req, false, []⟩] ∧ (∀ q, q ≠ p → t.page q = u.page q) ∧ Untouched [.sqr] s t) ∧
    (s.takePage false = none → ∃ t, exec (.squareReadLookup a) s = .next t ∧
      t.sqr = { s.sqr with waits := s.sqr.waits ++ [.fill ⟨some ten, a.ns, a.lba⟩ a.req false []] } ∧
      Counted SQR_CNT1_ALLOCWAITS s t ∧ Raised1 205 0 s t ∧ Frame [SQR_CNT1_ALLOCWAITS] [.regs, .sqr, .flt] s t)) ∧
  (∀ (s : State) (a : LookupArgs), s.get SQR_STAT_READY = 1 → a.client = .host none →
    ∃ t, exec (.squareReadLookup a) s = .next t ∧ Counted SQR_CNT0_TVIOL s t ∧ t.get SQR_TVCAP_VALID = 1 ∧
      (s.get SQR_TVCAP_VALID = 0 → t.get SQR_TVCAP_WRITE = 0 ∧ t.get SQR_TVCAP_TENV = 0 ∧ t.get SQR_TVCAP_PAGE = 0x3FFFFF) ∧
      Raised1 204 0 s t ∧ Frame [SQR_CNT0_TVIOL, SQR_TVCAP_VALID, SQR_TVCAP_WRITE, SQR_TVCAP_TENV, SQR_TVCAP_TEN,
        SQR_TVCAP_PAGE] [.regs, .flt] s t) ∧
  (∀ (s : State) (p : Nat) (f : Fill) (d m : List Byte), s.sqr.fills.find? (fun f => f.page == p) = some f → f.waiters = [] →
    (s.page p).superseded = false →
    ∃ t, exec (.fillEnd p (.data d m)) s = .next t ∧ (t.page p).st = .clean ∧ (t.page p).data = d ∧ (t.page p).pmeta = m ∧
      (t.page p).ecrc = crc32c (d ++ m) ∧ (t.page p).prot = false ∧ t.sqr.probation = s.sqr.probation.erase p ++ [p] ∧
      t.sqr.fills = s.sqr.fills.filter (fun x => x.page != p) ∧ (∀ q, q ≠ p → t.page q = s.page q) ∧ Untouched [.sqr] s t) ∧
  (∀ (s : State) (p sct sc qual tag : Nat) (f : Fill), s.sqr.fills.find? (fun f => f.page == p) = some f → f.waiters = [] →
    f.ahead = false → f.req.tag = some tag →
    ∃ t, exec (.fillEnd p (.failed sct sc qual)) s = .next t ∧ t.page p = freePage ∧ t.sqr.freed = s.sqr.freed ++ [p] ∧
      t.sqr.readEnds = s.sqr.readEnds ++ [(tag, (s.page p).key.lba, sct, sc, qual)] ∧ (∀ q, q ≠ p → t.page q = s.page q) ∧
      Untouched [.sqr] s t) ∧
  (∀ (s : State) (p : Nat),
    ((s.page p).superseded = false → ∃ t, exec (.pageTransferEnd p) s = .next t ∧
      t.page p = { s.page p with pins := (s.page p).pins - 1 } ∧ (∀ q, q ≠ p → t.page q = s.page q) ∧ Untouched [.sqr] s t) ∧
    ((s.page p).superseded = true → (s.page p).pins = 1 → (s.page p).st = .clean → ∃ t,
      exec (.pageTransferEnd p) s = .next t ∧ t.page p = freePage ∧ t.sqr.freed = s.sqr.freed ++ [p] ∧
      (∀ q, q ≠ p → t.page q = s.page q) ∧ Untouched [.sqr] s t)) ∧
  (∀ (s : State) (k : BlockKey) (req : ReadReq) (p : Nat) (u : State), (∀ c ∈ s.rbt.cmds, c.phase ≠ .placing) →
    s.sqr.waits.find? (fun w => s.waitReady w) = some (.fill k req false []) → req.cls ≠ 2 → s.lookupKey k = .miss →
    (s.modSqr (fun q => { q with waits := q.waits.erase (.fill k req false []) })).takePage false = some (p, u) →
    ∃ t, exec .allocationResume s = .next t ∧ t.sqr.waits = s.sqr.waits.erase (.fill k req false []) ∧
      (t.page p).st = .fill ∧ (t.page p).key = k ∧ t.sqr.fills = u.sqr.fills ++ [⟨p, req, false, []⟩] ∧
      Untouched [.sqr] s t) ∧
  (∀ (s : State) (a : PlaceArgs) (ten : Fin 128), (∀ c ∈ s.rbt.cmds, c.phase ≠ .placing) → s.get SQR_STAT_READY = 1 →
    a.client = .host (some ten) → a.page = none →
    (a.ten ≠ some ten → ∃ t, exec (.placement a) s = .next t ∧ Counted SQR_CNT0_TVIOL s t ∧ t.sqr = s.sqr ∧
      Raised1 204 0 s t ∧ Frame [SQR_CNT0_TVIOL, SQR_TVCAP_VALID, SQR_TVCAP_WRITE, SQR_TVCAP_TENV, SQR_TVCAP_TEN,
        SQR_TVCAP_PAGE] [.regs, .flt] s t) ∧
    (a.ten = some ten → s.sqr.lossHold = true → ∃ t, exec (.placement a) s = .next t ∧
      t.sqr = { s.sqr with held := s.sqr.held ++ [a] } ∧ Untouched [.sqr] s t) ∧
    (a.ten = some ten → s.sqr.lossHold = false → s.pwr.cleanStop = false → s.winPages ≤ s.dirtyPages →
      ∃ t, exec (.placement a) s = .next t ∧ t.sqr = { s.sqr with held := s.sqr.held ++ [a] } ∧
      Counted SQR_CNT1_WINHOLDS s t ∧ Raised1 206 0 s t ∧ Frame [SQR_CNT1_WINHOLDS] [.regs, .sqr, .flt] s t) ∧
    (∀ (p : Nat) (u : State), a.ten = some ten → s.sqr.lossHold = false → s.pwr.cleanStop = false → s.sqr.held = [] →
      s.dirtyPages < s.winPages → s.takePage false = some (p, u) → s.locOf a.ns a.lba = none →
      (u.findPage ⟨some ten, a.ns, a.lba⟩ = none → ∃ t, exec (.placement a) s = .next t ∧ (t.page p).st = .dirty ∧
        (t.page p).j = false ∧ (t.page p).key = ⟨some ten, a.ns, a.lba⟩ ∧ (t.page p).indexed = true ∧ (t.page p).data = a.data ∧
        (t.page p).pmeta = a.pmeta ∧ (t.page p).epoch = s.get SQR_DRAIN_EPOCH ∧ (∀ q, q ≠ p → t.page q = u.page q) ∧
        Untouched [.sqr] s t) ∧
      (∀ o, u.findPage ⟨some ten, a.ns, a.lba⟩ = some o → o ≠ p → (u.page o).st = .dirty → (u.page o).j = false →
        (u.page o).pins = 0 → ∃ t, exec (.placement a) s = .next t ∧ (t.page p).st = .dirty ∧ (t.page p).data = a.data ∧
        (t.page p).epoch = (u.page o).epoch ∧ t.page o = freePage ∧ (∀ q, q ≠ p → q ≠ o → t.page q = u.page q) ∧
        Untouched [.sqr] s t))) ∧
  (∀ (s : State) (a : PlaceArgs), (∀ c ∈ s.rbt.cmds, c.phase ≠ .placing) → s.sqr.lossHold = false → s.pwr.cleanStop = false →
    s.sqr.held = [a] →
    (s.winPages ≤ s.dirtyPages → exec .placementRelease s = .next s) ∧
    (∀ (p : Nat) (u : State), s.dirtyPages < s.winPages → a.ten = none →
      (s.modSqr (fun q => { q with held := [] })).takePage false = some (p, u) →
      ∃ t, exec .placementRelease s = .next t ∧ t.sqr.held = [] ∧ (t.page p).st = .dirty ∧ (t.page p).data = a.data ∧
        (t.page p).j = false ∧ Untouched [.sqr] s t))

/-- Gather groups, destage, the journal, drains and locks (R276, R277, R281, R284 to R286, R288 to R293). A gather timeout
completes the group that is open, is counted and raises source 207, and changes nothing while a commit holds the Square (the
model's reading, log 62); a destage ends CLEAN when every media write has, and DIRTY
again where one failed; a journal program sets J; a drain closes the epoch and journals or destages what is not durable, and ends
when its pages are; a lock answers by its owner, a foreign release raises source 214, and a reset notice orphans; INIT checks its
rules and sizes the page area. -/
def Obligations.SquareWorkAndLocks : Prop :=
  (∀ (s : State) (r : Fin 64) (st : Nat) (tgt : Bool) (ps : List PeerBlock) (ms : List ParityMiss),
    (s.openGroup r st tgt = none ∨ s.sqr.lossHold = true → exec (.gatherTimeout r st tgt ps ms) s = .next s) ∧
    (∀ g, s.openGroup r st tgt = some g → s.sqr.lossHold = false → (∀ i, i < 384 → ∃ m ∈ g.members ++ g.extra, m.1 = i) → ms = [] →
      128 + 256 * s.get SQR_PAGECFG_URGRES ≤ s.evict.freePages → ∃ t, exec (.gatherTimeout r st tgt ps ms) s = .next t ∧
      (∃ x ∈ t.sqr.groups, x.region = r.val ∧ x.stripe = st ∧ x.target = tgt ∧ x.writing = true) ∧
      Counted SQR_CNT1_GTIMEOUTS s t ∧ Raised1 207 0 s t ∧
      Frame [SQR_CNT1_GTIMEOUTS, SQR_ECRCCNT_PARMIS] [.regs, .sqr, .flt] s t)) ∧
  (∀ (s : State) (p : Nat), s.sqr.groups = [] → (s.page p).st = .destage → (s.page p).superseded = false →
    (s.page p).failed = false →
    ((s.page p).left = 1 → ∃ t, exec (.mediaWriteEnd p true) s = .next t ∧ (t.page p).st = .clean ∧ (t.page p).j = false ∧
      t.sqr.probation = s.sqr.probation.erase p ++ [p] ∧
      t.sqr.destageQ = s.sqr.destageQ.erase p ∧ t.sqr.journal = s.sqr.journal.filter (fun e => e.key != (s.page p).key) ∧
      (∀ q, q ≠ p → t.page q = s.page q) ∧ Untouched [.sqr] s t) ∧
    ((s.page p).left = 1 → ∃ t, exec (.mediaWriteEnd p false) s = .next t ∧ (t.page p).st = .dirty ∧
      (t.page p).j = (s.page p).j ∧ (∀ q, q ≠ p → t.page q = s.page q) ∧ Untouched [.sqr] s t) ∧
    ((s.page p).left = 2 → ∃ t, exec (.mediaWriteEnd p true) s = .next t ∧ (t.page p).st = .destage ∧ (t.page p).left = 1 ∧
      (∀ q, q ≠ p → t.page q = s.page q) ∧ Untouched [.sqr] s t)) ∧
  (∀ (s : State) (p : Nat), s.sqr.groups = [] → (s.page p).unjournaled = true →
    (∃ t, exec (.journalProgramEnd p true) s = .next t ∧ t.page p = { s.page p with j := true } ∧
      t.sqr.journal = s.sqr.journal ++ [⟨(s.page p).key, (s.page p).epoch, (s.page p).data, (s.page p).pmeta, (s.page p).loc,
        (s.page p).tag⟩] ∧ t.pwr = { s.pwr with newestOk := false } ∧ (∀ q, q ≠ p → t.page q = s.page q) ∧
      Untouched [.sqr, .pwr] s t) ∧ exec (.journalProgramEnd p false) s = .next s) ∧
  (∀ s : State, s.sqr.drains.length < 255 → ∃ t, exec .drainRequest s = .next t ∧
    t.get SQR_DRAIN_EPOCH = (s.get SQR_DRAIN_EPOCH + 1) % 256 ∧
    t.sqr.drains = s.sqr.drains ++ [⟨s.sqr.nextDrain, s.get SQR_DRAIN_EPOCH, s.time⟩] ∧ t.sqr.nextDrain = s.sqr.nextDrain + 1 ∧
    t.sqr.pages = s.sqr.pages ∧ (s.get SQR_DRAIN_DRMODE = 0 → ∀ p ∈ s.drainPages (s.get SQR_DRAIN_EPOCH), p ∈ t.sqr.journalQ) ∧
    (∀ p ∈ s.drainPages (s.get SQR_DRAIN_EPOCH), p ∈ t.sqr.journalQ ∨ p ∈ t.sqr.destageQ) ∧
    Frame [SQR_DRAIN_EPOCH] [.regs, .sqr] s t) ∧
  (∀ s : State, 255 ≤ s.sqr.drains.length → ∃ t, exec .drainRequest s = .next t ∧
    t.sqr = { s.sqr with nextDrain := s.sqr.nextDrain + 1, drainWait := s.sqr.drainWait ++ [s.sqr.nextDrain] } ∧
    Raised1 217 0 s t ∧ Untouched [.sqr, .flt] s t) ∧
  (∀ (s : State) (d : Drain) (rest : List Drain), s.sqr.drains = d :: rest →
    (s.drainPages d.epoch ≠ [] → exec .drainEnd s = .next s) ∧
    (s.drainPages d.epoch = [] → s.sqr.drainWait = [] → (∀ c ∈ s.rbt.cmds, c.phase ≠ .draining d.id) → s.rbt.act = none →
      (∀ f, (s.ctl f).shutdown ≠ some (some d.id)) → ∃ t, exec .drainEnd s = .next t ∧
      t.sqr = { s.sqr with drains := rest } ∧
      t.get SQR_DRAIN_OLDEST = ((rest.head?.map Drain.epoch).getD (s.get SQR_DRAIN_EPOCH)) % 256 ∧
      Frame [SQR_DRAIN_OLDEST] [.regs, .sqr] s t) ∧
    (∀ late, late = (s.drainPages d.epoch).filter (fun p => !s.sqr.journalQ.contains p) →
      (late = [] → exec .drainJournalFallback s = .next s) ∧
      (late ≠ [] → ∃ t, exec .drainJournalFallback s = .next t ∧
        t.sqr = { s.sqr with journalQ := s.sqr.journalQ ++ late } ∧ Raised1 209 0 s t ∧ Untouched [.sqr, .flt] s t))) ∧
  (∀ (s : State) (k : Fin 256) (c : LockClient), ownerId c ≠ 0 →
    let l := s.lock k.val
    let id := ownerId c
    (l.owner = 0 → l.orphaned = false → ∃ t, exec (.lockAcquire k c) s = .next t ∧ t.bus.rdata = BitVec.ofNat 32 id ∧
      t.lock k.val = { l with owner := id, warned := false } ∧ (∀ j, j ≠ k.val → t.lock j = s.lock j) ∧
      Untouched [.sqr, .bus] s t) ∧
    (l.owner = 0 → l.orphaned = true → ∃ t, exec (.lockAcquire k c) s = .next t ∧
      t.bus.rdata = BitVec.ofNat 32 (2 * 2 ^ 29 + l.last * 256 + id) ∧ t.lock k.val = { l with owner := id, warned := false } ∧
      Untouched [.sqr, .bus] s t) ∧
    (l.owner = id → ∃ t, exec (.lockAcquire k c) s = .next t ∧ t.bus.rdata = BitVec.ofNat 32 (4 * 2 ^ 29 + id) ∧
      t.sqr = s.sqr ∧ Untouched [.bus] s t) ∧
    (l.owner ≠ 0 → l.owner ≠ id → ∃ t, exec (.lockAcquire k c) s = .next t ∧
      t.bus.rdata = BitVec.ofNat 32 (2 ^ 29 + l.owner) ∧ t.sqr = s.sqr ∧ Untouched [.bus] s t) ∧
    (l.owner = id → ∃ t, exec (.lockRelease k c) s = .next t ∧ t.lock k.val = { l with owner := 0, warned := false } ∧
      (∀ j, j ≠ k.val → t.lock j = s.lock j) ∧ Untouched [.sqr] s t) ∧
    (l.owner = id → ∃ t, exec (.lockClearOrphaned k c) s = .next t ∧ t.lock k.val = { l with orphaned := false } ∧
      (∀ j, j ≠ k.val → t.lock j = s.lock j) ∧ Untouched [.sqr] s t) ∧
    (l.owner ≠ id → (∃ t, exec (.lockRelease k c) s = .next t ∧ Counted SQR_CNT2_LOCKERR s t ∧ Raised1 214 0 s t ∧
      Frame [SQR_CNT2_LOCKERR] [.regs, .flt] s t)) ∧
    (l.owner = id → ∃ t, exec (.lockResetNotice c) s = .next t ∧ t.lock k.val = ⟨0, true, id, false⟩ ∧
      (∀ j, (s.lock j).owner ≠ id → t.lock j = s.lock j) ∧ ⟨212, s.time, 0, false⟩ ∈ t.flt.inbox ∧ Untouched [.sqr, .flt] s t) ∧
    (l.owner ≠ 0 → l.warned = false → s.get SQR_LOCKCFG_LOCKWARN ≠ 0 → ∃ t, exec (.lockHoldWarn k) s = .next t ∧
      t.lock k.val = { l with warned := true } ∧ Raised1 213 0 s t ∧ Untouched [.sqr, .flt] s t)) ∧
  (∀ s : State, s.get PWR_START_STEP ≠ 5 →
    let b := ((s.get SQR_DRAMCFG_SIZE + 1) * 7 * 2 ^ 29 - s.get SQR_PAGECFG_FW16 * 2 ^ 24) / 4096
    (s.initCheck = 0 → ∃ t, exec .squareInit s = .next t ∧ t.get SQR_STAT_READY = 1 ∧ t.get SQR_STAT_ERR = 0 ∧
      t.sqr.pages = [] ∧ t.sqr.freed = [] ∧ t.sqr.groups = [] ∧
      t.get SQR_STAT_NPAGES + (32 * t.get SQR_STAT_NPAGES + 4095) / 4096 ≤ b ∧
      b < t.get SQR_STAT_NPAGES + 1 + (32 * (t.get SQR_STAT_NPAGES + 1) + 4095) / 4096 ∧
      (∀ k, k < 256 → (t.lock k).owner = 0 ∧ (t.lock k).orphaned = false) ∧
      Frame [SQR_STAT_READY, SQR_STAT_ERR, SQR_STAT_NPAGES] [.regs, .sqr] s t) ∧
    (s.initCheck ≠ 0 → ∃ t, exec .squareInit s = .next t ∧ t.get SQR_STAT_ERR = s.initCheck ∧ t.sqr = s.sqr ∧
      Raised1 215 0 s t ∧ Frame [SQR_STAT_ERR] [.regs, .flt] s t))

/-- The flash store's entries (R297 to R300, R302 to R307, R309, R310, R315). A legal entry starts on an idle die or joins its
queue; a refused one ends with its status, is captured while VALID is 0 and raises its source; a read ends with its count, a
program advances the block's pointer and SEQ or fails into the grown table, and an erase empties its block. A refused entry's
source for statuses that Table 10-5 gives none is none. -/
def Obligations.FlashEntries : Prop :=
  (∀ (s : State) (e : FlashEntry) (c : Instr) (op : FlashOp),
    ((c = .flashRead e ∧ op = .read) ∨ (c = .flashProgram e ∧ op = .program) ∨ (c = .flashErase e ∧ op = .erase) ∨
      (c = .flashMread e ∧ op = .mread)) →
    let d := psaDie e
    let x := s.die d
    let legal := entryLegal op e
    let writes := op = .program ∨ op = .erase
    let fs := [FLS_STAT_IDLE, FLS_BBT_GROWN d, FLS_BBT_FACTORY d]
    let ends (t : State) (st : Nat) : Prop :=
      t.fls = { s.fls with posted := s.fls.posted ++ [⟨e.ring.val, e.tag.val, st, 0, [], []⟩] } ∧
      t.get FLS_ERRCAP_VALID = 1 ∧ (s.get FLS_ERRCAP_VALID = 0 → t.get FLS_ERRCAP_STATUS = st ∧
        t.get FLS_ERRCAP_PSA = e.psa.toNat) ∧
      Frame [FLS_ERRCAP_VALID, FLS_ERRCAP_STATUS, FLS_ERRCAP_PSA] [.regs, .fls, .flt] s t
    (legal = true → (writes → (∀ b ∈ entryBlocks e, ringMay e.ring.val (x.area b) = true ∧
        (e.ring.val ≠ 15 → (d, b) ∉ s.fls.reserve))) → (s.get FLS_STAT_COMMIT = 0 ∨ e.ring.val = 15) →
      s.get FLS_STAT_BAND ≠ 2 → x.erasing = none →
      (x.run = none → x.queue = [] → x.startRefusal ⟨op, e⟩ = none → (∃ t, exec c s = .next t ∧
        (op = .erase → (t.die d).erasing = some ⟨⟨op, e⟩, 0, 0, false⟩ ∧ (t.die d).run = none) ∧
        (op ≠ .erase → (t.die d).run = some ⟨op, e⟩ ∧ (t.die d).erasing = none) ∧ (t.die d).queue = [] ∧
        (t.die d).blocks = x.blocks ∧ t.get FLS_STAT_IDLE = 0 ∧ t.fls.posted = s.fls.posted ∧ Frame fs [.regs, .fls] s t)) ∧
      (x.run.isSome = true → ∃ t, exec c s = .next t ∧ t.die d = { x with queue := x.queue ++ [⟨op, e⟩] } ∧
        t.fls.posted = s.fls.posted ∧ Frame fs [.regs, .fls] s t)) ∧
    (legal = false → ∃ t, exec c s = .next t ∧ ends t 0x0D ∧ Raised1 980 0 s t) ∧
    (legal = true → writes → (∃ b ∈ entryBlocks e, ringMay e.ring.val (x.area b) = false) →
      ∃ t, exec c s = .next t ∧ ends t 0x0B ∧ Raised1 980 0 s t) ∧
    (legal = true → ¬ writes → s.get FLS_STAT_COMMIT = 1 → e.ring.val ≠ 15 → ∃ t, exec c s = .next t ∧ ends t 0x08 ∧
      t.flt = s.flt) ∧
    (legal = true → ¬ writes → s.get FLS_STAT_COMMIT = 0 → s.get FLS_STAT_BAND = 2 → ∃ t, exec c s = .next t ∧ ends t 0x0C ∧
      t.flt = s.flt)) ∧
  (∀ (s : State) (d : Fin 2) (r : FlashResult) (j : FlashJob), (s.die d.val).run = some j → (s.die d.val).queue = [] →
    (s.die d.val).erasing = none → j.entry.pair = false → psaDie j.entry = d.val →
    let e := j.entry
    let b := psaBlock e
    let k := (s.die d.val).block b
    let fs := [FLS_STAT_IDLE, FLS_BBT_GROWN d.val, FLS_BBT_FACTORY d.val]
    (j.op = .read → r.erased = true → ∃ t, exec (.flashOperationEnd d r) s = .next t ∧ (t.die d.val).run = none ∧
      t.fls.posted = s.fls.posted ++ [⟨e.ring.val, e.tag.val, 3, 0, [], []⟩] ∧ Frame fs [.regs, .fls] s t) ∧
    (∀ x : FlashSector, ∀ bits : Nat, j.op = .read → r.erased = false → e.count = 0 → s.tgt.kflash = none →
      (KMap.get (fun _ => []) k.pages (psaPage e))[psaSector e]? = some x → r.bits = [bits] →
      sectorCrc x.data x.cmeta x.seq x.typ = x.scrc →
      (bits ≤ 112 → bits ≤ s.get FLS_MARGIN_REFTHR → ∃ t, exec (.flashOperationEnd d r) s = .next t ∧ (t.die d.val).run = none ∧
        t.fls.posted = s.fls.posted ++ [⟨e.ring.val, e.tag.val, 0, bits, x.data, x.cmeta⟩] ∧ t.flt = s.flt) ∧
      (bits ≤ 112 → s.get FLS_MARGIN_REFTHR < bits → ∃ t, exec (.flashOperationEnd d r) s = .next t ∧
        t.fls.posted = s.fls.posted ++ [⟨e.ring.val, e.tag.val, 1, bits, x.data, x.cmeta⟩] ∧ Counted FLS_CNT0_CORRHI s t ∧
        Raised1 967 0 s t) ∧
      (112 < bits → k.uncorr = 0 → ∃ t, exec (.flashOperationEnd d r) s = .next t ∧
        t.fls.posted = s.fls.posted ++ [⟨e.ring.val, e.tag.val, 2, 0, [], x.cmeta⟩] ∧ Counted FLS_CNT0_UNCORR s t ∧
        ((t.die d.val).block b).uncorr = 1 ∧ Raised1 966 0 s t)) ∧
    (j.op = .program → r.pass = true → 4 ≤ (s.die d.val).area b → ∃ t, exec (.flashOperationEnd d r) s = .next t ∧
      ((t.die d.val).block b).ptr = k.ptr + 1 ∧ ((t.die d.val).block b).erases = k.erases ∧
      t.fls.seq = (s.fls.seq + 1) % 2 ^ 64 ∧
      (∀ i, i < 8 → ((KMap.get (fun _ => []) ((t.die d.val).block b).pages (psaPage e))[i]?).map FlashSector.seq =
        some s.fls.seq) ∧ (d.val, b) ∉ t.fls.reserve ∧
      t.fls.posted = s.fls.posted ++ [⟨e.ring.val, e.tag.val, 0, 0, [], []⟩]) ∧
    (j.op = .program → r.pass = false → (s.die d.val).bad b = false → (s.die d.val).grown.length < 255 →
      ∃ t, exec (.flashOperationEnd d r) s = .next t ∧ ((t.die d.val).block b).ptr = 512 ∧
      (t.die d.val).grown = (s.die d.val).grown ++ [⟨b, .program, s.time⟩] ∧ Counted FLS_CNT1_PFAIL s t ∧
      t.flt.inbox = s.flt.inbox ++ [⟨969, s.time, 0, false⟩, ⟨964, s.time, 0, false⟩] ∧
      t.fls.posted = s.fls.posted ++ [⟨e.ring.val, e.tag.val, 4, 0, [], []⟩])) ∧
  (∀ (s : State) (d : Fin 2) (r : FlashResult) (k : EraseRun), (s.die d.val).run = none → (s.die d.val).queue = [] →
    (s.die d.val).erasing = some k → (s.die d.val).suspended = false → k.job.entry.pair = false →
    (s.die d.val).area (psaBlock k.job.entry) ≠ 5 → r.pass = true → ∃ t, exec (.flashOperationEnd d r) s = .next t ∧
      (t.die d.val).block (psaBlock k.job.entry) = ⟨0, ((s.die d.val).block (psaBlock k.job.entry)).erases + 1, 0, []⟩ ∧
      (t.die d.val).erasing = none ∧ t.flt = s.flt ∧
      t.fls.posted = s.fls.posted ++ [⟨k.job.entry.ring.val, k.job.entry.tag.val, 0, 0, [], []⟩])

/-- The flash store's upkeep (R305, R306, R311, R319 to R321). A timeout ends what is in progress; an erase is suspended for a
waiting read and resumed; a patrol read flags a block; the VFLASH band and the erased reserve are kept. -/
def Obligations.FlashUpkeep : Prop :=
  (∀ (s : State) (d : Fin 2) (j : FlashJob), (s.die d.val).run = some j → (s.die d.val).erasing = none →
    (s.die d.val).queue = [] → j.op = .read → ∃ t, exec (.flashDieTimeout d) s = .next t ∧ (t.die d.val).run = none ∧
      t.fls.posted = s.fls.posted ++ [⟨j.entry.ring.val, j.entry.tag.val, 9, 0, [], []⟩] ∧ Raised1 975 0 s t ∧
      Frame [FLS_STAT_IDLE, FLS_BBT_GROWN d.val, FLS_BBT_FACTORY d.val, FLS_ERRCAP_VALID, FLS_ERRCAP_STATUS, FLS_ERRCAP_PSA]
        [.regs, .fls, .flt] s t) ∧
  (∀ (s : State) (d : Fin 2) (j : FlashJob) (k : EraseRun), (s.die d.val).run = none → (s.die d.val).erasing = some k →
    let fs := [FLS_STAT_IDLE, FLS_BBT_GROWN d.val, FLS_BBT_FACTORY d.val]
    (s.die d.val).suspended = false → (s.die d.val).queue = [j] → j.op = .read →
      (∀ b ∈ entryBlocks k.job.entry, b ≠ psaBlock j.entry) → s.get FLS_SUSP_SUSPRD ≠ 0 →
      k.suspends < s.get FLS_SUSP_SUSPMAX → (s.die d.val).startRefusal j = none → s.get FLS_STAT_BAND ≠ 2 →
      ∃ t, exec (.eraseSuspend d) s = .next t ∧ (t.die d.val).suspended = true ∧ (t.die d.val).run = some j ∧
        (t.die d.val).erasing = some { k with suspends := k.suspends + 1, served := 0 } ∧ (t.die d.val).queue = [] ∧
        Counted FLS_CNT1_SUSPENDS s t ∧ Frame (FLS_CNT1_SUSPENDS :: fs) [.regs, .fls] s t) ∧
  (∀ (s : State) (d : Fin 2) (k : EraseRun), (s.die d.val).run = none → (s.die d.val).erasing = some k →
    (s.die d.val).suspended = true → (s.die d.val).queue = [] → ∃ t, exec (.eraseResume d) s = .next t ∧
      t.die d.val = { s.die d.val with suspended := false } ∧
      Frame [FLS_STAT_IDLE, FLS_BBT_GROWN d.val, FLS_BBT_FACTORY d.val] [.regs, .fls] s t) ∧
  (∀ (s : State) (d : Fin 2) (b : Fin 4096) (p : Fin 512) (bits : Nat), s.get FLS_CTL_PATROL = 1 →
    (s.die d.val).area b.val < 4 → KMap.get (fun _ => []) ((s.die d.val).block b.val).pages p.val ≠ [] → s.fls.patrol = [] →
    (s.get FLS_MARGIN_REFTHR < bits → ∃ t, exec (.patrolRead d b p bits) s = .next t ∧ t.get FLS_PATROL_VALID = 1 ∧
      t.get FLS_PATROL_DIE = d.val ∧ t.get FLS_PATROL_BLOCK = b.val ∧ t.fls = { s.fls with patrol := [(d.val, b.val)] } ∧
      Raised1 982 0 s t ∧ Frame [FLS_PATROL_VALID, FLS_PATROL_DIE, FLS_PATROL_BLOCK] [.regs, .fls, .flt] s t) ∧
    (bits ≤ s.get FLS_MARGIN_REFTHR → exec (.patrolRead d b p bits) s = .next s)) ∧
  (∀ s : State, (s.die 0).erasing = none → (s.die 1).erasing = none →
    (s.get FLS_STAT_BAND ≠ 2 → ∃ t, exec (.vflashBandChange .low) s = .next t ∧ t.get FLS_STAT_BAND = 2 ∧ Raised1 978 0 s t ∧
      Frame [FLS_STAT_BAND] [.regs, .flt] s t) ∧
    ((s.die 0).queue = [] → (s.die 1).queue = [] → ∃ t, exec (.vflashBandChange .band1) s = .next t ∧
      t.get FLS_STAT_BAND = 1 ∧ Frame [FLS_STAT_BAND] [.regs] s t)) ∧
  (∀ (s : State) (d : Fin 2) (b : Fin 4096), b.val % 2 = 0 →
    let need := 2 * ((clampNat 1 256 (s.get SQR_WIN_WIN) + 15) / 16 + 1)
    (need ≤ s.fls.reserve.length → ∃ t, exec (.reserveErase d b true) s = .next t ∧ t.get FLS_STAT_RESREQ = need ∧
      t.fls = s.fls ∧ Frame [FLS_STAT_RESREQ, FLS_STAT_RESERVE, FLS_STAT_DEGRADED] [.regs, .flt] s t) ∧
    (s.fls.reserve.length < need → s.get FLS_STAT_BAND ≠ 2 → s.get FLS_STAT_COMMIT = 0 →
      (∀ k, k = b.val ∨ k = b.val + 1 → (s.die d.val).bad k = false ∧ (s.die d.val).area k = 5 ∧ (d.val, k) ∉ s.fls.reserve ∧
        ((s.die d.val).block k).erases + 1 < s.get FLS_WEARCFG_ERLIMIT) →
      ∃ t, exec (.reserveErase d b true) s = .next t ∧ t.get FLS_STAT_RESREQ = need ∧
        t.fls.reserve = s.fls.reserve ++ [(d.val, b.val), (d.val, b.val + 1)] ∧
        (∀ k, k = b.val ∨ k = b.val + 1 → (t.die d.val).block k = ⟨0, ((s.die d.val).block k).erases + 1, 0, []⟩) ∧
        Frame [FLS_STAT_IDLE, FLS_BBT_GROWN d.val, FLS_BBT_FACTORY d.val, FLS_STAT_RESREQ, FLS_STAT_RESERVE,
          FLS_STAT_DEGRADED] [.regs, .fls, .flt] s t))

/-- Regions, failed elements and row writes (R324 to R327, R330 to R332, R340, R341, R344, R350, R351). Region Define, Delete and
Reshape Start write the region's entry or refuse with the number of the first rule broken; a declared element stands in AVFAIL,
raises its source and degrades the regions that lie on it; a reinstated one is rebuilt in place from CURSOR 0; a row write puts its
placed pages in DESTAGE, and in a degraded region journals them first. -/
def Obligations.RegionsAndElements : Prop :=
  (∀ (s : State) (tag : Nat) (r : Fin 64) (p : RegionSpec) (c : Cmd), Admitted tag 0xC3 c s →
    (s.rLayout r.val false ≠ 0 → ∃ t, exec (.regionDefine tag r p) s = .next t ∧ Completed c 0 2 1 s t ∧
      Untouched [.host, .rbt] s t) ∧
    (s.rLayout r.val false = 0 → specShape p = false → ∃ t, exec (.regionDefine tag r p) s = .next t ∧ Completed c 0 2 3 s t ∧
      Untouched [.host, .rbt] s t) ∧
    (s.rLayout r.val false = 0 → specShape p = true → s.specClear r.val p false = false →
      ∃ t, exec (.regionDefine tag r p) s = .next t ∧ Completed c 0 2 4 s t ∧ Untouched [.host, .rbt] s t) ∧
    (s.rLayout r.val false = 0 → specShape p = true → s.specClear r.val p false = true → s.specHealthy p = true →
      p.alen < 2 ^ 24 → (∀ n, p.base.getD n 0 < 2 ^ 24) → ∃ t, exec (.regionDefine tag r p) s = .next t ∧
      t.get (SQR_REGION0_LAYOUT r.val) = p.layout ∧ t.get (SQR_REGION0_AVMASK r.val) = p.mask.val ∧
      t.get (SQR_REGION0_CHUNK r.val) = p.chunk ∧ t.get (SQR_REGION0_GEN r.val) = 0 ∧ t.rd (SQR_REGION1 r.val) = 0 ∧
      t.get (SQR_REGION3_ALEN r.val) = p.alen ∧
      t.get (SQR_REGION2_RSIZE r.val) = capacity p.layout p.mask.val p.alen ∧
      (∀ n, n < 4 → t.rBase r.val false n = (if n ∈ maskAvs p.mask.val then p.base.getD n 0 else 0)) ∧
      t.red = { s.red with written := s.red.written.filter (fun w => w.1 != r.val) } ∧ Completed c 0 0 0 s t ∧
      Frame [SQR_REGION0_LAYOUT r.val, SQR_REGION0_AVMASK r.val, SQR_REGION0_CHUNK r.val, SQR_REGION0_GEN r.val,
        ⟨SQR_REGION1 r.val, 0, 32⟩, SQR_REGION2_RSIZE r.val, SQR_REGION3_ALEN r.val, SQR_REGION4_ABASE r.val,
        SQR_REGION5_ABASE r.val, SQR_REGION6_ABASE r.val, SQR_REGION7_ABASE r.val] [.regs, .red, .host, .rbt] s t)) ∧
  (∀ (s : State) (tag : Nat) (r : Fin 64) (c : Cmd), Admitted tag 0xC4 c s →
    (s.rLayout r.val false ≠ 0 → (∀ n ∈ s.host.ns, n.region ≠ r) → s.regionBusy r.val = false →
      ∃ t, exec (.regionDelete tag r) s = .next t ∧ (∀ w, w < 17 → t.rd (SQR_REGION0 r.val + 4 * w) = 0) ∧
      (∀ w ∈ t.red.written, w.1 ≠ r.val) ∧ (∀ u ∈ t.red.lostUnits, u.1 ≠ r.val) ∧ Completed c 0 0 0 s t ∧
      WordsBut ((List.range 17).map (fun w => SQR_REGION0 r.val + 4 * w)) s t ∧ Untouched [.regs, .red, .host, .rbt] s t) ∧
    (s.rLayout r.val false = 0 ∨ s.regionBusy r.val = true → ∃ t, exec (.regionDelete tag r) s = .next t ∧
      Completed c 0 2 2 s t ∧ Untouched [.host, .rbt] s t)) ∧
  (∀ (s : State) (tag : Nat) (r : Fin 64) (p : RegionSpec) (c : Cmd), Admitted tag 0xC5 c s → specShape p = true →
    s.specClear r.val p true = true → s.specHealthy p = true →
    (s.regionBusy r.val = true → ∃ t, exec (.reshapeStart tag r p) s = .next t ∧ Completed c 0 2 6 s t ∧
      Untouched [.host, .rbt] s t) ∧
    (s.rLayout r.val false ≠ 0 → s.regionBusy r.val = false → s.get (SQR_REGION2_RSIZE r.val) ≤ capacity p.layout p.mask.val p.alen →
      s.get (SQR_REGION2_RSIZE r.val) % 3 = 0 → p.alen < 2 ^ 24 → ∃ t, exec (.reshapeStart tag r p) s = .next t ∧
      t.rLayout r.val true = p.layout ∧ t.rMask r.val true = p.mask.val ∧ t.rChunk r.val true = p.chunk ∧
      t.rAlen r.val true = p.alen ∧ t.rGen r.val true = (s.rGen r.val false + 1) % 64 ∧ t.get (SQR_REGION1_RSH r.val) = 1 ∧
      t.get (SQR_REGION14_BOUND r.val) = 0 ∧ t.get (SQR_REGION15_BCKPT r.val) = 0 ∧ t.rLayout r.val false = s.rLayout r.val false ∧
      Raised1 439 0 s t ∧ Completed c 0 0 0 s t ∧ Untouched [.regs, .flt, .host, .rbt] s t)) ∧
  (∀ (s : State) (n : Fin 4) (us : List (Fin 64 × Nat)), .actuator n ∉ s.red.declared →
    ∃ t, exec (.elementDeclare (.actuator n) .servoFault us) s = .next t ∧ t.get ⟨SQR_AVFAIL, n.val, 1⟩ = 1 ∧
      t.red.declared = s.red.declared ++ [.actuator n] ∧ ⟨428 + 96 * n.val, s.time, 0, false⟩ ∈ t.flt.inbox ∧
      (∀ r, r < 64 → s.regionUses r n.val = true → t.get (SQR_REGION1_DEG r) = 1 ∧ t.get (SQR_REGION1_RSY r) = 0 ∧
        (r, n.val) ∈ t.red.lostAvs) ∧
      (∀ r, r < 64 → s.regionUses r n.val = false → t.rd (SQR_REGION1 r) = s.rd (SQR_REGION1 r)) ∧
      Untouched [.regs, .red, .flt] s t) ∧
  (∀ (s : State) (n : Fin 4) (f : Fin 5) (us : List (Fin 64 × Nat)), .face n f ∉ s.red.declared →
    ∃ t, exec (.elementDeclare (.face n f) .headsel us) s = .next t ∧ t.get ⟨SQR_AVFAIL, 4 + 5 * n.val + f.val, 1⟩ = 1 ∧
      ⟨428 + 96 * n.val + 1, s.time, 0, false⟩ ∈ t.flt.inbox ∧
      (∀ u ∈ us, s.regionUses u.1.val n.val = true → 2 ≤ s.rLayout u.1.val false →
        t.get (SQR_REGION1_DEG u.1.val) = 1 ∧ t.get (SQR_REGION1_RBD u.1.val) = 1 ∧ t.get (SQR_REGION16_CURSOR u.1.val) = 0 ∧
        (u.1.val, n.val, u.2) ∈ t.red.lostUnits) ∧ Untouched [.regs, .red, .flt] s t) ∧
  (∀ (s : State) (e : Element) (c : FailCause) (us : List (Fin 64 × Nat)), s.failApplies e c = false →
    exec (.elementDeclare e c us) s = .next s) ∧
  (∀ (s : State) (tag : Nat) (n : Fin 4) (c : Cmd), Admitted tag 0xC6 c s → .actuator n ∈ s.red.declared →
    ∃ t, exec (.elementReinstate tag (.actuator n)) s = .next t ∧ t.get ⟨SQR_AVFAIL, n.val, 1⟩ = 0 ∧
      t.red = { s.red with declared := s.red.declared.erase (.actuator n) } ∧
      (∀ r, r < 64 → (r, n.val) ∈ s.red.lostAvs → 2 ≤ s.rLayout r false → t.get (SQR_REGION1_RBD r) = 1 ∧
        t.get (SQR_REGION16_CURSOR r) = 0) ∧ Completed c 0 0 0 s t ∧ Untouched [.regs, .red, .host, .rbt] s t) ∧
  (∀ (s : State) (r : Fin 64) (st pos p q : Nat) (tgt : Bool) (g : Group), s.sqr.groups = [g] → g.region = r.val →
    g.stripe = st → g.target = tgt → g.writing = true → g.members = [(pos, p)] → g.parity = [(pos % 128, q)] → p ≠ q →
    (s.page p).st = .dirty →
    (s.get (SQR_REGION1_DEG r.val) = 0 → s.get (SQR_REGION1_RBD r.val) = 0 → (∀ a, s.unitLost r.val a (s.cursorOf r.val tgt st) = false) →
      ∃ t, exec (.rowWrite r st tgt) s = .next t ∧
      t.page p = { s.page p with st := .destage, left := s.writesNeeded (s.page p) } ∧ (∀ k, k ≠ p → t.page k = s.page k) ∧
      t.sqr.groups = [g] ∧ Untouched [.sqr] s t) ∧
    (s.get (SQR_REGION1_DEG r.val) = 1 → (s.page p).j = false → s.sqr.journalQ = [] → (r.val, st, pos % 128) ∉ s.red.journaled →
      ∃ t, exec (.rowWrite r st tgt) s = .next t ∧ t.sqr = { s.sqr with journalQ := [p, q] } ∧ Untouched [.sqr] s t))

/-- Reconstruction, rebuild, resynchronisation and reshape (R333 to R338, R342, R343, R347, R349, R351, R353 to R355). A block of a
mirrored region is delivered from its copy and set for relocation, or its read ends with qualifier 6 when it is lost, 9 with source
442 when it is suspect; a rebuild step remaps the lost unit into the spare, ends the rebuild after the last, and stops without a
spare; a resynchronisation step counts a stripe that disagrees, and ends with source 437; a reshape step moves BOUND by S, a
checkpoint takes it to BCKPT, and the end adopts the target layout, undegraded where no unit
of it is lost (R344). Stripe offsets of the target layout stand after those of the source under CURSOR (assumption 37). -/
def Obligations.ReconstructionAndReshape : Prop :=
  (∀ (s : State) (r : Fin 64) (block av av2 off tag own : Nat) (k : BlockKey) (req : ReadReq) (b : List Byte × List Byte),
    let tgt := s.unitTarget r.val (block / 128)
    let i := s.cursorOf r.val tgt off
    s.keyOf r.val block = some k → s.unitPlaces r.val tgt (block / 128) = [(av, off), (av2, off)] → req.tag = some tag →
    s.rLayout r.val tgt = 2 → s.stripeHeld r.val off = false →
    (∀ (p : Nat) (f : Fill), s.unitLost r.val av i = false → s.unitLost r.val av2 i = false → s.suspectAt r.val i = false →
      s.findPage k = some p → (s.page p).st = .fill → (s.page p).superseded = false →
      s.sqr.fills.find? (fun f => f.page == p) = some f → f.waiters = [] → b.1.length = 4096 → b.2.length = 16 →
      ∃ t, exec (.reconstruct r block req [some b] none own) s = .next t ∧ (t.page p).st = .clean ∧ (t.page p).data = b.1 ∧
        (t.page p).pmeta = b.2 ∧ Counted SQR_REDCNT_RECON s t ∧
        t.red = { s.red with relocate := s.red.relocate ++ [(r.val, block)] } ∧
        Frame [SQR_REDCNT_RECON] [.regs, .sqr, .red] s t) ∧
    (s.suspectAt r.val i = true → ∃ t, exec (.reconstruct r block req [some b] none own) s = .next t ∧
      t.sqr = { s.sqr with readEnds := s.sqr.readEnds ++ [(tag, k.lba, 2, 0x81, 9)] } ∧ Raised1 442 0 s t ∧
      Untouched [.sqr, .flt] s t) ∧
    (s.suspectAt r.val i = false → s.unitLost r.val av i = true → s.unitLost r.val av2 i = true →
      ∃ t, exec (.reconstruct r block req [some b] none own) s = .next t ∧
      t.sqr = { s.sqr with readEnds := s.sqr.readEnds ++ [(tag, k.lba, 2, 0x81, 6)] } ∧ Untouched [.sqr] s t) ∧
    (s.suspectAt r.val i = false → s.unitLost r.val av2 i = false →
      ∃ t, exec (.reconstruct r block req [none] none own) s = .next t ∧
      t.sqr = { s.sqr with readEnds := s.sqr.readEnds ++ [(tag, k.lba, 2, 0x81, own)] } ∧
      t.red = { s.red with unreadable := s.red.unreadable ++ [(r.val, block)] } ∧ Raised1 (428 + 96 * av + 4) 0 s t ∧
      Untouched [.sqr, .red, .flt] s t)) ∧
  (∀ (s : State) (r : Fin 64) (av off u : Nat), s.get (SQR_REGION1_RBD r.val) = 1 → s.red.lostUnits = [(r.val, av, off)] →
    s.red.lostAvs = [] → s.get (SQR_REGION16_CURSOR r.val) ≤ off → s.actFailed av = false → (∃ f, f < 5 ∧ s.faceFailed av f = true) →
    s.stripeHeld r.val (s.cursorAt r.val off).2 = false →
    (s.get (SQR_REGION1_SUSPECT r.val) = 0 → ∃ t, exec (.rebuildStep r (some u) [] true) s = .next t ∧
      t.red = { s.red with remaps := s.red.remaps ++ [⟨r.val, av, off, u⟩], lostUnits := [] } ∧
      t.get (SQR_REGION1_RBD r.val) = 0 ∧ t.get (SQR_REGION1_DEG r.val) = 0 ∧
      t.get (SQR_REGION16_CURSOR r.val) = (off + 1) % 2 ^ (SQR_REGION16_CURSOR r.val).wid ∧
      Raised1 (428 + 96 * av + 2) 0 s t ∧
      Frame [SQR_REGION1_RBD r.val, SQR_REGION1_DEG r.val, SQR_REGION16_CURSOR r.val, SQR_REDCNT_RECON] [.regs, .red, .flt] s t) ∧
    (∃ t, exec (.rebuildStep r none [] true) s = .next t ∧ t.get (SQR_REGION1_RBD r.val) = 0 ∧
      Raised1 (428 + 96 * av + 3) 0 s t ∧ Frame [SQR_REGION1_RBD r.val] [.regs, .flt] s t)) ∧
  (∀ (s : State) (r : Fin 64) (row : SyncRow), s.get (SQR_REGION1_RSY r.val) = 1 →
    let off := s.get (SQR_REGION16_CURSOR r.val)
    let place := s.cursorAt r.val off
    s.stripeHeld r.val place.2 = false → off + 1 < 2 ^ (SQR_REGION16_CURSOR r.val).wid →
    (off + 1 < s.cursorEnd r.val → (off + 1) % 256 ≠ 0 → ∃ t, exec (.resyncStep r []) s = .next t ∧
      t.get (SQR_REGION16_CURSOR r.val) = off + 1 ∧ Frame [SQR_REGION16_CURSOR r.val] [.regs] s t) ∧
    (s.cursorEnd r.val ≤ off + 1 → (off + 1) % 256 ≠ 0 → ∃ t, exec (.resyncStep r []) s = .next t ∧
      t.get (SQR_REGION1_RSY r.val) = 0 ∧ t.get (SQR_REGION1_SUSPECT r.val) = 0 ∧
      t.red = { s.red with found := s.red.found.erase r.val } ∧ Raised1 437 0 s t ∧
      Frame [SQR_REGION16_CURSOR r.val, SQR_REGION1_RSY r.val, SQR_REGION1_SUSPECT r.val] [.regs, .red, .flt] s t) ∧
    (∀ a b c p : List Byte × List Byte, s.rLayout r.val place.1 = 3 → off + 1 < s.cursorEnd r.val → (off + 1) % 256 ≠ 0 →
      row.blocks = [some a, some b, some c, some p] →
      (∀ d, d < 3 → (r.val, (3 * place.2 + d) * 128 + row.row) ∈ s.red.written ∧
        s.unitTarget r.val (3 * place.2 + d) = place.1) → s.red.found = [] →
      ([a, b, c].foldl (fun x y => (xorBytes x.1 y.1, xorBytes x.2 y.2)) zeroBlock) ≠ p →
      ∃ t, exec (.resyncStep r [row]) s = .next t ∧ Counted SQR_REDCNT_SYNCMIS s t ∧ t.red = { s.red with found := [r.val] } ∧
        Raised1 438 0 s t ∧ t.get (SQR_REGION16_CURSOR r.val) = off + 1 ∧
        Frame [SQR_REGION16_CURSOR r.val, SQR_REDCNT_SYNCMIS] [.regs, .red, .flt] s t) ∧
    (∃ t, exec (.resyncCheckpoint r) s = .next t ∧ KMap.get (fun _ => 0) t.red.cursorCk r.val = off ∧
      (∀ k, k ≠ r.val → KMap.get (fun _ => 0) t.red.cursorCk k = KMap.get (fun _ => 0) s.red.cursorCk k) ∧
      Untouched [.red] s t)) ∧
  (∀ (s : State) (r : Fin 64), s.get (SQR_REGION1_RSH r.val) = 1 →
    let b := s.get (SQR_REGION14_BOUND r.val)
    let size := if s.rLayout r.val false = 3 ∨ s.rLayout r.val true = 3 then 3 else 1
    (s.get (SQR_REGION1_PAUSE r.val) = 0 → s.get (SQR_REGION1_RSY r.val) = 0 → b < s.get (SQR_REGION2_RSIZE r.val) →
      b + 3 < 2 ^ 32 → (∀ g ∈ s.sqr.groups, g.region ≠ r.val) → ∃ t, exec (.reshapeStep r []) s = .next t ∧
      t.get (SQR_REGION14_BOUND r.val) = b + size ∧ Frame [SQR_REGION14_BOUND r.val] [.regs] s t) ∧
    (s.get (SQR_REGION1_PAUSE r.val) = 1 → exec (.reshapeStep r []) s = .next s) ∧
    (∃ t, exec (.reshapeCheckpoint r) s = .next t ∧ t.get (SQR_REGION15_BCKPT r.val) = b ∧
      KMap.get (fun _ => (0, 0)) t.red.reshapeCk r.val = (b, s.rGen r.val true) ∧
      Frame [SQR_REGION15_BCKPT r.val] [.regs, .red] s t) ∧
    (s.get (SQR_REGION2_RSIZE r.val) ≤ b → ∃ t, exec (.reshapeEnd r) s = .next t ∧
      t.rLayout r.val false = s.rLayout r.val true ∧ t.rMask r.val false = s.rMask r.val true ∧
      t.rChunk r.val false = s.rChunk r.val true ∧ t.rGen r.val false = s.rGen r.val true ∧
      t.rAlen r.val false = s.rAlen r.val true ∧ (∀ n, n < 4 → t.rBase r.val false n = s.rBase r.val true n) ∧
      t.get (SQR_REGION1_RSH r.val) = 0 ∧ t.get (SQR_REGION1_PAUSE r.val) = 0 ∧
      (s.red.lostUnits = [] → (∀ x ∈ s.red.lostAvs, x.1 = r.val → x.2 ∉ maskAvs (s.rMask r.val true)) →
        t.get (SQR_REGION1_DEG r.val) = 0 ∧ t.get (SQR_REGION1_RBD r.val) = 0) ∧ Raised1 440 0 s t ∧
      Untouched [.regs, .red, .flt] s t) ∧
    (b < s.get (SQR_REGION2_RSIZE r.val) → exec (.reshapeEnd r) s = .next s))

/-- Ports, functions, the setup window and NVMe-MI (R34, R360 to R365, R373, R374). A port event takes the link down, counts in
DOWNS and resets the port's functions (after a commit in Cul-de-sac or claim mode PERST_A_N starts the device, R544); LINK_UP
records rate and width and readies the functions; a TLP is used only where its checks hold; an applied function configuration takes its values or names the first rule broken; a function reset ends its
commands and returns its configuration; the window opens for an owner session on PF0 with Memory Space Enable. The Basic Management
answer's flag layout is the model's (assumption 40). -/
def Obligations.PortsAndFunctions : Prop :=
  (∀ (s : State) (p : Fin 2) (c : PortCause), s.portUsed p.val = true →
    (p.val ≠ 0 ∨ s.restricted = false ∨ s.pwr.restart = false ∨ ∀ i, c ≠ .perst i) →
    ∃ t, exec (.portEvent p c) s = .next t ∧ Counted (HST_PORT_DOWNS p.val) s t ∧
      (c ≠ .hotReset → t.get (HST_PORT_UP p.val) = 0 ∧ t.get (HST_PORT_RATE p.val) = 0 ∧ t.get (HST_PORT_WIDTH p.val) = 0 ∧
        (s.get (HST_PORT_UP p.val) = 1 → ⟨2 * p.val + 1, s.time, 0, false⟩ ∈ t.flt.inbox)) ∧
      (∀ i, c = .perst i → t.get (HST_PORT_PERST p.val) = 1 ∧ t.get (tdExpect (26 + p.val)) = 0 ∧
        ⟨4 + p.val, s.time, 0, false⟩ ∈ t.flt.inbox) ∧
      (∀ f : Fin 128, s.portOf f.val = p.val → (t.ctl f.val).ready = false ∧
        ((s.ctl f.val).en = true ∨ f.val < 2 → FunctionReset f.val s t)) ∧
      (∀ f : Fin 128, s.portOf f.val ≠ p.val → t.ctl f.val = s.ctl f.val) ∧
      Frame ([HST_PORT_DOWNS p.val, HST_PORT_UP p.val, HST_PORT_RATE p.val, HST_PORT_WIDTH p.val, HST_PORT_PERST p.val,
        tdExpect (26 + p.val)] ++ resetFlds) resetParts s t) ∧
  (∀ (s : State) (i : StartInput), s.restricted = true → s.pwr.restart = true → s.pwr.porstLow = false → s.pwr.risen = none →
    ∃ t, exec (.portEvent 0 (.perst i)) s = .next t ∧ Started i s t ∧ t.get (HST_PORT_PERST 0) = 1 ∧ t.pwr.restart = false) ∧
  (∀ (s : State) (p : Fin 2) (c : PortCause), s.portUsed p.val = false → exec (.portEvent p c) s = .next s) ∧
  (∀ (s : State) (p : Fin 2) (rate : Fin 6) (width : Fin 5), s.portUsed p.val = true → s.get (HST_PORT_PERST p.val) = 0 →
    rate.val ≠ 0 → (width.val = 1 ∨ width.val = 2 ∨ (width.val = 4 ∧ s.get HST_CTL_MODE = 0)) →
    ∃ t, exec (.linkUp p rate width) s = .next t ∧ t.get (HST_PORT_UP p.val) = 1 ∧ t.get (HST_PORT_RATE p.val) = rate.val ∧
      t.get (HST_PORT_WIDTH p.val) = width.val ∧ Raised1 (2 * p.val) 0 s t ∧
      (∀ f : Fin 128, t.ctl f.val = if s.functionsReady = true ∧ s.portOf f.val = p.val ∧ (s.restricted = false ∨ f.val = 0) then
        { s.ctl f.val with ready := true } else s.ctl f.val) ∧
      Frame [HST_PORT_UP p.val, HST_PORT_RATE p.val, HST_PORT_WIDTH p.val] [.regs, .host, .flt] s t) ∧
  (∀ (s : State) (p : Fin 2), (s.get (HST_PORT_PERST p.val) = 1 → ∃ t, exec (.perstRelease p) s = .next t ∧
      t.get (HST_PORT_PERST p.val) = 0 ∧ (s.portUsed p.val = true → t.get (tdExpect (26 + p.val)) = 1) ∧
      Frame [HST_PORT_PERST p.val, tdExpect (26 + p.val)] [.regs] s t) ∧
    (s.get (HST_PORT_UP p.val) = 1 → p.val ∉ s.host.l12 → ∃ t, exec (.linkL12Entry p) s = .next t ∧
      t.host = { s.host with l12 := s.host.l12 ++ [p.val] } ∧ t.get (tdExpect (26 + p.val)) = 0 ∧
      Frame [tdExpect (26 + p.val)] [.regs, .host] s t)) ∧
  (∀ (s : State) (p : Fin 2) (x : Tlp), s.get (HST_PORT_UP p.val) = 1 → ∃ t, exec (.tlpReceive p x) s = .next t ∧
    (x.lcrcOk = false → Counted HST_INTG_REPLAYS s t ∧ Raised1 100 0 s t ∧ Frame [HST_INTG_REPLAYS] [.regs, .flt] s t) ∧
    (x.lcrcOk = true → x.ecrcBad = true → Raised1 10 0 s t ∧ Untouched [.flt] s t) ∧
    (x.lcrcOk = true → x.ecrcBad = false → x.poisoned = true → Raised1 11 0 s t ∧ Untouched [.flt] s t) ∧
    (x.lcrcOk = true → x.ecrcBad = false → x.poisoned = false →
      t.host = { s.host with staged := s.host.staged ++ [x.data] } ∧ Untouched [.host] s t)) ∧
  (∀ (s : State) (r : SmbusRequest), s.get HST_MI_EN = 1 → r.addr.val = s.get HST_MI_ADDR → s.pwr.deep = false →
    (r.write = false → r.pecOk = true → r.code = 0 → exec (.nvmeMiRead r) s = .next { s with host := { s.host with
      smbus := some (pecAnswer r.addr.val 0
        ([6, s.miFlags, s.miWarnings, s.miTemp, s.percentUsed, 0, 0].map (BitVec.ofNat 8))) } }) ∧
    (r.write = true ∨ r.pecOk = false → ∃ t, exec (.nvmeMiRead r) s = .next t ∧ t.host = { s.host with smbus := none } ∧
      Raised1 14 0 s t ∧ Untouched [.host, .flt] s t)) ∧
  (∀ (s : State) (f : Fin 128), ∃ t, exec (.functionLevelReset f) s = .next t ∧ FunctionReset f.val s t ∧
    (∀ v : Fin 128, f.val < 2 → v.val ∈ vfsOf f.val → (s.ctl v.val).en = true → FunctionReset v.val s t) ∧
    (∀ v : Fin 128, v ≠ f → ¬ (f.val < 2 ∧ v.val ∈ vfsOf f.val ∧ (s.ctl v.val).en = true) → t.ctl v.val = s.ctl v.val) ∧
    Frame resetFlds resetParts s t) ∧
  (∀ s : State, (((List.range 128).filter (fun f => s.is (HST_FN_EN f))).map (fun f => 1 + s.get (HST_FN_IOQ f))).sum ≤ 4096 →
    (((List.range 128).filter (fun f => s.is (HST_FN_EN f))).map (fun f => s.get (HST_FN_MSIX f))).sum ≤ 16384 →
    (∀ f, f < 128 → s.get (HST_FN_EN f) = 1 → 1 ≤ s.get (HST_FN_IOQ f) ∧ 1 ≤ s.get (HST_FN_MSIX f) ∧
      s.get (HST_FN_MSIX f) ≤ 2048 ∧ (2 ≤ f → f < 65 → f - 1 ≤ s.get (HST_PFCFG_TOTALVF 0)) ∧
      (65 ≤ f → f - 64 ≤ s.get (HST_PFCFG_TOTALVF 1))) →
    ∃ t, exec .functionConfigApply s = .next t ∧ t.get HST_CFGSTAT_ERR = 0 ∧
      (∀ f, f < 128 → t.ctl f = { s.ctl f with
        apEn := s.is (HST_FN_EN f), apMsix := s.get (HST_FN_MSIX f), apIoq := s.get (HST_FN_IOQ f) }) ∧
      Frame [HST_CFGSTAT_ERR, HST_CFGSTAT_FN] [.regs, .host] s t) ∧
  (∀ s : State, s.fnCheck.1 ≠ 0 → ∃ t, exec .functionConfigApply s = .next t ∧ t.get HST_CFGSTAT_ERR = s.fnCheck.1 ∧
    t.get HST_CFGSTAT_FN = s.fnCheck.2 ∧ Raised1 9 0 s t ∧ Frame [HST_CFGSTAT_ERR, HST_CFGSTAT_FN] [.regs, .flt] s t) ∧
  (∀ (s : State) (f : Fin 128) (on : Bool), (s.ctl f.val).ready = true →
    (∃ t, exec (.pciConfigWrite f (.memorySpace on)) s = .next t ∧ t.ctl f.val = { s.ctl f.val with mse := on } ∧
      (f.val = 0 → on = false → s.bus.winOpen = true → t.bus = { s.bus with winOpen := false, page := 0 } ∧ Raised1 15 0 s t) ∧
      (f.val ≠ 0 ∨ on = true → t.bus = s.bus ∧ t.flt = s.flt) ∧ (∀ g, g ≠ f.val → t.ctl g = s.ctl g) ∧
      Untouched [.bus, .flt, .host] s t) ∧
    (f.val < 2 → s.restricted = false → ∃ t, exec (.pciConfigWrite f (.vfEnable on)) s = .next t ∧
      t.ctl f.val = { s.ctl f.val with vfEnable := on } ∧
      ((s.ctl f.val).vfEnable = true → on = false → ∀ v : Fin 128, v.val ∈ vfsOf f.val → (s.ctl v.val).en = true →
        FunctionReset v.val s t) ∧ Frame resetFlds resetParts s t)) ∧
  (∀ s : State, s.ownerFn = some 0 → (s.ctl 0).mse = true →
    exec .setupWindowOpen s = .next { s with bus := { s.bus with winOpen := true } })

/-- Doorbells, controllers, fetch arbitration and posting (R363, R365, R378, R379, R381, R382, R389, R392, R398, R404, R405, R408,
R411). A doorbell write in range moves its pointer and any other is discarded with source 143; a controller is enabled with its
admin queues, reset, or shut down behind a drain; the Roundabout fetches from an admin queue before an urgent one before a normal
one, charges the controller's credit, and turns away what the checks refuse; the oldest completion of a queue with room is posted
and frees its tag. The tag chosen is the model's (the lowest free). -/
def Obligations.QueuesAndFetch : Prop :=
  (∀ (s : State) (f : Fin 128) (qid : Fin 4096) (v : Nat),
    (∀ q, (s.ctl f.val).sqs.find? (fun q => q.qid == qid.val) = some q → v < q.size →
      ∃ t, exec (.submissionQueueDoorbell f qid v) s = .next t ∧ { q with tail := v } ∈ (t.ctl f.val).sqs ∧
        (∀ x ∈ (s.ctl f.val).sqs, x.qid ≠ qid.val → x ∈ (t.ctl f.val).sqs) ∧ (t.ctl f.val).cqs = (s.ctl f.val).cqs ∧
        (∀ g, g ≠ f.val → t.ctl g = s.ctl g) ∧ Untouched [.host] s t) ∧
    (∀ q, (s.ctl f.val).cqs.find? (fun q => q.qid == qid.val) = some q → v < q.size →
      (v + q.size - q.head) % q.size ≤ (q.tail + q.size - q.head) % q.size →
      ∃ t, exec (.completionQueueDoorbell f qid v) s = .next t ∧
        { q with head := v, full := if v = q.head then q.full else false } ∈ (t.ctl f.val).cqs ∧
        (t.ctl f.val).sqs = (s.ctl f.val).sqs ∧ (∀ g, g ≠ f.val → t.ctl g = s.ctl g) ∧ Untouched [.host] s t) ∧
    ((s.ctl f.val).aers = [] → (∀ x, (0, x) ∉ (s.ctl f.val).events) →
      ((s.ctl f.val).sqs.find? (fun q => q.qid == qid.val) = none →
        ∃ t, exec (.submissionQueueDoorbell f qid v) s = .next t ∧ (t.ctl f.val).sqs = (s.ctl f.val).sqs ∧
          (t.ctl f.val).events = (s.ctl f.val).events ++ [(0, 0)] ∧ Raised1 143 0 s t ∧ Untouched [.host, .flt] s t) ∧
      (∀ q, (s.ctl f.val).sqs.find? (fun q => q.qid == qid.val) = some q → q.size ≤ v →
        ∃ t, exec (.submissionQueueDoorbell f qid v) s = .next t ∧ (t.ctl f.val).sqs = (s.ctl f.val).sqs ∧
          (t.ctl f.val).events = (s.ctl f.val).events ++ [(0, 1)] ∧ Raised1 143 0 s t ∧ Untouched [.host, .flt] s t))) ∧
  (∀ (s : State) (f : Fin 128) (ams : Fin 8) (asq acq : Nat), (s.ctl f.val).ccEn = false → (s.ctl f.val).ready = true →
    (f.val < 2 ∨ (s.ctl f.val).en = true → s.tgt.debugOpen = false → ∃ t,
      exec (.controllerEnable f ams asq acq) s = .next t ∧ t.ctl f.val = { s.ctl f.val with
        ccEn := true, ams := ams.val, ioq := (s.ctl f.val).apIoq, rdy := true, shst := 0,
        sqs := [⟨0, clampNat 2 4096 asq, 0, 0, 0, 0⟩], cqs := [⟨0, clampNat 2 4096 acq, 0, 0, 0, [], false⟩] } ∧
        (∀ g, g ≠ f.val → t.ctl g = s.ctl g) ∧ Untouched [.host] s t) ∧
    (2 ≤ f.val → (s.ctl f.val).en = false → ∃ t, exec (.controllerEnable f ams asq acq) s = .next t ∧
      t.ctl f.val = { s.ctl f.val with ccEn := true, cfs := true } ∧ Untouched [.host] s t)) ∧
  (∀ (s : State) (f : Fin 128), (s.ctl f.val).ccEn = true → ∃ t, exec (.controllerReset f) s = .next t ∧
    ControllerReset f.val s t ∧ (t.ctl f.val).mse = (s.ctl f.val).mse ∧ (∀ g, g ≠ f.val → t.ctl g = s.ctl g) ∧
    Frame resetFlds resetParts s t) ∧
  (∀ (s : State) (f : Fin 128) (abrupt : Bool), (s.ctl f.val).ccEn = true → (s.ctl f.val).shst = 0 →
    ((∃ c ∈ s.rbt.cmds, c.fn = f.val ∧ c.phase ≠ .parked) → ∃ t, exec (.controllerShutdown f abrupt) s = .next t ∧
      t.ctl f.val = { s.ctl f.val with shst := 1, shutdown := some none } ∧ Untouched [.host] s t) ∧
    ((∀ c ∈ s.rbt.cmds, c.fn = f.val → c.phase = .parked) → s.sqr.drains.length < 255 → ∃ t,
      exec (.controllerShutdown f abrupt) s = .next t ∧ DrainAsked s t ∧
      t.ctl f.val = { s.ctl f.val with shst := 1, shutdown := some (some s.sqr.nextDrain) } ∧
      Frame [SQR_DRAIN_EPOCH] [.regs, .sqr, .host] s t)) ∧
  (∀ (s : State) (e : Sqe) (f : Nat) (q : SubQueue), q ∈ (s.ctl f).sqs → s.rbt.cmds.length < 16128 →
    (s.openQueues 2 = [(f, q)] → s.fetchStatus f 2 e = none → ∃ t, exec (.commandFetch e) s = .next t ∧ CommandFetched f q 2 e s t ∧
      t.rbt.credit = s.rbt.credit ∧ Untouched [.host, .rbt] s t) ∧
    (s.openQueues 2 = [] → s.openQueues 1 = [(f, q)] → s.fetchStatus f 1 e = none → ∃ t, exec (.commandFetch e) s = .next t ∧
      CommandFetched f q 1 e s t ∧ t.rbt.credit = s.rbt.credit ∧ Untouched [.host, .rbt] s t) ∧
    (s.openQueues 2 = [] → s.openQueues 1 = [] → s.openQueues 0 = [(f, q)] → s.fetchStatus f 0 e = none →
      ∃ t, exec (.commandFetch e) s = .next t ∧ CommandFetched f q 0 e s t ∧ t.rbt.cur = f ∧
      KMap.get (fun _ => 0) t.rbt.credit f =
        (if 0 < KMap.get (fun _ => 0) s.rbt.credit s.rbt.cur ∧ f = s.rbt.cur then KMap.get (fun _ => 0) s.rbt.credit f
          else min (KMap.get (fun _ => 0) s.rbt.credit f) 0 + (orOne (s.get (RBT_CW_CW f)) : Int)) - (fetchCost false e : Int) ∧
      (∀ g, g ≠ f → KMap.get (fun _ => 0) t.rbt.credit g = KMap.get (fun _ => 0) s.rbt.credit g) ∧
      Untouched [.host, .rbt] s t) ∧
    (∀ sct sc : Nat, s.openQueues 2 = [(f, q)] → (∃ x ∈ (s.ctl f).cqs, x.qid = q.cq) → s.fetchStatus f 2 e = some (sct, sc) →
      ∃ (t : State) (c : Cmd), exec (.commandFetch e) s = .next t ∧ t.rbt.cmds = s.rbt.cmds ++ [c] ∧ c.phase = .done ∧
        c.fn = f ∧ c.sqe = e ∧ Completed c sct sc 0 s t ∧ Untouched [.host, .rbt] s t)) ∧
  (∀ (s : State) (e : Sqe), s.openQueues 2 = [] → s.openQueues 1 = [] → s.openQueues 0 = [] →
    exec (.commandFetch e) s = .next s) ∧
  (∀ (s : State) (f : Fin 128) (cq : Fin 4096) (q : CompQueue) (x : Completion) (rest : List Completion) (c : Cmd),
    (s.ctl f.val).cqs.find? (fun q => q.qid == cq.val) = some q → (q.tail + 1) % q.size ≠ q.head → q.waiting = x :: rest →
    s.cmd x.tag = some c → c.fn = f.val → (s.ctl f.val).aborts = [] → (s.ctl f.val).shutdown = none → s.rbt.act = none →
    ∃ t, exec (.completionPost f cq) s = .next t ∧ (∀ d ∈ t.rbt.cmds, d.tag ≠ x.tag) ∧
      (∀ d ∈ s.rbt.cmds, d.tag ≠ x.tag → d ∈ t.rbt.cmds) ∧
      (∃ y ∈ (t.ctl f.val).cqs, y.qid = cq.val ∧ y.tail = (q.tail + 1) % q.size ∧ y.waiting = rest) ∧
      ((q.tail + 2) % q.size = q.head → q.full = false → 2 ≤ q.size → Raised1 142 0 s t) ∧
      Untouched [.host, .rbt, .sqr, .flt] s t) ∧
  (∀ s : State, s.rbt.merge ≠ [] → s.sqr.drains.length < 255 → ∃ t, exec .drainMergeExpiry s = .next t ∧ DrainAsked s t ∧
    t.rbt.merge = [] ∧ (∀ c ∈ s.rbt.cmds, c.tag ∈ s.rbt.merge → { c with phase := .draining s.sqr.nextDrain } ∈ t.rbt.cmds) ∧
    (∀ c ∈ s.rbt.cmds, c.tag ∉ s.rbt.merge → c ∈ t.rbt.cmds) ∧ Frame [SQR_DRAIN_EPOCH] [.regs, .sqr, .rbt] s t) ∧
  (∀ (s : State) (tag : Nat) (c : Cmd), Admitted tag 0xC7 c s →
    (s.claimed = true → ∃ t, exec (.setControllerWeight tag) s = .next t ∧
      t.get (RBT_CW_CW (bitsOf c.sqe.c10 0 7)) = bitsOf c.sqe.c11 0 8 ∧ Completed c 0 0 0 s t ∧
      Frame [RBT_CW_CW (bitsOf c.sqe.c10 0 7)] [.regs, .host, .rbt] s t) ∧
    (s.claimed = false → ∃ t, exec (.setControllerWeight tag) s = .next t ∧ Completed c 0 2 1 s t ∧
      Untouched [.host, .rbt] s t))

/-- Queue management, features, Identify, log pages, Abort and asynchronous events (R366 to R368, R395, R402, R526, Tables 12-5,
13-7 to 13-9). A queue is created with what its command names, or refused with the command-specific status of the first check that
fails; deleting a submission queue ends its reads with Commands Aborted due to SQ Deletion; features are kept by identifier; the
recorder's logs need the owner session; an Abort ends a command that can be ended and completes after it. Identify and log bytes
that the spec leaves to the standard are the model's (assumption 40). -/
def Obligations.AdminCommands : Prop :=
  (∀ (s : State) (tag : Nat) (c : Cmd), Admitted tag 1 c s →
    let k := s.ctl c.fn
    let qid := bitsOf c.sqe.c10 0 16
    let size := bitsOf c.sqe.c10 16 16 + 1
    let cq := bitsOf c.sqe.c11 16 16
    (cq ≠ 0 → (∃ q ∈ k.cqs, q.qid = cq) → (∀ q ∈ k.sqs, q.qid ≠ qid) → 1 ≤ qid → qid ≤ k.ioq → 2 ≤ size → size ≤ 4096 →
      bitsOf c.sqe.c11 0 1 = 1 → ∃ t, exec (.createIoSubmissionQueue tag) s = .next t ∧ Completed c 0 0 0 s t ∧
      (t.ctl c.fn).sqs = k.sqs ++ [⟨qid, size, 0, 0, cq, bitsOf c.sqe.c11 1 2⟩] ∧ Untouched [.host, .rbt] s t) ∧
    (cq = 0 ∨ (∀ q ∈ k.cqs, q.qid ≠ cq) → ∃ t, exec (.createIoSubmissionQueue tag) s = .next t ∧ Completed c 1 0 0 s t ∧
      (t.ctl c.fn).sqs = k.sqs ∧ Untouched [.host, .rbt] s t)) ∧
  (∀ (s : State) (tag : Nat) (c : Cmd), Admitted tag 5 c s →
    let k := s.ctl c.fn
    let qid := bitsOf c.sqe.c10 0 16
    let size := bitsOf c.sqe.c10 16 16 + 1
    let iv := bitsOf c.sqe.c11 16 16
    ((∀ q ∈ k.cqs, q.qid ≠ qid) → 1 ≤ qid → qid ≤ k.ioq → 2 ≤ size → size ≤ 4096 → iv < k.msix → bitsOf c.sqe.c11 0 1 = 1 →
      ∃ t, exec (.createIoCompletionQueue tag) s = .next t ∧ Completed c 0 0 0 s t ∧
      ⟨qid, size, 0, 0, iv, [], false⟩ ∈ (t.ctl c.fn).cqs ∧ (t.ctl c.fn).sqs = k.sqs ∧ Untouched [.host, .rbt] s t) ∧
    ((∀ q ∈ k.cqs, q.qid ≠ qid) → 1 ≤ qid → qid ≤ k.ioq → 2 ≤ size → size ≤ 4096 → k.msix ≤ iv →
      ∃ t, exec (.createIoCompletionQueue tag) s = .next t ∧ Completed c 1 8 0 s t ∧ Untouched [.host, .rbt] s t) ∧
    (qid = 0 ∨ k.ioq < qid → ∃ t, exec (.createIoCompletionQueue tag) s = .next t ∧ Completed c 1 1 0 s t ∧
      Untouched [.host, .rbt] s t)) ∧
  (∀ (s : State) (tag : Nat) (c : Cmd), Admitted tag 0 c s →
    let qid := bitsOf c.sqe.c10 0 16
    qid ≠ 0 → (∃ q ∈ (s.ctl c.fn).sqs, q.qid = qid) →
    ((∀ d ∈ s.rbt.cmds, d.fn = c.fn → d.sq = qid → d.endable = false) → ∃ t, exec (.deleteIoSubmissionQueue tag) s = .next t ∧
      (t.ctl c.fn).sqs = (s.ctl c.fn).sqs.filter (fun q => q.qid != qid) ∧ Completed c 0 0 0 s t ∧
      Untouched [.host, .rbt] s t) ∧
    (∀ d : Cmd, s.rbt.cmds.filter (fun d => d.fn == c.fn && d.sq == qid && d.endable) = [d] → InFlight d.tag d s →
      d.tag ≠ tag → d.cq ≠ c.cq → ∃ t, exec (.deleteIoSubmissionQueue tag) s = .next t ∧ Completed d 0 8 0 s t ∧
      Completed c 0 0 0 s t ∧ Untouched [.host, .rbt, .arc] s t)) ∧
  (∀ (s : State) (tag : Nat) (c : Cmd) (q : CompQueue), Admitted tag 4 c s → bitsOf c.sqe.c10 0 16 ≠ 0 →
    (s.ctl c.fn).cqs.find? (fun q => q.qid == bitsOf c.sqe.c10 0 16) = some q →
    ((∀ x ∈ (s.ctl c.fn).sqs, x.cq ≠ q.qid) → q.waiting = [] → c.cq ≠ q.qid → ∃ t,
      exec (.deleteIoCompletionQueue tag) s = .next t ∧ (∀ x ∈ (t.ctl c.fn).cqs, x.qid ≠ q.qid) ∧
      (t.ctl c.fn).sqs = (s.ctl c.fn).sqs ∧ Completed c 0 0 0 s t ∧ Untouched [.host, .rbt] s t) ∧
    ((∃ x ∈ (s.ctl c.fn).sqs, x.cq = q.qid) → ∃ t, exec (.deleteIoCompletionQueue tag) s = .next t ∧
      Completed c 1 0xC 0 s t ∧ Untouched [.host, .rbt] s t)) ∧
  (∀ (s : State) (tag : Nat) (data : List Byte) (c : Cmd), Admitted tag 9 c s →
    let fid := bitsOf c.sqe.c10 0 8
    (bitsOf c.sqe.c10 31 1 = 0 → (fid = 1 ∨ fid = 4 ∨ fid = 8 ∨ fid = 0xB ∨ fid = 0x82 ∨ (fid = 2 ∧ bitsOf c.sqe.c11 0 5 = 0) ∨
        (fid = 9 ∧ bitsOf c.sqe.c11 0 16 < (s.ctl c.fn).msix)) → ∃ t, exec (.setFeatures tag data) s = .next t ∧
      (t.ctl c.fn).feat (featureKey fid c.sqe.c11) = c.sqe.c11 ∧
      (∀ g, g ≠ featureKey fid c.sqe.c11 → (t.ctl c.fn).feat g = (s.ctl c.fn).feat g) ∧ Completed c 0 0 0 s t ∧
      Untouched [.host, .rbt] s t) ∧
    (bitsOf c.sqe.c10 31 1 = 0 → fid = 7 → bitsOf c.sqe.c11 0 16 ≠ 65535 → bitsOf c.sqe.c11 16 16 ≠ 65535 → ∃ t,
      exec (.setFeatures tag data) s = .next t ∧ Completed c 0 0 (min (bitsOf c.sqe.c11 0 16) ((s.ctl c.fn).ioq - 1) +
        65536 * min (bitsOf c.sqe.c11 16 16) ((s.ctl c.fn).ioq - 1)) s t ∧ Untouched [.host, .rbt] s t) ∧
    (bitsOf c.sqe.c10 31 1 = 1 → (ctlFeature fid || nsFeature fid) = true → ∃ t, exec (.setFeatures tag data) s = .next t ∧
      Completed c 1 0xD 0 s t ∧ Untouched [.host, .rbt] s t) ∧
    ((ctlFeature fid || nsFeature fid) = false → ∃ t, exec (.setFeatures tag data) s = .next t ∧ Completed c 0 2 0 s t ∧
      Untouched [.host, .rbt] s t)) ∧
  (∀ (s : State) (tag : Nat) (c : Cmd), Admitted tag 0xA c s →
    let fid := bitsOf c.sqe.c10 0 8
    (ctlFeature fid = true → fid ≠ 7 → fid ≠ 0x81 → ∃ t, exec (.getFeatures tag) s = .next t ∧
      Completed c 0 0 (if bitsOf c.sqe.c10 8 3 = 1 then featDefault (featureKey fid c.sqe.c11) else
        (s.ctl c.fn).feat (featureKey fid c.sqe.c11)) s t ∧ Untouched [.host, .rbt] s t) ∧
    (∀ n : Namespace, fid = 5 → bitsOf c.sqe.c10 8 3 ≠ 1 →
      s.host.ns.find? (fun n => n.nsid == c.sqe.nsid && n.attached.contains c.fn) = some n →
      ∃ t, exec (.getFeatures tag) s = .next t ∧ Completed c 0 0 n.tler s t ∧ Untouched [.host, .rbt] s t)) ∧
  (∀ (s : State) (tag : Nat) (c : Cmd), Admitted tag 6 c s →
    (bitsOf c.sqe.c10 0 8 = 1 → ∃ t, exec (.identify tag) s = .next t ∧ (tag, s.identifyController c.fn) ∈ t.host.reply ∧
      Completed c 0 0 0 s t ∧ Untouched [.host, .rbt] s t) ∧
    (∀ n : Namespace, bitsOf c.sqe.c10 0 8 = 0 → 1 ≤ c.sqe.nsid → c.sqe.nsid ≤ 1024 → s.nsFor c.fn c.sqe.nsid = some n →
      ∃ t, exec (.identify tag) s = .next t ∧ (tag, identifyNamespace n) ∈ t.host.reply ∧ Completed c 0 0 0 s t ∧
      Untouched [.host, .rbt] s t) ∧
    (bitsOf c.sqe.c10 0 8 = 0 → c.sqe.nsid = 0 ∨ 1024 < c.sqe.nsid → ∃ t, exec (.identify tag) s = .next t ∧
      Completed c 0 0xB 0 s t ∧ Untouched [.host, .rbt] s t)) ∧
  (∀ (s : State) (tag : Nat) (c : Cmd), Admitted tag 2 c s →
    let lid := bitsOf c.sqe.c10 0 8
    (∀ bytes : List Byte, (lid = 0xC1 ∨ lid = 0xC2 ∨ lid = 0xC3 → c.owner = true) → s.logPage c.fn lid = some bytes →
      ∃ t, exec (.getLogPage tag) s = .next t ∧ (tag, (bytes.drop (c.sqe.c12 + 2 ^ 32 * c.sqe.c13)).take
        (4 * (bitsOf c.sqe.c10 16 16 + 65536 * bitsOf c.sqe.c11 0 16 + 1))) ∈ t.host.reply ∧
      (lid = 4 → (t.ctl c.fn).changedNs = []) ∧ Completed c 0 0 0 s t ∧ Untouched [.host, .rbt] s t) ∧
    (lid = 0xC1 ∨ lid = 0xC2 ∨ lid = 0xC3 → c.owner = false → ∃ t, exec (.getLogPage tag) s = .next t ∧
      Completed c 2 0x86 0 s t ∧ Untouched [.host, .rbt] s t)) ∧
  (∀ (s : State) (tag : Nat) (c : Cmd), Admitted tag 8 c s → (s.ctl c.fn).aborts.length < 8 →
    ((∀ d ∈ s.rbt.cmds, d.fn = c.fn → d.sq = bitsOf c.sqe.c10 0 16 → d.sqe.cid ≠ bitsOf c.sqe.c10 16 16) →
      ∃ t, exec (.abort tag []) s = .next t ∧ Completed c 0 0 1 s t ∧ Untouched [.host, .rbt] s t) ∧
    (∀ d : Cmd, s.aborted? c = some d → d.endable = true → arcOp d.sqe.opcode = false → InFlight d.tag d s →
      ∃ t, exec (.abort tag []) s = .next t ∧ Completed d 0 7 0 s t ∧ (t.ctl c.fn).aborts = (s.ctl c.fn).aborts ++ [(tag, d.tag)] ∧
      (t.cmd tag).map Cmd.phase = some .parked ∧ Raised1 144 0 s t ∧ Untouched [.host, .rbt, .arc, .flt] s t)) ∧
  (∀ (s : State) (tag : Nat) (c : Cmd), Admitted tag 8 c s → 8 ≤ (s.ctl c.fn).aborts.length →
    ∃ t, exec (.abort tag []) s = .next t ∧ Completed c 1 3 0 s t ∧ Raised1 153 0 s t ∧ Untouched [.host, .rbt, .flt] s t) ∧
  (∀ (s : State) (tag : Nat) (c : Cmd), Admitted tag 0xC c s →
    (∀ (typ info : Nat) (rest : List (Nat × Nat)), (s.ctl c.fn).events = (typ, info) :: rest →
      ∃ t, exec (.asynchronousEventRequest tag) s = .next t ∧ (t.ctl c.fn).events = rest ∧
      Completed c 0 0 (typ + 256 * info + 65536) s t ∧ Untouched [.host, .rbt] s t) ∧
    ((s.ctl c.fn).events = [] → ∃ t, exec (.asynchronousEventRequest tag) s = .next t ∧
      (t.ctl c.fn).aers = (s.ctl c.fn).aers ++ [tag] ∧ (t.cmd tag).map Cmd.phase = some .parked ∧
      Untouched [.host, .rbt] s t))

/-- Commands of namespaces (R140, R269 to R271, R274, R369 to R372, R392, R393, R396, R397, R440). A write's block is enciphered
for its place and placed DIRTY, and the write completes at once, or behind a drain where it must; a read returns the deciphered
block, or zeros for an unwritten one, or fails with its qualifier; Verify returns no data; deallocation makes blocks unwritten; Flush
asks for a drain; a conflict ends with Reservation Conflict and source 13; reservation commands change the registrants and the holder.
Statuses and the reservation report's layout follow the standard that the spec names (assumption 40). -/
def Obligations.NamespaceCommands : Prop :=
  (∀ (s : State) (tag : Nat) (w : WriteInput) (i : Instr) (op : Nat) (c : Cmd) (n : Namespace) (d m md : List Byte) (p : Nat)
    (u : State),
    ((i = .write tag w ∧ op = 1 ∧ w.blocks = [(d, m)] ∧ writeMeta n c.sqe (slba c.sqe) d m = .ok md) ∨
      (i = .writeZeroes tag w ∧ op = 8 ∧ bitsOf c.sqe.c12 25 1 = 0 ∧ d = List.replicate 4096 0 ∧ n.pi = 0 ∧
        md = List.replicate 16 0)) →
    s.ioCmd tag op = some (c, n) → InFlight tag c s → (s.rbt.cmds.map Cmd.tag).Nodup →
    (∀ x ∈ s.rbt.cmds, x.phase ≠ .placing) → slba c.sqe + 1 ≤ n.size → nlb c.sqe = 1 → s.conflict c n true = false →
    w.hops = ⟨false, 0, false⟩ → s.tenOf c.fn = some n.ten → s.get SQR_STAT_READY = 1 → s.sqr.lossHold = false →
    s.pwr.cleanStop = false → s.sqr.held = [] → s.dirtyPages < s.winPages → s.takePage false = some (p, u) →
    (∀ l, s.locOf (n.nsid - 1) (slba c.sqe) = some l → s.layoutFor l ≠ 3) →
    u.findPage ⟨some n.ten, n.nsid - 1, slba c.sqe⟩ = none →
    ∃ t, exec i s = .next t ∧ (t.page p).st = .dirty ∧ (t.page p).j = false ∧
      (t.page p).key = ⟨some n.ten, n.nsid - 1, slba c.sqe⟩ ∧
      (t.page p).data = (match n.key with
        | some k => xts false k (slba c.sqe) d
        | none => d) ∧ (t.page p).pmeta = md ∧ (t.page p).ecrc = crc32c ((t.page p).data ++ md) ∧
      (∀ q, q ≠ p → t.page q = u.page q) ∧
      ((s.ctl c.fn).feat 6 = 1 → bitsOf c.sqe.c12 30 1 = 0 → s.get SPN_STAT_RETOK = 1 → Completed c 0 0 0 s t) ∧
      ((s.ctl c.fn).feat 6 = 0 ∨ bitsOf c.sqe.c12 30 1 = 1 ∨ s.get SPN_STAT_RETOK = 0 → s.get RBT_ARB_DRCOAL = 0 →
        s.sqr.drains.length < 255 → (t.cmd tag).map Cmd.phase = some (.draining s.sqr.nextDrain) ∧
        t.sqr.nextDrain = s.sqr.nextDrain + 1) ∧
      Frame [SQR_DRAIN_EPOCH] [.regs, .sqr, .red, .host, .rbt, .flt] s t) ∧
  (∀ (s : State) (tag : Nat) (w : WriteInput) (i : Instr) (op : Nat) (c : Cmd) (n : Namespace),
    ((i = .write tag w ∧ op = 1) ∨ (i = .writeZeroes tag w ∧ op = 8)) → s.ioCmd tag op = some (c, n) → InFlight tag c s →
    (n.size < slba c.sqe + nlb c.sqe → ∃ t, exec i s = .next t ∧ Completed c 0 0x80 0 s t ∧ Untouched [.host, .rbt] s t) ∧
    (slba c.sqe + nlb c.sqe ≤ n.size → nlb c.sqe ≤ 512 → s.conflict c n true = true → ∃ t, exec i s = .next t ∧
      Completed c 0 0x83 0 s t ∧ Raised1 13 0 s t ∧ Untouched [.host, .rbt, .flt] s t)) ∧
  (∀ (s : State) (tag : Nat) (w : WriteInput) (c : Cmd) (n : Namespace), s.ioCmd tag 8 = some (c, n) → InFlight tag c s →
    slba c.sqe + nlb c.sqe ≤ n.size → s.conflict c n true = false → bitsOf c.sqe.c12 25 1 = 1 →
    ∃ t, exec (.writeZeroes tag w) s = .next t ∧ Completed c 0 0 0 s t ∧
      (∀ x, (n.region.val, x) ∈ t.red.written ↔ (n.region.val, x) ∈ s.red.written ∧
        (x < n.base + slba c.sqe ∨ n.base + slba c.sqe + nlb c.sqe ≤ x)) ∧ Untouched [.sqr, .red, .host, .rbt] s t) ∧
  (∀ (s : State) (tag : Nat) (ranges : List (Nat × Nat)) (c : Cmd) (n : Namespace), s.ioCmd tag 9 = some (c, n) →
    InFlight tag c s → (∀ r ∈ ranges, r.1 + r.2 ≤ n.size) → s.conflict c n true = false →
    (bitsOf c.sqe.c11 2 1 = 1 → ∃ t, exec (.datasetManagement tag ranges) s = .next t ∧ Completed c 0 0 0 s t ∧
      (∀ r ∈ ranges, ∀ x, r.1 ≤ x → x < r.1 + r.2 → (n.region.val, n.base + x) ∉ t.red.written) ∧
      Untouched [.sqr, .red, .host, .rbt] s t) ∧
    (bitsOf c.sqe.c11 2 1 = 0 → ∃ t, exec (.datasetManagement tag ranges) s = .next t ∧ Completed c 0 0 0 s t ∧
      Untouched [.host, .rbt] s t)) ∧
  (∀ (s : State) (tag : Nat) (i : Instr) (op : Nat) (c : Cmd) (n : Namespace) (r : ReadInput),
    ((i = .read tag r ∧ op = 2) ∨ (i = .verify tag r ∧ op = 0xC)) → s.ioCmd tag op = some (c, n) → InFlight tag c s →
    slba c.sqe + 1 ≤ n.size → nlb c.sqe = 1 → s.conflict c n false = false → s.get SQR_STAT_READY = 1 →
    s.tenOf c.fn = some n.ten → bitsOf c.sqe.c12 30 1 = 0 → s.get SQR_RA_EN = 0 → r.hops = ⟨false, 0, false⟩ → r.dram = [] →
    (∀ x ∈ s.sqr.readEnds, ¬ (x.1 = tag ∧ x.2.1 = slba c.sqe)) →
    (∀ (p : Nat) (k : XtsKey), s.findPage ⟨some n.ten, n.nsid - 1, slba c.sqe⟩ = some p → (s.page p).st = .dirty →
      (s.page p).entryOk = true → n.key = some k → n.pi = 0 → ∃ t, exec i s = .next t ∧ Completed c 0 0 0 s t ∧
      (op = 2 → (tag, xts true k (slba c.sqe) (s.page p).data ++
        (if n.lbaf = 0 then [] else (s.page p).pmeta.take (8 * n.lbaf))) ∈ t.host.reply) ∧
      (op = 0xC → t.host.reply = s.host.reply) ∧ Untouched [.sqr, .host, .rbt] s t) ∧
    (s.lookupKey ⟨some n.ten, n.nsid - 1, slba c.sqe⟩ = .miss → (n.region.val, n.base + slba c.sqe) ∉ s.red.written →
      n.lbaf = 0 → ∃ t, exec i s = .next t ∧ Completed c 0 0 0 s t ∧
      (op = 2 → (tag, List.replicate 4096 0) ∈ t.host.reply) ∧ Untouched [.sqr, .host, .rbt] s t)) ∧
  (∀ (s : State) (tag : Nat) (i : Instr) (op : Nat) (c : Cmd) (n : Namespace) (r : ReadInput) (q : Nat),
    ((i = .read tag r ∧ op = 2) ∨ (i = .verify tag r ∧ op = 0xC)) → s.ioCmd tag op = some (c, n) → InFlight tag c s →
    slba c.sqe + 1 ≤ n.size → nlb c.sqe = 1 → s.conflict c n false = false → s.get SQR_STAT_READY = 1 →
    s.tenOf c.fn = some n.ten → bitsOf c.sqe.c12 30 1 = 0 → s.get SQR_RA_EN = 0 → q ∈ [2, 3, 4, 5, 6, 7, 8, 9, 10] →
    s.sqr.readEnds.find? (fun x => x.1 == tag && x.2.1 == slba c.sqe) = some (tag, slba c.sqe, 2, 0x81, q) →
    ∃ t, exec i s = .next t ∧ (t.cmd tag).map Cmd.phase = some .done ∧ (t.ctl c.fn).errors =
      ((⟨(s.ctl c.fn).errCount + 1, c.sq, c.sqe.cid, 2, 0x81, slba c.sqe, q⟩ : ErrorInfo) :: (s.ctl c.fn).errors).take 64 ∧
      (∀ x ∈ (s.ctl c.fn).cqs, x.qid = c.cq → { x with
        waiting := x.waiting ++ [⟨tag, c.sq, c.sqe.cid, 2, 0x81, 0, true⟩] } ∈ (t.ctl c.fn).cqs) ∧
      Untouched [.sqr, .host, .rbt] s t) ∧
  (∀ (s : State) (tag : Nat) (c : Cmd), s.cmd tag = some c → c.phase = .fetched → c.cls ≠ 2 → c.sqe.opcode = 0 →
    (s.get RBT_ARB_DRCOAL = 0 → s.sqr.drains.length < 255 → ∃ t, exec (.flush tag) s = .next t ∧ DrainAsked s t ∧
      t.cmd tag = some { c with phase := .draining s.sqr.nextDrain } ∧ Frame [SQR_DRAIN_EPOCH] [.regs, .sqr, .rbt] s t) ∧
    (s.get RBT_ARB_DRCOAL ≠ 0 → ∃ t, exec (.flush tag) s = .next t ∧ t.rbt.merge = s.rbt.merge ++ [tag] ∧
      t.cmd tag = some { c with phase := .merging } ∧ Untouched [.rbt] s t)) ∧
  (∀ (s : State) (tag : Nat) (ck nk : BitVec 64) (c : Cmd) (n : Namespace), s.resvCmd tag 0xD = some (c, n) →
    InFlight tag c s → bitsOf c.sqe.c10 30 2 = 0 → n ∈ s.host.ns →
    (bitsOf c.sqe.c10 0 3 = 0 → n.resv.has (s.hostId c.fn) = false → n.resv.regs.length < 64 →
      ∃ t, exec (.reservationRegister tag ck nk) s = .next t ∧ { n with resv := { n.resv with
        regs := n.resv.regs ++ [⟨s.hostId c.fn, nk.toNat, c.fn⟩], gen := (n.resv.gen + 1) % 2 ^ 32 } } ∈ t.host.ns ∧
        Completed c 0 0 0 s t ∧ Untouched [.host, .rbt] s t) ∧
    (bitsOf c.sqe.c10 0 3 = 2 → n.resv.has (s.hostId c.fn) = false → ∃ t, exec (.reservationRegister tag ck nk) s = .next t ∧
      t.host.ns = s.host.ns ∧ Completed c 0 0x83 0 s t ∧ Raised1 13 0 s t ∧ Untouched [.host, .rbt, .flt] s t)) ∧
  (∀ (s : State) (tag : Nat) (c : Cmd) (n : Namespace), s.resvCmd tag 0xE = some (c, n) → InFlight tag c s →
    ∃ (t : State) (b : List Byte), exec (.reservationReport tag) s = .next t ∧ (tag, b) ∈ t.host.reply ∧
      b.take 4 = leBytes 4 n.resv.gen ∧ (b.drop 4).take 1 = leBytes 1 n.resv.typ ∧
      (b.drop 5).take 2 = leBytes 2 n.resv.regs.length ∧ Completed c 0 0 0 s t ∧ Untouched [.host, .rbt] s t) ∧
  (∀ (s : State) (tag : Nat) (ck pk : BitVec 64) (c : Cmd) (n : Namespace), s.resvCmd tag 0x11 = some (c, n) →
    InFlight tag c s → n ∈ s.host.ns →
    ((∃ x ∈ n.resv.regs, x.host = s.hostId c.fn ∧ x.key = ck.toNat) → 1 ≤ bitsOf c.sqe.c10 8 8 → bitsOf c.sqe.c10 8 8 ≤ 6 →
      bitsOf c.sqe.c10 0 3 = 0 → n.resv.typ = 0 → ∃ t, exec (.reservationAcquire tag ck pk) s = .next t ∧
      { n with resv := { n.resv with typ := bitsOf c.sqe.c10 8 8, holder := s.hostId c.fn } } ∈ t.host.ns ∧
      Completed c 0 0 0 s t ∧ Untouched [.host, .rbt] s t) ∧
    ((∀ x ∈ n.resv.regs, ¬ (x.host = s.hostId c.fn ∧ x.key = ck.toNat)) → ∃ t,
      exec (.reservationAcquire tag ck pk) s = .next t ∧ Completed c 0 0x83 0 s t ∧ Raised1 13 0 s t ∧
      Untouched [.host, .rbt, .flt] s t)) ∧
  (∀ (s : State) (tag : Nat) (ck : BitVec 64) (c : Cmd) (n : Namespace), s.resvCmd tag 0x15 = some (c, n) →
    InFlight tag c s → n ∈ s.host.ns → (∃ x ∈ n.resv.regs, x.host = s.hostId c.fn ∧ x.key = ck.toNat) →
    bitsOf c.sqe.c10 0 3 = 0 → n.resv.typ = bitsOf c.sqe.c10 8 8 → 1 ≤ n.resv.typ → n.resv.typ ≤ 2 →
    n.resv.holder = s.hostId c.fn → ∃ t, exec (.reservationRelease tag ck) s = .next t ∧
      { n with resv := { n.resv with typ := 0, holder := 0 } } ∈ t.host.ns ∧ Completed c 0 0 0 s t ∧
      Untouched [.host, .rbt] s t)

/-- Firmware images (R186, R187, R189, R407, R447 to R450, R541, R543, R544). A downloaded part is staged unless it overlaps
another; a commit writes or activates a slot, or is refused; an activation without reset stops fetching, waits for commands in
flight, ends those that take too long with Activation Abort, and switches images once the window is drained; an AM or OM that
verifies and passes the loader's checks is measured and written to the stores, one that does not changes no store; a floor advances
fuse by fuse. The checks of signatures stand inside the conclusions: what the vendor's roots are is the device's secret. -/
def Obligations.FirmwareImages : Prop :=
  (∀ (s : State) (tag : Nat) (p : DownloadPart) (c : Cmd), Admitted tag 0x11 c s →
    ((∀ q ∈ s.pwr.partials, p.offset + p.bytes.length ≤ q.1 ∨ q.1 + q.2.length ≤ p.offset) →
      ∃ t, exec (.firmwareImageDownload tag p) s = .next t ∧
      t.pwr = { s.pwr with partials := s.pwr.partials ++ [(p.offset, p.bytes)] } ∧ Completed c 0 0 0 s t ∧
      Untouched [.pwr, .host, .rbt] s t) ∧
    (∀ q ∈ s.pwr.partials, q.1 < p.offset + p.bytes.length → p.offset < q.1 + q.2.length →
      ∃ t, exec (.firmwareImageDownload tag p) s = .next t ∧ Completed c 1 0x14 0 s t ∧ Untouched [.host, .rbt] s t)) ∧
  (∀ (s : State) (tag : Nat) (c : Cmd) (b : Bool), Admitted tag 0x10 c s →
    b = (if bitsOf c.sqe.c10 0 3 = 0 then !s.pwr.active else bitsOf c.sqe.c10 0 3 == 2) → bitsOf c.sqe.c10 0 3 ≤ 2 →
    (((s.tgt.loaded.getD 6 none).isSome && s.is PWR_IMG_RUN == b) = true → bitsOf c.sqe.c10 3 3 ≤ 3 →
      ∃ t, exec (.firmwareCommit tag) s = .next t ∧ Completed c 1 6 0 s t ∧ Untouched [.host, .rbt] s t) ∧
    (((s.tgt.loaded.getD 6 none).isSome && s.is PWR_IMG_RUN == b) = false →
      (∀ m, bitsOf c.sqe.c10 3 3 = 2 → s.slotOf b = some m →
        ∃ t, exec (.firmwareCommit tag) s = .next t ∧ t.pwr = { s.pwr with
          active := b, attempts := if s.get PWR_STATE_STATE = 5 then 0 else s.pwr.attempts
          restart := s.pwr.restart || s.restricted } ∧
        t.get PWR_IMG_ACTIVE = (if b then 1 else 0) ∧ Completed c 0 0 0 s t ∧
        Frame [PWR_IMG_ACTIVE] [.regs, .pwr, .host, .rbt] s t) ∧
      (bitsOf c.sqe.c10 3 3 = 2 ∨ bitsOf c.sqe.c10 3 3 = 3 → s.slotOf b = none →
        ∃ t, exec (.firmwareCommit tag) s = .next t ∧ Completed c 1 7 0 s t ∧ Untouched [.host, .rbt] s t) ∧
      (bitsOf c.sqe.c10 3 3 ≤ 1 → s.stagedImages = none →
        ∃ t, exec (.firmwareCommit tag) s = .next t ∧ Completed c 1 7 0 s t ∧ Untouched [.host, .rbt] s t) ∧
      (bitsOf c.sqe.c10 3 3 = 3 → s.restricted = false → (∀ f, (s.ctl f).feat 0xB = 0) →
        (∃ d ∈ s.rbt.cmds, d.tag ≠ tag ∧ d.phase ≠ .parked) →
        ∃ t, exec (.firmwareCommit tag) s = .next t ∧ ∀ (m : Image) (k : Nat), s.slotOf b = some m → s.chooseCombo m = some k →
          s.differs m k 2 = false → s.differs m k 3 = false → t.get RBT_ACT_STEP = 3 ∧
          t.rbt.act = some ⟨tag, if b then 2 else 1, none⟩ ∧ t.get PWR_IMG_ACTIVE = (if b then 1 else 0) ∧
          (∀ f, f < 128 → (t.ctl f).pp = ((s.ctl f).pp || (s.ctl f).ccEn)) ∧ (t.cmd tag).map Cmd.phase = some .parked ∧
          Raised1 146 0 s t ∧ Frame [RBT_ACT_STEP, PWR_IMG_ACTIVE] [.regs, .pwr, .host, .rbt, .flt] s t))) ∧
  (∀ (s : State) (a : Activation), s.rbt.act = some a → s.get RBT_ACT_STEP = 5 → ∃ t,
    exec (.activationSwitch none) s = .next t ∧
    ∀ (m : Image) (k : Nat) (c : Cmd), s.slotOf (a.slot == 2) = some m → s.chooseCombo m = some k → s.cmd a.tag = some c →
      c.phase = .parked → c.orphan = false → (∃ q ∈ (s.ctl c.fn).cqs, q.qid = c.cq) →
      t.get PWR_IMG_RUN = (if a.slot = 2 then 1 else 0) ∧ t.get PWR_IMG_COMB = k % 8 ∧ t.rbt.act = none ∧
      t.get RBT_ACT_STEP = 0 ∧ t.pwr.lkg = (a.slot == 2) ∧ t.pwr.active = (a.slot == 2) ∧
      (∀ f, f < 128 → (t.ctl f).pp = false) ∧ Completed c 0 0 0 s t) ∧
  (∀ (s : State) (a : Activation) (d : Cmd), s.rbt.act = some a → s.get RBT_ACT_STEP = 3 → d.tag ≠ a.tag →
    s.rbt.cmds.filter (fun c => c.tag != a.tag && !(c.phase == .parked) && !(c.phase == .done)) = [d] →
    InFlight d.tag d s → ∃ t, exec .activationAbortTimeout s = .next t ∧ Completed d 7 0xC1 0 s t ∧ Raised1 147 0 s t ∧
      t.rbt.act = s.rbt.act ∧ t.get RBT_ACT_STEP = 3 ∧ Untouched [.arc, .host, .rbt, .flt] s t) ∧
  (∀ (s : State) (tag : Nat) (c : Cmd), Admitted tag 0x81 c s →
    (bitsOf c.sqe.c10 24 8 = 0xE8 → ∃ t, exec (.securitySend tag) s = .next t ∧ Completed c 0 0 0 s t ∧
      Untouched [.host, .rbt] s t) ∧
    (bitsOf c.sqe.c10 24 8 ≠ 0xE8 → ∃ t, exec (.securitySend tag) s = .next t ∧ Completed c 0 2 0 s t ∧
      Untouched [.host, .rbt] s t)) ∧
  (∀ (s : State) (tag : Nat) (c : Cmd) (r : SpdmResponse), Admitted tag 0x82 c s → bitsOf c.sqe.c10 24 8 = 0xE8 →
    KMap.get (fun _ => none) s.tgt.response c.fn = some r → ∃ t, exec (.securityReceive tag) s = .next t ∧
      (tag, (spdmBytes r).take c.sqe.c11) ∈ t.host.reply ∧ Completed c 0 0 0 s t ∧ Untouched [.host, .rbt] s t) ∧
  (∀ (s : State) (n : Fin 4) (im : AvImage), (imageOf im).cls = 1 → (im.micro.map Prod.fst).Nodup → (im.nano.map Prod.fst).Nodup →
    (∀ w ∈ im.micro, w.1 < 4096) → (∀ w ∈ im.nano, w.1 < 1024) → ∃ t, exec (.amLoad n im) s = .next t ∧
    (s.verifyStep (imageOf im) ≠ 0 → Raised1 (if s.verifyStep (imageOf im) = 4 then 999 else 998) 0 s t ∧ Untouched [.flt] s t) ∧
    (s.verifyStep (imageOf im) = 0 → s.seqState n ≠ 0 → t.get (AV_SEQLDST_CODE n) = 1 ∧ t.get (AV_SEQLDST_ADDR n) = 0 ∧
      ⟨avSrc n 83, s.time, 0, false⟩ ∈ t.flt.inbox ∧ (∀ w, w < 4096 → t.rd (AV_UCODE n w 0) = s.rd (AV_UCODE n w 0)) ∧
      Untouched [.regs, .tgt, .flt] s t) ∧
    (s.verifyStep (imageOf im) = 0 → s.amCheck n im = none →
      (∀ w ∈ im.micro, t.rd (AV_UCODE n w.1 0) = BitVec.ofNat 32 w.2 ∧
        t.rd (AV_UCODE n w.1 1) = BitVec.ofNat 32 (w.2 / 2 ^ 32 % 256)) ∧
      (∀ w ∈ im.nano, ∀ j, j < 4 → t.rd (AV_NCODE n w.1 j) = BitVec.ofNat 32 (w.2 / 2 ^ (32 * j))) ∧
      t.get (AV_SEQTRAP_BASE n) = im.base % 4096 ∧ t.get (AV_SEQVER_AMIF n) = (imageOf im).ifver % 65536 ∧
      t.get (AV_SEQLDST_AMOK n) = 1 ∧
      (∀ k, k < 64 → t.get (AV_SEQEXP_VALID n k) = (if (im.exps.find? (fun e => e.1 == k)).isSome then 1 else 0)) ∧
      (s.tgt.loaded.getD 1 none = none → t.tgt.mr = s.tgt.mr.modify 2 (fun m => sha384 (m ++ (imageOf im).digest))) ∧
      Untouched [.regs, .tgt, .flt] s t)) ∧
  (∀ (s : State) (n : Fin 4) (im : AvImage), (imageOf im).cls = 5 → (im.micro.map Prod.fst).Nodup →
    (∀ w ∈ im.micro, w.1 < 4096) → (∀ w ∈ im.nano, w.1 < 1024) → ∃ t, exec (.omLoad n im) s = .next t ∧
    (s.verifyStep (imageOf im) ≠ 0 → Raised1 (if s.verifyStep (imageOf im) = 4 then 999 else 998) 0 s t ∧ Untouched [.flt] s t) ∧
    (s.verifyStep (imageOf im) = 0 → s.omCheck n im = none →
      (∀ w ∈ im.micro, t.rd (AV_UCODE n w.1 0) = BitVec.ofNat 32 w.2) ∧ t.get (AV_SEQLDST_OMOK n) = 1 ∧
      t.get (AV_SEQVER_OMIF n) = (imageOf im).ifver % 65536 ∧ t.get (AV_SEQCTL_HOLD n) = 0 ∧
      (s.seqState n = 4 → t.seqState n = 2) ∧ (s.seqState n = 0 → t.seqState n = 0) ∧
      (∀ k, k < 64 → t.get (AV_OMENTRY_VALID n k) = (if (im.entries.find? (fun e => e.1 == k)).isSome then 1 else 0)) ∧
      Untouched [.regs, .tgt, .flt] s t)) ∧
  (∀ (s : State) (tag : Nat) (c : Cmd) (k v : Nat) (l : Loaded), Admitted tag 0xCE c s → s.get TGT_STAT_LIFE = 2 →
    k = bitsOf c.sqe.c10 0 3 → v = bitsOf c.sqe.c10 8 8 → k ≤ 5 → v ≤ 128 → s.tgt.loaded.getD k none = some l → v ≤ l.svn →
    (s.floor k < v → (∃ t, exec (.antiRollbackAdvance tag none) s = .next t ∧ t.floor k = v ∧
        (∀ j, j ≠ k → t.floor j = s.floor j) ∧ t.flt.inbox = s.flt.inbox ++ List.replicate (v - s.floor k) ⟨1000, s.time, 0, false⟩ ∧
        Completed c 0 0 0 s t ∧ Frame [TGT_SVN_FLOOR k] [.regs, .tgt, .flt, .host, .rbt] s t) ∧
      (∃ t, exec (.antiRollbackAdvance tag (some 0)) s = .next t ∧ t.floor k = s.floor k ∧ Raised1 1016 0 s t ∧
        Untouched [.flt, .host, .rbt] s t)) ∧
    (v ≤ s.floor k → ∃ t, exec (.antiRollbackAdvance tag none) s = .next t ∧ Completed c 0 2 6 s t ∧
      Untouched [.host, .rbt] s t))

/-- Owner commands and tenancies (R446, R448, R456, R459 to R461, Tables 15-8 and 15-12). Claiming fills owner slot 0 and moves
LIFE to CLAIMED; root slots are filled and revoked; tenancies are created with fresh keys, deleted, bound and erased, or refused
with the code of the rule broken; a debug unlock whose drain has ended zeroises every key. A fresh XTS key whose halves stay equal
for sixteen draws counts as a failure of randomness (the model's bound, assumption 49). -/
def Obligations.OwnerAndTenancies : Prop :=
  (∀ (s : State) (tag : Nat) (key : List Byte) (c : Cmd), Admitted tag 0xC8 c s →
    (s.get TGT_STAT_LIFE = 1 → ∃ t, exec (.ownerClaim tag key) s = .next t ∧ t.get TGT_STAT_LIFE = 2 ∧
      t.tgt.owners = s.tgt.owners.set 0 (some (sha384 key)) ∧
      t.get TGT_ROOT_OWNVALID = setBits (s.get TGT_ROOT_OWNVALID) 0 1 1 ∧ Raised1 1014 0 s t ∧
      t.tgt.mr = s.tgt.mr.modify 8 (fun m => sha384 (m ++ t.securityRecord)) ∧ Completed c 0 0 0 s t ∧
      Frame [TGT_STAT_LIFE, TGT_ROOT_OWNVALID] [.regs, .tgt, .flt, .host, .rbt] s t) ∧
    (s.get TGT_STAT_LIFE ≠ 1 → ∃ t, exec (.ownerClaim tag key) s = .next t ∧ Completed c 0 2 1 s t ∧
      Untouched [.host, .rbt] s t)) ∧
  (∀ (s : State) (tag : Nat) (key : List Byte) (c : Cmd) (k : Nat), Admitted tag 0xC9 c s → s.get TGT_STAT_LIFE = 2 →
    k = bitsOf c.sqe.c10 0 2 →
    (bitsOf c.sqe.c10 8 1 = 0 → bitsOf (s.get TGT_ROOT_OWNVALID) k 1 = 0 → ∃ t, exec (.ownerRootUpdate tag key) s = .next t ∧
      t.tgt.owners = s.tgt.owners.set k (some (sha384 key)) ∧
      t.get TGT_ROOT_OWNVALID = setBits (s.get TGT_ROOT_OWNVALID) k 1 1 ∧ Raised1 1015 0 s t ∧ Completed c 0 0 0 s t ∧
      Frame [TGT_ROOT_OWNVALID] [.regs, .tgt, .flt, .host, .rbt] s t) ∧
    (bitsOf c.sqe.c10 8 1 = 1 → s.get TGT_ROOT_OSLOT ≠ k → ∃ t, exec (.ownerRootUpdate tag key) s = .next t ∧
      t.get TGT_ROOT_OWNREV = setBits (s.get TGT_ROOT_OWNREV) k 1 1 ∧ Raised1 1015 0 s t ∧ Completed c 0 0 0 s t ∧
      Frame [TGT_ROOT_OWNREV] [.regs, .tgt, .flt, .host, .rbt] s t) ∧
    (bitsOf c.sqe.c10 8 1 = 1 → s.get TGT_ROOT_OSLOT = k → ∃ t, exec (.ownerRootUpdate tag key) s = .next t ∧
      Completed c 0 2 5 s t ∧ Untouched [.host, .rbt] s t)) ∧
  (∀ (s : State) (tag : Nat) (c : Cmd) (k : Nat), Admitted tag 0xCA c s → s.get TGT_STAT_LIFE = 2 →
    k = bitsOf c.sqe.c10 0 7 →
    (s.tenKey k = none → s.get TGT_STAT_ENTOK = 1 → ∃ (t : State) (key salt : BitVec 256),
      exec (.tenancyCreate tag) s = .next t ∧
      t.tenKey k = some ⟨1, key, if bitsOf c.sqe.c10 8 1 = 1 then none else some key, salt, none⟩ ∧
      (∀ j, j ≠ k → t.tenKey j = s.tenKey j) ∧ t.get (TGT_TEN_EXIST k) = 1 ∧
      t.get (TGT_TEN_LOCKREQ k) = bitsOf c.sqe.c10 8 1 ∧
      t.get (TGT_TEN_STATE k) = (if bitsOf c.sqe.c10 8 1 = 1 then 2 else 0) ∧ Raised1 1004 0 s t ∧ Completed c 0 0 0 s t ∧
      WordsBut [TGT_TEN k] s t ∧ Untouched [.regs, .tgt, .flt, .host, .rbt, .freeCtr] s t) ∧
    (s.tenKey k = none → s.get TGT_STAT_ENTOK = 0 → ∃ t, exec (.tenancyCreate tag) s = .next t ∧ Completed c 0 2 8 s t ∧
      Raised1 997 0 s t ∧ Untouched [.flt, .host, .rbt] s t)) ∧
  (∀ (s : State) (tag : Nat) (c : Cmd) (k : Nat), Admitted tag 0xCB c s → s.get TGT_STAT_LIFE = 2 →
    k = bitsOf c.sqe.c10 0 7 → s.tenKey k ≠ none →
    ((∀ n ∈ s.host.ns, n.ten.val ≠ k) → (∀ f, f < 128 → s.boundTo k f = false) → ∃ t, exec (.tenancyDelete tag) s = .next t ∧
      t.tenKey k = none ∧ (∀ j, j ≠ k → t.tenKey j = s.tenKey j) ∧ t.rd (TGT_TEN k) = 0 ∧ Raised1 1005 0 s t ∧
      Completed c 0 0 0 s t ∧ WordsBut [TGT_TEN k] s t ∧ Untouched [.regs, .tgt, .flt, .host, .rbt] s t) ∧
    ((∃ n ∈ s.host.ns, n.ten.val = k) → ∃ t, exec (.tenancyDelete tag) s = .next t ∧ Completed c 0 2 3 s t ∧
      Untouched [.host, .rbt] s t)) ∧
  (∀ (s : State) (tag : Nat) (c : Cmd) (f k : Nat), Admitted tag 0xCC c s → s.get TGT_STAT_LIFE = 2 →
    f = bitsOf c.sqe.c10 0 7 → k = bitsOf c.sqe.c10 8 7 → (s.ctl f).en = true → (∀ n ∈ s.host.ns, f ∉ n.attached) →
    (bitsOf c.sqe.c10 15 1 = 0 → s.tenKey k ≠ none → ∃ t, exec (.controllerBind tag) s = .next t ∧
      t.get (TGT_BIND_TEN f) = k ∧ t.get (TGT_BIND_BOUND f) = 1 ∧ Completed c 0 0 0 s t ∧
      Frame [TGT_BIND_TEN f, TGT_BIND_BOUND f] [.regs, .host, .rbt] s t) ∧
    (bitsOf c.sqe.c10 15 1 = 1 → ∃ t, exec (.controllerBind tag) s = .next t ∧ t.get (TGT_BIND_BOUND f) = 0 ∧
      Completed c 0 0 0 s t ∧ Frame [TGT_BIND_TEN f, TGT_BIND_BOUND f] [.regs, .host, .rbt] s t)) ∧
  (∀ (s : State) (tag : Nat) (c : Cmd) (k : Nat) (x : TenantKey), Admitted tag 0xCD c s → s.get TGT_STAT_LIFE = 2 →
    k = bitsOf c.sqe.c10 0 7 → s.tenKey k = some x → (∀ n ∈ s.host.ns, n.ten.val ≠ k) →
    (s.get TGT_STAT_ENTOK = 1 → ∃ (t : State) (v : BitVec 256), exec (.tenancyCryptoErase tag) s = .next t ∧
      t.tenKey k = some { x with recd := v, gen := x.gen + 1, key := x.key.map (fun _ => v) } ∧ Raised1 1006 0 s t ∧
      Completed c 0 0 0 s t ∧ Untouched [.tgt, .flt, .host, .rbt, .freeCtr] s t) ∧
    (s.get TGT_STAT_ENTOK = 0 → ∃ t, exec (.tenancyCryptoErase tag) s = .next t ∧ Raised1 997 0 s t ∧ Completed c 0 2 8 s t ∧
      Untouched [.flt, .host, .rbt] s t)) ∧
  (∀ (s : State) (tag : Nat) (token key : List Byte) (c : Cmd), Admitted tag 0xCF c s → s.get TGT_STAT_LIFE = 2 →
    (∀ level id, s.tgt.unlock = some (level, id) → (level = 1 ∨ level = 2) → s.drainOver id = true →
      ∃ t, exec (.debugUnlock tag token key) s = .next t ∧ t.tgt.debugOpen = true ∧ t.tgt.unlock = none ∧ t.tgt.kseal = none ∧
      t.tgt.kflash = none ∧ t.tgt.kdram = none ∧ t.tgt.dik = false ∧ t.tgt.drsBlocked = true ∧ t.tgt.sessions = [] ∧
      (∀ n ∈ t.host.ns, n.key = none) ∧ (∀ f, f < 128 → (t.ctl f).cfs = true) ∧ t.get TGT_STAT_KEYS = 0 ∧
      t.get TGT_STAT_DBG = level ∧ (level = 2 → t.tgt.drs = none ∧ t.get TGT_STAT_LIFE = 3) ∧
      (level = 1 → t.tgt.drs = s.tgt.drs ∧ t.get TGT_STAT_LIFE = 2) ∧ ⟨1011, s.time, 0, false⟩ ∈ t.flt.inbox ∧
      Completed c 0 0 0 s t ∧ Frame [TGT_STAT_KEYS, TGT_STAT_DBG, TGT_STAT_LIFE, TGT_STAT_NSESS, TGT_STAT_OSESS, TGT_STAT_OSFN,
        TGT_ROOT_OSLOT] [.regs, .bus, .tgt, .flt, .host, .rbt] s t) ∧
    (s.tgt.unlock = none → s.tokenOk (bitsOf c.sqe.c10 0 2) token key = false → ∃ t,
      exec (.debugUnlock tag token key) s = .next t ∧ Counted TGT_CNT_DBGREF s t ∧ Raised1 1010 0 s t ∧ Completed c 0 2 7 s t ∧
      t.tgt = s.tgt ∧ Frame (TGT_CNT_DBGREF :: (List.range 8).map TGT_DBGNONCE_NONCE) [.regs, .flt, .host, .rbt, .freeCtr] s t))

/-- Sanitize, Format and namespaces (R438, R457, R459, Tables 15-8 and 15-12). A crypto-erase makes every block in scope
unwritten and replaces its keys, or, without randomness, ends with code 8 and source 997; namespaces are created with a fresh key,
deleted, attached and detached, or refused with the code of the rule broken. The bound on draws is the model's (assumption 49). -/
def Obligations.ErasuresAndNamespaces : Prop :=
  (∀ (s : State) (tag : Nat) (c : Cmd), Admitted tag 0x84 c s → bitsOf c.sqe.c10 0 3 = 4 →
    (s.host.ns = [] → KMap.wf (fun _ => none) s.tgt.tens = true → s.get TGT_STAT_ENTOK = 1 →
      ∃ t, exec (.sanitize tag) s = .next t ∧ (∀ (k : Nat) (x : TenantKey), s.tenKey k = some x → ∃ v : BitVec 256,
        t.tenKey k = some { x with recd := v, gen := x.gen + 1, key := x.key.map (fun _ => v) }) ∧ Raised1 1007 0 s t ∧
      Completed c 0 0 0 s t ∧ Untouched [.tgt, .flt, .host, .rbt, .freeCtr] s t) ∧
    (s.scopeBusy c s.host.ns = true → exec (.sanitize tag) s = .next s)) ∧
  (∀ (s : State) (tag : Nat) (c : Cmd) (n : Namespace), Admitted tag 0x80 c s → s.nsFor c.fn c.sqe.nsid = some n →
    bitsOf c.sqe.c10 4 1 = 0 →
    ((bitsOf c.sqe.c10 0 4, bitsOf c.sqe.c10 5 3) ∈ lbaFormats → s.scopeBusy c [n] = false →
      (bitsOf c.sqe.c10 9 3 = 0 → ∃ t, exec (.formatNvm tag) s = .next t ∧
        { n with lbaf := bitsOf c.sqe.c10 0 4, pi := bitsOf c.sqe.c10 5 3, objects := [] } ∈ t.host.ns ∧
        (∀ x, n.base ≤ x → x < n.base + n.size → (n.region.val, x) ∉ t.red.written) ∧ Completed c 0 0 0 s t ∧
        Untouched [.sqr, .red, .host, .rbt] s t) ∧
      (bitsOf c.sqe.c10 9 3 = 1 ∨ bitsOf c.sqe.c10 9 3 = 2 → ∃ t, exec (.formatNvm tag) s = .next t ∧
        ((∃ y ∈ t.host.ns, y.nsid = n.nsid ∧ y.gen = n.gen + 1 ∧ y.recd.k1 ≠ y.recd.k2 ∧ y.objects = [] ∧
          y.lbaf = bitsOf c.sqe.c10 0 4 ∧ (∀ x, n.base ≤ x → x < n.base + n.size → (n.region.val, x) ∉ t.red.written) ∧
          Raised1 1006 0 s t ∧ Completed c 0 0 0 s t) ∨ (Raised1 997 0 s t ∧ Completed c 0 2 8 s t)) ∧
        Untouched [.sqr, .red, .flt, .host, .rbt, .freeCtr] s t)) ∧
    ((bitsOf c.sqe.c10 0 4, bitsOf c.sqe.c10 5 3) ∉ lbaFormats → ∃ t, exec (.formatNvm tag) s = .next t ∧
      Completed c 1 0x0A 0 s t ∧ Untouched [.host, .rbt] s t)) ∧
  (∀ (s : State) (tag : Nat) (p : NamespaceSpec) (c : Cmd) (k nsid : Nat), Admitted tag 0xC0 c s → s.get TGT_STAT_LIFE = 2 →
    k = bitsOf c.sqe.c11 0 7 → s.tenKey k ≠ none → (p.lbaf.val, p.pi.val) ∈ lbaFormats → s.freeNsid = some nsid →
    0 < p.size → s.rLayout p.region.val false ≠ 0 → c.sqe.c12 ≤ 16777216 →
    p.base + p.size ≤ 128 * capacity (s.rLayout p.region.val false) (s.rMask p.region.val false) (s.rAlen p.region.val false) →
    (∀ n ∈ s.host.ns, n.region = p.region → p.base + p.size ≤ n.base ∨ n.base + n.size ≤ p.base) →
    ∃ t, exec (.namespaceCreate tag p) s = .next t ∧
      ((∃ n ∈ t.host.ns, n.nsid = nsid ∧ n.size = p.size ∧ n.lbaf = p.lbaf.val ∧ n.pi = p.pi.val ∧ n.region = p.region ∧
        n.base = p.base ∧ n.ten.val = k ∧ n.icap = c.sqe.c12 ∧ n.attached = [] ∧ n.recd.k1 ≠ n.recd.k2 ∧
        (∀ m ∈ s.host.ns, m ∈ t.host.ns) ∧ Completed c 0 0 nsid s t) ∨ (Raised1 997 0 s t ∧ Completed c 0 2 8 s t)) ∧
      (s.get TGT_STAT_ENTOK = 0 → Completed c 0 2 8 s t) ∧
      Frame [TGT_TEN_NNS k] [.regs, .sqr, .red, .flt, .host, .rbt, .freeCtr] s t) ∧
  (∀ (s : State) (tag : Nat) (p : NamespaceSpec) (c : Cmd), Admitted tag 0xC0 c s → s.get TGT_STAT_LIFE = 2 →
    s.tenKey (bitsOf c.sqe.c11 0 7) = none → ∃ t, exec (.namespaceCreate tag p) s = .next t ∧ Completed c 0 2 2 s t ∧
      Untouched [.host, .rbt] s t) ∧
  (∀ (s : State) (tag : Nat) (c : Cmd) (n : Namespace), Admitted tag 0xC1 c s → s.get TGT_STAT_LIFE = 2 →
    s.host.ns.find? (fun n => n.nsid == c.sqe.nsid) = some n →
    (s.scopeBusy c [n] = false → ∃ t, exec (.namespaceDelete tag) s = .next t ∧ (∀ m ∈ t.host.ns, m.nsid ≠ n.nsid) ∧
      (∀ m ∈ s.host.ns, m.nsid ≠ n.nsid → m ∈ t.host.ns) ∧
      (∀ x, n.base ≤ x → x < n.base + n.size → (n.region.val, x) ∉ t.red.written) ∧ Completed c 0 0 0 s t ∧
      Frame [TGT_TEN_NNS n.ten.val] [.regs, .sqr, .red, .host, .rbt] s t) ∧
    (s.scopeBusy c [n] = true → exec (.namespaceDelete tag) s = .next s)) ∧
  (∀ (s : State) (tag : Nat) (f : Fin 128) (c : Cmd) (n : Namespace), Admitted tag 0xC2 c s → s.get TGT_STAT_LIFE = 2 →
    s.host.ns.find? (fun n => n.nsid == c.sqe.nsid) = some n → (s.ctl f.val).aers = [] →
    (f.val ∉ n.attached → s.tenOf f.val = some n.ten → ∃ t, exec (.namespaceAttachDetach tag f true) s = .next t ∧
      { n with attached := n.attached ++ [f.val] } ∈ t.host.ns ∧ (2, 0) ∈ (t.ctl f.val).events ∧
      n.nsid ∈ (t.ctl f.val).changedNs ∧ Completed c 0 0 0 s t ∧ Untouched [.host, .rbt] s t) ∧
    (f.val ∈ n.attached → ∃ t, exec (.namespaceAttachDetach tag f false) s = .next t ∧
      { n with attached := n.attached.erase f.val } ∈ t.host.ns ∧ (2, 0) ∈ (t.ctl f.val).events ∧ Completed c 0 0 0 s t ∧
      Untouched [.host, .rbt] s t) ∧
    (f.val ∉ n.attached → s.tenOf f.val ≠ some n.ten → ∃ t, exec (.namespaceAttachDetach tag f true) s = .next t ∧
      Completed c 0 2 0 s t ∧ t.host.ns = s.host.ns ∧ Untouched [.host, .rbt] s t))

/-- SPDM and sessions (R450 to R454). A connection goes through version, capabilities and algorithms; digests, certificates,
measurements and challenges are answered, signed with a nonce where asked; a key exchange opens a session, FINISH establishes it,
and an owner session raises source 1001; a session ends on request or when its heartbeat lapses. What a signature's bytes are is
the device's secret (assumption 49); ERROR codes are those of the standard that the spec names (assumption 51). -/
def Obligations.SpdmAndSessions : Prop :=
  (∀ (s : State) (f : Fin 128),
    (∃ t, exec (.getVersion f) s = .next t ∧ Responded f .version t ∧ t.conn f = 1 ∧ SpdmOnly s t) ∧
    (s.conn f ≠ 0 → ∃ t, exec (.getCapabilities f) s = .next t ∧ Responded f .capabilities t ∧ t.conn f = max 2 (s.conn f) ∧
      SpdmOnly s t) ∧
    (s.conn f = 0 → ∃ t, exec (.getCapabilities f) s = .next t ∧ Responded f (.error 4) t ∧ SpdmOnly s t) ∧
    (2 ≤ s.conn f → ∃ t, exec (.negotiateAlgorithms f true) s = .next t ∧ Responded f .algorithms t ∧ t.conn f = 3 ∧
      SpdmOnly s t) ∧
    (2 ≤ s.conn f → ∃ t, exec (.negotiateAlgorithms f false) s = .next t ∧ Responded f (.error 1) t ∧ SpdmOnly s t) ∧
    (s.conn f < 3 → ∃ t, exec (.getDigests f) s = .next t ∧ Responded f (.error 4) t ∧ SpdmOnly s t)) ∧
  (∀ (s : State) (f : Fin 128), 3 ≤ s.conn f →
    (s.tgt.cert0 ≠ [] → s.tgt.cert1 = [] → ∃ t, exec (.getDigests f) s = .next t ∧
      Responded f (.digests [(0, sha384 s.tgt.cert0)]) t ∧ SpdmOnly s t) ∧
    (∀ slot offset length, offset < (s.chainOf slot).length → ∃ t, exec (.getCertificate f slot offset length) s = .next t ∧
      Responded f (.certificate slot (((s.chainOf slot).drop offset).take length)
        ((s.chainOf slot).length - offset - length)) t ∧ SpdmOnly s t) ∧
    (∀ slot, s.chainOf slot ≠ [] → s.tgt.drs ≠ none → s.tgt.dik = true → s.get TGT_STAT_ENTOK = 1 →
      ∃ (t : State) (d : BitVec 256) (nonce : List Byte) (v : Nat), exec (.challenge f slot) s = .next t ∧
      s.tgt.drs = some d ∧ nonce.length = 32 ∧ Responded f (.challengeAuth slot (sha384 (s.chainOf slot)) nonce
        (Config.dikSign d (sha384 (s.chainOf slot) ++ nonce) v)) t ∧ SpdmOnly s t) ∧
    (∃ t, exec (.getMeasurements f false) s = .next t ∧ Responded f (.measurements s.measurementBlocks none) t ∧ SpdmOnly s t) ∧
    (s.tgt.drs ≠ none → s.tgt.dik = true → s.get TGT_STAT_ENTOK = 1 → ∃ (t : State) (d : BitVec 256) (nonce : List Byte) (v : Nat),
      exec (.getMeasurements f true) s = .next t ∧ s.tgt.drs = some d ∧ nonce.length = 32 ∧
      Responded f (.measurements s.measurementBlocks (some (nonce,
        Config.dikSign d (s.measurementBlocks.flatMap Prod.snd ++ nonce) v))) t ∧ SpdmOnly s t) ∧
    (s.tgt.dik = false → ∃ t, exec (.getMeasurements f true) s = .next t ∧ Responded f (.error 5) t ∧
      Untouched [.tgt] s t) ∧
    (s.session f = none → s.tgt.sessions.length < 8 → s.tgt.drs ≠ none → s.tgt.dik = true → s.get TGT_STAT_ENTOK = 1 →
      (∃ t, exec (.keyExchange f false) s = .next t ∧ t.tgt.sessions = s.tgt.sessions ++
        [⟨f, false, none, false, false, 0, 0, s.time⟩] ∧ t.get TGT_STAT_NSESS = s.tgt.sessions.length + 1 ∧
        (∃ r g, Responded f (.keyExchangeRsp false r g) t) ∧ Frame sessionFlds [.regs, .tgt, .freeCtr] s t) ∧
      ((∃ x ∈ s.tgt.sessions, x.mutAuth = true ∨ x.owner = true) → ∃ t, exec (.keyExchange f true) s = .next t ∧
        Responded f (.error 3) t ∧ t.tgt.sessions = s.tgt.sessions ∧ SpdmOnly s t)) ∧
    (s.session f ≠ none → ∃ t, exec (.keyExchange f false) s = .next t ∧ Responded f (.error 0xA) t ∧ SpdmOnly s t)) ∧
  (∀ (s : State) (f : Fin 128) (x : Session) (p : FinishProof), s.session f = some x → x.established = false →
    (p.hmac = true → x.mutAuth = false → ¬ (s.get TGT_STAT_LIFE = 1 ∧ f.val = 0) → ∃ t, exec (.finish f p) s = .next t ∧
      t.session f = some { x with established := true, last := s.time } ∧ Responded f .finishRsp t ∧ SpdmOnly s t) ∧
    (p.hmac = true → s.get TGT_STAT_LIFE = 1 → f.val = 0 → (∀ y ∈ s.tgt.sessions, y.owner = false) →
      ∃ t, exec (.finish f p) s = .next t ∧ t.session f = some { x with established := true, owner := true, last := s.time } ∧
      t.get TGT_STAT_OSESS = 1 ∧ t.get TGT_STAT_OSFN = 0 ∧ Raised1 1001 0 s t ∧ Responded f .finishRsp t ∧
      Frame sessionFlds [.regs, .tgt, .flt] s t) ∧
    (∀ k, p.hmac = true → p.sig = true → s.get TGT_STAT_LIFE = 2 → f.val < 2 → x.mutAuth = true →
      s.ownerSlot x.chain = some k → (∀ y ∈ s.tgt.sessions, y.owner = false) → ∃ t, exec (.finish f p) s = .next t ∧
      t.session f = some { x with established := true, owner := true, slot := k, last := s.time } ∧
      t.get TGT_STAT_OSESS = 1 ∧ t.get TGT_STAT_OSFN = f.val ∧ t.get TGT_ROOT_OSLOT = k ∧ Raised1 1001 0 s t ∧
      Responded f .finishRsp t ∧ Frame sessionFlds [.regs, .tgt, .flt] s t) ∧
    (p.hmac = true → s.get TGT_STAT_LIFE = 2 → x.mutAuth = true → s.ownerSlot x.chain = none → x.owner = false →
      ∃ t, exec (.finish f p) s = .next t ∧ t.session f = none ∧ Counted TGT_CNT_AUTHFAIL s t ∧
      t.tgt.authFails = s.tgt.authFails + 1 ∧ Raised1 1003 0 s t ∧ Responded f (.error 5) t ∧
      Frame (TGT_CNT_AUTHFAIL :: sessionFlds) [.regs, .tgt, .flt] s t) ∧
    (x.mutAuth = true → ∃ t, exec (.getEncapsulatedRequest f) s = .next t ∧ Responded f .encapsulatedRequest t ∧
      SpdmOnly s t) ∧
    (∀ ch, x.mutAuth = true → ∃ t, exec (.deliverEncapsulatedResponse f ch) s = .next t ∧
      t.session f = some { x with chain := some ch, last := s.time } ∧ Responded f .encapsulatedResponseAck t ∧ SpdmOnly s t)) ∧
  (∀ (s : State) (f : Fin 128) (x : Session), s.session f = some x → x.established = true →
    (∃ t, exec (.heartbeat f) s = .next t ∧ t.session f = some { x with last := s.time } ∧ Responded f .heartbeatAck t ∧
      SpdmOnly s t) ∧
    (∃ t, exec (.keyUpdate f) s = .next t ∧ t.session f = some { x with updates := x.updates + 1, last := s.time } ∧
      Responded f .keyUpdateAck t ∧ SpdmOnly s t) ∧
    (x.owner = false → ∃ t, exec (.endSession f) s = .next t ∧ t.session f = none ∧
      (∀ g, g ≠ f.val → t.session g = s.session g) ∧ Responded f .endSessionAck t ∧ Frame sessionFlds [.regs, .tgt] s t) ∧
    (x.owner = true → s.bus.winOpen = true → ∃ t, exec (.endSession f) s = .next t ∧ t.session f = none ∧
      (f.val = 0 → t.bus = { s.bus with winOpen := false, page := 0 } ∧
        t.flt.inbox = s.flt.inbox ++ [⟨1002, s.time, 0, false⟩, ⟨15, s.time, 0, false⟩]) ∧
      (f.val ≠ 0 → Raised1 1002 0 s t ∧ t.bus = s.bus) ∧ Frame sessionFlds [.regs, .bus, .tgt, .flt] s t)) ∧
  (∀ (s : State) (f : Fin 128) (x : Session), s.session f = some x →
    (s.get TGT_CTL_HBEAT ≠ 0 → x.last + s.get TGT_CTL_HBEAT * 100000000 ≤ s.time → x.owner = false →
      ∃ t, exec (.sessionHeartbeatExpiry f) s = .next t ∧ t.session f = none ∧ Frame sessionFlds [.regs, .tgt] s t) ∧
    (s.get TGT_CTL_HBEAT = 0 ∨ s.time < x.last + s.get TGT_CTL_HBEAT * 100000000 →
      exec (.sessionHeartbeatExpiry f) s = .next s))

/-- Certificates, credentials and entropy (R435, R451, R458). The owner's session has a request signed and a chain stored in
slot 1; a tenant's credential is set, unlocks its tenancy, is changed, or counts a failure; a failure of the entropy tests clears
ENTOK and raises source 996, and their recovery sets it. -/
def Obligations.CertificatesCredentialsAndEntropy : Prop :=
  (∀ (s : State) (f : Fin 128), s.ownerFn = some f.val →
    (s.tgt.drs ≠ none → s.tgt.dik = true → s.get TGT_STAT_ENTOK = 1 → ∃ (t : State) (d : BitVec 256) (v : Nat),
      exec (.getCsr f) s = .next t ∧ s.tgt.drs = some d ∧ Responded f (.csr (Config.dikSign d s.tgt.cert1 v)) t ∧ SpdmOnly s t) ∧
    (∀ chain, ∃ t, exec (.setCertificate f 1 chain) s = .next t ∧ t.tgt.cert1 = chain ∧ t.tgt.cert0 = s.tgt.cert0 ∧
      Responded f .setCertificateRsp t ∧ Untouched [.tgt] s t) ∧
    (∀ slot chain, slot ≠ 1 → ∃ t, exec (.setCertificate f slot chain) s = .next t ∧ t.tgt.cert1 = s.tgt.cert1 ∧
      Responded f (.error 1) t ∧ SpdmOnly s t)) ∧
  (∀ (s : State) (f : Fin 128) (x : Session) (k : Fin 128) (y : TenantKey) (cred : List Byte), s.session f = some x →
    x.established = true → s.tenOf f = some k → s.get (TGT_TEN_LOCKREQ k) = 1 → s.tenKey k = some y →
    (s.get (TGT_TEN_STATE k) = 2 → cred.length = 32 → ∃ t, exec (.credentialSet f cred) s = .next t ∧
      t.tenKey k = some { y with cred := some (credentialKey cred y.salt), key := some y.recd } ∧
      t.get (TGT_TEN_STATE k) = 0 ∧ (∀ n ∈ s.host.ns, n.ten = k → { n with key := some n.recd } ∈ t.host.ns) ∧
      Responded f .vendorDefined t ∧ Frame [TGT_TEN_STATE k] [.regs, .tgt, .host] s t) ∧
    (s.get (TGT_TEN_STATE k) ≠ 2 → s.get (TGT_TEN_FAILS k) ≠ 5 →
      (y.cred = some (credentialKey cred y.salt) → ∃ t, exec (.credentialUnlock f cred) s = .next t ∧
        t.tenKey k = some { y with key := some y.recd } ∧ t.get (TGT_TEN_STATE k) = 0 ∧ Responded f .vendorDefined t ∧
        Frame [TGT_TEN_STATE k] [.regs, .tgt, .host] s t) ∧
      (y.cred ≠ some (credentialKey cred y.salt) → ∃ t, exec (.credentialUnlock f cred) s = .next t ∧
        t.tenKey k = some y ∧ t.get (TGT_TEN_FAILS k) = min 5 (s.get (TGT_TEN_FAILS k) + 1) ∧ Responded f (.error 5) t ∧
        t.flt.inbox = s.flt.inbox ++ ⟨1008, s.time, 0, false⟩ ::
          (if s.get (TGT_TEN_FAILS k) = 4 then [⟨1009, s.time, 0, false⟩] else []) ∧
        Frame [TGT_TEN_FAILS k] [.regs, .tgt, .flt] s t)) ∧
    (∀ new : List Byte, s.get (TGT_TEN_STATE k) ≠ 2 → new.length = 32 → y.cred = some (credentialKey cred y.salt) →
      ∃ t, exec (.credentialChange f cred new) s = .next t ∧
      t.tenKey k = some { y with cred := some (credentialKey new y.salt) } ∧ Responded f .vendorDefined t ∧
      Untouched [.tgt] s t)) ∧
  (∀ s : State, (∃ t, exec .entropyHealthFail s = .next t ∧ t.get TGT_STAT_ENTOK = 0 ∧ Counted TGT_CNT_ENTFAIL s t ∧
      Raised1 996 0 s t ∧ Frame [TGT_STAT_ENTOK, TGT_CNT_ENTFAIL] [.regs, .flt] s t) ∧
    (∃ t, exec .entropyHealthRecover s = .next t ∧ t.get TGT_STAT_ENTOK = 1 ∧ Frame [TGT_STAT_ENTOK] [.regs] s t))

/-- Arcade commands (R412 to R429, R434). A checked command takes a free context, whose tenancy is recorded, and fixes its
source blocks; Delete and List end at once with their results; the step that reads the last block ends the command with the object
entry, the bytes, the digest, the outcome or the fragments; a control block that a rule refuses ends with the offset of its field.
Which free context is taken is the model's choice (the lowest, assumption 38). -/
def Obligations.ArcadeStartsAndSteps : Prop :=
  (∀ (s : State) (tag : Nat) (cb : List Byte) (c : Cmd) (n : Namespace) (k : Nat) (i : Instr) (op : Nat),
    ((i = .objectGet tag (some cb) ∧ op = 0x82) ∨ (i = .objectPut tag (some cb) ∧ op = 0x84) ∨
      (i = .objectDelete tag (some cb) ∧ op = 0x88) ∨ (i = .objectList tag (some cb) ∧ op = 0x8A) ∨
      (i = .encode tag (some cb) ∧ op = 0x8E) ∨ (i = .digest tag (some cb) ∧ op = 0x90) ∨
      (i = .arcadeVerify tag (some cb) ∧ op = 0x94)) →
    s.ioCmd tag op = some (c, n) → InFlight tag c s →
    (∀ field, s.cbCheck c.fn c.sqe cb = some field → ∃ t, exec i s = .next t ∧ Completed c 0 2 0 s t ∧
      (tag, ({ errfield := field } : ArcOut).bytes 0 2 s.time) ∈ t.host.results ∧ Untouched [.arc, .host, .rbt] s t) ∧
    (s.cbCheck c.fn c.sqe cb = none → n.icap ≠ 0 → s.barred c n = false → (∀ d ∈ s.rbt.cmds, d.phase ≠ .waitCtx) →
      (∀ r ∈ s.arc.runs, r.tag ≠ tag) → cbCtxv cb = false → s.freeCtx = some k →
      (∀ (e : Option ObjEntry) (stream : List Nat) (off len : Nat),
        ((op = 0x84 ∧ e = none ∧ stream = extentBlocks (cbExtents cb) ∧ off = 0 ∧ len = cbNum cb 16 8 ∧
            extentsOk n.size len (cbExtents cb) = true ∧ (n.object (cbKey cb) = none ∨ cbFlag cb 2 = true)) ∨
          ((op = 0x90 ∨ op = 0x94 ∨ (op = 0x8E ∧ cbNum cb 138 1 * fragLen len (cbNum cb 137 1)
              + (cbNum cb 137 1 + cbNum cb 138 1) * digestLen (cbDalg cb) ≤ arcBuffer c.sqe)) ∧ cbRange cb = true ∧ e = none ∧
            off = cbNum cb 8 8 ∧ len = cbNum cb 16 8 ∧ cbNum cb 144 8 + ceilDiv (off + len) 4096 ≤ n.size ∧
            stream = (List.range (ceilDiv (off + len) 4096)).map (cbNum cb 144 8 + ·)) ∨
          (∃ x, op = 0x82 ∧ n.object (cbKey cb) = some x ∧ e = some x ∧ off = min (cbNum cb 8 8) x.len ∧
            len = (if cbNum cb 16 8 = 0 then x.len - off else min (cbNum cb 16 8) (x.len - off)) ∧
            len ≤ arcBuffer c.sqe ∧ stream = extentBlocks x.exts)) →
        0 < len → (stream.drop (off / 4096)).take (ceilDiv (off + len) 4096 - off / 4096) ≠ [] →
        ∃ t, exec i s = .next t ∧ t.cmd tag = some { c with phase := .running k } ∧
          t.arcRun tag = some ⟨tag, cb, e, (stream.drop (off / 4096)).take (ceilDiv (off + len) 4096 - off / 4096),
            off % 4096, len, []⟩ ∧ KMap.get (fun _ => none) t.arc.ctxTen k = s.tenOf c.fn ∧ Untouched [.arc, .rbt] s t) ∧
      (op = 0x88 → (∃ x, n.object (cbKey cb) = some x) → cbFlag cb 3 = false → ∃ t, exec i s = .next t ∧
        { n with objects := n.objects.filter (fun x => x.key != cbKey cb) } ∈ t.host.ns ∧ Completed c 0 0 0 s t ∧
        (tag, ({} : ArcOut).bytes 0 0 s.time) ∈ t.host.results ∧ Untouched [.arc, .host, .rbt] s t) ∧
      (op = 0x88 → n.object (cbKey cb) = none → ∃ t, exec i s = .next t ∧ Completed c 7 0xD0 0 s t ∧ t.host.ns = s.host.ns ∧
        Untouched [.arc, .host, .rbt] s t) ∧
      (∀ hits : List ObjEntry, op = 0x8A → hits = n.objects.filter (fun e => (cbKey cb).isPrefixOf e.key &&
          ((cbAfter cb).isEmpty || keyLt (cbAfter cb) e.key)) → ∃ t, exec i s = .next t ∧ Completed c 0 0 0 s t ∧
        (tag, (hits.take (cbNum cb 140 4)).flatMap entryBytes) ∈ t.host.reply ∧
        (tag, ({ more := if cbNum cb 140 4 < hits.length then 1 else 0, count := min (cbNum cb 140 4) hits.length } :
          ArcOut).bytes 0 0 s.time) ∈ t.host.results ∧ Untouched [.arc, .host, .rbt] s t))) ∧
  (∀ (s : State) (tag : Nat) (i : StepInput) (c : Cmd) (r : ArcRun) (n : Namespace) (k l p : Nat) (key : XtsKey)
    (src : List Byte), s.cmd tag = some c → c.phase = .running k → c.orphan = false → (∃ q ∈ (s.ctl c.fn).cqs, q.qid = c.cq) →
    s.arcRun tag = some r → s.nsFor c.fn c.sqe.nsid = some n →
    r.blocks = [l] → r.data = [] → i.reads.dram = [] → i.buffer = false → cbFlag r.cb 1 = false → s.get ARC_CTL_SCALL = 0 →
    (∀ x ∈ s.sqr.readEnds, ¬ (x.1 = tag ∧ x.2.1 = l)) → s.findPage ⟨s.tenOf c.fn, n.nsid - 1, l⟩ = some p →
    (s.page p).st = .dirty → (s.page p).entryOk = true → n.key = some key → n.pi = 0 →
    src = ((xts true key l (s.page p).data).drop r.skip).take r.len →
    (c.sqe.opcode = 0x84 → n.object (cbKey r.cb) = none → n.objects.length < n.icap →
      (cbDalg r.cb = 0 ∨ (cbXdigest r.cb).any (fun b => b != 0) = false) →
      ∃ (t : State) (e : ObjEntry), exec (.arcadeStep tag i) s = .next t ∧
      e = ⟨cbKey r.cb, cbExtents r.cb, cbNum r.cb 4 1, cbNum r.cb 16 8, 1, arcDigest (cbNum r.cb 4 1) src⟩ ∧
      { n with objects := insertEntry e (n.objects.filter (fun x => x.key != e.key)) } ∈ t.host.ns ∧
      (tag, ({ objlen := e.len, version := 1, digest := e.digest } : ArcOut).bytes 0 0 s.time) ∈ t.host.results ∧
      Completed c 0 0 0 s t ∧ Untouched [.sqr, .arc, .host, .rbt] s t) ∧
    (∀ x : ObjEntry, c.sqe.opcode = 0x82 → r.entry = some x → ∃ t, exec (.arcadeStep tag i) s = .next t ∧
      (tag, src) ∈ t.host.reply ∧
      (tag, ({ objlen := x.len, version := x.version, count := r.len } : ArcOut).bytes 0 0 s.time) ∈ t.host.results ∧
      Completed c 0 0 0 s t ∧ Untouched [.sqr, .arc, .host, .rbt] s t) ∧
    (c.sqe.opcode = 0x90 → cbCtxv r.cb = false → ∃ t, exec (.arcadeStep tag i) s = .next t ∧
      (tag, ({ count := src.length, digest := arcDigest (cbNum r.cb 4 1) src } : ArcOut).bytes 0 0 s.time) ∈ t.host.results ∧
      Completed c 0 0 0 s t ∧ Untouched [.sqr, .arc, .host, .rbt] s t) ∧
    (∀ d : List Byte, c.sqe.opcode = 0x94 → cbRange r.cb = true → d = arcDigest (cbNum r.cb 4 1) src →
      ∃ t, exec (.arcadeStep tag i) s = .next t ∧
      (tag, ({ outcome := if d = (cbXdigest r.cb).take d.length then 0 else 1, count := r.len, digest := d } :
        ArcOut).bytes 0 0 s.time) ∈ t.host.results ∧ Completed c 0 0 0 s t ∧ Untouched [.sqr, .arc, .host, .rbt] s t) ∧
    (c.sqe.opcode = 0x8E → ∃ t, exec (.arcadeStep tag i) s = .next t ∧
      (tag, encodeOut src (cbNum r.cb 137 1) (cbNum r.cb 138 1) (cbDalg r.cb)) ∈ t.host.reply ∧
      (tag, ({ count := r.len, digest := arcDigest (cbNum r.cb 4 1) src, fraglen := fragLen r.len (cbNum r.cb 137 1) } :
        ArcOut).bytes 0 0 s.time) ∈ t.host.results ∧ Completed c 0 0 0 s t ∧ Untouched [.sqr, .arc, .host, .rbt] s t))

/-- Arcade contexts and the Arcade channel (R414, R415, R430, R431, R442). Persistent contexts are opened under the quota and
closed; a waiting command takes a context that has come free; a barred command goes on when nothing bars it; the Arcade channel
serves only the context's own tenancy. -/
def Obligations.ArcadeContextsAndChannel : Prop :=
  (∀ (s : State) (tag : Nat) (cb : List Byte) (c : Cmd) (n : Namespace) (ten : Fin 128), s.ioCmd tag 0x80 = some (c, n) →
    InFlight tag c s → s.cbCheck c.fn c.sqe cb = none → s.tenOf c.fn = some ten →
    (∀ h k, cbNum cb 137 1 = 1 → (List.range (s.get (ARC_TENQ_QUOTA ten))).find? (fun h => (s.persistOf c.fn h).isNone) = some h →
      s.freeCtx = some k → s.get (ARC_TENQ_USED ten) < s.get (ARC_TENQ_QUOTA ten) →
      s.arc.persist.length < s.get ARC_CTXCFG_PMAX → ∃ t, exec (.arcadeContextOpen tag (some cb)) s = .next t ∧
      t.arc.persist = s.arc.persist ++ [⟨k, c.fn, h, ten, 0, []⟩] ∧
      t.get (ARC_TENQ_USED ten) = s.get (ARC_TENQ_USED ten) + 1 ∧ Completed c 0 0 h s t ∧
      Frame [ARC_TENQ_USED ten] [.regs, .arc, .host, .rbt] s t) ∧
    (cbNum cb 137 1 = 1 → s.get (ARC_TENQ_QUOTA ten) ≤ s.get (ARC_TENQ_USED ten) →
      ∃ t, exec (.arcadeContextOpen tag (some cb)) s = .next t ∧ Completed c 7 0xD4 0 s t ∧ t.arc.persist = s.arc.persist ∧
      Raised1 1039 0 s t ∧ Untouched [.arc, .host, .rbt, .flt] s t) ∧
    (∀ p, cbNum cb 137 1 = 2 → s.persistOf c.fn (cbNum cb 6 1) = some p → s.arc.runs = [] →
      (∀ d ∈ s.rbt.cmds, d.phase ≠ .running p.idx) → 0 < s.get (ARC_TENQ_USED p.ten) →
      ∃ t, exec (.arcadeContextClose tag (some cb)) s = .next t ∧ (∀ q ∈ t.arc.persist, q.idx ≠ p.idx) ∧
      (∀ q ∈ s.arc.persist, q.idx ≠ p.idx → q ∈ t.arc.persist) ∧
      t.get (ARC_TENQ_USED p.ten) = s.get (ARC_TENQ_USED p.ten) - 1 ∧ Completed c 0 0 0 s t ∧
      Frame [ARC_TENQ_USED p.ten] [.regs, .arc, .host, .rbt] s t)) ∧
  (∀ (s : State) (c : Cmd) (cb : List Byte) (k : Nat) (n : Namespace) (r : ArcRun), s.nextWaiting = some (c, cb, k) →
    s.cmd c.tag = some c → s.arcRun c.tag = some r → s.nsFor c.fn c.sqe.nsid = some n → c.sqe.opcode = 0x90 →
    cbRange cb = true → cbNum cb 8 8 = 0 → 0 < cbNum cb 16 8 → cbNum cb 144 8 + ceilDiv (cbNum cb 16 8) 4096 ≤ n.size →
    ∃ t, exec .arcadeContextGrant s = .next t ∧ t.cmd c.tag = some { c with phase := .running k } ∧
      t.arcRun c.tag = some { r with
        entry := none, skip := 0, len := cbNum cb 16 8, data := [],
        blocks := (List.range (ceilDiv (cbNum cb 16 8) 4096)).map (cbNum cb 144 8 + ·) } ∧
      KMap.get (fun _ => none) t.arc.ctxTen k = s.tenOf c.fn ∧
      ((∀ d ∈ s.rbt.cmds, d.tag ≠ c.tag → d.phase ≠ .waitCtx) → t.arc.waitEp = false) ∧ Untouched [.arc, .rbt] s t) ∧
  (∀ (s : State) (c : Cmd) (n : Namespace) (r : ArcRun) (k : Nat), s.cmd c.tag = some c → c.phase = .barrier →
    s.arcRun c.tag = some r → s.nsFor c.fn c.sqe.nsid = some n →
    (s.barred c n = true → exec (.arcadeBarrierRelease c.tag) s = .next s) ∧
    (s.barred c n = false → (∃ d ∈ s.rbt.cmds, d.phase = .waitCtx) → s.arc.waitEp = true →
      ∃ t, exec (.arcadeBarrierRelease c.tag) s = .next t ∧ t.cmd c.tag = some { c with phase := .waitCtx } ∧
      Untouched [.rbt] s t) ∧
    (s.barred c n = false → (∀ d ∈ s.rbt.cmds, d.phase ≠ .waitCtx) → cbCtxv r.cb = false → s.freeCtx = some k →
      c.sqe.opcode = 0x84 → extentsOk n.size (cbNum r.cb 16 8) (cbExtents r.cb) = true → 0 < cbNum r.cb 16 8 →
      n.object (cbKey r.cb) = none → ∃ t, exec (.arcadeBarrierRelease c.tag) s = .next t ∧
      t.cmd c.tag = some { c with phase := .running k } ∧ (t.arcRun c.tag).map ArcRun.len = some (cbNum r.cb 16 8) ∧
      KMap.get (fun _ => none) t.arc.ctxTen k = s.tenOf c.fn ∧ Untouched [.arc, .rbt] s t)) ∧
  (∀ (s : State) (x : Fin 256) (q : ChannelRequest) (n : Namespace) (k : XtsKey),
    s.host.ns.find? (fun n => n.nsid == q.nsid) = some n → n.key = some k →
    (KMap.get (fun _ => none) s.arc.ctxTen x.val = some n.ten → ∃ t, exec (.arcadeChannelRequest x q) s = .next t ∧
      t.arc = { s.arc with channel := some (xts (!q.encrypt) k (q.block % 2 ^ 64 + (if q.index then 2 ^ 64 else 0)) q.data) } ∧
      Untouched [.arc] s t) ∧
    (KMap.get (fun _ => none) s.arc.ctxTen x.val ≠ some n.ten → ∃ t, exec (.arcadeChannelRequest x q) s = .next t ∧
      t.arc = { s.arc with channel := none } ∧ Counted TGT_CNT_TVREF s t ∧ Raised1 1013 0 s t ∧
      Frame [TGT_CNT_TVREF] [.regs, .arc, .flt] s t))

/-- The internal DMA engine (R463 to R474). TAIL makes descriptors ready, or is discarded with source 364; a descriptor that may
start and passes the checks copies its bytes, fills with its pattern, places its flash entry or works on its lock, and one that does
not halts its channel with cause, index and address; the oldest that has ended is written back with OWN 0 and its status; a halted
channel is resumed or skipped, and a channel is reset, disabled or stopped. Memory here is the firmware area and the scratch SRAM.
A flash entry acts as its row does. -/
def Obligations.DmaEngine : Prop :=
  (∀ (s : State) (c : Fin 64) (tail : Fin 1024),
    (tail.val < s.ringLen c → s.get (DMA_CHSTAT_STATE c) ≤ 1 → (s.chan c).stopping = false →
      ∃ t, exec (.dmaTailWrite c tail) s = .next t ∧ t.get (DMA_CHTAIL_TAIL c) = tail.val ∧
      t.get (DMA_CHSTAT_STATE c) = (if s.get (DMA_CHHEAD_HEAD c) = tail.val then 0 else 1) ∧
      Frame (DMA_CHTAIL_TAIL c :: chanFlds c) [.regs] s t) ∧
    (s.ringLen c ≤ tail.val → ∃ t, exec (.dmaTailWrite c tail) s = .next t ∧ Raised1 364 0 s t ∧ Untouched [.flt] s t)) ∧
  (∀ (s : State) (c : Fin 64) (i : Nat) (d : List Word) (a n : Nat), s.dmaFetch c 0 none false = .ok i d →
    s.mem.fwBad = [] → s.mem.scratchBad = [] → dSrcFixed d = false → dDstFixed d = false → n = dLength d →
    a = dDst d → s.dmaPlain (dSrc d) n → s.dmaPlain a n → (dSrc d + n ≤ a ∨ a + n ≤ dSrc d) →
    ∃ t, exec (.dmaCopy c ⟨false, none, none⟩) s = .next t ∧ (∀ j, j < n → t.dmaByte (a + j) = s.dmaByte (dSrc d + j)) ∧
      (∀ x, ¬ (a ≤ x ∧ x < a + n) → t.dmaByte x = s.dmaByte x) ∧ RunJoined c ⟨i, d, .made⟩ s t ∧
      Frame (chanFlds c) [.regs, .mem, .dma] s t) ∧
  (∀ (s : State) (c : Fin 64) (i : Nat) (d : List Word) (a n : Nat), s.dmaFetch c 1 none false = .ok i d →
    s.mem.fwBad = [] → s.mem.scratchBad = [] → dDstFixed d = false → n = dLength d → a = dDst d → s.dmaPlain a n →
    (∃ t, exec (.dmaFill c ⟨false, none, none⟩) s = .next t ∧
      (∀ j, j < n → t.dmaByte (a + j) = BitVec.ofNat 8 (dw d 6 / 2 ^ (8 * (j % 4)))) ∧
      (∀ x, ¬ (a ≤ x ∧ x < a + n) → t.dmaByte x = s.dmaByte x) ∧ RunJoined c ⟨i, d, .made⟩ s t ∧
      Frame (chanFlds c) [.regs, .mem, .dma] s t) ∧
    (∃ t, exec (.dmaFill c ⟨false, none, some 0⟩) s = .next t ∧ DmaHalted c 7 i a 0 s t ∧
      Frame (haltFlds c) [.regs, .flt] s t)) ∧
  (∀ (s : State) (c : Fin 64) (m : DmaMeets) (k : Instr),
    (k = .dmaCopy c m ∨ k = .dmaFill c m ∨ (k = .dmaFlash c m.badDesc) ∨ (k = .dmaLockAcquire c m.badDesc) ∨
      (k = .dmaLockRelease c m.badDesc)) →
    (s.mayStart c = false → exec k s = .next s) ∧
    (s.mayStart c = true → m.badDesc = true → ∃ t, exec k s = .next t ∧
      DmaHalted c 2 (s.nextIndex c) (s.descAddr c (s.nextIndex c)) 0 s t ∧ Frame (haltFlds c) [.regs, .flt] s t) ∧
    (s.mayStart c = true → m.badDesc = false → s.dmaRegion (s.descAddr c (s.nextIndex c)) 32 = none →
      ∃ t, exec k s = .next t ∧ DmaHalted c 5 (s.nextIndex c) (s.descAddr c (s.nextIndex c)) 0 s t ∧
      Frame (haltFlds c) [.regs, .flt] s t)) ∧
  (∀ (s : State) (c : Fin 64) (i tag : Nat) (d : List Word) (op : FlashOp), s.dmaFetch c 2 none false = .ok i d →
    s.flashTag c = some tag → dFlashOp d = some op → ∃ t, exec (.dmaFlash c false) s = .next t ∧
      RunJoined c ⟨i, d, .flash tag⟩ s t ∧
      exec (match op with
        | .read => .flashRead (s.flashEntryOf d .read tag)
        | .program => .flashProgram (s.flashEntryOf d .program tag)
        | .erase => .flashErase (s.flashEntryOf d .erase tag)
        | .mread => .flashMread (s.flashEntryOf d .mread tag)) (s.started c i d (.flash tag)) = .next t) ∧
  (∀ (s : State) (c : Fin 64) (i : Nat) (d : List Word),
    (s.dmaFetch c 3 (some false) false = .ok i d →
      ((s.lock (dLock d)).owner = 0 → (s.lock (dLock d)).last < 256 → ∃ t, exec (.dmaLockAcquire c false) s = .next t ∧
        t.lock (dLock d) = { s.lock (dLock d) with owner := 0x40 + c.val, warned := false } ∧
        RunJoined c ⟨i, d, .granted (if (s.lock (dLock d)).orphaned then some (s.lock (dLock d)).last else none)⟩ s t ∧
        Frame (chanFlds c) [.regs, .sqr, .dma] s t) ∧
      ((s.lock (dLock d)).owner ≠ 0 → (s.lock (dLock d)).owner ≠ 0x40 + c.val → (s.lock (dLock d)).owner < 256 →
        ∃ t, exec (.dmaLockAcquire c false) s = .next t ∧ t.lock (dLock d) = s.lock (dLock d) ∧
        RunJoined c ⟨i, d, .busy⟩ s t ∧ Frame (chanFlds c) [.regs, .dma] s t)) ∧
    (s.dmaFetch c 3 (some true) false = .ok i d → (s.lock (dLock d)).owner = 0x40 + c.val →
      ∃ t, exec (.dmaLockRelease c false) s = .next t ∧
      t.lock (dLock d) = { s.lock (dLock d) with owner := 0, warned := false } ∧ RunJoined c ⟨i, d, .made⟩ s t ∧
      Frame (chanFlds c) [.regs, .sqr, .dma] s t)) ∧
  (∀ (s : State) (c : Fin 64) (r : DmaRun), (s.chan c).runs = [r] → r.wait = .busy → (s.lock (dLock r.words)).owner = 0 →
    (s.lock (dLock r.words)).orphaned = false → ∃ t, exec (.dmaLockRetry c) s = .next t ∧
      (t.lock (dLock r.words)).owner = 0x40 + c.val ∧ (t.chan c).runs = [{ r with wait := .granted none }] ∧
      Untouched [.sqr, .dma] s t) ∧
  (∀ (s : State) (c : Fin 64) (r : DmaRun) (rest : List DmaRun), (s.chan c).runs = r :: rest → s.mem.scratchBad = [] →
    r.words.length = 8 → 0x2000000000 ≤ s.descAddr c r.index → s.descAddr c r.index + 32 ≤ 0x2000100000 →
    (r.wait = .made ∨ r.wait = .granted none → ∃ t, exec (.dmaWriteBack c) s = .next t ∧
      WrittenBack c r.index (backWords r.words 0 none) s t ∧
      Frame ([DMA_CHHEAD_HEAD c, DMA_CHSTAT_DONE c, dmaPending c] ++ chanFlds c) [.regs, .mem, .dma] s t) ∧
    (∀ last, r.wait = .granted (some last) → ∃ t, exec (.dmaWriteBack c) s = .next t ∧
      WrittenBack c r.index (backWords r.words 3 (some (16, 8, last))) s t ∧ DmaHalted c 6 r.index (s.descAddr c r.index) 0 s t ∧
      Frame ([DMA_CHHEAD_HEAD c, DMA_CHSTAT_DONE c, DMA_CHSTAT_FLIGHT c] ++ haltFlds c) [.regs, .mem, .dma, .flt] s t) ∧
    (∀ (tag : Nat) (p : FlashDone), r.wait = .flash tag → s.flashDone (dRing r.words) tag = some p → p.data = [] → p.pmeta = [] →
      ∃ t, exec (.dmaWriteBack c) s = .next t ∧ WrittenBack c r.index (backWords r.words (if p.status = 0 then 0 else 1)
        (some (8, 16, 256 * p.status + min 255 p.bits))) s t ∧ t.fls = { s.fls with posted := s.fls.posted.erase p } ∧
      Frame ([DMA_CHHEAD_HEAD c, DMA_CHSTAT_DONE c, dmaPending c] ++ chanFlds c) [.regs, .mem, .dma, .fls] s t) ∧
    (r.wait = .busy → exec (.dmaWriteBack c) s = .next s)) ∧
  (∀ (s : State) (c : Fin 64), s.get (DMA_CHSTAT_STATE c) = 2 → (s.chan c).stopping = false →
    (∃ t, exec (.dmaResume c) s = .next t ∧
      t.get (DMA_CHSTAT_STATE c) = (if s.get (DMA_CHHEAD_HEAD c) = s.get (DMA_CHTAIL_TAIL c) then 0 else 1) ∧
      Frame (chanFlds c) [.regs] s t) ∧
    (∀ bs : List Byte, (s.chan c).runs = [] → s.get (DMA_CHHEAD_HEAD c) ≠ s.get (DMA_CHTAIL_TAIL c) → s.mem.scratchBad = [] →
      0x2000000000 ≤ s.descAddr c (s.get (DMA_CHHEAD_HEAD c)) →
      s.descAddr c (s.get (DMA_CHHEAD_HEAD c)) + 32 ≤ 0x2000100000 →
        bs = (List.range 32).map (fun j => s.dmaByte (s.descAddr c (s.get (DMA_CHHEAD_HEAD c)) + j)) →
      ∃ t, exec (.dmaSkip c) s = .next t ∧
        WrittenBack c (s.get (DMA_CHHEAD_HEAD c)) (backWords (wordsOf bs) 2 none) s t ∧
        t.get (DMA_CHSTAT_STATE c) = (if t.get (DMA_CHHEAD_HEAD c) = s.get (DMA_CHTAIL_TAIL c) then 0 else 1) ∧
        Frame ([DMA_CHHEAD_HEAD c, DMA_CHSTAT_DONE c, dmaPending c] ++ chanFlds c) [.regs, .mem, .dma] s t)) ∧
  (∀ (s : State) (c : Fin 64),
    (∃ t, exec (.dmaChannelReset c) s = .next t ∧ t.get (DMA_CHHEAD_HEAD c) = 0 ∧ t.get (DMA_CHTAIL_TAIL c) = 0 ∧
      t.get (DMA_CHSTAT_STATE c) = 0 ∧ t.get (DMA_CHERR0_VALID c) = 0 ∧ (t.chan c).runs = [] ∧
      (∀ k, k < 256 → t.lock k = if (s.lock k).owner = 0x40 + c.val then ⟨0, true, 0x40 + c.val, false⟩ else s.lock k) ∧
      Frame ([DMA_CHHEAD_HEAD c, DMA_CHTAIL_TAIL c, DMA_CHERR0_VALID c] ++ chanFlds c) [.regs, .dma, .sqr, .flt] s t) ∧
    (∃ t, exec (.dmaChannelDisable c) s = .next t ∧ t.get (DMA_CHCFG_EN c) = 0 ∧ t.get (DMA_CHSTAT_STATE c) = 3 ∧
      t.get (DMA_CHERR0_VALID c) = 0 ∧ (t.chan c).runs = [] ∧
      Frame ([DMA_CHCFG_EN c, DMA_CHERR0_VALID c] ++ chanFlds c) [.regs, .dma] s t) ∧
    (s.get (DMA_CHSTAT_STATE c) ≤ 1 → ((s.chan c).runs = [] → ∃ t, exec (.dmaChannelStop c) s = .next t ∧
        t.get (DMA_CHSTAT_STATE c) = 3 ∧ Frame (chanFlds c) [.regs, .dma] s t) ∧
      ((s.chan c).runs ≠ [] → ∃ t, exec (.dmaChannelStop c) s = .next t ∧ (t.chan c).stopping = true ∧
        (t.chan c).runs = (s.chan c).runs ∧ Frame (chanFlds c) [.regs, .dma] s t)))

/-- Scrubs (R484, R487 to R491). The DRAM scrub counts what it corrects and keeps what it cannot as bad, word by word, raising
source 225 at a pass's end; the on-die scrub raises each memory's own sources; a media scrub's entry joins an internal ring. -/
def Obligations.Scrubs : Prop :=
  (∀ (s : State) (find : MemFind) (byte : Fin 8) (w total a : Nat), s.get SQR_INTGCTL_DSCRUB = 1 → w = s.mem.scrubPos →
    total = (s.get SQR_DRAMCFG_SIZE + 1) * 2 ^ 29 → w < total → a = bufferOf w byte.val → w % 64 ≠ 63 → a < s.fwBytes →
    ∃ t, exec (.dramScrubRead find byte) s = .next t ∧ t.mem.scrubPos = (w + 1) % total ∧
      t.get SQR_SCRUB_PROGRESS = (w + 1) % total * 65536 / total ∧
      (w + 1 = total → t.get SQR_SCRUB_PASSES = (s.get SQR_SCRUB_PASSES + 1) % 65536 ∧
        ⟨225, s.time, 0, false⟩ ∈ t.flt.inbox) ∧
      (w + 1 < total → t.get SQR_SCRUB_PASSES = s.get SQR_SCRUB_PASSES ∧ (find = .clean → t.flt = s.flt) ∧
        (find = .corrected → Counted SQR_ECCCNT_CORR s t ∧ Raised1 220 0 s t) ∧
        (find = .uncorrectable → Counted SQR_ECCCNT_UNCORR s t ∧ a / 8 ∈ t.mem.fwBad ∧ Raised1 221 0 s t)) ∧
      (find ≠ .uncorrectable → t.mem.fwBad = s.mem.fwBad) ∧ t.mem.fw = s.mem.fw ∧
      Frame [SQR_SCRUB_PASSES, SQR_SCRUB_PROGRESS, SQR_ECCCNT_CORR, SQR_ECCCNT_UNCORR, SQR_ECCCAP_VALID, SQR_ECCCAP_WORD]
        [.regs, .mem, .flt] s t) ∧
  (∀ (s : State) (find : MemFind) (byte : Fin 8), s.get SQR_INTGCTL_DSCRUB = 0 →
    exec (.dramScrubRead find byte) s = .next s) ∧
  (∀ s : State, s.get SYS_SCRUB_EN = 1 →
    (∀ f, ∃ t, exec (.sramScrubRead (.hostEngine f) .corrected) s = .next t ∧ Raised1 102 0 s t ∧ Untouched [.flt] s t) ∧
    (∀ f, ∃ t, exec (.sramScrubRead (.roundabout f) .corrected) s = .next t ∧ Raised1 104 0 s t ∧ Untouched [.flt] s t) ∧
    (∀ k, ∃ t, exec (.sramScrubRead (.squareLock k) .corrected) s = .next t ∧ Raised1 226 0 s t ∧ Untouched [.flt] s t) ∧
    (∀ i, ∃ t, exec (.sramScrubRead (.scratch i) .corrected) s = .next t ∧ Counted DMA_SRAMECC_CORR s t ∧ Raised1 400 0 s t ∧
      Frame [DMA_SRAMECC_CORR] [.regs, .flt] s t) ∧
    (∀ n, ∃ t, exec (.sramScrubRead (.avenueStore n) .corrected) s = .next t ∧ Counted (AV_SEQCNT_CORR n) s t ∧
      Raised1 (avSrc n 82) 0 s t ∧ Frame [AV_SEQCNT_CORR n] [.regs, .flt] s t) ∧
    (∀ c st v, ∃ t, exec (.sramScrubRead (.cacheData c st v) .corrected) s = .next t ∧ Counted CPU_ECCCNT_CORR s t ∧
      Raised1 (if c.val = 12 then 1096 else 1084 + c.val / 2) 0 s t ∧ Frame [CPU_ECCCNT_CORR] [.regs, .flt] s t) ∧
    (∀ f, ∃ t, exec (.sramScrubRead (.roundabout f) .uncorrectable) s = .next t ∧ ⟨105, s.time, 0, false⟩ ∈ t.flt.inbox ∧
      ControllerReset f.val s t ∧ Frame resetFlds resetParts s t) ∧
    (∀ i, ∃ t, exec (.sramScrubRead (.scratch i) .uncorrectable) s = .next t ∧ i.val ∈ t.mem.scratchBad ∧
      Counted DMA_SRAMECC_UNCORR s t ∧ Raised1 401 0 s t ∧ Frame [DMA_SRAMECC_UNCORR] [.regs, .mem, .flt] s t) ∧
    (∀ n, ∃ t, exec (.sramScrubRead (.avenueStore n) .uncorrectable) s = .next t ∧ Raised1 (avSrc n 81) 0 s t ∧
      Untouched [.flt] s t) ∧
    (∀ n, ∃ t, exec (.sramScrubRead (.sampleStore n) .uncorrectable) s = .next t ∧ Counted (AV_TAGCNT_INVAL n) s t ∧
      Frame [AV_TAGCNT_INVAL n] [.regs] s t) ∧
    (∀ src : Fin 1152, ∃ t, exec (.sramScrubRead (.routeEntry src) .uncorrectable) s = .next t ∧
      t.rd (FLT_ROUTE src) = resetWord (FLT_ROUTE src) ∧ Raised1 1149 0 s t ∧ WordsBut [FLT_ROUTE src] s t ∧
      Untouched [.regs, .flt] s t) ∧
    (∀ w, exec (.sramScrubRead w .clean) s = .next s)) ∧
  (∀ (s : State) (n : Fin 4) (ring : Fin 4) (e : RingEntry), s.get SQR_INTGCTL_MSCRUB ≠ 0 → scrubEntry e = true →
    (s.seq n).winUrgent + (s.seq n).winOther < 512 → (s.seq n).winOther < 496 → ∃ t, exec (.mediaScrub n ring e) s = .next t ∧
      t.seq n = { s.seq n with
        rings := (s.seq n).rings.set (28 + ring.val) ((s.seq n).rings.getD (28 + ring.val) [] ++ [e])
        winOther := (s.seq n).winOther + 1 } ∧ OtherAvenues n s t ∧ Untouched [.av] s t) ∧
  (∀ (s : State) (n : Fin 4) (ring : Fin 4) (e : RingEntry), s.get SQR_INTGCTL_MSCRUB = 0 →
    exec (.mediaScrub n ring e) s = .next s)

/-- The control cores' caches (R495 to R502). An L1's ways change unless locked; an LFSR is loaded; a miss brings the line into
the L2 and the L1, in the lowest invalid way or the drawn victim. -/
def Obligations.CachesAndMisses : Prop :=
  (∀ (s : State) (k : Fin 6) (i d : Fin 32), s.cores.caches.length = 13 →
    (s.get CPU_CTL_LOCK = 0 → ∃ t, exec (.l1WayChange k i d) s = .next t ∧ t.get (CPU_L1CFG_IWAYS k) = i.val ∧
      t.get (CPU_L1CFG_DWAYS k) = d.val ∧
      (∀ st v, v < 16 → t.way (2 * k.val) st v = if v < clampNat 2 16 i.val then s.way (2 * k.val) st v else none) ∧
      (∀ st v, v < 16 → t.way (2 * k.val + 1) st v = if v < clampNat 2 16 d.val then s.way (2 * k.val + 1) st v else none) ∧
      Frame [CPU_L1CFG_IWAYS k, CPU_L1CFG_DWAYS k] [.regs, .cores] s t) ∧
    (s.get CPU_CTL_LOCK = 1 → s.get (CPU_L1CFG_IWAYS k) ≠ i.val → ∃ t, exec (.l1WayChange k i d) s = .next t ∧
      Counted SYS_BADCNT_COUNT s t ∧ t.cores = s.cores ∧ Frame [SYS_BADCNT_COUNT, SYS_BADACC_VALID, SYS_BADACC_BAROFS,
        SYS_BADACC_CAUSE, SYS_BADACC_WRITE, SYS_BADACC_ADDR] [.regs] s t)) ∧
  (∀ (s : State) (c : Fin 13) (v : Fin 65536), ∃ t, exec (.lfsrLoad c v) s = .next t ∧
    t.get (CPU_LFSR_STATE c) = (if v.val = 0 then 0xACE1 else v.val) ∧ Frame [CPU_LFSR_STATE c] [.regs] s t) ∧
  (∀ (s : State) (m : MissArgs) (a c : Nat), a = m.addr.toNat → c = (if m.fetch then 2 * m.core.val else 2 * m.core.val + 1) →
    m.stores = [] → m.find = .clean → a < s.fwBytes → s.get (CPU_CORESTAT_STATE m.core) = 1 ∨ s.get (CPU_CORESTAT_STATE m.core) = 2 →
    m.core.val ∉ s.flt.inNmi → s.cores.caches.length = 13 → s.findWay c a = none → s.mem.fwBad = [] →
    (∀ (v w : Nat) (x : CacheLine), s.findWay l2No a = some w → s.way l2No (l2Set a) w = some x →
      (List.range (s.l1Ways m.core m.fetch)).find? (fun v => (s.way c (l1Set a) v).isNone) = some v →
      ∃ t, exec (.l1MissFill m) s = .next t ∧ t.way c (l1Set a) v = some ⟨a / 64, false, x.data⟩ ∧
      t.get (CPU_LFSR_STATE c) = lfsrNext (s.get (CPU_LFSR_STATE c)) ∧ t.get (CPU_CORESTAT_STATE m.core) = 1 ∧
      (∀ g st u, u < 16 → (g, st, u) ≠ (c, l1Set a, v) → t.way g st u = s.way g st u) ∧
      Frame [CPU_LFSR_STATE c, CPU_CORESTAT_STATE m.core] [.regs, .cores] s t) ∧
    (∀ v w : Nat, s.findWay l2No a = none →
      (s.partWays (s.partOf m.work)).find? (fun w => (s.way l2No (l2Set a) w).isNone) = some w →
      (List.range (s.l1Ways m.core m.fetch)).find? (fun v => (s.way c (l1Set a) v).isNone) = some v →
      ∃ t, exec (.l1MissFill m) s = .next t ∧ t.way l2No (l2Set a) w = some ⟨a / 64, false, s.lineBytes (a / 64)⟩ ∧
      t.way c (l1Set a) v = some ⟨a / 64, false, s.lineBytes (a / 64)⟩ ∧
      t.get (CPU_LFSR_STATE 12) = lfsrNext (s.get (CPU_LFSR_STATE 12)) ∧
      t.get (CPU_LFSR_STATE c) = lfsrNext (s.get (CPU_LFSR_STATE c)) ∧ t.get (CPU_CORESTAT_STATE m.core) = 1 ∧
      (∀ g st u, u < 16 → (g, st, u) ≠ (c, l1Set a, v) → (g, st, u) ≠ (l2No, l2Set a, w) → t.way g st u = s.way g st u) ∧
      Frame [CPU_LFSR_STATE 12, CPU_LFSR_STATE c, CPU_CORESTAT_STATE m.core] [.regs, .cores] s t) ∧
    (∀ (v : Nat) (x : CacheLine), s.findWay l2No a = none → s.get (CPU_L2PART_MASK (s.partOf m.work)) = 0 →
      (∀ w, w < 16 → (s.way l2No (l2Set a) w).isSome = true) → v = lfsrNext (s.get (CPU_LFSR_STATE 12)) * 16 / 2 ^ 16 →
      s.way l2No (l2Set a) v = some x → x.dirty = false → ∃ t, exec (.l1MissFill m) s = .next t ∧
      t.way l2No (l2Set a) v = some ⟨a / 64, false, s.lineBytes (a / 64)⟩ ∧
      (∀ st u, u < 16 → (st, u) ≠ (l2Set a, v) → t.way l2No st u = s.way l2No st u) ∧
      t.get (CPU_CORESTAT_STATE m.core) = 1 ∧
      Frame [CPU_LFSR_STATE 12, CPU_LFSR_STATE c, CPU_CORESTAT_STATE m.core] [.regs, .cores] s t))

/-- The test port (R568). BYPASS, IDCODE and SAMPLE/PRELOAD act at any time; EXTEST, CLAMP and HIGHZ take control of balls only
while the PORST_N reset is in force (assumption 6 tells which resets count). -/
def Obligations.TestPort : Prop :=
  (∀ s : State,
    (exec .jtagBypass s = .next { s with pins := { s.pins with ir := .bypass } }) ∧
    (exec .jtagIdcode s = .next { s with
      pins := { s.pins with ir := .idcode, idreg := 0x0964054F + (s.get SYS_ID_MAJOR - 1) * 2 ^ 28 } }) ∧
    (∀ captured preload, exec (.jtagSamplePreload captured preload) s = .next { s with
      pins := { s.pins with ir := .samplePreload, sampled := captured, cells := ⟨0, 0, preload.rest⟩ } }) ∧
    (s.pwr.inReset = true → s.pwr.deep = false →
      exec .jtagExtest s = .next { s with pins := { s.pins with ir := .extest } } ∧
      exec .jtagClamp s = .next { s with pins := { s.pins with ir := .clamp } } ∧
      exec .jtagHighz s = .next { s with pins := { s.pins with ir := .highz } }) ∧
    (s.pwr.inReset = false → exec .jtagExtest s = .next { s with pins := { s.pins with ir := .bypass } } ∧
      exec .jtagClamp s = .next { s with pins := { s.pins with ir := .bypass } } ∧
      exec .jtagHighz s = .next { s with pins := { s.pins with ir := .bypass } }))

/-- Events at the fault collector (R509 to R511, R514, R517, R519, R521, R522). Of the events raised at one time the lowest
source is handled first; each is counted, and one on a source that is disabled, quiet or escalated gets no reaction; an enabled one
sets its pending bit, traps a core, asks for a block reset or begins a chip reset, and escalates at its limit; a profile or REC
writes its record. -/
def Obligations.FaultEvents : Prop :=
  (∀ (inbox : List Raised) (h e : Raised) (rest : List Raised), inbox = h :: rest → nextEvent inbox = some e →
    e ∈ inbox ∧ e.time = h.time ∧ ∀ x ∈ inbox, x.time = h.time → e.src ≤ x.src) ∧
  (∀ (s : State) (full : Bool), s.flt.inbox = [] → exec (.eventArrival full) s = .next s) ∧
  (∀ (s : State) (full : Bool) (e : Raised) (k r : Nat), nextEvent s.flt.inbox = some e → k = e.src → k < 1152 →
    s.get REC_CTL_EN = 0 → s.get (FLT_ROUTE_FN k) = 0 → r = takenReaction k (s.get (FLT_ROUTE_REACT k)) →
    ((s.get (FLT_ROUTE_EN k) = 0 ∨ 2 ≤ s.get (FLT_ROUTE_STATE k)) → ∃ t, exec (.eventArrival full) s = .next t ∧
      EventHandled e s t ∧ t.flt.inbox = inboxAfter e [] s ∧ t.flt.resets = s.flt.resets ∧ t.flt.chip = s.flt.chip ∧
      t.flt.inNmi = s.flt.inNmi ∧ Frame (countFlds k) [.regs, .flt] s t) ∧
    (s.get (FLT_ROUTE_EN k) = 1 → s.get (FLT_ROUTE_STATE k) = 1 → r ≤ 2 → ∃ t, exec (.eventArrival full) s = .next t ∧
      EventHandled e s t ∧ k ∈ t.flt.quietHit ∧ t.flt.inbox = inboxAfter e [] s ∧ Frame (countFlds k) [.regs, .flt] s t) ∧
    (s.get (FLT_ROUTE_EN k) = 1 → s.get (FLT_ROUTE_STATE k) = 0 →
      (s.get (FLT_ROUTE_RLIM k) = 0 ∨ min 15 (s.get (FLT_ROUTE_RCNT k) + 1) < s.get (FLT_ROUTE_RLIM k)) →
      (r ≤ 1 → ∃ t, exec (.eventArrival full) s = .next t ∧ EventHandled e s t ∧
        t.get (FLT_ROUTE_RCNT k) = min 15 (s.get (FLT_ROUTE_RCNT k) + 1) ∧
        t.get (FLT_ROUTE_STATE k) = (if s.get (FLT_ROUTE_QUIET k) = 0 then 0 else 1) ∧
        (r = 1 → t.get (pendBit k) = 1) ∧ (r = 0 → t.get (pendBit k) = s.get (pendBit k)) ∧ t.flt.inbox = inboxAfter e [] s ∧
        Frame (countFlds k ++ [FLT_ROUTE_STATE k, FLT_ROUTE_RCNT k, pendBit k]) [.regs, .flt] s t) ∧
      (∀ c, r = 2 → s.signalledCore k = some c →
        (c ∉ s.flt.inNmi → ∃ t, exec (.eventArrival full) s = .next t ∧ EventHandled e s t ∧ t.get (pendBit k) = 1 ∧
          t.flt.inNmi = s.flt.inNmi ++ [c] ∧ t.get (CPU_CORESTAT_STATE c) = (if s.get (CPU_CORESTAT_STATE c) = 1 then 3
            else s.get (CPU_CORESTAT_STATE c)) ∧ t.flt.inbox = inboxAfter e [] s ∧
          Frame (countFlds k ++ [FLT_ROUTE_STATE k, FLT_ROUTE_RCNT k, pendBit k, CPU_CORESTAT_STATE c]) [.regs, .flt] s t) ∧
        (c ∈ s.flt.inNmi → ∃ t, exec (.eventArrival full) s = .next t ∧ EventHandled e s t ∧ t.get (pendBit k) = 1 ∧
          t.flt.held = s.flt.held ++ [(c, k)] ∧ Counted FLT_CNT_HELD s t ∧ t.flt.inbox = inboxAfter e [1142] s ∧
          Frame (countFlds k ++ [FLT_ROUTE_STATE k, FLT_ROUTE_RCNT k, pendBit k, FLT_CNT_HELD]) [.regs, .flt] s t)) ∧
      (∀ u, r = 3 → resetUnit k = .unit u → u ≤ 3 ∨ 14 ≤ u → s.flt.chip = none → ∃ t, exec (.eventArrival full) s = .next t ∧
        EventHandled e s t ∧ t.flt.resets = s.flt.resets ++ [⟨u, some k⟩] ∧ t.get FLT_STAT_RESET = 1 ∧
        t.get (FLT_ROUTE_STATE k) = 1 ∧ t.flt.inbox = inboxAfter e [] s ∧
        Frame (countFlds k ++ [FLT_ROUTE_STATE k, FLT_ROUTE_RCNT k, FLT_STAT_RESET, FLT_BRST_BUSY]) [.regs, .flt] s t) ∧
      (r = 4 → s.flt.chip = none → s.pwr.commit = none → ∃ t, exec (.eventArrival full) s = .next t ∧ EventHandled e s t ∧
        t.flt.chip = some k ∧ t.flt.resets = [] ∧ t.flt.chipResets = s.flt.chipResets + 1 ∧ t.get FLT_CRREASON_VALID = 1 ∧
        t.get FLT_CRREASON_KIND = 1 ∧ t.get FLT_CRREASON_SOURCE = k ∧ t.get FLT_STAT_RESET = 0 ∧ (∀ n, (t.avn n).wg = false) ∧
        (s.get FLT_CTL_CRCOMMIT = 1 → commitExcluded k = false → t.pwr.commit = some 4 ∧ t.sqr.lossHold = true) ∧
        (s.get FLT_CTL_CRCOMMIT = 0 ∨ commitExcluded k = true → t.pwr.commit = none))) ∧
    (s.get (FLT_ROUTE_EN k) = 1 → s.get (FLT_ROUTE_STATE k) = 0 → s.get (FLT_ROUTE_RLIM k) ≠ 0 →
      s.get (FLT_ROUTE_RLIM k) ≤ min 15 (s.get (FLT_ROUTE_RCNT k) + 1) → r ≠ 4 → s.get (FLT_ROUTE_ESC k) = 1 →
      ∃ t, exec (.eventArrival full) s = .next t ∧ EventHandled e s t ∧ t.get (FLT_ROUTE_STATE k) = 2 ∧
      t.get (FLT_ROUTE_RCNT k) = min 15 (s.get (FLT_ROUTE_RCNT k) + 1) ∧ Counted FLT_CNT_ESCAL s t ∧
      t.flt.escalations = s.flt.escalations + 1 ∧ t.get (pendBit k) = 1 ∧ t.flt.inbox = inboxAfter e [1141] s ∧
      Frame (countFlds k ++ [FLT_ROUTE_STATE k, FLT_ROUTE_RCNT k, pendBit k, FLT_CNT_ESCAL]) [.regs, .flt] s t)) ∧
  (∀ (s : State) (full : Bool) (e : Raised) (k : Nat), nextEvent s.flt.inbox = some e → k = e.src → k < 1152 →
    s.get (FLT_ROUTE_FN k) = 1 → s.get (FLT_ROUTE_EN k) = 1 → s.get (FLT_ROUTE_STATE k) = 2 → s.get REC_CTL_EN = 0 →
    ∃ t, exec (.eventArrival full) s = .next t ∧ t.get FLT_FNSTAT_ACTIVE = 1 ∧
    t.get FLT_FNSTAT_FIRST = (if s.get FLT_FNSTAT_ACTIVE = 1 then s.get FLT_FNSTAT_FIRST else k) ∧
    Frame (countFlds k ++ [FLT_FNSTAT_ACTIVE, FLT_FNSTAT_FIRST]) [.regs, .flt] s t) ∧
  (∀ (s : State) (e : Raised) (k : Nat), nextEvent s.flt.inbox = some e → k = e.src → k < 1152 → e.inj = false →
    s.get (FLT_ROUTE_EN k) = 0 → s.get REC_CTL_EN = 1 →
    (s.profileFor k = none → s.get (FLT_ROUTE_REC k) = 1 → s.recd.fill + 100 ≤ 65536 →
      ∃ t, exec (.eventArrival false) s = .next t ∧ EventHandled e s t ∧
      t.recd.circ = ((s.recd.circ ++ [(⟨e.time, s.recd.nextSeq, k, 0, 0xFF, s.get REC_BOOT_BOOT, 0,
        (if s.get (FLT_ROUTE_STATE k) = 2 then 4 else 0) + (if s.recd.dropped then 2 else 0),
        List.replicate 16 0, e.detail⟩ : RecEntry)]).drop (s.recd.circ.length + 1 - 4096)) ∧
      t.recd.nextSeq = (s.recd.nextSeq + 1) % 2 ^ 32 ∧ t.recd.fifo.length = s.recd.fifo.length + 1 ∧
      Frame (countFlds k ++ [REC_HEAD_SEQ, REC_TAIL_SEQ, REC_TRSTAT_FILL]) [.regs, .flt, .recd] s t) ∧
    (∀ p, s.profileFor k = some p → s.get (REC_PROF_W0_FOUND p) = 1 → s.recd.found.length < 255 → s.recd.fill + 100 ≤ 65536 →
      ∃ (t : State) (r : RecEntry), exec (.eventArrival false) s = .next t ∧ t.recd.circ.getLast? = some r ∧ r.prof = p ∧
      r.source = k ∧ r.regs.length = 16 ∧ t.recd.found = s.recd.found ++ [r] ∧ Counted (REC_PROF_W0_USED p) s t ∧
      t.get REC_FSTAT_FUSED = s.recd.found.length + 1 ∧ t.flt.inbox = s.flt.inbox.erase e) ∧
    (s.profileFor k = none → s.get (FLT_ROUTE_REC k) = 1 → ∃ t, exec (.eventArrival true) s = .next t ∧ EventHandled e s t ∧
      t.recd = { s.recd with dropped := true, dropEpisode := true } ∧ Counted REC_STAT_DROPS s t ∧
      t.flt.inbox = s.flt.inbox.erase e ++ (if s.recd.dropEpisode then [] else [(⟨1144, s.time, 0, false⟩ : Raised)]) ∧
      Frame (countFlds k ++ [REC_STAT_DROPS]) [.regs, .flt, .recd] s t))

/-- Resets and sources (R511 to R513, R515, R517, R518). A block reset ends with its unit's reset, a forced drain with source
1143 besides, and a chip reset with the internal reset; quiet periods, recovery counts and re-arming follow R515. That an end of a
quiet period needs STATE = QUIET is the model's reading (assumption 18). -/
def Obligations.FaultResetsAndSources : Prop :=
  (∀ (s : State) (timeout : Bool) (i : StartInput), s.flt.chip ≠ none →
    (timeout = true ∨ ((∀ n, s.svIdle n = true) ∧ s.pwr.commit = none)) →
    (s.pwr.porstLow = true → ∃ t, exec (.chipResetTimeout timeout i) s = .next t ∧ WasReset s t ∧
      t.get FLT_CRREASON_CUT = (if s.pwr.committed = some true then 0 else 1)) ∧
    (s.pwr.porstLow = false → s.pwr.risen = none → ∃ t, exec (.chipResetTimeout timeout i) s = .next t ∧ Started i s t ∧
      t.flt.chip = none ∧ t.get FLT_CRREASON_CUT = (if s.pwr.committed = some true then 0 else 1))) ∧
  (∀ (s : State) (timeout : Bool) (i : StartInput), s.flt.chip = none → exec (.chipResetTimeout timeout i) s = .next s) ∧
  (∀ (s : State) (k : Fin 1152), s.get (FLT_ROUTE_STATE k) = 1 → (∀ r ∈ s.flt.resets, r.source ≠ some k.val) →
    ∃ t, exec (.quietPeriodExpiry k) s = .next t ∧ t.get (FLT_ROUTE_STATE k) = 0 ∧ k.val ∉ t.flt.quietHit ∧
    (k.val ∉ s.flt.quietHit → Counted FLT_CNT_TRANS s t) ∧
    (k.val ∈ s.flt.quietHit → t.get FLT_CNT_TRANS = s.get FLT_CNT_TRANS) ∧
    Frame [FLT_ROUTE_STATE k, FLT_CNT_TRANS] [.regs, .flt] s t) ∧
  (∀ (s : State) (k : Fin 1152),
    (s.get FLT_CTL_DECAY ≠ 0 → ∃ t, exec (.rcntDecayExpiry k) s = .next t ∧ t.get (FLT_ROUTE_RCNT k) = 0 ∧
      Frame [FLT_ROUTE_RCNT k] [.regs] s t) ∧
    (s.get FLT_CTL_DECAY = 0 → exec (.rcntDecayExpiry k) s = .next s)) ∧
  (∀ (s : State) (i : Fin 36) (mask : Word), ∃ t, exec (.sourceRearm i mask) s = .next t ∧
    (∀ j, j < 32 → mask.getLsbD j = true → t.get (FLT_ROUTE_STATE (32 * i + j)) = 0 ∧ t.get (FLT_ROUTE_RCNT (32 * i + j)) = 0) ∧
    t.flt = { s.flt with quietHit := t.flt.quietHit } ∧
    (∀ x, x ∈ t.flt.quietHit ↔ x ∈ s.flt.quietHit ∧ ¬ (x / 32 = i.val ∧ mask.getLsbD (x % 32) = true)) ∧
    Frame (((List.range 32).filter mask.getLsbD).flatMap (fun j => [FLT_ROUTE_STATE (32 * i + j), FLT_ROUTE_RCNT (32 * i + j)]))
      [.regs, .flt] s t) ∧
  (∀ (s : State) (k : Fin 6), k.val ∈ s.flt.inNmi →
    (∀ src, (k.val, src) ∈ s.flt.held → (∀ h ∈ s.flt.held, h.1 = k.val → src ≤ h.2) → ∃ t, exec (.nmiReturn k) s = .next t ∧
      t.flt = { s.flt with held := s.flt.held.erase (k.val, src) } ∧ Untouched [.flt] s t) ∧
    ((∀ h ∈ s.flt.held, h.1 ≠ k.val) → ∃ t, exec (.nmiReturn k) s = .next t ∧
      t.flt = { s.flt with inNmi := s.flt.inNmi.filter (fun c => c != k.val) } ∧
      t.get (CPU_CORESTAT_STATE k) = (if s.get (CPU_CORESTAT_STATE k) = 3 then 1 else s.get (CPU_CORESTAT_STATE k)) ∧
      Frame [CPU_CORESTAT_STATE k] [.regs, .flt] s t)) ∧
  (∀ s : State, ∃ t, exec .faultPinRelease s = .next t ∧ t.get FLT_FNSTAT_ACTIVE = 0 ∧ Frame [FLT_FNSTAT_ACTIVE] [.regs] s t) ∧
  (∀ (s : State) (src : Fin 2048),
    (s.get TGT_STAT_LIFE = 0 ∨ s.get TGT_STAT_LIFE = 3 → sourceReserved src = false → ∃ t, exec (.faultInject src) s = .next t ∧
      t.get FLT_INJ_SOURCE = src.val ∧ t.flt = { s.flt with inbox := s.flt.inbox ++ [⟨src, s.time, 0, true⟩] } ∧
      Frame [FLT_INJ_SOURCE] [.regs, .flt] s t) ∧
    (s.get TGT_STAT_LIFE = 1 ∨ s.get TGT_STAT_LIFE = 2 → ∃ t, exec (.faultInject src) s = .next t ∧ Counted SYS_BADCNT_COUNT s t ∧
      t.flt = s.flt ∧ Frame [SYS_BADCNT_COUNT, SYS_BADACC_VALID, SYS_BADACC_BAROFS, SYS_BADACC_CAUSE, SYS_BADACC_WRITE,
        SYS_BADACC_ADDR] [.regs] s t)) ∧
  (∀ (s : State) (u : Fin 32),
    (u.val ≤ 3 ∨ u.val = 14 ∨ (16 ≤ u.val ∧ u.val ≤ 21) → s.flt.chip = none → ∃ t, exec (.blockResetRequest u) s = .next t ∧
      t.get FLT_BRST_UNIT = u.val ∧ t.get FLT_BRST_BUSY = 1 ∧ t.get FLT_STAT_RESET = 1 ∧
      t.flt = { s.flt with resets := s.flt.resets ++ [⟨u, none⟩] } ∧
      Frame [FLT_BRST_UNIT, FLT_BRST_BUSY, FLT_STAT_RESET] [.regs, .flt] s t) ∧
    (∀ n : Fin 4, u.val = 4 + n.val → s.flt.chip = none → (∀ r ∈ s.flt.resets, r.unit ≠ u.val) →
      ∃ t, exec (.blockResetRequest u) s = .next t ∧ t.seq n = { s.seq n with arms := [] } ∧ OtherAvenues n s t ∧
      t.flt = { s.flt with resets := s.flt.resets ++ [⟨u, none⟩] } ∧
      Frame [FLT_BRST_UNIT, FLT_BRST_BUSY, FLT_STAT_RESET] [.regs, .av, .flt] s t) ∧
    (u.val = 15 ∨ 22 ≤ u.val → ∃ t, exec (.blockResetRequest u) s = .next t ∧ t.get FLT_BRST_UNIT = u.val ∧
      Frame [FLT_BRST_UNIT] [.regs] s t)) ∧
  (∀ (s : State) (u : Fin 96), (∀ r ∈ s.flt.resets, r.unit ≠ u.val) →
    exec (.blockResetDrainEnd u) s = .next s ∧ exec (.blockResetDrainForced u) s = .next s) ∧
  (∀ (s : State) (u : Fin 96) (k : Fin 6), u.val = 16 + k.val → (∃ r ∈ s.flt.resets, r.unit = u.val) →
    (∀ r ∈ s.flt.resets, ∀ src, r.source = some src → src < 1152) →
    s.cores.caches.length = 13 →
    (∃ t, exec (.blockResetDrainEnd u) s = .next t ∧ BlockResetEnded u s t ∧ t.get (CPU_CORESTAT_STATE k) = 1 ∧
      (∀ st v, t.way (2 * k) st v = none ∧ t.way (2 * k + 1) st v = none) ∧ k.val ∉ t.flt.inNmi ∧
      (∀ j, j < 256 → (s.lock j).owner = 1 + k.val → t.lock j = ⟨0, true, 1 + k.val, false⟩) ∧
      (∀ j, j < 256 → (s.lock j).owner ≠ 1 + k.val → t.lock j = s.lock j) ∧ ⟨1106 + k, s.time, 0, false⟩ ∈ t.flt.inbox ∧
      Untouched [.regs, .sqr, .flt, .cores] s t) ∧
    (∃ t, exec (.blockResetDrainForced u) s = .next t ∧ BlockResetEnded u s t ∧ t.get (CPU_CORESTAT_STATE k) = 1 ∧
      ⟨1143, s.time, 0, false⟩ ∈ t.flt.inbox ∧ (∀ d, d ∈ t.flt.discards ↔ d ∈ s.flt.discards ∨ d ∈ unitStops u) ∧
      Untouched [.regs, .sqr, .flt, .cores] s t)) ∧
  (∀ (s : State) (u : Fin 96) (c : Fin 64), u.val = 32 + c.val → (∃ r ∈ s.flt.resets, r.unit = u.val) →
    (∀ r ∈ s.flt.resets, ∀ src, r.source = some src → src < 1152) →
    ∃ t, exec (.blockResetDrainEnd u) s = .next t ∧ BlockResetEnded u s t ∧ t.get (DMA_CHHEAD_HEAD c) = 0 ∧
    t.get (DMA_CHTAIL_TAIL c) = 0 ∧ (t.chan c).runs = [] ∧ (∀ j, j < 256 → (s.lock j).owner = 0x40 + c.val →
      t.lock j = ⟨0, true, 0x40 + c.val, false⟩))

/-- The event recorder (R522, R524, R525, R527, R528). A page of the mirror takes the oldest 168 records not yet mirrored, after an
erase that was asked for; an overdue page raises source 1145; the cursors copy a record into REC_WIN or clear VALID; CLEAR empties
the circulating area, writes a TYPE 3 record and raises source 1150; FCLEAR acts in MANUFACTURE alone; a stall longer than WAITMIN is
reported by a wait-enter frame, and its end by a wait-exit frame. -/
def Obligations.EventRecorder : Prop :=
  (∀ (s : State) (page : List RecEntry), s.recd.eraseMirror = false → s.recd.mirror.length < 15360 →
    page = (unmirrored s.recd.circ (mirrorTop s.recd.mirror)).take 168 → page ≠ [] → ∃ t, exec .mirrorPage s = .next t ∧
    t.recd = { s.recd with mirror := s.recd.mirror ++ [page] } ∧
    (∀ r, page.getLast? = some r → t.get REC_MIRR_SEQ = r.seq % 2 ^ 32) ∧ Frame [REC_MIRR_SEQ] [.regs, .recd] s t) ∧
  (∀ (s : State) (page : List RecEntry), s.recd.eraseMirror = true → page = s.recd.circ.take 168 → page ≠ [] →
    ∃ t, exec .mirrorPage s = .next t ∧ t.recd = { s.recd with mirror := [page], eraseMirror := false } ∧
    Frame [REC_MIRR_SEQ] [.regs, .recd] s t) ∧
  (∀ s : State, s.recd.eraseMirror = false → unmirrored s.recd.circ (mirrorTop s.recd.mirror) = [] →
    exec .mirrorPage s = .next s ∧ exec .mirrorOverdue s = .next s) ∧
  (∀ s : State, unmirrored s.recd.circ (mirrorTop s.recd.mirror) ≠ [] → ∃ t, exec .mirrorOverdue s = .next t ∧
    Raised1 1145 0 s t ∧ Untouched [.flt] s t) ∧
  (∀ (s : State) (seq : Word) (r : RecEntry), s.recd.circ.find? (fun x => x.seq == seq.toNat) = some r →
    ∃ t, exec (.recordCursorLoad seq) s = .next t ∧ t.get REC_CURSOR_SEQ = seq.toNat ∧ t.get REC_WSTAT_VALID = 1 ∧
    t.get REC_WSTAT_AREA = 0 ∧ (∀ k, k < 24 → t.get (REC_WIN_DATA k) = ofLe (((recordBytes r).drop (4 * k)).take 4)) ∧
    Frame ([REC_CURSOR_SEQ, REC_WSTAT_VALID, REC_WSTAT_AREA] ++ (List.range 24).map REC_WIN_DATA) [.regs] s t) ∧
  (∀ (s : State) (seq : Word), (∀ r ∈ s.recd.circ, r.seq ≠ seq.toNat) → ∃ t, exec (.recordCursorLoad seq) s = .next t ∧
    t.get REC_CURSOR_SEQ = seq.toNat ∧ t.get REC_WSTAT_VALID = 0 ∧ Frame [REC_CURSOR_SEQ, REC_WSTAT_VALID] [.regs] s t) ∧
  (∀ (s : State) (i : Fin 256),
    (∀ r, s.recd.found[i.val]? = some r → ∃ t, exec (.foundingCursorLoad i) s = .next t ∧ t.get REC_FCURSOR_INDEX = i.val ∧
      t.get REC_WSTAT_VALID = 1 ∧ t.get REC_WSTAT_AREA = 1 ∧
      (∀ k, k < 24 → t.get (REC_WIN_DATA k) = ofLe (((recordBytes r).drop (4 * k)).take 4)) ∧
      Frame ([REC_FCURSOR_INDEX, REC_WSTAT_VALID, REC_WSTAT_AREA] ++ (List.range 24).map REC_WIN_DATA) [.regs] s t) ∧
    (s.recd.found[i.val]? = none → ∃ t, exec (.foundingCursorLoad i) s = .next t ∧ t.get REC_FCURSOR_INDEX = i.val ∧
      t.get REC_WSTAT_VALID = 0 ∧ Frame [REC_FCURSOR_INDEX, REC_WSTAT_VALID] [.regs] s t)) ∧
  (∀ s : State, s.get REC_CTL_EN = 1 → s.recd.fill + 100 ≤ 65536 → ∃ t, exec .recordClear s = .next t ∧
    t.recd.circ = [⟨s.time, s.recd.nextSeq, 0xFFFF, 3, 0xFF, s.get REC_BOOT_BOOT, 0, if s.recd.dropped then 2 else 0,
      List.replicate 16 0, 0⟩] ∧ t.recd.eraseMirror = true ∧ t.recd.nextSeq = (s.recd.nextSeq + 1) % 2 ^ 32 ∧
    t.recd.found = s.recd.found ∧ t.get REC_HEAD_SEQ = s.recd.nextSeq % 2 ^ 32 ∧ t.get REC_TAIL_SEQ = s.recd.nextSeq % 2 ^ 32 ∧
    Raised1 1150 0 s t ∧ Frame [REC_HEAD_SEQ, REC_TAIL_SEQ, REC_TRSTAT_FILL] [.regs, .flt, .recd] s t) ∧
  (∀ s : State, s.get REC_CTL_EN = 0 → ∃ t, exec .recordClear s = .next t ∧
    t.recd = { s.recd with circ := [], eraseMirror := true } ∧ Raised1 1150 0 s t ∧
    Frame [REC_HEAD_SEQ, REC_TAIL_SEQ] [.regs, .flt, .recd] s t) ∧
  (∀ s : State,
    (s.get TGT_STAT_LIFE = 0 → ∃ t, exec .foundingClear s = .next t ∧
      t.recd = { s.recd with found := [], foundMirror := [] } ∧ t.get REC_FSTAT_FUSED = 0 ∧ t.get REC_STAT_FFULL = 0 ∧
      (∀ p, p < 64 → t.get (REC_PROF_W0_USED p) = 0) ∧
      Frame ([REC_FSTAT_FUSED, REC_STAT_FFULL] ++ (List.range 64).map REC_PROF_W0_USED) [.regs, .recd] s t) ∧
    (s.get TGT_STAT_LIFE ≠ 0 → ∃ t, exec .foundingClear s = .next t ∧ Counted SYS_BADCNT_COUNT s t ∧ t.recd = s.recd ∧
      (s.get SYS_BADACC_VALID = 0 → t.get SYS_BADACC_CAUSE = 4 ∧ t.get SYS_BADACC_WRITE = 1) ∧
      Frame [SYS_BADCNT_COUNT, SYS_BADACC_VALID, SYS_BADACC_BAROFS, SYS_BADACC_CAUSE, SYS_BADACC_WRITE, SYS_BADACC_ADDR]
        [.regs] s t)) ∧
  (∀ (s : State) (u : Fin 16) (start : BitVec 64), (s.get REC_TRCFG_WAITMASK).testBit u = true → u.val ∉ s.recd.waiting →
    (10 * s.get REC_TRCFG_WAITMIN < s.time - start.toNat →
      (s.recd.fill + 12 ≤ 65536 → ∃ t, exec (.waitEnterReport u start) s = .next t ∧
        t.recd = { s.recd with waiting := s.recd.waiting ++ [u.val],
                               fifo := s.recd.fifo ++ [⟨2, u, leBytes 8 start.toNat⟩] } ∧
        Frame [REC_TRSTAT_FILL] [.regs, .recd] s t) ∧
      (65536 < s.recd.fill + 12 → ∃ t, exec (.waitEnterReport u start) s = .next t ∧ Counted REC_TRSTAT_OVF s t ∧
        t.recd = { s.recd with waiting := s.recd.waiting ++ [u.val], lost := s.recd.lost + 1, ovfEpisode := true } ∧
        (s.recd.ovfEpisode = false → Raised1 1147 0 s t) ∧ (s.recd.ovfEpisode = true → t.flt = s.flt) ∧
        Frame [REC_TRSTAT_OVF] [.regs, .flt, .recd] s t)) ∧
    (s.time - start.toNat ≤ 10 * s.get REC_TRCFG_WAITMIN → exec (.waitEnterReport u start) s = .next s)) ∧
  (∀ (s : State) (u : Fin 16),
    (u.val ∈ s.recd.waiting → s.recd.fill + 12 ≤ 65536 → ∃ t, exec (.waitExitReport u) s = .next t ∧
      t.recd = { s.recd with waiting := s.recd.waiting.filter (fun w => w != u.val),
                             fifo := s.recd.fifo ++ [⟨3, u, leBytes 8 s.time⟩] } ∧
      Frame [REC_TRSTAT_FILL] [.regs, .recd] s t) ∧
    (u.val ∉ s.recd.waiting → exec (.waitExitReport u) s = .next s))

/-- PORST_N (R406, R539). A fall with supply is a port event, holds placements, unloads the engines and begins the commit; the
reset follows a commit, a cut one 600 ms after, or 1 s of PORST_N low, and the release starts the device with the straps sampled. -/
def Obligations.PorstSequence : Prop :=
  (∀ s : State, s.pwr.porstLow = true → exec .porstFall s = .next s) ∧
  (∀ s : State, s.pwr.porstLow = false → s.pwr.inReset = true ∨ s.get PWR_PLSTAT_SIGNAL = 1 ∨ s.get PWR_VREQ_PGOOD = 0 →
    exec .porstFall s = .next { s with pwr := { s.pwr with porstLow := true, risen := none } }) ∧
  (∀ s : State, s.pwr.porstLow = false → s.pwr.inReset = false → s.get PWR_PLSTAT_SIGNAL = 0 → s.get PWR_VREQ_PGOOD = 1 →
    s.pwr.commit = none → ∃ t, exec .porstFall s = .next t ∧ t.pwr.porstLow = true ∧ t.pwr.risen = none ∧ t.pwr.commit = some 3 ∧
    t.pwr.committed = none ∧ t.sqr.lossHold = true ∧ t.get FLS_STAT_COMMIT = 1 ∧ Counted (HST_PORT_DOWNS 0) s t ∧
    (s.get HST_CTL_MODE = 1 → Counted (HST_PORT_DOWNS 1) s t) ∧
    (∀ n, s.svIdle n = false → s.svState n ≠ 9 → t.svState n = 7) ∧ (∀ n, s.svIdle n = true → t.svState n = s.svState n) ∧
    Untouched [.regs, .bus, .av, .svo, .spn, .sqr, .fls, .host, .rbt, .arc, .tgt, .pwr, .flt] s t) ∧
  (∀ s : State, s.pwr.inReset = false → s.pwr.commit ≠ none →
    (s.pwr.porstLow = true → ∃ t, exec .porstCommitCut s = .next t ∧ WasReset s t ∧ t.pwr.committed = some false ∧
      t.pwr.newestOk = false ∧ t.get FLT_CRREASON_VALID = 1 ∧ t.get FLT_CRREASON_KIND = 2 ∧ t.get FLT_CRREASON_CUT = 1 ∧
      ⟨150, s.time, 0, false⟩ ∈ t.flt.inbox) ∧
    (∀ straps j, s.pwr.porstLow = false → s.pwr.risen = some (straps, j) → ∃ t, exec .porstCommitCut s = .next t ∧
      Started j ({ s with pwr := { s.pwr with newestOk := false }, tim := { s.tim with now := 0 } }.wr PIN_STRAP
        (BitVec.ofNat 32 straps.val)) t ∧ ⟨150, s.time, 0, false⟩ ∈ t.flt.inbox)) ∧
  (∀ s : State, s.pwr.commit = none → exec .porstCommitCut s = .next s) ∧
  (∀ s : State,
    (s.pwr.porstLow = true → s.pwr.inReset = false → ∃ t, exec .porstHoldExpiry s = .next t ∧ WasReset s t ∧
      t.get FLT_CRREASON_VALID = 1 ∧ t.get FLT_CRREASON_KIND = 3 ∧
      t.get FLT_CRREASON_CUT = (if s.pwr.commit = none then 0 else 1) ∧ (s.pwr.commit ≠ none → t.pwr.newestOk = false)) ∧
    (s.pwr.porstLow = false ∨ s.pwr.inReset = true → exec .porstHoldExpiry s = .next s)) ∧
  (∀ (s : State) (straps : Fin 16) (i : StartInput),
    (s.pwr.porstLow = false → exec (.porstRelease straps i) s = .next s) ∧
    (s.pwr.porstLow = true → s.pwr.inReset = false → exec (.porstRelease straps i) s = .next { s with
      pwr := { s.pwr with porstLow := false, risen := some (straps, i) } }) ∧
    (s.pwr.porstLow = true → s.pwr.inReset = true → ∃ t, exec (.porstRelease straps i) s = .next t ∧
      Started { i with headerOk := i.headerOk && !s.pwr.deep } ({ s with tim := { s.tim with now := 0 } }.wr PIN_STRAP
        (BitVec.ofNat 32 straps.val)) t ∧ t.pwr.porstLow = false ∧ t.tim.now = 0 ∧
      t.get PWR_AON_DSBY = (if s.pwr.deep then 1 else 0) ∧ (s.pwr.deep = true → ⟨1138, 0, 0, false⟩ ∈ t.flt.inbox)))

/-- The last steps of a start (R60, R293, R540, R543, R545, Table 20-3). SQUARE_INIT at step 5 goes on to step 9 with the
functions of a linked port ready, or the device enters Cul-de-sac mode with reason 5. Step 12 is reached with what Avenues are usable, or the device
enters Cul-de-sac mode with reason 6; a step past its limit raises source 1139 and resets the chip. -/
def Obligations.StartSteps : Prop :=
  (∀ (s : State) (fuse : Option Nat), s.get PWR_START_STEP = 9 → s.restricted = false → s.get SPN_STAT_READY = 1 →
    ∃ t, exec (.dataServiceReady fuse) s = .next t ∧
    (∀ n : Fin 4, t.get ⟨PWR_AVEN, n, 1⟩ = if s.avUsable n then 1 else 0) ∧
    (∀ n : Fin 4, s.avUsable n = false → ⟨1134, s.time, 0, false⟩ ∈ t.flt.inbox ∧ t.svState n = 0 ∧ t.get (AV_TLCTL_EN n) = 0) ∧
    ((∀ n, s.avUsable n = false) → CulDeSac 6 s t) ∧
    ((∃ n, s.avUsable n = true) → t.get PWR_START_STEP = 0 ∧ t.get PWR_STATE_STATE = 2 ∧ t.pwr.attempts = 0 ∧
      t.pwr.active = s.is PWR_IMG_RUN ∧ t.pwr.lkg = s.is PWR_IMG_RUN ∧ t.get PWR_IMG_ACTIVE = s.get PWR_IMG_RUN ∧
      t.get PWR_IMG_LKG = s.get PWR_IMG_RUN ∧ ⟨1133, s.time, 0, false⟩ ∈ t.flt.inbox)) ∧
  (∀ (s : State) (fuse : Option Nat), s.get PWR_START_STEP ≠ 9 ∨ s.get SPN_STAT_READY = 0 →
    exec (.dataServiceReady fuse) s = .next s) ∧
  (∀ s : State, s.get PWR_START_STEP = 5 → s.restricted = false →
    (s.initCheck = 0 → ∃ t, exec .squareInit s = .next t ∧ t.get PWR_START_STEP = 9 ∧ t.get SQR_STAT_READY = 1 ∧
      (t.nominal = s.nominal ∨ (4800 ≤ t.nominal ∧ t.nominal ≤ 10800)) ∧
      (∀ f : Fin 128, s.get (HST_PORT_UP (s.portOf f.val)) = 1 → (t.ctl f.val).ready = true)) ∧
    (s.initCheck ≠ 0 → ∃ t, exec .squareInit s = .next t ∧ CulDeSac 5 s t ∧ t.get SQR_STAT_ERR = s.initCheck)) ∧
  (∀ (s : State) (i : StartInput), s.pwr.inReset = false → s.restricted = false → s.get PWR_START_STEP ≠ 0 →
    s.get PWR_START_STEPLIM ≠ 0 → s.get REC_CTL_EN = 0 → s.pwr.risen = none → s.pwr.porstLow = false →
    ∃ t, exec (.startStepLimit i) s = .next t ∧ Started i s t ∧ t.flt.chip = none ∧ t.flt.events = s.flt.events + 1) ∧
  (∀ (s : State) (i : StartInput), s.get PWR_START_STEP = 0 ∨ s.get PWR_START_STEPLIM = 0 ∨ s.pwr.inReset = true →
    exec (.startStepLimit i) s = .next s)

/-- Power loss and clean stops (R547, R549, R550, Table 20-8). The power-loss signal names its causes, begins the commit, unloads
the engines by emergency and has the spindle return energy; its commit record makes the commit successful, and its withdrawal
resets the chip; clean stops and open markers are written where R550 has them. -/
def Obligations.PowerLossAndStops : Prop :=
  (∀ s : State, s.lossCauses ≠ 0 → s.get PWR_PLSTAT_SIGNAL = 0 → s.pwr.inReset = false → s.pwr.commit = none →
    ∃ t, exec .powerLossSignal s = .next t ∧ t.get PWR_PLSTAT_SIGNAL = 1 ∧ t.get PWR_PLSTAT_CAUSE = s.lossCauses % 32 ∧
    t.get PWR_STATE_STATE = 7 ∧ t.pwr.commit = some 1 ∧ t.pwr.committed = none ∧ t.sqr.lossHold = true ∧
    t.get FLS_STAT_COMMIT = 1 ∧ ⟨1127, s.time, 0, false⟩ ∈ t.flt.inbox ∧ ⟨365, s.time, 0, false⟩ ∈ t.flt.inbox ∧
    (∀ n, (t.avn n).wg = false) ∧ (∀ n, s.svIdle n = false → t.svState n = 9) ∧
    (∀ n, s.svIdle n = true → t.svState n = s.svState n) ∧
    (s.spnState = 2 ∨ s.spnState = 3 ∨ s.spnState = 4 → t.spnState = 7 ∧ ⟨952, s.time, 0, false⟩ ∈ t.flt.inbox) ∧
    Untouched [.regs, .av, .svo, .spn, .sqr, .fls, .dma, .pwr, .flt] s t) ∧
  (∀ s : State, s.lossCauses = 0 ∨ s.get PWR_PLSTAT_SIGNAL = 1 ∨ s.pwr.inReset = true → exec .powerLossSignal s = .next s) ∧
  (∀ (s : State) (ok : Bool), (s.pwr.commit = none ∨ ∃ n, s.svState n = 9) → exec (.commitRecord ok) s = .next s) ∧
  (∀ (s : State) (kind : Nat), s.pwr.commit = some kind → kind ≠ 3 → (∀ n, s.svState n ≠ 9) →
    (∃ (t : State) (r : CommitRec), exec (.commitRecord true) s = .next t ∧ t.pwr.newest = some r ∧ r.kind = kind ∧
      r.boot = s.get REC_BOOT_BOOT ∧ r.npages = s.commitPages.length ∧ r.seqFirst = s.fls.seq ∧ r.time = s.time ∧
      r.cause = s.commitCause kind ∧ t.pwr.newestOk = true ∧ t.pwr.cleanStop = false ∧ t.pwr.commit = none ∧
      t.pwr.committed = some true ∧ t.pwr.log = (if kind = 1 then s.pwr.log.modify 1 (· + 1) else s.pwr.log).set 4 s.time ∧
      t.recd = { s.recd with committed := unmirrored s.recd.circ (mirrorTop s.recd.mirror) } ∧
      (s.openWrites = [] → t.sqr.journal = s.sqr.journal ++ s.commitPages.map (fun p => (s.page p).journalBlock)) ∧ ⟨1128, s.time, 0, false⟩ ∈ t.flt.inbox ∧
      Frame [FLS_WUSED_LO_WUSED, FLS_WUSED_HI_WUSED, FLS_STAT_RESERVE] [.regs, .sqr, .fls, .pwr, .flt, .recd] s t) ∧
    exec (.commitRecord false) s = .next { s with
      pwr := { s.pwr with commit := none, committed := some false, newestOk := false } }) ∧
  (∀ (s : State) (ok : Bool), s.pwr.commit = some 3 → (∀ n, s.svState n ≠ 9) → s.pwr.porstLow = true →
    ∃ t, exec (.commitRecord ok) s = .next t ∧ t.pwr.inReset = true ∧ t.pwr.committed = some ok ∧ t.pwr.newestOk = ok ∧
    t.get FLT_CRREASON_KIND = 2 ∧ t.get FLT_CRREASON_CUT = 0 ∧ (ok = false → WasReset s t)) ∧
  (∀ (s : State) (i : StartInput), s.get PWR_PLSTAT_SIGNAL = 1 → s.pwr.commit = none → s.lossCauses = 0 →
    s.pwr.porstLow = false → s.pwr.risen = none → ∃ t, exec (.powerLossWithdraw i) s = .next t ∧ Started i s t ∧
    t.get PWR_PLSTAT_SIGNAL = 0) ∧
  (∀ (s : State) (i : StartInput), s.get PWR_PLSTAT_SIGNAL = 0 ∨ s.pwr.commit ≠ none ∨ s.lossCauses ≠ 0 →
    exec (.powerLossWithdraw i) s = .next s) ∧
  (∀ s : State, s.allShut = true → s.stopReady = true → s.pwr.cleanStop = false → s.sqr.lossHold = false →
    ∃ (t : State) (r : CommitRec), exec .cleanStopRecord s = .next t ∧ t.pwr.newest = some r ∧ r.kind = 2 ∧ r.npages = 0 ∧
    t.pwr = { s.pwr with newest := some r, newestOk := false, cleanStop := true } ∧ t.fls.seq = (s.fls.seq + 2) % 2 ^ 64 ∧
    Frame [FLS_WUSED_LO_WUSED, FLS_WUSED_HI_WUSED, FLS_STAT_RESERVE] [.regs, .fls, .pwr, .flt] s t) ∧
  (∀ s : State, s.allShut = false → exec .cleanStopRecord s = .next s) ∧
  (∀ s : State, s.pwr.cleanStop = true → ∃ (t : State) (r : CommitRec), exec .openMarker s = .next t ∧ r.kind = 5 ∧
    t.pwr = { s.pwr with newest := some r, newestOk := false, cleanStop := false } ∧ t.fls.seq = (s.fls.seq + 2) % 2 ^ 64 ∧
    Frame [FLS_WUSED_LO_WUSED, FLS_WUSED_HI_WUSED, FLS_STAT_RESERVE] [.regs, .fls, .pwr, .flt] s t) ∧
  (∀ s : State, s.pwr.cleanStop = false → exec .openMarker s = .next s)

/-- Power states and monitors (R50, R530, R534 to R537, R547, R551). Standby, Sleep and deep standby are entered drained, and left
as R535 and R537 state; the monitors take the rails' runs, PGOOD and the junction temperature. -/
def Obligations.PowerStatesAndMonitors : Prop :=
  (∀ s : State, s.get PWR_PMCFG_STBYT ≠ 0 → s.powerState = 2 → s.noCommands = true →
    (s.dirtyPages ≠ 0 → s.sqr.drains = [] → ∃ t, exec .standbyEntry s = .next t ∧ DrainAsked s t ∧
      Frame [SQR_DRAIN_EPOCH] [.regs, .sqr] s t) ∧
    (s.dirtyPages = 0 → ∃ t, exec .standbyEntry s = .next t ∧ t.get PWR_STATE_STATE = 3 ∧ t.get SPN_TARGET_TARGET = 0 ∧
      (∀ n, s.svIdle n = false → s.svState n ≠ 9 → t.svState n = 7) ∧ (∀ n, s.svIdle n = true → t.svState n = s.svState n) ∧
      (s.spnState = 2 → t.spnState = if s.allIdle then 4 else 3) ∧
      Untouched [.regs, .av, .svo, .spn, .flt] s t)) ∧
  (∀ s : State, s.get PWR_PMCFG_STBYT = 0 → exec .standbyEntry s = .next s) ∧
  (∀ s : State, s.powerState = 3 → s.portsQuiet = true →
    (s.dirtyPages ≠ 0 → s.sqr.drains = [] → ∃ t, exec .sleepEntry s = .next t ∧ DrainAsked s t ∧
      Frame [SQR_DRAIN_EPOCH] [.regs, .sqr] s t) ∧
    (s.dirtyPages = 0 → ∃ t, exec .sleepEntry s = .next t ∧ t.get PWR_STATE_STATE = 4 ∧ t.recd.fifo = [] ∧
      t.get PWR_VREQ_CODE = s.get PWR_AVSLIM_MINCODE ∧ t.get (tdExpect 28) = 0 ∧ (∀ n : Fin 4, t.get (tdExpect (20 + n)) = 0) ∧
      (∀ k, k < 6 → t.get (CPU_CORESTAT_STATE k) = if s.coreLive k then 2 else s.get (CPU_CORESTAT_STATE k)) ∧
      (s.stopReady = true → s.sqr.lossHold = false → t.pwr.cleanStop = true) ∧
      Untouched [.regs, .fls, .pwr, .flt, .recd, .mem] s t)) ∧
  (∀ s : State, s.get PWR_STATE_STATE = 4 →
    (s.recd.fill + 12 ≤ 65536 → ∃ t, exec (.sleepExit .wakePin) s = .next t ∧ t.get PWR_STATE_STATE = 3 ∧
      t.get (tdExpect 28) = 1 ∧ t.recd.fifo = s.recd.fifo ++ [⟨7, 0xFF, leBytes 8 s.time⟩] ∧
      (∀ k, k < 6 → s.get (CPU_CORESTAT_STATE k) = 2 → t.get (CPU_CORESTAT_STATE k) = if k ∈ s.flt.inNmi then 3 else 1) ∧
      Untouched [.regs, .recd] s t) ∧
    (∀ p : Fin 2, p.val ∈ s.host.l12 → s.recd.fill + 12 ≤ 65536 → ∃ t, exec (.sleepExit (.linkUp p)) s = .next t ∧
      t.get PWR_STATE_STATE = 3 ∧ t.host = { s.host with l12 := s.host.l12.erase p.val } ∧ t.get (tdExpect (26 + p)) = 1) ∧
    (∀ p : Fin 2, s.portUsed p = true → ∃ t, exec (.sleepExit (.perst p)) s = .next t ∧ t.get PWR_STATE_STATE = 3 ∧
      t.get (HST_PORT_PERST p) = 0)) ∧
  (∀ s : State, s.get PWR_STATE_STATE ≠ 4 → exec (.sleepExit .wakePin) s = .next s) ∧
  (∀ s : State, s.get PWR_STATE_STATE = 4 → s.get PWR_PMCFG_DSEN = 1 → s.get (HST_PORT_PERST 0) = 1 → s.get (HST_PORT_PERST 1) = 1 →
    ∃ t, exec .deepStandbyEntry s = .next t ∧ WasReset s t ∧ t.pwr.deep = true ∧ t.pwr.wakeSpent = false ∧
    t.get PWR_AON_DSBY = 1 ∧ t.tim.now = 0 ∧ t.recd.circ = [] ∧ t.recd.fifo = [] ∧ t.flt.inbox = []) ∧
  (∀ s : State, s.get PWR_STATE_STATE ≠ 4 ∨ s.get PWR_PMCFG_DSEN = 0 → exec .deepStandbyEntry s = .next s) ∧
  (∀ (s : State) (edge : Bool) (straps : Fin 16) (i : StartInput),
    (s.pwr.deep = true → s.pwr.porstLow = false → (s.pwr.wakeSpent = false ∨ edge = true) →
      ∃ t, exec (.deepStandbyWake edge straps i) s = .next t ∧
      Started { i with headerOk := false } ({ s with tim := { s.tim with now := 0 } }.wr PIN_STRAP
        (BitVec.ofNat 32 straps.val)) t ∧ t.get PWR_AON_DSBY = 1 ∧ ⟨1138, 0, 0, false⟩ ∈ t.flt.inbox) ∧
    (s.pwr.deep = false ∨ s.pwr.porstLow = true ∨ (s.pwr.wakeSpent = true ∧ edge = false) →
      exec (.deepStandbyWake edge straps i) s = .next s)) ∧
  (∀ s : State, (s.pwr.deep = true → exec .wakeSupplyTimeout s = .next { s with pwr := { s.pwr with wakeSpent := true } }) ∧
    (s.pwr.deep = false → exec .wakeSupplyTimeout s = .next s)) ∧
  (∀ (s : State) (m : SupplySample), s.pwr.inReset = true → exec (.supplyMonitorSample m) s = .next s) ∧
  (∀ (s : State) (m : SupplySample) (a b c d : Nat), s.pwr.inReset = false → s.pwr.lowRuns = [a, b, c, d] →
    ∃ t, exec (.supplyMonitorSample m) s = .next t ∧
    t.pwr.lowRuns = [lowRun a m.rails.vio (s.get PWR_PLTHR_VIO), lowRun b m.rails.vana (s.get PWR_PLTHR_VANA),
      lowRun c m.rails.vf25 (s.get PWR_PLTHR_VF25), lowRun d m.rails.vf12 (s.get PWR_PLTHR2_VF12)] ∧
    (t.pwr.causes.testBit 1 = true ↔ 4 ∈ t.pwr.lowRuns) ∧ t.pwr.causes.testBit 2 = s.pwr.causes.testBit 2 ∧
    Untouched [.regs, .pwr, .flt] s t) ∧
  (∀ (s : State) (m : SupplySample) (tj : Int), s.pwr.inReset = false → tj ∈ m.temps → (∀ x ∈ m.temps, x ≤ tj) →
    s.get SQR_WIN_WIN ≤ 64 → ∃ t, exec (.supplyMonitorSample m) s = .next t ∧ t.geti PWR_THERM_TJ = satInt 8 tj ∧
    (t.pwr.hotWarn = true ↔ (s.get PWR_THERM_TWARN : Int) < tj) ∧ (t.pwr.hotCrit = true ↔ (s.get PWR_THERM_TCRIT : Int) < tj) ∧
    ((s.get PWR_THERM_TWARN : Int) < tj → s.pwr.hotWarn = false → ⟨1135, s.time, 0, false⟩ ∈ t.flt.inbox) ∧
    ((s.get PWR_THERM_TCRIT : Int) < tj → s.pwr.hotCrit = false → ⟨1136, s.time, 0, false⟩ ∈ t.flt.inbox) ∧
    Frame [PWR_THERM_TJ] [.regs, .pwr, .flt] s t) ∧
  (∀ s : State, ∃ t, exec .pgoodFall s = .next t ∧ t.get PWR_VREQ_PGOOD = 0 ∧ t.pace = { s.pace with pgTiming := true } ∧
    t.pwr = { s.pwr with pgtTiming := true } ∧ Frame [PWR_VREQ_PGOOD] [.regs, .pace, .pwr] s t) ∧
  (∀ s : State,
    (s.pwr.pgtTiming = true → s.get PWR_VREQ_PGOOD = 0 → ∃ t, exec .pgoodLossExpiry s = .next t ∧ t.pwr.pgtTiming = false ∧
      t.pwr.causes.testBit 2 = true ∧ (∀ k, k ≠ 2 → t.pwr.causes.testBit k = s.pwr.causes.testBit k) ∧ Untouched [.pwr] s t) ∧
    (s.pwr.pgtTiming = false ∨ s.get PWR_VREQ_PGOOD = 1 → exec .pgoodLossExpiry s = .next s))

/-- A bad access (R27). Whatever requester makes it, a bad access is counted in SYS_BADCNT, saturating; it is captured in
SYS_BADACC only while VALID is 0, so that the first one stays until VALID is cleared by a write of 1; a read returns 0, and a write
changes nothing else. A write to a register of RO fields alone and one of a locked field with another value are bad accesses too. -/
def Obligations.BadAccesses : Prop :=
  (∀ (s : State) (acc : BusAccess) (cause addr : Nat) (bar : Bool), s.accessTarget acc = .bad cause bar addr →
    (∀ ch, ∃ t, exec (.readClearAccess acc ch) s = .next t ∧ t.bus.rdata = 0 ∧ Counted SYS_BADCNT_COUNT s t ∧
      (s.get SYS_BADACC_VALID = 0 → t.get SYS_BADACC_VALID = 1 ∧ t.get SYS_BADACC_CAUSE = cause % 8 ∧
        t.get SYS_BADACC_BAROFS = (if bar then 1 else 0) ∧ t.get SYS_BADACC_WRITE = 0 ∧
        t.get SYS_BADACC_ADDR = addr % 2 ^ 25) ∧
      (s.get SYS_BADACC_VALID = 1 → t.rd SYS_BADACC = s.rd SYS_BADACC) ∧ WordsBut [SYS_BADACC, SYS_BADCNT] s t ∧
      Untouched [.regs, .bus] s t) ∧
    (∀ v, ∃ t, exec (.registerWrite acc v) s = .next t ∧ Counted SYS_BADCNT_COUNT s t ∧
      (s.get SYS_BADACC_VALID = 0 → t.get SYS_BADACC_VALID = 1 ∧ t.get SYS_BADACC_CAUSE = cause % 8 ∧
        t.get SYS_BADACC_BAROFS = (if bar then 1 else 0) ∧ t.get SYS_BADACC_WRITE = 1 ∧
        t.get SYS_BADACC_ADDR = addr % 2 ^ 25) ∧
      (s.get SYS_BADACC_VALID = 1 → t.rd SYS_BADACC = s.rd SYS_BADACC) ∧ WordsBut [SYS_BADACC, SYS_BADCNT] s t ∧
      Untouched [.regs] s t)) ∧
  (∀ (s : State) (a base : Nat) (r : RegSpec) (v : Word), a % 4 = 0 → regAt a = some (base, r) →
    (allRo s a r = true → ∃ t, exec (.registerWrite (.internal a) v) s = .next t ∧ Counted SYS_BADCNT_COUNT s t ∧
      (s.get SYS_BADACC_VALID = 0 → t.get SYS_BADACC_VALID = 1 ∧ t.get SYS_BADACC_CAUSE = 3 ∧ t.get SYS_BADACC_ADDR = a % 2 ^ 25) ∧
      (s.get SYS_BADACC_VALID = 1 → t.rd SYS_BADACC = s.rd SYS_BADACC) ∧ WordsBut [SYS_BADACC, SYS_BADCNT] s t ∧
      Untouched [.regs] s t) ∧
    (lockedDiffers s base a r v.toNat = true → allRo s a r = false → ∃ t, exec (.registerWrite (.internal a) v) s = .next t ∧
      Counted SYS_BADCNT_COUNT s t ∧ (s.get SYS_BADACC_VALID = 0 → t.get SYS_BADACC_VALID = 1 ∧ t.get SYS_BADACC_CAUSE = 4) ∧
      (s.get SYS_BADACC_VALID = 1 → t.rd SYS_BADACC = s.rd SYS_BADACC))) ∧
  (∀ (s : State) (v : Word), v.getLsbD 31 = true → ∃ t, exec (.registerWrite (.internal SYS_BADACC) v) s = .next t ∧
    t.get SYS_BADACC_VALID = 0 ∧ WordsBut [SYS_BADACC] s t ∧ Untouched [.regs] s t)

/-- The L2's index (R495): the set is A[17:6] XOR A[29:18] XOR A[39:30] extended with zeros, and the tag A[39:18] with the set names
the line of any address, so that no two lines share both. -/
def Obligations.L2SetAndTag : Prop :=
  (∀ a : Nat, l2Set a = ((a / 2 ^ 6) % 2 ^ 12) ^^^ ((a / 2 ^ 18) % 2 ^ 12) ^^^ ((a / 2 ^ 30) % 2 ^ 10)) ∧
  (∀ a : Nat, l2Set a < 4096) ∧
  (∀ a b : Nat, a < 2 ^ 40 → b < 2 ^ 40 → a / 2 ^ 18 = b / 2 ^ 18 → l2Set a = l2Set b → a / 64 = b / 64)

/-- Loads of a replacement LFSR (R501): a value that is not zero is taken as it is, and zero as 0xACE1, so that no load leaves the
all-zero state; nothing else changes, the other twelve LFSRs included. -/
def Obligations.LfsrLoads : Prop :=
  ∀ (s : State) (c : Fin 13) (v : Fin 65536), ∃ t, exec (.lfsrLoad c v) s = .next t ∧
    (v.val ≠ 0 → t.get (CPU_LFSR_STATE c) = v.val) ∧ (v.val = 0 → t.get (CPU_LFSR_STATE c) = 0xACE1) ∧
    t.get (CPU_LFSR_STATE c) ≠ 0 ∧ (∀ d : Fin 13, d ≠ c → t.get (CPU_LFSR_STATE d) = s.get (CPU_LFSR_STATE d)) ∧
    Frame [CPU_LFSR_STATE c] [.regs] s t
end

