-- ==== Sys2Proof/Laws/Format.lean ====
section
/-! SUPPORT. Laws of the on-media format (2.5): scrambling twice is nothing (R73), and the payload that the write path makes
passes the media CRC and carries its header (R72, Table 2-3). -/

namespace Sys2Proof.Laws

open Sys2Proof Sys2Proof.Machine

/-- Scrambling with one register twice changes nothing. -/
theorem scrambleFrom_twice (bs : List Byte) : ∀ s, scrambleFrom s (scrambleFrom s bs) = bs := by
  induction bs with
  | nil => intro s; rfl
  | cons b bs ih => intro s; simp [scrambleFrom, ih, BitVec.xor_assoc]

/-- Descrambling is scrambling (R73). -/
theorem scramble_twice (tag : BitVec 36) (p : List Byte) : scramble tag (scramble tag p) = p := by
  rcases Nat.le_total 8 p.length with h | h
  · have hl : (p.take 8).length = 8 := by simp [h]
    simp only [scramble, List.take_append_of_le_length (Nat.le_of_eq hl.symm), List.drop_append_of_le_length (Nat.le_of_eq hl.symm)]
    rw [List.take_take, List.drop_eq_nil_of_le (Nat.le_of_eq hl)]
    simp [scrambleFrom_twice]
  · simp [scramble, List.drop_eq_nil_of_le h, List.take_of_length_le h, scrambleFrom]

theorem beBytes_length (k : Nat) {w : Nat} (x : BitVec w) : (beBytes k x).length = k := by simp [beBytes]

/-- The payload of a whole block passes its media CRC (R72). -/
theorem mediaCrcOk_payloadOf (h : BitVec 64) (block : List Byte) (hb : block.length = 4112) :
    mediaCrcOk (payloadOf h block) = true := by
  have hl : (beBytes 8 h ++ block).length = 4120 := by simp [beBytes_length, hb]
  simp only [mediaCrcOk, payloadOf, List.take_left' hl, List.drop_left' hl]
  rw [List.take_of_length_le (Nat.le_of_eq (beBytes_length 8 _))]
  simp

/-- The header is the payload's first eight bytes (Table 2-3). -/
theorem payloadHeader_payloadOf (h : BitVec 64) (block : List Byte) : payloadHeader (payloadOf h block) = ofBytes 64 (beBytes 8 h) := by
  simp only [payloadHeader, payloadOf, List.append_assoc]
  rw [List.take_left' (beBytes_length 8 h)]

end Sys2Proof.Laws
end

