-- ==== Sys2Proof/Laws/KMap.lean ====
section
/-! SUPPORT. The laws of sparse maps: a read after a write gives the value written, a write leaves every other key
alone, and every write keeps the canonical form. -/

namespace Sys2Proof.Machine.KMap

variable {β : Type} (d : Nat → β)

theorem get_erase_self (m : KMap β) (k : Nat) : get d (erase m k) k = d k := by
  induction m with
  | nil => rfl
  | cons p m ih =>
    obtain ⟨j, v⟩ := p
    by_cases h : j = k
    · simp [erase, h, ih]
    · simp [erase, get, h, ih]

theorem get_erase_of_ne (m : KMap β) {k l : Nat} (hne : l ≠ k) : get d (erase m k) l = get d m l := by
  induction m with
  | nil => rfl
  | cons p m ih =>
    obtain ⟨j, v⟩ := p
    by_cases h : j = k
    · have hl : ¬ k = l := fun e => hne e.symm
      simp [erase, get, h, hl, ih]
    · simp [erase, get, h, ih]

theorem get_insert_of_ne (m : KMap β) {k l : Nat} (v : β) (hne : l ≠ k) : get d (insert m k v) l = get d m l := by
  have hk : ¬ k = l := fun e => hne e.symm
  induction m with
  | nil => simp [insert, get, hk]
  | cons p m ih =>
    obtain ⟨j, w⟩ := p
    by_cases h : k < j
    · simp [insert, get, h, hk]
    · simp [insert, get, h, ih]

theorem get_insert_erase (m : KMap β) (k : Nat) (v : β) : get d (insert (erase m k) k v) k = v := by
  induction m with
  | nil => simp [erase, insert, get]
  | cons p m ih =>
    obtain ⟨j, w⟩ := p
    by_cases h : j = k
    · simp [erase, h, ih]
    · by_cases h2 : k < j
      · simp [erase, insert, get, h, h2]
      · simp [erase, insert, get, h, h2, ih]

variable [DecidableEq β]

/-- A read after a write to the same key gives the value written. -/
@[simp] theorem get_set_self (m : KMap β) (k : Nat) (v : β) : get d (set d m k v) k = v := by
  unfold set
  split
  · rename_i h; rw [get_erase_self, h]
  · exact get_insert_erase d m k v

/-- A write leaves every other key alone. -/
theorem get_set_of_ne (m : KMap β) {k l : Nat} (v : β) (hne : l ≠ k) : get d (set d m k v) l = get d m l := by
  unfold set
  split
  · exact get_erase_of_ne d m hne
  · rw [get_insert_of_ne d _ v hne, get_erase_of_ne d m hne]

/-- The canonical form, read as facts on the list. -/
theorem wf_iff (m : KMap β) :
    wf d m = true ↔ m.Pairwise (fun p q => p.1 < q.1) ∧ ∀ p ∈ m, p.2 ≠ d p.1 := by
  induction m with
  | nil => simp [wf]
  | cons p m ih =>
    obtain ⟨k, v⟩ := p
    cases m with
    | nil => simp [wf]
    | cons q m =>
      obtain ⟨j, w⟩ := q
      simp only [wf, Bool.and_eq_true, decide_eq_true_eq, ih]
      constructor
      · rintro ⟨⟨hv, hkj⟩, hp, hd⟩
        refine ⟨List.pairwise_cons.2 ⟨?_, hp⟩, ?_⟩
        · intro r hr
          rcases List.mem_cons.1 hr with rfl | hr
          · exact hkj
          · exact lt_trans hkj (List.rel_of_pairwise_cons hp hr)
        · intro r hr
          rcases List.mem_cons.1 hr with rfl | hr
          · exact hv
          · exact hd r hr
      · rintro ⟨hp, hd⟩
        have hp2 := List.pairwise_cons.1 hp
        exact ⟨⟨hd (k, v) (by simp), hp2.1 (j, w) (by simp)⟩, hp2.2, fun r hr => hd r (by simp [hr])⟩

omit [DecidableEq β] in
theorem erase_eq_filter (m : KMap β) (k : Nat) : erase m k = m.filter (fun p => decide (p.1 ≠ k)) := by
  induction m with
  | nil => rfl
  | cons p m ih =>
    obtain ⟨j, v⟩ := p
    by_cases h : j = k <;> simp [erase, h, ih]

theorem mem_insert (m : KMap β) (k : Nat) (v : β) (p : Nat × β) : p ∈ insert m k v ↔ p = (k, v) ∨ p ∈ m := by
  induction m with
  | nil => simp [insert]
  | cons q m ih =>
    obtain ⟨j, w⟩ := q
    by_cases h : k < j
    · simp [insert, h]
    · simp [insert, h, ih]; tauto

theorem insert_rising (m : KMap β) (k : Nat) (v : β) (hm : m.Pairwise (fun p q => p.1 < q.1))
    (hk : ∀ p ∈ m, p.1 ≠ k) : (insert m k v).Pairwise (fun p q => p.1 < q.1) := by
  induction m with
  | nil => simp [insert]
  | cons q m ih =>
    obtain ⟨j, w⟩ := q
    have hm2 := List.pairwise_cons.1 hm
    by_cases h : k < j
    · simp only [insert, h, if_true]
      refine List.pairwise_cons.2 ⟨?_, hm⟩
      intro r hr
      rcases List.mem_cons.1 hr with rfl | hr
      · exact h
      · exact lt_trans h (hm2.1 r hr)
    · simp only [insert, h, if_false]
      refine List.pairwise_cons.2 ⟨?_, ih hm2.2 (fun p hp => hk p (by simp [hp]))⟩
      intro r hr
      rcases (mem_insert m k v r).1 hr with rfl | hr
      · have := hk (j, w) (by simp)
        simp only at this ⊢
        omega
      · exact hm2.1 r hr

/-- Every write keeps the canonical form. -/
theorem wf_set (m : KMap β) (k : Nat) (v : β) (hm : wf d m = true) : wf d (set d m k v) = true := by
  rw [wf_iff] at hm ⊢
  obtain ⟨hp, hd⟩ := hm
  have he : (erase m k).Pairwise (fun p q => p.1 < q.1) := by
    rw [erase_eq_filter]; exact hp.filter _
  have hed : ∀ p ∈ erase m k, p.2 ≠ d p.1 := by
    intro p hp'
    rw [erase_eq_filter] at hp'
    exact hd p (List.mem_filter.1 hp').1
  unfold set
  split
  · exact ⟨he, hed⟩
  · rename_i hv
    refine ⟨insert_rising _ k v he ?_, ?_⟩
    · intro p hp'
      rw [erase_eq_filter] at hp'
      simpa using (List.mem_filter.1 hp').2
    · intro p hp'
      rcases (mem_insert _ k v p).1 hp' with rfl | hp'
      · exact hv
      · exact hed p hp'

end Sys2Proof.Machine.KMap
end

