-- ==== Sys2Proof/Laws/Memory.lean ====
section
/-! SUPPORT. What the operations on the byte memories and the channels do: each keeps the canonical form, and a store changes
the bytes that it stores to and no other. -/

namespace Sys2Proof.Machine

/-- Byte `k` of a list that begins at byte `j` of a store. -/
theorem zipIdx_store_wf (a : Nat) (bs : List Byte) : ∀ (j : Nat) (m : KMap Byte), KMap.wf blankByte m = true →
    KMap.wf blankByte ((bs.zipIdx j).foldl (fun x b => KMap.set blankByte x (a + b.2) b.1) m) = true := by
  induction bs with
  | nil => intro j m h; exact h
  | cons b bs ih => intro j m h; exact ih (j + 1) _ (KMap.wf_set _ m (a + j) b h)

/-- A store keeps the canonical form. -/
theorem wf_storeBytes (m : KMap Byte) (a : Nat) (bs : List Byte) (h : KMap.wf blankByte m = true) :
    KMap.wf blankByte (storeBytes m a bs) = true := zipIdx_store_wf a bs 0 m h

theorem zipIdx_store_out (a k : Nat) (bs : List Byte) : ∀ (j : Nat) (m : KMap Byte), k < a + j ∨ a + j + bs.length ≤ k →
    KMap.get blankByte ((bs.zipIdx j).foldl (fun x b => KMap.set blankByte x (a + b.2) b.1) m) k = KMap.get blankByte m k := by
  induction bs with
  | nil => intro j m _; rfl
  | cons b bs ih =>
    intro j m h
    have h1 := ih (j + 1) (KMap.set blankByte m (a + j) b) (by simp only [List.length_cons] at h; omega)
    rw [List.zipIdx_cons, List.foldl_cons, h1]
    exact KMap.get_set_of_ne _ m b (by simp only [List.length_cons] at h; omega)

/-- A store leaves every byte outside it as it was. -/
theorem get_storeBytes_out (m : KMap Byte) (a k : Nat) (bs : List Byte) (h : k < a ∨ a + bs.length ≤ k) :
    KMap.get blankByte (storeBytes m a bs) k = KMap.get blankByte m k := zipIdx_store_out a k bs 0 m (by simpa using h)

theorem zipIdx_store_in (a i : Nat) (bs : List Byte) : ∀ (j : Nat) (m : KMap Byte), i < bs.length →
    KMap.get blankByte ((bs.zipIdx j).foldl (fun x b => KMap.set blankByte x (a + b.2) b.1) m) (a + j + i) = bs.getD i 0 := by
  induction bs generalizing i with
  | nil => intro j m h; simp at h
  | cons b bs ih =>
    intro j m h
    rw [List.zipIdx_cons, List.foldl_cons]
    cases i with
    | zero =>
      rw [zipIdx_store_out a (a + j + 0) bs (j + 1) _ (by omega)]
      simp
    | succ i =>
      have h1 := ih i (j + 1) (KMap.set blankByte m (a + j) b) (by simp only [List.length_cons] at h; omega)
      have h2 : a + j + (i + 1) = a + (j + 1) + i := by omega
      rw [h2, h1]
      simp

/-- A byte read after a store that covers it is the one stored. -/
theorem get_storeBytes_in (m : KMap Byte) (a i : Nat) (bs : List Byte) (h : i < bs.length) :
    KMap.get blankByte (storeBytes m a bs) (a + i) = bs.getD i 0 := by
  exact zipIdx_store_in a i bs 0 m h

/-- Writing a line back keeps the canonical form. -/
theorem State.mem_wf_writeLine (s : State) (line : Nat) (bs : List Byte) (h : s.mem.wf = true) : (s.writeLine line bs).mem.wf = true := by
  simp only [Memories.wf, Bool.and_eq_true] at h ⊢
  exact ⟨zipIdx_store_wf (64 * line) bs 0 s.mem.fw h.1, h.2⟩

/-- A byte of the trace ring keeps the canonical form. -/
theorem State.mem_wf_traceByte (s : State) (b : Byte) (h : s.mem.wf = true) : (s.traceByte b).mem.wf = true := by
  simp only [Memories.wf, Bool.and_eq_true] at h ⊢
  exact ⟨KMap.wf_set _ s.mem.fw _ b h.1, h.2⟩

/-- A change of a channel keeps the channels in canonical form. -/
theorem State.dma_wf_modChan (s : State) (c : Nat) (f : Channel → Channel) (h : KMap.wf (fun _ => idleChannel) s.dma = true) :
    KMap.wf (fun _ => idleChannel) (s.modChan c f).dma = true := KMap.wf_set _ s.dma c _ h

/-- A channel reads as it was left, and every other as before. -/
@[simp] theorem State.chan_modChan_self (s : State) (c : Nat) (f : Channel → Channel) : (s.modChan c f).chan c = f (s.chan c) :=
  KMap.get_set_self _ s.dma c _
theorem State.chan_modChan_of_ne (s : State) {c d : Nat} (f : Channel → Channel) (h : d ≠ c) : (s.modChan c f).chan d = s.chan d :=
  KMap.get_set_of_ne _ s.dma _ h

/-- The memories at reset list nothing. -/
theorem reset_mem_wf : State.reset.mem.wf = true := by decide

end Sys2Proof.Machine
end

