-- ==== Sys2Proof/Laws/State.lean ====
section
/-! SUPPORT. One lemma for each part of the state and each shared update: what the update leaves alone. -/

namespace Sys2Proof.Machine

/-! ### `wr` -/

@[simp] theorem State.wr_bus (s : State) (a : Nat) (w : Word) : (s.wr a w).bus = s.bus := rfl
@[simp] theorem State.wr_tim (s : State) (a : Nat) (w : Word) : (s.wr a w).tim = s.tim := rfl
@[simp] theorem State.wr_ring (s : State) (a : Nat) (w : Word) : (s.wr a w).ring = s.ring := rfl
@[simp] theorem State.wr_pace (s : State) (a : Nat) (w : Word) : (s.wr a w).pace = s.pace := rfl
@[simp] theorem State.wr_av (s : State) (a : Nat) (w : Word) : (s.wr a w).av = s.av := rfl
@[simp] theorem State.wr_rdec (s : State) (a : Nat) (w : Word) : (s.wr a w).rdec = s.rdec := rfl
@[simp] theorem State.wr_svo (s : State) (a : Nat) (w : Word) : (s.wr a w).svo = s.svo := rfl
@[simp] theorem State.wr_spn (s : State) (a : Nat) (w : Word) : (s.wr a w).spn = s.spn := rfl
@[simp] theorem State.wr_sqr (s : State) (a : Nat) (w : Word) : (s.wr a w).sqr = s.sqr := rfl
@[simp] theorem State.wr_fls (s : State) (a : Nat) (w : Word) : (s.wr a w).fls = s.fls := rfl
@[simp] theorem State.wr_red (s : State) (a : Nat) (w : Word) : (s.wr a w).red = s.red := rfl
@[simp] theorem State.wr_host (s : State) (a : Nat) (w : Word) : (s.wr a w).host = s.host := rfl
@[simp] theorem State.wr_rbt (s : State) (a : Nat) (w : Word) : (s.wr a w).rbt = s.rbt := rfl
@[simp] theorem State.wr_arc (s : State) (a : Nat) (w : Word) : (s.wr a w).arc = s.arc := rfl
@[simp] theorem State.wr_tgt (s : State) (a : Nat) (w : Word) : (s.wr a w).tgt = s.tgt := rfl
@[simp] theorem State.wr_pwr (s : State) (a : Nat) (w : Word) : (s.wr a w).pwr = s.pwr := rfl
@[simp] theorem State.wr_flt (s : State) (a : Nat) (w : Word) : (s.wr a w).flt = s.flt := rfl
@[simp] theorem State.wr_recd (s : State) (a : Nat) (w : Word) : (s.wr a w).recd = s.recd := rfl
@[simp] theorem State.wr_dma (s : State) (a : Nat) (w : Word) : (s.wr a w).dma = s.dma := rfl
@[simp] theorem State.wr_mem (s : State) (a : Nat) (w : Word) : (s.wr a w).mem = s.mem := rfl
@[simp] theorem State.wr_cores (s : State) (a : Nat) (w : Word) : (s.wr a w).cores = s.cores := rfl
@[simp] theorem State.wr_pins (s : State) (a : Nat) (w : Word) : (s.wr a w).pins = s.pins := rfl
@[simp] theorem State.wr_shock0 (s : State) (a : Nat) (w : Word) : (s.wr a w).shock0 = s.shock0 := rfl
@[simp] theorem State.wr_shock1 (s : State) (a : Nat) (w : Word) : (s.wr a w).shock1 = s.shock1 := rfl
@[simp] theorem State.wr_preampTable (s : State) (a : Nat) (w : Word) : (s.wr a w).preampTable = s.preampTable := rfl
@[simp] theorem State.wr_nominal (s : State) (a : Nat) (w : Word) : (s.wr a w).nominal = s.nominal := rfl
@[simp] theorem State.wr_freeCtr (s : State) (a : Nat) (w : Word) : (s.wr a w).freeCtr = s.freeCtr := rfl
@[simp] theorem State.wr_pending (s : State) (a : Nat) (w : Word) : (s.wr a w).pending = s.pending := rfl

/-! ### `put` -/

@[simp] theorem State.put_bus (s : State) (f : Fld) (v : Nat) : (s.put f v).bus = s.bus := rfl
@[simp] theorem State.put_tim (s : State) (f : Fld) (v : Nat) : (s.put f v).tim = s.tim := rfl
@[simp] theorem State.put_ring (s : State) (f : Fld) (v : Nat) : (s.put f v).ring = s.ring := rfl
@[simp] theorem State.put_pace (s : State) (f : Fld) (v : Nat) : (s.put f v).pace = s.pace := rfl
@[simp] theorem State.put_av (s : State) (f : Fld) (v : Nat) : (s.put f v).av = s.av := rfl
@[simp] theorem State.put_rdec (s : State) (f : Fld) (v : Nat) : (s.put f v).rdec = s.rdec := rfl
@[simp] theorem State.put_svo (s : State) (f : Fld) (v : Nat) : (s.put f v).svo = s.svo := rfl
@[simp] theorem State.put_spn (s : State) (f : Fld) (v : Nat) : (s.put f v).spn = s.spn := rfl
@[simp] theorem State.put_sqr (s : State) (f : Fld) (v : Nat) : (s.put f v).sqr = s.sqr := rfl
@[simp] theorem State.put_fls (s : State) (f : Fld) (v : Nat) : (s.put f v).fls = s.fls := rfl
@[simp] theorem State.put_red (s : State) (f : Fld) (v : Nat) : (s.put f v).red = s.red := rfl
@[simp] theorem State.put_host (s : State) (f : Fld) (v : Nat) : (s.put f v).host = s.host := rfl
@[simp] theorem State.put_rbt (s : State) (f : Fld) (v : Nat) : (s.put f v).rbt = s.rbt := rfl
@[simp] theorem State.put_arc (s : State) (f : Fld) (v : Nat) : (s.put f v).arc = s.arc := rfl
@[simp] theorem State.put_tgt (s : State) (f : Fld) (v : Nat) : (s.put f v).tgt = s.tgt := rfl
@[simp] theorem State.put_pwr (s : State) (f : Fld) (v : Nat) : (s.put f v).pwr = s.pwr := rfl
@[simp] theorem State.put_flt (s : State) (f : Fld) (v : Nat) : (s.put f v).flt = s.flt := rfl
@[simp] theorem State.put_recd (s : State) (f : Fld) (v : Nat) : (s.put f v).recd = s.recd := rfl
@[simp] theorem State.put_dma (s : State) (f : Fld) (v : Nat) : (s.put f v).dma = s.dma := rfl
@[simp] theorem State.put_mem (s : State) (f : Fld) (v : Nat) : (s.put f v).mem = s.mem := rfl
@[simp] theorem State.put_cores (s : State) (f : Fld) (v : Nat) : (s.put f v).cores = s.cores := rfl
@[simp] theorem State.put_pins (s : State) (f : Fld) (v : Nat) : (s.put f v).pins = s.pins := rfl
@[simp] theorem State.put_shock0 (s : State) (f : Fld) (v : Nat) : (s.put f v).shock0 = s.shock0 := rfl
@[simp] theorem State.put_shock1 (s : State) (f : Fld) (v : Nat) : (s.put f v).shock1 = s.shock1 := rfl
@[simp] theorem State.put_preampTable (s : State) (f : Fld) (v : Nat) : (s.put f v).preampTable = s.preampTable := rfl
@[simp] theorem State.put_nominal (s : State) (f : Fld) (v : Nat) : (s.put f v).nominal = s.nominal := rfl
@[simp] theorem State.put_freeCtr (s : State) (f : Fld) (v : Nat) : (s.put f v).freeCtr = s.freeCtr := rfl
@[simp] theorem State.put_pending (s : State) (f : Fld) (v : Nat) : (s.put f v).pending = s.pending := rfl

/-! ### `puti` -/

@[simp] theorem State.puti_bus (s : State) (f : Fld) (i : Int) : (s.puti f i).bus = s.bus := rfl
@[simp] theorem State.puti_tim (s : State) (f : Fld) (i : Int) : (s.puti f i).tim = s.tim := rfl
@[simp] theorem State.puti_ring (s : State) (f : Fld) (i : Int) : (s.puti f i).ring = s.ring := rfl
@[simp] theorem State.puti_pace (s : State) (f : Fld) (i : Int) : (s.puti f i).pace = s.pace := rfl
@[simp] theorem State.puti_av (s : State) (f : Fld) (i : Int) : (s.puti f i).av = s.av := rfl
@[simp] theorem State.puti_rdec (s : State) (f : Fld) (i : Int) : (s.puti f i).rdec = s.rdec := rfl
@[simp] theorem State.puti_svo (s : State) (f : Fld) (i : Int) : (s.puti f i).svo = s.svo := rfl
@[simp] theorem State.puti_spn (s : State) (f : Fld) (i : Int) : (s.puti f i).spn = s.spn := rfl
@[simp] theorem State.puti_sqr (s : State) (f : Fld) (i : Int) : (s.puti f i).sqr = s.sqr := rfl
@[simp] theorem State.puti_fls (s : State) (f : Fld) (i : Int) : (s.puti f i).fls = s.fls := rfl
@[simp] theorem State.puti_red (s : State) (f : Fld) (i : Int) : (s.puti f i).red = s.red := rfl
@[simp] theorem State.puti_host (s : State) (f : Fld) (i : Int) : (s.puti f i).host = s.host := rfl
@[simp] theorem State.puti_rbt (s : State) (f : Fld) (i : Int) : (s.puti f i).rbt = s.rbt := rfl
@[simp] theorem State.puti_arc (s : State) (f : Fld) (i : Int) : (s.puti f i).arc = s.arc := rfl
@[simp] theorem State.puti_tgt (s : State) (f : Fld) (i : Int) : (s.puti f i).tgt = s.tgt := rfl
@[simp] theorem State.puti_pwr (s : State) (f : Fld) (i : Int) : (s.puti f i).pwr = s.pwr := rfl
@[simp] theorem State.puti_flt (s : State) (f : Fld) (i : Int) : (s.puti f i).flt = s.flt := rfl
@[simp] theorem State.puti_recd (s : State) (f : Fld) (i : Int) : (s.puti f i).recd = s.recd := rfl
@[simp] theorem State.puti_dma (s : State) (f : Fld) (i : Int) : (s.puti f i).dma = s.dma := rfl
@[simp] theorem State.puti_mem (s : State) (f : Fld) (i : Int) : (s.puti f i).mem = s.mem := rfl
@[simp] theorem State.puti_cores (s : State) (f : Fld) (i : Int) : (s.puti f i).cores = s.cores := rfl
@[simp] theorem State.puti_pins (s : State) (f : Fld) (i : Int) : (s.puti f i).pins = s.pins := rfl
@[simp] theorem State.puti_shock0 (s : State) (f : Fld) (i : Int) : (s.puti f i).shock0 = s.shock0 := rfl
@[simp] theorem State.puti_shock1 (s : State) (f : Fld) (i : Int) : (s.puti f i).shock1 = s.shock1 := rfl
@[simp] theorem State.puti_preampTable (s : State) (f : Fld) (i : Int) : (s.puti f i).preampTable = s.preampTable := rfl
@[simp] theorem State.puti_nominal (s : State) (f : Fld) (i : Int) : (s.puti f i).nominal = s.nominal := rfl
@[simp] theorem State.puti_freeCtr (s : State) (f : Fld) (i : Int) : (s.puti f i).freeCtr = s.freeCtr := rfl
@[simp] theorem State.puti_pending (s : State) (f : Fld) (i : Int) : (s.puti f i).pending = s.pending := rfl

/-! ### `putb` -/

@[simp] theorem State.putb_bus (s : State) (f : Fld) (b : Bool) : (s.putb f b).bus = s.bus := rfl
@[simp] theorem State.putb_tim (s : State) (f : Fld) (b : Bool) : (s.putb f b).tim = s.tim := rfl
@[simp] theorem State.putb_ring (s : State) (f : Fld) (b : Bool) : (s.putb f b).ring = s.ring := rfl
@[simp] theorem State.putb_pace (s : State) (f : Fld) (b : Bool) : (s.putb f b).pace = s.pace := rfl
@[simp] theorem State.putb_av (s : State) (f : Fld) (b : Bool) : (s.putb f b).av = s.av := rfl
@[simp] theorem State.putb_rdec (s : State) (f : Fld) (b : Bool) : (s.putb f b).rdec = s.rdec := rfl
@[simp] theorem State.putb_svo (s : State) (f : Fld) (b : Bool) : (s.putb f b).svo = s.svo := rfl
@[simp] theorem State.putb_spn (s : State) (f : Fld) (b : Bool) : (s.putb f b).spn = s.spn := rfl
@[simp] theorem State.putb_sqr (s : State) (f : Fld) (b : Bool) : (s.putb f b).sqr = s.sqr := rfl
@[simp] theorem State.putb_fls (s : State) (f : Fld) (b : Bool) : (s.putb f b).fls = s.fls := rfl
@[simp] theorem State.putb_red (s : State) (f : Fld) (b : Bool) : (s.putb f b).red = s.red := rfl
@[simp] theorem State.putb_host (s : State) (f : Fld) (b : Bool) : (s.putb f b).host = s.host := rfl
@[simp] theorem State.putb_rbt (s : State) (f : Fld) (b : Bool) : (s.putb f b).rbt = s.rbt := rfl
@[simp] theorem State.putb_arc (s : State) (f : Fld) (b : Bool) : (s.putb f b).arc = s.arc := rfl
@[simp] theorem State.putb_tgt (s : State) (f : Fld) (b : Bool) : (s.putb f b).tgt = s.tgt := rfl
@[simp] theorem State.putb_pwr (s : State) (f : Fld) (b : Bool) : (s.putb f b).pwr = s.pwr := rfl
@[simp] theorem State.putb_flt (s : State) (f : Fld) (b : Bool) : (s.putb f b).flt = s.flt := rfl
@[simp] theorem State.putb_recd (s : State) (f : Fld) (b : Bool) : (s.putb f b).recd = s.recd := rfl
@[simp] theorem State.putb_dma (s : State) (f : Fld) (b : Bool) : (s.putb f b).dma = s.dma := rfl
@[simp] theorem State.putb_mem (s : State) (f : Fld) (b : Bool) : (s.putb f b).mem = s.mem := rfl
@[simp] theorem State.putb_cores (s : State) (f : Fld) (b : Bool) : (s.putb f b).cores = s.cores := rfl
@[simp] theorem State.putb_pins (s : State) (f : Fld) (b : Bool) : (s.putb f b).pins = s.pins := rfl
@[simp] theorem State.putb_shock0 (s : State) (f : Fld) (b : Bool) : (s.putb f b).shock0 = s.shock0 := rfl
@[simp] theorem State.putb_shock1 (s : State) (f : Fld) (b : Bool) : (s.putb f b).shock1 = s.shock1 := rfl
@[simp] theorem State.putb_preampTable (s : State) (f : Fld) (b : Bool) : (s.putb f b).preampTable = s.preampTable := rfl
@[simp] theorem State.putb_nominal (s : State) (f : Fld) (b : Bool) : (s.putb f b).nominal = s.nominal := rfl
@[simp] theorem State.putb_freeCtr (s : State) (f : Fld) (b : Bool) : (s.putb f b).freeCtr = s.freeCtr := rfl
@[simp] theorem State.putb_pending (s : State) (f : Fld) (b : Bool) : (s.putb f b).pending = s.pending := rfl

/-! ### `bump` -/

@[simp] theorem State.bump_bus (s : State) (f : Fld) (k : Nat) : (s.bump f k).bus = s.bus := rfl
@[simp] theorem State.bump_tim (s : State) (f : Fld) (k : Nat) : (s.bump f k).tim = s.tim := rfl
@[simp] theorem State.bump_ring (s : State) (f : Fld) (k : Nat) : (s.bump f k).ring = s.ring := rfl
@[simp] theorem State.bump_pace (s : State) (f : Fld) (k : Nat) : (s.bump f k).pace = s.pace := rfl
@[simp] theorem State.bump_av (s : State) (f : Fld) (k : Nat) : (s.bump f k).av = s.av := rfl
@[simp] theorem State.bump_rdec (s : State) (f : Fld) (k : Nat) : (s.bump f k).rdec = s.rdec := rfl
@[simp] theorem State.bump_svo (s : State) (f : Fld) (k : Nat) : (s.bump f k).svo = s.svo := rfl
@[simp] theorem State.bump_spn (s : State) (f : Fld) (k : Nat) : (s.bump f k).spn = s.spn := rfl
@[simp] theorem State.bump_sqr (s : State) (f : Fld) (k : Nat) : (s.bump f k).sqr = s.sqr := rfl
@[simp] theorem State.bump_fls (s : State) (f : Fld) (k : Nat) : (s.bump f k).fls = s.fls := rfl
@[simp] theorem State.bump_red (s : State) (f : Fld) (k : Nat) : (s.bump f k).red = s.red := rfl
@[simp] theorem State.bump_host (s : State) (f : Fld) (k : Nat) : (s.bump f k).host = s.host := rfl
@[simp] theorem State.bump_rbt (s : State) (f : Fld) (k : Nat) : (s.bump f k).rbt = s.rbt := rfl
@[simp] theorem State.bump_arc (s : State) (f : Fld) (k : Nat) : (s.bump f k).arc = s.arc := rfl
@[simp] theorem State.bump_tgt (s : State) (f : Fld) (k : Nat) : (s.bump f k).tgt = s.tgt := rfl
@[simp] theorem State.bump_pwr (s : State) (f : Fld) (k : Nat) : (s.bump f k).pwr = s.pwr := rfl
@[simp] theorem State.bump_flt (s : State) (f : Fld) (k : Nat) : (s.bump f k).flt = s.flt := rfl
@[simp] theorem State.bump_recd (s : State) (f : Fld) (k : Nat) : (s.bump f k).recd = s.recd := rfl
@[simp] theorem State.bump_dma (s : State) (f : Fld) (k : Nat) : (s.bump f k).dma = s.dma := rfl
@[simp] theorem State.bump_mem (s : State) (f : Fld) (k : Nat) : (s.bump f k).mem = s.mem := rfl
@[simp] theorem State.bump_cores (s : State) (f : Fld) (k : Nat) : (s.bump f k).cores = s.cores := rfl
@[simp] theorem State.bump_pins (s : State) (f : Fld) (k : Nat) : (s.bump f k).pins = s.pins := rfl
@[simp] theorem State.bump_shock0 (s : State) (f : Fld) (k : Nat) : (s.bump f k).shock0 = s.shock0 := rfl
@[simp] theorem State.bump_shock1 (s : State) (f : Fld) (k : Nat) : (s.bump f k).shock1 = s.shock1 := rfl
@[simp] theorem State.bump_preampTable (s : State) (f : Fld) (k : Nat) : (s.bump f k).preampTable = s.preampTable := rfl
@[simp] theorem State.bump_nominal (s : State) (f : Fld) (k : Nat) : (s.bump f k).nominal = s.nominal := rfl
@[simp] theorem State.bump_freeCtr (s : State) (f : Fld) (k : Nat) : (s.bump f k).freeCtr = s.freeCtr := rfl
@[simp] theorem State.bump_pending (s : State) (f : Fld) (k : Nat) : (s.bump f k).pending = s.pending := rfl

/-! ### `step1` -/

@[simp] theorem State.step1_bus (s : State) (f : Fld) : (s.step1 f).bus = s.bus := rfl
@[simp] theorem State.step1_tim (s : State) (f : Fld) : (s.step1 f).tim = s.tim := rfl
@[simp] theorem State.step1_ring (s : State) (f : Fld) : (s.step1 f).ring = s.ring := rfl
@[simp] theorem State.step1_pace (s : State) (f : Fld) : (s.step1 f).pace = s.pace := rfl
@[simp] theorem State.step1_av (s : State) (f : Fld) : (s.step1 f).av = s.av := rfl
@[simp] theorem State.step1_rdec (s : State) (f : Fld) : (s.step1 f).rdec = s.rdec := rfl
@[simp] theorem State.step1_svo (s : State) (f : Fld) : (s.step1 f).svo = s.svo := rfl
@[simp] theorem State.step1_spn (s : State) (f : Fld) : (s.step1 f).spn = s.spn := rfl
@[simp] theorem State.step1_sqr (s : State) (f : Fld) : (s.step1 f).sqr = s.sqr := rfl
@[simp] theorem State.step1_fls (s : State) (f : Fld) : (s.step1 f).fls = s.fls := rfl
@[simp] theorem State.step1_red (s : State) (f : Fld) : (s.step1 f).red = s.red := rfl
@[simp] theorem State.step1_host (s : State) (f : Fld) : (s.step1 f).host = s.host := rfl
@[simp] theorem State.step1_rbt (s : State) (f : Fld) : (s.step1 f).rbt = s.rbt := rfl
@[simp] theorem State.step1_arc (s : State) (f : Fld) : (s.step1 f).arc = s.arc := rfl
@[simp] theorem State.step1_tgt (s : State) (f : Fld) : (s.step1 f).tgt = s.tgt := rfl
@[simp] theorem State.step1_pwr (s : State) (f : Fld) : (s.step1 f).pwr = s.pwr := rfl
@[simp] theorem State.step1_flt (s : State) (f : Fld) : (s.step1 f).flt = s.flt := rfl
@[simp] theorem State.step1_recd (s : State) (f : Fld) : (s.step1 f).recd = s.recd := rfl
@[simp] theorem State.step1_dma (s : State) (f : Fld) : (s.step1 f).dma = s.dma := rfl
@[simp] theorem State.step1_mem (s : State) (f : Fld) : (s.step1 f).mem = s.mem := rfl
@[simp] theorem State.step1_cores (s : State) (f : Fld) : (s.step1 f).cores = s.cores := rfl
@[simp] theorem State.step1_pins (s : State) (f : Fld) : (s.step1 f).pins = s.pins := rfl
@[simp] theorem State.step1_shock0 (s : State) (f : Fld) : (s.step1 f).shock0 = s.shock0 := rfl
@[simp] theorem State.step1_shock1 (s : State) (f : Fld) : (s.step1 f).shock1 = s.shock1 := rfl
@[simp] theorem State.step1_preampTable (s : State) (f : Fld) : (s.step1 f).preampTable = s.preampTable := rfl
@[simp] theorem State.step1_nominal (s : State) (f : Fld) : (s.step1 f).nominal = s.nominal := rfl
@[simp] theorem State.step1_freeCtr (s : State) (f : Fld) : (s.step1 f).freeCtr = s.freeCtr := rfl
@[simp] theorem State.step1_pending (s : State) (f : Fld) : (s.step1 f).pending = s.pending := rfl

/-! ### `raise` -/

@[simp] theorem State.raise_regs (s : State) (src d : Nat) : (s.raise src d).regs = s.regs := rfl
@[simp] theorem State.raise_bus (s : State) (src d : Nat) : (s.raise src d).bus = s.bus := rfl
@[simp] theorem State.raise_tim (s : State) (src d : Nat) : (s.raise src d).tim = s.tim := rfl
@[simp] theorem State.raise_ring (s : State) (src d : Nat) : (s.raise src d).ring = s.ring := rfl
@[simp] theorem State.raise_pace (s : State) (src d : Nat) : (s.raise src d).pace = s.pace := rfl
@[simp] theorem State.raise_av (s : State) (src d : Nat) : (s.raise src d).av = s.av := rfl
@[simp] theorem State.raise_rdec (s : State) (src d : Nat) : (s.raise src d).rdec = s.rdec := rfl
@[simp] theorem State.raise_svo (s : State) (src d : Nat) : (s.raise src d).svo = s.svo := rfl
@[simp] theorem State.raise_spn (s : State) (src d : Nat) : (s.raise src d).spn = s.spn := rfl
@[simp] theorem State.raise_sqr (s : State) (src d : Nat) : (s.raise src d).sqr = s.sqr := rfl
@[simp] theorem State.raise_fls (s : State) (src d : Nat) : (s.raise src d).fls = s.fls := rfl
@[simp] theorem State.raise_red (s : State) (src d : Nat) : (s.raise src d).red = s.red := rfl
@[simp] theorem State.raise_host (s : State) (src d : Nat) : (s.raise src d).host = s.host := rfl
@[simp] theorem State.raise_rbt (s : State) (src d : Nat) : (s.raise src d).rbt = s.rbt := rfl
@[simp] theorem State.raise_arc (s : State) (src d : Nat) : (s.raise src d).arc = s.arc := rfl
@[simp] theorem State.raise_tgt (s : State) (src d : Nat) : (s.raise src d).tgt = s.tgt := rfl
@[simp] theorem State.raise_pwr (s : State) (src d : Nat) : (s.raise src d).pwr = s.pwr := rfl
@[simp] theorem State.raise_recd (s : State) (src d : Nat) : (s.raise src d).recd = s.recd := rfl
@[simp] theorem State.raise_dma (s : State) (src d : Nat) : (s.raise src d).dma = s.dma := rfl
@[simp] theorem State.raise_mem (s : State) (src d : Nat) : (s.raise src d).mem = s.mem := rfl
@[simp] theorem State.raise_cores (s : State) (src d : Nat) : (s.raise src d).cores = s.cores := rfl
@[simp] theorem State.raise_pins (s : State) (src d : Nat) : (s.raise src d).pins = s.pins := rfl
@[simp] theorem State.raise_shock0 (s : State) (src d : Nat) : (s.raise src d).shock0 = s.shock0 := rfl
@[simp] theorem State.raise_shock1 (s : State) (src d : Nat) : (s.raise src d).shock1 = s.shock1 := rfl
@[simp] theorem State.raise_preampTable (s : State) (src d : Nat) : (s.raise src d).preampTable = s.preampTable := rfl
@[simp] theorem State.raise_nominal (s : State) (src d : Nat) : (s.raise src d).nominal = s.nominal := rfl
@[simp] theorem State.raise_freeCtr (s : State) (src d : Nat) : (s.raise src d).freeCtr = s.freeCtr := rfl
@[simp] theorem State.raise_pending (s : State) (src d : Nat) : (s.raise src d).pending = s.pending := rfl

/-! ### `modAv` -/

@[simp] theorem State.modAv_regs (s : State) (n : Fin 4) (f : Avenue → Avenue) : (s.modAv n f).regs = s.regs := rfl
@[simp] theorem State.modAv_bus (s : State) (n : Fin 4) (f : Avenue → Avenue) : (s.modAv n f).bus = s.bus := rfl
@[simp] theorem State.modAv_tim (s : State) (n : Fin 4) (f : Avenue → Avenue) : (s.modAv n f).tim = s.tim := rfl
@[simp] theorem State.modAv_ring (s : State) (n : Fin 4) (f : Avenue → Avenue) : (s.modAv n f).ring = s.ring := rfl
@[simp] theorem State.modAv_pace (s : State) (n : Fin 4) (f : Avenue → Avenue) : (s.modAv n f).pace = s.pace := rfl
@[simp] theorem State.modAv_rdec (s : State) (n : Fin 4) (f : Avenue → Avenue) : (s.modAv n f).rdec = s.rdec := rfl
@[simp] theorem State.modAv_svo (s : State) (n : Fin 4) (f : Avenue → Avenue) : (s.modAv n f).svo = s.svo := rfl
@[simp] theorem State.modAv_spn (s : State) (n : Fin 4) (f : Avenue → Avenue) : (s.modAv n f).spn = s.spn := rfl
@[simp] theorem State.modAv_sqr (s : State) (n : Fin 4) (f : Avenue → Avenue) : (s.modAv n f).sqr = s.sqr := rfl
@[simp] theorem State.modAv_fls (s : State) (n : Fin 4) (f : Avenue → Avenue) : (s.modAv n f).fls = s.fls := rfl
@[simp] theorem State.modAv_red (s : State) (n : Fin 4) (f : Avenue → Avenue) : (s.modAv n f).red = s.red := rfl
@[simp] theorem State.modAv_host (s : State) (n : Fin 4) (f : Avenue → Avenue) : (s.modAv n f).host = s.host := rfl
@[simp] theorem State.modAv_rbt (s : State) (n : Fin 4) (f : Avenue → Avenue) : (s.modAv n f).rbt = s.rbt := rfl
@[simp] theorem State.modAv_arc (s : State) (n : Fin 4) (f : Avenue → Avenue) : (s.modAv n f).arc = s.arc := rfl
@[simp] theorem State.modAv_tgt (s : State) (n : Fin 4) (f : Avenue → Avenue) : (s.modAv n f).tgt = s.tgt := rfl
@[simp] theorem State.modAv_pwr (s : State) (n : Fin 4) (f : Avenue → Avenue) : (s.modAv n f).pwr = s.pwr := rfl
@[simp] theorem State.modAv_flt (s : State) (n : Fin 4) (f : Avenue → Avenue) : (s.modAv n f).flt = s.flt := rfl
@[simp] theorem State.modAv_recd (s : State) (n : Fin 4) (f : Avenue → Avenue) : (s.modAv n f).recd = s.recd := rfl
@[simp] theorem State.modAv_dma (s : State) (n : Fin 4) (f : Avenue → Avenue) : (s.modAv n f).dma = s.dma := rfl
@[simp] theorem State.modAv_mem (s : State) (n : Fin 4) (f : Avenue → Avenue) : (s.modAv n f).mem = s.mem := rfl
@[simp] theorem State.modAv_cores (s : State) (n : Fin 4) (f : Avenue → Avenue) : (s.modAv n f).cores = s.cores := rfl
@[simp] theorem State.modAv_pins (s : State) (n : Fin 4) (f : Avenue → Avenue) : (s.modAv n f).pins = s.pins := rfl
@[simp] theorem State.modAv_shock0 (s : State) (n : Fin 4) (f : Avenue → Avenue) : (s.modAv n f).shock0 = s.shock0 := rfl
@[simp] theorem State.modAv_shock1 (s : State) (n : Fin 4) (f : Avenue → Avenue) : (s.modAv n f).shock1 = s.shock1 := rfl
@[simp] theorem State.modAv_preampTable (s : State) (n : Fin 4) (f : Avenue → Avenue) : (s.modAv n f).preampTable = s.preampTable := rfl
@[simp] theorem State.modAv_nominal (s : State) (n : Fin 4) (f : Avenue → Avenue) : (s.modAv n f).nominal = s.nominal := rfl
@[simp] theorem State.modAv_freeCtr (s : State) (n : Fin 4) (f : Avenue → Avenue) : (s.modAv n f).freeCtr = s.freeCtr := rfl
@[simp] theorem State.modAv_pending (s : State) (n : Fin 4) (f : Avenue → Avenue) : (s.modAv n f).pending = s.pending := rfl

/-! ### `modSv` -/

@[simp] theorem State.modSv_regs (s : State) (n : Fin 4) (f : Servo → Servo) : (s.modSv n f).regs = s.regs := rfl
@[simp] theorem State.modSv_bus (s : State) (n : Fin 4) (f : Servo → Servo) : (s.modSv n f).bus = s.bus := rfl
@[simp] theorem State.modSv_tim (s : State) (n : Fin 4) (f : Servo → Servo) : (s.modSv n f).tim = s.tim := rfl
@[simp] theorem State.modSv_ring (s : State) (n : Fin 4) (f : Servo → Servo) : (s.modSv n f).ring = s.ring := rfl
@[simp] theorem State.modSv_pace (s : State) (n : Fin 4) (f : Servo → Servo) : (s.modSv n f).pace = s.pace := rfl
@[simp] theorem State.modSv_av (s : State) (n : Fin 4) (f : Servo → Servo) : (s.modSv n f).av = s.av := rfl
@[simp] theorem State.modSv_rdec (s : State) (n : Fin 4) (f : Servo → Servo) : (s.modSv n f).rdec = s.rdec := rfl
@[simp] theorem State.modSv_spn (s : State) (n : Fin 4) (f : Servo → Servo) : (s.modSv n f).spn = s.spn := rfl
@[simp] theorem State.modSv_sqr (s : State) (n : Fin 4) (f : Servo → Servo) : (s.modSv n f).sqr = s.sqr := rfl
@[simp] theorem State.modSv_fls (s : State) (n : Fin 4) (f : Servo → Servo) : (s.modSv n f).fls = s.fls := rfl
@[simp] theorem State.modSv_red (s : State) (n : Fin 4) (f : Servo → Servo) : (s.modSv n f).red = s.red := rfl
@[simp] theorem State.modSv_host (s : State) (n : Fin 4) (f : Servo → Servo) : (s.modSv n f).host = s.host := rfl
@[simp] theorem State.modSv_rbt (s : State) (n : Fin 4) (f : Servo → Servo) : (s.modSv n f).rbt = s.rbt := rfl
@[simp] theorem State.modSv_arc (s : State) (n : Fin 4) (f : Servo → Servo) : (s.modSv n f).arc = s.arc := rfl
@[simp] theorem State.modSv_tgt (s : State) (n : Fin 4) (f : Servo → Servo) : (s.modSv n f).tgt = s.tgt := rfl
@[simp] theorem State.modSv_pwr (s : State) (n : Fin 4) (f : Servo → Servo) : (s.modSv n f).pwr = s.pwr := rfl
@[simp] theorem State.modSv_flt (s : State) (n : Fin 4) (f : Servo → Servo) : (s.modSv n f).flt = s.flt := rfl
@[simp] theorem State.modSv_recd (s : State) (n : Fin 4) (f : Servo → Servo) : (s.modSv n f).recd = s.recd := rfl
@[simp] theorem State.modSv_dma (s : State) (n : Fin 4) (f : Servo → Servo) : (s.modSv n f).dma = s.dma := rfl
@[simp] theorem State.modSv_mem (s : State) (n : Fin 4) (f : Servo → Servo) : (s.modSv n f).mem = s.mem := rfl
@[simp] theorem State.modSv_cores (s : State) (n : Fin 4) (f : Servo → Servo) : (s.modSv n f).cores = s.cores := rfl
@[simp] theorem State.modSv_pins (s : State) (n : Fin 4) (f : Servo → Servo) : (s.modSv n f).pins = s.pins := rfl
@[simp] theorem State.modSv_shock0 (s : State) (n : Fin 4) (f : Servo → Servo) : (s.modSv n f).shock0 = s.shock0 := rfl
@[simp] theorem State.modSv_shock1 (s : State) (n : Fin 4) (f : Servo → Servo) : (s.modSv n f).shock1 = s.shock1 := rfl
@[simp] theorem State.modSv_preampTable (s : State) (n : Fin 4) (f : Servo → Servo) : (s.modSv n f).preampTable = s.preampTable := rfl
@[simp] theorem State.modSv_nominal (s : State) (n : Fin 4) (f : Servo → Servo) : (s.modSv n f).nominal = s.nominal := rfl
@[simp] theorem State.modSv_freeCtr (s : State) (n : Fin 4) (f : Servo → Servo) : (s.modSv n f).freeCtr = s.freeCtr := rfl
@[simp] theorem State.modSv_pending (s : State) (n : Fin 4) (f : Servo → Servo) : (s.modSv n f).pending = s.pending := rfl

/-! ### `modSpn` -/

@[simp] theorem State.modSpn_regs (s : State) (f : Spindle → Spindle) : (s.modSpn f).regs = s.regs := rfl
@[simp] theorem State.modSpn_bus (s : State) (f : Spindle → Spindle) : (s.modSpn f).bus = s.bus := rfl
@[simp] theorem State.modSpn_tim (s : State) (f : Spindle → Spindle) : (s.modSpn f).tim = s.tim := rfl
@[simp] theorem State.modSpn_ring (s : State) (f : Spindle → Spindle) : (s.modSpn f).ring = s.ring := rfl
@[simp] theorem State.modSpn_pace (s : State) (f : Spindle → Spindle) : (s.modSpn f).pace = s.pace := rfl
@[simp] theorem State.modSpn_av (s : State) (f : Spindle → Spindle) : (s.modSpn f).av = s.av := rfl
@[simp] theorem State.modSpn_rdec (s : State) (f : Spindle → Spindle) : (s.modSpn f).rdec = s.rdec := rfl
@[simp] theorem State.modSpn_svo (s : State) (f : Spindle → Spindle) : (s.modSpn f).svo = s.svo := rfl
@[simp] theorem State.modSpn_sqr (s : State) (f : Spindle → Spindle) : (s.modSpn f).sqr = s.sqr := rfl
@[simp] theorem State.modSpn_fls (s : State) (f : Spindle → Spindle) : (s.modSpn f).fls = s.fls := rfl
@[simp] theorem State.modSpn_red (s : State) (f : Spindle → Spindle) : (s.modSpn f).red = s.red := rfl
@[simp] theorem State.modSpn_host (s : State) (f : Spindle → Spindle) : (s.modSpn f).host = s.host := rfl
@[simp] theorem State.modSpn_rbt (s : State) (f : Spindle → Spindle) : (s.modSpn f).rbt = s.rbt := rfl
@[simp] theorem State.modSpn_arc (s : State) (f : Spindle → Spindle) : (s.modSpn f).arc = s.arc := rfl
@[simp] theorem State.modSpn_tgt (s : State) (f : Spindle → Spindle) : (s.modSpn f).tgt = s.tgt := rfl
@[simp] theorem State.modSpn_pwr (s : State) (f : Spindle → Spindle) : (s.modSpn f).pwr = s.pwr := rfl
@[simp] theorem State.modSpn_flt (s : State) (f : Spindle → Spindle) : (s.modSpn f).flt = s.flt := rfl
@[simp] theorem State.modSpn_recd (s : State) (f : Spindle → Spindle) : (s.modSpn f).recd = s.recd := rfl
@[simp] theorem State.modSpn_dma (s : State) (f : Spindle → Spindle) : (s.modSpn f).dma = s.dma := rfl
@[simp] theorem State.modSpn_mem (s : State) (f : Spindle → Spindle) : (s.modSpn f).mem = s.mem := rfl
@[simp] theorem State.modSpn_cores (s : State) (f : Spindle → Spindle) : (s.modSpn f).cores = s.cores := rfl
@[simp] theorem State.modSpn_pins (s : State) (f : Spindle → Spindle) : (s.modSpn f).pins = s.pins := rfl
@[simp] theorem State.modSpn_shock0 (s : State) (f : Spindle → Spindle) : (s.modSpn f).shock0 = s.shock0 := rfl
@[simp] theorem State.modSpn_shock1 (s : State) (f : Spindle → Spindle) : (s.modSpn f).shock1 = s.shock1 := rfl
@[simp] theorem State.modSpn_preampTable (s : State) (f : Spindle → Spindle) : (s.modSpn f).preampTable = s.preampTable := rfl
@[simp] theorem State.modSpn_nominal (s : State) (f : Spindle → Spindle) : (s.modSpn f).nominal = s.nominal := rfl
@[simp] theorem State.modSpn_freeCtr (s : State) (f : Spindle → Spindle) : (s.modSpn f).freeCtr = s.freeCtr := rfl
@[simp] theorem State.modSpn_pending (s : State) (f : Spindle → Spindle) : (s.modSpn f).pending = s.pending := rfl

/-! ### `modSqr` -/

@[simp] theorem State.modSqr_regs (s : State) (f : Square → Square) : (s.modSqr f).regs = s.regs := rfl
@[simp] theorem State.modSqr_bus (s : State) (f : Square → Square) : (s.modSqr f).bus = s.bus := rfl
@[simp] theorem State.modSqr_tim (s : State) (f : Square → Square) : (s.modSqr f).tim = s.tim := rfl
@[simp] theorem State.modSqr_ring (s : State) (f : Square → Square) : (s.modSqr f).ring = s.ring := rfl
@[simp] theorem State.modSqr_pace (s : State) (f : Square → Square) : (s.modSqr f).pace = s.pace := rfl
@[simp] theorem State.modSqr_av (s : State) (f : Square → Square) : (s.modSqr f).av = s.av := rfl
@[simp] theorem State.modSqr_rdec (s : State) (f : Square → Square) : (s.modSqr f).rdec = s.rdec := rfl
@[simp] theorem State.modSqr_svo (s : State) (f : Square → Square) : (s.modSqr f).svo = s.svo := rfl
@[simp] theorem State.modSqr_spn (s : State) (f : Square → Square) : (s.modSqr f).spn = s.spn := rfl
@[simp] theorem State.modSqr_fls (s : State) (f : Square → Square) : (s.modSqr f).fls = s.fls := rfl
@[simp] theorem State.modSqr_red (s : State) (f : Square → Square) : (s.modSqr f).red = s.red := rfl
@[simp] theorem State.modSqr_host (s : State) (f : Square → Square) : (s.modSqr f).host = s.host := rfl
@[simp] theorem State.modSqr_rbt (s : State) (f : Square → Square) : (s.modSqr f).rbt = s.rbt := rfl
@[simp] theorem State.modSqr_arc (s : State) (f : Square → Square) : (s.modSqr f).arc = s.arc := rfl
@[simp] theorem State.modSqr_tgt (s : State) (f : Square → Square) : (s.modSqr f).tgt = s.tgt := rfl
@[simp] theorem State.modSqr_pwr (s : State) (f : Square → Square) : (s.modSqr f).pwr = s.pwr := rfl
@[simp] theorem State.modSqr_flt (s : State) (f : Square → Square) : (s.modSqr f).flt = s.flt := rfl
@[simp] theorem State.modSqr_recd (s : State) (f : Square → Square) : (s.modSqr f).recd = s.recd := rfl
@[simp] theorem State.modSqr_dma (s : State) (f : Square → Square) : (s.modSqr f).dma = s.dma := rfl
@[simp] theorem State.modSqr_mem (s : State) (f : Square → Square) : (s.modSqr f).mem = s.mem := rfl
@[simp] theorem State.modSqr_cores (s : State) (f : Square → Square) : (s.modSqr f).cores = s.cores := rfl
@[simp] theorem State.modSqr_pins (s : State) (f : Square → Square) : (s.modSqr f).pins = s.pins := rfl
@[simp] theorem State.modSqr_shock0 (s : State) (f : Square → Square) : (s.modSqr f).shock0 = s.shock0 := rfl
@[simp] theorem State.modSqr_shock1 (s : State) (f : Square → Square) : (s.modSqr f).shock1 = s.shock1 := rfl
@[simp] theorem State.modSqr_preampTable (s : State) (f : Square → Square) : (s.modSqr f).preampTable = s.preampTable := rfl
@[simp] theorem State.modSqr_nominal (s : State) (f : Square → Square) : (s.modSqr f).nominal = s.nominal := rfl
@[simp] theorem State.modSqr_freeCtr (s : State) (f : Square → Square) : (s.modSqr f).freeCtr = s.freeCtr := rfl
@[simp] theorem State.modSqr_pending (s : State) (f : Square → Square) : (s.modSqr f).pending = s.pending := rfl

/-! ### `raiseIf` -/

@[simp] theorem State.raiseIf_regs (s : State) (b : Bool) (src d : Nat) : (s.raiseIf b src d).regs = s.regs := by
  cases b <;> rfl
@[simp] theorem State.raiseIf_bus (s : State) (b : Bool) (src d : Nat) : (s.raiseIf b src d).bus = s.bus := by
  cases b <;> rfl
@[simp] theorem State.raiseIf_tim (s : State) (b : Bool) (src d : Nat) : (s.raiseIf b src d).tim = s.tim := by
  cases b <;> rfl
@[simp] theorem State.raiseIf_ring (s : State) (b : Bool) (src d : Nat) : (s.raiseIf b src d).ring = s.ring := by
  cases b <;> rfl
@[simp] theorem State.raiseIf_pace (s : State) (b : Bool) (src d : Nat) : (s.raiseIf b src d).pace = s.pace := by
  cases b <;> rfl
@[simp] theorem State.raiseIf_av (s : State) (b : Bool) (src d : Nat) : (s.raiseIf b src d).av = s.av := by
  cases b <;> rfl
@[simp] theorem State.raiseIf_rdec (s : State) (b : Bool) (src d : Nat) : (s.raiseIf b src d).rdec = s.rdec := by
  cases b <;> rfl
@[simp] theorem State.raiseIf_svo (s : State) (b : Bool) (src d : Nat) : (s.raiseIf b src d).svo = s.svo := by
  cases b <;> rfl
@[simp] theorem State.raiseIf_spn (s : State) (b : Bool) (src d : Nat) : (s.raiseIf b src d).spn = s.spn := by
  cases b <;> rfl
@[simp] theorem State.raiseIf_sqr (s : State) (b : Bool) (src d : Nat) : (s.raiseIf b src d).sqr = s.sqr := by
  cases b <;> rfl
@[simp] theorem State.raiseIf_fls (s : State) (b : Bool) (src d : Nat) : (s.raiseIf b src d).fls = s.fls := by
  cases b <;> rfl
@[simp] theorem State.raiseIf_red (s : State) (b : Bool) (src d : Nat) : (s.raiseIf b src d).red = s.red := by
  cases b <;> rfl
@[simp] theorem State.raiseIf_host (s : State) (b : Bool) (src d : Nat) : (s.raiseIf b src d).host = s.host := by
  cases b <;> rfl
@[simp] theorem State.raiseIf_rbt (s : State) (b : Bool) (src d : Nat) : (s.raiseIf b src d).rbt = s.rbt := by
  cases b <;> rfl
@[simp] theorem State.raiseIf_arc (s : State) (b : Bool) (src d : Nat) : (s.raiseIf b src d).arc = s.arc := by
  cases b <;> rfl
@[simp] theorem State.raiseIf_tgt (s : State) (b : Bool) (src d : Nat) : (s.raiseIf b src d).tgt = s.tgt := by
  cases b <;> rfl
@[simp] theorem State.raiseIf_pwr (s : State) (b : Bool) (src d : Nat) : (s.raiseIf b src d).pwr = s.pwr := by
  cases b <;> rfl
@[simp] theorem State.raiseIf_recd (s : State) (b : Bool) (src d : Nat) : (s.raiseIf b src d).recd = s.recd := by
  cases b <;> rfl
@[simp] theorem State.raiseIf_dma (s : State) (b : Bool) (src d : Nat) : (s.raiseIf b src d).dma = s.dma := by
  cases b <;> rfl
@[simp] theorem State.raiseIf_mem (s : State) (b : Bool) (src d : Nat) : (s.raiseIf b src d).mem = s.mem := by
  cases b <;> rfl
@[simp] theorem State.raiseIf_cores (s : State) (b : Bool) (src d : Nat) : (s.raiseIf b src d).cores = s.cores := by
  cases b <;> rfl
@[simp] theorem State.raiseIf_pins (s : State) (b : Bool) (src d : Nat) : (s.raiseIf b src d).pins = s.pins := by
  cases b <;> rfl
@[simp] theorem State.raiseIf_shock0 (s : State) (b : Bool) (src d : Nat) : (s.raiseIf b src d).shock0 = s.shock0 := by
  cases b <;> rfl
@[simp] theorem State.raiseIf_shock1 (s : State) (b : Bool) (src d : Nat) : (s.raiseIf b src d).shock1 = s.shock1 := by
  cases b <;> rfl
@[simp] theorem State.raiseIf_preampTable (s : State) (b : Bool) (src d : Nat) : (s.raiseIf b src d).preampTable = s.preampTable := by
  cases b <;> rfl
@[simp] theorem State.raiseIf_nominal (s : State) (b : Bool) (src d : Nat) : (s.raiseIf b src d).nominal = s.nominal := by
  cases b <;> rfl
@[simp] theorem State.raiseIf_freeCtr (s : State) (b : Bool) (src d : Nat) : (s.raiseIf b src d).freeCtr = s.freeCtr := by
  cases b <;> rfl
@[simp] theorem State.raiseIf_pending (s : State) (b : Bool) (src d : Nat) : (s.raiseIf b src d).pending = s.pending := by
  cases b <;> rfl

/-! ### What a raise adds (R509) -/

@[simp] theorem State.raise_flt (s : State) (src d : Nat) :
    (s.raise src d).flt = { s.flt with inbox := s.flt.inbox ++ [⟨src, s.time, d, false⟩] } := rfl
@[simp] theorem State.raiseIf_true (s : State) (src d : Nat) : s.raiseIf true src d = s.raise src d := rfl
@[simp] theorem State.raiseIf_false (s : State) (src d : Nat) : s.raiseIf false src d = s := rfl

end Sys2Proof.Machine
end

