-- ==== Sys2Proof/Laws/Registers.lean ====
section
/-! SUPPORT. The laws of the register file and of its fields: a field reads as it was written, and a write leaves every
other field alone. -/

namespace Sys2Proof.Machine

/-! ### Bit fields of numbers -/

theorem testBit_bitsOf (w lo wid j : Nat) : (bitsOf w lo wid).testBit j = (decide (j < wid) && w.testBit (lo + j)) := by
  simp [bitsOf, Nat.testBit_mod_two_pow, Nat.testBit_div_two_pow, Nat.add_comm]

theorem bitsOf_le (w lo wid : Nat) : bitsOf w lo wid * 2 ^ lo ≤ w := by
  unfold bitsOf
  calc w / 2 ^ lo % 2 ^ wid * 2 ^ lo ≤ w / 2 ^ lo * 2 ^ lo := Nat.mul_le_mul_right _ (Nat.mod_le _ _)
    _ ≤ w := Nat.div_mul_le_self _ _

/-- A number cut at two places. -/
theorem cut_eq (w lo wid : Nat) :
    w = w % 2 ^ lo + bitsOf w lo wid * 2 ^ lo + w / 2 ^ (lo + wid) * 2 ^ (lo + wid) := by
  have h1 := Nat.div_add_mod w (2 ^ lo)
  have h2 := Nat.div_add_mod (w / 2 ^ lo) (2 ^ wid)
  have h3 : w / 2 ^ lo / 2 ^ wid = w / 2 ^ (lo + wid) := by rw [Nat.div_div_eq_div_mul, ← pow_add]
  unfold bitsOf
  rw [h3] at h2
  calc w = 2 ^ lo * (w / 2 ^ lo) + w % 2 ^ lo := h1.symm
    _ = 2 ^ lo * (2 ^ wid * (w / 2 ^ (lo + wid)) + w / 2 ^ lo % 2 ^ wid) + w % 2 ^ lo := by rw [h2]
    _ = _ := by rw [pow_add]; ring

/-- A field replaced, written as its three parts. -/
theorem setBits_eq (w lo wid v : Nat) :
    setBits w lo wid v = w % 2 ^ lo + v % 2 ^ wid * 2 ^ lo + w / 2 ^ (lo + wid) * 2 ^ (lo + wid) := by
  have h := cut_eq w lo wid
  unfold setBits
  omega

theorem testBit_setBits (w lo wid v j : Nat) :
    (setBits w lo wid v).testBit j = if lo ≤ j ∧ j < lo + wid then v.testBit (j - lo) else w.testBit j := by
  have e : setBits w lo wid v = 2 ^ lo * (2 ^ wid * (w / 2 ^ (lo + wid)) + v % 2 ^ wid) + w % 2 ^ lo := by
    rw [setBits_eq, pow_add]; ring
  have hlo : w % 2 ^ lo < 2 ^ lo := Nat.mod_lt _ (by positivity)
  have hv : v % 2 ^ wid < 2 ^ wid := Nat.mod_lt _ (by positivity)
  rw [e, Nat.testBit_two_pow_mul_add _ hlo]
  by_cases h1 : j < lo
  · simp [h1, Nat.testBit_mod_two_pow]
  · rw [if_neg h1, Nat.testBit_two_pow_mul_add _ hv]
    by_cases h2 : j - lo < wid
    · have : lo ≤ j ∧ j < lo + wid := by omega
      simp [h2, this, Nat.testBit_mod_two_pow]
    · have : ¬ (lo ≤ j ∧ j < lo + wid) := by omega
      rw [if_neg h2, if_neg this, Nat.testBit_div_two_pow]
      congr 1; omega

/-! ### Registers -/

@[simp] theorem State.rd_wr_self (s : State) (a : Nat) (w : Word) : (s.wr a w).rd a = w :=
  KMap.get_set_self resetWord s.regs a w

theorem State.rd_wr_of_ne (s : State) {a b : Nat} (w : Word) (h : b ≠ a) : (s.wr a w).rd b = s.rd b :=
  KMap.get_set_of_ne resetWord s.regs w h

@[simp] theorem State.rd_raise (s : State) (src d a : Nat) : (s.raise src d).rd a = s.rd a := rfl
@[simp] theorem State.get_raise (s : State) (src d : Nat) (f : Fld) : (s.raise src d).get f = s.get f := rfl
@[simp] theorem State.rd_raiseIf (s : State) (b : Bool) (src d a : Nat) : (s.raiseIf b src d).rd a = s.rd a := by
  cases b <;> rfl
@[simp] theorem State.get_raiseIf (s : State) (b : Bool) (src d : Nat) (f : Fld) :
    (s.raiseIf b src d).get f = s.get f := by cases b <;> rfl
@[simp] theorem State.get_modAv (s : State) (n : Fin 4) (g : Avenue → Avenue) (f : Fld) :
    (s.modAv n g).get f = s.get f := rfl
@[simp] theorem State.get_modSv (s : State) (n : Fin 4) (g : Servo → Servo) (f : Fld) :
    (s.modSv n g).get f = s.get f := rfl
@[simp] theorem State.get_modSpn (s : State) (g : Spindle → Spindle) (f : Fld) : (s.modSpn g).get f = s.get f := rfl
@[simp] theorem State.get_modSqr (s : State) (g : Square → Square) (f : Fld) : (s.modSqr g).get f = s.get f := rfl

/-! ### Fields -/

/-- A field reads as it was written, reduced to its width. -/
theorem State.get_put_self (s : State) (f : Fld) (v : Nat) (h : f.lo + f.wid ≤ 32) :
    (s.put f v).get f = v % 2 ^ f.wid := by
  unfold State.get State.put
  rw [State.rd_wr_self]
  apply Nat.eq_of_testBit_eq
  intro j
  simp only [testBit_bitsOf, BitVec.toNat_ofNat, Nat.testBit_mod_two_pow, testBit_setBits]
  by_cases hj : j < f.wid
  · have h1 : f.lo + j < 32 := by omega
    have h2 : f.lo + j - f.lo = j := by omega
    simp [hj, h1, h2]
  · simp [hj]

/-- A write of a field leaves every field alone that shares no bit with it. -/
theorem State.get_put_of_apart (s : State) {f g : Fld} (v : Nat) (h : f.apart g) : (s.put f v).get g = s.get g := by
  unfold State.get State.put
  by_cases ha : g.addr = f.addr
  · rw [ha, State.rd_wr_self]
    have h' : f.lo + f.wid ≤ g.lo ∨ g.lo + g.wid ≤ f.lo := by
      rcases h with h | h
      · exact absurd ha.symm h
      · exact h
    have hw := (s.rd f.addr).isLt
    apply Nat.eq_of_testBit_eq
    intro j
    simp only [testBit_bitsOf, BitVec.toNat_ofNat, Nat.testBit_mod_two_pow, testBit_setBits]
    by_cases hj : j < g.wid
    · have hn : ¬ (f.lo ≤ g.lo + j ∧ g.lo + j < f.lo + f.wid) := by omega
      by_cases h32 : g.lo + j < 32
      · simp [hj, hn, h32]
      · have : (s.rd f.addr).toNat.testBit (g.lo + j) = false :=
          Nat.testBit_lt_two_pow (lt_of_lt_of_le hw (Nat.pow_le_pow_right (by norm_num) (by omega)))
        simp [hj, h32, this]
    · simp [hj]
  · rw [State.rd_wr_of_ne _ _ ha]

/-- A write of a field leaves every other register alone. -/
theorem State.rd_put_of_ne (s : State) (f : Fld) (v : Nat) {a : Nat} (h : a ≠ f.addr) : (s.put f v).rd a = s.rd a :=
  State.rd_wr_of_ne s _ h

/-! ### Frames -/

theorem FieldsBut.refl (fs : List Fld) (s : State) : FieldsBut fs s s := fun _ _ => rfl

theorem FieldsBut.trans {fs : List Fld} {s t u : State} (h1 : FieldsBut fs s t) (h2 : FieldsBut fs t u) :
    FieldsBut fs s u := fun g h => (h2 g h).trans (h1 g h)

theorem FieldsBut.put {fs : List Fld} {s t : State} (h : FieldsBut fs s t) {f : Fld} (hf : f ∈ fs) (v : Nat) :
    FieldsBut fs s (t.put f v) := fun g hg => (State.get_put_of_apart t v (hg f hf)).trans (h g hg)

theorem Untouched.refl (ps : List Part) (s : State) : Untouched ps s s := by
  intro p _
  cases p <;> simp [Part.same]

theorem Untouched.trans {ps : List Part} {s t u : State} (h1 : Untouched ps s t) (h2 : Untouched ps t u) :
    Untouched ps s u := by
  intro p hp
  have a := h1 p hp
  have b := h2 p hp
  cases p <;> simp_all [Part.same]

/-! ### The canonical form -/

theorem State.regs_wf_wr (s : State) (a : Nat) (w : Word) (h : KMap.wf resetWord s.regs = true) :
    KMap.wf resetWord (s.wr a w).regs = true := KMap.wf_set resetWord s.regs a w h

theorem State.regs_wf_put (s : State) (f : Fld) (v : Nat) (h : KMap.wf resetWord s.regs = true) :
    KMap.wf resetWord (s.put f v).regs = true := State.regs_wf_wr s _ _ h

/-- Removing entries keeps the canonical form: what the internal reset does to the register file (R552). -/
theorem KMap.wf_filter {β : Type} [DecidableEq β] (d : Nat → β) (m : KMap β) (p : Nat × β → Bool)
    (h : KMap.wf d m = true) : KMap.wf d (m.filter p) = true := by
  rw [KMap.wf_iff] at h ⊢
  exact ⟨h.1.filter _, fun q hq => h.2 q (List.mem_filter.1 hq).1⟩

end Sys2Proof.Machine
end

