-- ==== Sys2Proof/WellFormed.lean ====
section
/-! DEFINITION. Well-formed commands: the ranges and lengths that the spec gives to the operands of a command and that
their types do not hold already. What reaches the device from a host is not held to them: an entry with a field out of
range is well formed, and its command answers it. -/

namespace Sys2Proof

/-- A window access lies within the 8 MiB of BAR2 and is at most eight bytes wide, with eight byte enables (R17, R19); an
internal access is to a whole word (R16). -/
def BusAccess.wf : BusAccess → Bool
  | .window offset width enables => decide (offset < 2 ^ 23 ∧ 1 ≤ width ∧ width ≤ 8 ∧ enables < 256)
  | .internal addr => decide (addr % 4 = 0)

/-- A change within a 32-bit word. -/
def FieldChange.wf (c : FieldChange) : Bool := decide (c.lo < 32)

/-- Four payload words with at most two bad bits each, and two different stops (R36, R39). -/
def Flit.wf (f : Flit) : Bool := decide (f.errors.length = 4 ∧ f.src ≠ f.dst) && f.errors.all (fun e => decide (e ≤ 2))

/-- A cylinder of 22 bits, one of five data faces, a slot of 12 bits (R58, R70). -/
def SectorAddr.wf (a : SectorAddr) : Bool := decide (a.cyl < 2 ^ 22 ∧ a.face < 5 ∧ a.slot < 2 ^ 12)

/-- The Hamming distance of a mark of 64 bits. -/
def MarkCand.wf (m : MarkCand) : Bool := decide (m.distance ≤ 64)

/-- A block of 4,096 data and 16 metadata bytes, or nothing delivered. -/
def SlotInput.wf (i : SlotInput) : Bool :=
  decide (i.block.length = 4112 ∨ i.block = []) && i.marks.all MarkCand.wf

/-- The 4,128 payload bytes of a codeword (R72). -/
def Decoded.wf (d : Decoded) : Bool := decide (d.payload.length = 4128)

/-- At most three reads of the 16-byte identity descriptor (R161). -/
def PreampFind.wf (p : PreampFind) : Bool :=
  decide (p.reads.length ≤ 3) && p.reads.all (fun r => decide (r.length = 16))

/-- The sixteen words of a ring entry (Table 6-8). -/
def RingEntry.wf (e : RingEntry) : Bool := decide (e.words.length = 16)

/-- Store addresses of an image: an AM fills microwords 0 to 3,071 and nanowords 0 to 767, an OM the rest of the 4,096 and
1,024 (6.1). -/
def AvImage.wf (m : AvImage) (owner : Bool) : Bool :=
  m.micro.all (fun x => decide (if owner then 3072 ≤ x.1 ∧ x.1 < 4096 else x.1 < 3072))
    && m.nano.all (fun x => decide (if owner then 768 ≤ x.1 ∧ x.1 < 1024 else x.1 < 768))

/-- A cylinder of 22 bits and one of the classes of Table 6-8. -/
def SeekReq.wf (r : SeekReq) : Bool := decide (r.cyl < 2 ^ 22 ∧ r.cls < 4)

/-- Carrier cycles whose high time lies within the period, and periods longer than nothing (Table 8-6). -/
def SpinInput.wf : SpinInput → Bool
  | .volts uv => !uv.isEmpty
  | .duty cycles _ => cycles.all (fun c => decide (c.1 ≤ c.2 ∧ 0 < c.2))
  | .freq periods => periods.all (fun p => decide (0 < p))

/-- A block: 4,096 data bytes and 16 metadata bytes. -/
def blockWf (b : List Byte × List Byte) : Bool := decide (b.1.length = 4096 ∧ b.2.length = 16)

/-- A tag of the Roundabout (R389). -/
def tagWf (tag : Nat) : Bool := decide (tag < 16384)

/-- A class from 0 to 2, and a tag where it serves a host command. -/
def ReadReq.wf (r : ReadReq) : Bool := decide (r.cls ≤ 2) && r.tag.all tagWf

/-- A lookup whose request is legal. -/
def LookupArgs.wf (a : LookupArgs) : Bool := a.req.wf

/-- A fill that ends with data brings a whole block. -/
def FillEnd.wf : FillEnd → Bool
  | .data bytes pmeta => blockWf (bytes, pmeta)
  | .failed sct sc qual => decide (sct < 8 ∧ sc < 256 ∧ qual < 2 ^ 16)

/-- A place among the 384 blocks of a group (R281). -/
def PeerBlock.wf (p : PeerBlock) : Bool := decide (p.pos < 384) && p.block.all blockWf

/-- One of the 128 rows of a stripe (R324). -/
def ParityMiss.wf (m : ParityMiss) : Bool := decide (m.row < 128)

/-- A whole block, and what closing a group brings. -/
def PlaceArgs.wf (p : PlaceArgs) : Bool :=
  blockWf (p.data, p.pmeta) && p.close.all PeerBlock.wf && p.parity.all ParityMiss.wf

/-- The pages of an entry (Table 10-4): one, or the two of a plane pair or block pair. -/
def FlashEntry.pages (e : FlashEntry) : Nat := if e.pair then 2 else 1

/-- What an entry brings besides its fields: nothing, or data for whole pages. -/
def FlashEntry.wf (e : FlashEntry) : Bool := decide (e.data.length ≤ 16384 * e.pages ∧ e.pmeta.length ≤ 128 * e.pages)

/-- A PROGRAM brings 16,384 data bytes and 128 meta bytes for each page (Table 10-1). -/
def FlashEntry.programWf (e : FlashEntry) : Bool :=
  decide (e.data.length = 16384 * e.pages ∧ e.pmeta.length = 128 * e.pages)

/-- A count for each of at most eight sectors (Table 10-1). -/
def FlashResult.wf (r : FlashResult) : Bool := decide (r.bits.length ≤ 8)

/-- A base for each of the four Avenues (Table 11-7). -/
def RegionSpec.wf (r : RegionSpec) : Bool := decide (r.base.length = 4)

/-- An owner's declaration carries the tag of its command. -/
def FailCause.wf : FailCause → Bool
  | .owner tag => tagWf tag
  | .preamp | .servoFault | .laneLost | .loads | .headsel | .sectors _ => true

/-- One row of the stripe at CURSOR. -/
def SyncRow.wf (r : SyncRow) : Bool := decide (r.row < 128) && r.blocks.all (fun b => b.all blockWf)

/-- The fields of a submission queue entry as wide as the standard has them. -/
def Sqe.wf (e : Sqe) : Bool :=
  decide (e.opcode < 256 ∧ e.cid < 2 ^ 16) &&
    [e.nsid, e.c10, e.c11, e.c12, e.c13, e.c14, e.c15].all (fun w => decide (w < 2 ^ 32))

/-- Whole blocks of plaintext. -/
def WriteInput.wf (w : WriteInput) : Bool :=
  w.blocks.all (fun b => decide (b.1.length = 4096)) && w.close.all PeerBlock.wf && w.parity.all ParityMiss.wf

/-- Media reads that end as fills do. -/
def ReadInput.wf (r : ReadInput) : Bool := r.media.all (fun m => m.2.wf)

/-- The reads of an Arcade step. -/
def StepInput.wf (i : StepInput) : Bool := i.reads.wf

/-- The command is one that its source can send: every operand lies within what the spec gives it. -/
def Instr.wf : Instr → Bool
  | .registerWrite acc _ => acc.wf
  | .readClearAccess acc changes => acc.wf && changes.all FieldChange.wf
  | .lowerWordCaptureRead acc => acc.wf
  | .flitDelivery f => f.wf
  | .paceGateEnd counts => decide (counts.length = 16)
  | .laneUpdate _ phases mags _ => decide (phases.length = 8 ∧ mags.length = 8)
  | .sampleBlock _ _ errs decs lms => decide (errs.length = 32 ∧ decs.length = 32 ∧ lms.length = 16)
  | .onTheFlyDecodeEnd _ d => d.wf
  | .retryJobEnd _ res => res.wf
  | .relocateSector _ sec spares => sec.wf && spares.all (fun x => x.1.wf)
  | .kazqFrameEnd _ r => decide (r.data < 65536)
  | .preampDiscovery _ p => p.wf
  | .slotStart _ i => i.wf
  | .slotEnd _ resume => resume.all MarkCand.wf
  | .avenueEntryWrite _ _ _ e => e.wf
  | .amLoad _ img => img.wf false
  | .omLoad _ img => img.wf true
  | .seekRequest _ r => r.wf
  | .spinCmdWindow i => i.wf
  | .squareReadLookup a => a.wf
  | .fillEnd _ e => e.wf
  | .placement p => p.wf
  | .gatherTimeout _ _ _ peers parity => peers.all PeerBlock.wf && parity.all ParityMiss.wf
  | .flashRead e => e.wf
  | .flashProgram e => e.wf && e.programWf
  | .flashErase e => e.wf
  | .flashMread e => e.wf
  | .flashOperationEnd _ r => r.wf
  | .regionDefine tag _ spec => tagWf tag && spec.wf
  | .regionDelete tag _ => tagWf tag
  | .reshapeStart tag _ spec => tagWf tag && spec.wf
  | .elementDeclare _ c _ => c.wf
  | .elementReinstate tag _ => tagWf tag
  | .reconstruct _ _ _ peers _ _ => peers.all (fun x => x.all blockWf)
  | .rebuildStep _ _ unrec _ => unrec.all (fun k => decide (k < 128))
  | .resyncStep _ rows => rows.all SyncRow.wf
  | .reshapeStep _ lost => lost.all (fun k => decide (k < 128))
  | .submissionQueueDoorbell _ _ value => decide (value < 65536)
  | .completionQueueDoorbell _ _ value => decide (value < 65536)
  | .controllerEnable _ _ asq acq => decide (asq ≤ 4096 ∧ acq ≤ 4096)
  | .commandFetch e => e.wf
  | .flush tag => tagWf tag
  | .write tag w => tagWf tag && w.wf
  | .read tag r => tagWf tag && r.wf
  | .writeZeroes tag w => tagWf tag && w.wf
  | .datasetManagement tag ranges => tagWf tag && decide (ranges.length ≤ 256)
  | .verify tag r => tagWf tag && r.wf
  | .reservationRegister tag _ _ => tagWf tag
  | .reservationReport tag => tagWf tag
  | .reservationAcquire tag _ _ => tagWf tag
  | .reservationRelease tag _ => tagWf tag
  | .deleteIoSubmissionQueue tag => tagWf tag
  | .createIoSubmissionQueue tag => tagWf tag
  | .deleteIoCompletionQueue tag => tagWf tag
  | .createIoCompletionQueue tag => tagWf tag
  | .getLogPage tag => tagWf tag
  | .identify tag => tagWf tag
  | .abort tag _ => tagWf tag
  | .setFeatures tag _ => tagWf tag
  | .getFeatures tag => tagWf tag
  | .asynchronousEventRequest tag => tagWf tag
  | .firmwareImageDownload tag p => tagWf tag && decide (p.offset % 4 = 0)
  | .firmwareCommit tag => tagWf tag
  | .formatNvm tag => tagWf tag
  | .securitySend tag => tagWf tag
  | .securityReceive tag => tagWf tag
  | .sanitize tag => tagWf tag
  | .namespaceCreate tag _ => tagWf tag
  | .namespaceDelete tag => tagWf tag
  | .namespaceAttachDetach tag _ _ => tagWf tag
  | .setControllerWeight tag => tagWf tag
  | .arcadeContextOpen tag cb => tagWf tag && cb.all (fun b => decide (b.length = 384))
  | .arcadeContextClose tag cb => tagWf tag && cb.all (fun b => decide (b.length = 384))
  | .objectGet tag cb => tagWf tag && cb.all (fun b => decide (b.length = 384))
  | .objectPut tag cb => tagWf tag && cb.all (fun b => decide (b.length = 384))
  | .objectDelete tag cb => tagWf tag && cb.all (fun b => decide (b.length = 384))
  | .objectList tag cb => tagWf tag && cb.all (fun b => decide (b.length = 384))
  | .encode tag cb => tagWf tag && cb.all (fun b => decide (b.length = 384))
  | .digest tag cb => tagWf tag && cb.all (fun b => decide (b.length = 384))
  | .arcadeVerify tag cb => tagWf tag && cb.all (fun b => decide (b.length = 384))
  | .arcadeBarrierRelease tag => tagWf tag
  | .arcadeStep tag i => tagWf tag && i.wf
  | .arcadeChannelRequest _ q => decide (q.data.length = 4096)
  | .ownerClaim tag _ => tagWf tag
  | .ownerRootUpdate tag _ => tagWf tag
  | .tenancyCreate tag => tagWf tag
  | .tenancyDelete tag => tagWf tag
  | .controllerBind tag => tagWf tag
  | .tenancyCryptoErase tag => tagWf tag
  | .antiRollbackAdvance tag _ => tagWf tag
  | .debugUnlock tag _ _ => tagWf tag
  | .mediaScrub _ _ e => e.wf
  | .supplyMonitorSample m => !m.temps.isEmpty && m.temps.all (fun t => decide (-128 ≤ t ∧ t ≤ 127))
  | .crossingOverflow .. | .clockAbsent .. | .clockReturn .. | .timFenceRead .. | .avsUpdate | .zonePreviewPost ..
    | .zoneChange .. | .zoneChangeHoldExpiry .. | .pgoodFilterExpiry | .pgoodRise | .timeLoadRequest | .timeLoadApply
    | .formatApply .. | .timingLaneEnable .. | .timingLaneDisable .. | .relock .. | .acquireTimeout ..
    | .timingWedgeBegin .. | .timingWedgeEnd .. | .embeddedWedge .. | .afeCalStep .. | .codeTableLoad ..
    | .retryCodeTableLoad | .decodeOverrun .. | .retryJobSubmit .. | .retryJobStart .. | .ladderStepStart ..
    | .rereadDisplace .. | .l6StepEnd .. | .shockRise .. | .shockFall .. | .shockHoldExpiry .. | .shockSetHoldExpiry ..
    | .preampFaultInput .. | .softwareWriteInhibit .. | .kazqCommand .. | .heaterSettleExpiry .. | .microBranch ..
    | .microCall .. | .microReturn .. | .microWait .. | .seqWaitResume .. | .seqWaitLimitExpiry .. | .aluAdd .. | .aluSub ..
    | .aluAnd .. | .aluOr .. | .aluXor .. | .aluShl .. | .aluShr .. | .aluMov .. | .aluCmp .. | .portRead ..
    | .outcomeRead .. | .portWrite .. | .framerOpen .. | .armRead .. | .armWrite .. | .armVerify .. | .framerCancel ..
    | .framerClose .. | .afeApply .. | .dspSelect .. | .markWindowSelect .. | .prepareRead .. | .prepareWrite ..
    | .servoSeekAction .. | .servoMoveAction .. | .ringFetch .. | .ringComplete .. | .ringCompleteFetch .. | .flagSet ..
    | .flagClear .. | .windowSpill .. | .windowFill .. | .windowAbandon .. | .softwareTrap .. | .halt ..
    | .ownerTimeLimit .. | .sequencerRun .. | .sequencerStop .. | .sequencerHold .. | .seekTimeLimit ..
    | .settleWarnExpiry .. | .settleLimitExpiry .. | .commandPeriod .. | .driveLinkInFrame .. | .servoEnable ..
    | .servoDisable .. | .servoLoad .. | .servoUnload .. | .loadLimitExpiry .. | .idleTimerExpiry .. | .idleUnloadExpiry ..
    | .latchDetEdge .. | .parkTimeExpiry .. | .unloadLimitExpiry .. | .recoverLimitExpiry .. | .spindleControlStep
    | .spindleConversion .. | .overcurrentTrip .. | .spindleEnable | .spindleDisable | .spindleKill | .spindleTargetWrite ..
    | .resyncMeasureEnd .. | .startCatchEnd .. | .prechargeEnd | .alignEnd | .startRetryExpiry | .spinTimeLimit
    | .readyTimeExpiry | .holdTimeExpiry | .brakeEnd | .pageTransferEnd .. | .allocationResume | .placementRelease
    | .mediaWriteEnd .. | .journalProgramEnd .. | .drainRequest | .drainEnd | .drainJournalFallback | .lockAcquire ..
    | .lockRelease .. | .lockClearOrphaned .. | .lockResetNotice .. | .lockHoldWarn .. | .squareInit | .flashDieTimeout ..
    | .eraseSuspend .. | .eraseResume .. | .patrolRead .. | .vflashBandChange .. | .reserveErase .. | .rowWrite ..
    | .reshapeCheckpoint .. | .reshapeEnd .. | .resyncCheckpoint .. | .portEvent .. | .linkUp .. | .perstRelease ..
    | .linkL12Entry .. | .functionLevelReset .. | .functionConfigApply | .tlpReceive .. | .pciConfigWrite ..
    | .setupWindowOpen | .nvmeMiRead .. | .controllerReset .. | .controllerShutdown .. | .completionPost ..
    | .activationSwitch .. | .activationAbortTimeout | .drainMergeExpiry | .porstFall | .porstCommitCut | .porstHoldExpiry
    | .arcadeContextGrant | .entropyHealthFail | .entropyHealthRecover | .getVersion .. | .getCapabilities ..
    | .negotiateAlgorithms .. | .getDigests .. | .getCertificate .. | .challenge .. | .getMeasurements .. | .keyExchange ..
    | .finish .. | .endSession .. | .heartbeat .. | .keyUpdate .. | .getEncapsulatedRequest ..
    | .deliverEncapsulatedResponse .. | .getCsr .. | .setCertificate .. | .credentialSet .. | .credentialUnlock ..
    | .credentialChange .. | .sessionHeartbeatExpiry .. | .dmaTailWrite .. | .dmaCopy .. | .dmaFill .. | .dmaFlash ..
    | .dmaLockAcquire .. | .dmaLockRelease .. | .dmaLockRetry .. | .dmaWriteBack .. | .dmaResume .. | .dmaSkip ..
    | .dmaChannelReset .. | .dmaChannelDisable .. | .dmaChannelStop .. | .dramScrubRead .. | .sramScrubRead ..
    | .l1WayChange .. | .lfsrLoad .. | .l1MissFill .. | .jtagBypass | .jtagIdcode | .jtagSamplePreload .. | .jtagExtest
    | .jtagClamp | .jtagHighz | .eventArrival .. | .chipResetTimeout .. | .quietPeriodExpiry .. | .rcntDecayExpiry ..
    | .sourceRearm .. | .blockResetRequest .. | .blockResetDrainEnd .. | .blockResetDrainForced .. | .nmiReturn ..
    | .faultPinRelease | .faultInject .. | .mirrorPage | .mirrorOverdue | .recordCursorLoad .. | .foundingCursorLoad ..
    | .recordClear | .foundingClear | .waitEnterReport .. | .waitExitReport .. | .standbyEntry | .sleepEntry | .sleepExit ..
    | .deepStandbyEntry | .deepStandbyWake .. | .wakeSupplyTimeout | .porstRelease .. | .dataServiceReady ..
    | .startStepLimit .. | .pgoodFall | .pgoodLossExpiry | .powerLossSignal | .commitRecord .. | .powerLossWithdraw ..
    | .cleanStopRecord | .openMarker | .preampFaultClear .. => true

end Sys2Proof
end

