-- ==== Sys2Proof/Tests/Slice0.lean ====
section
/-! SUPPORT. Tests: ill-formed commands that the checks refuse, worked examples of the spec, and for the statements of
Certificates/Slice0/Obligations.lean concrete states that meet their hypotheses, with what the command leaves there. -/

namespace Sys2Proof.Tests

set_option Elab.async false

open Sys2Proof Sys2Proof.Machine

/-! ### What the tests are written with -/

/-- The state that a command leads to. -/
def nx (c : Instr) (s : State) : State :=
  match exec c s with
  | .next t => t
  | _ => s

/-- The state that a step leads to. -/
def nxStep (s : State) : State :=
  match step s with
  | .next t => t
  | _ => s

/-- The state with some fields set. -/
def puts (l : List (Fld × Nat)) (s : State) : State := l.foldl (fun t x => t.put x.1 x.2) s

/-- The bits of some fields in the word at an address. -/
def maskOf (fs : List Fld) (a : Nat) : Nat := fs.foldl (fun m f => if f.addr = a then m ||| ((2 ^ f.wid - 1) <<< f.lo) else m) 0

/-- Two states agree on a part. -/
def sameB (s t : State) : Part → Bool
  | .regs => decide (t.regs = s.regs)
  | .bus => decide (t.bus = s.bus)
  | .tim => decide (t.tim = s.tim)
  | .ring => decide (t.ring = s.ring)
  | .pace => decide (t.pace = s.pace)
  | .av => decide (t.av = s.av)
  | .rdec => decide (t.rdec = s.rdec)
  | .svo => decide (t.svo = s.svo)
  | .spn => decide (t.spn = s.spn)
  | .sqr => decide (t.sqr = s.sqr)
  | .fls => decide (t.fls = s.fls)
  | .red => decide (t.red = s.red)
  | .host => decide (t.host = s.host)
  | .rbt => decide (t.rbt = s.rbt)
  | .arc => decide (t.arc = s.arc)
  | .tgt => decide (t.tgt = s.tgt)
  | .pwr => decide (t.pwr = s.pwr)
  | .flt => decide (t.flt = s.flt)
  | .recd => decide (t.recd = s.recd)
  | .dma => decide (t.dma = s.dma)
  | .mem => decide (t.mem = s.mem)
  | .cores => decide (t.cores = s.cores)
  | .pins => decide (t.pins = s.pins)
  | .shock => decide (t.shock0 = s.shock0 ∧ t.shock1 = s.shock1)
  | .preampTable => decide (t.preampTable = s.preampTable)
  | .nominal => decide (t.nominal = s.nominal)
  | .freeCtr => decide (t.freeCtr = s.freeCtr)
  | .pending => decide (t.pending = s.pending)

/-- Every part. -/
def allParts : List Part :=
  [.regs, .bus, .tim, .ring, .pace, .av, .rdec, .svo, .spn, .sqr, .fls, .red, .host, .rbt, .arc, .tgt, .pwr, .flt, .recd,
    .dma, .mem, .cores, .pins, .shock, .preampTable, .nominal, .freeCtr, .pending]

/-- Every part but the listed ones is as it was. -/
def untouchedB (ps : List Part) (s t : State) : Bool := allParts.all (fun p => ps.contains p || sameB s t p)

/-- Every register bit but those of the listed fields is as it was. -/
def regsBut (fs : List Fld) (s t : State) : Bool :=
  (s.regs ++ t.regs).all (fun e => ((s.rd e.1).toNat ||| maskOf fs e.1) == ((t.rd e.1).toNat ||| maskOf fs e.1))

/-- What a frame says, on two concrete states. -/
def frameB (fs : List Fld) (ps : List Part) (s t : State) : Bool := regsBut fs s t && untouchedB ps s t

/-- The events that a command has added to what waits. -/
def added (s t : State) : List (Nat × Nat) := (t.flt.inbox.drop s.flt.inbox.length).map (fun e => (e.src, e.detail))

/-- A saturating counter has gone up by one. -/
def countedB (f : Fld) (s t : State) : Bool := t.get f == min (2 ^ f.wid - 1) (s.get f + 1)

/-- The state right after reset. -/
def r0 : State := State.reset

/-- Avenue `n` of a state changed. -/
abbrev av (n : Fin 4) (f : Avenue → Avenue) (s : State) : State := s.modAv n f

/-- A layout of one full zone with few bits to a revolution, and an empty one. -/
def smallLayout (cpr : Nat) : Layout :=
  ⟨2, 1000, [⟨0, cpr, 3, 112, 282, 56, 8, 4, false, true, 96, 0, 0, 0⟩, ⟨500, cpr / 2, 3, 112, 282, 56, 8, 4, false, true, 96, 0, 0, 0⟩]⟩

/-! ### Registers -/

theorem test_step_front : nxStep { r0 with pending := [.faultPinRelease] } = nx .faultPinRelease r0 := by decide +kernel

theorem test_idle_cycle : nxStep (r0.put (tdPresent 31) 1) = { r0.put (tdPresent 31) 1 with tim := ⟨1, false⟩ } := by
  decide +kernel

theorem test_idle_absent : r0.get (tdPresent 31) = 0 ∧ nxStep r0 = r0 := by decide +kernel

theorem test_canonical_reset : State.reset.canonical = true ∧ State.reset.rdec.queue.length ≤ 64 := by decide +kernel

/-- RW and RWL fields of PWR_AVSCTL are written while LOCK is 0. -/
theorem test_register_write :
    let t := nx (.registerWrite (.internal PWR_AVSCTL) 0x80000001) r0
    (regAt PWR_AVSCTL).isSome = true ∧ t.get PWR_AVSCTL_LOCK = 1 ∧ t.get PWR_AVSCTL_EN = 1 ∧ frameB [⟨PWR_AVSCTL, 0, 32⟩] [.regs] r0 t := by
  decide +kernel

/-- A locked RWL field keeps its value, and the other value is a bad access of cause 4. -/
theorem test_register_write_locked :
    let s := r0.put FLT_CTL_LOCK 1
    let t := nx (.registerWrite (.internal FLT_CTL) 0) s
    t.get FLT_CTL_DECAY = 24 ∧ t.get FLT_CTL_LOCK = 1 ∧ t.get SYS_BADACC_CAUSE = 4 ∧ t.get SYS_BADCNT_COUNT = 1 := by decide +kernel

theorem test_code_limits :
    let t := nx (.registerWrite (.internal PWR_AVSLIM) 0) r0
    t.get PWR_AVSLIM_MINCODE = 70 ∧ t.get PWR_AVSLIM_MAXCODE = 70 ∧ r0.get PWR_AVSCTL_LOCK = 0 := by decide +kernel

theorem test_setup_page :
    let s : State := { r0 with bus := { r0.bus with winOpen := true } }
    nx (.registerWrite (.window 0x400000 4 15) 11) s = { s with bus := { s.bus with page := 3 } } := by decide +kernel

/-- A VGA step tags 2 blocks of its reader INVALID, a change of cutoff 4, and a shock mask set under a shock brings cause 0
(R98, Table 3-3, R150). -/
theorem test_analogue_write :
    let t := nx (.registerWrite (.internal (AV_AFEGAIN 1 0)) 7) r0
    let u := nx (.registerWrite (.internal (AV_AFECTF 2 1)) 7) r0
    let s := (r0.setShock 0 true).putb (AV_WINHCTL_SHM0 3) false
    let v := nx (.registerWrite (.internal (AV_WINHCTL 3)) 1) s
    t.get (AV_AFEGAIN_VGA 1 0) = 7 ∧ (t.reader 1 0).inv = 2 ∧ (t.reader 1 1).inv = 0 ∧ (t.reader 0 0).inv = 0 ∧
    (u.reader 2 1).inv = 4 ∧ (u.reader 2 0).inv = 0 ∧ v.causes 3 % 2 = 1 ∧
    added s v = [(428 + 96 * 3 + 65, 0)] := by decide +kernel

theorem test_window_closed : nx (.registerWrite (.window 0 4 15) 11) r0 = r0 ∧
    nx (.readClearAccess (.window 0 4 15) []) r0 = r0 := by decide +kernel

theorem test_read_clears :
    let s := r0.put SYS_BADCNT_COUNT 7
    let t := nx (.readClearAccess (.internal SYS_BADCNT) [⟨0, 2⟩]) s
    t.bus.rdata = 7 ∧ t.get SYS_BADCNT_COUNT = 2 ∧ frameB [SYS_BADCNT_COUNT] [.regs, .bus] s t := by decide +kernel

theorem test_lower_word_capture :
    let s : State := { r0 with tim := ⟨0x500000007, false⟩ }
    let t := nx (.lowerWordCaptureRead (.internal TIM_NOW_LO)) s
    let u := nx (.readClearAccess (.internal TIM_NOW_HI) []) { t with tim := ⟨0x900000000, false⟩ }
    t.bus.rdata = 7 ∧ u.bus.rdata = 5 := by decide +kernel

theorem test_fence : nx (.timFenceRead false) r0 = { r0 with bus := { r0.bus with rdata := r0.peek TIM_FENCE } } ∧
    nx (.timFenceRead true) r0 = { r0 with bus := { r0.bus with rdata := 0 } } := by decide +kernel

theorem test_unmapped_read :
    let t := nx (.readClearAccess (.internal 0x1FFFFFC) []) r0
    regAt 0x1FFFFFC = none ∧ t.bus.rdata = 0 ∧ t.get SYS_BADACC_VALID = 1 ∧ t.get SYS_BADACC_CAUSE = 1 ∧
    t.get SYS_BADACC_ADDR = 0x1FFFFFC ∧ t.get SYS_BADCNT_COUNT = 1 := by decide +kernel

/-- Narrow, unaligned and unmapped accesses through the open window (R17, R19), and a register of RO fields alone (R21). -/
theorem test_bad_accesses :
    let s : State := { r0 with bus := { r0.bus with winOpen := true } }
    let v := s.put SYS_BADACC_VALID 1
    s.accessTarget (.window 2 2 3) = .bad 2 false 2 ∧ s.accessTarget (.window 0x400004 4 15) = .bad 1 true 0x400004 ∧
    (nx (.registerWrite (.window 0x400004 4 15) 9) s).get SYS_BADACC_BAROFS = 1 ∧
    (nx (.registerWrite (.window 0x400004 4 15) 9) v).rd SYS_BADACC = v.rd SYS_BADACC ∧
    (nx (.registerWrite (.internal SYS_ID) 9) r0).get SYS_BADACC_CAUSE = 3 ∧
    (nx (.registerWrite (.internal SYS_BADACC) 0x80000000) v).get SYS_BADACC_VALID = 0 := by decide +kernel

/-! ### Ill-formed commands -/

theorem test_wf_access : (Instr.registerWrite (.internal 2) 0).wf = false ∧ (Instr.registerWrite (.window 8388608 4 15) 0).wf = false
    ∧ (Instr.registerWrite (.internal 4) 0).wf = true := by decide +kernel

/-! ### Timing domains, flits and the pace loop -/

theorem test_clock_absent :
    let s := puts [(tdPresent 31, 1), (tdExpect 31, 1)] r0
    let u := puts [(tdPresent 25, 1)] r0
    (tdPresent 31 |> s.get) = 1 ∧ (nx (.clockAbsent 31) s).get (tdPresent 31) = 0 ∧ added s (nx (.clockAbsent 31) s) = [(1124, 0)] ∧
    frameB [tdPresent 31] [.regs, .flt] s (nx (.clockAbsent 31) s) ∧ added u (nx (.clockAbsent 25) u) = [] ∧
    (nx (.clockReturn 25) r0).get (tdPresent 25) = 1 := by decide +kernel

theorem test_crossings :
    let a := nx (.crossingOverflow 2 9) r0
    let b := nx (.crossingOverflow 25 9) r0
    let c := nx (.crossingOverflow 23 9) r0
    let d := nx (.crossingOverflow 23 9) c
    (a.reader 1 0).dropped = 9 ∧ added r0 a = [(428 + 96 + 38, 0)] ∧ untouchedB [.av, .flt] r0 a ∧ added r0 b = [(954, 0)] ∧
    (c.svo.get 3).underflows = 1 ∧ c.flt = r0.flt ∧ added c d = [(812 + 96 + 8, 0)] := by decide +kernel

theorem test_time_load :
    let s := puts [(tdPresent 31, 1), (⟨TIM_LOAD_LO, 0, 32⟩, 5), (⟨TIM_LOAD_HI, 0, 32⟩, 1)] (nx .timeLoadRequest r0)
    let t := nx .timeLoadApply s
    s.tim.loadPending = true ∧ t.tim.now = 0x100000005 ∧ t.get TIM_CTL_LOADS = 1 ∧ t.recd.nextSeq = 1 ∧
    t.recd.circ.map RecEntry.typ = [1] ∧ untouchedB [.tim, .regs, .recd, .flt] s t := by decide +kernel

theorem test_write_underflow :
    let s := r0.modAv 1 (fun a => { a with wg := true })
    let t := nx (.crossingOverflow 9 1) s
    s.writing 1 = false ∧ (t.avn 1).wg = false ∧ added s t = [(428 + 96 + 72, 0)] ∧ untouchedB [.av, .flt] s t := by decide +kernel

theorem test_flits :
    let f : Flit := { src := 0, dst := 6, response := false, late := false, errors := [0, 1, 1, 2], headerOk := true }
    let t := nx (.flitDelivery f) r0
    let u := nx (.flitDelivery { f with headerOk := false }) r0
    f.wf = true ∧ t.ring.last = some ⟨6, true, 6, true⟩ ∧ t.ring.corrected = [(6, 2)] ∧ untouchedB [.ring] r0 t ∧
    u.ring.discarded = 1 ∧ (added r0 u).length = 1 ∧ u.ring.last = none ∧ untouchedB [.ring, .flt] r0 u := by decide +kernel

theorem test_pace_gate :
    let s := puts [(PWR_PACEREQ_EN 9, 1), (PWR_PACEREQ_REQ 9, 100)] r0
    let t := nx (.paceGateEnd (List.replicate 16 150)) s
    t.get (PWR_PACE_COUNT 9) = 150 ∧ t.get (PWR_PACE_MARGIN 9) = 384 ∧ t.get (PWR_PACE_COUNT 8) = 0 ∧ t.pace.gates = 1 ∧
    untouchedB [.regs, .pace, .flt] s t := by decide +kernel

theorem test_avs_update :
    let s0 : State := puts [(PWR_AVSCTL_EN, 1)] { r0 with pace := { r0.pace with gates := 4, prev := [(3, 1)] } }
    let t := nx .avsUpdate s0
    let s1 : State := { s0 with pace := { s0.pace with prev := [(3, 60000)] } }
    s0.get PWR_AVSCTL_PERIOD = 4 ∧ s0.get PWR_AVSTHR_CRIT < s0.get PWR_AVSTHR_WARN ∧ s0.get PWR_AVSTHR_WARN < s0.get PWR_AVSTHR_LOW ∧
    s0.get PWR_AVSTHR_LOW < s0.get PWR_AVSTHR_HIGH ∧ t.get PWR_VREQ_WORST = 3 ∧
    t.get PWR_VREQ_CODE = 250 + s0.get PWR_AVSLIM_UP ∧ t.pace.gates = 0 ∧
    (nx .avsUpdate s1).get PWR_VREQ_CODE = 250 - s0.get PWR_AVSLIM_DOWN ∧
    frameB [PWR_VREQ_WORST, PWR_VREQ_CODE] [.regs, .pace, .flt] s0 t := by decide +kernel

theorem test_zone_preview : nx (.zonePreviewPost 2 7) r0 = { r0 with pace := { r0.pace with preview := r0.pace.preview.set 2 (some 7) } } := by
  decide +kernel

theorem test_pgood :
    let s : State := { r0 with pace := { r0.pace with pgTiming := true } }
    let t := nx .pgoodFilterExpiry s
    s.get PWR_VREQ_PGOOD = 0 ∧ t.pace.pgHold = true ∧ added s t = [(1122, 0)] ∧ untouchedB [.pace, .flt] s t ∧
    (nx .pgoodRise t).get PWR_VREQ_PGOOD = 1 ∧ (nx .pgoodRise t).pace.pgHold = false := by decide +kernel

/-- Avenue 0 with two zones, the second slower. -/
def paced : State := puts [(PWR_PACEREQ_EN 0, 1), (PWR_PACEREQ_REQ 0, 1000)]
  ({ r0 with pace := { r0.pace with cur := r0.pace.cur.set 0 1 } }.modAv 0 (fun a => { a with layout := some (smallLayout 60000) }))

theorem test_zone_change :
    let u : State := { paced with pace := { paced.pace with cur := .all 0 } }
    let w := nx (.zoneChange 0 0) paced
    let x := nx (.zoneChangeHoldExpiry 0) w
    paced.paceRate 0 1 < paced.paceRate 0 0 ∧ (paced.postPreview 0 0).previewOk 0 = false ∧ 0 < paced.get PWR_AVSCTL_HOLDMAX ∧
    w = { paced with pace := { paced.pace with preview := paced.pace.preview.set 0 (some 0), wait := paced.pace.wait.set 0 (some 0) } } ∧
    x.pace.cur.get 0 = 0 ∧ x.pace.wait.get 0 = none ∧ (added w x).getLast? = some (1125, 0) ∧
    (nx (.zoneChange 0 1) u).pace.cur.get 0 = 1 := by decide +kernel

/-! ### Framing, the timing lane and the front end -/

/-- Avenue 0 with the framing of the worked example of 2.9 in zone 0. -/
def framed : State := puts ([(AV_FMTCTL_NDATA 0, 2), (AV_FMTCYL_NCYL 0, 1000), (AV_ZONECFG_CPR16 0 0, 468750), (AV_ZONECFG_SPARES 0 0, 3),
  (AV_ZONEWDG_PREG 0 0, 112), (AV_ZONEWDG_WLEN 0 0, 282), (AV_ZONEWDG_POSTG 0 0, 56)]
  ++ (List.range 31).map (fun z => (AV_ZONEBND_FIRST 0 (z + 1), 1000))) r0

/-- The worked example of 2.9: SPT 1,583, SPLITS 94, GAPS 1, USPT 1,580 and TAIL 2,376. -/
theorem test_format_apply :
    let t := nx (.formatApply 0) framed
    framed.formatBroken 0 = none ∧ t.get (AV_FMTCTL_OK 0) = 1 ∧ t.get (AV_ZONESTAT_SPT 0 0) = 1583 ∧
    t.get (AV_ZONESTAT_SPLITS 0 0) = 94 ∧ t.get (AV_ZONESTAT_GAPS 0 0) = 1 ∧ t.get (AV_ZONEUSE_USPT 0 0) = 1580 ∧
    t.get (AV_ZONEUSE_TAIL 0 0) = 2376 ∧ untouchedB [.regs, .av] framed t := by decide +kernel

theorem test_format_refused :
    let s := framed.put (AV_ZONEWDG_PREG 0 0) 1
    let t := nx (.formatApply 0) s
    let b := r0.modSeq 0 (fun q => { q with rings := [⟨[], false, false, none, none⟩] :: q.rings.drop 1 })
    let u := nx (.formatApply 0) b
    s.formatBroken 0 = some (5, 0) ∧ t.get (AV_FMTSTAT_CODE 0) = 5 ∧ t.get (AV_FMTCTL_OK 0) = 0 ∧ added s t = [(452, 0)] ∧
    b.mediaBusy 0 = true ∧ u.get (AV_FMTSTAT_CODE 0) = 1 ∧ added b u = [(452, 0)] ∧
    frameB [AV_FMTSTAT_CODE 0, AV_FMTSTAT_ZONE 0] [.regs, .flt] b u := by decide +kernel

theorem test_lane_states :
    let a := nx (.timingLaneEnable 1) r0
    let b := nx (.relock 1) a
    let c := nx (.acquireTimeout 1) b
    let d := puts [(AV_TLSTAT_STATE 1, 3)] a
    let z := nx (.timingLaneDisable 1) d
    a.get (AV_TLSTAT_STATE 1) = 1 ∧ a.get (AV_TLCTL_EN 1) = 1 ∧ (laneDomains 1).all (fun k => a.get (tdExpect k) == 1) = true ∧
    frameB (AV_TLCTL_EN 1 :: AV_TLSTAT_STATE 1 :: (laneDomains 1).map tdExpect) [.regs, .av] r0 a ∧
    b.get (AV_TLSTAT_STATE 1) = 2 ∧ frameB [AV_TLSTAT_STATE 1, AV_TLSTAT_FMISM 1] [.regs, .av] a b ∧ nx (.relock 1) b = b ∧
    nx (.relock 1) r0 = r0 ∧ c.get (AV_TLSTAT_FAILS 1) = 1 ∧ c.get (AV_TLCNT_LKFAILS 1) = 1 ∧
    (nx (.timingWedgeBegin 1) d).get (AV_TLSTAT_STATE 1) = 4 ∧ z.get (AV_TLSTAT_STATE 1) = 0 ∧ (z.avn 1).wg = false ∧
    frameB (AV_TLCTL_EN 1 :: AV_TLSTAT_STATE 1 :: (laneDomains 1).map tdExpect) [.regs, .av] d z := by decide +kernel

theorem test_acquire_fails :
    let s := puts [(AV_TLSTAT_STATE 1, 2), (AV_TLCTL_RELOCKS 1, 3)] r0
    let u := s.put (AV_TLSTAT_FAILS 1) 2
    (nx (.acquireTimeout 1) s).get (AV_TLSTAT_STATE 1) = 2 ∧ added s (nx (.acquireTimeout 1) s) = [(556, 0)] ∧
    (nx (.acquireTimeout 1) u).get (AV_TLSTAT_STATE 1) = 5 ∧ added u (nx (.acquireTimeout 1) u) = [(556, 0), (564, 0)] := by
  decide +kernel

theorem test_lane_update :
    let s := puts [(AV_TLSTAT_STATE 0, 2), (AV_TLTHR_LKCNT 0, 2)] r0
    let c : Instr := .laneUpdate 0 [8, 8, 8, 8, 8, 8, 8, 9] [1, 1, 1, 1, 1, 1, 1, 1] false
    let t := nx c s
    let u := nx c t
    (t.avn 0).lane.lockRun = 1 ∧ t.get (AV_TLSTAT_STATE 0) = 2 ∧ u.get (AV_TLSTAT_STATE 0) = 3 ∧
    (t.avn 0).lane.fw = -(8 / 2 ^ s.get (AV_TLCTL_KIA 0)) ∧ (t.avn 0).lane.phase = -(8 / 2 ^ s.get (AV_TLCTL_KPA 0)) ∧
    frameB [AV_TLSTAT_STATE 0, AV_TLSTAT_FAILS 0, AV_TLSTAT_ACQT 0, AV_TLFREQ_FOFS 0, AV_TLFREQ_PHERR 0, AV_TLFREQ_AMP 0]
      [.regs, .av] s t ∧ (nx c u).get (AV_TLSTAT_STATE 0) = 3 ∧ untouchedB [.regs, .av, .flt] u (nx c u) := by decide +kernel

/-- Avenue 0 in TRACK with a read open. -/
def openRead : MediaOp :=
  { cyl := 3, face := 0, zone := 0, slips := [], opcode := 1, ctx := ⟨0, 0, false, false, 0, 0, 0, 0, false, false, none, none, none⟩
    prepRead := true, prepWrite := false, taken := false, ended := 0, laneLost := false, dsp := .zone, l4 := false, closing := false }

theorem test_sample_blocks :
    let s := puts [(AV_TLSTAT_STATE 0, 3), (AV_SKCTL_TRK 0, 1), (AV_DETCTL_ADAPT 0, 0)]
      (r0.modSeq 0 (fun q => { q with op := some openRead }))
    let t := nx (.sampleBlock 0 1 [1, 2] [3, 4] []) s
    let u := nx (.sampleBlock 0 1 [] [] []) r0
    s.tagNow 0 1 = .valid ∧ s.reading 0 = true ∧ (t.reader 0 1).acc = 2 * 3 - 1 * 4 ∧ untouchedB [.av] s t ∧
    r0.laneTracks 0 = false ∧ u.get (AV_TAGCNT_INVAL 0) = 1 ∧ frameB [AV_TAGCNT_INVAL 0] [.regs, .av] r0 u := by decide +kernel

theorem test_afe_cal :
    let s := r0.put (AV_AFECAL_EN 2) 1
    let u := nx (.afeCalStep 2 0 true) s
    (s.seq 2).slotRun = none ∧ added s u = [(428 + 192 + 39, 0)] ∧ (u.reader 2 0).trims = [] := by decide +kernel

theorem test_code_refused :
    let u := nx (.codeTableLoad 1) r0
    codeBroken (r0.codeMem 1) = 2 ∧ u.get (AV_CODECTL_ERR 1) = 2 ∧ added r0 u = [(428 + 96 + 55, 0)] := by decide +kernel

theorem test_wedges :
    let s := puts [(SVO_STAT_STATE 0, 5), (AV_TLSTAT_STATE 0, 4), (SVO_SAMWIN_WTRK 0, 4), (SVO_STAT_TCYL 0, 5), (SVO_CTL_MISSLIM 0, 9)] r0
    let w : WedgeInput := { marks := [⟨0, 0⟩], number := 0, cyl := 7, alt := none, burstA := 1, burstB := 1, burstC := 5, burstD := 1
                            count := 24 }
    let t := nx (.timingWedgeEnd 0 w) s
    let m := nx (.timingWedgeEnd 0 { w with marks := [] }) s
    gray w.number = 0 ∧ gray w.cyl = 5 ∧ syncCycle (s.zoneNow 0 (s.avn 0).lane.zone).cpr16 0 = 24 ∧
    t.get (SVO_POS_POS 0) = unsigned 32 (1280 + (s.finePosition 0 1 1 5 1).1) ∧ t.get (AV_TLSTAT_STATE 0) = 3 ∧
    (t.svo.get 0).nextWedge = 1 ∧ untouchedB [.regs, .av, .svo, .spn, .flt, .freeCtr] s t ∧ m.get (SVO_CNT0_MISSES 0) = 1 ∧
    (m.svo.get 0).missRun = 1 ∧ ⟨812, 0, 0, false⟩ ∈ m.flt.inbox := by decide +kernel

theorem test_embedded_wedge :
    let s := puts [(SVO_STAT_STATE 0, 4), (SVO_STAT_TCYL 0, 5)] r0
    let w : EmbeddedInput := ⟨true, 0, 7, 1, 1, 5, 1⟩
    let t := nx (.embeddedWedge 0 w) s
    let u := nx (.embeddedWedge 0 { w with face := 1 }) s
    gray w.cyl = s.target 0 % 256 ∧ t.get (SVO_PES_ED 0) = unsigned 16 (s.finePosition 0 1 1 5 1).1 ∧
    untouchedB [.regs, .av, .svo, .flt] s t ∧ (u.svo.get 0).writeRun = 0 ∧ ⟨826, 0, 0, false⟩ ∈ u.flt.inbox := by decide +kernel

/-! ### Decoders, ladders and the write path -/

/-- A host read's context: class 1, handle 7. -/
def hostCtx : ReadCtx := ⟨2, 3, false, false, 1, 0, 7, 0, true, false, none, none, none⟩

/-- A sector of it at cylinder 3, face 1, slot 5. -/
def hostSector : SectorRead := { addr := ⟨3, 1, 5⟩, ctx := hostCtx, verify := false, marks := true, decode := true, laneLost := false }

/-- A decode that gives the sector of zeros written there. -/
def goodDecode : Decoded :=
  ⟨true, scramble (slotTag ⟨3, 1, 5⟩) (payloadOf (header ⟨3, 1, 5⟩ 2 3) (List.replicate 4112 0))⟩

def badDecode : Decoded := ⟨false, []⟩

/-- A ladder of that sector. -/
def hostLadder : Ladder :=
  { id := 4, sec := hostSector, level := 1, step := 0, rereads := 0, pinned := false, allMarks := true, phase := .running, aborted := false }

/-- The same, waiting at a level. -/
def waitingLadder (lvl : Nat) : Ladder := { hostLadder with level := lvl, phase := .waiting }

theorem good_of_block (block : List Byte) (hb : block.length = 4112) :
    sectorOutcome ⟨3, 1, 5⟩ hostCtx ⟨true, scramble (slotTag ⟨3, 1, 5⟩) (payloadOf (header ⟨3, 1, 5⟩ 2 3) block)⟩ = .good := by
  have hh : headerOk (ofBytes 64 (beBytes 8 (header ⟨3, 1, 5⟩ 2 3))) = true := by decide +kernel
  have ht : headerTag (ofBytes 64 (beBytes 8 (header ⟨3, 1, 5⟩ 2 3))) = slotTag ⟨3, 1, 5⟩ := by decide +kernel
  have hr : ((ofBytes 64 (beBytes 8 (header ⟨3, 1, 5⟩ 2 3))).extractLsb' 22 6).toNat = 2 := by decide +kernel
  have hg : ((ofBytes 64 (beBytes 8 (header ⟨3, 1, 5⟩ 2 3))).extractLsb' 16 6).toNat = 3 := by decide +kernel
  simp only [sectorOutcome, Laws.scramble_twice, Laws.payloadHeader_payloadOf, Laws.mediaCrcOk_payloadOf _ _ hb, hh, ht, hr, hg, hostCtx]
  decide

theorem test_good_decode : sectorOutcome ⟨3, 1, 5⟩ hostCtx goodDecode = .good := good_of_block _ List.length_replicate

theorem test_decode_delivers :
    let s := av 2 (fun a => { a with decoding := [hostSector] }) r0
    (s.avn 2).decoding = [hostSector] ∧ hostSector.ctx.reread = none ∧ hostSector.verify = false ∧ hostSector.ctx.host = true ∧
    sectorOutcome hostSector.addr hostSector.ctx goodDecode = .good :=
  ⟨rfl, rfl, rfl, rfl, test_good_decode⟩

theorem test_decode_ladder :
    let s := av 2 (fun a => { a with decoding := [hostSector] }) r0
    let t := nx (.onTheFlyDecodeEnd 2 badDecode) s
    1 ≤ s.ceiling 2 hostCtx ∧ s.get (AV_STORESTAT_PINNED 2) < s.get (AV_LADLIM_PINMAX 2) ∧ countedB (AV_LADCNT0_OTFFAIL 2) s t ∧
    t.get (AV_STORESTAT_PINNED 2) = 1 ∧ (t.avn 2).ladders = [{ hostLadder with id := 0, phase := .waiting, pinned := true }] ∧
    added s t = [(428 + 192 + 48, 0)] ∧ frameB [AV_LADCNT0_OTFFAIL 2, AV_STORESTAT_PINNED 2] [.regs, .av, .flt] s t := by
  decide +kernel

theorem test_decode_overrun :
    let s := av 2 (fun a => { a with decoding := [hostSector, { hostSector with addr := ⟨3, 1, 6⟩ }] }) r0
    let t := nx (.decodeOverrun 2) s
    (t.avn 2).decoding = [{ hostSector with addr := ⟨3, 1, 6⟩ }] ∧ countedB (AV_DECCNT_OVERRUN 2) s t ∧
    ⟨.overrun, false, 5⟩ ∈ (t.avn 2).seq.outcomes ∧ ⟨428 + 192 + 56, 0, 0, false⟩ ∈ t.flt.inbox ∧
    untouchedB [.regs, .av, .flt, .rdec] s t := by decide +kernel

theorem test_job_submit :
    let s := av 2 (fun a => { a with ladders := [hostLadder] }) (r0.put AV0_RDECCTL_OK 1)
    let t := nx (.retryJobSubmit 2 4) s
    t.rdec = { s.rdec with queue := [⟨2, 4, 1⟩] } ∧ (t.avn 2).ladders = [{ hostLadder with phase := .queued }] ∧
    untouchedB [.av, .rdec] s t := by decide +kernel

/-- The job of the higher class goes first; a job without its ladder has no further effect. -/
theorem test_job_start_end :
    let s : State := { r0 with rdec := { r0.rdec with queue := [⟨0, 1, 1⟩, ⟨2, 4, 2⟩] } }
    let u : State := { r0 with rdec := { r0.rdec with run1 := some ⟨2, 4, 1⟩ } }
    nx (.retryJobStart 0) s = { s with rdec := { s.rdec with queue := [⟨0, 1, 1⟩], run0 := some ⟨2, 4, 2⟩ } } ∧
    nx (.retryJobEnd 1 badDecode) u = r0 := by decide +kernel

theorem test_job_recovers :
    let v : State := av 2 (fun a => { a with ladders := [hostLadder] }) { r0 with rdec := { r0.rdec with run0 := some ⟨2, 4, 1⟩ } }
    v.rdec.run0 = some ⟨2, 4, 1⟩ ∧ v.ladder 2 4 = some hostLadder ∧ hostLadder.level = 1 ∧ hostLadder.sec.verify = false ∧
    hostLadder.sec.ctx.host = true ∧ sectorOutcome hostLadder.sec.addr hostLadder.sec.ctx goodDecode = .good :=
  ⟨rfl, rfl, rfl, rfl, rfl, test_good_decode⟩

theorem test_ladder_steps :
    let s := av 1 (fun a => { a with ladders := [waitingLadder 1] }) r0
    let t := nx (.ladderStepStart 1 4) s
    let u := nx (.rereadDisplace 1 4) t
    s.nextStep 1 (waitingLadder 1) 1 0 = some (2, 0) ∧ (t.avn 1).ladders = [{ hostLadder with level := 2 }] ∧ untouchedB [.av] s t ∧
    (u.avn 1).ladders = [waitingLadder 2] ∧ untouchedB [.av] t u := by decide +kernel

theorem test_reconstruction_recovers :
    let l : Ladder := { hostLadder with level := 6, rereads := 2 }
    let s := av 1 (fun a => { a with ladders := [l] }) r0
    let t := nx (.l6StepEnd 1 4 true) s
    (t.avn 1).ladders = [] ∧ (t.avn 1).relocate = [⟨3, 1, 5⟩] ∧ countedB (AV_LADCNT1_LASTING 1) s t ∧
    added s t = [(428 + 96 + 50, 0)] ∧ frameB [AV_LADCNT1_LASTING 1] [.regs, .av, .rdec, .flt] s t := by decide +kernel

theorem test_relocation :
    let s := av 1 (fun a => { a with relocate := [⟨3, 1, 5⟩], pendingList := [⟨9, 1, 5⟩] }) r0
    let t := nx (.relocateSector 1 ⟨3, 1, 5⟩ [(⟨3, 1, 1582⟩, false), (⟨3, 1, 1581⟩, true)]) s
    let u := nx (.relocateSector 1 ⟨9, 1, 5⟩ [(⟨9, 1, 1582⟩, false)]) s
    t.avn 1 = { s.avn 1 with relocate := [], mapping := [(⟨3, 1, 5⟩, ⟨3, 1, 1581⟩)], grown := [(⟨3, 1, 5⟩, false)] } ∧
    untouchedB [.av] s t ∧ (u.avn 1).grown = [(⟨9, 1, 5⟩, true)] ∧ (u.avn 1).mapping = [] ∧
    added s u = [(428 + 96 + 57, 0)] ∧ untouchedB [.av, .flt] s u := by decide +kernel

theorem test_wf_decoded : (Instr.onTheFlyDecodeEnd 0 badDecode).wf = false ∧ (Instr.retryJobEnd 0 badDecode).wf = false ∧
    (Instr.relocateSector 0 ⟨2 ^ 22, 0, 0⟩ []).wf = false ∧ (Instr.relocateSector 0 ⟨0, 0, 0⟩ [(⟨0, 5, 0⟩, true)]).wf = false := by
  decide +kernel

/-! ### Write inhibits and the Kazq link -/

/-- Avenue 1 with a write in progress at slot 5. -/
def openWrite : State := av 1 (fun a => { a with
    wg := true
    seq := { a.seq with
      op := some { openRead with prepWrite := true, taken := true }
      slotRun := some ⟨⟨.write, 5, 0, 100, false, .zone, false⟩, false, false, false, 0⟩ } }) r0

theorem test_shock :
    let s := puts [(AV_WINHCTL_SHM0 1, 1), (AV_WINHCTL_SHM1 1, 1), (SVO_SHK_SHM1 2, 1)] r0
    let t := nx (.shockRise 0) s
    let u : State := { s with shock1 := true }
    let v := nx (.shockFall 1) u
    all4.all (fun m => !s.writing m) = true ∧ s.cause0 1 = false ∧ t.shock0 = true ∧ (t.avn 1).wg = false ∧
    ⟨428 + 96 + 65, 0, 0, false⟩ ∈ t.flt.inbox ∧ untouchedB [.shock, .av, .flt] s t ∧ v.shock1 = false ∧
    (v.avn 1).shockHold = true ∧ (v.avn 0).shockHold = decide (s.get (AV_WINHCTL_SHM1 0) = 1) ∧ (v.svo.get 2).shockSet = true ∧
    untouchedB [.shock, .av, .svo] u v ∧ (nx (.shockHoldExpiry 1) v).avn 1 = { v.avn 1 with shockHold := false } ∧
    ((nx (.shockSetHoldExpiry 2) v).svo.get 2).shockSet = false := by decide +kernel

theorem test_preamp_fault :
    let t := nx (.preampFaultInput 1) r0
    let u := nx (.preampFaultInput 1) openWrite
    added r0 t = [(428 + 96 + 67, 0)] ∧ (t.avn 1).pflt = true ∧ untouchedB [.av, .flt] r0 t ∧ openWrite.writing 1 = true ∧
    (u.avn 1).wg = false ∧ (u.seq 1).op.map MediaOp.ended = some 5 ∧ (u.seq 1).slotRun = none ∧ u.get (AV_WFSTAT_VALID 1) = 1 ∧
    u.get (AV_WFSTAT_FIRST 1) = 2 ∧ u.get (AV_WFSTAT_SLOT 1) = 5 ∧ u.get (AV_WFCNT_FAULTS 1) = 1 ∧
    added openWrite u = [(428 + 96 + 67, 0), (428 + 96 + 64, 0)] ∧ untouchedB [.regs, .av, .flt] openWrite u ∧
    (nx (.preampFaultClear 1) t).avn 1 = { t.avn 1 with pflt := false } := by decide +kernel

theorem test_software_inhibit :
    let t := nx (.softwareWriteInhibit 3) r0
    r0.writing 3 = false ∧ t.get (AV_WINHCTL_SWINH 3) = 1 ∧ (t.avn 3).wg = false ∧ frameB [AV_WINHCTL_SWINH 3] [.regs, .av] r0 t := by
  decide +kernel

theorem test_kazq_command :
    let t := nx (.kazqCommand 1 false 1 9) r0
    let u := nx (.kazqCommand 1 false 1 9) openWrite
    t.get (AV_KZSTAT_BUSY 1) = 1 ∧ t.get (AV_KZCMD_ADDR 1) = 1 ∧ t.get (AV_KZCMD_DATA 1) = 9 ∧
    (t.avn 1).kazq.cur.map Prod.fst = some ⟨false, 1, 9, false⟩ ∧
    frameB [AV_KZSTAT_BUSY 1, AV_KZCMD_RD 1, AV_KZCMD_ADDR 1, AV_KZCMD_DATA 1] [.regs, .av] r0 t ∧
    u.get (AV_KZSTAT_RESULT 1) = 3 ∧ u.get (AV_KZSTAT_BUSY 1) = 0 ∧
    frameB [AV_KZSTAT_RESULT 1, AV_KZCMD_RD 1, AV_KZCMD_ADDR 1, AV_KZCMD_DATA 1] [.regs] openWrite u := by decide +kernel

theorem test_kazq_frames :
    let k := fun (f : KazqFrame) => puts [(AV_KZSTAT_BUSY 2, 1)] (r0.modAv 2 (fun a => { a with kazq := { a.kazq with cur := some (f, 0) } }))
    let a := k ⟨true, 1, 0, false⟩
    let b := k ⟨false, 1, 77, false⟩
    let t := nx (.kazqFrameEnd 2 ⟨false, 513, true⟩) a
    let u := nx (.kazqFrameEnd 2 ⟨true, 0, false⟩) b
    let v := nx (.kazqFrameEnd 2 ⟨false, 0, false⟩) b
    t.get (AV_KZSTAT_DATA 2) = 513 ∧ t.get (AV_KZSTAT_BUSY 2) = 0 ∧ t.get (AV_KZSTAT_RESULT 2) = 0 ∧ (t.avn 2).kazq.cur = none ∧
    frameB [AV_KZSTAT_BUSY 2, AV_KZSTAT_RESULT 2, AV_KZSTAT_DATA 2] [.regs, .av] a t ∧
    (u.avn 2).kazq = { (b.avn 2).kazq with cur := none, wcur := some 77 } ∧
    frameB [AV_KZSTAT_BUSY 2, AV_KZSTAT_RESULT 2] [.regs, .av] b u ∧ 0 < b.get (AV_WRCTL_KRETRY 2) ∧
    (v.avn 2).kazq = { (b.avn 2).kazq with cur := some (⟨false, 1, 77, false⟩, 1) } ∧ untouchedB [.av] b v ∧
    (nx (.heaterSettleExpiry 2) (r0.modAv 2 (fun a => { a with kazq := { a.kazq with heating := true } }))).avn 2 = r0.avn 2 := by
  decide +kernel

/-- An identity descriptor of vendor 1, part 2, revision 3 with five faces and timing head 6, and its CRC. -/
def descriptor : List Byte :=
  let d : List Byte := [0, 1, 0, 2, 3, 0x56, 0, 1, 0, 0, 0, 9, 0, 1]
  d ++ beBytes 2 (crc16 d)

theorem test_discovery :
    let e : PreampEntry := ⟨1, 2, 0, 9, 0, 5⟩
    let s : State := r0.modAv 3 (fun a => { a with serialRec := some (identField descriptor 8 4) })
    let v : State := { s with preampTable := [e] }
    let t := nx (.preampDiscovery 3 ⟨true, [descriptor], false⟩) v
    let u := nx (.preampDiscovery 3 ⟨false, [], false⟩) r0
    identOk descriptor = true ∧ preampMatch [e] descriptor = some e ∧ v.get (AV_FMTCTL_NDATA 3) ≤ identField descriptor 5 1 / 16 ∧
    identField descriptor 12 2 = 1 ∧ t.get (AV_PASTAT_OUT 3) = 1 ∧ t.get (AV_PASTAT_REPL 3) = 0 ∧ t.get (AV_HMAP_H 3) = 5 ∧
    t.get (AV_HMAP_TMG 3) = 6 ∧ untouchedB [.regs] v t ∧ u.get (AV_PASTAT_OUT 3) = 2 ∧
    ⟨428 + 288 + 69, 0, 0, false⟩ ∈ u.flt.inbox ∧ u.get (AV_TLSTAT_STATE 3) = 0 := by decide +kernel

theorem test_wf_preamp : (Instr.kazqFrameEnd 0 ⟨true, 65536, true⟩).wf = false ∧
    (Instr.preampDiscovery 0 ⟨true, [[0]], true⟩).wf = false ∧ (Instr.preampDiscovery 0 ⟨true, [descriptor], true⟩).wf = true := by
  decide +kernel

/-! ### The sequencer -/

/-- Sequencer `n` running at address 0 with one microword there, its nanoword at 0 and some register words set. -/
def seqAt (n : Fin 4) (next alt cond mode nano : Nat) (l : List (Fld × Nat)) (s : State) : State :=
  let w := next * 2 ^ 28 + alt * 2 ^ 16 + cond * 4 + mode
  puts ([(AV_SEQSTAT_STATE n, 1), (⟨AV_UCODE n 0 0, 0, 32⟩, w % 2 ^ 32), (⟨AV_UCODE n 0 1, 0, 32⟩, w / 2 ^ 32),
    (⟨AV_NCODE n 0 1, 0, 32⟩, nano / 2 ^ 32 % 2 ^ 32), (⟨AV_NCODE n 0 2, 0, 32⟩, nano / 2 ^ 64 % 2 ^ 32),
    (⟨AV_NCODE n 0 3, 0, 32⟩, nano / 2 ^ 96 % 2 ^ 32), (AV_SEQTRAP_BASE n, 4000)] ++ l) s

theorem test_micro_branch :
    let s := seqAt 1 7 9 0 0 0 [] r0
    let t := nx (.microBranch 1 .clean 0) s
    let u := seqAt 1 7 9 3 0 0 [] r0
    let v := seqAt 1 7 9 0 0 (1 * 2 ^ 45) [] r0
    let w := nx (.microBranch 1 .clean 0) v
    let x := nx (.microBranch 1 .uncorrectable 0) s
    t.upc 1 = 9 ∧ t.seqState 1 = 1 ∧ frameB [AV_SEQSTAT_PC 1] [.regs] s t ∧ (nx (.microBranch 1 .clean 0) u).upc 1 = 7 ∧
    w.upc 1 = 4012 ∧ w.get (AV_SEQTRAP_TRAPPC 1) = 9 ∧ (w.seq 1).window = 7 ∧ (w.seq 1).saved = ⟨6, false, false, false⟩ ∧
    x.upc 1 = 4008 ∧ x.get (AV_SEQTRAP_CAUSE 1) = 2 ∧ x.get (AV_SEQTRAP_TRAPPC 1) = 0 ∧ added s x = [(428 + 96 + 81, 0)] ∧
    frameB [AV_SEQSTAT_PC 1, AV_SEQSTAT_STATE 1, AV_SEQTRAP_TRAPPC 1, AV_SEQTRAP_CAUSE 1] [.regs, .av, .flt] s x := by decide +kernel

theorem test_micro_call :
    let s := seqAt 1 7 9 0 1 0 [(AV_SEQSTAT_DEPTH 1, 2), (AV_SEQSTAT_RES 1, 2), (⟨AV_WINFILE 1 6 12, 0, 32⟩, 5), (⟨AV_WINFILE 1 2 3, 0, 32⟩, 8)] r0
    let t := nx (.microCall 1 .clean 0) s
    let f := s.put (AV_SEQSTAT_RES 1) 6
    let u := nx (.microCall 1 .clean 0) f
    t.upc 1 = 9 ∧ t.depth 1 = 3 ∧ t.resident 1 = 3 ∧ (t.seq 1).window = 2 ∧ t.rd (AV_WINFILE 1 2 15) = 7 ∧
    t.rd (AV_WINFILE 1 2 12) = 5 ∧ t.rd (AV_WINFILE 1 2 3) = 0 ∧
    frameB ([AV_SEQSTAT_PC 1, AV_SEQSTAT_DEPTH 1, AV_SEQSTAT_RES 1] ++ windowFlds 1 2) [.regs, .av] s t ∧ u.upc 1 = 4000 ∧
    u.get (AV_SEQTRAP_TRAPPC 1) = 0 ∧ u.get (AV_SEQTRAP_CAUSE 1) = 0 ∧ (u.seq 1).window = 7 ∧ u.get (AV_SEQCNT_OVF 1) = 1 ∧
    frameB [AV_SEQSTAT_PC 1, AV_SEQSTAT_STATE 1, AV_SEQTRAP_TRAPPC 1, AV_SEQTRAP_CAUSE 1, AV_SEQCNT_OVF 1] [.regs, .av] f u := by
  decide +kernel

theorem test_micro_return :
    let s := seqAt 1 7 9 0 2 0 [(AV_SEQSTAT_DEPTH 1, 3), (AV_SEQSTAT_RES 1, 2), (⟨AV_WINFILE 1 2 12, 0, 32⟩, 5),
      (⟨AV_WINFILE 1 2 15, 0, 32⟩, 77)] (av 1 (fun a => { a with seq := { a.seq with window := 2 } }) r0)
    let t := nx (.microReturn 1 .clean 0) s
    let h := seqAt 1 7 9 0 2 0 [(AV_SEQTRAP_TRAPPC 1, 55)] (av 1 (fun a => { a with seq := { a.seq with window := 7, saved := ⟨4, true, false, true⟩ } }) r0)
    let u := nx (.microReturn 1 .clean 0) h
    t.upc 1 = 77 ∧ t.depth 1 = 2 ∧ t.resident 1 = 1 ∧ (t.seq 1).window = 1 ∧ t.rd (AV_WINFILE 1 1 12) = 5 ∧
    frameB ([AV_SEQSTAT_PC 1, AV_SEQSTAT_DEPTH 1, AV_SEQSTAT_RES 1] ++ windowFlds 1 1) [.regs, .av] s t ∧
    u.upc 1 = 55 ∧ (u.seq 1).window = 4 ∧ (u.seq 1).zero = true ∧ (u.seq 1).flag = true ∧
    frameB [AV_SEQSTAT_PC 1, AV_SEQSTAT_STATE 1] [.regs, .av] h u := by decide +kernel

theorem test_micro_wait :
    let s := seqAt 1 7 9 0 3 0 [] r0
    let p := seqAt 1 7 9 4 3 (1 * 2 ^ 49) [] r0
    let w := nx (.microWait 1 .clean 0) p
    let x := nx (.seqWaitLimitExpiry 1) w
    let y := nx (.seqWaitResume 1) (puts [(AV_SEQSTAT_STATE 1, 2)] s)
    (nx (.microWait 1 .clean 0) s).upc 1 = 7 ∧ w.seqState 1 = 2 ∧ (w.seq 1).waitAlt = 9 ∧ frameB [AV_SEQSTAT_STATE 1] [.regs, .av] p w ∧
    (w.nano 1 (w.micro 1 0)).wlim = 1 ∧ x.upc 1 = 9 ∧ x.seqState 1 = 1 ∧ y.upc 1 = 7 ∧ y.seqState 1 = 1 ∧
    frameB [AV_SEQSTAT_PC 1, AV_SEQSTAT_STATE 1] [.regs] w x := by decide +kernel

theorem test_alu :
    let s := puts [(⟨AV_WINFILE 2 6 1, 0, 32⟩, 5), (⟨AV_WINFILE 2 6 2, 0, 32⟩, 33)] r0
    let x : AluArgs := ⟨3, 1, 2, false, 0⟩
    let g := fun (t : State) => t.rd (AV_WINFILE 2 6 3)
    let t := nx (.aluSub 2 x) s
    g (nx (.aluAdd 2 x) s) = 38 ∧ g t = -28 ∧ (t.seq 2).neg = true ∧ (t.seq 2).zero = false ∧
    frameB [⟨AV_WINFILE 2 6 3, 0, 32⟩] [.regs, .av] s t ∧ g (nx (.aluAnd 2 x) s) = 1 ∧ g (nx (.aluOr 2 x) s) = 37 ∧
    g (nx (.aluXor 2 x) s) = 36 ∧ g (nx (.aluShl 2 x) s) = 10 ∧ g (nx (.aluShr 2 x) s) = 2 ∧ g (nx (.aluMov 2 x) s) = 33 ∧
    (nx (.aluCmp 2 { x with rb := 1 }) s).regs = s.regs ∧ ((nx (.aluCmp 2 { x with rb := 1 }) s).seq 2).zero = true ∧
    (nx (.aluAdd 2 { x with rd := 15 }) s).regs = s.regs ∧ g (nx (.aluMov 2 { x with useImm := true, imm := 9 }) s) = 9 := by
  decide +kernel

theorem test_ports :
    let s := puts [(⟨AV_OMENTRY 2 4, 0, 32⟩, 0x80000123), (⟨AV_WINFILE 2 6 1, 0, 32⟩, 4)]
      (av 2 (fun a => { a with seq := { a.seq with entry := ⟨[11, 12, 13], false, false, none, none⟩, outcomes := [⟨.markMiss, true, 9⟩] } }) r0)
    let g := fun (t : State) => t.rd (AV_WINFILE 2 6 3)
    let t := nx (.outcomeRead 2 3) s
    let w := nx (.portWrite 2 0x14 1) s
    g (nx (.portRead 2 1 3 0) s) = 12 ∧ frameB [⟨AV_WINFILE 2 6 3, 0, 32⟩] [.regs] s (nx (.portRead 2 1 3 0) s) ∧
    g (nx (.portRead 2 0x20 3 1) s) = 0x80000123 ∧ g (nx (.portRead 2 0x13 3 1) { s with tim := ⟨0x500000006, false⟩ }) = 6 ∧
    g t = 0xD0000009 ∧ (t.seq 2).outcomes = [] ∧ untouchedB [.regs, .av] s t ∧ g (nx (.outcomeRead 2 3) t) = 0xFFFFFFFF ∧
    (nx (.outcomeRead 2 15) s).regs = s.regs ∧ ((nx (.outcomeRead 2 15) s).seq 2).outcomes = [] ∧
    (w.seq 2).svoCyl = 4 ∧ untouchedB [.av] s w ∧ ((nx (.portWrite 2 0x15 1) s).seq 2).svoOfs = 4 ∧
    ((nx (.flagSet 2) s).seq 2).flag = true ∧ nx (.flagClear 2) (nx (.flagSet 2) s) = s := by decide +kernel

/-- An entry of class `c` with a tag. -/
def entryOf (c tag : Nat) : RingEntry :=
  ⟨[BitVec.ofNat 32 (c * 2 ^ 22), 0, 0, BitVec.ofNat 32 tag] ++ List.replicate 12 0, true, false, none, none⟩

theorem test_rings :
    let a := nx (.avenueEntryWrite 1 2 false (entryOf 2 900)) r0
    let b := nx (.avenueEntryWrite 1 30 true (entryOf 0 7)) a
    let t := nx (.ringFetch 1) a
    let u := nx (.ringComplete 1 0) t
    let v := nx (.ringCompleteFetch 1 0) t
    let z := nx (.ringFetch 1) r0
    let full := r0.modSeq 1 (fun q => { q with winOther := 496 })
    (a.seq 1).rings.getD 2 [] = [entryOf 2 900] ∧ (a.seq 1).winUrgent = 1 ∧ (b.seq 1).rings.getD 30 [] = [entryOf 0 7] ∧
    (b.seq 1).winOther = 1 ∧ untouchedB [.av] a b ∧ (t.seq 1).entry = entryOf 2 900 ∧ (t.seq 1).entryLive = true ∧
    (t.seq 1).lastUrgent = 2 ∧ (t.seq 1).rings.getD 2 [] = [] ∧ (u.seq 1).posted = [(900, 0)] ∧ (u.seq 1).winUrgent = 0 ∧
    (u.seq 1).fetched = [] ∧ (v.seq 1).posted = [(900, 0)] ∧ (v.seq 1).entryLive = false ∧ untouchedB [.av] t v ∧
    (z.seq 1).entry.words = List.replicate 16 0 ∧ (z.seq 1).entryLive = false ∧
    nx (.avenueEntryWrite 1 30 false (entryOf 0 7)) full = full ∧ (Instr.avenueEntryWrite 1 30 false (entryOf 0 7)).wf = true ∧
    (Instr.avenueEntryWrite 1 30 false ⟨[], true, false, none, none⟩).wf = false := by decide +kernel

/-! ### The framer -/

/-- Avenue 1 with a small layout, its code and format accepted, at 7,200 rpm, settled on cylinder 3 and face 2, and an entry
for that track. -/
def ready : State := puts [(AV_FMTCTL_OK 1, 1), (AV_CODECTL_OK 1, 1), (SPN_SPEED_SPEED, 7372800), (SVO_STAT_STATE 1, 5),
    (SVO_STAT_TCYL 1, 3), (AV_FMTCYL_NCYL 1, 1000), (AV_TLSTAT_STATE 1, 3), (AV_HMAP_H 1, 0x43210), (AV_HMAP_TMG 1, 5),
    (AV_SKEW_SKEW 1 2 0 0, 77), (⟨AV_WINFILE 1 6 1, 0, 32⟩, 2), (AV_MARKSTAT_MISSES 1, 4),
    (SVO_STAT_WINH 1, 0), (AV_AFEGAIN_DGEN 1 0, 0), (AV_AFEGAIN_DGEN 1 1, 0), (AV_WRCTL_WFOLLOW 1, 0), (AV_DETCTL_ADAPT 1, 0), (AV_SKCTL_MARKFB 1, 0)]
  (av 1 (fun a => { a with layout := some (smallLayout 60000 |> fun l => { l with zones := l.zones.map (fun z => { z with cpr16 := 160000, spt := 60, w := 8, mthr := 4 }) }), seq := { a.seq with
    entry := ⟨[0x01400000, BitVec.ofNat 32 (3 * 1024 + 2 * 128), 0, 9, 0, 0, 0, 0, 0, 0, 0, 0, 0, 0, 0, 0], true, false, none, none⟩ } })
    (r0.modSv 1 (fun v => { v with face := 2 })))

theorem test_framer_open :
    let t := nx (.framerOpen 1) ready
    let u := nx (.framerOpen 1) (ready.put (AV_CODECTL_OK 1) 0)
    let v := nx (.framerOpen 1) (ready.put SPN_SPEED_SPEED 1)
    let w := nx (.framerOpen 1) t
    ready.rateOpen 1 0 = true ∧ ready.zoneOfCyl 1 3 = 0 ∧ ready.settledOn 1 3 2 = true ∧
    (t.seq 1).op.map (fun o => (o.cyl, o.face, o.zone, o.ended)) = some (3, 2, 0, 0) ∧ (t.reader 1 0).skew = 77 ∧
    untouchedB [.av] ready t ∧ (u.seq 1).op.map MediaOp.ended = some 3 ∧ (v.seq 1).op.map MediaOp.ended = some 1 ∧
    added ready v = [(428 + 96 + 25, 0)] ∧ (w.seq 1).op.map MediaOp.ended = some 14 ∧ untouchedB [.av] t w := by decide +kernel

/-- The track open and prepared for reading. -/
def opened : State := (nx (.framerOpen 1) ready).modOp 1 (fun o => { o with prepRead := true, prepWrite := true })

theorem test_arms :
    let t := nx (.armRead 1 1 true 50000) opened
    let u := nx (.armWrite 1 1 true 50000) opened
    let v := nx (.armWrite 1 1 true 50000) (opened.put (AV_WINHCTL_SWINH 1) 1)
    let w := nx (.armRead 1 1 true 0) (opened.modOp 1 (fun o => { o with prepRead := false }))
    (t.seq 1).arms.map (fun a => (a.slot, a.start, a.split)) = [(2, 88448, false)] ∧ untouchedB [.av] opened t ∧
    (nx (.armVerify 1 1 true 50000) opened |>.seq 1).arms.map Arm.kind = [.verify] ∧ opened.causes 1 = 0 ∧
    (u.seq 1).op.map MediaOp.taken = some true ∧ (u.seq 1).arms.map Arm.kind = [.write] ∧
    (v.seq 1).op.map MediaOp.ended = some 6 ∧ added opened v = [(428 + 96 + 73, 0)] ∧ (w.seq 1).op.map MediaOp.ended = some 14 ∧
    ((nx (.framerCancel 1) t).seq 1).arms = [] ∧ ((nx (.framerClose 1) t).seq 1).op.map MediaOp.closing = some true := by
  decide +kernel

theorem test_close :
    let s := (opened.modReader 1 1 (fun r => { r with skew := -5 })).modSv 1 (fun v => { v with face := 1 })
    let t := nx (.framerClose 1) s
    let v := s.put (AV_SKCTL_TRK 1) 0
    untouchedB [.av, .svo] v (nx (.framerClose 1) v) ∧ s.get (AV_SKCTL_TRK 1) = 1 ∧ s.get (AV_WRCTL_WFOLLOW 1) = 0 ∧ s.get (AV_DETCTL_ADAPT 1) = 0 ∧ (t.seq 1).op = none ∧ t.geti (AV_SKEW_SKEW 1 2 0 0) = 77 ∧
    t.geti (AV_SKEW_SKEW 1 2 1 0) = -5 ∧ frameB [AV_SKEW_SKEW 1 2 0 0, AV_SKEW_SKEW 1 2 1 0] [.regs, .av, .svo] s t := by
  decide +kernel

theorem test_slots :
    let s := nx (.armRead 1 1 true 50000) opened
    let i : SlotInput := { ready := false, block := [], entryOk := true, marks := [⟨3, 2, true, false⟩], magA := 0, magB := 0 }
    let t := nx (.slotStart 1 i) s
    let u := nx (.slotStart 1 { i with marks := [] }) s
    let e := nx (.slotEnd 1 []) t
    s.bothInvalid 1 = false ∧ s.get (AV_AFEGAIN_DGEN 1 0) = 0 ∧ s.get (AV_SKCTL_MARKFB 1) = 0 ∧
    (t.seq 1).slotRun.map (fun r => (r.marks, r.decode, r.align)) = some (true, true, 3) ∧ (t.seq 1).arms = [] ∧ untouchedB [.av] s t ∧
    (s.zoneNow 1 0).fly = false ∧ (u.seq 1).slotRun.map (fun r => (r.marks, r.decode)) = some (false, false) ∧
    u.get (AV_MARKSTAT_MISSES 1) = 5 ∧ added s u = [(428 + 96 + 26, 0)] ∧ (e.avn 1).decoding.map SectorRead.addr = [⟨3, 2, 2⟩] ∧
    (e.seq 1).slotRun = none ∧ (e.seq 1).lastEnd = 125472 ∧ untouchedB [.av] t e := by decide +kernel

theorem test_write_slots :
    let s := nx (.armWrite 1 1 true 50000) opened
    let i : SlotInput := { ready := true, block := [], entryOk := true, marks := [], magA := 0, magB := 0 }
    let t := nx (.slotStart 1 { i with ready := false }) s
    let w : State := s.modSeq 1 (fun q => { q with arms := [], slotRun := some ⟨⟨.write, 2, 88448, 125472, false, .zone, false⟩, false, true, true, 0⟩ })
    let d : State := (w.modSeq 1 (fun q => { q with arms := [⟨.write, 3, 125472, 162496, false, .zone, false⟩] })).modAv 1 (fun a => { a with wg := true })
    s.causes 1 = 0 ∧ s.flt.chip = none ∧ t.get (AV_WFCNT_SLIPW 1) = 1 ∧ t.get (AV_SEQCNT_LATE 1) = 1 ∧
    (t.seq 1).arms.map Arm.start = [88448 + 20480000] ∧ frameB [AV_WFCNT_SLIPW 1, AV_SEQCNT_LATE 1] [.regs, .av] s t ∧
    ((nx (.slotEnd 1 []) w).avn 1).wg = false ∧ ((nx (.slotEnd 1 []) w).seq 1).slotRun = none ∧
    ((nx (.slotEnd 1 []) d).avn 1).wg = true := by decide +kernel

theorem test_wf_slots : (Instr.slotStart 0 ⟨true, [1], true, [], 0, 0⟩).wf = false ∧
    (Instr.slotStart 0 ⟨true, [], true, [⟨0, 65, true, true⟩], 0, 0⟩).wf = false ∧ (Instr.slotEnd 0 [⟨0, 65, true, true⟩]).wf = false := by
  decide +kernel

theorem test_settings :
    let s := puts [(AV_AFESET_VGA 1 2 0 0, 90), (AV_AFESET_CUTOFF 1 2 0 1, 60), (AV_L2SET_CUTD 1 3, 9), (⟨AV_WINFILE 1 6 4, 0, 32⟩, 7)] opened
    let t := nx (.afeApply 1 1 4) s
    let u := nx (.afeApply 1 2 4) s
    t.get (AV_AFEGAIN_VGA 1 0) = 90 ∧ t.get (AV_AFECTF_CUTOFF 1 1) = 60 ∧ (t.reader 1 0).inv = 2 ∧ (t.reader 1 1).inv = 4 ∧ u.get (AV_AFECTF_CUTOFF 1 1) = 63 ∧
    frameB [AV_AFEGAIN_VGA 1 0, AV_AFEGAIN_VGA 1 1, AV_AFECTF_CUTOFF 1 0, AV_AFECTF_CUTOFF 1 1, AV_AFECTF_BOOST 1 0,
      AV_AFECTF_BOOST 1 1] [.regs, .av] s u ∧ ((nx (.dspSelect 1 2 4) s).seq 1).op.map MediaOp.dsp = some (.l2 3) ∧
    ((nx (.dspSelect 1 3 4) s).seq 1).op.map MediaOp.dsp = some (.l3 3) ∧
    ((nx (.markWindowSelect 1 1) s).seq 1).op.map MediaOp.l4 = some true ∧
    nx (.dspSelect 1 1 4) s = s := by decide +kernel

theorem test_prepare :
    let k := fun (z : Kazq) => opened.modAv 1 (fun a => { a with kazq := z })
    let z := (opened.avn 1).kazq
    let s := k { z with cur := some (⟨true, 9, 0, false⟩, 0) }
    let f := k { z with headsel := some 2, heater := some 0, wcur := some 0, wassist := some 0, failed := true }
    let b := opened.put (AV_HMAP_TMG 1) 2
    ((nx (.prepareRead 1) s).avn 1).kazq.seqQ = [⟨false, 0, 2, true⟩, ⟨false, 3, s.get (AV_WAT1_RHTR 1 2 0), true⟩] ∧
    ((nx (.prepareWrite 1) s).avn 1).kazq.seqQ.map KazqFrame.addr = [0, 3, 1, 2] ∧ untouchedB [.av] s (nx (.prepareWrite 1) s) ∧
    ((nx (.prepareWrite 1) f).avn 1).kazq = { (f.avn 1).kazq with failed := false } ∧
    ((nx (.prepareRead 1) b).seq 1).op.map MediaOp.ended = some 7 ∧ added b (nx (.prepareRead 1) b) = [(428 + 96 + 73, 0)] := by
  decide +kernel

theorem test_servo_actions :
    let s := opened.modSeq 1 (fun q => { q with svoCyl := 9, svoOfs := -3 })
    let t := nx (.servoSeekAction 1) s
    let u := nx (.servoMoveAction 1) s
    (-3 + s.hofs 1 2 (s.zoneOfCyl 1 9)).natAbs ≤ 127 ∧ t.svState 1 = 3 ∧ t.target 1 = 9 ∧ (t.svo.get 1).req = some 1 ∧
    (t.svo.get 1).ofs = -3 ∧ (t.svo.get 1).face = 2 ∧ t.get (SVO_STAT_ONTRK 1) = 0 ∧ t.get (SVO_STAT_WINH 1) = 1 ∧
    u.svState 1 = 4 ∧ u.target 1 = 3 ∧ (u.svo.get 1).ofs = -3 ∧ u.get (SVO_STAT_WINH 1) = 1 := by decide +kernel

theorem test_windows :
    let s := puts [(AV_SEQSTAT_DEPTH 1, 8), (AV_SEQSTAT_RES 1, 5), (⟨AV_WINFILE 1 3 9, 0, 32⟩, 88), (⟨AV_SPILL 1 2 4, 0, 32⟩, 66)]
      (r0.modSeq 1 (fun q => { q with window := 7 }))
    let t := nx (.windowSpill 1) s
    let u := nx (.windowFill 1) s
    let v := nx (.windowAbandon 1) s
    t.resident 1 = 4 ∧ t.rd (AV_SPILL 1 3 9) = 88 ∧
    frameB (AV_SEQSTAT_RES 1 :: (List.range 16).map (fun i => ⟨AV_SPILL 1 3 i, 0, 32⟩)) [.regs] s t ∧ u.resident 1 = 6 ∧
    u.rd (AV_WINFILE 1 2 4) = 66 ∧ frameB (AV_SEQSTAT_RES 1 :: windowFlds 1 2) [.regs] s u ∧ v.depth 1 = 0 ∧ v.resident 1 = 0 ∧
    (v.seq 1).window = 6 ∧ v.seqState 1 = 1 ∧ frameB [AV_SEQSTAT_DEPTH 1, AV_SEQSTAT_RES 1, AV_SEQSTAT_STATE 1] [.regs, .av] s v := by
  decide +kernel

/-- A command halts sequencer 1 with a fault code captured at a PC, and source 80. -/
def halts (c : Instr) (u : State) (code pc : Nat) : Bool :=
  let v := nx c u
  v.seqState 1 == 5 && v.get (AV_SEQFAULT_CODE 1) == code && v.get (AV_SEQFAULT_PC 1) == pc && added u v == [(428 + 96 + 80, 0)]

theorem test_traps_and_halts :
    let s := puts [(AV_SEQTRAP_BASE 1, 4090), (AV_SEQSTAT_PC 1, 70), (AV_SEQCTL_OMLIM 1, 3)] (r0.modSeq 1 (fun q => { q with owner := some 1 }))
    let t := nx (.softwareTrap 1 99) s
    t.upc 1 = 6 ∧ t.seqState 1 = 3 ∧ t.get (AV_SEQTRAP_TRAPPC 1) = 99 ∧ t.get (AV_SEQTRAP_CAUSE 1) = 3 ∧ (t.seq 1).window = 7 := by decide +kernel

theorem test_halts :
    let s := puts [(AV_SEQTRAP_BASE 1, 4090), (AV_SEQSTAT_PC 1, 70), (AV_SEQCTL_OMLIM 1, 3)] (r0.modSeq 1 (fun q => { q with owner := some 1 }))
    let t := nx (.softwareTrap 1 99) s
    halts (.halt 1) s 6 70 = true ∧ halts (.windowSpill 1) s 7 70 = true ∧
    halts (.softwareTrap 1 0) t 2 6 = true ∧ halts (.ownerTimeLimit 1) s 5 70 = true ∧
    halts (.windowSpill 1) (t.put (AV_SEQSTAT_DEPTH 1) 32) 3 6 = true := by decide +kernel

theorem test_halt_frame :
    let s := puts [(AV_SEQSTAT_PC 1, 70), (AV_SEQFAULT_VALID 1, 1), (AV_SEQFAULT_CODE 1, 2)] r0
    (nx (.halt 1) s).get (AV_SEQFAULT_CODE 1) = 2 ∧
    frameB [AV_SEQSTAT_STATE 1, AV_SEQCTL_RUN 1, AV_SEQFAULT_VALID 1, AV_SEQFAULT_CODE 1, AV_SEQFAULT_PC 1, AV_SEQFAULT_DEPTH 1]
      [.regs, .av, .flt] s (nx (.halt 1) s) ∧ nx (.ownerTimeLimit 1) r0 = r0 := by decide +kernel

theorem test_sequencer_control :
    let t := nx (.sequencerRun 1) (r0.put (AV_SEQSTAT_PC 1) 5)
    let w := seqAt 1 7 9 4 3 0 [(AV_SEQSTAT_STATE 1, 2)] r0
    let p := nx (.sequencerHold 1 true) w
    t.get (AV_SEQCTL_RUN 1) = 1 ∧ t.seqState 1 = 1 ∧ t.upc 1 = 0 ∧ (nx (.sequencerStop 1) t).seqState 1 = 0 ∧
    (nx (.sequencerStop 1) t).get (AV_SEQCTL_RUN 1) = 0 ∧ p.get (AV_SEQCTL_HOLD 1) = 1 ∧ p.seqState 1 = 4 ∧
    frameB [AV_SEQCTL_HOLD 1, AV_SEQSTAT_STATE 1] [.regs] w p ∧ (nx (.sequencerHold 1 false) p).seqState 1 = 2 ∧
    (nx (.sequencerHold 1 true) t).get (AV_SEQCTL_HOLD 1) = 1 ∧ (nx (.sequencerHold 1 true) t).seqState 1 = 1 := by decide +kernel

/-! ### The servo engines and the spindle -/

/-- Engine 1 in a state, on cylinder 3 of the small layout. -/
def servoIn (st : Nat) : State := ready.put (SVO_STAT_STATE 1) st

theorem test_seek_request :
    let r : SeekReq := ⟨false, 9, -4, 2⟩
    let t := nx (.seekRequest 1 r) (servoIn 4)
    let u := nx (.seekRequest 1 ⟨true, 0, 5, 1⟩) (servoIn 5)
    let f := nx (.seekRequest 1 r) (servoIn 7)
    t.svState 1 = 3 ∧ t.target 1 = 9 ∧ (t.svo.get 1).req = some 2 ∧ (t.svo.get 1).ofs = -4 ∧ t.get (SVO_STAT_WINH 1) = 1 ∧
    u.svState 1 = 4 ∧ (u.svo.get 1).ofs = 5 ∧ (u.svo.get 1).settleRun = 0 ∧ u.get (SVO_STAT_WINH 1) = 1 ∧ countedB (SVO_CNT0_SEEKFAIL 1) (servoIn 7) f ∧
    added (servoIn 7) f = [(812 + 32 + 5, 0)] ∧ frameB [SVO_CNT0_SEEKFAIL 1] [.regs, .av, .svo, .flt] (servoIn 7) f ∧
    r.wf = true ∧ (Instr.seekRequest 1 ⟨false, 2 ^ 22, 0, 0⟩).wf = false := by decide +kernel

theorem test_seek_limits :
    let t := nx (.seekTimeLimit 1) (servoIn 3)
    let s := servoIn 4
    let w := nx (.settleWarnExpiry 1) s
    let q := s.modSv 1 (fun v => { v with req := some 2 })
    let x := nx (.settleLimitExpiry 1) q
    t.svState 1 = 7 ∧ (t.svo.get 1).stage = .driving ∧ t.get (SVO_CNT0_SEEKFAIL 1) = 1 ∧ ⟨812 + 32 + 5, 0, 0, false⟩ ∈ t.flt.inbox ∧
    countedB (SVO_CNT0_SETLATE 1) s w ∧ added s w = [(812 + 32 + 4, 0)] ∧ frameB [SVO_CNT0_SETLATE 1] [.regs, .flt] s w ∧
    x.svState 1 = 4 ∧ (x.svo.get 1).req = none ∧ added q x = [(812 + 32 + 5, 0)] ∧ nx (.settleLimitExpiry 1) s = s := by decide +kernel

theorem test_command_period :
    let s := puts [(SVO_PROF_W2_IMAX 1 0, 1000), (SVO_PROF_W2_IMAX 1 1, 1000)]
      ((servoIn 5).modSv 1 (fun v => { v with fbV := 1200, fbM := -9000, nextV := 3, nextM := 4, stale := [] }))
    let t := nx (.commandPeriod 1) s
    let o := (t.svo.get 1).out
    s.coupled 1 = [] ∧ o.extractLsb' 40 2 = 1#2 ∧ o.extractLsb' 24 16 = 1000#16 ∧ o.extractLsb' 10 14 = BitVec.ofInt 14 (-8192) ∧
    o.extractLsb' 0 8 = crcBits (o.extractLsb' 8 34) ∧ t.get (SVO_CNT1_SATS 1) = 2 ∧ (t.svo.get 1).fbV = 3 ∧
    (t.svo.get 1).history.head? = some 1000 ∧ frameB [SVO_CNT1_SATS 1] [.regs, .svo] s t := by decide +kernel

/-- An in frame with ISENSE 5, VSENSE 6 and STAT, and its CRC. -/
def inFrame (stat : BitVec 4) : BitVec 42 :=
  let top : BitVec 34 := (5 : BitVec 12) ++ (6 : BitVec 12) ++ stat ++ (0 : BitVec 6)
  top ++ crcBits top

theorem test_drive_link :
    let s := (servoIn 5).modSv 1 (fun v => { v with badFrames := 3 })
    let b := nx (.driveLinkInFrame 1 (inFrame 0 ^^^ 1)) s
    let g := nx (.driveLinkInFrame 1 (inFrame 2)) s
    let f := nx (.driveLinkInFrame 1 (inFrame 8)) s
    countedB (SVO_CNT1_DLERR 1) s b ∧ (b.svo.get 1).badFrames = 4 ∧ added s b = [(812 + 32 + 6, 0)] ∧
    g.get (SVO_DLSTAT_ISENSE 1) = 5 ∧ g.get (SVO_DLSTAT_VSENSE 1) = 6 ∧ g.get (SVO_DLSTAT_STAT 1) = 2 ∧ (g.svo.get 1).badFrames = 0 ∧
    g.svState 1 = 5 ∧ ⟨812 + 32 + 7, 0, 0, false⟩ ∈ g.flt.inbox ∧ f.svState 1 = 10 := by decide +kernel

/-- Engine 1 in OFF with a profile that crosses two cylinders soon, and none of the checks of Table 7-6 failing. -/
def plannable : State := puts ([(SVO_STAT_STATE 1, 0), (AV_FMTCTL_OK 1, 1), (AV_FMTCYL_NCYL 1, 2), (SVO_STAT_LATCH 1, 1),
    (SVO_THR_STHR 1, 1), (SVO_THR_WRTHR 1, 2), (SVO_THR_RDTHR 1, 3), (SVO_SEEKCFG_VSW 1, 60000)]
  ++ ([0, 1] : List Nat).flatMap (fun m => [(SVO_PROF_W0_AMAX 1 m, 200), (SVO_PROF_W0_ADEC 1 m, 50), (SVO_PROF_W1_VMAX 1 m, 60000),
    (SVO_PROF_W1_JMAX 1 m, 60000), (SVO_PROF_W2_KFF 1 m, 1), (SVO_PROF_W2_IMAX 1 m, 1000)]))
  (av 1 (fun a => { a with layout := none }) ready)

theorem test_servo_enable :
    let s := plannable
    let b := s.put (AV_FMTCTL_OK 1) 0
    let t := nx (.servoEnable 1) s
    let u := nx (.servoEnable 1) (s.put (SVO_STAT_LATCH 1) 0)
    let e := nx (.servoEnable 1) b
    (s.putb (SVO_CTL_EN 1) true).enableCheck 1 = .inr (4, 4) ∧ t.get (SVO_CTL_EN 1) = 1 ∧ t.get (SVO_PLAN_ERR 1) = 0 ∧ t.svState 1 = 1 ∧ u.svState 1 = 7 ∧
    (b.putb (SVO_CTL_EN 1) true).enableCheck 1 = .inl 1 ∧ e.get (SVO_PLAN_ERR 1) = 1 ∧ e.svState 1 = 0 ∧
    added b e = [(812 + 32 + 15, 0)] ∧ frameB [SVO_CTL_EN 1, SVO_PLAN_ERR 1] [.regs, .flt] b e ∧
    (nx (.servoEnable 1) (servoIn 4)).get (SVO_CTL_EN 1) = 1 := by decide +kernel

theorem test_servo_disable :
    let s := (servoIn 4).modSv 1 (fun v => { v with req := some 2 })
    let t := nx (.servoDisable 1) s
    t.get (SVO_CTL_EN 1) = 0 ∧ t.svState 1 = 0 ∧ t.get (SVO_STAT_WINH 1) = 1 ∧ (t.svo.get 1).req = none ∧
    countedB (SVO_CNT0_SEEKFAIL 1) s t := by decide +kernel

theorem test_servo_load :
    let s := (servoIn 1).put SPN_STAT_READY 1
    let t := nx (.servoLoad 1) s
    let u := nx (.servoUnload 1) t
    let l := nx (.loadLimitExpiry 1) t
    t.svState 1 = 2 ∧ nx (.servoLoad 1) (servoIn 1) = servoIn 1 ∧ nx (.servoUnload 1) s = s ∧ u.svState 1 = 7 ∧
    (u.svo.get 1).stage = .driving ∧ l.svState 1 = 7 ∧ ⟨812 + 32 + 11, 0, 0, false⟩ ∈ l.flt.inbox := by decide +kernel

theorem test_idle :
    let s := (servoIn 5).put (SVO_IDLE_UNLDT 1) 4
    (s.seq 1).op = none ∧ (nx (.idleTimerExpiry 1) s).svState 1 = 6 ∧ (nx (.idleTimerExpiry 1) s).get (SVO_STAT_ONTRK 1) = 0 ∧
    (nx (.idleUnloadExpiry 1) s).svState 1 = 7 ∧ nx (.idleUnloadExpiry 1) (s.put (SVO_IDLE_UNLDT 1) 0) = s.put (SVO_IDLE_UNLDT 1) 0 := by
  decide +kernel

theorem test_latch :
    let s := (servoIn 5).put (SVO_STAT_LATCH 1) 0
    let t := nx (.latchDetEdge 1 true) s
    let d := s.put (SVO_STAT_STATE 1) 7
    let u := nx (.latchDetEdge 1 true) d
    t.get (SVO_STAT_LATCH 1) = 1 ∧ t.get (SVO_LATCHS_EDGE 1) = 1 ∧ t.get (SVO_LATCHS_VALID 1) = 1 ∧ t.get (SVO_LATCHS_COUNT 1) = 1 ∧
    t.get (SVO_LATCHS_EXPECT 1) = 0 ∧ added s t = [(812 + 32 + 9, 0)] ∧ u.get (SVO_LATCHS_EXPECT 1) = 1 ∧ u.flt = d.flt ∧
    (u.svo.get 1).stage = .edge ∧ frameB [SVO_STAT_LATCH 1, SVO_LATCHPOS_POS 1, SVO_LATCHT_TIME 1, SVO_LATCHS_EDGE 1,
      SVO_LATCHS_EXPECT 1, SVO_LATCHS_COUNT 1, SVO_LATCHS_VALID 1] [.regs, .svo, .flt] d u := by decide +kernel

theorem test_park :
    let d := (servoIn 7).modSv 1 (fun v => { v with stage := .driving })
    let e := (servoIn 7).modSv 1 (fun v => { v with stage := .edge })
    let r := nx (.unloadLimitExpiry 1) d
    let p := nx (.parkTimeExpiry 1) r
    let x := nx (.parkTimeExpiry 1) (e.put (SVO_STAT_STATE 1) 9)
    let q := nx (.recoverLimitExpiry 1) (servoIn 8)
    (nx (.parkTimeExpiry 1) e).svState 1 = 1 ∧ countedB (SVO_CNT1_UNLOADS 1) e (nx (.parkTimeExpiry 1) e) ∧ nx (.parkTimeExpiry 1) d = d ∧
    (r.svo.get 1).stage = .retract ∧ untouchedB [.svo] d r ∧ p.svState 1 = 1 ∧ ⟨812 + 32 + 10, 0, 0, false⟩ ∈ p.flt.inbox ∧
    x.svState 1 = 1 ∧ x.get (SVO_LATCHS_EUOK 1) = 1 ∧ ⟨812 + 32 + 18, 0, 0, false⟩ ∈ x.flt.inbox ∧ q.svState 1 = 7 ∧
    ⟨812 + 32 + 2, 0, 0, false⟩ ∈ q.flt.inbox := by decide +kernel

/-- The spindle in a state, with a motor whose checks of Table 8-5 hold. -/
def spindleIn (st : Nat) : State := puts [(SPN_STAT_STATE, st), (SPN_MOT0_POLEP, 4), (SPN_MOT0_RS, 100), (SPN_MOT0_PSI, 2000),
  (SPN_SCALE_ISC, 1000), (SPN_SCALE_VSC, 5000), (SPN_VBUS_VRET, 60), (SPN_VBUS_VBLO, 100), (SPN_VBUS_VBHI, 140), (SPN_VBUS_VBOV, 160),
  (SPN_STOP_BRKSPD, 100), (SPN_STRT_HANDOFF, 600), (SPN_FLY_RETMIN, 2000), (SPN_FLY_FLYMIN, 4000), (SPN_TQ_TQMAX, 900),
  (SPN_TQ_DECTQ, 800), (SPN_RET_TQRET, 700), (SPN_CUR_ISPIN, 200), (SPN_CUR_IPK, 300), (SPN_ADCLAST_VALUE 6, 240)] r0

theorem test_control_step_off : nx .spindleControlStep r0 = r0 := by decide +kernel

theorem test_control_step :
    let s := spindleIn 5
    let t := nx .spindleControlStep s
    let f := spindleIn 8
    let u := nx .spindleControlStep f
    (brakeCheck (targetActs (plausible (observerSpeed (observe s))))).spnState = 5 ∧ t.spn.vec = some 0 ∧ t.spn.fresh = [] ∧
    (brakeCheck (targetActs (plausible (observerSpeed (observe f))))).spnState = 8 ∧ u.spn.vec = none ∧ u.spn.fresh = [] := by
  decide +kernel

theorem test_control_step_run :
    let s := puts [(SPN_TARGET_TARGET, 7200), (SPN_STAT_EFF, 7200), (SPN_CTL_EN, 1)] (spindleIn 2)
    let u := brakeCheck (targetActs (plausible (observerSpeed (observe s))))
    let t := nx .spindleControlStep s
    u.spnState = 2 ∧ t.spn.vec = some (if (vbusWatch (torqueRef u)).1 then 0 else
      if t.spn.dtq = 0 then (if u.spn.vec = some 0 ∨ u.spn.vec = some 1 ∨ u.spn.vec = some 3 ∨ u.spn.vec = some 5 then 0 else 7)
      else vecAt (sector t.spn.theta) ((if t.spn.dpsi then 1 else 2) * t.spn.dtq)) ∧ t.spn.fresh = [] := by decide +kernel

theorem test_conversion :
    let s := r0
    let t := nx (.spindleConversion 1 4 99) s
    let l := (spindleIn 2).put SPN_STOP_VBLOCNT 1
    let u := nx (.spindleConversion 0 6 100) l
    t.get (SPN_ADCLAST_VALUE 4) = 99 ∧ t.get (SPN_ADCLAST_CH 4) = 4 ∧ t.get (SPN_ADCLAST_CONV 4) = 1 ∧ t.get (SPN_ADCLAST_SEQ 4) = 1 ∧
    4 ∈ t.spn.fresh ∧ frameB [SPN_ADCLAST_VALUE 4, SPN_ADCLAST_CH 4, SPN_ADCLAST_CONV 4, SPN_ADCLAST_GAIN 4, SPN_ADCLAST_SEQ 4]
      [.regs, .spn] s t ∧ l.get SPN_STAT_VBLOW = 0 ∧ u.get SPN_STAT_VBLOW = 1 ∧ added l u = [(946, 0)] := by decide +kernel

theorem test_overcurrent :
    let s := spindleIn 2
    let e : State := { s with spn := { s.spn with trips := [0, 0, 0, 0, 0, 0, 0] } }
    let t := nx (.overcurrentTrip 0) s
    let u := nx (.overcurrentTrip 0) e
    t.spn.vec = none ∧ countedB SPN_CNT_OCTRIPS s t ∧ added s t = [(944, 0)] ∧ t.spnState = 2 ∧
    frameB [SPN_CNT_OCTRIPS] [.regs, .spn, .flt] s t ∧ e.get PWR_START_STEP ≠ 9 ∧ u.spnState = 8 ∧ ⟨944, 0, 0, false⟩ ∈ u.flt.inbox ∧
    ⟨956, 0, 0, false⟩ ∈ u.flt.inbox := by decide +kernel

theorem test_spindle_enable :
    let s := spindleIn 0
    let t := nx .spindleEnable s
    let b := s.put SPN_MOT0_POLEP 0
    let u := nx .spindleEnable b
    s.spnCheck = 0 ∧ t.get SPN_CTL_EN = 1 ∧ t.spnState = 1 ∧ t.get (tdExpect 24) = 1 ∧ t.get SPN_STAT_ERR = 0 ∧
    frameB [SPN_CTL_EN, SPN_STAT_STATE, tdExpect 24, tdExpect 25] [.regs, .spn] s t ∧ b.spnCheck = 1 ∧ u.get SPN_STAT_ERR = 1 ∧
    u.spnState = 0 ∧ added b u = [(955, 0)] ∧ frameB [SPN_CTL_EN, SPN_STAT_ERR, tdExpect 24, tdExpect 25] [.regs, .flt] b u := by
  decide +kernel

theorem test_spindle_disable :
    let f := nx .spindleDisable ((spindleIn 8).put (tdExpect 24) 1)
    let s := puts [(SVO_STAT_STATE 1, 5), (SPN_STAT_READY, 1)] (spindleIn 2)
    let h := nx .spindleDisable s
    let d := nx .spindleDisable (spindleIn 2)
    let c := nx .spindleDisable (spindleIn 1)
    f.spnState = 0 ∧ f.get (tdExpect 24) = 0 ∧ s.allIdle = false ∧ h.spnState = 3 ∧ h.get SPN_STAT_READY = 0 ∧ added s h = [(949, 0)] ∧
    (spindleIn 2).allIdle = true ∧ d.spnState = 4 ∧ c.spnState = 0 := by decide +kernel

theorem test_spindle_kill :
    let s := puts [(SVO_STAT_STATE 1, 5), (SVO_STAT_STATE 2, 1)] (spindleIn 2)
    let t := nx .spindleKill s
    t.spnState = 0 ∧ t.spn.vec = none ∧ t.svState 1 = 7 ∧ t.svState 2 = 1 := by decide +kernel

theorem test_spindle_target :
    let s := puts [(SPN_CTL_EN, 1), (SVO_STAT_STATE 1, 5)] (spindleIn 2)
    let t := nx (.spindleTargetWrite 12000) s
    let u := nx (.spindleTargetWrite 3000) s
    s.get SPN_CEIL_VALID = 0 ∧ t.get SPN_TARGET_TARGET = 12000 ∧ t.get SPN_STAT_EFF = 10800 ∧ t.spnState = 2 ∧
    frameB [SPN_TARGET_TARGET, SPN_STAT_EFF, SPN_STAT_CEILLIM] [.regs] s t ∧ u.spnState = 3 ∧ u.get SPN_STAT_EFF = 3000 ∧
    added s u = [(949, 0)] := by decide +kernel

/-- A consistent measurement at 7,200 rpm whose flux is the magnet's, at 2 mWb. -/
def goodEmf : EmfMeasure := ⟨true, 0, F32.ofInt 7200, F32.ofRatio 2000 1000000, F32.ofInt 1⟩

theorem test_spindle_resync :
    let s := spindleIn 6
    let r : State := puts [(SPN_PLAUS_FLUXTOL, 64)] { s with spn := { s.spn with from_ := 2 } }
    let t := nx (.resyncMeasureEnd goodEmf) r
    let b : EmfMeasure := { goodEmf with consistent := false }
    let u := nx (.resyncMeasureEnd b) (s.put SPN_PLAUS_RSMAX 3)
    let v := nx (.resyncMeasureEnd b) (s.put SPN_PLAUS_RSMAX 1)
    r.measureOk goodEmf = true ∧ t.spnState = 2 ∧ t.flt = r.flt ∧ s.measureOk b = false ∧ u.spnState = 6 ∧
    added (s.put SPN_PLAUS_RSMAX 3) u = [(942, 0)] ∧ v.spnState = 8 ∧ ⟨942, 0, 0, false⟩ ∈ v.flt.inbox ∧
    ⟨956, 0, 0, false⟩ ∈ v.flt.inbox := by decide +kernel

theorem test_start_catch :
    let s := puts [(SPN_SPEED_WEDGE, 1), (SPN_SPEED_SPEED, 7372800), (SPN_PLAUS_FLUXTOL, 64)] (spindleIn 1)
    let t := nx (.startCatchEnd goodEmf) s
    let u := nx (.startCatchEnd { goodEmf with speed := F32.ofInt 100 }) s
    let v := nx (.startCatchEnd { goodEmf with consistent := false }) s
    s.measureOk goodEmf = true ∧ t.spnState = 2 ∧ t.spn.omega = s.speedRpm ∧ u.spn.catchBrake = true ∧ v.get SPN_STAT_SUB = 1 ∧
    frameB [SPN_STAT_SUB] [.regs] s v := by decide +kernel

theorem test_start_phases :
    let s := (spindleIn 1).put SPN_STAT_SUB 1
    let t := nx .prechargeEnd s
    let u := nx .alignEnd t
    let w : State := { u with spn := { u.spn with retryWait := true } }
    let l := u.put SPN_CTL_EN 1
    let f := nx .spinTimeLimit l
    let r : State := { l with spn := { l.spn with inBand := true } }
    let y := nx .readyTimeExpiry r
    t.get SPN_STAT_SUB = 2 ∧ u.get SPN_STAT_SUB = 3 ∧ (nx .startRetryExpiry w).get SPN_STAT_SUB = 0 ∧
    (nx .startRetryExpiry w).spn.retryWait = false ∧ f.spnState = 8 ∧ ⟨956, 0, 0, false⟩ ∈ f.flt.inbox ∧
    y.get SPN_STAT_READY = 1 ∧ y.spn.wasReady = true ∧ added r y = [(950, 0)] ∧ nx .spinTimeLimit y = y := by decide +kernel

theorem test_stops :
    let h := puts [(SVO_STAT_STATE 1, 5)] (spindleIn 3)
    let b := spindleIn 5
    let c : State := { spindleIn 1 with spn := { (spindleIn 1).spn with catchBrake := true, vec := some 0 } }
    (nx .holdTimeExpiry h).svState 1 = 7 ∧ (nx .brakeEnd b).spnState = 0 ∧ (nx .brakeEnd b).spn.vec = none ∧
    (nx .brakeEnd c).spn = { c.spn with catchBrake := false, vec := none } := by decide +kernel

theorem test_spin_cmd :
    let m := fun (k : Nat) => (spindleIn 2).put SPN_CEIL_MODE k
    let a := nx (.spinCmdWindow (.volts [800000])) (m 1)
    let e := nx (.spinCmdWindow (.volts [])) (m 1)
    nx (.spinCmdWindow (.volts [800000])) (m 0) = m 0 ∧ a.get SPN_CEIL_CEIL = 7200 ∧ a.get SPN_CEIL_VALID = 1 ∧
    (nx (.spinCmdWindow (.volts [2000000])) (m 1)).get SPN_CEIL_CEIL = 10800 ∧
    (nx (.spinCmdWindow (.duty [(500, 1000)] none)) (m 2)).get SPN_CEIL_CEIL = 5400 ∧
    (nx (.spinCmdWindow (.freq [50000])) (m 3)).get SPN_CEIL_CEIL = 8000 ∧ e.get SPN_CEIL_ERR = 1 ∧ added (m 1) e = [(948, 0)] ∧
    frameB [SPN_CEIL_ERR] [.regs, .spn, .flt] (m 1) e ∧ (Instr.spinCmdWindow (.volts [])).wf = false ∧
    (Instr.spinCmdWindow (.duty [(2, 1)] none)).wf = false ∧ (Instr.spinCmdWindow (.freq [0])).wf = false := by decide +kernel

/-! ### The Square -/

/-- The Square ready with 100 pages and no reserve. -/
def square : State := puts [(SQR_STAT_READY, 1), (SQR_STAT_NPAGES, 100), (SQR_PAGECFG_FREELOW, 0), (SQR_PAGECFG_URGRES, 0),
  (SQR_DRAIN_EPOCH, 9), (SQR_WIN_WIN, 1), (SQR_PAGECFG_PROTPCT, 80)] r0

/-- A page of a key of tenancy 5 and namespace 0. -/
def pageOf (st : PageSt) (lba : Nat) : Page :=
  { freePage with st := st, key := ⟨some 5, 0, lba⟩, indexed := true, data := [1, 2], pmeta := [3], ecrc := entryCheck [1, 2] [3] }

/-- Page 3 in a state. -/
def withPage (g : Page) : State := square.setPage 3 g

def readOf (lba : Nat) (cls : Nat) : LookupArgs :=
  { client := .host (some 5), ten := some 5, ns := 0, lba := lba, page := none, dram := .clean, stream := none, req := ⟨some 8, cls, 6, 0⟩ }

def placeOf (lba : Nat) : PlaceArgs :=
  { client := .host (some 5), ten := some 5, ns := 0, lba := lba, data := [7], pmeta := [8], tag := none, page := none, close := [], parity := [] }

theorem test_square_off : nx (.squareReadLookup (readOf 1 1)) r0 = r0 := by decide +kernel

theorem test_read_hit :
    let s := withPage (pageOf .dirty 40)
    let t := nx (.squareReadLookup (readOf 40 1)) s
    s.findPage ⟨some 5, 0, 40⟩ = some 3 ∧ t.page 3 = { s.page 3 with ref := true, pins := 1 } ∧
    t.sqr = { s.sqr with pages := t.sqr.pages } ∧ untouchedB [.sqr] s t := by decide +kernel

theorem test_read_miss :
    let s := withPage (pageOf .dirty 40)
    let t := nx (.squareReadLookup (readOf 41 1)) s
    let e := s.put SQR_STAT_NPAGES 0
    let u := nx (.squareReadLookup (readOf 41 1)) e
    s.lookupKey ⟨some 5, 0, 41⟩ = .miss ∧ (s.takePage false).map Prod.fst = some 0 ∧ (t.page 0).st = .fill ∧
    (t.page 0).key = ⟨some 5, 0, 41⟩ ∧ t.sqr.fills = [⟨0, (readOf 41 1).req, false, []⟩] ∧ untouchedB [.sqr] s t ∧
    (e.takePage false).isNone = true ∧ u.sqr.waits = [.fill ⟨some 5, 0, 41⟩ (readOf 41 1).req false []] ∧
    countedB SQR_CNT1_ALLOCWAITS e u ∧ added e u = [(205, 0)] ∧ frameB [SQR_CNT1_ALLOCWAITS] [.regs, .sqr, .flt] e u := by
  decide +kernel

theorem test_tenancy_refused :
    let s := square
    let t := nx (.squareReadLookup { readOf 1 1 with client := .host none }) s
    let u := nx (.placement { placeOf 1 with ten := some 6 }) s
    t.get SQR_CNT0_TVIOL = 1 ∧ t.get SQR_TVCAP_VALID = 1 ∧ t.get SQR_TVCAP_WRITE = 0 ∧ t.get SQR_TVCAP_TENV = 0 ∧
    t.get SQR_TVCAP_PAGE = 0x3FFFFF ∧ added s t = [(204, 0)] ∧
    frameB [SQR_CNT0_TVIOL, SQR_TVCAP_VALID, SQR_TVCAP_WRITE, SQR_TVCAP_TENV, SQR_TVCAP_TEN, SQR_TVCAP_PAGE] [.regs, .flt] s t ∧
    u.get SQR_CNT0_TVIOL = 1 ∧ u.get SQR_TVCAP_WRITE = 1 ∧ u.get SQR_TVCAP_TEN = 5 ∧ added s u = [(204, 0)] ∧
    frameB [SQR_CNT0_TVIOL, SQR_TVCAP_VALID, SQR_TVCAP_WRITE, SQR_TVCAP_TENV, SQR_TVCAP_TEN, SQR_TVCAP_PAGE] [.regs, .flt] s u := by
  decide +kernel

theorem test_fill_end :
    let s := (withPage (pageOf .fill 40)).modSqr (fun q => { q with fills := [⟨3, ⟨some 8, 1, 6, 0⟩, false, []⟩] })
    let t := nx (.fillEnd 3 (.data [5, 6] [7])) s
    let u := nx (.fillEnd 3 (.failed 2 129 0)) s
    (t.page 3).st = .clean ∧ (t.page 3).data = [5, 6] ∧ (t.page 3).ecrc = crc32c [5, 6, 7] ∧ t.sqr.probation = [3] ∧ t.sqr.fills = [] ∧
    untouchedB [.sqr] s t ∧ u.page 3 = freePage ∧ u.sqr.freed = [3] ∧ u.sqr.readEnds = [(8, 40, 2, 129, 0)] ∧ untouchedB [.sqr] s u := by
  decide +kernel

theorem test_transfer_end :
    let s := withPage { pageOf .clean 40 with pins := 2 }
    let t := nx (.pageTransferEnd 3) s
    let w := withPage { pageOf .clean 40 with pins := 1, superseded := true }
    let u := nx (.pageTransferEnd 3) w
    t.page 3 = { s.page 3 with pins := 1 } ∧ untouchedB [.sqr] s t ∧ u.page 3 = freePage ∧ u.sqr.freed = [3] ∧ untouchedB [.sqr] w u := by
  decide +kernel

theorem test_allocation_resume :
    let w : AllocWait := .fill ⟨some 5, 0, 41⟩ ⟨some 8, 1, 6, 0⟩ false []
    let s := square.modSqr (fun q => { q with waits := [w] })
    let t := nx .allocationResume s
    s.sqr.waits.find? (fun w => s.waitReady w) = some w ∧ s.lookupKey ⟨some 5, 0, 41⟩ = .miss ∧ t.sqr.waits = [] ∧
    (t.page 0).st = .fill ∧ (t.page 0).key = ⟨some 5, 0, 41⟩ ∧ t.sqr.fills = [⟨0, ⟨some 8, 1, 6, 0⟩, false, []⟩] ∧ untouchedB [.sqr] s t := by
  decide +kernel

theorem test_placement :
    let s := withPage { pageOf .dirty 40 with epoch := 4 }
    let t := nx (.placement (placeOf 41)) s
    let u := nx (.placement (placeOf 40)) s
    (t.page 0).st = .dirty ∧ (t.page 0).j = false ∧ (t.page 0).data = [7] ∧ (t.page 0).pmeta = [8] ∧ (t.page 0).epoch = 9 ∧
    t.page 3 = s.page 3 ∧ untouchedB [.sqr] s t ∧ (u.page 0).epoch = 4 ∧ (u.page 0).data = [7] ∧ u.page 3 = freePage ∧ untouchedB [.sqr] s u := by
  decide +kernel

/-- 256 undurable pages: the window of 1 MiB is full. -/
def fullWindow : State := square.modSqr (fun q => { q with pages := (List.range 256).map (fun i => (1000 + i, pageOf .dirty (1000 + i))) })

theorem test_placement_held :
    let h := square.modSqr (fun q => { q with lossHold := true })
    let a := placeOf 41
    let t := nx (.placement a) fullWindow
    (nx (.placement a) h).sqr.held = [a] ∧ untouchedB [.sqr] h (nx (.placement a) h) ∧ fullWindow.winPages = 256 ∧
    t.sqr.held = [a] ∧ countedB SQR_CNT1_WINHOLDS fullWindow t ∧ added fullWindow t = [(206, 0)] ∧
    nx .placementRelease t = t := by decide +kernel

theorem test_placement_release :
    let s := square.modSqr (fun q => { q with held := [{ placeOf 41 with client := .media, ten := none }] })
    let t := nx .placementRelease s
    t.sqr.held = [] ∧ (t.page 0).st = .dirty ∧ (t.page 0).data = [7] ∧ (t.page 0).j = false ∧ untouchedB [.sqr] s t := by decide +kernel

theorem test_wf_square : (Instr.squareReadLookup { readOf 1 3 with page := none }).wf = false ∧
    (Instr.squareReadLookup { readOf 1 1 with req := ⟨some 16384, 1, 0, 0⟩ }).wf = false ∧ (Instr.squareReadLookup (readOf 1 1)).wf = true ∧
    (Instr.fillEnd 0 (.data [1] [])).wf = false ∧ (Instr.fillEnd 0 (.failed 8 0 0)).wf = false ∧ (Instr.placement (placeOf 1)).wf = false ∧
    (Instr.gatherTimeout 0 0 false [⟨384, none⟩] []).wf = false ∧ (Instr.gatherTimeout 0 0 false [] [⟨128, false⟩]).wf = false ∧
    (Instr.gatherTimeout 0 0 false [⟨0, some ([], [])⟩] []).wf = false := by decide +kernel

/-- An open group of stripe 2 of region 1 that holds its 384 blocks. -/
def fullGroup : Group := ⟨1, 2, false, 0, (List.range 384).map (fun i => (i, 2000 + i)), [], [], false, false⟩

theorem test_gather_timeout :
    let s := (square.put SQR_STAT_NPAGES 400).modSqr (fun q => { q with groups := [fullGroup] })
    s.openGroup 1 2 false = some fullGroup ∧ s.sqr.lossHold = false ∧ 128 + 256 * s.get SQR_PAGECFG_URGRES ≤ s.evict.freePages ∧
    nx (.gatherTimeout 1 3 false [] []) s = s ∧
    nx (.gatherTimeout 1 2 false [] []) (s.modSqr (fun q => { q with lossHold := true })) =
      s.modSqr (fun q => { q with lossHold := true }) := by decide +kernel

theorem test_full_group : ∀ i, i < 384 → ∃ m ∈ fullGroup.members ++ fullGroup.extra, m.1 = i :=
  fun i h => ⟨(i, 2000 + i), by simp [fullGroup, h], rfl⟩

theorem test_media_write_end :
    let s := withPage { pageOf .destage 40 with left := 1 }
    let w := withPage { pageOf .destage 40 with left := 2 }
    let t := nx (.mediaWriteEnd 3 true) s
    let u := nx (.mediaWriteEnd 3 false) s
    let v := nx (.mediaWriteEnd 3 true) w
    (t.page 3).st = .clean ∧ t.sqr.probation = [3] ∧ untouchedB [.sqr] s t ∧ (u.page 3).st = .dirty ∧ untouchedB [.sqr] s u ∧
    (v.page 3).st = .destage ∧ (v.page 3).left = 1 ∧ untouchedB [.sqr] w v := by decide +kernel

theorem test_journal_end :
    let s := withPage { pageOf .dirty 40 with epoch := 4 }
    let t := nx (.journalProgramEnd 3 true) s
    (s.page 3).unjournaled = true ∧ t.page 3 = { s.page 3 with j := true } ∧
    t.sqr.journal = [⟨⟨some 5, 0, 40⟩, 4, [1, 2], [3], none, none⟩] ∧ untouchedB [.sqr, .pwr] s t ∧ nx (.journalProgramEnd 3 false) s = s := by
  decide +kernel

theorem test_drains :
    let s := puts [(SQR_DRAIN_DRMODE, 0)] (withPage { pageOf .dirty 40 with epoch := 9 })
    let t := nx .drainRequest s
    let f := s.modSqr (fun q => { q with drains := List.replicate 255 ⟨0, 0, 0⟩, nextDrain := 7 })
    let w := nx .drainRequest f
    let d := t.modPage 3 (fun g => { g with j := true })
    let e := nx .drainEnd d
    let l := t.modSqr (fun q => { q with journalQ := [] })
    let x := nx .drainJournalFallback l
    t.get SQR_DRAIN_EPOCH = 10 ∧ t.sqr.drains = [⟨0, 9, 0⟩] ∧ t.sqr.nextDrain = 1 ∧ t.sqr.journalQ = [3] ∧
    frameB [SQR_DRAIN_EPOCH] [.regs, .sqr] s t ∧ w.sqr = { f.sqr with nextDrain := 8, drainWait := [7] } ∧ added f w = [(217, 0)] ∧
    nx .drainEnd t = t ∧ e.sqr = { d.sqr with drains := [] } ∧ e.get SQR_DRAIN_OLDEST = 10 ∧ frameB [SQR_DRAIN_OLDEST] [.regs, .sqr] d e ∧
    nx .drainJournalFallback t = t ∧ x.sqr.journalQ = [3] ∧ added l x = [(209, 0)] := by decide +kernel

theorem test_locks :
    let c : LockClient := .core 2
    let a := nx (.lockAcquire 7 c) r0
    let b := nx (.lockAcquire 7 .arcade) a
    let d := nx (.lockRelease 7 c) a
    let e := nx (.lockRelease 7 .arcade) a
    let n := nx (.lockResetNotice c) a
    let o := nx (.lockAcquire 7 .arcade) n
    let id := ownerId c
    a.bus.rdata = BitVec.ofNat 32 id ∧ (a.lock 7).owner = id ∧ untouchedB [.sqr, .bus] r0 a ∧
    (nx (.lockAcquire 7 c) a).bus.rdata = BitVec.ofNat 32 (4 * 2 ^ 29 + id) ∧ b.bus.rdata = BitVec.ofNat 32 (2 ^ 29 + id) ∧
    (d.lock 7).owner = 0 ∧ e.get SQR_CNT2_LOCKERR = 1 ∧ added a e = [(214, 0)] ∧ n.lock 7 = ⟨0, true, id, false⟩ ∧
    ⟨212, 0, 0, false⟩ ∈ n.flt.inbox ∧ o.bus.rdata = BitVec.ofNat 32 (2 * 2 ^ 29 + id * 256 + ownerId .arcade) ∧
    (nx (.lockClearOrphaned 7 .arcade) o).lock 7 = { o.lock 7 with orphaned := false } := by decide +kernel

theorem test_lock_warn :
    let a := (nx (.lockAcquire 7 (.core 2)) r0).put SQR_LOCKCFG_LOCKWARN 1
    let w := nx (.lockHoldWarn 7) a
    (a.lock 7).warned = false ∧ w.lock 7 = { a.lock 7 with warned := true } ∧ added a w = [(213, 0)] ∧ untouchedB [.sqr, .flt] a w := by
  decide +kernel

theorem test_square_init :
    let s := puts [(SQR_DRAMCFG_SIZE, 0), (SQR_PAGECFG_FW16, 4), (PWR_START_DRAMOK, 1)] r0
    let t := nx .squareInit s
    let b := (7 * 2 ^ 29 - 4 * 2 ^ 24) / 4096
    let n := t.get SQR_STAT_NPAGES
    s.initCheck = 0 ∧ s.get PWR_START_STEP ≠ 5 ∧ t.get SQR_STAT_READY = 1 ∧ n + (32 * n + 4095) / 4096 ≤ b ∧
    b < n + 1 + (32 * (n + 1) + 4095) / 4096 ∧ frameB [SQR_STAT_READY, SQR_STAT_ERR, SQR_STAT_NPAGES] [.regs, .sqr] s t := by decide +kernel

theorem test_square_init_refused :
    let s := square
    let t := nx .squareInit s
    s.initCheck ≠ 0 ∧ t.get SQR_STAT_ERR = s.initCheck ∧ added s t = [(215, 0)] ∧ frameB [SQR_STAT_ERR] [.regs, .flt] s t := by decide +kernel

/-! ### The flash store -/

/-- An entry of ring 3 for die 1, block 500, page `p`, with a tag. -/
def flashEntryOf (p : Nat) : FlashEntry :=
  { ring := 3, valid := true, pair := false, count := 0, mref := 0, typ := 1, tag := 9, psa := BitVec.ofNat 25 (2 ^ 24 + 500 * 4096 + 8 * p)
    data := [], pmeta := [] }

/-- Die 1 with a job running. -/
def flashRuns (op : FlashOp) : State :=
  r0.modDie 1 (fun x => { x with run := some ⟨op, flashEntryOf 0⟩, blocks := [(500, ⟨0, 3, 0, []⟩)] })

theorem test_flash_start :
    let s := r0.modDie 1 (fun x => { x with blocks := [(500, ⟨0, 3, 0, []⟩)] })
    let c := [Instr.flashRead (flashEntryOf 0), .flashProgram (flashEntryOf 0), .flashMread (flashEntryOf 0)]
    let e := nx (.flashErase (flashEntryOf 0)) s
    let q := nx (.flashRead (flashEntryOf 0)) (flashRuns .read)
    c.all (fun i => ((nx i s).die 1).run.isSome && (nx i s).get FLS_STAT_IDLE == 0 && frameB [FLS_STAT_IDLE, FLS_BBT_GROWN 1, FLS_BBT_FACTORY 1] [.regs, .fls] s (nx i s)) = true ∧
    (e.die 1).erasing = some ⟨⟨.erase, flashEntryOf 0⟩, 0, 0, false⟩ ∧ (e.die 1).run = none ∧
    (q.die 1).queue = [⟨.read, flashEntryOf 0⟩] ∧ q.fls.posted = [] := by decide +kernel

/-- The completion that an entry ends with at once. -/
def flashEnds (c : Instr) (s : State) (st : Nat) (evs : List (Nat × Nat)) : Bool :=
  let t := nx c s
  t.fls.posted == [⟨3, 9, st, 0, [], []⟩] && t.get FLS_ERRCAP_VALID == 1 && t.get FLS_ERRCAP_STATUS == st && added s t == evs &&
    t.get FLS_ERRCAP_PSA == (flashEntryOf 0).psa.toNat && frameB [FLS_ERRCAP_VALID, FLS_ERRCAP_STATUS, FLS_ERRCAP_PSA] [.regs, .fls, .flt] s t

theorem test_flash_refused :
    let e := flashEntryOf 0
    let boot : FlashEntry := { e with psa := BitVec.ofNat 25 (2 ^ 24 + 2 * 4096) }
    flashEnds (.flashRead { e with count := 7, psa := e.psa + 1 }) r0 0x0D [(980, 0)] = false ∧
    flashEnds (.flashRead { e with valid := false }) r0 0x0D [(980, 0)] = true ∧ (nx (.flashErase boot) r0).fls.posted.map FlashDone.status = [0x0B] ∧
    flashEnds (.flashRead e) (r0.put FLS_STAT_COMMIT 1) 8 [] = true ∧ flashEnds (.flashMread e) (r0.put FLS_STAT_BAND 2) 12 [] = true := by
  decide +kernel

theorem test_flash_reads :
    let x : FlashSector := ⟨[1, 2], [3], 7, 1, sectorCrc [1, 2] [3] 7 1⟩
    let s := (flashRuns .read).modDie 1 (fun y => { y with blocks := [(500, ⟨1, 3, 0, [(0, [x])]⟩)] })
    let r : FlashResult := ⟨[30], true, false, 0⟩
    let t := nx (.flashOperationEnd 1 r) (s.put FLS_MARGIN_REFTHR 40)
    let u := nx (.flashOperationEnd 1 r) (s.put FLS_MARGIN_REFTHR 20)
    let v := nx (.flashOperationEnd 1 { r with bits := [113] }) s
    let w := nx (.flashOperationEnd 1 { r with erased := true }) s
    t.fls.posted = [⟨3, 9, 0, 30, [1, 2], [3]⟩] ∧ (t.die 1).run = none ∧ t.flt = s.flt ∧ u.fls.posted = [⟨3, 9, 1, 30, [1, 2], [3]⟩] ∧
    added s u = [(967, 0)] ∧ u.get FLS_CNT0_CORRHI = 1 ∧ v.fls.posted = [⟨3, 9, 2, 0, [], [3]⟩] ∧ added s v = [(966, 0)] ∧
    ((v.die 1).block 500).uncorr = 1 ∧ w.fls.posted = [⟨3, 9, 3, 0, [], []⟩] := by decide +kernel

theorem test_flash_program :
    let s := flashRuns .program
    let t := nx (.flashOperationEnd 1 ⟨[], true, false, 0⟩) s
    let u := nx (.flashOperationEnd 1 ⟨[], false, false, 0⟩) s
    4 ≤ (s.die 1).area 500 ∧ ((t.die 1).block 500).ptr = 1 ∧ ((t.die 1).block 500).erases = 3 ∧ t.fls.seq = 1 ∧
    (KMap.get (fun _ => []) ((t.die 1).block 500).pages 0).map FlashSector.seq = List.replicate 8 0 ∧ t.fls.posted = [⟨3, 9, 0, 0, [], []⟩] ∧
    ((u.die 1).block 500).ptr = 512 ∧ (u.die 1).grown = [⟨500, .program, 0⟩] ∧ added s u = [(969, 0), (964, 0)] ∧
    u.fls.posted = [⟨3, 9, 4, 0, [], []⟩] := by decide +kernel

theorem test_flash_erase :
    let k : EraseRun := ⟨⟨.erase, { flashEntryOf 0 with psa := BitVec.ofNat 25 (2 ^ 24 + 200 * 4096) }⟩, 0, 0, false⟩
    let s := r0.modDie 1 (fun x => { x with erasing := some k, blocks := [(200, ⟨5, 3, 0, []⟩)] })
    let t := nx (.flashOperationEnd 1 ⟨[], true, false, 0⟩) s
    let q := s.modDie 1 (fun x => { x with queue := [⟨.read, flashEntryOf 0⟩] })
    let u := nx (.eraseSuspend 1) (puts [(FLS_SUSP_SUSPRD, 2), (FLS_SUSP_SUSPMAX, 3)] q)
    let v := nx (.eraseResume 1) (s.modDie 1 (fun x => { x with suspended := true }))
    let w := nx (.flashDieTimeout 1) (flashRuns .read)
    (s.die 1).area 200 = 4 ∧ (t.die 1).block 200 = ⟨0, 4, 0, []⟩ ∧ (t.die 1).erasing = none ∧ t.fls.posted = [⟨3, 9, 0, 0, [], []⟩] ∧
    (u.die 1).suspended = true ∧ (u.die 1).run = some ⟨.read, flashEntryOf 0⟩ ∧ (u.die 1).erasing = some { k with suspends := 1 } ∧
    u.get FLS_CNT1_SUSPENDS = 1 ∧ v.die 1 = s.die 1 ∧ w.fls.posted = [⟨3, 9, 9, 0, [], []⟩] ∧ added (flashRuns .read) w = [(975, 0)] := by
  decide +kernel

theorem test_patrol :
    let s := (puts [(FLS_CTL_PATROL, 1), (FLS_MARGIN_REFTHR, 40)] r0).modDie 0 (fun x => { x with blocks := [(100, ⟨1, 0, 0, [(0, [⟨[], [], 0, 1, 0⟩])]⟩)] })
    let t := nx (.patrolRead 0 100 0 41) s
    t.get FLS_PATROL_VALID = 1 ∧ t.get FLS_PATROL_BLOCK = 100 ∧ t.fls.patrol = [(0, 100)] ∧ added s t = [(982, 0)] ∧
    frameB [FLS_PATROL_VALID, FLS_PATROL_DIE, FLS_PATROL_BLOCK] [.regs, .fls, .flt] s t ∧ nx (.patrolRead 0 100 0 40) s = s := by
  decide +kernel

theorem test_vflash :
    let t := nx (.vflashBandChange .low) r0
    t.get FLS_STAT_BAND = 2 ∧ added r0 t = [(978, 0)] ∧ frameB [FLS_STAT_BAND] [.regs, .flt] r0 t ∧
    (nx (.vflashBandChange .band1) t).get FLS_STAT_BAND = 1 := by decide +kernel

/-- The worked example of R321: a window of 256 MiB needs 34 blocks in reserve. -/
theorem test_reserve :
    let s := (r0.put SQR_WIN_WIN 256).modDie 0 id
    let f : State := { s with fls := { s.fls with reserve := (List.range 34).map (fun i => (0, 1000 + i)) } }
    let t := nx (.reserveErase 0 2000 true) f
    s.reserveNeed = 34 ∧ t.get FLS_STAT_RESREQ = 34 ∧ t.fls = f.fls ∧ (s.die 0).bad 2000 = false ∧ (s.die 0).area 2001 = 5 ∧
    s.fls.reserve = [] ∧ s.get FLS_STAT_BAND ≠ 2 ∧ ((s.die 0).block 2000).erases + 1 < s.get FLS_WEARCFG_ERLIMIT := by decide +kernel

theorem test_wf_flash : (Instr.flashProgram (flashEntryOf 0)).wf = false ∧ (Instr.flashRead (flashEntryOf 0)).wf = true ∧
    (Instr.flashOperationEnd 0 ⟨List.replicate 9 0, true, false, 0⟩).wf = false ∧ (Instr.mediaScrub 0 0 ⟨[], true, false, none, none⟩).wf = false := by decide +kernel

/-! ### Commands in flight, and regions -/

/-- A queue entry with an opcode and its namespace. -/
def sqeOf (op nsid : Nat) (c : List Nat) : Sqe :=
  ⟨op, 77, nsid, c.getD 0 0, c.getD 1 0, c.getD 2 0, c.getD 3 0, c.getD 4 0, c.getD 5 0⟩

/-- Command 7 of controller 0, fetched: from the admin queue, or from I/O queue 1. -/
def cmdOf (e : Sqe) (io : Bool) : Cmd :=
  { tag := 7, fn := 0, sq := if io then 1 else 0, cq := if io then 1 else 0, cls := if io then 0 else 2, sqe := e, order := 3, deadline := 0
    phase := .fetched, orphan := false, blocks := 0, steps := 0, committed := false, owner := false }

/-- The state with a command in flight on a controller with its queues. -/
def flying (c : Cmd) (s : State) : State :=
  let s1 := s.modCtl c.fn (fun k => { k with
    ready := true, mse := true, ccEn := true, rdy := true, cqs := [⟨0, 16, 0, 0, 0, [], false⟩, ⟨1, 16, 0, 0, 1, [], false⟩]
    sqs := [⟨0, 16, 0, 0, 0, 2⟩, ⟨1, 16, 0, 0, 1, 2⟩] })
  { s1 with rbt := { s1.rbt with cmds := s1.rbt.cmds ++ [c] } }

/-- An admin command in flight. -/
def adm (op : Nat) (c : List Nat) (s : State) : State := flying (cmdOf (sqeOf op 1 c) false) s

/-- Command 7 has completed with a status. -/
def completedB (sct sc dw0 : Nat) (s t : State) : Bool :=
  (t.cmd 7).map Cmd.phase == some .done && (match s.cmd 7 with
    | some c => (t.ctl c.fn).cqs.any (fun q => q.qid == c.cq && q.waiting == [⟨7, c.sq, c.sqe.cid, sct, sc, dw0, false⟩])
    | none => false)

/-- A 3+1 layout of 256 units on every Avenue, all of them enabled. -/
def specOf (layout chunk : Nat) : RegionSpec := ⟨layout, 15, chunk, 256, [0, 0, 0, 0], true⟩

def enabledAll : State := r0.put ⟨PWR_AVEN, 0, 4⟩ 15

/-- Region 5 with that layout. -/
def region5 : State := puts [(SQR_REGION0_LAYOUT 5, 3), (SQR_REGION0_AVMASK 5, 15), (SQR_REGION0_CHUNK 5, 1), (SQR_REGION3_ALEN 5, 256),
  (SQR_REGION2_RSIZE 5, 768)] enabledAll

theorem test_region_define :
    let s := adm 0xC3 [] enabledAll
    let t := nx (.regionDefine 7 5 (specOf 3 1)) s
    let b := adm 0xC3 [] region5
    t.get (SQR_REGION0_LAYOUT 5) = 3 ∧ t.get (SQR_REGION0_AVMASK 5) = 15 ∧ t.get (SQR_REGION0_CHUNK 5) = 1 ∧ t.get (SQR_REGION3_ALEN 5) = 256 ∧
    t.get (SQR_REGION2_RSIZE 5) = 768 ∧ completedB 0 0 0 s t = true ∧ untouchedB [.regs, .red, .host, .rbt] s t ∧
    completedB 0 2 1 b (nx (.regionDefine 7 5 (specOf 3 1)) b) = true ∧ completedB 0 2 3 s (nx (.regionDefine 7 5 (specOf 3 3)) s) = true ∧
    b.specClear 6 (specOf 3 1) false = false ∧ completedB 0 2 4 b (nx (.regionDefine 7 6 (specOf 3 1)) b) = true ∧
    untouchedB [.host, .rbt] b (nx (.regionDefine 7 6 (specOf 3 1)) b) = true := by decide +kernel

theorem test_region_delete :
    let s : State := adm 0xC4 [] { region5 with red := { region5.red with written := [(5, 3), (6, 1)], lostUnits := [(5, 1, 2)] } }
    let t := nx (.regionDelete 7 5) s
    (List.range 17).all (fun w => t.rd (SQR_REGION0 5 + 4 * w) == 0) = true ∧ t.red.written = [(6, 1)] ∧ t.red.lostUnits = [] ∧
    completedB 0 0 0 s t = true ∧ untouchedB [.regs, .red, .host, .rbt] s t ∧ completedB 0 2 2 s (nx (.regionDelete 7 4) s) = true := by
  decide +kernel

theorem test_reshape_start :
    let p : RegionSpec := ⟨2, 15, 1, 400, [1000, 1000, 1000, 1000], true⟩
    let s := adm 0xC5 [] region5
    let t := nx (.reshapeStart 7 5 p) s
    let b := s.put (SQR_REGION1_RSH 5) 1
    specShape p = true ∧ s.specClear 5 p true = true ∧ s.specHealthy p = true ∧ t.rLayout 5 true = 2 ∧ t.rAlen 5 true = 400 ∧
    t.rGen 5 true = 1 ∧ t.get (SQR_REGION1_RSH 5) = 1 ∧ t.rLayout 5 false = 3 ∧ added s t = [(439, 0)] ∧ completedB 0 0 0 s t = true ∧
    b.specClear 5 p true = true ∧ completedB 0 2 6 b (nx (.reshapeStart 7 5 p) b) = true := by decide +kernel

theorem test_elements :
    let t := nx (.elementDeclare (.actuator 2) .servoFault []) region5
    let u := nx (.elementDeclare (.face 1 4) .headsel [(5, 9)]) region5
    let d := adm 0xC6 [] t
    let v := nx (.elementReinstate 7 (.actuator 2)) d
    t.get ⟨SQR_AVFAIL, 2, 1⟩ = 1 ∧ t.red.declared = [.actuator 2] ∧ ⟨428 + 192, 0, 0, false⟩ ∈ t.flt.inbox ∧ t.get (SQR_REGION1_DEG 5) = 1 ∧
    t.get (SQR_REGION1_DEG 4) = 0 ∧ (5, 2) ∈ t.red.lostAvs ∧ untouchedB [.regs, .red, .flt] region5 t ∧ u.get ⟨SQR_AVFAIL, 13, 1⟩ = 1 ∧
    u.get (SQR_REGION1_RBD 5) = 1 ∧ (5, 1, 9) ∈ u.red.lostUnits ∧ v.get ⟨SQR_AVFAIL, 2, 1⟩ = 0 ∧ v.red.declared = [] ∧
    v.get (SQR_REGION1_RBD 5) = 1 ∧ completedB 0 0 0 d v = true ∧ untouchedB [.regs, .red, .host, .rbt] d v ∧
    nx (.elementDeclare (.face 1 4) .preamp []) region5 = region5 := by decide +kernel

theorem test_row_write :
    let g : Group := ⟨5, 2, false, 0, [(3, 20)], [], [(3, 21)], true, false⟩
    let s := (region5.modSqr (fun q => { q with groups := [g] })).setPage 20 (pageOf .dirty 40)
    let t := nx (.rowWrite 5 2 false) s
    let b := s.put (SQR_REGION1_DEG 5) 1
    let u := nx (.rowWrite 5 2 false) b
    (t.page 20).st = .destage ∧ (t.page 20).left = s.writesNeeded (s.page 20) ∧ t.sqr.groups = [g] ∧ untouchedB [.sqr] s t ∧
    u.sqr = { b.sqr with journalQ := [20, 21] } ∧ untouchedB [.sqr] b u := by decide +kernel

theorem test_wf_regions : (Instr.regionDefine 7 5 ⟨3, 15, 1, 1, [0], true⟩).wf = false ∧ (Instr.regionDelete 16384 5).wf = false ∧
    (Instr.elementDeclare (.actuator 0) (.owner 16384) []).wf = false ∧ (Instr.rebuildStep 0 none [128] true).wf = false ∧
    (Instr.resyncStep 0 [⟨128, []⟩]).wf = false ∧ (Instr.resyncStep 0 [⟨0, [some ([], [])]⟩]).wf = false ∧
    (Instr.reshapeStep 0 [128]).wf = false ∧ (Instr.reconstruct 0 0 ⟨none, 0, 0, 0⟩ [some ([], [])] none 0).wf = false := by decide +kernel

/-- Region 6, mirrored over Avenues 0 to 3, and the namespace that lies in it. -/
def nsOf (nsid : Nat) (region : Fin 64) : Namespace :=
  { nsid := nsid, size := 100000, lbaf := 0, pi := 0, region := region, base := 0, ten := 5, icap := 0, attached := [0], gen := 0
    recd := ⟨0, 0⟩, key := some ⟨0, 0⟩, tler := 0, tlo := false, resv := ⟨[], 0, 0, 0, false⟩, objects := [] }

def region6 : State :=
  let s := puts [(SQR_STAT_READY, 1), (SQR_STAT_NPAGES, 100), (SQR_REGION0_LAYOUT 6, 2), (SQR_REGION0_AVMASK 6, 15), (SQR_REGION0_CHUNK 6, 1), (SQR_REGION3_ALEN 6, 256),
    (SQR_REGION2_RSIZE 6, 512), (⟨PWR_AVEN, 0, 4⟩, 15)] r0
  { s with host := { s.host with ns := [nsOf 1 6] } }

def wholeBlock : List Byte × List Byte := (List.replicate 4096 9, List.replicate 16 8)

theorem test_reconstruct_hyps :
    let s := (region6.setPage 3 (pageOf .fill 300)).modSqr (fun q => { q with fills := [⟨3, ⟨some 7, 1, 6, 0⟩, false, []⟩] })
    s.unitTarget 6 (300 / 128) = false ∧ s.cursorOf 6 false 1 = 1 ∧ s.keyOf 6 300 = some ⟨some 5, 0, 300⟩ ∧ s.unitPlaces 6 false (300 / 128) = [(0, 1), (1, 1)] ∧ s.rLayout 6 false = 2 ∧
    s.stripeHeld 6 1 = false ∧ s.unitLost 6 0 1 = false ∧ s.unitLost 6 1 1 = false ∧ s.suspectAt 6 1 = false ∧
    s.findPage ⟨some 5, 0, 300⟩ = some 3 ∧ (s.page 3).st = .fill := by decide +kernel

theorem test_reconstruct_lengths : wholeBlock.1.length = 4096 ∧ wholeBlock.2.length = 16 := ⟨List.length_replicate, List.length_replicate⟩

theorem test_reconstruct_fails :
    let req : ReadReq := ⟨some 7, 1, 6, 0⟩
    let b : List Byte × List Byte := ([1], [2])
    let s := puts [(SQR_REGION1_SUSPECT 6, 1)] region6
    let l : State := { region6 with red := { region6.red with lostUnits := [(6, 0, 1), (6, 1, 1)] } }
    let t := nx (.reconstruct 6 300 req [some b] none 0) s
    let u := nx (.reconstruct 6 300 req [some b] none 0) l
    s.suspectAt 6 1 = true ∧ t.sqr.readEnds = [(7, 300, 2, 0x81, 9)] ∧ added s t = [(442, 0)] ∧ untouchedB [.sqr, .flt] s t ∧
    u.sqr.readEnds = [(7, 300, 2, 0x81, 6)] ∧ untouchedB [.sqr] l u := by decide +kernel

theorem test_reconstruct_unreadable :
    let v := nx (.reconstruct 6 300 ⟨some 7, 1, 6, 0⟩ [none] none 5) region6
    v.sqr.readEnds = [(7, 300, 2, 0x81, 5)] ∧ v.red.unreadable = [(6, 300)] ∧ added region6 v = [(428 + 4, 0)] ∧
    untouchedB [.sqr, .red, .flt] region6 v := by decide +kernel

theorem test_rebuild :
    let s : State := puts [(SQR_REGION1_RBD 6, 1), (SQR_REGION1_DEG 6, 1), (⟨SQR_AVFAIL, 4, 1⟩, 1)]
      { region6 with red := { region6.red with lostUnits := [(6, 0, 9)] } }
    let t := nx (.rebuildStep 6 (some 700) [] true) s
    let u := nx (.rebuildStep 6 none [] true) s
    s.actFailed 0 = false ∧ s.faceFailed 0 0 = true ∧ s.stripeHeld 6 9 = false ∧ s.get (SQR_REGION1_SUSPECT 6) = 0 ∧
    t.red = { s.red with remaps := [⟨6, 0, 9, 700⟩], lostUnits := [] } ∧ t.get (SQR_REGION1_RBD 6) = 0 ∧ t.get (SQR_REGION1_DEG 6) = 0 ∧
    t.get (SQR_REGION16_CURSOR 6) = 10 ∧ added s t = [(428 + 2, 0)] ∧
    frameB [SQR_REGION1_RBD 6, SQR_REGION1_DEG 6, SQR_REGION16_CURSOR 6, SQR_REDCNT_RECON] [.regs, .red, .flt] s t ∧
    u.get (SQR_REGION1_RBD 6) = 0 ∧ added s u = [(428 + 3, 0)] ∧ frameB [SQR_REGION1_RBD 6] [.regs, .flt] s u := by decide +kernel

theorem test_resync :
    let s := puts [(SQR_REGION1_RSY 5, 1), (SQR_REGION16_CURSOR 5, 9)] region5
    let e := s.put (SQR_REGION16_CURSOR 5) 256
    let w : State := { s with red := { s.red with written := [(5, 27 * 128), (5, 28 * 128), (5, 29 * 128)] } }
    let z : List Byte × List Byte := ([1], [2])
    let m := nx (.resyncStep 5 [⟨0, [some z, some z, some z, some ([7], [7])]⟩]) w
    let x := nx (.resyncCheckpoint 5) s
    (nx (.resyncStep 5 []) s).get (SQR_REGION16_CURSOR 5) = 10 ∧ frameB [SQR_REGION16_CURSOR 5] [.regs] s (nx (.resyncStep 5 []) s) ∧
    (nx (.resyncStep 5 []) e).get (SQR_REGION1_RSY 5) = 0 ∧ added e (nx (.resyncStep 5 []) e) = [(437, 0)] ∧
    m.get SQR_REDCNT_SYNCMIS = 1 ∧ m.red.found = [5] ∧ added w m = [(438, 0)] ∧ m.get (SQR_REGION16_CURSOR 5) = 10 ∧
    KMap.get (fun _ => 0) x.red.cursorCk 5 = 9 ∧ untouchedB [.red] s x := by decide +kernel

theorem test_degraded_reshape :
    let s : State := puts [(SQR_REGION1_RSH 5, 1), (SQR_REGION1_DEG 5, 1), (SQR_REGION14_BOUND 5, 768), (SQR_REGION8_TLAYOUT 5, 2),
      (regFld 5 true 0 26 4, 3), (regFld 5 true 3 0 24, 999)] { region5 with red := { region5.red with lostAvs := [(5, 2)] } }
    let e := nx (.reshapeEnd 5) s
    e.red.lostAvs = [] ∧ e.get (SQR_REGION1_DEG 5) = 0 ∧ s.get (SQR_REGION2_RSIZE 5) ≤ 768 := by decide +kernel

theorem test_resync_target :
    let s := puts [(SQR_REGION1_RSH 5, 1), (SQR_REGION1_RSY 5, 1), (SQR_REGION14_BOUND 5, 30), (SQR_REGION8_TLAYOUT 5, 2),
      (regFld 5 true 0 26 4, 3), (regFld 5 true 3 0 24, 999), (regFld 5 true 0 19 7, 1)] region5
    let w : State := { s.put (SQR_REGION16_CURSOR 5) (s.rAlen 5 false + 7) with red := { s.red with written := [(5, 7 * 128)] } }
    let t := nx (.resyncStep 5 [⟨0, [some ([1], [2]), some ([1], [3])]⟩]) w
    w.cursorAt 5 (s.rAlen 5 false + 7) = (true, 7) ∧ w.unitTarget 5 7 = true ∧ t.get SQR_REDCNT_SYNCMIS = 1 ∧ added w t = [(438, 0)] ∧
    t.get (SQR_REGION1_RSY 5) = 1 := by decide +kernel

theorem test_reshape :
    let s := puts [(SQR_REGION1_RSH 5, 1), (SQR_REGION14_BOUND 5, 30), (SQR_REGION8_TLAYOUT 5, 2), (regFld 5 true 3 0 24, 999)] region5
    let t := nx (.reshapeStep 5 []) s
    let k := nx (.reshapeCheckpoint 5) s
    let f := s.put (SQR_REGION14_BOUND 5) 768
    let e := nx (.reshapeEnd 5) f
    t.get (SQR_REGION14_BOUND 5) = 33 ∧ frameB [SQR_REGION14_BOUND 5] [.regs] s t ∧
    nx (.reshapeStep 5 []) (s.put (SQR_REGION1_PAUSE 5) 1) = s.put (SQR_REGION1_PAUSE 5) 1 ∧ k.get (SQR_REGION15_BCKPT 5) = 30 ∧
    KMap.get (fun _ => (0, 0)) k.red.reshapeCk 5 = (30, 0) ∧ frameB [SQR_REGION15_BCKPT 5] [.regs, .red] s k ∧ e.rLayout 5 false = 2 ∧
    e.rAlen 5 false = 999 ∧ e.get (SQR_REGION1_RSH 5) = 0 ∧ added f e = [(440, 0)] ∧ nx (.reshapeEnd 5) s = s := by decide +kernel

/-! ### Ports and functions -/

/-- Two functions of port A in use, with port A's link up. -/
def linked : State := (puts [(HST_PORT_UP 0, 1), (HST_PORT_RATE 0, 4), (HST_PORT_WIDTH 0, 4)] r0).modCtl 0 (fun c =>
  { c with ready := true, mse := true, ccEn := true, rdy := true, apMsix := 9, errCount := 3 })

/-- A function that has been reset: what R362 to R365 say of it. -/
def fnResetB (f : Nat) (s t : State) : Bool :=
  let c := t.ctl f
  !c.ccEn && !c.rdy && c.sqs.isEmpty && c.cqs.isEmpty && c.features.isEmpty && c.aers.isEmpty && c.shst == 0 && !c.mse && !c.vfEnable
    && c.en == (s.ctl f).apEn && c.msix == (s.ctl f).apMsix && t.rbt.cmds.all (fun d => d.fn != f) && t.tgt.sessions.all (fun x => x.fn != f)
    && (added s t).contains (152, 0) && (added s t).contains (6, 0) && c.errors == (s.ctl f).errors

theorem test_port_event :
    let t := nx (.portEvent 0 (.perst ⟨true, true, true, true⟩)) linked
    linked.portUsed 0 = true ∧ t.get (HST_PORT_UP 0) = 0 ∧ t.get (HST_PORT_RATE 0) = 0 ∧ t.get (HST_PORT_WIDTH 0) = 0 ∧
    t.get (HST_PORT_PERST 0) = 1 ∧ t.get (tdExpect 26) = 0 ∧ countedB (HST_PORT_DOWNS 0) linked t = true ∧
    (added linked t).take 2 = [(1, 0), (4, 0)] ∧ fnResetB 0 linked t = true ∧ fnResetB 1 linked t = true ∧ (t.ctl 0).ready = false ∧
    linked.portUsed 1 = false ∧ nx (.portEvent 1 .linkDown) linked = linked := by decide +kernel

/-- A device in Cul-de-sac mode after a commit, in which an assertion of PERST_A_N starts the device (R544). -/
theorem test_restart_hyps :
    let s : State := puts [(PWR_STATE_STATE, 5)] { r0 with pwr := { r0.pwr with restart := true, porstLow := false, inReset := false } }
    s.restricted = true ∧ s.pwr.restart = true ∧ s.pwr.porstLow = false ∧ s.pwr.risen = none := by
  refine ⟨by decide +kernel, rfl, rfl, rfl⟩

theorem test_port_down :
    let t := nx (.portEvent 0 .hotReset) linked
    t.get (HST_PORT_UP 0) = 1 ∧ countedB (HST_PORT_DOWNS 0) linked t = true ∧ fnResetB 0 linked t = true ∧
    frameB ([HST_PORT_DOWNS 0] ++ resetFlds) resetParts linked t = true := by decide +kernel

theorem test_link_up :
    let s := puts [(PWR_START_STEP, 0), (HST_CTL_MODE, 1)] r0
    let t := nx (.linkUp 1 5 2) s
    s.portUsed 1 = true ∧ t.get (HST_PORT_UP 1) = 1 ∧ t.get (HST_PORT_RATE 1) = 5 ∧ t.get (HST_PORT_WIDTH 1) = 2 ∧ added s t = [(2, 0)] ∧
    (t.ctl 1).ready = true ∧ (t.ctl 65).ready = true ∧ (t.ctl 0).ready = false ∧
    frameB [HST_PORT_UP 1, HST_PORT_RATE 1, HST_PORT_WIDTH 1] [.regs, .host, .flt] s t ∧ nx (.linkUp 1 5 4) s = s := by decide +kernel

theorem test_perst_release :
    let s := puts [(HST_PORT_PERST 0, 1), (tdExpect 26, 0)] r0
    let t := nx (.perstRelease 0) s
    let u := nx (.linkL12Entry 0) linked
    t.get (HST_PORT_PERST 0) = 0 ∧ t.get (tdExpect 26) = 1 ∧ frameB [HST_PORT_PERST 0, tdExpect 26] [.regs] s t ∧ u.host.l12 = [0] ∧
    u.get (tdExpect 26) = 0 ∧ frameB [tdExpect 26] [.regs, .host] linked u := by decide +kernel

theorem test_tlp :
    let a := nx (.tlpReceive 0 ⟨false, true, true, [5]⟩) linked
    let b := nx (.tlpReceive 0 ⟨true, true, true, [5]⟩) linked
    let c := nx (.tlpReceive 0 ⟨true, false, true, [5]⟩) linked
    let d := nx (.tlpReceive 0 ⟨true, false, false, [5]⟩) linked
    countedB HST_INTG_REPLAYS linked a = true ∧ added linked a = [(100, 0)] ∧ frameB [HST_INTG_REPLAYS] [.regs, .flt] linked a = true ∧
    added linked b = [(10, 0)] ∧ untouchedB [.flt] linked b = true ∧ added linked c = [(11, 0)] ∧ untouchedB [.flt] linked c = true ∧
    d.host.staged = [[5]] ∧ untouchedB [.host] linked d = true := by decide +kernel

theorem test_nvme_mi :
    let s := puts [(HST_MI_EN, 1), (HST_MI_ADDR, 0x6A)] r0
    let t := nx (.nvmeMiRead ⟨0x6A, 0, false, true⟩) s
    let u := nx (.nvmeMiRead ⟨0x6A, 0, true, true⟩) s
    s.pwr.deep = false ∧ (t.host.smbus.map List.length) = some 8 ∧ (t.host.smbus.map (fun x => x.take 1)) = some [6] ∧
    untouchedB [.host] s t ∧ u.host.smbus = none ∧ added s u = [(14, 0)] ∧ untouchedB [.host, .flt] s u := by decide +kernel

theorem test_function_reset :
    let s := linked.modCtl 2 (fun c => { c with en := true, ready := true, mse := true })
    let t := nx (.functionLevelReset 0) s
    let u := nx (.functionLevelReset 2) s
    fnResetB 0 s t = true ∧ fnResetB 2 s t = true ∧ (t.ctl 1) = s.ctl 1 ∧ frameB resetFlds resetParts s t = true ∧ fnResetB 2 s u = true ∧
    (u.ctl 0) = s.ctl 0 := by decide +kernel

theorem test_function_config :
    let t := nx .functionConfigApply r0
    let b := r0.put (HST_FN_MSIX 1) 2049
    let u := nx .functionConfigApply b
    r0.fnCheck = (0, 0) ∧ t.get HST_CFGSTAT_ERR = 0 ∧ (t.ctl 0).apEn = true ∧ (t.ctl 0).apMsix = r0.get (HST_FN_MSIX 0) ∧
    (t.ctl 2).apEn = false ∧ frameB [HST_CFGSTAT_ERR, HST_CFGSTAT_FN] [.regs, .host] r0 t ∧ b.fnCheck = (3, 1) ∧
    u.get HST_CFGSTAT_ERR = 3 ∧ u.get HST_CFGSTAT_FN = 1 ∧ added b u = [(9, 0)] ∧ frameB [HST_CFGSTAT_ERR, HST_CFGSTAT_FN] [.regs, .flt] b u := by
  decide +kernel

/-- What FUNCTION_CONFIG_APPLY checks holds at reset. -/
theorem test_function_config_hyps :
    (((List.range 128).filter (fun f => r0.is (HST_FN_EN f))).map (fun f => 1 + r0.get (HST_FN_IOQ f))).sum ≤ 4096 ∧
    (((List.range 128).filter (fun f => r0.is (HST_FN_EN f))).map (fun f => r0.get (HST_FN_MSIX f))).sum ≤ 16384 ∧
    (∀ f, f < 128 → r0.get (HST_FN_EN f) = 1 → 1 ≤ r0.get (HST_FN_IOQ f) ∧ 1 ≤ r0.get (HST_FN_MSIX f) ∧
      r0.get (HST_FN_MSIX f) ≤ 2048 ∧ (2 ≤ f → f < 65 → f - 1 ≤ r0.get (HST_PFCFG_TOTALVF 0)) ∧
      (65 ≤ f → f - 64 ≤ r0.get (HST_PFCFG_TOTALVF 1))) := by decide +kernel

/-- An owner session bound to PF0, with the setup window open. -/
def windowOpen : State :=
  let s : State := { linked with bus := { linked.bus with winOpen := true, page := 3 } }
  { s with tgt := { s.tgt with sessions := [⟨0, true, none, true, true, 0, 0, 0⟩] } }

theorem test_config_write :
    let t := nx (.pciConfigWrite 0 (.memorySpace false)) windowOpen
    let u := nx (.pciConfigWrite 0 (.memorySpace true)) windowOpen
    let s := (linked.modCtl 0 (fun c => { c with vfEnable := true })).modCtl 2 (fun c => { c with en := true })
    let v := nx (.pciConfigWrite 0 (.vfEnable false)) s
    (t.ctl 0).mse = false ∧ t.bus.winOpen = false ∧ t.bus.page = 0 ∧ added windowOpen t = [(15, 0)] ∧
    untouchedB [.bus, .flt, .host] windowOpen t ∧ u.bus = windowOpen.bus ∧ u.flt = windowOpen.flt ∧ s.restricted = false ∧
    (v.ctl 0).vfEnable = false ∧ fnResetB 2 s v = true ∧ frameB resetFlds resetParts s v := by decide +kernel

theorem test_window_open :
    let s : State := { windowOpen with bus := r0.bus }
    s.ownerFn = some 0 ∧ (s.ctl 0).mse = true ∧ (nx .setupWindowOpen s).bus.winOpen = true ∧ untouchedB [.bus] s (nx .setupWindowOpen s) := by
  decide +kernel

/-! ### Queues, controllers and fetching -/

/-- Controller 0 enabled, with entries waiting in its admin queue, an urgent queue 1 and a normal queue 2. -/
def queued (admin urgent normal : Nat) : State :=
  let s1 := r0.modCtl 0 (fun k => { k with
    ready := true, mse := true, ccEn := true, rdy := true, ams := 1
    cqs := [⟨0, 16, 0, 0, 0, [], false⟩, ⟨1, 16, 0, 0, 1, [], false⟩]
    sqs := [⟨0, 16, 0, admin, 0, 0⟩, ⟨1, 16, 0, urgent, 1, 0⟩, ⟨2, 16, 0, normal, 1, 2⟩] })
  { s1 with pwr := { s1.pwr with porstLow := false } }

theorem test_doorbells :
    let s := (queued 0 0 0).modCtl 0 (fun k => { k with cqs := [⟨0, 16, 0, 0, 0, [], false⟩, ⟨1, 16, 0, 5, 1, [], true⟩] })
    let t := nx (.submissionQueueDoorbell 0 2 15) s
    let c := nx (.completionQueueDoorbell 0 1 5) s
    let x := nx (.submissionQueueDoorbell 0 9 1) s
    let y := nx (.submissionQueueDoorbell 0 2 16) s
    ((t.ctl 0).sqs.map SubQueue.tail) = [0, 0, 15] ∧ (t.ctl 0).cqs = (s.ctl 0).cqs ∧ untouchedB [.host] s t ∧
    (c.ctl 0).cqs = [⟨0, 16, 0, 0, 0, [], false⟩, ⟨1, 16, 5, 5, 1, [], false⟩] ∧ (c.ctl 0).sqs = (s.ctl 0).sqs ∧ untouchedB [.host] s c ∧
    (x.ctl 0).events = [(0, 0)] ∧ added s x = [(143, 0)] ∧ untouchedB [.host, .flt] s x ∧
    (y.ctl 0).events = [(0, 1)] ∧ added s y = [(143, 0)] ∧ (y.ctl 0).sqs = (s.ctl 0).sqs := by decide +kernel

theorem test_enable :
    let s := r0.modCtl 0 (fun k => { k with ready := true, apIoq := 7 })
    let t := nx (.controllerEnable 0 1 64 1) s
    let v := s.modCtl 2 (fun k => { k with ready := true })
    (t.ctl 0).rdy = true ∧ (t.ctl 0).ccEn = true ∧ (t.ctl 0).ioq = 7 ∧ (t.ctl 0).sqs = [⟨0, 64, 0, 0, 0, 0⟩] ∧
    (t.ctl 0).cqs = [⟨0, 2, 0, 0, 0, [], false⟩] ∧ untouchedB [.host] s t ∧ ((nx (.controllerEnable 2 0 16 16) v).ctl 2).cfs = true ∧
    ((nx (.controllerEnable 2 0 16 16) v).ctl 2).rdy = false := by decide +kernel

theorem test_controller_reset :
    let s := flying (cmdOf (sqeOf 2 1 []) true) r0
    let t := nx (.controllerReset 0) s
    (t.ctl 0).ccEn = false ∧ (t.ctl 0).sqs = [] ∧ (t.ctl 0).cqs = [] ∧ (t.ctl 0).mse = true ∧ t.rbt.cmds = [] ∧ added s t = [(152, 0)] ∧
    t.host.ns = s.host.ns ∧ frameB resetFlds resetParts s t := by decide +kernel

theorem test_shutdown :
    let s := flying (cmdOf (sqeOf 2 1 []) true) r0
    let t := nx (.controllerShutdown 0 false) s
    let e := queued 0 0 0
    let u := nx (.controllerShutdown 0 true) e
    (t.ctl 0).shst = 1 ∧ (t.ctl 0).shutdown = some none ∧ untouchedB [.host] s t ∧ (u.ctl 0).shutdown = some (some 0) ∧
    u.sqr.drains = [⟨0, 0, 0⟩] ∧ u.sqr.nextDrain = 1 ∧ u.get SQR_DRAIN_EPOCH = 1 ∧
    frameB [SQR_DRAIN_EPOCH] [.regs, .sqr, .host] e u := by decide +kernel

theorem test_fetch_admin :
    let s := queued 1 1 1
    let e := sqeOf 6 0 [1]
    let t := nx (.commandFetch e) s
    let w := sqeOf 0xC3 0 [5]
    let u := nx (.commandFetch w) s
    s.openQueues 2 = [(0, ⟨0, 16, 0, 1, 0, 0⟩)] ∧ s.fetchStatus 0 2 e = none ∧ (t.rbt.cmds.map Cmd.cls) = [2] ∧
    (t.rbt.cmds.map Cmd.sqe) = [e] ∧ ((t.ctl 0).sqs.map SubQueue.head) = [1, 0, 0] ∧ t.rbt.credit = s.rbt.credit ∧
    untouchedB [.host, .rbt] s t ∧ s.fetchStatus 0 2 w = some (2, 0x86) ∧ (u.rbt.cmds.map Cmd.phase) = [.done] ∧
    ((u.ctl 0).cqs.map (fun q => q.waiting)) = [[⟨0, 0, 77, 2, 0x86, 0, false⟩], []] := by decide +kernel

theorem test_fetch_io :
    let s := queued 0 1 1
    let e := sqeOf 0 0 []
    let t := nx (.commandFetch e) s
    let b := (queued 0 0 1).put (RBT_CW_CW 0) 9
    let u := nx (.commandFetch e) b
    let z := queued 0 0 0
    s.openQueues 2 = [] ∧ s.openQueues 1 = [(0, ⟨1, 16, 0, 1, 1, 0⟩)] ∧ s.fetchStatus 0 1 e = none ∧ (t.rbt.cmds.map Cmd.cls) = [1] ∧
    untouchedB [.host, .rbt] s t ∧ b.openQueues 1 = [] ∧ b.openQueues 0 = [(0, ⟨2, 16, 0, 1, 1, 2⟩)] ∧ b.fetchStatus 0 0 e = none ∧
    KMap.get (fun _ => 0) u.rbt.credit 0 = 8 ∧ u.rbt.cur = 0 ∧ untouchedB [.host, .rbt] b u ∧ z.openQueues 0 = [] ∧
    nx (.commandFetch e) z = z := by decide +kernel

theorem test_post :
    let x : Completion := ⟨7, 1, 77, 0, 0, 0, false⟩
    let s := (flying { cmdOf (sqeOf 2 1 []) true with phase := .done } r0).modCtl 0 (fun k => { k with
      cqs := [⟨1, 4, 0, 2, 1, [x], false⟩] })
    let t := nx (.completionPost 0 1) s
    t.rbt.cmds = [] ∧ (t.ctl 0).cqs = [⟨1, 4, 0, 3, 1, [], true⟩] ∧ added s t = [(142, 0)] ∧ untouchedB [.host, .rbt, .sqr, .flt] s t := by
  decide +kernel

theorem test_merge_expiry :
    let a := flying { cmdOf (sqeOf 0 1 []) true with phase := .merging } r0
    let s : State := { a with rbt := { a.rbt with merge := [7] } }
    let t := nx .drainMergeExpiry s
    t.rbt.merge = [] ∧ (t.rbt.cmds.map Cmd.phase) = [.draining 0] ∧ t.sqr.nextDrain = 1 ∧ t.get SQR_DRAIN_EPOCH = 1 ∧
    frameB [SQR_DRAIN_EPOCH] [.regs, .sqr, .rbt] s t := by decide +kernel

/-- The state of a claimed device. -/
def claimed (s : State) : State := s.put TGT_STAT_LIFE 2

theorem test_weight :
    let s := adm 0xC7 [5, 200] r0
    let c := claimed s
    let t := nx (.setControllerWeight 7) c
    s.claimed = false ∧ completedB 0 2 1 s (nx (.setControllerWeight 7) s) = true ∧ untouchedB [.host, .rbt] s (nx (.setControllerWeight 7) s) ∧
    c.claimed = true ∧ t.get (RBT_CW_CW 5) = 200 ∧ completedB 0 0 0 c t = true ∧ frameB [RBT_CW_CW 5] [.regs, .host, .rbt] c t := by decide +kernel

/-! ### Queue management, features, Identify, logs, Abort -/

theorem test_create_sq :
    let s := adm 1 [3 + 63 * 65536, 1 + 2 * 2 + 65536] r0
    let t := nx (.createIoSubmissionQueue 7) s
    let b := adm 1 [3 + 63 * 65536, 1 + 5 * 65536] r0
    let u := nx (.createIoSubmissionQueue 7) b
    (t.ctl 0).sqs = (s.ctl 0).sqs ++ [⟨3, 64, 0, 0, 1, 2⟩] ∧ completedB 0 0 0 s t = true ∧ untouchedB [.host, .rbt] s t ∧
    (u.ctl 0).sqs = (b.ctl 0).sqs ∧ completedB 1 0 0 b u = true ∧ untouchedB [.host, .rbt] b u := by decide +kernel

theorem test_create_cq :
    let s := adm 5 [3 + 63 * 65536, 1 + 9 * 65536] r0
    let t := nx (.createIoCompletionQueue 7) s
    let b := adm 5 [3 + 63 * 65536, 1 + 32 * 65536] r0
    let z := adm 5 [63 * 65536, 1] r0
    (t.ctl 0).cqs.contains ⟨3, 64, 0, 0, 9, [], false⟩ = true ∧ (t.ctl 0).sqs = (s.ctl 0).sqs ∧ completedB 0 0 0 s t = true ∧
    untouchedB [.host, .rbt] s t ∧ completedB 1 8 0 b (nx (.createIoCompletionQueue 7) b) = true ∧
    completedB 1 1 0 z (nx (.createIoCompletionQueue 7) z) = true ∧ untouchedB [.host, .rbt] z (nx (.createIoCompletionQueue 7) z) := by
  decide +kernel

theorem test_delete_sq :
    let s := adm 0 [1] r0
    let t := nx (.deleteIoSubmissionQueue 7) s
    let d : Cmd := { cmdOf (sqeOf 2 1 []) true with tag := 8 }
    let b : State := { s with rbt := { s.rbt with cmds := s.rbt.cmds ++ [d] } }
    let u := nx (.deleteIoSubmissionQueue 7) b
    (t.ctl 0).sqs = [⟨0, 16, 0, 0, 0, 2⟩] ∧ completedB 0 0 0 s t = true ∧ untouchedB [.host, .rbt] s t ∧
    b.rbt.cmds.filter (fun d => d.fn == 0 && d.sq == 1 && d.endable) = [d] ∧ ((u.ctl 0).cqs.map (fun q => q.waiting)) =
      [[⟨7, 0, 77, 0, 0, 0, false⟩], [⟨8, 1, 77, 0, 8, 0, false⟩]] ∧ untouchedB [.host, .rbt, .arc] b u := by decide +kernel

theorem test_delete_cq :
    let s := (adm 4 [2] r0).modCtl 0 (fun k => { k with cqs := k.cqs ++ [⟨2, 8, 0, 0, 1, [], false⟩] })
    let t := nx (.deleteIoCompletionQueue 7) s
    let b := adm 4 [1] r0
    let u := nx (.deleteIoCompletionQueue 7) b
    ((t.ctl 0).cqs.map CompQueue.qid) = [0, 1] ∧ completedB 0 0 0 s t = true ∧ (t.ctl 0).sqs = (s.ctl 0).sqs ∧ untouchedB [.host, .rbt] s t ∧
    completedB 1 0xC 0 b u = true ∧ untouchedB [.host, .rbt] b u := by decide +kernel

theorem test_set_features :
    let s := adm 9 [9, 3 + 65536] r0
    let t := nx (.setFeatures 7 []) s
    let n := adm 9 [7, 5 + 65536 * 99] r0
    let v := adm 9 [9 + 2 ^ 31, 3] r0
    let x := adm 9 [0x55, 3] r0
    (t.ctl 0).feat (featureKey 9 (3 + 65536)) = 3 + 65536 ∧ (t.ctl 0).feat 6 = 1 ∧ completedB 0 0 0 s t = true ∧ untouchedB [.host, .rbt] s t ∧
    completedB 0 0 (5 + 65536 * 30) n (nx (.setFeatures 7 []) n) = true ∧ completedB 1 0xD 0 v (nx (.setFeatures 7 []) v) = true ∧
    completedB 0 2 0 x (nx (.setFeatures 7 []) x) = true ∧ untouchedB [.host, .rbt] x (nx (.setFeatures 7 []) x) := by decide +kernel

theorem test_get_features :
    let s := (adm 0xA [8] r0).modCtl 0 (fun k => { k with features := [(8, 55)] })
    let d := (adm 0xA [8 + 256] r0).modCtl 0 (fun k => { k with features := [(8, 55)] })
    let n := adm 0xA [5] { region6 with host := { region6.host with ns := [{ nsOf 1 6 with tler := 44 }] } }
    completedB 0 0 55 s (nx (.getFeatures 7) s) = true ∧ completedB 0 0 0 d (nx (.getFeatures 7) d) = true ∧
    completedB 0 0 44 n (nx (.getFeatures 7) n) = true ∧ untouchedB [.host, .rbt] n (nx (.getFeatures 7) n) := by decide +kernel

theorem test_identify :
    let b : State := { adm 6 [0] r0 with rbt := { (adm 6 [0] r0).rbt with cmds := [cmdOf (sqeOf 6 1025 [0]) false] } }
    completedB 0 0xB 0 b (nx (.identify 7) b) = true ∧ untouchedB [.host, .rbt] b (nx (.identify 7) b) ∧
    (b.adminCmd 7 6).isSome = true ∧ region6.nsFor 0 1 = some (nsOf 1 6) := by decide +kernel

theorem test_get_log :
    let s := adm 2 [0xC4 + 1 * 65536, 0, 0, 0] (r0.put PWR_START_STOP 2)
    let t := nx (.getLogPage 7) s
    let b := adm 2 [0xC2] r0
    t.host.reply = [(7, [0, 2, 0, 0, 0, 0, 0, 0])] ∧ completedB 0 0 0 s t = true ∧ untouchedB [.host, .rbt] s t ∧
    completedB 2 0x86 0 b (nx (.getLogPage 7) b) = true ∧ untouchedB [.host, .rbt] b (nx (.getLogPage 7) b) := by decide +kernel

theorem test_abort :
    let s := adm 8 [1 + 5 * 65536] r0
    let d : Cmd := { cmdOf (sqeOf 2 1 []) true with tag := 8 }
    let a := adm 8 [1 + 77 * 65536] r0
    let b : State := { a with rbt := { a.rbt with cmds := a.rbt.cmds ++ [d] } }
    let u := nx (.abort 7 []) b
    let f := s.modCtl 0 (fun k => { k with aborts := List.replicate 8 (3, 4) })
    completedB 0 0 1 s (nx (.abort 7 []) s) = true ∧ untouchedB [.host, .rbt] s (nx (.abort 7 []) s) ∧
    (u.rbt.cmds.map Cmd.phase) = [.parked, .done] ∧ ((u.ctl 0).cqs.map (fun q => q.waiting)) = [[], [⟨8, 1, 77, 0, 7, 0, false⟩]] ∧
    (u.ctl 0).aborts = [(7, 8)] ∧ added b u = [(144, 0)] ∧ untouchedB [.host, .rbt, .arc, .flt] b u ∧
    completedB 1 3 0 f (nx (.abort 7 []) f) = true ∧ added f (nx (.abort 7 []) f) = [(153, 0)] := by decide +kernel

theorem test_async_event :
    let s := (adm 0xC [] r0).modCtl 0 (fun k => { k with events := [(0, 1), (1, 1)] })
    let t := nx (.asynchronousEventRequest 7) s
    let b := adm 0xC [] r0
    let u := nx (.asynchronousEventRequest 7) b
    (t.ctl 0).events = [(1, 1)] ∧ completedB 0 0 (256 + 65536) s t = true ∧ untouchedB [.host, .rbt] s t ∧ (u.ctl 0).aers = [7] ∧
    (u.cmd 7).map Cmd.phase = some .parked ∧ untouchedB [.host, .rbt] b u := by decide +kernel

/-! ### Commands of namespaces -/

/-- An I/O command on namespace 1 of region 6, on controller 0, which is bound to its tenancy. -/
def ioNs (n : Namespace) (op : Nat) (c : List Nat) : State :=
  let s := puts [(TGT_BIND_BOUND 0, 1), (TGT_BIND_TEN 0, 5), (SQR_RA_EN, 0), (SPN_STAT_RETOK, 1), (RBT_ARB_DRCOAL, 0),
    (SQR_PAGECFG_FREELOW, 0), (SQR_PAGECFG_URGRES, 0)] region6
  flying (cmdOf (sqeOf op 1 c) true) { s with host := { s.host with ns := [n] } }

/-- Namespace 1 with no working key, so that a block stands as it is. -/
def clearNs : Namespace := { nsOf 1 6 with key := none }

/-- What a one-block write or read asks of the state besides its command. -/
def placeable (s : State) (lba : Nat) : Bool :=
  s.tenOf 0 == some 5 && s.is SQR_STAT_READY && !s.sqr.lossHold && !s.pwr.cleanStop && s.sqr.held.isEmpty && decide (s.dirtyPages < s.winPages)
    && (match s.locOf 0 lba with
      | some l => s.layoutFor l != 3
      | none => true)
    && (match s.takePage false with
      | some (_, u) => u.findPage ⟨some 5, 0, lba⟩ == none
      | none => false)

theorem test_write :
    let s := ioNs clearNs 1 [40, 0, 0]
    let w : WriteInput := ⟨[([1, 2, 3], [])], ⟨false, 0, false⟩, [], []⟩
    let t := nx (.write 7 w) s
    s.ioCmd 7 1 = some (cmdOf (sqeOf 1 1 [40, 0, 0]) true, clearNs) ∧ placeable s 40 = true ∧ (s.takePage false).map Prod.fst = some 0 ∧
    s.conflict (cmdOf (sqeOf 1 1 [40, 0, 0]) true) clearNs true = false ∧ (t.page 0).st = .dirty ∧ (t.page 0).key = ⟨some 5, 0, 40⟩ ∧
    (t.page 0).data = [1, 2, 3] ∧ (t.page 0).pmeta = List.replicate 16 0 ∧ (t.page 0).entryOk = true := by decide +kernel

theorem test_write_ends :
    let s := (ioNs clearNs 1 [40, 0, 0]).modCtl 0 (fun k => { k with features := [(6, 0)] })
    let a := ioNs clearNs 1 [40, 0, 0]
    let w : WriteInput := ⟨[([1, 2, 3], [])], ⟨false, 0, false⟩, [], []⟩
    let t := nx (.write 7 w) s
    completedB 0 0 0 a (nx (.write 7 w) a) = true ∧ (s.ctl 0).feat 6 = 0 ∧ s.get RBT_ARB_DRCOAL = 0 ∧
    (t.cmd 7).map Cmd.phase = some (.draining 0) ∧ t.sqr.nextDrain = 1 ∧ frameB [SQR_DRAIN_EPOCH] [.regs, .sqr, .red, .host, .rbt, .flt] s t := by
  decide +kernel

theorem test_write_zeroes_hyps :
    let s := ioNs (nsOf 1 6) 8 [40, 0, 0]
    s.ioCmd 7 8 = some (cmdOf (sqeOf 8 1 [40, 0, 0]) true, nsOf 1 6) ∧ placeable s 40 = true ∧ (nsOf 1 6).pi = 0 := by decide +kernel

/-- Namespace 1 with a reservation held by host 9. -/
def heldNs (typ : Nat) : Namespace := { clearNs with resv := ⟨[⟨9, 90, 3⟩], typ, 9, 4, false⟩ }

theorem test_write_refused :
    let s := ioNs clearNs 1 [99999, 0, 1]
    let z := ioNs (heldNs 1) 8 [4, 0, 0]
    let w : WriteInput := ⟨[], ⟨false, 0, false⟩, [], []⟩
    completedB 0 0x80 0 s (nx (.write 7 w) s) = true ∧ untouchedB [.host, .rbt] s (nx (.write 7 w) s) ∧
    z.conflict (cmdOf (sqeOf 8 1 [4, 0, 0]) true) (heldNs 1) true = true ∧ completedB 0 0x83 0 z (nx (.writeZeroes 7 w) z) = true ∧
    added z (nx (.writeZeroes 7 w) z) = [(13, 0)] ∧ untouchedB [.host, .rbt, .flt] z (nx (.writeZeroes 7 w) z) := by decide +kernel

theorem test_deallocate :
    let wr (s : State) : State := { s with red := { s.red with written := [(6, 3), (6, 4), (6, 5), (6, 6)] } }
    let s := wr (ioNs clearNs 8 [4, 0, 1 + 2 ^ 25])
    let t := nx (.writeZeroes 7 ⟨[], ⟨false, 0, false⟩, [], []⟩) s
    let d := wr (ioNs clearNs 9 [0, 4])
    let u := nx (.datasetManagement 7 [(3, 1), (5, 2)]) d
    let e := wr (ioNs clearNs 9 [0, 0])
    let v := nx (.datasetManagement 7 [(3, 1)]) e
    t.red.written = [(6, 3), (6, 6)] ∧ completedB 0 0 0 s t = true ∧ untouchedB [.sqr, .red, .host, .rbt] s t ∧ u.red.written = [(6, 4)] ∧
    completedB 0 0 0 d u = true ∧ untouchedB [.sqr, .red, .host, .rbt] d u ∧ completedB 0 0 0 e v = true ∧ untouchedB [.host, .rbt] e v := by
  decide +kernel

theorem test_read_unwritten_hyps :
    let s := ioNs clearNs 2 [40, 0, 0]
    s.ioCmd 7 2 = some (cmdOf (sqeOf 2 1 [40, 0, 0]) true, clearNs) ∧ s.conflict (cmdOf (sqeOf 2 1 [40, 0, 0]) true) clearNs false = false ∧
    s.get SQR_STAT_READY = 1 ∧ s.tenOf 0 = some 5 ∧ s.get SQR_RA_EN = 0 ∧ s.lookupKey ⟨some 5, 0, 40⟩ = .miss ∧ s.red.written = [] ∧
    clearNs.lbaf = 0 ∧ s.sqr.readEnds = [] := by decide +kernel

theorem test_read_dirty :
    let n := nsOf 1 6
    let r : ReadInput := ⟨[], [], ⟨false, 0, false⟩⟩
    let g : Page := { pageOf .dirty 40 with data := [], pmeta := [], ecrc := crc32c [] }
    let s := (ioNs n 2 [40, 0, 0]).setPage 9 g
    let v := (ioNs n 0xC [40, 0, 0]).setPage 9 g
    let t := nx (.read 7 r) s
    s.findPage ⟨some 5, 0, 40⟩ = some 9 ∧ (s.page 9).st = .dirty ∧ (s.page 9).entryOk = true ∧ n.key = some ⟨0, 0⟩ ∧ n.pi = 0 ∧
    completedB 0 0 0 s t = true ∧ t.host.reply = [(7, [])] ∧ untouchedB [.sqr, .host, .rbt] s t ∧ completedB 0 0 0 v (nx (.verify 7 r) v) = true ∧
    (nx (.verify 7 r) v).host.reply = [] := by decide +kernel

theorem test_read_failed :
    let n := nsOf 1 6
    let r : ReadInput := ⟨[], [], ⟨false, 0, false⟩⟩
    let s := (ioNs n 2 [40, 0, 0]).modSqr (fun q => { q with readEnds := [(7, 40, 2, 0x81, 5)] })
    let t := nx (.read 7 r) s
    (t.cmd 7).map Cmd.phase = some .done ∧ (t.ctl 0).errors = [⟨1, 1, 77, 2, 0x81, 40, 5⟩] ∧
    ((t.ctl 0).cqs.map (fun q => q.waiting)) = [[], [⟨7, 1, 77, 2, 0x81, 0, true⟩]] ∧ untouchedB [.sqr, .host, .rbt] s t := by decide +kernel

theorem test_flush :
    let s := ioNs clearNs 0 []
    let t := nx (.flush 7) s
    let m := s.put RBT_ARB_DRCOAL 5
    let u := nx (.flush 7) m
    (t.cmd 7).map Cmd.phase = some (.draining 0) ∧ t.sqr.nextDrain = 1 ∧ t.get SQR_DRAIN_EPOCH = 1 ∧
    frameB [SQR_DRAIN_EPOCH] [.regs, .sqr, .rbt] s t ∧ u.rbt.merge = [7] ∧ (u.cmd 7).map Cmd.phase = some .merging ∧ untouchedB [.rbt] m u := by
  decide +kernel

theorem test_reservation_register :
    let s := ioNs clearNs 0xD [0]
    let t := nx (.reservationRegister 7 0 55) s
    let b := ioNs clearNs 0xD [2]
    let u := nx (.reservationRegister 7 0 55) b
    (t.host.ns.map (fun n => n.resv.regs)) = [[⟨0, 55, 0⟩]] ∧ (t.host.ns.map (fun n => n.resv.gen)) = [1] ∧ completedB 0 0 0 s t = true ∧
    untouchedB [.host, .rbt] s t ∧ u.host.ns = b.host.ns ∧ completedB 0 0x83 0 b u = true ∧ added b u = [(13, 0)] ∧
    untouchedB [.host, .rbt, .flt] b u := by decide +kernel

theorem test_reservation_report :
    let s := ioNs (heldNs 1) 0xE [0]
    let t := nx (.reservationReport 7) s
    (t.host.reply.map (fun r => r.2.take 7)) = [[4, 0, 0, 0, 1, 1, 0]] ∧ completedB 0 0 0 s t = true ∧ untouchedB [.host, .rbt] s t := by
  decide +kernel

theorem test_reservation_acquire :
    let n : Namespace := { clearNs with resv := ⟨[⟨0, 55, 0⟩], 0, 0, 4, false⟩ }
    let s := ioNs n 0x11 [3 * 256]
    let t := nx (.reservationAcquire 7 55 0) s
    let u := nx (.reservationAcquire 7 56 0) s
    (t.host.ns.map (fun n => (n.resv.typ, n.resv.holder))) = [(3, 0)] ∧ completedB 0 0 0 s t = true ∧ untouchedB [.host, .rbt] s t ∧
    completedB 0 0x83 0 s u = true ∧ added s u = [(13, 0)] ∧ untouchedB [.host, .rbt, .flt] s u := by decide +kernel

theorem test_reservation_release :
    let n : Namespace := { clearNs with resv := ⟨[⟨0, 55, 0⟩], 2, 0, 4, false⟩ }
    let s := ioNs n 0x15 [2 * 256]
    let t := nx (.reservationRelease 7 55) s
    (t.host.ns.map (fun n => n.resv.typ)) = [0] ∧ completedB 0 0 0 s t = true ∧ untouchedB [.host, .rbt] s t := by decide +kernel

/-! ### Firmware images -/

/-- The envelope of an OM of body "OM", signed with a P-384 key and a nonce chosen for this test; hash and signature were
computed outside the model by the published algorithms. -/
def omEnv : List Byte :=
  beNum 72 0x4258494d05010003090000006400000002000000000000003be233ea8b3b63abd696b5dc8f59501c7d3ff7a29363bbdb50e5e90e1664e98ea6f8782b3ba77f390a9cb5496f8ec27c
    ++ beNum 104 0x040e2a6dec9d2b66068f44d66230316468f879062b0062f6e64c81263eef27c80980c2b9ddd0434c02bd5a3759b069920f6b9f3967b78cd7e64532a1961333df2b0c0bb4935d975524971656187dc2513be780a0a11b855499043962c35f90b30800000000000000
    ++ beNum 96 0x76241818fec27d64d1d72b4bfcf42da50250aaeb3652c17fb1247ffc1afd286a5aad628ce43ad77ef40257660d8d134556810518ce8bfa8131d2646aeea20273f417d27900e2b28752a517f9dc975c03515c6fe9f69813aa9c3a0f2b92110fb0
    ++ List.replicate 240 0

/-- SHA-384 of the public key in it. -/
def omRoot : List Byte := beNum 48 0x76a6c29dbab9334948e3095ad88859f0317bbc16949bd42b41c01dccb661158b038da0251a3cc6947665788306f14416

/-- An OM of one microword and one nanoword. -/
def om : AvImage := ⟨omEnv, [0x4F, 0x4D], [(3072, 3072 * 2 ^ 28 + 3072 * 2 ^ 16 + 768 * 64)], [(768, 0)], 0, [], [(5, 3072)]⟩

/-- A claimed device whose owner slot 0 holds that root, with Avenue 0's sequencer parked under an AM of interface version 9. -/
def omState : State :=
  let s := puts [(TGT_STAT_LIFE, 2), (TGT_ROOT_OWNVALID, 1), (AV_SEQVER_AMIF 0, 9), (AV_SEQSTAT_STATE 0, 4), (AV_SEQCTL_HOLD 0, 1)] r0
  { s with tgt := { s.tgt with owners := [some omRoot, none, none, none] } }

/-- The OM verifies: its key hashes to the root, its signature verifies, and its body has its digest. -/
theorem test_ecdsa : omState.verifyStep (imageOf om) = 0 := by decide +kernel

theorem test_om_check : omState.omCheck 0 om = none ∧ (imageOf om).cls = 5 ∧ omState.seqState 0 = 4 := by decide +kernel

/-- An AM signed by an owner is refused at step 2. -/
theorem test_am_refused :
    let y := { om with env := omEnv.set 4 1 }
    (imageOf y).cls = 1 ∧ omState.verifyStep (imageOf y) = 2 ∧ added omState (nx (.amLoad 0 y) omState) = [(998, 0)] ∧
    untouchedB [.flt] omState (nx (.amLoad 0 y) omState) := by decide +kernel

theorem test_download :
    let s := adm 0x11 [] { r0 with pwr := { r0.pwr with partials := [(0, [1, 2])] } }
    let t := nx (.firmwareImageDownload 7 ⟨2, [3]⟩) s
    let u := nx (.firmwareImageDownload 7 ⟨1, [3]⟩) s
    t.pwr.partials = [(0, [1, 2]), (2, [3])] ∧ completedB 0 0 0 s t = true ∧ untouchedB [.pwr, .host, .rbt] s t ∧
    completedB 1 0x14 0 s u = true ∧ untouchedB [.host, .rbt] s u := by decide +kernel

/-- A manifest of an owner, as bytes. -/
def aManifest : Image := ⟨List.replicate 4 0 ++ [6], []⟩

theorem test_commit :
    let m (s : State) : State := { s with pwr := { s.pwr with slotB := some aManifest } }
    let s := m (adm 0x10 [2 + 8 * 2] r0)
    let t := nx (.firmwareCommit 7) s
    let e := adm 0x10 [2 + 8 * 3] r0
    let n := adm 0x10 [2] r0
    let x0 := adm 0x10 [1] r0
    let x : State := { x0 with tgt := { x0.tgt with loaded := x0.tgt.loaded.set 6 (some ⟨[], 0, 0, 0⟩) } }
    s.get PWR_STATE_STATE ≠ 5 ∧ t.pwr = { s.pwr with active := true } ∧ t.get PWR_IMG_ACTIVE = 1 ∧ completedB 0 0 0 s t = true ∧
    frameB [PWR_IMG_ACTIVE] [.regs, .pwr, .host, .rbt] s t ∧ completedB 1 7 0 e (nx (.firmwareCommit 7) e) = true ∧
    n.stagedImages = some [] ∧ completedB 1 7 0 n (nx (.firmwareCommit 7) n) = true ∧
    completedB 1 6 0 x (nx (.firmwareCommit 7) x) = true ∧ untouchedB [.host, .rbt] x (nx (.firmwareCommit 7) x) := by decide +kernel

/-- In Cul-de-sac mode a commit also sets ATTEMPTS := 0 (R544); claim mode leaves it (R546). -/
theorem test_commit_restricted :
    let m (k : Nat) : State :=
      let s := puts [(PWR_STATE_STATE, k)] (adm 0x10 [2 + 8 * 2] r0)
      { s with pwr := { s.pwr with slotB := some aManifest, attempts := 3 } }
    (nx (.firmwareCommit 7) (m 5)).pwr = { (m 5).pwr with active := true, attempts := 0, restart := true } ∧
    (nx (.firmwareCommit 7) (m 6)).pwr = { (m 6).pwr with active := true, restart := true } := by decide +kernel

/-- Staged bytes that are no image. -/
theorem test_commit_no_images :
    let s0 := adm 0x10 [2] r0
    let s : State := { s0 with pwr := { s0.pwr with partials := [(0, [1, 2])] } }
    s.stagedImages = none ∧ completedB 1 7 0 s (nx (.firmwareCommit 7) s) = true := by decide +kernel

/-- What an activation without reset asks of the state: another command in flight, and no notice asked for. -/
theorem test_activation_hyps :
    let s0 := adm 0x10 [2 + 8 * 3] r0
    let s : State := { s0 with rbt := { s0.rbt with cmds := s0.rbt.cmds ++ [{ cmdOf (sqeOf 2 1 []) true with tag := 8 }] } }
    s.restricted = false ∧ (s.adminCmd 7 0x10).isSome = true ∧ (List.range 128).all (fun f => (s.ctl f).feat 0xB == 0) = true := by
  decide +kernel

theorem test_activation_switch_hyps :
    let s0 : State := r0.put RBT_ACT_STEP 5
    let s : State := { s0 with rbt := { s0.rbt with act := some ⟨7, 2, some 0⟩ } }
    s.get RBT_ACT_STEP = 5 ∧ nx (.activationSwitch none) s = s := by decide +kernel

theorem test_activation_abort :
    let s0 : State := flying { cmdOf (sqeOf 2 1 []) true with tag := 8 } (r0.put RBT_ACT_STEP 3)
    let s : State := { s0 with rbt := { s0.rbt with act := some ⟨7, 2, none⟩ } }
    let t := nx .activationAbortTimeout s
    (t.cmd 8).map Cmd.phase = some .done ∧ ((t.ctl 0).cqs.map (fun q => q.waiting)) = [[], [⟨8, 1, 77, 7, 0xC1, 0, false⟩]] ∧
    added s t = [(147, 0)] ∧ t.rbt.act = s.rbt.act ∧ t.get RBT_ACT_STEP = 3 ∧ untouchedB [.arc, .host, .rbt, .flt] s t := by decide +kernel

theorem test_security_commands :
    let s := adm 0x81 [0xE8 * 2 ^ 24] r0
    let b := adm 0x81 [0] r0
    let g0 := adm 0x82 [0xE8 * 2 ^ 24, 6] r0
    let g : State := { g0 with tgt := { g0.tgt with response := [(0, some .finishRsp)] } }
    let t := nx (.securityReceive 7) g
    completedB 0 0 0 s (nx (.securitySend 7) s) = true ∧ untouchedB [.host, .rbt] s (nx (.securitySend 7) s) ∧
    completedB 0 2 0 b (nx (.securitySend 7) b) = true ∧ t.host.reply = [(7, [0x12, 0x65, 0, 0])] ∧ completedB 0 0 0 g t = true ∧
    untouchedB [.host, .rbt] g t := by decide +kernel

theorem test_floor_advance :
    let s0 := adm 0xCE [1, 0, 0] (claimed r0)
    let s : State := { adm 0xCE [1 + 4 * 256, 0, 0] (claimed r0) with tgt := { s0.tgt with loaded := s0.tgt.loaded.set 1 (some ⟨[], 4, 0, 0⟩) } }
    let u := nx (.antiRollbackAdvance 7 (some 0)) s
    let z : State := { s0 with tgt := s.tgt }
    s.floor 1 = 0 ∧ u.floor 1 = 0 ∧ added s u = [(1016, 0)] ∧ untouchedB [.flt, .host, .rbt] s u ∧
    completedB 0 2 6 z (nx (.antiRollbackAdvance 7 none) z) = true ∧ untouchedB [.host, .rbt] z (nx (.antiRollbackAdvance 7 none) z) := by
  decide +kernel

theorem test_floor_advanced :
    let s0 := adm 0xCE [1 + 1 * 256, 0, 0] (claimed r0)
    let s : State := { s0 with tgt := { s0.tgt with loaded := s0.tgt.loaded.set 1 (some ⟨[], 4, 0, 0⟩) } }
    let t := nx (.antiRollbackAdvance 7 none) s
    t.floor 1 = 1 ∧ t.floor 0 = 0 ∧ added s t = [(1000, 0)] ∧ completedB 0 0 0 s t = true := by decide +kernel


/-! ### Owner commands, tenancies and namespaces -/

/-- A tenancy's key record. -/
def tenKey1 : TenantKey := ⟨1, 5, some 5, 6, none⟩

/-- A claimed device with tenancy 5, good entropy or none. -/
def tenanted (ent : Nat) : State :=
  let s := puts [(TGT_STAT_LIFE, 2), (TGT_STAT_ENTOK, ent)] region6
  { s with tgt := { s.tgt with tens := [(5, some tenKey1)] }, host := { s.host with ns := [] } }

theorem test_claim :
    let s := adm 0xC8 [] r0
    let t := nx (.ownerClaim 7 [1, 2]) s
    let b := adm 0xC8 [] (claimed r0)
    s.get TGT_STAT_LIFE = 1 ∧ t.get TGT_STAT_LIFE = 2 ∧ t.get TGT_ROOT_OWNVALID = 1 ∧ (t.tgt.owners.getD 0 none).isSome = true ∧
    added s t = [(1014, 0)] ∧ completedB 0 0 0 s t = true ∧ frameB [TGT_STAT_LIFE, TGT_ROOT_OWNVALID] [.regs, .tgt, .flt, .host, .rbt] s t ∧
    completedB 0 2 1 b (nx (.ownerClaim 7 [1, 2]) b) = true ∧ untouchedB [.host, .rbt] b (nx (.ownerClaim 7 [1, 2]) b) := by decide +kernel

theorem test_root_update :
    let s := adm 0xC9 [2] (claimed r0)
    let t := nx (.ownerRootUpdate 7 [1]) s
    let r := adm 0xC9 [2 + 256] (claimed r0)
    let u := nx (.ownerRootUpdate 7 []) r
    let b := adm 0xC9 [0 + 256] (claimed r0)
    t.get TGT_ROOT_OWNVALID = 4 ∧ (t.tgt.owners.getD 2 none).isSome = true ∧ added s t = [(1015, 0)] ∧ completedB 0 0 0 s t = true ∧
    u.get TGT_ROOT_OWNREV = 4 ∧ added r u = [(1015, 0)] ∧ completedB 0 0 0 r u = true ∧
    completedB 0 2 5 b (nx (.ownerRootUpdate 7 []) b) = true ∧ untouchedB [.host, .rbt] b (nx (.ownerRootUpdate 7 []) b) := by decide +kernel

theorem test_tenancy_create :
    let s := adm 0xCA [9 + 256] (tenanted 1)
    let t := nx (.tenancyCreate 7) s
    let b := adm 0xCA [9] (tenanted 0)
    let u := nx (.tenancyCreate 7) b
    s.tenKey 9 = none ∧ (t.tenKey 9).isSome = true ∧ t.get (TGT_TEN_EXIST 9) = 1 ∧ t.get (TGT_TEN_LOCKREQ 9) = 1 ∧
    t.get (TGT_TEN_STATE 9) = 2 ∧ added s t = [(1004, 0)] ∧ completedB 0 0 0 s t = true ∧ completedB 0 2 8 b u = true ∧
    added b u = [(997, 0)] ∧ untouchedB [.flt, .host, .rbt] b u := by decide +kernel

theorem test_tenancy_delete :
    let s := adm 0xCB [5] (tenanted 1)
    let t := nx (.tenancyDelete 7) s
    let b : State := { s with host := { s.host with ns := [nsOf 1 6] } }
    s.tenKey 5 ≠ none ∧ (List.range 128).all (fun f => !s.boundTo 5 f) = true ∧ t.tenKey 5 = none ∧ t.rd (TGT_TEN 5) = 0 ∧
    added s t = [(1005, 0)] ∧ completedB 0 0 0 s t = true ∧ untouchedB [.regs, .tgt, .flt, .host, .rbt] s t ∧
    completedB 0 2 3 b (nx (.tenancyDelete 7) b) = true ∧ untouchedB [.host, .rbt] b (nx (.tenancyDelete 7) b) := by decide +kernel

theorem test_bind :
    let s := adm 0xCC [1 + 5 * 256] (tenanted 1)
    let t := nx (.controllerBind 7) s
    let b := adm 0xCC [1 + 2 ^ 15] (puts [(TGT_BIND_BOUND 1, 1), (TGT_BIND_TEN 1, 5)] (tenanted 1))
    let u := nx (.controllerBind 7) b
    (s.ctl 1).en = true ∧ t.get (TGT_BIND_TEN 1) = 5 ∧ t.get (TGT_BIND_BOUND 1) = 1 ∧ completedB 0 0 0 s t = true ∧
    frameB [TGT_BIND_TEN 1, TGT_BIND_BOUND 1] [.regs, .host, .rbt] s t ∧ u.get (TGT_BIND_BOUND 1) = 0 ∧ completedB 0 0 0 b u = true ∧
    frameB [TGT_BIND_TEN 1, TGT_BIND_BOUND 1] [.regs, .host, .rbt] b u := by decide +kernel

theorem test_tenancy_erase :
    let s := adm 0xCD [5] (tenanted 1)
    let t := nx (.tenancyCryptoErase 7) s
    let b := adm 0xCD [5] (tenanted 0)
    let u := nx (.tenancyCryptoErase 7) b
    (t.tenKey 5).map TenantKey.gen = some 2 ∧ added s t = [(1006, 0)] ∧ completedB 0 0 0 s t = true ∧ added b u = [(997, 0)] ∧
    completedB 0 2 8 b u = true ∧ untouchedB [.flt, .host, .rbt] b u := by decide +kernel

theorem test_sanitize :
    let s := adm 0x84 [4] (tenanted 1)
    let t := nx (.sanitize 7) s
    let b0 := adm 0x84 [4] { tenanted 1 with host := { (tenanted 1).host with ns := [nsOf 1 6] } }
    let b : State := { b0 with rbt := { b0.rbt with cmds := b0.rbt.cmds ++ [{ cmdOf (sqeOf 1 1 []) true with tag := 8, order := 2 }] } }
    KMap.wf (fun _ => none) s.tgt.tens = true ∧ (t.tenKey 5).map TenantKey.gen = some 2 ∧ added s t = [(1007, 0)] ∧
    completedB 0 0 0 s t = true ∧ b.scopeBusy (cmdOf (sqeOf 0x84 1 [4]) false) b.host.ns = true ∧ nx (.sanitize 7) b = b := by decide +kernel

/-- An admin command on a device that holds namespace 1, with a block written. -/
def admNs (op : Nat) (c : List Nat) (ent : Nat) : State :=
  let s := tenanted ent
  adm op c { s with host := { s.host with ns := [nsOf 1 6] }, red := { s.red with written := [(6, 7), (7, 7)] } }

theorem test_format :
    let s := admNs 0x80 [1 + 32] 1
    let t := nx (.formatNvm 7) s
    let b := admNs 0x80 [1 + 32 + 512] 0
    let u := nx (.formatNvm 7) b
    let x := admNs 0x80 [1] 1
    s.nsFor 0 1 = some (nsOf 1 6) ∧ s.scopeBusy (cmdOf (sqeOf 0x80 1 [1 + 32]) false) [nsOf 1 6] = false ∧ (1, 1) ∈ lbaFormats ∧
    t.host.ns = [{ nsOf 1 6 with lbaf := 1, pi := 1 }] ∧ t.red.written = [(7, 7)] ∧ completedB 0 0 0 s t = true ∧
    untouchedB [.sqr, .red, .host, .rbt] s t ∧ added b u = [(997, 0)] ∧ completedB 0 2 8 b u = true ∧ (1, 0) ∉ lbaFormats ∧
    completedB 1 0x0A 0 x (nx (.formatNvm 7) x) = true := by decide +kernel

theorem test_namespace_create :
    let p : NamespaceSpec := ⟨1000, 0, 0, 6, 0⟩
    let s := adm 0xC0 [0, 5, 10] (tenanted 0)
    let t := nx (.namespaceCreate 7 p) s
    let b := adm 0xC0 [0, 9, 10] (tenanted 1)
    s.freeNsid = some 1 ∧ s.rLayout 6 false = 2 ∧ (0, 0) ∈ lbaFormats ∧ s.tenKey 5 ≠ none ∧
    p.base + p.size ≤ 128 * capacity (s.rLayout 6 false) (s.rMask 6 false) (s.rAlen 6 false) ∧ added s t = [(997, 0)] ∧
    completedB 0 2 8 s t = true ∧ completedB 0 2 2 b (nx (.namespaceCreate 7 p) b) = true ∧
    untouchedB [.host, .rbt] b (nx (.namespaceCreate 7 p) b) := by decide +kernel

theorem test_namespace_delete :
    let s := admNs 0xC1 [] 1
    let t := nx (.namespaceDelete 7) s
    let b : State := { s with rbt := { s.rbt with cmds := s.rbt.cmds ++ [{ cmdOf (sqeOf 1 1 []) true with tag := 8, order := 2 }] } }
    t.host.ns = [] ∧ t.red.written = [(7, 7)] ∧ completedB 0 0 0 s t = true ∧ frameB [TGT_TEN_NNS 5] [.regs, .sqr, .red, .host, .rbt] s t ∧
    b.scopeBusy (cmdOf (sqeOf 0xC1 1 []) false) [nsOf 1 6] = true ∧ nx (.namespaceDelete 7) b = b := by decide +kernel

theorem test_attach :
    let s := (admNs 0xC2 [] 1).put (TGT_BIND_BOUND 1) 1 |>.put (TGT_BIND_TEN 1) 5
    let t := nx (.namespaceAttachDetach 7 1 true) s
    let u := nx (.namespaceAttachDetach 7 0 false) s
    let x := nx (.namespaceAttachDetach 7 2 true) s
    t.host.ns = [{ nsOf 1 6 with attached := [0, 1] }] ∧ (t.ctl 1).events = [(2, 0)] ∧ (t.ctl 1).changedNs = [1] ∧
    completedB 0 0 0 s t = true ∧ untouchedB [.host, .rbt] s t ∧ u.host.ns = [{ nsOf 1 6 with attached := [] }] ∧
    (u.ctl 0).events = [(2, 0)] ∧ completedB 0 0 0 s u = true ∧ completedB 0 2 0 s x = true ∧ untouchedB [.host, .rbt] s x := by decide +kernel

theorem test_debug_unlock :
    let s0 := adm 0xCF [2] (claimed { region6 with tgt := { r0.tgt with kseal := some 1, dik := true } })
    let s : State := { s0 with tgt := { s0.tgt with unlock := some (2, 0) } }
    let t := nx (.debugUnlock 7 [] []) s
    s.drainOver 0 = true ∧ t.tgt.debugOpen = true ∧ t.tgt.kseal = none ∧ t.tgt.dik = false ∧ t.tgt.drsBlocked = true ∧ t.tgt.drs = none ∧
    (t.host.ns.all (fun n => n.key.isNone)) = true ∧ (t.ctl 100).cfs = true ∧ t.get TGT_STAT_DBG = 2 ∧ t.get TGT_STAT_LIFE = 3 ∧
    added s t = [(1011, 0)] ∧ completedB 0 0 0 s t = true := by decide +kernel

theorem test_debug_refused :
    let s := adm 0xCF [0] (claimed r0)
    let t := nx (.debugUnlock 7 [] []) s
    s.tokenOk 0 [] [] = false ∧ s.tgt.unlock = none ∧ added s t = [(1010, 0)] ∧
    completedB 0 2 7 s t = true ∧ t.tgt = s.tgt := by decide +kernel

/-! ### SPDM and credentials -/

/-- The response that controller 1 last received. -/
def respOf (t : State) : Option SpdmResponse := KMap.get (fun _ => none) t.tgt.response 1

/-- What a response alone changes. -/
def spdmOnlyB (s t : State) : Bool :=
  decide (t.tgt = { s.tgt with response := t.tgt.response, conn := t.tgt.conn, sessions := t.tgt.sessions }) && untouchedB [.tgt, .freeCtr] s t

/-- A device with its identity key, chains, good entropy, and a connection that has come to a stage. -/
def spdmAt (k : Nat) : State :=
  let s := r0.put TGT_STAT_ENTOK 1
  { s with tgt := { s.tgt with dik := true, conn := [(1, k)], cert0 := [1, 2, 3] } }

theorem test_spdm_connection :
    let v := nx (.getVersion 1) (spdmAt 3)
    let c := nx (.getCapabilities 1) (spdmAt 1)
    let e := nx (.getCapabilities 1) (spdmAt 0)
    let a := nx (.negotiateAlgorithms 1 true) (spdmAt 2)
    let n := nx (.negotiateAlgorithms 1 false) (spdmAt 2)
    let d := nx (.getDigests 1) (spdmAt 2)
    respOf v = some .version ∧ v.conn 1 = 1 ∧ spdmOnlyB (spdmAt 3) v = true ∧ respOf c = some .capabilities ∧ c.conn 1 = 2 ∧
    spdmOnlyB (spdmAt 1) c = true ∧ respOf e = some (.error 4) ∧ respOf a = some .algorithms ∧ a.conn 1 = 3 ∧ respOf n = some (.error 1) ∧
    respOf d = some (.error 4) ∧ spdmOnlyB (spdmAt 2) d = true := by decide +kernel

theorem test_spdm_answers :
    let s := spdmAt 3
    let c := nx (.getCertificate 1 0 1 1) s
    let m := nx (.getMeasurements 1 false) s
    let z : State := { s with tgt := { s.tgt with dik := false } }
    let u := nx (.getMeasurements 1 true) z
    s.tgt.cert0 ≠ [] ∧ s.tgt.cert1 = [] ∧ respOf c = some (.certificate 0 [2] 1) ∧ spdmOnlyB s c = true ∧
    respOf m = some (.measurements s.measurementBlocks none) ∧ spdmOnlyB s m = true ∧ respOf u = some (.error 5) ∧ untouchedB [.tgt] z u ∧
    s.tgt.drs ≠ none ∧ s.chainOf 0 ≠ [] ∧ (nx (.challenge 1 0) s).freeCtr = 2 := by decide +kernel

theorem test_digests : respOf (nx (.getDigests 1) (spdmAt 3)) = some (.digests [(0, sha384 [1, 2, 3])]) := rfl

/-- Controller 1 has a session. -/
def sessionOf (x : Session) (k : Nat) : State :=
  let s := puts [(TGT_STAT_LIFE, k), (TGT_CTL_HBEAT, 1)] (spdmAt 3)
  { s with tgt := { s.tgt with sessions := [x] }, tim := { s.tim with now := 100000005 } }

def newSession : Session := ⟨1, false, none, false, false, 0, 0, 5⟩

theorem test_key_exchange :
    let s : State := { spdmAt 3 with tim := { r0.tim with now := 44 } }
    let t := nx (.keyExchange 1 false) s
    let o : State := { s with tgt := { s.tgt with sessions := [⟨0, true, none, false, false, 0, 0, 5⟩] } }
    let b := sessionOf newSession 2
    t.tgt.sessions = [⟨1, false, none, false, false, 0, 0, 44⟩] ∧ t.get TGT_STAT_NSESS = 1 ∧ frameB sessionFlds [.regs, .tgt, .freeCtr] s t ∧
    respOf (nx (.keyExchange 1 true) o) = some (.error 3) ∧ spdmOnlyB o (nx (.keyExchange 1 true) o) = true ∧
    respOf (nx (.keyExchange 1 false) b) = some (.error 0xA) ∧ spdmOnlyB b (nx (.keyExchange 1 false) b) = true := by decide +kernel

theorem test_finish :
    let s := sessionOf newSession 2
    let t := nx (.finish 1 ⟨true, true⟩) s
    let c0 := sessionOf { newSession with fn := 0 } 1
    let u := nx (.finish 0 ⟨true, true⟩) c0
    t.session 1 = some { newSession with established := true, last := 100000005 } ∧ respOf t = some .finishRsp ∧ spdmOnlyB s t = true ∧
    u.session 0 = some { newSession with fn := 0, established := true, owner := true, last := 100000005 } ∧ u.get TGT_STAT_OSESS = 1 ∧
    added c0 u = [(1001, 0)] ∧ frameB sessionFlds [.regs, .tgt, .flt] c0 u := by decide +kernel

theorem test_finish_owner :
    let x : Session := { newSession with mutAuth := true, chain := some ⟨[9], true⟩ }
    let s0 := puts [(TGT_ROOT_OWNVALID, 4)] (sessionOf x 2)
    let s : State := { s0 with tgt := { s0.tgt with owners := [none, none, some (sha384 [9]), none] } }
    let t := nx (.finish 1 ⟨true, true⟩) s
    let b := sessionOf { newSession with mutAuth := true } 2
    let u := nx (.finish 1 ⟨true, true⟩) b
    s.ownerSlot x.chain = some 2 ∧ t.session 1 = some { x with established := true, owner := true, slot := 2, last := 100000005 } ∧
    t.get TGT_STAT_OSFN = 1 ∧ t.get TGT_ROOT_OSLOT = 2 ∧ added s t = [(1001, 0)] ∧ u.session 1 = none ∧
    countedB TGT_CNT_AUTHFAIL b u = true ∧ added b u = [(1003, 0)] ∧ respOf u = some (.error 5) ∧
    frameB (TGT_CNT_AUTHFAIL :: sessionFlds) [.regs, .tgt, .flt] b u := by decide +kernel

theorem test_encapsulated :
    let s := sessionOf { newSession with mutAuth := true } 2
    let t := nx (.getEncapsulatedRequest 1) s
    let u := nx (.deliverEncapsulatedResponse 1 ⟨[9], true⟩) s
    respOf t = some .encapsulatedRequest ∧ spdmOnlyB s t = true ∧ respOf u = some .encapsulatedResponseAck ∧
    (u.session 1).bind Session.chain = some ⟨[9], true⟩ ∧ spdmOnlyB s u = true := by decide +kernel

theorem test_session :
    let x : Session := { newSession with established := true }
    let s := sessionOf x 2
    let h := nx (.heartbeat 1) s
    let k := nx (.keyUpdate 1) s
    let e := nx (.endSession 1) s
    let l := nx (.sessionHeartbeatExpiry 1) s
    let y := sessionOf { x with last := 6 } 2
    h.session 1 = some { x with last := 100000005 } ∧ respOf h = some .heartbeatAck ∧ (k.session 1).map Session.updates = some 1 ∧
    respOf k = some .keyUpdateAck ∧ spdmOnlyB s k = true ∧ e.session 1 = none ∧ respOf e = some .endSessionAck ∧
    frameB sessionFlds [.regs, .tgt] s e ∧ s.get TGT_CTL_HBEAT = 1 ∧ l.session 1 = none ∧ frameB sessionFlds [.regs, .tgt] s l ∧
    nx (.sessionHeartbeatExpiry 1) y = y := by decide +kernel

/-- An owner session on controller 0 with the setup window open, and one on controller 1. -/
def ownerOf (f : Nat) : State :=
  let s := sessionOf { newSession with fn := f, established := true, owner := true } 2
  { s with bus := { s.bus with winOpen := true, page := 4 } }

theorem test_owner_session_ends :
    let s := ownerOf 0
    let t := nx (.endSession 0) s
    let u := nx (.endSession 1) (ownerOf 1)
    t.session 0 = none ∧ t.bus.winOpen = false ∧ t.bus.page = 0 ∧ added s t = [(1002, 0), (15, 0)] ∧
    frameB sessionFlds [.regs, .bus, .tgt, .flt] s t ∧ added (ownerOf 1) u = [(1002, 0)] ∧ u.bus = (ownerOf 1).bus := by decide +kernel

theorem test_owner_certificate :
    let s := ownerOf 1
    let t := nx (.setCertificate 1 1 [7, 7]) s
    let u := nx (.setCertificate 1 0 [7, 7]) s
    s.ownerFn = some 1 ∧ s.tgt.drs ≠ none ∧ s.tgt.dik = true ∧ s.get TGT_STAT_ENTOK = 1 ∧ t.tgt.cert1 = [7, 7] ∧ t.tgt.cert0 = s.tgt.cert0 ∧
    respOf t = some .setCertificateRsp ∧ untouchedB [.tgt] s t ∧ respOf u = some (.error 1) ∧ u.tgt.cert1 = s.tgt.cert1 ∧
    spdmOnlyB s u = true ∧ (nx (.getCsr 1) s).freeCtr = 1 := by decide +kernel

/-- A tenant's session on controller 1, bound to a LOCKREQ tenancy in a state, with namespace 1. -/
def tenantAt (st fails : Nat) : State :=
  let s := puts [(TGT_BIND_BOUND 1, 1), (TGT_BIND_TEN 1, 5), (TGT_TEN_LOCKREQ 5, 1), (TGT_TEN_EXIST 5, 1), (TGT_TEN_STATE 5, st), (TGT_TEN_FAILS 5, fails)]
    (sessionOf { newSession with established := true } 2)
  { s with tgt := { s.tgt with tens := [(5, some ⟨1, 9, none, 6, none⟩)] }, host := { s.host with ns := [{ nsOf 1 6 with key := none }] } }

/-- The credential key's label is the implementation's, so that what a right credential does is shown by its hypotheses alone. -/
theorem test_credential_hyps :
    let s := tenantAt 2 0
    (s.session 1).map Session.established = some true ∧ s.tenOf 1 = some 5 ∧ s.get (TGT_TEN_LOCKREQ 5) = 1 ∧
    s.tenKey 5 = some ⟨1, 9, none, 6, none⟩ ∧ s.get (TGT_TEN_STATE 5) = 2 ∧ (nx (.credentialSet 1 (List.replicate 32 1)) s).tgt.conn = s.tgt.conn := by
  decide +kernel

/-- A tenancy whose stored credential key is that of a credential meets what UNLOCK and CHANGE ask. -/
theorem test_credential_right (cred : List Byte) :
    let s : State := { tenantAt 1 0 with tgt := { (tenantAt 1 0).tgt with tens := [(5, some ⟨1, 9, none, 6, some (credentialKey cred 6)⟩)] } }
    s.tenKey 5 = some ⟨1, 9, none, 6, some (credentialKey cred 6)⟩ := rfl

theorem test_credential_state :
    (tenantAt 1 0).get (TGT_TEN_STATE 5) = 1 ∧ (tenantAt 1 0).get (TGT_TEN_FAILS 5) = 0 := by decide +kernel

theorem test_credential_wrong :
    let s := tenantAt 1 4
    let t := nx (.credentialUnlock 1 (List.replicate 32 1)) s
    s.get (TGT_TEN_STATE 5) ≠ 2 ∧ s.get (TGT_TEN_FAILS 5) = 4 ∧ t.get (TGT_TEN_FAILS 5) = 5 ∧ respOf t = some (.error 5) ∧
    added s t = [(1008, 0), (1009, 0)] ∧ frameB [TGT_TEN_FAILS 5] [.regs, .tgt, .flt] s t := by decide +kernel

theorem test_entropy :
    let s := spdmAt 0
    let t := nx .entropyHealthFail s
    let u := nx .entropyHealthRecover r0
    t.get TGT_STAT_ENTOK = 0 ∧ countedB TGT_CNT_ENTFAIL s t = true ∧ added s t = [(996, 0)] ∧
    frameB [TGT_STAT_ENTOK, TGT_CNT_ENTFAIL] [.regs, .flt] s t ∧ u.get TGT_STAT_ENTOK = 1 ∧ frameB [TGT_STAT_ENTOK] [.regs] r0 u := by decide +kernel

/-! ### The Arcade -/

/-- A control block whose fields, by offset and width in bytes, have values. -/
def cbOf (ps : List (Nat × Nat × Nat)) : List Byte :=
  (List.range 384).map (fun i => match ps.find? (fun p => decide (p.1 ≤ i ∧ i < p.1 + p.2.1)) with
    | some p => BitVec.ofNat 8 (p.2.2 / 256 ^ (i - p.1))
    | none => 0)

/-- An object of key "A" in one block, and the namespace that holds it. -/
def objA : ObjEntry := ⟨[65], [(40, 1)], 1, 100, 3, [1, 2]⟩
def arcNs : Namespace := { nsOf 1 6 with icap := 10, objects := [objA] }

/-- An Arcade command on it. -/
def arcCmd (op : Nat) : State := ioNs arcNs op [0, 0, 0]

/-- The results of a command. -/
def resultOf (s t : State) (o : ArcOut) (sct sc : Nat) : Bool := t.host.results == [(7, o.bytes sct sc s.time)]

theorem test_arcade_refused :
    let s := arcCmd 0x90
    let cb := cbOf [(0, 2, 2), (2, 1, 0x90)]
    let t := nx (.digest 7 (some cb)) s
    s.cbCheck 0 (sqeOf 0x90 1 [0, 0, 0]) cb = some 0 ∧ completedB 0 2 0 s t = true ∧ resultOf s t { errfield := 0 } 0 2 = true ∧
    untouchedB [.arc, .host, .rbt] s t := by decide +kernel

/-- What a command asks of the state where it may start at once. -/
def mayRun (op : Nat) (cb : List Byte) (s : State) : Bool :=
  s.ioCmd 7 op == some (cmdOf (sqeOf op 1 [0, 0, 0]) true, arcNs) && s.cbCheck 0 (sqeOf op 1 [0, 0, 0]) cb == none
    && !s.barred (cmdOf (sqeOf op 1 [0, 0, 0]) true) arcNs && s.rbt.cmds.all (fun d => d.phase != .waitCtx) && s.arc.runs.isEmpty
    && !cbCtxv cb && s.freeCtx == some 0

/-- The command runs in context 0 on block `l`, for `len` bytes. -/
def runsB (e : Option ObjEntry) (cb : List Byte) (l len : Nat) (s t : State) : Bool :=
  (t.cmd 7).map Cmd.phase == some (.running 0) && t.arcRun 7 == some ⟨7, cb, e, [l], 0, len, []⟩
    && KMap.get (fun _ => none) t.arc.ctxTen 0 == some 5 && untouchedB [.arc, .rbt] s t

def putCb : List Byte := cbOf [(0, 2, 1), (2, 1, 0x84), (5, 1, 1), (16, 8, 100), (24, 1, 66), (139, 1, 1), (152, 6, 40), (158, 4, 1)]
def getCb : List Byte := cbOf [(0, 2, 1), (2, 1, 0x82), (5, 1, 1), (24, 1, 65)]
def rangeCb (op : Nat) : List Byte := cbOf [(0, 2, 1), (2, 1, op), (16, 8, 100), (136, 1, 1), (137, 1, 2), (138, 1, 1), (144, 8, 40)]

theorem test_arcade_put_get :
    let p := arcCmd 0x84
    let g := arcCmd 0x82
    mayRun 0x84 putCb p = true ∧ runsB none putCb 40 100 p (nx (.objectPut 7 (some putCb)) p) = true ∧
    extentsOk arcNs.size 100 (cbExtents putCb) = true ∧ mayRun 0x82 getCb g = true ∧
    runsB (some objA) getCb 40 100 g (nx (.objectGet 7 (some getCb)) g) = true := by decide +kernel

theorem test_arcade_sources :
    let d := arcCmd 0x90
    let v := arcCmd 0x94
    let e := arcCmd 0x8E
    mayRun 0x90 (rangeCb 0x90) d = true ∧ runsB none (rangeCb 0x90) 40 100 d (nx (.digest 7 (some (rangeCb 0x90))) d) = true ∧
    mayRun 0x94 (rangeCb 0x94) v = true ∧ runsB none (rangeCb 0x94) 40 100 v (nx (.arcadeVerify 7 (some (rangeCb 0x94))) v) = true ∧
    mayRun 0x8E (rangeCb 0x8E) e = true ∧ runsB none (rangeCb 0x8E) 40 100 e (nx (.encode 7 (some (rangeCb 0x8E))) e) = true := by
  decide +kernel

theorem test_arcade_delete :
    let cb := cbOf [(0, 2, 1), (2, 1, 0x88), (5, 1, 1), (24, 1, 65)]
    let no := cbOf [(0, 2, 1), (2, 1, 0x88), (5, 1, 1), (24, 1, 66)]
    let s := arcCmd 0x88
    let t := nx (.objectDelete 7 (some cb)) s
    let u := nx (.objectDelete 7 (some no)) s
    mayRun 0x88 cb s = true ∧ t.host.ns = [{ arcNs with objects := [] }] ∧ completedB 0 0 0 s t = true ∧ resultOf s t {} 0 0 = true ∧
    untouchedB [.arc, .host, .rbt] s t ∧ completedB 7 0xD0 0 s u = true ∧ u.host.ns = s.host.ns := by decide +kernel

theorem test_arcade_list :
    let cb := cbOf [(0, 2, 1), (2, 1, 0x8A), (140, 4, 4)]
    let s := arcCmd 0x8A
    let t := nx (.objectList 7 (some cb)) s
    mayRun 0x8A cb s = true ∧ t.host.reply = [(7, entryBytes objA)] ∧ completedB 0 0 0 s t = true ∧
    resultOf s t { count := 1 } 0 0 = true ∧ untouchedB [.arc, .host, .rbt] s t := by decide +kernel

/-- An Arcade command that runs in context 3 on block 40, which stands in page 9. -/
def stepping (op : Nat) (cb : List Byte) (e : Option ObjEntry) : State :=
  let s := (ioNs arcNs op [0, 0, 0]).setPage 9 { pageOf .dirty 40 with data := [], pmeta := [], ecrc := crc32c [] }
  { s with rbt := { s.rbt with cmds := s.rbt.cmds.map (fun c => { c with phase := .running 3 }) }
           arc := { s.arc with runs := [⟨7, cb, e, [40], 0, 100, []⟩] } }

def stepIn : StepInput := ⟨⟨[], [], ⟨false, 0, false⟩⟩, 0, false⟩

theorem test_arcade_step_hyps :
    let s := stepping 0x84 putCb none
    s.findPage ⟨s.tenOf 0, 0, 40⟩ = some 9 ∧ (s.page 9).st = .dirty ∧ (s.page 9).entryOk = true ∧ arcNs.key = some ⟨0, 0⟩ ∧
    arcNs.pi = 0 ∧ s.get ARC_CTL_SCALL = 0 ∧ cbFlag putCb 1 = false ∧ arcNs.object (cbKey putCb) = none ∧
    arcNs.objects.length < arcNs.icap ∧ cbDalg putCb = 0 ∧ (s.cmd 7).map Cmd.phase = some (.running 3) := by decide +kernel

theorem test_arcade_step_ends :
    let p := stepping 0x84 putCb none
    let t := nx (.arcadeStep 7 stepIn) p
    let g := stepping 0x82 getCb (some objA)
    let u := nx (.arcadeStep 7 stepIn) g
    let d := stepping 0x90 (rangeCb 0x90) none
    let v := nx (.arcadeStep 7 stepIn) d
    t.host.ns = [{ arcNs with objects := [objA, ⟨[66], [(40, 1)], 0, 100, 1, []⟩] }] ∧ completedB 0 0 0 p t = true ∧
    resultOf p t { objlen := 100, version := 1 } 0 0 = true ∧ untouchedB [.sqr, .arc, .host, .rbt] p t ∧
    u.host.reply = [(7, [])] ∧ completedB 0 0 0 g u = true ∧ resultOf g u { objlen := 100, version := 3, count := 100 } 0 0 = true ∧
    completedB 0 0 0 d v = true ∧ resultOf d v {} 0 0 = true := by decide +kernel

theorem test_arcade_step_checks :
    let p := stepping 0x94 (rangeCb 0x94) none
    let t := nx (.arcadeStep 7 stepIn) p
    let e := stepping 0x8E (rangeCb 0x8E) none
    let u := nx (.arcadeStep 7 stepIn) e
    completedB 0 0 0 p t = true ∧ resultOf p t { count := 100 } 0 0 = true ∧ completedB 0 0 0 e u = true ∧ u.host.reply = [(7, [])] ∧
    resultOf e u { count := 100, fraglen := 64 } 0 0 = true ∧ untouchedB [.sqr, .arc, .host, .rbt] e u := by decide +kernel

theorem test_arcade_context :
    let o := cbOf [(0, 2, 1), (2, 1, 0x80), (137, 1, 1)]
    let c := cbOf [(0, 2, 1), (2, 1, 0x80), (137, 1, 2)]
    let s := puts [(ARC_TENQ_QUOTA 5, 2), (ARC_CTXCFG_PMAX, 4)] (arcCmd 0x80)
    let t := nx (.arcadeContextOpen 7 (some o)) s
    let f := s.put (ARC_TENQ_QUOTA 5) 0
    let u := nx (.arcadeContextOpen 7 (some o)) f
    let h : State := { s.put (ARC_TENQ_USED 5) 1 with arc := { s.arc with persist := [⟨6, 0, 0, 5, 0, []⟩] } }
    let v := nx (.arcadeContextClose 7 (some c)) h
    s.freeCtx = some 0 ∧ t.arc.persist = [⟨0, 0, 0, 5, 0, []⟩] ∧ t.get (ARC_TENQ_USED 5) = 1 ∧ completedB 0 0 0 s t = true ∧
    frameB [ARC_TENQ_USED 5] [.regs, .arc, .host, .rbt] s t ∧ completedB 7 0xD4 0 f u = true ∧ added f u = [(1039, 0)] ∧
    v.arc.persist = [] ∧ v.get (ARC_TENQ_USED 5) = 0 ∧ completedB 0 0 0 h v = true := by decide +kernel

/-- A digest command that waits for a context, or behind a barrier. -/
def waitingRun (op : Nat) (cb : List Byte) (ph : CmdPhase) : State :=
  let s := arcCmd op
  { s with rbt := { s.rbt with cmds := s.rbt.cmds.map (fun c => { c with phase := ph }) }
           arc := { s.arc with runs := [⟨7, cb, none, [], 0, 0, []⟩], waitEp := true } }

theorem test_arcade_grant :
    let s := waitingRun 0x90 (rangeCb 0x90) .waitCtx
    let t := nx .arcadeContextGrant s
    s.nextWaiting.map (fun x => (x.1.tag, x.2.2)) = some (7, 0) ∧ (t.cmd 7).map Cmd.phase = some (.running 0) ∧
    t.arcRun 7 = some ⟨7, rangeCb 0x90, none, [40], 0, 100, []⟩ ∧ t.arc.waitEp = false ∧ untouchedB [.arc, .rbt] s t := by decide +kernel

theorem test_arcade_barrier :
    let s := waitingRun 0x84 putCb .barrier
    let t := nx (.arcadeBarrierRelease 7) s
    let w : Cmd := { cmdOf (sqeOf 1 1 []) true with tag := 8, order := 1 }
    let b : State := { s with rbt := { s.rbt with cmds := s.rbt.cmds ++ [w] } }
    let q : State := { s with rbt := { s.rbt with cmds := s.rbt.cmds ++ [{ w with phase := .waitCtx, order := 9 }] } }
    let u := nx (.arcadeBarrierRelease 7) q
    (t.cmd 7).map Cmd.phase = some (.running 0) ∧ (t.arcRun 7).map ArcRun.len = some 100 ∧ untouchedB [.arc, .rbt] s t ∧
    nx (.arcadeBarrierRelease 7) b = b ∧ (u.cmd 7).map Cmd.phase = some .waitCtx ∧ untouchedB [.rbt] q u := by decide +kernel

theorem test_arcade_channel :
    let s0 := arcCmd 0x90
    let s : State := { s0 with arc := { s0.arc with ctxTen := [(3, some 5)] } }
    let t := nx (.arcadeChannelRequest 3 ⟨1, 40, true, true, []⟩) s
    let u := nx (.arcadeChannelRequest 4 ⟨1, 40, true, true, []⟩) s
    t.arc.channel = some [] ∧ untouchedB [.arc] s t ∧ u.arc.channel = none ∧ countedB TGT_CNT_TVREF s u = true ∧
    added s u = [(1013, 0)] ∧ frameB [TGT_CNT_TVREF] [.regs, .arc, .flt] s u := by decide +kernel

/-! ### The DMA engine -/

/-- Channel 3 with its ring of four at the base of the scratch SRAM, and one descriptor there. -/
def dmaAt (d : List Nat) (head tail st : Nat) : State :=
  let s := puts [(DMA_CTL_EN, 1), (DMA_CHCFG_EN 3, 1), (DMA_CHCFG_SIZE 3, 2), (DMA_CHBASE_HI_BASE 3, 0x20), (DMA_CHHEAD_HEAD 3, head),
    (DMA_CHTAIL_TAIL 3, tail), (DMA_CHSTAT_STATE 3, st), (DMA_CHCFG_FRMASK 3, 0x7FFF)] r0
  { s with mem := { s.mem with scratch := storeBytes (storeBytes [] 0 (d.flatMap (leBytes 4))) 512 [1, 2, 3, 4, 5, 6, 7, 8] } }

/-- The words of a descriptor. -/
def dmaWords (d : List Nat) : List Word := d.map (BitVec.ofNat 32)

/-- The channel fetches this descriptor of a TYPE. -/
def fetchedB (s : State) (want : Nat) (rel : Option Bool) (d : List Nat) : Bool :=
  match s.dmaFetch 3 want rel false with
  | .ok i w => i == 0 && w == dmaWords d
  | _ => false

/-- What the firmware area and the scratch SRAM hold near the base, as bytes. -/
def scratchAt (s : State) (o n : Nat) : List Byte := (List.range n).map (fun j => s.dmaByte (0x2000000000 + o + j))

def copyDesc : List Nat := [2 ^ 31, 5, 512, 0x20, 1024, 0x20, 0, 0]
def fillDesc : List Nat := [2 ^ 31 + 2 ^ 28, 6, 0, 0, 1024, 0x20, 0x04030201, 0]
def flashDesc : List Nat := [2 ^ 31 + 2 * 2 ^ 28, 0, 2 ^ 28, 0, 1024, 0x20, 2048, 0x20]
def acquireDesc : List Nat := [2 ^ 31 + 3 * 2 ^ 28, 7, 0, 0, 0, 0, 0, 0]
def releaseDesc : List Nat := [2 ^ 31 + 3 * 2 ^ 28, 256 + 7, 0, 0, 0, 0, 0, 0]

theorem test_dma_tail :
    let s := dmaAt [] 0 0 0
    let t := nx (.dmaTailWrite 3 3) s
    let u := nx (.dmaTailWrite 3 4) s
    s.ringLen 3 = 4 ∧ (s.chan 3).stopping = false ∧ t.get (DMA_CHTAIL_TAIL 3) = 3 ∧ t.get (DMA_CHSTAT_STATE 3) = 1 ∧
    frameB (DMA_CHTAIL_TAIL 3 :: chanFlds 3) [.regs] s t ∧ added s u = [(364, 0)] ∧ untouchedB [.flt] s u := by decide +kernel

theorem test_dma_copy :
    let s := dmaAt copyDesc 0 1 1
    let t := nx (.dmaCopy 3 ⟨false, none, none⟩) s
    fetchedB s 0 none copyDesc = true ∧ scratchAt t 1024 8 = [1, 2, 3, 4, 5, 0, 0, 0] ∧
    (t.chan 3).runs = [⟨0, dmaWords copyDesc, .made⟩] ∧ frameB (chanFlds 3) [.regs, .mem, .dma] s t := by decide +kernel

theorem test_dma_fill :
    let s := dmaAt fillDesc 0 1 1
    let t := nx (.dmaFill 3 ⟨false, none, none⟩) s
    let u := nx (.dmaFill 3 ⟨false, none, some 0⟩) s
    fetchedB s 1 none fillDesc = true ∧ scratchAt t 1024 8 = [1, 2, 3, 4, 1, 2, 0, 0] ∧ frameB (chanFlds 3) [.regs, .mem, .dma] s t ∧
    u.get (DMA_CHERR0_CAUSE 3) = 7 ∧ u.get (DMA_CHERR0_VALID 3) = 1 ∧ u.get (DMA_CHERR1_ADDR 3) = 1024 ∧ u.get (DMA_CHERR2_ADDR 3) = 0x20 ∧
    u.get (DMA_CHSTAT_STATE 3) = 2 ∧ added s u = [(303, 0)] ∧ frameB (haltFlds 3) [.regs, .flt] s u := by decide +kernel

theorem test_dma_refused :
    let s := dmaAt copyDesc 0 0 0
    let b := dmaAt copyDesc 0 1 1
    let t := nx (.dmaLockAcquire 3 true) b
    let n := b.put (DMA_CHBASE_HI_BASE 3) 0x30
    let u := nx (.dmaFlash 3 false) n
    s.mayStart 3 = false ∧ nx (.dmaFill 3 ⟨false, none, none⟩) s = s ∧ b.mayStart 3 = true ∧ t.get (DMA_CHERR0_CAUSE 3) = 2 ∧
    frameB (haltFlds 3) [.regs, .flt] b t ∧ n.mayStart 3 = true ∧ n.dmaRegion (n.descAddr 3 (n.nextIndex 3)) 32 = none ∧
    u.get (DMA_CHERR0_CAUSE 3) = 5 ∧ u.get (DMA_CHERR2_ADDR 3) = 0x30 ∧ added n u = [(303, 0)] := by decide +kernel

theorem test_dma_flash :
    let s := dmaAt flashDesc 0 1 1
    let t := nx (.dmaFlash 3 false) s
    fetchedB s 2 none flashDesc = true ∧ s.flashTag 3 = some 0xFE18 ∧ dFlashOp (dmaWords flashDesc) = some .read ∧
    (t.chan 3).runs = [⟨0, dmaWords flashDesc, .flash 0xFE18⟩] := by decide +kernel

theorem test_dma_lock :
    let s := dmaAt acquireDesc 0 1 1
    let t := nx (.dmaLockAcquire 3 false) s
    let b := s.setLock 7 ⟨9, false, 0, false⟩
    let u := nx (.dmaLockAcquire 3 false) b
    let r := (dmaAt releaseDesc 0 1 1).setLock 7 ⟨0x43, false, 0, false⟩
    let v := nx (.dmaLockRelease 3 false) r
    fetchedB s 3 (some false) acquireDesc = true ∧ t.lock 7 = ⟨0x43, false, 0, false⟩ ∧
    (t.chan 3).runs = [⟨0, dmaWords acquireDesc, .granted none⟩] ∧ frameB (chanFlds 3) [.regs, .sqr, .dma] s t ∧
    u.lock 7 = b.lock 7 ∧ (u.chan 3).runs = [⟨0, dmaWords acquireDesc, .busy⟩] ∧ fetchedB r 3 (some true) releaseDesc = true ∧
    (v.lock 7).owner = 0 ∧ (v.chan 3).runs = [⟨0, dmaWords releaseDesc, .made⟩] ∧ frameB (chanFlds 3) [.regs, .sqr, .dma] r v := by
  decide +kernel

/-- A started descriptor of channel 3. -/
def runOf (d : List Nat) (w : DmaWait) : State := (dmaAt d 0 1 1).modChan 3 (fun x => { x with runs := [⟨0, dmaWords d, w⟩] })

theorem test_dma_retry :
    let s := runOf acquireDesc .busy
    let t := nx (.dmaLockRetry 3) s
    (s.lock 7).owner = 0 ∧ (s.lock 7).orphaned = false ∧ (t.lock 7).owner = 0x43 ∧
    (t.chan 3).runs = [⟨0, dmaWords acquireDesc, .granted none⟩] ∧ untouchedB [.sqr, .dma] s t := by decide +kernel

theorem test_dma_write_back :
    let s := runOf (copyDesc.set 0 (2 ^ 31 + 2 ^ 27)) .made
    let t := nx (.dmaWriteBack 3) s
    let o := runOf acquireDesc (.granted (some 0x44))
    let u := nx (.dmaWriteBack 3) o
    let w := runOf acquireDesc .busy
    scratchAt t 0 8 = [0, 0, 0, 8, 5, 0, 0, 0] ∧ scratchAt t 512 8 = [1, 2, 3, 4, 5, 6, 7, 8] ∧ t.get (DMA_CHHEAD_HEAD 3) = 1 ∧
    t.get (DMA_CHSTAT_DONE 3) = 1 ∧ (t.chan 3).runs = [] ∧ t.get (dmaPending 3) = 1 ∧
    frameB ([DMA_CHHEAD_HEAD 3, DMA_CHSTAT_DONE 3, dmaPending 3] ++ chanFlds 3) [.regs, .mem, .dma] s t ∧
    scratchAt u 4 4 = [7, 0, 0x44, 3] ∧ u.get (DMA_CHERR0_CAUSE 3) = 6 ∧ added o u = [(303, 0)] ∧ nx (.dmaWriteBack 3) w = w := by decide +kernel

theorem test_dma_flash_done :
    let s0 := runOf flashDesc (.flash 0xFE18)
    let s : State := { s0 with fls := { s0.fls with posted := [⟨0, 0xFE18, 3, 500, [], []⟩] } }
    let t := nx (.dmaWriteBack 3) s
    (s.flashDone 0 0xFE18).map FlashDone.status = some 3 ∧ scratchAt t 4 4 = [0, 255, 3, 1] ∧ t.fls.posted = [] ∧
    frameB ([DMA_CHHEAD_HEAD 3, DMA_CHSTAT_DONE 3, dmaPending 3] ++ chanFlds 3) [.regs, .mem, .dma, .fls] s t := by decide +kernel

theorem test_dma_resume :
    let s := dmaAt copyDesc 0 1 2
    let t := nx (.dmaResume 3) s
    let u := nx (.dmaSkip 3) s
    t.get (DMA_CHSTAT_STATE 3) = 1 ∧ frameB (chanFlds 3) [.regs] s t ∧ (s.chan 3).runs = [] ∧ scratchAt u 0 8 = [0, 0, 0, 0, 5, 0, 0, 2] ∧
    u.get (DMA_CHHEAD_HEAD 3) = 1 ∧ u.get (DMA_CHSTAT_STATE 3) = 0 ∧
    frameB ([DMA_CHHEAD_HEAD 3, DMA_CHSTAT_DONE 3, dmaPending 3] ++ chanFlds 3) [.regs, .mem, .dma] s u := by decide +kernel

theorem test_dma_channel :
    let s := (runOf copyDesc .made).setLock 7 ⟨0x43, false, 0, false⟩
    let t := nx (.dmaChannelReset 3) s
    let u := nx (.dmaChannelDisable 3) s
    let v := nx (.dmaChannelStop 3) s
    let e := dmaAt copyDesc 0 1 1
    let w := nx (.dmaChannelStop 3) e
    t.get (DMA_CHHEAD_HEAD 3) = 0 ∧ t.get (DMA_CHTAIL_TAIL 3) = 0 ∧ t.get (DMA_CHSTAT_STATE 3) = 0 ∧ (t.chan 3).runs = [] ∧
    t.lock 7 = ⟨0, true, 0x43, false⟩ ∧ u.get (DMA_CHCFG_EN 3) = 0 ∧ u.get (DMA_CHSTAT_STATE 3) = 3 ∧ (u.chan 3).runs = [] ∧
    frameB ([DMA_CHCFG_EN 3, DMA_CHERR0_VALID 3] ++ chanFlds 3) [.regs, .dma] s u ∧ (v.chan 3).stopping = true ∧
    (v.chan 3).runs = (s.chan 3).runs ∧ frameB (chanFlds 3) [.regs, .dma] s v ∧ w.get (DMA_CHSTAT_STATE 3) = 3 := by decide +kernel

/-! ### Scrubs, caches and the test port -/

/-- A device of the smallest DRAM with 16 MB of firmware area, with the scrubs on. -/
def scrubbed (pos : Nat) : State :=
  let s := puts [(SQR_INTGCTL_DSCRUB, 1), (SYS_SCRUB_EN, 1), (SQR_PAGECFG_FW16, 1), (SQR_DRAMCFG_SIZE, 0), (SQR_SCRUB_PASSES, 7)] r0
  { s with mem := { s.mem with scrubPos := pos } }

theorem test_dram_scrub :
    let s := scrubbed 9
    let t := nx (.dramScrubRead .clean 0) s
    let u := nx (.dramScrubRead .corrected 0) s
    let v := nx (.dramScrubRead .uncorrectable 0) s
    let o := s.put SQR_INTGCTL_DSCRUB 0
    bufferOf 9 0 < s.fwBytes ∧ t.mem.scrubPos = 10 ∧ t.flt = s.flt ∧ t.get SQR_SCRUB_PASSES = 7 ∧ countedB SQR_ECCCNT_CORR s u = true ∧
    added s u = [(220, 0)] ∧ frameB [SQR_SCRUB_PASSES, SQR_SCRUB_PROGRESS, SQR_ECCCNT_CORR] [.regs, .mem, .flt] s u = true ∧
    v.mem.fwBad = [9] ∧ added s v = [(221, 0)] ∧ v.mem.fw = s.mem.fw ∧ nx (.dramScrubRead .clean 0) o = o := by decide +kernel

/-- A pass's last word. The last word of a group of 64 has no buffer word; the one before the pass's end is a check word. -/
theorem test_dram_scrub_pass :
    let s := scrubbed (2 ^ 29 - 1)
    let t := nx (.dramScrubRead .clean 0) s
    t.mem.scrubPos = 0 ∧ t.get SQR_SCRUB_PASSES = 8 ∧ t.get SQR_SCRUB_PROGRESS = 0 ∧ added s t = [(225, 0)] := by decide +kernel

/-- Check byte 3 of a word of the check region stands for a word of the buffer space. -/
theorem test_check_word : bufferOf 57 3 = 64 + 24 ∧ bufferOf (64 * 5 + 2) 0 = 5 * 448 + 16 := by decide +kernel

theorem test_sram_corrected :
    let s := scrubbed 0
    let f (w : SramWord) : State := nx (.sramScrubRead w .corrected) s
    added s (f (.hostEngine 3)) = [(102, 0)] ∧ added s (f (.roundabout 3)) = [(104, 0)] ∧ added s (f (.squareLock 3)) = [(226, 0)] ∧
    added s (f (.scratch 3)) = [(400, 0)] ∧ countedB DMA_SRAMECC_CORR s (f (.scratch 3)) = true ∧
    added s (f (.avenueStore 3)) = [(avSrc 3 82, 0)] ∧ added s (f (.cacheData 12 0 0)) = [(1096, 0)] ∧
    added s (f (.cacheData 5 0 0)) = [(1086, 0)] ∧ frameB [CPU_ECCCNT_CORR] [.regs, .flt] s (f (.cacheData 5 0 0)) = true ∧
    nx (.sramScrubRead (.scratch 3) .clean) s = s := by decide +kernel

theorem test_sram_bad :
    let s := (scrubbed 0).put ⟨FLT_ROUTE 700, 0, 8⟩ 0x5A
    let f (w : SramWord) : State := nx (.sramScrubRead w .uncorrectable) s
    (f (.scratch 3)).mem.scratchBad = [3] ∧ added s (f (.scratch 3)) = [(401, 0)] ∧ added s (f (.avenueStore 3)) = [(avSrc 3 81, 0)] ∧
    countedB (AV_TAGCNT_INVAL 1) s (f (.sampleStore 1)) = true ∧ (f (.routeEntry 700)).rd (FLT_ROUTE 700) = resetWord (FLT_ROUTE 700) ∧
    added s (f (.routeEntry 700)) = [(1149, 0)] ∧ added s (f (.roundabout 3)) = [(105, 0), (152, 0)] ∧
    frameB resetFlds resetParts s (f (.roundabout 3)) = true := by decide +kernel

theorem test_media_scrub :
    let e : RingEntry := ⟨[BitVec.ofNat 32 (4 * 2 ^ 24)] ++ List.replicate 15 0, false, false, none, none⟩
    let s := r0.put SQR_INTGCTL_MSCRUB 3
    let t := nx (.mediaScrub 1 2 e) s
    let o := s.put SQR_INTGCTL_MSCRUB 0
    scrubEntry e = true ∧ (t.seq 1).rings.getD 30 [] = [e] ∧ (t.seq 1).winOther = 1 ∧ untouchedB [.av] s t ∧
    nx (.mediaScrub 1 2 e) o = o := by decide +kernel

/-- Core 2 running, with the firmware area, and nothing in its caches. -/
def coreAt : State := puts [(SQR_PAGECFG_FW16, 1), (CPU_CORESTAT_STATE 2, 2), (CPU_L1CFG_IWAYS 2, 4), (CPU_L1CFG_DWAYS 2, 4), (CPU_L2PART_MASK 0, 0)] r0

theorem test_l1_ways :
    let s := (coreAt.setWay 4 7 1 (some ⟨7, false, []⟩)).setWay 4 7 3 (some ⟨39, false, []⟩)
    let t := nx (.l1WayChange 2 2 1) s
    let l := s.put CPU_CTL_LOCK 1
    let u := nx (.l1WayChange 2 2 1) l
    s.cores.caches.length = 13 ∧ t.get (CPU_L1CFG_IWAYS 2) = 2 ∧ t.get (CPU_L1CFG_DWAYS 2) = 1 ∧ t.way 4 7 1 = some ⟨7, false, []⟩ ∧
    t.way 4 7 3 = none ∧ frameB [CPU_L1CFG_IWAYS 2, CPU_L1CFG_DWAYS 2] [.regs, .cores] s t ∧ countedB SYS_BADCNT_COUNT l u = true ∧
    u.cores = l.cores := by decide +kernel

/-- The worked example of R499 to R501: loading 0, and one step from the reset seed. -/
theorem test_lfsr : (nx (.lfsrLoad 12 0) r0).get (CPU_LFSR_STATE 12) = 0xACE1 ∧ (nx (.lfsrLoad 12 9) r0).get (CPU_LFSR_STATE 12) = 9 ∧
    lfsrNext 0xACE1 = 0x5670 ∧ lfsrNext 0x5670 = 0xAB38 := by decide +kernel

def missOf (a : Nat) : MissArgs := ⟨2, false, 0x1000, BitVec.ofNat 40 a, .own, [], .clean⟩

theorem test_l1_hit_in_l2 :
    let s := coreAt.setWay l2No (l2Set 0x4C0) 5 (some ⟨0x13, true, [1, 2]⟩)
    let t := nx (.l1MissFill (missOf 0x4C0)) s
    s.findWay l2No 0x4C0 = some 5 ∧ s.findWay 5 0x4C0 = none ∧ t.way 5 (l1Set 0x4C0) 0 = some ⟨0x13, false, [1, 2]⟩ ∧
    t.get (CPU_LFSR_STATE 5) = lfsrNext (s.get (CPU_LFSR_STATE 5)) ∧ t.get (CPU_CORESTAT_STATE 2) = 1 ∧
    frameB [CPU_LFSR_STATE 5, CPU_CORESTAT_STATE 2] [.regs, .cores] s t := by decide +kernel

theorem test_l2_fill :
    let s : State := { coreAt with mem := { coreAt.mem with fw := [(0x4C1, 7)] } }
    let t := nx (.l1MissFill (missOf 0x4C0)) s
    s.findWay l2No 0x4C0 = none ∧ (t.way l2No (l2Set 0x4C0) 0).map CacheLine.line = some 0x13 ∧
    ((t.way 5 (l1Set 0x4C0) 0).map (fun l => l.data.take 3)) = some [0, 7, 0] ∧
    t.get (CPU_LFSR_STATE 12) = lfsrNext (s.get (CPU_LFSR_STATE 12)) ∧
    frameB [CPU_LFSR_STATE 12, CPU_LFSR_STATE 5, CPU_CORESTAT_STATE 2] [.regs, .cores] s t := by decide +kernel

/-- All sixteen ways of the set hold clean lines: the victim is the drawn one. -/
theorem test_l2_victim :
    let s := (List.range 16).foldl (fun t w => t.setWay l2No (l2Set 0x4C0) w (some ⟨0x1000000 + w, false, []⟩)) coreAt
    let v := lfsrNext (s.get (CPU_LFSR_STATE 12)) * 16 / 2 ^ 16
    let t := nx (.l1MissFill (missOf 0x4C0)) s
    s.findWay l2No 0x4C0 = none ∧ s.get (CPU_L2PART_MASK (s.partOf .own)) = 0 ∧
    (t.way l2No (l2Set 0x4C0) v).map CacheLine.line = some 0x13 ∧ (v = 0 ∨ t.way l2No (l2Set 0x4C0) 0 = some ⟨0x1000000, false, []⟩) := by
  decide +kernel

theorem test_test_port :
    let s := puts [(SYS_ID_MAJOR, 3)] r0
    let c : BoundaryCells := ⟨5, 6, [true]⟩
    let run : State := { s with pwr := { s.pwr with inReset := false } }
    (nx .jtagBypass s).pins.ir = .bypass ∧ (nx .jtagIdcode s).pins.idreg = 0x2964054F ∧ (nx (.jtagSamplePreload c c) s).pins.sampled = c ∧
    (nx (.jtagSamplePreload c c) s).pins.cells = ⟨0, 0, [true]⟩ ∧ (nx .jtagExtest s).pins.ir = .extest ∧ (nx .jtagClamp s).pins.ir = .clamp ∧
    (nx .jtagHighz s).pins.ir = .highz ∧ (nx .jtagHighz run).pins.ir = .bypass ∧ untouchedB [.pins] run (nx .jtagExtest run) := by
  decide +kernel

/-! ### The fault collector -/

/-- The events `l` (source and time) wait, and source `k` is enabled with a reaction. -/
def eventsAt (l : List (Nat × Nat)) (k react : Nat) : State :=
  let s := puts [(FLT_ROUTE_EN k, 1), (FLT_ROUTE_REACT k, react), (FLT_ROUTE_QUIET k, 3), (FLT_ROUTE_RLIM k, 0), (FLT_ROUTE_STATE k, 0),
    (FLT_ROUTE_FN k, 0), (FLT_ROUTE_REC k, 0), (FLT_ROUTE_CORE k, 2), (REC_CTL_EN, 0), (CPU_CORESTAT_STATE 2, 1)] r0
  { s with tim := { s.tim with now := 900 }, flt := { s.flt with inbox := l.map (fun e => ⟨e.1, e.2, 5, false⟩) } }

/-- The sources of what waits. -/
def waiting (s : State) : List Nat := s.flt.inbox.map Raised.src

/-- What every handled event does. -/
def handledB (e : Raised) (s t : State) : Bool :=
  countedB (FLT_ROUTE_COUNT e.src) s t && countedB FLT_STAT_ARRIVED s t && (t.get FLT_STAT_LAST == e.src) && (t.flt.events == s.flt.events + 1)

theorem test_next_event :
    (nextEvent (eventsAt [(700, 8), (12, 9), (300, 8)] 700 0).flt.inbox).map Raised.src = some 300 ∧
    nx (.eventArrival false) r0 = r0 := by decide +kernel

theorem test_event_no_reaction :
    let s := (eventsAt [(700, 8), (12, 9)] 700 1).put (FLT_ROUTE_EN 700) 0
    let t := nx (.eventArrival false) s
    nextEvent s.flt.inbox = some ⟨700, 8, 5, false⟩ ∧ handledB ⟨700, 8, 5, false⟩ s t = true ∧ waiting t = [12] ∧
    frameB (countFlds 700) [.regs, .flt] s t = true := by decide +kernel

theorem test_event_quiet :
    let s := (eventsAt [(700, 8)] 700 1).put (FLT_ROUTE_STATE 700) 1
    let t := nx (.eventArrival true) s
    takenReaction 700 1 = 1 ∧ t.flt.quietHit = [700] ∧ frameB (countFlds 700) [.regs, .flt] s t = true := by decide +kernel

/-- Source 700 belongs to Avenue 2, unit 6, and its pending bit is bit 28 of word 21 (the worked example of chapter 19). -/
theorem test_event_interrupt :
    let s := eventsAt [(700, 8)] 700 1
    let t := nx (.eventArrival false) s
    resetUnit 700 = .unit 6 ∧ pendBit 700 = ⟨FLT_PEND 21, 28, 1⟩ ∧ t.get (pendBit 700) = 1 ∧ t.get (FLT_ROUTE_STATE 700) = 1 ∧
    t.get (FLT_ROUTE_RCNT 700) = 1 ∧ waiting t = [] ∧
    frameB (countFlds 700 ++ [FLT_ROUTE_STATE 700, FLT_ROUTE_RCNT 700, pendBit 700]) [.regs, .flt] s t = true := by decide +kernel

theorem test_event_trap :
    let s := eventsAt [(700, 8)] 700 2
    let h : State := { s with flt := { s.flt with inNmi := [2] } }
    let t := nx (.eventArrival false) s
    let u := nx (.eventArrival false) h
    s.signalledCore 700 = some 2 ∧ t.flt.inNmi = [2] ∧ t.get (CPU_CORESTAT_STATE 2) = 3 ∧ t.get (pendBit 700) = 1 ∧
    frameB (countFlds 700 ++ [FLT_ROUTE_STATE 700, FLT_ROUTE_RCNT 700, pendBit 700, CPU_CORESTAT_STATE 2]) [.regs, .flt] s t = true ∧
    h.signalledCore 700 = some 2 ∧ u.flt.held = [(2, 700)] ∧ countedB FLT_CNT_HELD h u = true ∧ waiting u = [1142] := by decide +kernel

theorem test_event_block_reset :
    let s := eventsAt [(301, 8)] 301 3
    let t := nx (.eventArrival false) s
    resetUnit 301 = .unit 33 ∧ s.flt.chip = none ∧ t.flt.resets = [⟨33, some 301⟩] ∧ t.get FLT_STAT_RESET = 1 ∧
    t.get (FLT_ROUTE_STATE 301) = 1 ∧
    frameB (countFlds 301 ++ [FLT_ROUTE_STATE 301, FLT_ROUTE_RCNT 301, FLT_STAT_RESET, FLT_BRST_BUSY]) [.regs, .flt] s t = true := by
  decide +kernel

theorem test_event_chip_reset :
    let s := (eventsAt [(700, 8)] 700 4).put FLT_CTL_CRCOMMIT 1
    let x := (eventsAt [(205, 8)] 205 4).put FLT_CTL_CRCOMMIT 1
    let t := nx (.eventArrival false) s
    let u := nx (.eventArrival false) x
    s.flt.chip = none ∧ s.pwr.commit = none ∧ t.flt.chip = some 700 ∧ t.flt.chipResets = s.flt.chipResets + 1 ∧
    t.get FLT_CRREASON_VALID = 1 ∧ t.get FLT_CRREASON_KIND = 1 ∧ t.get FLT_CRREASON_SOURCE = 700 ∧ (t.avn 1).wg = false ∧
    t.pwr.commit = some 4 ∧ t.sqr.lossHold = true ∧ commitExcluded 205 = true ∧ u.flt.chip = some 205 ∧ u.pwr.commit = none := by
  decide +kernel

theorem test_event_escalates :
    let s := puts [(FLT_ROUTE_RLIM 700, 3), (FLT_ROUTE_RCNT 700, 2), (FLT_ROUTE_ESC 700, 1)] (eventsAt [(700, 8)] 700 0)
    let t := nx (.eventArrival false) s
    t.get (FLT_ROUTE_STATE 700) = 2 ∧ t.get (FLT_ROUTE_RCNT 700) = 3 ∧ countedB FLT_CNT_ESCAL s t = true ∧ t.get (pendBit 700) = 1 ∧
    waiting t = [1141] ∧ t.flt.escalations = s.flt.escalations + 1 := by decide +kernel

theorem test_event_fault_pin :
    let s := puts [(FLT_ROUTE_FN 700, 1), (FLT_ROUTE_STATE 700, 2)] (eventsAt [(700, 8)] 700 1)
    let t := nx (.eventArrival false) s
    let s2 := puts [(FLT_FNSTAT_ACTIVE, 1), (FLT_FNSTAT_FIRST, 44)] s
    let v := nx .faultPinRelease s2
    t.get FLT_FNSTAT_ACTIVE = 1 ∧ t.get FLT_FNSTAT_FIRST = 700 ∧
    frameB (countFlds 700 ++ [FLT_FNSTAT_ACTIVE, FLT_FNSTAT_FIRST]) [.regs, .flt] s t = true ∧
    (nx (.eventArrival false) s2).get FLT_FNSTAT_FIRST = 44 ∧ v.get FLT_FNSTAT_ACTIVE = 0 ∧
    frameB [FLT_FNSTAT_ACTIVE] [.regs] s2 v = true := by decide +kernel

/-- Source 700 records, with the recorder on and the source's entry off. -/
def recordedAt : State := puts [(FLT_ROUTE_EN 700, 0), (FLT_ROUTE_REC 700, 1), (REC_CTL_EN, 1), (REC_BOOT_BOOT, 6)] (eventsAt [(700, 8)] 700 1)

theorem test_event_recorded :
    let s := recordedAt
    let t := nx (.eventArrival false) s
    s.profileFor 700 = none ∧ s.recd.fill + 100 ≤ 65536 ∧
    t.recd.circ = [(⟨8, s.recd.nextSeq, 700, 0, 0xFF, 6, 0, 0, List.replicate 16 0, 5⟩ : RecEntry)] ∧
    t.recd.nextSeq = s.recd.nextSeq + 1 ∧ t.recd.fifo.length = s.recd.fifo.length + 1 ∧
    frameB (countFlds 700 ++ [REC_HEAD_SEQ, REC_TAIL_SEQ, REC_TRSTAT_FILL]) [.regs, .flt, .recd] s t = true := by decide +kernel

theorem test_event_dropped :
    let s := recordedAt
    let t := nx (.eventArrival true) s
    t.recd = { s.recd with dropped := true, dropEpisode := true } ∧ countedB REC_STAT_DROPS s t = true ∧ waiting t = [1144] ∧
    waiting (nx (.eventArrival true) { s with recd := { s.recd with dropEpisode := true } }) = [] := by decide +kernel

theorem test_event_profile :
    let s := puts [(REC_PROF_W0_EN 4, 1), (REC_PROF_W1_FIRST 4, 600), (REC_PROF_W1_LAST 4, 700), (REC_PROF_W0_FOUND 4, 1),
      (REC_PROF_W0_NREG 4, 2), (REC_PROF_W2_ADDR 4 0, REC_BOOT), (REC_PROF_W2_ADDR 4 1, 1)] recordedAt
    let t := nx (.eventArrival false) s
    s.profileFor 700 = some 4 ∧ s.recd.found.length < 255 ∧ (t.recd.found.map (fun r => (r.prof, r.source, r.regs.take 2))) =
      [(4, 700, [s.peek REC_BOOT, 0])] ∧ countedB (REC_PROF_W0_USED 4) s t = true ∧ t.get REC_FSTAT_FUSED = 1 := by decide +kernel

theorem test_quiet_expiry :
    let s := (eventsAt [] 700 1).put (FLT_ROUTE_STATE 700) 1
    let h : State := { s with flt := { s.flt with quietHit := [700, 3] } }
    let t := nx (.quietPeriodExpiry 700) s
    let u := nx (.quietPeriodExpiry 700) h
    t.get (FLT_ROUTE_STATE 700) = 0 ∧ countedB FLT_CNT_TRANS s t = true ∧ u.flt.quietHit = [3] ∧
    u.get FLT_CNT_TRANS = h.get FLT_CNT_TRANS ∧ frameB [FLT_ROUTE_STATE 700, FLT_CNT_TRANS] [.regs, .flt] s t = true := by decide +kernel

theorem test_decay :
    let s := puts [(FLT_CTL_DECAY, 2), (FLT_ROUTE_RCNT 700, 9)] r0
    let z := s.put FLT_CTL_DECAY 0
    (nx (.rcntDecayExpiry 700) s).get (FLT_ROUTE_RCNT 700) = 0 ∧ frameB [FLT_ROUTE_RCNT 700] [.regs] s (nx (.rcntDecayExpiry 700) s) = true ∧
    nx (.rcntDecayExpiry 700) z = z := by decide +kernel

theorem test_rearm :
    let s := puts [(FLT_ROUTE_STATE 700, 2), (FLT_ROUTE_RCNT 700, 9), (FLT_ROUTE_STATE 701, 2)] r0
    let s1 : State := { s with flt := { s.flt with quietHit := [700, 701] } }
    let t := nx (.sourceRearm 21 (BitVec.ofNat 32 (2 ^ 28))) s1
    t.get (FLT_ROUTE_STATE 700) = 0 ∧ t.get (FLT_ROUTE_RCNT 700) = 0 ∧ t.flt.quietHit = [701] ∧
    frameB [FLT_ROUTE_STATE 700, FLT_ROUTE_RCNT 700] [.regs, .flt] s1 t = true := by decide +kernel

theorem test_nmi_return :
    let s := (eventsAt [] 700 2).put (CPU_CORESTAT_STATE 2) 3
    let b : State := { s with flt := { s.flt with inNmi := [2] } }
    let h : State := { s with flt := { s.flt with inNmi := [2], held := [(2, 700), (2, 45), (1, 3)] } }
    (nx (.nmiReturn 2) h).flt.held = [(2, 700), (1, 3)] ∧ (nx (.nmiReturn 2) h).flt.inNmi = [2] ∧ (nx (.nmiReturn 2) b).flt.inNmi = [] ∧
    (nx (.nmiReturn 2) b).get (CPU_CORESTAT_STATE 2) = 1 ∧ frameB [CPU_CORESTAT_STATE 2] [.regs, .flt] b (nx (.nmiReturn 2) b) = true := by
  decide +kernel

theorem test_inject :
    let s := (eventsAt [] 700 0).put TGT_STAT_LIFE 3
    let o := s.put TGT_STAT_LIFE 2
    let t := nx (.faultInject 700) s
    let u := nx (.faultInject 700) o
    sourceReserved 700 = false ∧ t.get FLT_INJ_SOURCE = 700 ∧ t.flt.inbox = [⟨700, 900, 0, true⟩] ∧
    frameB [FLT_INJ_SOURCE] [.regs, .flt] s t = true ∧ countedB SYS_BADCNT_COUNT o u = true ∧ u.flt = o.flt := by decide +kernel

theorem test_block_reset_request :
    let s := r0
    let t := nx (.blockResetRequest 14) s
    let a := s.modAv 1 (fun x => { x with seq := { x.seq with arms := x.seq.arms } })
    let u := nx (.blockResetRequest 5) a
    let v := nx (.blockResetRequest 15) s
    t.get FLT_BRST_UNIT = 14 ∧ t.get FLT_BRST_BUSY = 1 ∧ t.flt.resets = [⟨14, none⟩] ∧
    frameB [FLT_BRST_UNIT, FLT_BRST_BUSY, FLT_STAT_RESET] [.regs, .flt] s t = true ∧ (u.seq 1).arms = [] ∧ u.flt.resets = [⟨5, none⟩] ∧
    v.get FLT_BRST_UNIT = 15 ∧ frameB [FLT_BRST_UNIT] [.regs] s v = true := by decide +kernel

/-- The reset of a core, which asked for it: its caches are empty, its locks are marked and the event's bit is set. -/
theorem test_core_reset :
    let s := puts [(CPU_CORESTAT_STATE 2, 2), (FLT_STAT_RESET, 1)] ((r0.setWay 4 7 1 (some ⟨7, false, []⟩)).setLock 9 ⟨3, false, 0, false⟩)
    let s1 : State := { s with flt := { s.flt with resets := [⟨18, some 1086⟩, ⟨5, none⟩], inNmi := [2] } }
    let t := nx (.blockResetDrainEnd 18) s1
    let u := nx (.blockResetDrainForced 18) s1
    s1.cores.caches.length = 13 ∧ t.flt.resets = [⟨5, none⟩] ∧ t.get (pendBit 1086) = 1 ∧ t.get (CPU_CORESTAT_STATE 2) = 1 ∧
    t.way 4 7 1 = none ∧ t.flt.inNmi = [] ∧ t.lock 9 = ⟨0, true, 3, false⟩ ∧ waiting t = [212, 1108, 1140] ∧ t.get FLT_STAT_RESET = 1 ∧
    untouchedB [.regs, .sqr, .flt, .cores] s1 t = true ∧ waiting u = [1143, 212, 1108, 1140] ∧ u.flt.discards = [10] ∧
    nx (.blockResetDrainEnd 19) s1 = s1 ∧ nx (.blockResetDrainForced 19) s1 = s1 := by decide +kernel

theorem test_channel_reset :
    let s := puts [(DMA_CHHEAD_HEAD 4, 5), (DMA_CHTAIL_TAIL 4, 6)] (r0.setLock 9 ⟨0x44, false, 0, false⟩)
    let s1 : State := { s with flt := { s.flt with resets := [⟨36, some 304⟩] } }
    let t := nx (.blockResetDrainEnd 36) s1
    t.flt.resets = [] ∧ t.get (pendBit 304) = 1 ∧ t.get (DMA_CHHEAD_HEAD 4) = 0 ∧ t.get (DMA_CHTAIL_TAIL 4) = 0 ∧
    t.lock 9 = ⟨0, true, 0x44, false⟩ ∧ 1140 ∈ waiting t := by decide +kernel

/-- A chip reset's end while PORST_N is low leaves the machine in the internal reset. -/
theorem test_chip_reset_end :
    let s := (eventsAt [] 700 4).put TGT_STAT_LIFE 2
    let s1 : State := { s with flt := { s.flt with chip := some 700 }, pwr := { s.pwr with porstLow := true } }
    let t := nx (.chipResetTimeout true ⟨true, true, true, true⟩) s1
    t.pwr.inReset = true ∧ t.flt.chip = none ∧ t.get FLT_CRREASON_CUT = 1 ∧ t.rd FLT_CTL = resetWord FLT_CTL ∧
    nx (.chipResetTimeout true ⟨true, true, true, true⟩) s = s := by decide +kernel

/-- What a start meets here: no entropy, so that no register holds a free value. -/
def startIn (recordsOk : Bool) : StartInput := ⟨true, false, recordsOk, true⟩

/-- A chip reset's end with PORST_N high is followed by a start, which counts itself. -/
theorem test_chip_reset_start :
    let s := (eventsAt [] 700 4).put TGT_STAT_LIFE 2
    let s1 : State := { s with flt := { s.flt with chip := some 700 }, pwr := { s.pwr with porstLow := false, committed := some true } }
    let c := s1.putb FLT_CRREASON_CUT false
    s1.flt.chip ≠ none ∧ s1.pwr.risen = none ∧ c.internalReset.get FLT_CRREASON_CUT = 0 ∧
    (c.internalReset.startFirst (startIn false)).get REC_BOOT_BOOT = 1 := by decide +kernel

/-! ### The event recorder -/

/-- A record of source `k` with SEQ `q`. -/
def recAt (q k : Nat) : RecEntry := ⟨100 + q, q, k, 0, 0xFF, 6, 1, 0, List.replicate 16 0, 9⟩

/-- Records 4, 5 and 6 circulate, 4 is mirrored, and record 2 founds. -/
def recording : State :=
  let s := puts [(REC_CTL_EN, 1), (REC_BOOT_BOOT, 6), (REC_TRCFG_WAITMASK, 8), (REC_TRCFG_WAITMIN, 2)] r0
  { s with tim := { s.tim with now := 900 }, recd := { s.recd with
    circ := [recAt 4 20, recAt 5 21, recAt 6 22], found := [recAt 2 23], foundMirror := [recAt 2 23], mirror := [[recAt 4 20]], nextSeq := 7 } }

theorem test_mirror_page :
    let s := recording
    let e : State := { s with recd := { s.recd with eraseMirror := true } }
    let d : State := { s with recd := { s.recd with mirror := [[recAt 6 22]] } }
    let t := nx .mirrorPage s
    let u := nx .mirrorPage e
    t.recd = { s.recd with mirror := [[recAt 4 20], [recAt 5 21, recAt 6 22]] } ∧ t.get REC_MIRR_SEQ = 6 ∧
    frameB [REC_MIRR_SEQ] [.regs, .recd] s t = true ∧ u.recd = { e.recd with mirror := [e.recd.circ], eraseMirror := false } ∧
    nx .mirrorPage d = d ∧ nx .mirrorOverdue d = d ∧ added s (nx .mirrorOverdue s) = [(1145, 0)] := by decide +kernel

theorem test_record_cursor :
    let s := recording
    let u := nx (.recordCursorLoad 9) s
    s.recd.circ.find? (fun x => x.seq == (5 : Word).toNat) = some (recAt 5 21) ∧
    (recordBytes (recAt 5 21)).take 18 = [105, 0, 0, 0, 0, 0, 0, 0, 5, 0, 0, 0, 21, 0, 0, 0xFF, 6, 0] ∧
    (recordBytes (recAt 5 21)).length = 96 ∧ (recordBytes (recAt 5 21)).getD 84 0 = 9 ∧ u.get REC_WSTAT_VALID = 0 ∧ u.get REC_CURSOR_SEQ = 9 ∧
    frameB [REC_CURSOR_SEQ, REC_WSTAT_VALID] [.regs] s u = true := by decide +kernel

theorem test_founding_cursor :
    let s := recording
    let u := nx (.foundingCursorLoad 1) s
    s.recd.found[(0 : Fin 256).val]? = some (recAt 2 23) ∧ u.get REC_WSTAT_VALID = 0 ∧ u.get REC_FCURSOR_INDEX = 1 := by decide +kernel

theorem test_record_clear :
    let s := recording
    let o := s.put REC_CTL_EN 0
    let t := nx .recordClear s
    let u := nx .recordClear o
    t.recd.circ = [⟨900, 7, 0xFFFF, 3, 0xFF, 6, 0, 0, List.replicate 16 0, 0⟩] ∧ t.recd.eraseMirror = true ∧ t.recd.nextSeq = 8 ∧
    t.get REC_HEAD_SEQ = 7 ∧ t.get REC_TAIL_SEQ = 7 ∧ added s t = [(1150, 0)] ∧ t.recd.found = s.recd.found ∧
    frameB [REC_HEAD_SEQ, REC_TAIL_SEQ, REC_TRSTAT_FILL] [.regs, .flt, .recd] s t = true ∧ u.recd = { o.recd with circ := [], eraseMirror := true } ∧
    added o u = [(1150, 0)] := by decide +kernel

theorem test_founding_clear :
    let s := puts [(TGT_STAT_LIFE, 0), (REC_STAT_FFULL, 1), (REC_PROF_W0_USED 63, 4)] recording
    let o := s.put TGT_STAT_LIFE 2
    let t := nx .foundingClear s
    let u := nx .foundingClear o
    t.recd = { s.recd with found := [], foundMirror := [] } ∧ t.get REC_STAT_FFULL = 0 ∧ t.get (REC_PROF_W0_USED 63) = 0 ∧
    frameB ([REC_FSTAT_FUSED, REC_STAT_FFULL] ++ (List.range 64).map REC_PROF_W0_USED) [.regs, .recd] s t = true ∧
    countedB SYS_BADCNT_COUNT o u = true ∧ u.get SYS_BADACC_CAUSE = 4 ∧ u.recd = o.recd := by decide +kernel

theorem test_waits :
    let s := recording
    let t := nx (.waitEnterReport 3 879) s
    let u := nx (.waitExitReport 3) t
    (s.get REC_TRCFG_WAITMASK).testBit 3 = true ∧ t.recd = { s.recd with waiting := [3], fifo := [⟨2, 3, leBytes 8 879⟩] } ∧
    frameB [REC_TRSTAT_FILL] [.regs, .recd] s t = true ∧ nx (.waitEnterReport 3 880) s = s ∧ u.recd.waiting = [] ∧
    u.recd.fifo = [⟨2, 3, leBytes 8 879⟩, ⟨3, 3, leBytes 8 900⟩] ∧ nx (.waitExitReport 4) s = s := by decide +kernel

/-- A full FIFO: sixty-five frames of a thousand bytes and a few more. -/
theorem test_wait_lost :
    let s : State := { recording with recd := { recording.recd with
      fifo := List.replicate 65 ⟨0, 0, List.replicate 1001 0⟩ ++ [⟨0, 0, List.replicate 201 0⟩] } }
    let t := nx (.waitEnterReport 3 1) s
    s.recd.fill = 65530 ∧ t.recd.waiting = [3] ∧ t.recd.lost = s.recd.lost + 1 ∧ t.recd.ovfEpisode = true ∧
    countedB REC_TRSTAT_OVF s t = true ∧ added s t = [(1147, 0)] := by decide +kernel

/-- The published check value of CRC-32C over the digits 1 to 9. -/
theorem test_crc32c : crc32c ([0x31, 0x32, 0x33, 0x34, 0x35, 0x36, 0x37, 0x38, 0x39] : List Byte) = 0xE3069283 := by decide +kernel

/-! ### PORST_N and starts -/

/-- A running device: supplied, out of reset, with PORST_N at a level. -/
def runningAt (low : Bool) : State :=
  let s := puts [(PWR_PLSTAT_SIGNAL, 0), (PWR_VREQ_PGOOD, 1), (TGT_STAT_LIFE, 2)] r0
  { s with tim := { s.tim with now := 900 }, pwr := { s.pwr with inReset := false, porstLow := low, risen := none, commit := none } }

theorem test_porst_fall :
    let s := (runningAt false).put (SVO_STAT_STATE 2) 4
    let o := s.put PWR_VREQ_PGOOD 0
    let t := nx .porstFall s
    s.svIdle 2 = false ∧ s.svIdle 1 = true ∧ t.pwr.porstLow = true ∧ t.pwr.commit = some 3 ∧ t.sqr.lossHold = true ∧ t.get FLS_STAT_COMMIT = 1 ∧
    countedB (HST_PORT_DOWNS 0) s t = true ∧ t.svState 2 = 7 ∧ t.svState 1 = s.svState 1 ∧
    untouchedB [.regs, .bus, .av, .svo, .spn, .sqr, .fls, .host, .rbt, .arc, .tgt, .pwr, .flt] s t = true ∧
    nx .porstFall (runningAt true) = runningAt true ∧
    nx .porstFall o = { o with pwr := { o.pwr with porstLow := true, risen := none } } := by decide +kernel

theorem test_porst_cut :
    let s : State := { runningAt true with pwr := { (runningAt true).pwr with commit := some 3 } }
    let t := nx .porstCommitCut s
    t.pwr.inReset = true ∧ t.pwr.committed = some false ∧ t.pwr.newestOk = false ∧ t.get FLT_CRREASON_KIND = 2 ∧
    t.get FLT_CRREASON_CUT = 1 ∧ waiting t = [150] ∧ nx .porstCommitCut (runningAt true) = runningAt true := by decide +kernel

/-- What the third clause of the cut assumes, PORST_N having risen meanwhile. -/
theorem test_porst_cut_risen :
    let s : State := { runningAt false with pwr := { (runningAt false).pwr with commit := some 3, risen := some (5, startIn false) } }
    s.pwr.inReset = false ∧ s.pwr.commit ≠ none ∧ s.pwr.porstLow = false ∧ s.pwr.risen = some (5, startIn false) := by decide +kernel

theorem test_porst_hold :
    let s := runningAt true
    let c : State := { s with pwr := { s.pwr with commit := some 3 } }
    let t := nx .porstHoldExpiry s
    let u := nx .porstHoldExpiry c
    t.pwr.inReset = true ∧ t.get FLT_CRREASON_KIND = 3 ∧ t.get FLT_CRREASON_CUT = 0 ∧ u.get FLT_CRREASON_CUT = 1 ∧ u.pwr.newestOk = false ∧
    nx .porstHoldExpiry (runningAt false) = runningAt false := by decide +kernel

theorem test_porst_release_waits :
    let s := runningAt true
    nx (.porstRelease 5 (startIn false)) s = { s with pwr := { s.pwr with porstLow := false, risen := some (5, startIn false) } } ∧
    nx (.porstRelease 5 (startIn false)) (runningAt false) = runningAt false := by decide +kernel

/-- In the internal reset the release starts the device; here from deep standby, which lost the recorder's SRAM. -/
theorem test_porst_release_starts :
    let s0 := runningAt true
    let s : State := { s0 with pwr := { s0.pwr with inReset := true, deep := true, cleanStop := true } }
    let t := nx (.porstRelease 3 (startIn false)) s
    t.pwr.porstLow = false ∧ t.tim.now = 0 ∧ t.get PWR_AON_DSBY = 1 ∧ ⟨1138, 0, 0, false⟩ ∈ t.flt.inbox ∧ t.pwr.inReset = false ∧
    t.get REC_BOOT_BOOT = 1 ∧ t.get HST_CTL_MODE = (s.wr PIN_STRAP 3).get PIN_STRAP_PORTMODE ∧ t.get REC_STAT_HDROK = 0 ∧
    t.get PWR_START_STOP = 0 ∧ t.get PWR_STATE_STATE = 5 ∧ t.get PWR_START_CDS = 0 ∧ ⟨1130, 0, 0, false⟩ ∈ t.flt.inbox := by decide +kernel

/-- The cul-de-sac reasons 1 and 2, and claim mode. -/
theorem test_start_ends :
    let s0 := runningAt true
    let s : State := { s0 with pwr := { s0.pwr with inReset := true, newest := none, slotA := none, slotB := none, attempts := 1 } }
    let a : State := { s with pwr := { s.pwr with attempts := 3 } }
    let c := s.put TGT_STAT_LIFE 1
    let t := nx (.porstRelease 0 (startIn true)) s
    let u := nx (.porstRelease 0 (startIn true)) a
    t.get PWR_START_ATTEMPTS = 1 ∧ t.pwr.attempts = 2 ∧ t.get PWR_START_CDS = 2 ∧ t.get PWR_STATE_STATE = 5 ∧
    u.get PWR_START_ATTEMPTS = 3 ∧ u.get PWR_START_CDS = 1 ∧ (nx (.porstRelease 0 (startIn true)) c).get PWR_STATE_STATE = 6 := by
  decide +kernel

/-- Step 12: with no usable Avenue the device goes no further; with Avenue 1 usable it serves. -/
theorem test_data_service :
    let s := puts [(PWR_START_STEP, 9), (SPN_STAT_READY, 1), (PWR_IMG_RUN, 1), (PWR_STATE_STATE, 1), (AV_PASTAT_OUT 1, 1)] plannable
    let b := s.put (AV_FMTCTL_OK 1) 0
    let t := nx (.dataServiceReady none) s
    let u := nx (.dataServiceReady none) b
    let o := s.put SPN_STAT_READY 0
    s.restricted = false ∧ s.avUsable 1 = true ∧ s.avUsable 0 = false ∧ t.get PWR_AVEN_EN = 2 ∧ t.get PWR_START_STEP = 0 ∧
    t.get PWR_STATE_STATE = 2 ∧ t.pwr.attempts = 0 ∧ t.get PWR_IMG_ACTIVE = 1 ∧ t.pwr.lkg = true ∧
    added s t = [(1134, 0), (1134, 0), (1134, 0), (1133, 0)] ∧ (∀ n, b.avUsable n = false) ∧ u.get PWR_STATE_STATE = 5 ∧
    u.get PWR_START_CDS = 6 ∧ nx (.dataServiceReady none) o = o := by decide +kernel

/-- What a step past its limit assumes, and a device that is in no step. -/
theorem test_step_limit :
    let s := puts [(PWR_START_STEP, 5), (PWR_START_STEPLIM, 1), (REC_CTL_EN, 0)] (runningAt false)
    let o := s.put PWR_START_STEP 0
    s.pwr.inReset = false ∧ s.restricted = false ∧ s.get PWR_START_STEP ≠ 0 ∧ s.get PWR_START_STEPLIM ≠ 0 ∧ s.get REC_CTL_EN = 0 ∧
    s.pwr.risen = none ∧ s.pwr.porstLow = false ∧ (s.handleEvent ⟨1139, s.time, 0, false⟩ false).flt.events = s.flt.events + 1 ∧
    nx (.startStepLimit (startIn true)) o = o := by decide +kernel

/-- SQUARE_INIT at step 5 of a start: with the DRAM trained the start goes on to step 9, and port A's functions answer; without, the
device enters Cul-de-sac mode with reason 5. -/
theorem test_start_rest :
    let s := puts [(PWR_START_STEP, 5), (PWR_START_DRAMOK, 1), (SQR_PAGECFG_FW16, 32), (HST_PORT_UP 0, 1)] r0
    let t := nx .squareInit s
    s.restricted = false ∧ s.initCheck = 0 ∧ t.get PWR_START_STEP = 9 ∧ t.get SQR_STAT_READY = 1 ∧ t.nominal = 7200 ∧
    (t.ctl 0).ready = true ∧ (t.ctl 70).ready = true := by decide +kernel

theorem test_start_refused :
    let s := puts [(PWR_START_STEP, 5)] r0
    let t := nx .squareInit s
    s.restricted = false ∧ s.initCheck ≠ 0 ∧ t.get PWR_STATE_STATE = 5 ∧ t.get PWR_START_CDS = 5 ∧ t.get SQR_STAT_ERR = s.initCheck ∧
    (added s t).contains (1130, 0) := by decide +kernel

/-! ### Power -/

/-- A power-loss cause that PLCTL enables: PGOOD. -/
def losing : State :=
  let s := runningAt false
  { s with regs := (s.wr PWR_PLCTL 0x1F).regs, pwr := { s.pwr with causes := 4 } }

theorem test_power_loss :
    let s := puts [(SVO_STAT_STATE 2, 4), (SPN_STAT_STATE, 2)] losing
    let t := nx .powerLossSignal s
    s.lossCauses = 4 ∧ s.svIdle 2 = false ∧ s.svIdle 1 = true ∧ s.spnState = 2 ∧ t.get PWR_PLSTAT_SIGNAL = 1 ∧ t.get PWR_PLSTAT_CAUSE = 4 ∧
    t.get PWR_STATE_STATE = 7 ∧ t.pwr.commit = some 1 ∧ t.sqr.lossHold = true ∧ t.get FLS_STAT_COMMIT = 1 ∧ 1127 ∈ waiting t ∧ 365 ∈ waiting t ∧
    952 ∈ waiting t ∧ (t.avn 2).wg = false ∧ t.svState 2 = 9 ∧ t.svState 1 = s.svState 1 ∧ t.spnState = 7 ∧
    untouchedB [.regs, .av, .svo, .spn, .sqr, .fls, .dma, .pwr, .flt] s t = true ∧ nx .powerLossSignal (runningAt false) = runningAt false := by
  decide +kernel

/-- A commit of kind `k` runs with one dirty page and no open write. -/
def committingAs (k : Nat) (low : Bool) : State :=
  let s := (runningAt low).setPage 3 { pageOf .dirty 40 with data := [5], pmeta := [] }
  { s with pwr := { s.pwr with commit := some k } }

theorem test_commit_record :
    let s := committingAs 1 false
    let t := nx (.commitRecord true) s
    (∀ n, s.svState n ≠ 9) ∧ s.openWrites = [] ∧ s.commitPages = [3] ∧ (t.pwr.newest.map (fun r => (r.kind, r.npages, r.cause, r.time))) = some (1, 1, 0, 900) ∧
    t.pwr.newestOk = true ∧ t.pwr.commit = none ∧ t.pwr.committed = some true ∧ t.pwr.log = (s.pwr.log.modify 1 (· + 1)).set 4 900 ∧
    t.sqr.journal = s.sqr.journal ++ [(s.page 3).journalBlock] ∧ waiting t = [1128] ∧
    frameB [FLS_WUSED_LO_WUSED, FLS_WUSED_HI_WUSED, FLS_STAT_RESERVE] [.regs, .sqr, .fls, .pwr, .flt, .recd] s t = true := by decide +kernel

theorem test_commit_fails :
    let s := committingAs 4 false
    let b := s.put (SVO_STAT_STATE 0) 9
    nx (.commitRecord false) s = { s with pwr := { s.pwr with commit := none, committed := some false, newestOk := false } } ∧
    nx (.commitRecord true) b = b ∧ nx (.commitRecord true) (runningAt false) = runningAt false := by decide +kernel

theorem test_commit_porst :
    let s := committingAs 3 true
    let t := nx (.commitRecord false) s
    (∀ n, s.svState n ≠ 9) ∧ s.pwr.porstLow = true ∧ t.pwr.inReset = true ∧ t.pwr.committed = some false ∧ t.get FLT_CRREASON_KIND = 2 ∧
    t.get FLT_CRREASON_CUT = 0 := by decide +kernel

/-- What a withdrawal assumes; and a state without a signal. -/
theorem test_withdraw :
    let s := (runningAt false).put PWR_PLSTAT_SIGNAL 1
    s.get PWR_PLSTAT_SIGNAL = 1 ∧ s.pwr.commit = none ∧ s.lossCauses = 0 ∧ s.pwr.porstLow = false ∧ s.pwr.risen = none ∧
    nx (.powerLossWithdraw (startIn true)) losing = losing := by decide +kernel

/-- The one enabled controller has shut down. -/
def shutAt : State := (runningAt false).modCtl 0 (fun c => { c with ccEn := true, shst := 2 })

theorem test_clean_stop :
    let s := shutAt
    let t := nx .cleanStopRecord s
    s.allShut = true ∧ s.stopReady = true ∧ s.pwr.cleanStop = false ∧ s.sqr.lossHold = false ∧
    (t.pwr.newest.map (fun r => (r.kind, r.npages))) = some (2, 0) ∧ t.pwr.cleanStop = true ∧ t.fls.seq = s.fls.seq + 2 ∧
    frameB [FLS_WUSED_LO_WUSED, FLS_WUSED_HI_WUSED, FLS_STAT_RESERVE] [.regs, .fls, .pwr, .flt] s t = true := by decide +kernel

theorem test_open_marker :
    let s : State := { runningAt false with pwr := { (runningAt false).pwr with cleanStop := true } }
    let t := nx .openMarker s
    (t.pwr.newest.map CommitRec.kind) = some 5 ∧ t.pwr.cleanStop = false ∧ t.pwr.newestOk = false ∧ t.fls.seq = s.fls.seq + 2 ∧
    frameB [FLS_WUSED_LO_WUSED, FLS_WUSED_HI_WUSED, FLS_STAT_RESERVE] [.regs, .fls, .pwr, .flt] s t = true ∧
    nx .openMarker (runningAt false) = runningAt false ∧ nx .cleanStopRecord (runningAt false) = runningAt false := by decide +kernel

/-- Serving with nothing in flight, and a time after which to enter Standby. -/
def servingAt (pages : List (Nat × Page)) : State :=
  let s := puts [(PWR_PMCFG_STBYT, 1), (PWR_STATE_STATE, 2), (SPN_STAT_STATE, 2), (SPN_STAT_READY, 1), (SVO_STAT_STATE 2, 4)] (runningAt false)
  pages.foldl (fun t p => t.setPage p.1 p.2) s

theorem test_standby :
    let s := servingAt []
    let d := servingAt [(3, pageOf .dirty 40)]
    let o := s.put PWR_PMCFG_STBYT 0
    let t := nx .standbyEntry s
    let u := nx .standbyEntry d
    s.powerState = 2 ∧ s.noCommands = true ∧ s.dirtyPages = 0 ∧ s.allIdle = false ∧ t.get PWR_STATE_STATE = 3 ∧ t.get SPN_TARGET_TARGET = 0 ∧
    t.svState 2 = 7 ∧ t.spnState = 3 ∧ untouchedB [.regs, .av, .svo, .spn, .flt] s t = true ∧ d.dirtyPages ≠ 0 ∧ d.sqr.drains = [] ∧
    u.sqr.drains.length = 1 ∧ frameB [SQR_DRAIN_EPOCH] [.regs, .sqr] d u = true ∧ nx .standbyEntry o = o := by decide +kernel

theorem test_sleep_entry :
    let s0 := puts [(PWR_STATE_STATE, 3), (PWR_AVSLIM_MINCODE, 17), (CPU_CORESTAT_STATE 1, 1)] (runningAt false)
    let s : State := { s0 with recd := { s0.recd with fifo := [⟨2, 3, [1, 2]⟩] } }
    let t := nx .sleepEntry s
    s.powerState = 3 ∧ s.portsQuiet = true ∧ s.dirtyPages = 0 ∧ s.stopReady = true ∧ t.get PWR_STATE_STATE = 4 ∧ t.recd.fifo = [] ∧
    t.get PWR_VREQ_CODE = 17 ∧ t.get (tdExpect 28) = 0 ∧ t.get (tdExpect 22) = 0 ∧ t.get (CPU_CORESTAT_STATE 1) = 2 ∧
    t.pwr.cleanStop = true ∧ untouchedB [.regs, .fls, .pwr, .flt, .recd, .mem] s t = true := by decide +kernel

theorem test_sleep_drains :
    let s := (puts [(PWR_STATE_STATE, 3)] (runningAt false)).setPage 3 (pageOf .dirty 40)
    let t := nx .sleepEntry s
    s.portsQuiet = true ∧ s.dirtyPages ≠ 0 ∧ t.sqr.drains.length = 1 ∧ t.get PWR_STATE_STATE = 3 := by decide +kernel

theorem test_sleep_exit :
    let s := puts [(PWR_STATE_STATE, 4), (CPU_CORESTAT_STATE 1, 2), (HST_PORT_PERST 1, 1), (HST_PORT_PERST 0, 1)] (runningAt false)
    let l : State := { s with host := { s.host with l12 := [1] } }
    let t := nx (.sleepExit .wakePin) s
    let u := nx (.sleepExit (.linkUp 1)) l
    let v := nx (.sleepExit (.perst 0)) s
    t.get PWR_STATE_STATE = 3 ∧ t.get (tdExpect 28) = 1 ∧ t.get (CPU_CORESTAT_STATE 1) = 1 ∧ t.recd.fifo = [⟨7, 0xFF, leBytes 8 900⟩] ∧
    untouchedB [.regs, .recd] s t = true ∧ u.get PWR_STATE_STATE = 3 ∧ u.host.l12 = [] ∧ u.get (tdExpect 27) = 1 ∧ s.portUsed 0 = true ∧
    v.get PWR_STATE_STATE = 3 ∧ v.get (HST_PORT_PERST 0) = 0 ∧ nx (.sleepExit .wakePin) (runningAt false) = runningAt false := by decide +kernel

theorem test_deep_standby :
    let s := puts [(PWR_STATE_STATE, 4), (PWR_PMCFG_DSEN, 1), (HST_PORT_PERST 1, 1), (HST_PORT_PERST 0, 1)] (runningAt false)
    let o := s.put PWR_PMCFG_DSEN 0
    let t := nx .deepStandbyEntry s
    t.pwr.deep = true ∧ t.pwr.inReset = true ∧ t.get PWR_AON_DSBY = 1 ∧ t.tim.now = 0 ∧ t.flt.inbox = [] ∧
    t.rd PWR_PLCTL = resetWord PWR_PLCTL ∧ nx .deepStandbyEntry o = o := by decide +kernel

theorem test_deep_wake :
    let s0 := runningAt false
    let s : State := { s0 with pwr := { s0.pwr with deep := true, wakeSpent := true } }
    let t := nx (.deepStandbyWake true 0 (startIn false)) s
    t.get PWR_AON_DSBY = 1 ∧ ⟨1138, 0, 0, false⟩ ∈ t.flt.inbox ∧ t.pwr.deep = false ∧ t.get REC_BOOT_BOOT = 1 ∧
    nx (.deepStandbyWake false 0 (startIn false)) s = s ∧ nx (.deepStandbyWake true 0 (startIn false)) s0 = s0 ∧
    (nx .wakeSupplyTimeout { s with pwr := { s.pwr with wakeSpent := false } }).pwr.wakeSpent = true ∧ nx .wakeSupplyTimeout s0 = s0 := by
  decide +kernel

/-- A sample of TD36. -/
def sampleOf (v : Nat) (temps : List Int) : SupplySample := { temps := temps, rails := ⟨v, 900, 900, 900⟩, inWindow := true }

theorem test_rails :
    let s0 := puts [(PWR_PLTHR_VIO, 100)] (runningAt false)
    let s : State := { s0 with pwr := { s0.pwr with lowRuns := [3, 0, 0, 0] } }
    let r : State := { s0 with pwr := { s0.pwr with inReset := true } }
    let t := nx (.supplyMonitorSample (sampleOf 99 [])) s
    let u := nx (.supplyMonitorSample (sampleOf 100 [])) s
    t.pwr.lowRuns = [4, 0, 0, 0] ∧ t.pwr.causes = 2 ∧ u.pwr.lowRuns = [0, 0, 0, 0] ∧ u.pwr.causes = 0 ∧ added s u = [(1137, 0)] ∧
    untouchedB [.pwr, .flt] s u = true ∧ nx (.supplyMonitorSample (sampleOf 99 [])) r = r := by decide +kernel

theorem test_temperatures :
    let s := puts [(PWR_THERM_TWARN, 95), (PWR_THERM_TCRIT, 105), (SQR_WIN_WIN, 64)] (runningAt false)
    let w := s.put SQR_WIN_WIN 200
    let t := nx (.supplyMonitorSample (sampleOf 900 [-3, 110])) s
    let u := nx (.supplyMonitorSample (sampleOf 900 [96, 95])) w
    t.geti PWR_THERM_TJ = 110 ∧ t.pwr.hotWarn = true ∧ t.pwr.hotCrit = true ∧ 1135 ∈ waiting t ∧ 1136 ∈ waiting t ∧
    frameB [PWR_THERM_TJ] [.regs, .pwr, .flt] s t = true ∧ u.geti PWR_THERM_TJ = 96 ∧ u.pwr.hotCrit = false ∧ u.get SQR_WIN_WIN = 64 := by
  decide +kernel

theorem test_pgood_loss :
    let s := runningAt false
    let t := nx .pgoodFall s
    let u := nx .pgoodLossExpiry t
    t.get PWR_VREQ_PGOOD = 0 ∧ t.pace = { s.pace with pgTiming := true } ∧ t.pwr = { s.pwr with pgtTiming := true } ∧
    frameB [PWR_VREQ_PGOOD] [.regs, .pace, .pwr] s t = true ∧ u.pwr.causes = 4 ∧ u.pwr.pgtTiming = false ∧
    nx .pgoodLossExpiry s = s := by decide +kernel

/-! ### Bad accesses, the L2's index, replacement LFSRs -/

/-- An access to an address that holds no register is bad: counted, captured, reading 0; the next one is only counted. -/
theorem test_bad_read :
    let s : State := { r0 with bus := { r0.bus with rdata := 7 } }
    let acc : BusAccess := .internal 0x01FFFFFC
    let t := nx (.readClearAccess acc []) s
    let u := nx (.registerWrite acc 5) t
    (match s.accessTarget acc with
      | .bad c b a => c == t.get SYS_BADACC_CAUSE && !b && a == 0x01FFFFFC
      | _ => false) = true ∧
    s.get SYS_BADACC_VALID = 0 ∧ t.get SYS_BADACC_VALID = 1 ∧ t.get SYS_BADACC_ADDR = 0x01FFFFFC ∧ t.get SYS_BADACC_WRITE = 0 ∧
    t.bus.rdata = 0 ∧ t.get SYS_BADCNT_COUNT = 1 ∧ u.get SYS_BADCNT_COUNT = 2 ∧ u.rd SYS_BADACC = t.rd SYS_BADACC := by decide +kernel

/-- A write to a register of RO fields alone; then VALID is cleared by a write of 1. -/
theorem test_bad_write :
    let s := r0
    let t := nx (.registerWrite (.internal SYS_ID) 5) s
    let u := nx (.registerWrite (.internal SYS_BADACC) 0x80000000) t
    (regAt SYS_ID).isSome = true ∧ t.get SYS_BADACC_CAUSE = 3 ∧ t.get SYS_BADACC_WRITE = 1 ∧ t.rd SYS_ID = s.rd SYS_ID ∧
    t.get SYS_BADCNT_COUNT = 1 ∧ u.get SYS_BADACC_VALID = 0 ∧ u.get SYS_BADCNT_COUNT = 1 := by decide +kernel

/-- A locked field written with another value. -/
theorem test_bad_locked :
    let s := r0.put CPU_CTL_LOCK 1
    let t := nx (.registerWrite (.internal (CPU_L2PART 0)) (s.rd (CPU_L2PART 0) + 1)) s
    t.rd (CPU_L2PART 0) = s.rd (CPU_L2PART 0) ∧ t.get SYS_BADACC_CAUSE = 4 ∧ t.get SYS_BADCNT_COUNT = 1 := by decide +kernel

/-! ### Worked examples and check values of the spec -/

/-- Chapter 0: the register at offset 0x0200 of AV2 is reached through page 4 at offset 0x0020_0200. -/
theorem test_example_window :
    let s : State := { r0 with bus := { r0.bus with winOpen := true, page := 4 } }
    s.accessTarget (.window 0x200200 4 15) = s.accessTarget (.internal 0x01200200) := by decide +kernel

/-- Table 11-9: the Avenues and offsets of data units 7,812 to 7,819 of a 3+1 region. -/
theorem test_example_units :
    ([7812, 7813, 7814, 7815, 7816, 7817, 7818, 7819].map (unitOffsets 3 15 1)) =
      [[(0, 2604)], [(1, 2604)], [(2, 2604)], [(3, 2605)], [(0, 2605)], [(1, 2605)], [(2, 2606)], [(3, 2606)]] := by decide +kernel

/-- 14.4: check values of the Cauchy matrix for K = 8 and M = 3. -/
theorem test_example_cauchy : cauchy 3 0 0 = 0xF4 ∧ cauchy 3 0 1 = 0x47 := by decide +kernel

/-- 16.5: descriptor word 0 of the equaliser load: TYPE 0, IRQ 1, 8-byte source accesses, 4-byte destination accesses. -/
theorem test_example_descriptor :
    let d : List Word := [0x8B800000, 256, 0x01000000, 0, 0x01124500, 0x10, 0, 0]
    dType d = 0 ∧ dIrq d = true ∧ dFence d = false ∧ dSrcWidth d = 8 ∧ dDstWidth d = 4 ∧ dLength d = 256 ∧ dSrc d = 0x1000000 ∧
    dDst d = 0x1001124500 ∧ regionOf 0x1001124500 = some .reg := by decide +kernel

/-- 18.7: the set of address 0x00_2345_6780, and the victim among ways 4 to 7 from the reset seed. -/
theorem test_example_l2 :
    l2Set 0x23456780 = 0xD4F ∧ lfsrNext 0xACE1 = 0x5670 ∧ 0x5670 * 4 / 2 ^ 16 = 1 ∧ (r0.put (CPU_L2PART_MASK 1) 0x00F0).partWays 1 = [4, 5, 6, 7] ∧
    (r0.put (CPU_L2PART_MASK 0) 0xFF0F).partWays 0 = [0, 1, 2, 3, 8, 9, 10, 11, 12, 13, 14, 15] := by decide +kernel

/-- The published digests of the three letters abc begin so. -/
theorem test_digest_values :
    (sha256 ([0x61, 0x62, 0x63] : List Byte)).take 4 = [0xBA, 0x78, 0x16, 0xBF] := by decide +kernel

/-! ### Ill-formed commands: one term at least for every check -/

/-- Operands that are well formed but for what is put into them. -/
def wfHops : HopFaults := ⟨false, 0, false⟩
def wfReads : ReadInput := ⟨[], [], wfHops⟩
def wfWrites : WriteInput := ⟨[], wfHops, [], []⟩
def wfFlit : Flit := ⟨0, 1, false, false, true, [0, 0, 2, 0]⟩
def wfSqe : Sqe := ⟨2, 0, 1, 0, 0, 0, 0, 0, 0⟩
def wfRegion : RegionSpec := ⟨3, 15, 1, 1, [0, 0, 0, 0], true⟩
def wfImage : AvImage := ⟨[], [], [], [], 0, [], []⟩

theorem test_wf_flits : (Instr.flitDelivery wfFlit).wf = true ∧ (Instr.flitDelivery { wfFlit with dst := 0 }).wf = false ∧
    (Instr.flitDelivery { wfFlit with errors := [0, 0, 0] }).wf = false ∧
    (Instr.flitDelivery { wfFlit with errors := [0, 3, 0, 0] }).wf = false := by decide +kernel

theorem test_wf_reads : (Instr.readClearAccess (.internal 4) [⟨32, 1⟩]).wf = false ∧ (Instr.readClearAccess (.internal 4) [⟨31, 1⟩]).wf = true ∧
    (Instr.lowerWordCaptureRead (.window 0 9 15)).wf = false ∧ (Instr.lowerWordCaptureRead (.window 0 0 15)).wf = false ∧
    (Instr.readClearAccess (.window 0 4 256) []).wf = false := by decide +kernel

theorem test_wf_lanes : (Instr.paceGateEnd (List.replicate 15 0)).wf = false ∧ (Instr.paceGateEnd (List.replicate 16 0)).wf = true ∧
    (Instr.laneUpdate 0 (List.replicate 7 0) (List.replicate 8 0) false).wf = false ∧
    (Instr.laneUpdate 0 (List.replicate 8 0) (List.replicate 9 0) false).wf = false ∧
    (Instr.sampleBlock 0 0 (List.replicate 31 0) (List.replicate 32 0) (List.replicate 16 0)).wf = false ∧
    (Instr.sampleBlock 0 0 (List.replicate 32 0) (List.replicate 31 0) (List.replicate 16 0)).wf = false ∧
    (Instr.sampleBlock 0 0 (List.replicate 32 0) (List.replicate 32 0) (List.replicate 15 0)).wf = false := by decide +kernel

theorem test_wf_images : (Instr.amLoad 0 { wfImage with micro := [(3072, 0)] }).wf = false ∧
    (Instr.amLoad 0 { wfImage with nano := [(768, 0)] }).wf = false ∧ (Instr.omLoad 0 { wfImage with micro := [(3071, 0)] }).wf = false ∧
    (Instr.omLoad 0 { wfImage with micro := [(4096, 0)] }).wf = false ∧ (Instr.omLoad 0 { wfImage with nano := [(767, 0)] }).wf = false ∧
    (Instr.omLoad 0 { wfImage with nano := [(1024, 0)] }).wf = false ∧ (Instr.amLoad 0 { wfImage with micro := [(3071, 0)] }).wf = true := by
  decide +kernel

theorem test_wf_seeks : (Instr.seekRequest 0 ⟨false, 0, 0, 4⟩).wf = false ∧ (Instr.spinCmdWindow (.duty [(0, 0)] none)).wf = false ∧
    (Instr.relocateSector 0 ⟨0, 0, 4096⟩ []).wf = false ∧ (Instr.preampDiscovery 0 ⟨true, List.replicate 4 descriptor, true⟩).wf = false := by
  decide +kernel

/-- Entries of the flash queues with more data than their pages hold. -/
theorem test_wf_entries :
    let e : FlashEntry := { flashEntryOf 0 with data := [], pmeta := List.replicate 300 0 }
    (Instr.flashRead e).wf = false ∧ (Instr.flashErase e).wf = false ∧ (Instr.flashMread e).wf = false ∧ (Instr.flashProgram e).wf = false ∧
    (Instr.fillEnd 0 (.failed 0 256 0)).wf = false ∧ (Instr.fillEnd 0 (.failed 0 0 65536)).wf = false := by decide +kernel

theorem test_wf_region_tags : (Instr.regionDefine 16384 5 wfRegion).wf = false ∧ (Instr.reshapeStart 16384 5 wfRegion).wf = false ∧
    (Instr.reshapeStart 7 5 { wfRegion with base := [] }).wf = false ∧ (Instr.elementReinstate 16384 (.actuator 0)).wf = false ∧
    (Instr.regionDefine 7 5 wfRegion).wf = true ∧ (Instr.squareReadLookup { readOf 1 1 with req := ⟨none, 3, 0, 0⟩ }).wf = false := by
  decide +kernel

theorem test_wf_queues : (Instr.submissionQueueDoorbell 0 1 65536).wf = false ∧ (Instr.completionQueueDoorbell 0 1 65536).wf = false ∧
    (Instr.controllerEnable 0 0 4097 1).wf = false ∧ (Instr.controllerEnable 0 0 1 4097).wf = false := by decide +kernel

theorem test_wf_fetch : (Instr.commandFetch { wfSqe with opcode := 256 }).wf = false ∧ (Instr.commandFetch { wfSqe with cid := 65536 }).wf = false ∧
    (Instr.commandFetch wfSqe).wf = true ∧
    ([{ wfSqe with nsid := 2 ^ 32 }, { wfSqe with c10 := 2 ^ 32 }, { wfSqe with c11 := 2 ^ 32 }, { wfSqe with c12 := 2 ^ 32 },
      { wfSqe with c13 := 2 ^ 32 }, { wfSqe with c14 := 2 ^ 32 }, { wfSqe with c15 := 2 ^ 32 }] : List Sqe).all
        (fun e => !(Instr.commandFetch e).wf) = true := by decide +kernel

theorem test_wf_io : (Instr.write 7 { wfWrites with blocks := [([], [])] }).wf = false ∧
    (Instr.write 7 { wfWrites with close := [⟨384, none⟩] }).wf = false ∧ (Instr.writeZeroes 7 { wfWrites with parity := [⟨128, false⟩] }).wf = false ∧
    (Instr.read 7 { wfReads with media := [(0, .failed 8 0 0)] }).wf = false ∧ (Instr.verify 7 { wfReads with media := [(0, .data [] [])] }).wf = false ∧
    (Instr.datasetManagement 7 (List.replicate 257 (0, 0))).wf = false ∧ (Instr.firmwareImageDownload 7 ⟨2, []⟩).wf = false ∧
    (Instr.arcadeStep 7 ⟨{ wfReads with media := [(0, .failed 8 0 0)] }, 0, false⟩).wf = false ∧
    (Instr.arcadeChannelRequest 0 ⟨1, 0, false, false, []⟩).wf = false ∧
    (Instr.supplyMonitorSample (sampleOf 900 [])).wf = false ∧ (Instr.supplyMonitorSample (sampleOf 900 [128])).wf = false ∧
    (Instr.supplyMonitorSample (sampleOf 900 [-129])).wf = false := by decide +kernel

/-- No command but a device's own carries a tag above 16,383. -/
theorem test_wf_tags : ([.flush 16384, .write 16384 wfWrites, .read 16384 wfReads, .writeZeroes 16384 wfWrites, .datasetManagement 16384 [],
      .verify 16384 wfReads, .reservationRegister 16384 0 0, .reservationReport 16384, .reservationAcquire 16384 0 0, .reservationRelease 16384 0,
      .deleteIoSubmissionQueue 16384, .createIoSubmissionQueue 16384, .deleteIoCompletionQueue 16384, .createIoCompletionQueue 16384,
      .getLogPage 16384, .identify 16384, .abort 16384 [], .setFeatures 16384 [], .getFeatures 16384, .asynchronousEventRequest 16384] : List Instr).all
        (fun i => !i.wf) = true ∧
    ([.firmwareImageDownload 16384 ⟨0, []⟩, .firmwareCommit 16384, .formatNvm 16384, .securitySend 16384, .securityReceive 16384, .sanitize 16384,
      .namespaceCreate 16384 ⟨0, 0, 0, 0, 0⟩, .namespaceDelete 16384, .namespaceAttachDetach 16384 0 true, .setControllerWeight 16384,
      .arcadeContextOpen 16384 none, .arcadeContextClose 16384 none, .objectGet 16384 none, .objectPut 16384 none, .objectDelete 16384 none,
      .objectList 16384 none, .encode 16384 none, .digest 16384 none, .arcadeVerify 16384 none, .arcadeBarrierRelease 16384] : List Instr).all
        (fun i => !i.wf) = true ∧
    ([.arcadeStep 16384 ⟨wfReads, 0, false⟩, .ownerClaim 16384 [], .ownerRootUpdate 16384 [], .tenancyCreate 16384, .tenancyDelete 16384,
      .controllerBind 16384, .tenancyCryptoErase 16384, .antiRollbackAdvance 16384 none, .debugUnlock 16384 [] []] : List Instr).all
        (fun i => !i.wf) = true := by decide +kernel

/-- Control blocks have 384 bytes. -/
theorem test_wf_blocks : ([.arcadeContextOpen 7 (some []), .arcadeContextClose 7 (some []), .objectGet 7 (some []), .objectPut 7 (some []),
      .objectDelete 7 (some []), .objectList 7 (some []), .encode 7 (some []), .digest 7 (some []), .arcadeVerify 7 (some [])] : List Instr).all
        (fun i => !i.wf) = true := by decide +kernel

end Sys2Proof.Tests
end

section
/-! SUPPORT. Bit fields under a list of writes, the parts that a change of the register file alone leaves as they were, and what
the register map (Tables 0-4 and 0-6) says of every register at once: its fields share no bit. -/

namespace Sys2Proof.Machine

/-! ### Bit fields of numbers -/

theorem bitsOf_lt (w lo wid : Nat) : bitsOf w lo wid < 2 ^ wid := Nat.mod_lt _ (by positivity)

theorem bitsOf_setBits_self (w lo wid v : Nat) : bitsOf (setBits w lo wid v) lo wid = v % 2 ^ wid := by
  apply Nat.eq_of_testBit_eq
  intro j
  simp only [testBit_bitsOf, testBit_setBits, Nat.testBit_mod_two_pow, Nat.add_sub_cancel_left]
  by_cases hj : j < wid <;> simp [hj]

theorem bitsOf_setBits_of_apart (w v : Nat) {lo wid l k : Nat} (h : lo + wid ≤ l ∨ l + k ≤ lo) :
    bitsOf (setBits w lo wid v) l k = bitsOf w l k := by
  apply Nat.eq_of_testBit_eq
  intro j
  simp only [testBit_bitsOf, testBit_setBits]
  by_cases hj : j < k
  · rw [if_neg (by omega)]
  · simp [hj]

theorem bitsOf_mod_word (w : Nat) {lo wid : Nat} (h : lo + wid ≤ 32) : bitsOf (w % 2 ^ 32) lo wid = bitsOf w lo wid := by
  apply Nat.eq_of_testBit_eq
  intro j
  simp only [testBit_bitsOf, Nat.testBit_mod_two_pow]
  by_cases hj : j < wid
  · simp [hj, show lo + j < 32 by omega]
  · simp [hj]

section Fold
variable {α : Type} (lo wid val : α → Nat)

/-- Bits keep the value `V` through a list of field writes, each of which lies elsewhere or writes `V` there. -/
theorem bitsOf_foldl_setBits_keep {L W V : Nat} (l : List α)
    (h : ∀ g ∈ l, (lo g = L ∧ wid g = W ∧ val g % 2 ^ W = V) ∨ lo g + wid g ≤ L ∨ L + W ≤ lo g) (w : Nat)
    (hw : bitsOf w L W = V) : bitsOf (l.foldl (fun x g => setBits x (lo g) (wid g) (val g)) w) L W = V := by
  induction l generalizing w with
  | nil => exact hw
  | cons g l ih =>
    refine ih (fun k hk => h k (List.mem_cons_of_mem _ hk)) _ ?_
    rcases h g (List.mem_cons_self ..) with ⟨rfl, rfl, hv⟩ | hg
    · rw [bitsOf_setBits_self, hv]
    · rw [bitsOf_setBits_of_apart _ _ hg, hw]

/-- A list of field writes that each lie apart from `g` or write the same to it leaves there what `g` writes. -/
theorem bitsOf_foldl_setBits_mem {g : α} {l : List α} (hg : g ∈ l)
    (h : ∀ k ∈ l, (lo k = lo g ∧ wid k = wid g ∧ val k = val g) ∨ lo k + wid k ≤ lo g ∨ lo g + wid g ≤ lo k) (w : Nat) :
    bitsOf (l.foldl (fun x g => setBits x (lo g) (wid g) (val g)) w) (lo g) (wid g) = val g % 2 ^ wid g := by
  obtain ⟨l₁, l₂, rfl⟩ := List.append_of_mem hg
  rw [List.foldl_append, List.foldl_cons]
  refine bitsOf_foldl_setBits_keep lo wid val l₂ (fun k hk => ?_) _ (bitsOf_setBits_self ..)
  rcases h k (by simp [hk]) with ⟨h1, h2, h3⟩ | hk
  · exact .inl ⟨h1, h2, by rw [h3]⟩
  · exact .inr hk

end Fold

/-! ### Words and fields of the register file -/

theorem State.get_of_rd_eq {s t : State} {f : Fld} (h : t.rd f.addr = s.rd f.addr) : t.get f = s.get f := by
  unfold State.get; rw [h]

theorem State.rd_of_regs_eq {s t : State} (h : t.regs = s.regs) (a : Nat) : t.rd a = s.rd a := by
  unfold State.rd; rw [h]

theorem State.get_of_regs_eq {s t : State} (h : t.regs = s.regs) (f : Fld) : t.get f = s.get f :=
  State.get_of_rd_eq (State.rd_of_regs_eq h _)

theorem State.get_lt (s : State) (f : Fld) : s.get f < 2 ^ f.wid := bitsOf_lt ..

/-- A one-bit field is set when it does not read 0. -/
theorem State.is_eq_false_iff (s : State) (f : Fld) : s.is f = false ↔ s.get f = 0 := by simp [State.is]

theorem State.is_eq_true_iff (s : State) (f : Fld) : s.is f = true ↔ s.get f ≠ 0 := by simp [State.is]

theorem State.get_putb_self (s : State) (f : Fld) (b : Bool) (h : f.lo + f.wid ≤ 32) (hw : 0 < f.wid) :
    (s.putb f b).get f = if b then 1 else 0 := by
  unfold State.putb
  rw [State.get_put_self s f _ h, Nat.mod_eq_of_lt]
  have : 2 ^ 1 ≤ 2 ^ f.wid := Nat.pow_le_pow_right (by norm_num) hw
  split <;> omega

/-! The laws of a field written, with side conditions that `decide` closes for named fields. -/

theorem State.get_put_elsewhere (s : State) (f g : Fld) (v : Nat)
    (h : f.addr ≠ g.addr ∨ f.lo + f.wid ≤ g.lo ∨ g.lo + g.wid ≤ f.lo) : (s.put f v).get g = s.get g :=
  State.get_put_of_apart s v h

theorem State.get_putb_elsewhere (s : State) (f g : Fld) (b : Bool)
    (h : f.addr ≠ g.addr ∨ f.lo + f.wid ≤ g.lo ∨ g.lo + g.wid ≤ f.lo) : (s.putb f b).get g = s.get g :=
  State.get_put_of_apart s _ h

/-! ### Parts -/

/-- A change of the register file alone leaves every other part. -/
theorem Untouched.setRegs (s : State) (m : KMap Word) : Untouched [.regs] s { s with regs := m } := by
  intro p hp
  cases p <;> simp_all [Part.same]

theorem Untouched.mono {ps qs : List Part} {s t : State} (h : Untouched ps s t) (hsub : ps ⊆ qs) : Untouched qs s t :=
  fun p hp => h p (fun hm => hp (hsub hm))

theorem Untouched.put {ps : List Part} {s t : State} (h : Untouched ps s t) (hr : .regs ∈ ps) (f : Fld) (v : Nat) :
    Untouched ps s (t.put f v) := h.trans (.mono (.setRegs t _) (by simpa using hr))

theorem WordsBut.refl (as : List Nat) (s : State) : WordsBut as s s := fun _ _ => rfl

theorem WordsBut.trans {as : List Nat} {s t u : State} (h1 : WordsBut as s t) (h2 : WordsBut as t u) : WordsBut as s u :=
  fun a ha => (h2 a ha).trans (h1 a ha)

theorem WordsBut.mono {as bs : List Nat} {s t : State} (h : WordsBut as s t) (hsub : as ⊆ bs) : WordsBut bs s t :=
  fun a ha => h a (fun hm => ha (hsub hm))

theorem WordsBut.put {as : List Nat} {s t : State} (h : WordsBut as s t) {f : Fld} (hf : f.addr ∈ as) (v : Nat) :
    WordsBut as s (t.put f v) :=
  fun a ha => (State.rd_put_of_ne t f v (fun e => ha (by rw [e]; exact hf))).trans (h a ha)

theorem WordsBut.of_regs_eq {as : List Nat} {s t u : State} (h : WordsBut as s t) (e : u.regs = t.regs) : WordsBut as s u :=
  fun a ha => (State.rd_of_regs_eq e a).trans (h a ha)

/-! ### Four like things -/

@[simp] theorem Quad.get_set_self {α : Type} (q : Quad α) (n : Fin 4) (v : α) : (q.set n v).get n = v := by
  fin_cases n <;> rfl

theorem Quad.get_set_of_ne {α : Type} (q : Quad α) {m n : Fin 4} (v : α) (h : m ≠ n) : (q.set n v).get m = q.get m := by
  fin_cases n <;> fin_cases m <;> simp_all [Quad.get, Quad.set]

/-! ### The register map -/

/-- The fields of one register lie in its word and share no bit. -/
def fieldsApart (fs : List FieldSpec) : Bool :=
  fs.all fun f => decide (f.lo + f.wid ≤ 32) &&
    fs.all fun g => decide (g = f ∨ g.lo + g.wid ≤ f.lo ∨ f.lo + f.wid ≤ g.lo)

theorem option_all_ite {α : Type} {c : Prop} [Decidable c] {x y : Option α} {p : α → Bool} (hx : x.all p = true)
    (hy : y.all p = true) : (if c then x else y).all p = true := by
  by_cases h : c
  · rwa [if_pos h]
  · rwa [if_neg h]

/-- Every register of every block of Table 0-4 has fields that share no bit. -/
theorem blockAt_fieldsApart (a : Nat) : (blockAt a).all (fun p => p.2.all fun r => fieldsApart r.fields) = true := by
  unfold blockAt
  repeat' refine option_all_ite ?_ ?_
  all_goals simp only [Option.all_some, Option.all_none]
  all_goals decide +kernel

theorem regAt_fieldsApart {a b : Nat} {r : RegSpec} (h : regAt a = some (b, r)) : fieldsApart r.fields = true := by
  have hall := blockAt_fieldsApart a
  unfold regAt at h
  split at h
  · cases h
  next b' rs hb =>
    obtain ⟨r', hr, he⟩ := Option.map_eq_some_iff.1 h
    obtain ⟨-, rfl⟩ := Prod.mk.inj he
    rw [hb, Option.all_some] at hall
    exact List.all_eq_true.1 hall r' (List.mem_of_find?_eq_some hr)

theorem field_in_word {fs : List FieldSpec} (h : fieldsApart fs = true) {f : FieldSpec} (hf : f ∈ fs) : f.lo + f.wid ≤ 32 := by
  have := List.all_eq_true.1 h f hf
  simp only [Bool.and_eq_true, decide_eq_true_eq] at this
  exact this.1

theorem field_same_or_apart {fs : List FieldSpec} (h : fieldsApart fs = true) {f g : FieldSpec} (hf : f ∈ fs) (hg : g ∈ fs) :
    g = f ∨ g.lo + g.wid ≤ f.lo ∨ f.lo + f.wid ≤ g.lo := by
  have := List.all_eq_true.1 h f hf
  simp only [Bool.and_eq_true, List.all_eq_true, decide_eq_true_eq] at this
  exact this.2 g hg

end Sys2Proof.Machine
end

section
/-! SUPPORT. Bad accesses (R27): what one counts, what it captures, and that it does nothing else. -/

namespace Sys2Proof.Machine

/-- The fields that a bad access may change (Tables 0-8 and 0-9). -/
def badAccessFlds : List Fld :=
  [SYS_BADCNT_COUNT, SYS_BADACC_VALID, SYS_BADACC_BAROFS, SYS_BADACC_CAUSE, SYS_BADACC_WRITE, SYS_BADACC_ADDR]

/-- What SYS_BADACC holds after a capture (Table 0-8). -/
def State.captured (s : State) (cause : Nat) (bar write : Bool) (addr : Nat) : State :=
  ((((s.putb SYS_BADACC_VALID true).putb SYS_BADACC_BAROFS bar).put SYS_BADACC_CAUSE cause).putb SYS_BADACC_WRITE write).put
    SYS_BADACC_ADDR addr

variable (s : State) (cause addr : Nat) (bar write : Bool)

theorem badCount_get_valid : (s.bump SYS_BADCNT_COUNT).get SYS_BADACC_VALID = s.get SYS_BADACC_VALID :=
  State.get_put_elsewhere s _ _ _ (by decide)

theorem badAccess_of_invalid (h : s.get SYS_BADACC_VALID = 0) :
    s.badAccess cause bar write addr = (s.bump SYS_BADCNT_COUNT).captured cause bar write addr := by
  have hv : (s.bump SYS_BADCNT_COUNT).is SYS_BADACC_VALID = false := by
    rw [State.is_eq_false_iff, badCount_get_valid, h]
  simp [State.badAccess, hv, State.captured]

theorem badAccess_of_valid (h : s.get SYS_BADACC_VALID = 1) :
    s.badAccess cause bar write addr = s.bump SYS_BADCNT_COUNT := by
  have hv : (s.bump SYS_BADCNT_COUNT).is SYS_BADACC_VALID = true := by
    rw [State.is_eq_true_iff, badCount_get_valid, h]; decide
  simp [State.badAccess, hv]

/-- A one-bit field reads 0 or 1. -/
theorem State.get_bit (s : State) (f : Fld) (h : f.wid = 1) : s.get f = 0 ∨ s.get f = 1 := by
  have := s.get_lt f
  rw [h] at this
  omega

theorem badAccess_cases : s.badAccess cause bar write addr = s.bump SYS_BADCNT_COUNT ∨
    s.badAccess cause bar write addr = (s.bump SYS_BADCNT_COUNT).captured cause bar write addr := by
  rcases s.get_bit SYS_BADACC_VALID rfl with h | h
  · exact .inr (badAccess_of_invalid s cause addr bar write h)
  · exact .inl (badAccess_of_valid s cause addr bar write h)

/-- What a capture leaves alone. -/
theorem captured_fieldsBut : FieldsBut badAccessFlds s (s.captured cause bar write addr) := by
  unfold State.captured State.putb
  exact .put (.put (.put (.put (.put (.refl _ _) (by decide) _) (by decide) _) (by decide) _) (by decide) _) (by decide) _

theorem captured_wordsBut : WordsBut [SYS_BADACC] s (s.captured cause bar write addr) := by
  unfold State.captured State.putb
  exact .put (.put (.put (.put (.put (.refl _ _) (by decide) _) (by decide) _) (by decide) _) (by decide) _) (by decide) _

theorem captured_untouched : Untouched [.regs] s (s.captured cause bar write addr) := by
  unfold State.captured State.putb
  exact .put (.put (.put (.put (.put (.refl _ _) (by decide) _ _) (by decide) _ _) (by decide) _ _) (by decide) _ _)
    (by decide) _ _

/-- The capture: the cause, the side, the direction and the address (Table 0-8). -/
theorem captured_fields : (s.captured cause bar write addr).get SYS_BADACC_VALID = 1 ∧
    (s.captured cause bar write addr).get SYS_BADACC_BAROFS = (if bar then 1 else 0) ∧
    (s.captured cause bar write addr).get SYS_BADACC_CAUSE = cause % 8 ∧
    (s.captured cause bar write addr).get SYS_BADACC_WRITE = (if write then 1 else 0) ∧
    (s.captured cause bar write addr).get SYS_BADACC_ADDR = addr % 2 ^ 25 := by
  unfold State.captured
  simp (disch := decide) only [State.get_put_elsewhere, State.get_putb_elsewhere, State.get_put_self, State.get_putb_self,
    ↓reduceIte, true_and]
  exact ⟨rfl, rfl⟩

theorem badAccess_fieldsBut : FieldsBut badAccessFlds s (s.badAccess cause bar write addr) := by
  have hc : FieldsBut badAccessFlds s (s.bump SYS_BADCNT_COUNT) := .put (.refl _ _) (by decide) _
  rcases badAccess_cases s cause addr bar write with h | h <;> rw [h]
  · exact hc
  · exact hc.trans (captured_fieldsBut _ _ _ _ _)

/-- A bad access changes no word but SYS_BADACC and SYS_BADCNT. -/
theorem badAccess_wordsBut : WordsBut [SYS_BADACC, SYS_BADCNT] s (s.badAccess cause bar write addr) := by
  have hc : WordsBut [SYS_BADACC, SYS_BADCNT] s (s.bump SYS_BADCNT_COUNT) := .put (.refl _ _) (by decide) _
  rcases badAccess_cases s cause addr bar write with h | h <;> rw [h]
  · exact hc
  · exact hc.trans ((captured_wordsBut _ _ _ _ _).mono (by simp))

theorem badAccess_untouched : Untouched [.regs] s (s.badAccess cause bar write addr) := by
  have hc : Untouched [.regs] s (s.bump SYS_BADCNT_COUNT) := .put (.refl _ _) (by decide) _ _
  rcases badAccess_cases s cause addr bar write with h | h <;> rw [h]
  · exact hc
  · exact hc.trans (captured_untouched _ _ _ _ _)

/-- A bad access is counted, saturating. -/
theorem badAccess_counted : Counted SYS_BADCNT_COUNT s (s.badAccess cause bar write addr) := by
  have hc : Counted SYS_BADCNT_COUNT s (s.bump SYS_BADCNT_COUNT) := by
    unfold Counted State.bump
    rw [State.get_put_self _ _ _ (by decide), Nat.mod_eq_of_lt]
    exact lt_of_le_of_lt (Nat.min_le_left ..) (by decide)
  rcases badAccess_cases s cause addr bar write with h | h <;> rw [h]
  · exact hc
  · exact (State.get_of_rd_eq (captured_wordsBut _ cause addr bar write SYS_BADCNT (by decide))).trans hc

/-- A capture that stands is kept. -/
theorem badAccess_keeps (h : s.get SYS_BADACC_VALID = 1) : (s.badAccess cause bar write addr).rd SYS_BADACC = s.rd SYS_BADACC := by
  rw [badAccess_of_valid s cause addr bar write h]
  exact State.rd_put_of_ne s _ _ (by decide)

/-- While no capture stands, a bad access is captured. -/
theorem badAccess_captures (h : s.get SYS_BADACC_VALID = 0) : (s.badAccess cause bar write addr).get SYS_BADACC_VALID = 1 ∧
    (s.badAccess cause bar write addr).get SYS_BADACC_BAROFS = (if bar then 1 else 0) ∧
    (s.badAccess cause bar write addr).get SYS_BADACC_CAUSE = cause % 8 ∧
    (s.badAccess cause bar write addr).get SYS_BADACC_WRITE = (if write then 1 else 0) ∧
    (s.badAccess cause bar write addr).get SYS_BADACC_ADDR = addr % 2 ^ 25 := by
  rw [badAccess_of_invalid s cause addr bar write h]
  exact captured_fields ..

end Sys2Proof.Machine
end

section
/-! SUPPORT AND CERTIFICATE. Reads of registers (R18 to R21, R25): the RC fields that a read clears, the word that an access
returns, and the statement O7. -/

namespace Sys2Proof.Machine

/-! ### RC fields (R20) -/

/-- What an RC field holds after a read clears it: the changes that the device made in the same moment, saturated. -/
def rcRest (ch : List FieldChange) (f : FieldSpec) : Nat :=
  min (2 ^ f.wid - 1) ((ch.filter (fun c => c.lo == f.lo)).map FieldChange.amount).sum

theorem rcRest_lt (ch : List FieldChange) (f : FieldSpec) : rcRest ch f < 2 ^ f.wid := by
  have : 0 < 2 ^ f.wid := by positivity
  unfold rcRest
  omega

theorem clearRc_cons (a : Nat) (ch : List FieldChange) (g : FieldSpec) (l : List FieldSpec) (s : State) :
    clearRc a ch (g :: l) s = clearRc a ch l (if g.acc = .rc then s.put ⟨a, g.lo, g.wid⟩ (rcRest ch g) else s) := rfl

/-- The clearing of RC fields writes each RC field of the list and leaves every field apart from them. -/
theorem clearRc_get (a : Nat) (ch : List FieldChange) {f : FieldSpec} (hf : f.lo + f.wid ≤ 32) (l : List FieldSpec)
    (h : ∀ g ∈ l, g = f ∨ g.lo + g.wid ≤ f.lo ∨ f.lo + f.wid ≤ g.lo) (s : State) :
    (clearRc a ch l s).get ⟨a, f.lo, f.wid⟩ = if f ∈ l ∧ f.acc = .rc then rcRest ch f else s.get ⟨a, f.lo, f.wid⟩ := by
  induction l generalizing s with
  | nil => simp [clearRc]
  | cons g l ih =>
    rw [clearRc_cons, ih (fun k hk => h k (List.mem_cons_of_mem _ hk))]
    by_cases hgf : g = f
    · subst hgf
      by_cases hrc : g.acc = .rc
      · have hput := State.get_put_self s ⟨a, g.lo, g.wid⟩ (rcRest ch g) hf
        rw [Nat.mod_eq_of_lt (rcRest_lt ch g)] at hput
        simp [hrc, hput]
      · simp [hrc]
    · have hmem : f ∈ g :: l ↔ f ∈ l := by simp [Ne.symm hgf]
      have hput := State.get_put_elsewhere s ⟨a, g.lo, g.wid⟩ ⟨a, f.lo, f.wid⟩ (rcRest ch g)
        (.inr ((h g (List.mem_cons_self ..)).resolve_left hgf))
      by_cases hrc : g.acc = .rc
      · simp only [hrc, if_true, hmem, hput]
      · simp only [hrc, if_false, hmem]

theorem clearRc_rd (a : Nat) (ch : List FieldChange) (l : List FieldSpec) (s : State) {b : Nat} (hb : b ≠ a) :
    (clearRc a ch l s).rd b = s.rd b := by
  induction l generalizing s with
  | nil => rfl
  | cons g l ih =>
    rw [clearRc_cons, ih]
    split
    · exact State.rd_put_of_ne s _ _ hb
    · rfl

theorem clearRc_untouched (a : Nat) (ch : List FieldChange) (l : List FieldSpec) (s : State) :
    Untouched [.regs] s (clearRc a ch l s) := by
  induction l generalizing s with
  | nil => exact .refl _ _
  | cons g l ih =>
    rw [clearRc_cons]
    refine .trans ?_ (ih _)
    split
    · exact .put (.refl _ _) (by decide) _ _
    · exact .refl _ _

/-! ### Accesses (R17 to R21, R25, R27) -/

theorem exec_registerWrite (acc : BusAccess) (v : Word) (s : State) :
    exec (.registerWrite acc v) s = .next (writeAccess acc v s) := rfl

theorem exec_readClearAccess (acc : BusAccess) (ch : List FieldChange) (s : State) :
    exec (.readClearAccess acc ch) s = .next (readAccess acc ch s) := rfl

theorem exec_timFenceRead (window : Bool) (s : State) : exec (.timFenceRead window) s = .next (timFenceRead window s) := rfl

theorem accessTarget_mapped (s : State) {a b : Nat} {r : RegSpec} (ha : a % 4 = 0) (hr : regAt a = some (b, r)) :
    s.accessTarget (.internal a) = .reg a := by simp [State.accessTarget, ha, hr]

theorem accessTarget_unmapped (s : State) {a : Nat} (hr : regAt a = none) : s.accessTarget (.internal a) = .bad 1 false a := by
  simp [State.accessTarget, hr]

theorem accessTarget_closed (s : State) (off width en : Nat) (h : s.bus.winOpen = false) :
    s.accessTarget (.window off width en) = .closed := by simp [State.accessTarget, h]

theorem readAccess_bad {s : State} {acc : BusAccess} {cause addr : Nat} {bar : Bool} (ch : List FieldChange)
    (h : s.accessTarget acc = .bad cause bar addr) :
    readAccess acc ch s = (s.badAccess cause bar false addr).returned 0 := by simp [readAccess, h]

theorem writeAccess_bad {s : State} {acc : BusAccess} {cause addr : Nat} {bar : Bool} (v : Word)
    (h : s.accessTarget acc = .bad cause bar addr) : writeAccess acc v s = s.badAccess cause bar true addr := by
  simp [writeAccess, h]

/-- The word that an access returned stands on the bus alone. -/
theorem returned_untouched (s : State) (w : Word) : Untouched [.bus] s (s.returned w) := by
  intro p hp
  cases p <;> simp_all [Part.same, State.returned]

/-- The shadows after a read of the register at an address captured its upper words (R25). -/
def State.shadowAfter (s : State) (a : Nat) : KMap Word :=
  (upperWords a).foldl (fun m u => KMap.set (fun _ => 0) m u (s.peek u)) s.bus.shadow

/-- The state with the upper words of the register at an address captured. -/
def State.captureUpper (s : State) (a : Nat) : State := { s with bus := { s.bus with shadow := s.shadowAfter a } }

theorem captureUpper_untouched (s : State) (a : Nat) : Untouched [.bus] s (s.captureUpper a) := by
  intro p hp
  cases p <;> simp_all [Part.same, State.captureUpper]

/-- A read from inside of a mapped register. -/
theorem readAccess_internal {s : State} {a b : Nat} {r : RegSpec} (ch : List FieldChange) (ha : a % 4 = 0)
    (hr : regAt a = some (b, r)) :
    readAccess (.internal a) ch s = (clearRc a ch r.fields (s.captureUpper a)).returned
      (if isUpper a then KMap.get (fun _ => 0) s.bus.shadow a else s.peek a) := by
  simp [readAccess, accessTarget_mapped s ha hr, State.readReg, hr, vendorWord, State.captureUpper, State.shadowAfter]

/-! ### The device time (R25, R53) -/

/-- A full-width view replaces the whole word. -/
theorem setBits_word (w : Word) (v : Nat) : setBits w.toNat 0 32 v = v % 2 ^ 32 := by
  have hw : bitsOf w.toNat 0 32 = w.toNat := by simpa [bitsOf] using w.isLt
  simp [setBits, hw]

theorem peek_TIM_NOW_LO (s : State) : s.peek TIM_NOW_LO = BitVec.ofNat 32 s.time := by
  have hv : s.views TIM_NOW_LO = [(TIM_NOW_LO_NOW, s.time)] := rfl
  rw [State.peek, hv]
  apply BitVec.eq_of_toNat_eq
  simp [TIM_NOW_LO_NOW, setBits_word]

theorem peek_TIM_NOW_HI (s : State) : s.peek TIM_NOW_HI = BitVec.ofNat 32 (s.time / 2 ^ 32) := by
  have hv : s.views TIM_NOW_HI = [(TIM_NOW_HI_NOW, s.time / 2 ^ 32)] := rfl
  rw [State.peek, hv]
  apply BitVec.eq_of_toNat_eq
  simp [TIM_NOW_HI_NOW, setBits_word]

theorem regAt_TIM_NOW_LO : regAt TIM_NOW_LO = some (0x100000, ⟨0x10, [], none, [⟨0, 32, .ro, 0⟩]⟩) := by decide +kernel

/-- A read of TIM_NOW_LO captures the upper word of the same time, and clears nothing. -/
theorem readAccess_TIM_NOW_LO (s : State) :
    readAccess (.internal TIM_NOW_LO) [] s = (s.captureUpper TIM_NOW_LO).returned (BitVec.ofNat 32 s.time) := by
  rw [readAccess_internal [] (by decide) regAt_TIM_NOW_LO, peek_TIM_NOW_LO]
  rfl

theorem captureUpper_TIM_NOW_LO_shadow (s : State) : (s.captureUpper TIM_NOW_LO).bus.shadow =
    KMap.set (fun _ => 0) s.bus.shadow TIM_NOW_HI (BitVec.ofNat 32 (s.time / 2 ^ 32)) := by
  rw [← peek_TIM_NOW_HI]
  rfl

/-! ### TIM_FENCE (R42) -/

theorem readReg_TIM_FENCE (s : State) : (s.readReg TIM_FENCE).1 = s.peek TIM_FENCE := by
  have hr : regAt TIM_FENCE = some (0x100000, ⟨0x20, [], none, [⟨0, 32, .ro, 1⟩]⟩) := by decide +kernel
  have hu : isUpper TIM_FENCE = false := by decide
  simp [State.readReg, hr, hu]

/-! ### Reads by kind (O7) -/

theorem readInternal_spec (s : State) (a base : Nat) (r : RegSpec) (ch : List FieldChange) (ha : a % 4 = 0)
    (hr : regAt a = some (base, r)) : ∃ t, exec (.readClearAccess (.internal a) ch) s = .next t ∧
      t.bus.rdata = (if isUpper a then KMap.get (fun _ => 0) s.bus.shadow a else s.peek a) ∧
      (∀ f ∈ r.fields, t.get ⟨a, f.lo, f.wid⟩ = if f.acc = .rc then rcRest ch f else s.get ⟨a, f.lo, f.wid⟩) ∧
      (∀ b, b ≠ a → t.rd b = s.rd b) ∧ Untouched [.regs, .bus] s t := by
  refine ⟨readAccess (.internal a) ch s, rfl, ?_⟩
  rw [readAccess_internal ch ha hr]
  refine ⟨rfl, fun f hf => ?_, fun b hb => ?_, ?_⟩
  · have hap := regAt_fieldsApart hr
    have hget := clearRc_get a ch (field_in_word hap hf) r.fields (fun g hg => field_same_or_apart hap hf hg)
      (s.captureUpper a)
    rw [if_congr (and_iff_right hf) rfl rfl] at hget
    exact hget
  · exact clearRc_rd a ch r.fields (s.captureUpper a) hb
  · exact .trans (.mono (captureUpper_untouched s a) (by simp))
      (.trans (.mono (clearRc_untouched a ch r.fields _) (by simp)) (.mono (returned_untouched _ _) (by simp)))

theorem readTimNow_spec (s : State) : ∃ t, exec (.lowerWordCaptureRead (.internal TIM_NOW_LO)) s = .next t ∧
      t.bus.rdata = BitVec.ofNat 32 s.time ∧
      KMap.get (fun _ => 0) t.bus.shadow TIM_NOW_HI = BitVec.ofNat 32 (s.time / 2 ^ 32) ∧
      (∀ b, b ≠ TIM_NOW_HI → KMap.get (fun _ => 0) t.bus.shadow b = KMap.get (fun _ => 0) s.bus.shadow b) ∧
      (∀ b, t.rd b = s.rd b) ∧ Untouched [.bus, .regs] s t := by
  refine ⟨readAccess (.internal TIM_NOW_LO) [] s, rfl, ?_⟩
  rw [readAccess_TIM_NOW_LO]
  refine ⟨rfl, ?_, fun b hb => ?_, fun b => rfl, ?_⟩
  · exact (congrArg (KMap.get _ · _) (captureUpper_TIM_NOW_LO_shadow s)).trans (KMap.get_set_self ..)
  · exact (congrArg (KMap.get _ · _) (captureUpper_TIM_NOW_LO_shadow s)).trans (KMap.get_set_of_ne _ _ _ hb)
  · exact .mono (.trans (captureUpper_untouched s _) (returned_untouched _ _)) (by simp)

theorem readUnmapped_spec (s : State) (a : Nat) (ch : List FieldChange) (hr : regAt a = none) (hv : s.get SYS_BADACC_VALID = 0) :
    ∃ t, exec (.readClearAccess (.internal a) ch) s = .next t ∧ t.bus.rdata = 0 ∧ t.get SYS_BADACC_VALID = 1 ∧
      t.get SYS_BADACC_BAROFS = 0 ∧ t.get SYS_BADACC_CAUSE = 1 ∧ t.get SYS_BADACC_WRITE = 0 ∧
      t.get SYS_BADACC_ADDR = a % 2 ^ 25 ∧ t.get SYS_BADCNT_COUNT = min 0xFFFF (s.get SYS_BADCNT_COUNT + 1) ∧
      Frame badAccessFlds [.regs, .bus] s t := by
  refine ⟨readAccess (.internal a) ch s, rfl, ?_⟩
  rw [readAccess_bad ch (accessTarget_unmapped s hr)]
  obtain ⟨hvalid, hbar, hcause, hwrite, haddr⟩ := badAccess_captures s 1 a false false hv
  exact ⟨rfl, hvalid, hbar, hcause, hwrite, haddr, badAccess_counted s 1 a false false, badAccess_fieldsBut s 1 a false false,
    .trans (.mono (badAccess_untouched s 1 a false false) (by simp)) (.mono (returned_untouched _ _) (by simp))⟩

/-- Settles O7: each kind of read by the meaning of its access, the RC fields by the register map's disjoint fields. -/
theorem registerReads : Obligations.RegisterReads := by
  refine ⟨readInternal_spec, readTimNow_spec, fun s off width en ch h => ?_, fun s => ⟨?_, fun h => ?_, fun h => ?_⟩,
    readUnmapped_spec⟩
  · simp [exec_readClearAccess, readAccess, accessTarget_closed s off width en h, State.returned]
  · simp [exec_timFenceRead, timFenceRead, readReg_TIM_FENCE, State.returned]
  · simp [exec_timFenceRead, timFenceRead, readReg_TIM_FENCE, State.returned, h]
  · simp [exec_timFenceRead, timFenceRead, State.returned, h]

end Sys2Proof.Machine
end

section
/-! SUPPORT. Writes of registers (R20 to R24, R46): the word that a write stores, by the access codes of Table 0-6, and what the
device does at once besides (R34, R98, R150, R311, R468). -/

namespace Sys2Proof.Machine

/-! ### The stored word -/

/-- The fields of the map that `rowFields` looks through, with those of `clearOnly`. -/
def rowFieldList : List Fld :=
  (List.range 4).flatMap (fun n => [AV_TLCTL_EN n, AV_SEQCTL_RUN n, AV_SEQCTL_HOLD n, SVO_CTL_EN n])
    ++ [SPN_CTL_EN, SPN_TARGET_TARGET, FLT_FNSTAT_ACTIVE, REC_CURSOR_SEQ, REC_FCURSOR_INDEX]
    ++ (List.range 64).map DMA_CHTAIL_TAIL ++ (List.range 6).flatMap (fun k => [CPU_L1CFG_IWAYS k, CPU_L1CFG_DWAYS k])
    ++ (List.range 13).map CPU_LFSR_STATE ++ [HST_FN_EN 0]

def clearFieldList : List Fld := (List.range 4).map AV_WINHCTL_SWINH

theorem mem_rowFields {a : Nat} {g : Fld} : g ∈ rowFields a ↔ g ∈ rowFieldList ∧ g.addr = a := by
  have h : rowFields a = rowFieldList.filter (fun f => f.addr == a) := rfl
  rw [h, List.mem_filter, beq_iff_eq]

theorem mem_clearOnly {a : Nat} {g : Fld} : g ∈ clearOnly a ↔ g ∈ clearFieldList ∧ g.addr = a := by
  have h : clearOnly a = clearFieldList.filter (fun f => f.addr == a) := rfl
  rw [h, List.mem_filter, beq_iff_eq]

/-- The fields that a plain write treats apart are fields of the map. -/
theorem ownFields_same_or_apart : (rowFieldList ++ clearFieldList).all (fun g => (regAt g.addr).all fun p => p.2.fields.all fun f =>
    decide (g.lo = f.lo ∧ g.wid = f.wid ∨ g.lo + g.wid ≤ f.lo ∨ f.lo + f.wid ≤ g.lo)) = true := by decide +kernel

theorem rowFieldList_disjoint_clearFieldList : clearFieldList.all (fun g => decide (g ∉ rowFieldList)) = true := by decide +kernel

theorem ownField_same_or_apart {a base : Nat} {r : RegSpec} (hr : regAt a = some (base, r)) {f : FieldSpec} (hf : f ∈ r.fields)
    {g : Fld} (hg : g ∈ rowFields a ∨ g ∈ clearOnly a) :
    g = ⟨a, f.lo, f.wid⟩ ∨ g.lo + g.wid ≤ f.lo ∨ f.lo + f.wid ≤ g.lo := by
  have hg' : g ∈ rowFieldList ++ clearFieldList ∧ g.addr = a := by
    rw [mem_rowFields, mem_clearOnly] at hg
    rw [List.mem_append]
    tauto
  obtain ⟨hmem, rfl⟩ := hg'
  have hall := List.all_eq_true.1 ownFields_same_or_apart g hmem
  rw [hr, Option.all_some] at hall
  rcases of_decide_eq_true (List.all_eq_true.1 hall f hf) with ⟨h1, h2⟩ | h
  · left; cases g; simp_all
  · exact .inr h

theorem not_mem_clearOnly_of_row {a : Nat} {g : Fld} (hg : g ∈ rowFields a) : g ∉ clearOnly a := fun hc => by
  have := List.all_eq_true.1 rowFieldList_disjoint_clearFieldList g (mem_clearOnly.1 hc).1
  exact of_decide_eq_true this (mem_rowFields.1 hg).1

theorem writeField_lt {acc : Access} {locked : Bool} {old v wid : Nat} (ho : old < 2 ^ wid) (hv : v < 2 ^ wid) :
    writeField acc locked old v wid < 2 ^ wid := by
  cases acc with
  | rw => exact hv
  | rwl => cases locked <;> simp [writeField, ho, hv]
  | w1c => exact lt_of_le_of_lt Nat.and_le_left ho
  | w1s => exact Nat.or_lt_two_pow ho hv
  | ro => exact ho
  | wo => exact ho
  | rc => exact ho

section StoredWord
variable (s : State) {base a : Nat} {r : RegSpec} (v : Nat) {f : FieldSpec}

/-- The word by the access codes alone, before the fields that have commands of their own. -/
def codedWord (s : State) (base a : Nat) (r : RegSpec) (v : Nat) : Nat :=
  r.fields.foldl (fun x f => setBits x f.lo f.wid
    (writeField f.acc (lockedNow s base r) (bitsOf (s.rd a).toNat f.lo f.wid) (bitsOf v f.lo f.wid) f.wid)) (s.rd a).toNat

/-- The word after the fields that a command of its own writes have been put back. -/
def rowKeptWord (s : State) (base a : Nat) (r : RegSpec) (v : Nat) : Nat :=
  (rowFields a).foldl (fun x f => setBits x f.lo f.wid (bitsOf (s.rd a).toNat f.lo f.wid)) (codedWord s base a r v)

theorem writtenWord_eq (hs : setOnly a = []) : writtenWord s base a r v = (clearOnly a).foldl (fun x f =>
    setBits x f.lo f.wid (bitsOf (s.rd a).toNat f.lo f.wid &&& bitsOf v f.lo f.wid)) (rowKeptWord s base a r v) := by
  unfold writtenWord
  rw [hs]
  rfl

variable (hr : regAt a = some (base, r)) (hf : f ∈ r.fields)
include hr hf

/-- Each field takes what its access code gives it. -/
theorem bitsOf_codedWord : bitsOf (codedWord s base a r v) f.lo f.wid =
    writeField f.acc (lockedNow s base r) (s.get ⟨a, f.lo, f.wid⟩) (bitsOf v f.lo f.wid) f.wid := by
  have hap := regAt_fieldsApart hr
  refine (bitsOf_foldl_setBits_mem FieldSpec.lo FieldSpec.wid _ hf (fun k hk => ?_) _).trans
    (Nat.mod_eq_of_lt (writeField_lt (bitsOf_lt ..) (bitsOf_lt ..)))
  rcases field_same_or_apart hap hf hk with rfl | h
  · exact .inl ⟨rfl, rfl, rfl⟩
  · exact .inr h

theorem bitsOf_rowKeptWord_of_row (hrow : ⟨a, f.lo, f.wid⟩ ∈ rowFields a) :
    bitsOf (rowKeptWord s base a r v) f.lo f.wid = s.get ⟨a, f.lo, f.wid⟩ := by
  refine (bitsOf_foldl_setBits_mem Fld.lo Fld.wid _ hrow (fun k hk => ?_) _).trans (Nat.mod_eq_of_lt (bitsOf_lt ..))
  rcases ownField_same_or_apart hr hf (.inl hk) with rfl | h
  · exact .inl ⟨rfl, rfl, rfl⟩
  · exact .inr h

theorem bitsOf_rowKeptWord_of_not_row (hrow : ⟨a, f.lo, f.wid⟩ ∉ rowFields a) :
    bitsOf (rowKeptWord s base a r v) f.lo f.wid = bitsOf (codedWord s base a r v) f.lo f.wid := by
  refine bitsOf_foldl_setBits_keep Fld.lo Fld.wid _ _ (fun k hk => ?_) _ rfl
  rcases ownField_same_or_apart hr hf (.inl hk) with rfl | h
  · exact absurd hk hrow
  · exact .inr h

variable (hs : setOnly a = [])
include hs

theorem bitsOf_writtenWord_of_clearOnly (hc : ⟨a, f.lo, f.wid⟩ ∈ clearOnly a) :
    bitsOf (writtenWord s base a r v) f.lo f.wid = s.get ⟨a, f.lo, f.wid⟩ &&& bitsOf v f.lo f.wid := by
  rw [writtenWord_eq s v hs]
  refine (bitsOf_foldl_setBits_mem Fld.lo Fld.wid _ hc (fun k hk => ?_) _).trans
    (Nat.mod_eq_of_lt (lt_of_le_of_lt Nat.and_le_left (bitsOf_lt ..)))
  rcases ownField_same_or_apart hr hf (.inr hk) with rfl | h
  · exact .inl ⟨rfl, rfl, rfl⟩
  · exact .inr h

theorem bitsOf_writtenWord_of_not_clearOnly (hc : ⟨a, f.lo, f.wid⟩ ∉ clearOnly a) :
    bitsOf (writtenWord s base a r v) f.lo f.wid = bitsOf (rowKeptWord s base a r v) f.lo f.wid := by
  rw [writtenWord_eq s v hs]
  refine bitsOf_foldl_setBits_keep Fld.lo Fld.wid _ _ (fun k hk => ?_) _ rfl
  rcases ownField_same_or_apart hr hf (.inr hk) with rfl | h
  · exact absurd hk hc
  · exact .inr h

theorem bitsOf_writtenWord_of_row (hrow : ⟨a, f.lo, f.wid⟩ ∈ rowFields a) :
    bitsOf (writtenWord s base a r v) f.lo f.wid = s.get ⟨a, f.lo, f.wid⟩ := by
  rw [bitsOf_writtenWord_of_not_clearOnly s v hr hf hs (not_mem_clearOnly_of_row hrow), bitsOf_rowKeptWord_of_row s v hr hf hrow]

theorem bitsOf_writtenWord_of_plain (hrow : ⟨a, f.lo, f.wid⟩ ∉ rowFields a) (hc : ⟨a, f.lo, f.wid⟩ ∉ clearOnly a) :
    bitsOf (writtenWord s base a r v) f.lo f.wid =
      writeField f.acc (lockedNow s base r) (s.get ⟨a, f.lo, f.wid⟩) (bitsOf v f.lo f.wid) f.wid := by
  rw [bitsOf_writtenWord_of_not_clearOnly s v hr hf hs hc, bitsOf_rowKeptWord_of_not_row s v hr hf hrow,
    bitsOf_codedWord s v hr hf]

end StoredWord

end Sys2Proof.Machine
end

section
/-! SUPPORT. What a register write does besides storing its word: the clocks that it starts (R34), the spans of the analogue settings
(R98, Table 3-3), and a write inhibit cause that it brings (R150). -/

namespace Sys2Proof.Machine

/-! ### Lists of steps -/

/-- A word below all that may change is as it was. -/
theorem WordsBut.rd_below {as : List Nat} {s t : State} (h : WordsBut as s t) {b c : Nat} (has : ∀ a ∈ as, c ≤ a) (hb : b < c) :
    t.rd b = s.rd b := h b (fun hm => absurd (has b hm) (by omega))

theorem foldl_rd {α : Type} {f : State → α → State} {b : Nat} (h : ∀ s x, (f s x).rd b = s.rd b) (l : List α) (s : State) :
    (l.foldl f s).rd b = s.rd b := by
  induction l generalizing s with
  | nil => rfl
  | cons x l ih => rw [List.foldl_cons, ih, h]

/-! ### The hook of a plain register (R34) -/

/-- A plain register's write sets at most the EXPECT bit of TD34 or of TD35, both in TIM_TDEXP1. -/
theorem writeHook_plain {a : Nat} (hs : setOnly a = []) (hlim : a ≠ PWR_AVSLIM) (hpat : a ≠ FLS_PATROL) (v : Nat) (s : State) :
    writeHook a v s = s ∨ (∃ x, writeHook a v s = s.put (tdExpect 34) x) ∨ ∃ x, writeHook a v s = s.put (tdExpect 35) x := by
  unfold writeHook
  rw [if_neg hlim, if_neg (fun h => hpat h.1)]
  simp only [hs, List.any_nil, Bool.false_eq_true, if_false]
  split_ifs
  · exact .inr (.inl ⟨_, rfl⟩)
  · exact .inr (.inr ⟨_, rfl⟩)
  · exact .inl rfl

theorem writeHook_plain_wordsBut {a : Nat} (hs : setOnly a = []) (hlim : a ≠ PWR_AVSLIM) (hpat : a ≠ FLS_PATROL) (v : Nat) (s : State) :
    WordsBut [TIM_TDEXP1] s (writeHook a v s) := by
  rcases writeHook_plain hs hlim hpat v s with h | ⟨x, h⟩ | ⟨x, h⟩ <;> rw [h]
  · exact .refl _ _
  · exact .put (.refl _ _) (by decide) _
  · exact .put (.refl _ _) (by decide) _

theorem writeHook_plain_untouched {a : Nat} (hs : setOnly a = []) (hlim : a ≠ PWR_AVSLIM) (hpat : a ≠ FLS_PATROL) (v : Nat) (s : State) :
    Untouched [.regs] s (writeHook a v s) := by
  rcases writeHook_plain hs hlim hpat v s with h | ⟨x, h⟩ | ⟨x, h⟩ <;> rw [h]
  · exact .refl _ _
  · exact .put (.refl _ _) (by decide) _ _
  · exact .put (.refl _ _) (by decide) _ _

/-- A write elsewhere than in the registers that the hook looks at does no more than store its word. -/
theorem writeHook_elsewhere {a : Nat} (hs : setOnly a = []) (ha : a ∉ [PWR_AVSLIM, FLS_PATROL, REC_TRCFG, SPN_CEIL]) (v : Nat)
    (s : State) : writeHook a v s = s := by
  simp only [List.mem_cons, List.not_mem_nil, or_false, not_or] at ha
  obtain ⟨hlim, hpat, htr, hceil⟩ := ha
  simp [writeHook, hlim, hpat, htr, hceil, hs]

theorem patrolNext_wordsBut (s : State) : WordsBut [FLS_PATROL] s (patrolNext s) := by
  unfold patrolNext
  split
  · exact .refl _ _
  · have h : WordsBut [FLS_PATROL] s { s with fls := { s.fls with patrol := s.fls.patrol.drop 1 } } := fun _ _ => rfl
    dsimp only
    split
    · exact .put (.put (.put h (by decide) _) (by decide) _) (by decide) _
    · exact h

/-- No register's write reaches back into the SYS block. -/
theorem writeHook_rd_sys (a v : Nat) (s : State) {b : Nat} (hb : b < 0x100000) : (writeHook a v s).rd b = s.rd b := by
  unfold writeHook
  split_ifs
  · exact (WordsBut.put (.put (.refl [PWR_AVSLIM] s) (by decide) _) (by decide) _).rd_below (by decide) hb
  · exact (patrolNext_wordsBut s).rd_below (by decide) hb
  · exact (WordsBut.put (.refl [TIM_TDEXP1] s) (by decide) _).rd_below (by decide) hb
  · exact (WordsBut.put (.refl [TIM_TDEXP1] s) (by decide) _).rd_below (by decide) hb
  · dsimp only
    split
    · exact State.rd_put_of_ne s _ _ (by simp only [DMA_CHSTAT_STATE, DMA_CHSTAT]; omega)
    · rfl
  · rfl

/-! ### Write inhibit causes (R147, R150, R151) -/

theorem dropGate_regs (s : State) (n : Fin 4) : (s.dropGate n).regs = s.regs := by
  unfold State.dropGate
  split <;> rfl

theorem endOp_regs (s : State) (n : Fin 4) (st : Nat) : (s.endOp n st).regs = s.regs := by
  unfold State.endOp
  split
  · rfl
  · split <;> rfl

/-- The count of a write fault, the drop of write gate and the end of the operation change no word but WFCNT. -/
theorem faultEnd_wordsBut {s t : State} {n : Fin 4} (h : WordsBut [AV_WFSTAT n, AV_WFCNT n] s t) :
    WordsBut [AV_WFSTAT n, AV_WFCNT n] s (((t.bump (AV_WFCNT_FAULTS n)).dropGate n).endOp n 5) :=
  (h.put (by simp [AV_WFCNT_FAULTS]) _).of_regs_eq ((endOp_regs ..).trans (dropGate_regs ..))

/-- The capture of a write fault changes no word but WFSTAT. -/
theorem faultCapture_wordsBut (s : State) (n : Fin 4) (first cause face slot : Nat) : WordsBut [AV_WFSTAT n, AV_WFCNT n] s
    (((((s.put (AV_WFSTAT_FIRST n) first).put (AV_WFSTAT_CAUSE n) cause).put (AV_WFSTAT_FACE n) face).put
      (AV_WFSTAT_SLOT n) slot).put (AV_WFSTAT_VALID n) 1) := by
  have hm : AV_WFSTAT n ∈ [AV_WFSTAT n, AV_WFCNT n] := List.mem_cons_self ..
  iterate 5 refine .put ?_ hm _
  exact .refl _ _

/-- A write fault changes no word but WFSTAT and WFCNT of its Avenue. -/
theorem writeFault_wordsBut (s : State) (n : Fin 4) (c : Nat) : WordsBut [AV_WFSTAT n, AV_WFCNT n] s (s.writeFault n c) := by
  unfold State.writeFault
  split
  · exact .refl _ _
  next o _ =>
    dsimp only
    split_ifs with hfirst hvalid hvalid
    · exact (faultEnd_wordsBut (.refl _ s)).of_regs_eq rfl
    · exact (faultEnd_wordsBut (faultCapture_wordsBut _ _ _ _ _ _)).of_regs_eq rfl
    · exact (faultEnd_wordsBut (.refl _ s)).of_regs_eq rfl
    · exact (faultEnd_wordsBut (faultCapture_wordsBut _ _ _ _ _ _)).of_regs_eq rfl

theorem inhibit_wordsBut (s : State) (n : Fin 4) (c : Nat) : WordsBut [AV_WFSTAT n, AV_WFCNT n] s (s.inhibit n c) := by
  unfold State.inhibit
  split
  · exact .trans (.of_regs_eq (.refl _ _) (State.raiseIf_regs _ _ _ _)) (writeFault_wordsBut _ _ _)
  · exact .of_regs_eq (.refl _ _) (dropGate_regs ..)

theorem mask_parity : ∀ c0 c1 c2 c3 c4 c5 c6 c7 : Bool, ((if c0 then 1 else 0) + (if c1 then 2 else 0) + (if c2 then 4 else 0)
    + (if c3 then 8 else 0) + (if c4 then 16 else 0) + (if c5 then 32 else 0) + (if c6 then 64 else 0)
    + (if c7 then 128 else 0)) % 2 = if c0 then 1 else 0 := by decide

theorem mask_lt : ∀ c0 c1 c2 c3 c4 c5 c6 : Bool, (if c0 then 1 else 0) + (if c1 then 2 else 0) + (if c2 then 4 else 0)
    + (if c3 then 8 else 0) + (if c4 then 16 else 0) + (if c5 then 32 else 0) + (if c6 then 64 else 0) < 128 := by decide

/-- With both shock inputs low, cause 0 is present just while its hold period runs. -/
theorem cause0_of_no_shock {s : State} (h0 : s.shock0 = false) (h1 : s.shock1 = false) (n : Fin 4) :
    s.cause0 n = (s.avn n).shockHold := by
  have h : s.causes n % 2 = if (s.avn n).shockHold then 1 else 0 := by
    unfold State.causes
    rw [h0, h1]
    exact mask_parity ..
  unfold State.cause0
  rw [h]
  cases (s.avn n).shockHold <;> rfl

/-- With no head selected, cause 7 is absent. -/
theorem causes_of_no_head {s : State} {n : Fin 4} (h : (s.avn n).kazq.headsel = none) : s.causes n < 128 := by
  have h7 : ((s.avn n).kazq.headsel == some (s.get (AV_HMAP_TMG n))) = false := by rw [h]; rfl
  unfold State.causes
  simp only [h7, Bool.false_eq_true, if_false, Nat.add_zero]
  exact mask_lt ..

/-! ### Spans of the analogue settings (R98) -/

/-- Of the Avenues, no more than the readers differ. -/
def ReadersOnly (s t : State) : Prop :=
  ∀ (m : Fin 4) (x : Reader × Reader), { t.avn m with readers := x } = { s.avn m with readers := x }

theorem span_reader (s : State) (n m : Fin 4) (q p : Fin 2) (k : Nat) : (s.span n q k).reader m p =
    if (m, p) = (n, q) then Reader.invalidate k (s.reader m p) else s.reader m p := by
  unfold State.span State.modReader State.modAv State.reader State.avn
  by_cases hm : m = n
  · subst hm
    fin_cases q <;> fin_cases p <;> simp
  · simp [hm, Quad.get_set_of_ne]

theorem span_readersOnly (s : State) (n : Fin 4) (q : Fin 2) (k : Nat) : ReadersOnly s (s.span n q k) := by
  intro m x
  unfold State.span State.modReader State.modAv State.avn
  by_cases hm : m = n
  · subst hm
    simp
  · simp [hm, Quad.get_set_of_ne]

theorem span_untouched (s : State) (n : Fin 4) (q : Fin 2) (k : Nat) : Untouched [.av] s (s.span n q k) := by
  intro p hp
  cases p <;> simp_all [Part.same, State.span, State.modReader]

theorem invalidate_zero (r : Reader) : Reader.invalidate 0 r = r := by simp [Reader.invalidate]

theorem analogueSpan_cases (a : Nat) (old s : State) (nr : Fin 4 × Fin 2) :
    (analogueBlocks a old s nr.1 nr.2 = 0 ∧ analogueSpan a old s nr = s) ∨
    analogueSpan a old s nr = s.span nr.1 nr.2 (analogueBlocks a old s nr.1 nr.2) := by
  unfold analogueSpan
  split
  next h => exact .inl ⟨h, rfl⟩
  · exact .inr rfl

theorem analogueSpan_reader (a : Nat) (old s : State) (nr mp : Fin 4 × Fin 2) : (analogueSpan a old s nr).reader mp.1 mp.2 =
    if mp = nr then Reader.invalidate (analogueBlocks a old s nr.1 nr.2) (s.reader mp.1 mp.2) else s.reader mp.1 mp.2 := by
  rcases analogueSpan_cases a old s nr with ⟨h0, h⟩ | h
  · rw [h, h0, invalidate_zero, ite_self]
  · rw [h, span_reader]

theorem analogueSpan_untouched (a : Nat) (old s : State) (nr : Fin 4 × Fin 2) : Untouched [.av] s (analogueSpan a old s nr) := by
  rcases analogueSpan_cases a old s nr with ⟨-, h⟩ | h <;> rw [h]
  · exact .refl _ _
  · exact span_untouched _ _ _ _

theorem analogueSpan_readersOnly (a : Nat) (old s : State) (nr : Fin 4 × Fin 2) : ReadersOnly s (analogueSpan a old s nr) := by
  rcases analogueSpan_cases a old s nr with ⟨-, h⟩ | h <;> rw [h]
  · exact fun _ _ => rfl
  · exact span_readersOnly _ _ _ _

theorem analogueBlocks_congr (a : Nat) (old : State) {s t : State} (h : t.regs = s.regs) (n : Fin 4) (q : Fin 2) :
    analogueBlocks a old t n q = analogueBlocks a old s n q := by
  unfold analogueBlocks
  rw [State.get_of_regs_eq h, State.rd_of_regs_eq h]

/-- The spans that a write of the register at `a` starts on the listed readers. -/
def analogueSpans (a : Nat) (old s : State) (l : List (Fin 4 × Fin 2)) : State := l.foldl (analogueSpan a old) s

theorem analogueSpans_untouched (a : Nat) (old s : State) (l : List (Fin 4 × Fin 2)) :
    Untouched [.av] s (analogueSpans a old s l) := by
  induction l generalizing s with
  | nil => exact .refl _ _
  | cons nr l ih => exact (analogueSpan_untouched a old s nr).trans (ih _)

theorem analogueSpans_regs (a : Nat) (old s : State) (l : List (Fin 4 × Fin 2)) : (analogueSpans a old s l).regs = s.regs :=
  analogueSpans_untouched a old s l .regs (by decide)

theorem analogueSpans_readersOnly (a : Nat) (old s : State) (l : List (Fin 4 × Fin 2)) :
    ReadersOnly s (analogueSpans a old s l) := by
  induction l generalizing s with
  | nil => exact fun _ _ => rfl
  | cons nr l ih => exact fun m x => (ih (analogueSpan a old s nr) m x).trans (analogueSpan_readersOnly a old s nr m x)

/-- Each listed reader has its own span; the others are as they were. -/
theorem analogueSpans_reader (a : Nat) (old s : State) {l : List (Fin 4 × Fin 2)} (hl : l.Nodup) (mp : Fin 4 × Fin 2) :
    (analogueSpans a old s l).reader mp.1 mp.2 =
      if mp ∈ l then Reader.invalidate (analogueBlocks a old s mp.1 mp.2) (s.reader mp.1 mp.2) else s.reader mp.1 mp.2 := by
  induction l generalizing s with
  | nil => rfl
  | cons nr l ih =>
    obtain ⟨hnr, hl⟩ := List.nodup_cons.1 hl
    have hb := analogueBlocks_congr a old (analogueSpan_untouched a old s nr .regs (by decide)) mp.1 mp.2
    refine (ih (analogueSpan a old s nr) hl).trans ?_
    rw [hb, analogueSpan_reader]
    by_cases h : mp = nr
    · subst h
      simp [hnr]
    · simp [h]

/-! ### The hook of the Avenues -/

/-- The effect of a write inhibit cause that a write brings to Avenue `n` (R150). -/
def avenueCause (a : Nat) (old t : State) (n : Fin 4) : State :=
  if a = AV_WINHCTL n ∧ t.cause0 n = true ∧ old.cause0 n = false then (t.raise (avSrc n 65)).inhibit n 0
  else if a = AV_HMAP n ∧ 128 ≤ t.causes n ∧ old.causes n < 128 then t.inhibit n 7
  else t

theorem avenueHook_eq (a : Nat) (old s : State) :
    avenueHook a old s = all4.foldl (avenueCause a old) (analogueSpans a old s allReaders) := rfl

/-- A write that brings neither cause 0 nor cause 7 starts the spans of the analogue settings alone. -/
theorem avenueHook_of_no_cause {a : Nat} {old s : State}
    (h : ∀ n : Fin 4, (a = AV_WINHCTL n → (analogueSpans a old s allReaders).cause0 n = old.cause0 n) ∧
      (a = AV_HMAP n → (analogueSpans a old s allReaders).causes n < 128)) :
    avenueHook a old s = analogueSpans a old s allReaders := by
  rw [avenueHook_eq]
  refine List.foldl_fixed' (fun n => ?_) all4
  obtain ⟨h0, h7⟩ := h n
  unfold avenueCause
  rw [if_neg, if_neg]
  · exact fun ⟨ha, hc, _⟩ => absurd (h7 ha) (by omega)
  · exact fun ⟨ha, hc, ho⟩ => by rw [h0 ha, ho] at hc; cases hc

/-- A write elsewhere than in the registers that the hook looks at starts nothing. -/
theorem avenueHook_elsewhere {a : Nat} (old s : State) (h : ∀ n : Fin 4, a ≠ AV_WINHCTL n ∧ a ≠ AV_HMAP n ∧
    ∀ q : Fin 2, a ≠ AV_AFEGAIN n q ∧ a ≠ AV_AFECTF n q) : avenueHook a old s = s := by
  rw [avenueHook_of_no_cause fun n => ⟨fun e => absurd e (h n).1, fun e => absurd e (h n).2.1⟩]
  refine List.foldl_fixed' (fun nr => ?_) allReaders
  obtain ⟨hgain, hctf⟩ := (h nr.1).2.2 nr.2
  have h0 : analogueBlocks a old s nr.1 nr.2 = 0 := by rw [analogueBlocks, if_neg hgain, if_neg hctf]
  unfold analogueSpan
  rw [h0]
  rfl

/-- The hook does not reach back into the blocks below the Avenues. -/
theorem avenueHook_rd (a : Nat) (old s : State) {b : Nat} (hb : b < 0x1000000) : (avenueHook a old s).rd b = s.rd b := by
  rw [avenueHook_eq]
  refine (foldl_rd (fun t n => ?_) all4 _).trans (State.rd_of_regs_eq (analogueSpans_regs a old s allReaders) b)
  have hlow : ∀ x ∈ [AV_WFSTAT n, AV_WFCNT n], 0x1000000 ≤ x := by simp [AV_WFSTAT, AV_WFCNT, avBase]; omega
  unfold avenueCause
  split_ifs
  · exact ((inhibit_wordsBut _ n 0).rd_below hlow hb).trans (State.rd_raise ..)
  · exact (inhibit_wordsBut _ n 7).rd_below hlow hb
  · rfl

end Sys2Proof.Machine
end

section
/-! SUPPORT AND CERTIFICATE. A write of a whole word to a mapped register, and the statement O58. -/

namespace Sys2Proof.Machine

/-! ### The state that holds the stored word -/

/-- The state after a write has stored its word and a locked field's other value has been counted (R22, R27). -/
def storedState (s : State) (base a : Nat) (r : RegSpec) (v : Word) : State :=
  if lockedDiffers s base a r v.toNat then
    (s.wr a (BitVec.ofNat 32 (writtenWord s base a r v.toNat))).badAccess 4 false true a
  else s.wr a (BitVec.ofNat 32 (writtenWord s base a r v.toNat))

theorem writeAccess_mapped {s : State} {a base : Nat} {r : RegSpec} (v : Word) (ha : a % 4 = 0) (hr : regAt a = some (base, r)) :
    writeAccess (.internal a) v s =
      if allRo s a r then s.badAccess 3 false true a else avenueHook a s (writeHook a v.toNat (storedState s base a r v)) := by
  simp only [writeAccess, accessTarget_mapped s ha hr, State.writeReg, hr]
  rfl

/-- No register of SYS that a bad access changes has a lock (Tables 0-8 and 0-9). -/
theorem sys_noLock : [SYS_BADACC, SYS_BADCNT].all (fun a => (regAt a).all fun p => decide (p.2.lock = none)) = true := by
  decide +kernel

theorem lockedDiffers_not_sys {s : State} {a base v : Nat} {r : RegSpec} (hr : regAt a = some (base, r))
    (h : lockedDiffers s base a r v = true) : a ∉ [SYS_BADACC, SYS_BADCNT] := fun ha => by
  have hn := List.all_eq_true.1 sys_noLock a ha
  rw [hr, Option.all_some] at hn
  have hl : lockedNow s base r = false := by rw [lockedNow, of_decide_eq_true hn]
  simp [lockedDiffers, hl] at h

section Stored
variable (s : State) {a base : Nat} {r : RegSpec} (v : Word)

theorem wr_wordsBut (a : Nat) (w : Word) : WordsBut [a] s (s.wr a w) :=
  fun _ hb => State.rd_wr_of_ne s w (by simpa using hb)

theorem storedState_untouched : Untouched [.regs] s (storedState s base a r v) := by
  unfold storedState
  split
  · exact (Untouched.setRegs s _).trans (badAccess_untouched _ _ _ _ _)
  · exact .setRegs s _

theorem storedState_wordsBut : WordsBut [a, SYS_BADACC, SYS_BADCNT] s (storedState s base a r v) := by
  have hw : WordsBut [a, SYS_BADACC, SYS_BADCNT] s (s.wr a (BitVec.ofNat 32 (writtenWord s base a r v.toNat))) :=
    (wr_wordsBut s a _).mono (by simp)
  unfold storedState
  split
  · exact hw.trans ((badAccess_wordsBut _ _ _ _ _).mono (by simp))
  · exact hw

/-- The register itself holds the word by its fields' access codes, whether or not the write is also a bad access. -/
theorem storedState_rd_self (hr : regAt a = some (base, r)) :
    (storedState s base a r v).rd a = BitVec.ofNat 32 (writtenWord s base a r v.toNat) := by
  unfold storedState
  split
  next h => exact (badAccess_wordsBut _ _ _ _ _ a (lockedDiffers_not_sys hr h)).trans (State.rd_wr_self ..)
  · exact State.rd_wr_self ..

theorem storedState_get (hr : regAt a = some (base, r)) {f : FieldSpec} (hf : f ∈ r.fields) :
    (storedState s base a r v).get ⟨a, f.lo, f.wid⟩ = bitsOf (writtenWord s base a r v.toNat) f.lo f.wid := by
  unfold State.get
  rw [storedState_rd_self s v hr, BitVec.toNat_ofNat, bitsOf_mod_word _ (field_in_word (regAt_fieldsApart hr) hf)]

/-- A write of a locked field with another value is a bad access of cause 4. -/
theorem storedState_bad (hr : regAt a = some (base, r)) (hd : lockedDiffers s base a r v.toNat = true) :
    ∃ s₁ : State, storedState s base a r v = s₁.badAccess 4 false true a ∧ s₁.rd SYS_BADACC = s.rd SYS_BADACC ∧
      s₁.rd SYS_BADCNT = s.rd SYS_BADCNT := by
  have hsys := lockedDiffers_not_sys hr hd
  simp only [List.mem_cons, List.not_mem_nil, or_false, not_or] at hsys
  exact ⟨_, by rw [storedState, if_pos hd], State.rd_wr_of_ne s _ (Ne.symm hsys.1), State.rd_wr_of_ne s _ (Ne.symm hsys.2)⟩

end Stored

/-! ### Bad accesses (O58) -/

theorem badRead_spec {s : State} {acc : BusAccess} {cause addr : Nat} {bar : Bool} (h : s.accessTarget acc = .bad cause bar addr)
    (ch : List FieldChange) : ∃ t, exec (.readClearAccess acc ch) s = .next t ∧ t.bus.rdata = 0 ∧ Counted SYS_BADCNT_COUNT s t ∧
      (s.get SYS_BADACC_VALID = 0 → t.get SYS_BADACC_VALID = 1 ∧ t.get SYS_BADACC_CAUSE = cause % 8 ∧
        t.get SYS_BADACC_BAROFS = (if bar then 1 else 0) ∧ t.get SYS_BADACC_WRITE = 0 ∧
        t.get SYS_BADACC_ADDR = addr % 2 ^ 25) ∧
      (s.get SYS_BADACC_VALID = 1 → t.rd SYS_BADACC = s.rd SYS_BADACC) ∧ WordsBut [SYS_BADACC, SYS_BADCNT] s t ∧
      Untouched [.regs, .bus] s t := by
  refine ⟨readAccess acc ch s, rfl, ?_⟩
  rw [readAccess_bad ch h]
  refine ⟨rfl, badAccess_counted s cause addr bar false, fun hv => ?_, badAccess_keeps s cause addr bar false,
    badAccess_wordsBut s cause addr bar false,
    .trans (.mono (badAccess_untouched s cause addr bar false) (by simp)) (.mono (returned_untouched _ _) (by simp))⟩
  obtain ⟨hvalid, hbar, hcause, hwrite, haddr⟩ := badAccess_captures s cause addr bar false hv
  exact ⟨hvalid, hcause, hbar, hwrite, haddr⟩

theorem badWrite_spec {s : State} {acc : BusAccess} {cause addr : Nat} {bar : Bool} (h : s.accessTarget acc = .bad cause bar addr)
    (v : Word) : ∃ t, exec (.registerWrite acc v) s = .next t ∧ Counted SYS_BADCNT_COUNT s t ∧
      (s.get SYS_BADACC_VALID = 0 → t.get SYS_BADACC_VALID = 1 ∧ t.get SYS_BADACC_CAUSE = cause % 8 ∧
        t.get SYS_BADACC_BAROFS = (if bar then 1 else 0) ∧ t.get SYS_BADACC_WRITE = 1 ∧
        t.get SYS_BADACC_ADDR = addr % 2 ^ 25) ∧
      (s.get SYS_BADACC_VALID = 1 → t.rd SYS_BADACC = s.rd SYS_BADACC) ∧ WordsBut [SYS_BADACC, SYS_BADCNT] s t ∧
      Untouched [.regs] s t := by
  refine ⟨writeAccess acc v s, rfl, ?_⟩
  rw [writeAccess_bad v h]
  refine ⟨badAccess_counted s cause addr bar true, fun hv => ?_, badAccess_keeps s cause addr bar true,
    badAccess_wordsBut s cause addr bar true, badAccess_untouched s cause addr bar true⟩
  obtain ⟨hvalid, hbar, hcause, hwrite, haddr⟩ := badAccess_captures s cause addr bar true hv
  exact ⟨hvalid, hcause, hbar, hwrite, haddr⟩

theorem writeReadOnly_spec {s : State} {a base : Nat} {r : RegSpec} (v : Word) (ha : a % 4 = 0) (hr : regAt a = some (base, r))
    (hro : allRo s a r = true) : ∃ t, exec (.registerWrite (.internal a) v) s = .next t ∧ Counted SYS_BADCNT_COUNT s t ∧
      (s.get SYS_BADACC_VALID = 0 → t.get SYS_BADACC_VALID = 1 ∧ t.get SYS_BADACC_CAUSE = 3 ∧ t.get SYS_BADACC_ADDR = a % 2 ^ 25) ∧
      (s.get SYS_BADACC_VALID = 1 → t.rd SYS_BADACC = s.rd SYS_BADACC) ∧ WordsBut [SYS_BADACC, SYS_BADCNT] s t ∧
      Untouched [.regs] s t := by
  refine ⟨writeAccess (.internal a) v s, rfl, ?_⟩
  rw [writeAccess_mapped v ha hr, if_pos hro]
  refine ⟨badAccess_counted s 3 a false true, fun hv => ?_, badAccess_keeps s 3 a false true,
    badAccess_wordsBut s 3 a false true, badAccess_untouched s 3 a false true⟩
  obtain ⟨hvalid, -, hcause, -, haddr⟩ := badAccess_captures s 3 a false true hv
  exact ⟨hvalid, hcause, haddr⟩

theorem writeLocked_spec {s : State} {a base : Nat} {r : RegSpec} {v : Word} (ha : a % 4 = 0) (hr : regAt a = some (base, r))
    (hd : lockedDiffers s base a r v.toNat = true) (hro : allRo s a r = false) :
    ∃ t, exec (.registerWrite (.internal a) v) s = .next t ∧
      Counted SYS_BADCNT_COUNT s t ∧ (s.get SYS_BADACC_VALID = 0 → t.get SYS_BADACC_VALID = 1 ∧ t.get SYS_BADACC_CAUSE = 4) ∧
      (s.get SYS_BADACC_VALID = 1 → t.rd SYS_BADACC = s.rd SYS_BADACC) := by
  refine ⟨writeAccess (.internal a) v s, rfl, ?_⟩
  rw [writeAccess_mapped v ha hr, if_neg (by simp [hro])]
  obtain ⟨s₁, hst, hacc, hcnt⟩ := storedState_bad s v hr hd
  rw [hst]
  have hsys : ∀ b < 0x100000, (avenueHook a s (writeHook a v.toNat (s₁.badAccess 4 false true a))).rd b =
      (s₁.badAccess 4 false true a).rd b := fun b hb =>
    (avenueHook_rd a s _ (by omega)).trans (writeHook_rd_sys a v.toNat _ hb)
  have hvalid : s₁.get SYS_BADACC_VALID = s.get SYS_BADACC_VALID := State.get_of_rd_eq hacc
  have hcount : s₁.get SYS_BADCNT_COUNT = s.get SYS_BADCNT_COUNT := State.get_of_rd_eq hcnt
  refine ⟨?_, fun hv => ?_, fun hv => ?_⟩
  · have hc := badAccess_counted s₁ 4 a false true
    unfold Counted at hc ⊢
    rw [← hcount, ← hc]
    exact State.get_of_rd_eq (hsys SYS_BADCNT (by decide))
  · obtain ⟨h1, -, h4, -, -⟩ := badAccess_captures s₁ 4 a false true (hvalid.trans hv)
    exact ⟨(State.get_of_rd_eq (hsys SYS_BADACC (by decide))).trans h1,
      (State.get_of_rd_eq (hsys SYS_BADACC (by decide))).trans h4⟩
  · exact (hsys SYS_BADACC (by decide)).trans ((badAccess_keeps s₁ 4 a false true (hvalid.trans hv)).trans hacc)

/-- The register SYS_BADACC (Table 0-8). -/
def badaccSpec : RegSpec :=
  ⟨0x10, [], none, [⟨31, 1, .w1c, 0⟩, ⟨30, 1, .ro, 0⟩, ⟨29, 1, .ro, 0⟩, ⟨26, 3, .ro, 0⟩, ⟨25, 1, .ro, 0⟩, ⟨0, 25, .ro, 0⟩]⟩

theorem regAt_SYS_BADACC : regAt SYS_BADACC = some (0, badaccSpec) := by decide +kernel

theorem bitsOf_top (v : Word) : bitsOf v.toNat 31 1 = if v.getLsbD 31 then 1 else 0 := by
  have h := Nat.toNat_testBit v.toNat 31
  rw [BitVec.testBit_toNat] at h
  unfold bitsOf
  rw [pow_one, ← h]
  cases v.getLsbD 31 <;> rfl

theorem clearCapture_spec (s : State) (v : Word) (hv : v.getLsbD 31 = true) :
    ∃ t, exec (.registerWrite (.internal SYS_BADACC) v) s = .next t ∧
      t.get SYS_BADACC_VALID = 0 ∧ WordsBut [SYS_BADACC] s t ∧ Untouched [.regs] s t := by
  have hs : setOnly SYS_BADACC = [] := by decide +kernel
  have hf : (⟨31, 1, .w1c, 0⟩ : FieldSpec) ∈ badaccSpec.fields := List.mem_cons_self ..
  have hst : storedState s 0 SYS_BADACC badaccSpec v =
      s.wr SYS_BADACC (BitVec.ofNat 32 (writtenWord s 0 SYS_BADACC badaccSpec v.toNat)) :=
    if_neg (by simp [lockedDiffers, lockedNow, badaccSpec])
  have hhook : writeHook SYS_BADACC v.toNat (storedState s 0 SYS_BADACC badaccSpec v) = storedState s 0 SYS_BADACC badaccSpec v :=
    writeHook_elsewhere hs (by decide) _ _
  refine ⟨writeAccess (.internal SYS_BADACC) v s, rfl, ?_⟩
  rw [writeAccess_mapped v (by decide) regAt_SYS_BADACC, if_neg (by simp [allRo, badaccSpec, SYS_BADACC, FLT_INJ]), hhook,
    avenueHook_elsewhere s _ (by decide +kernel)]
  refine ⟨?_, ?_, storedState_untouched s v⟩
  · refine (storedState_get s v regAt_SYS_BADACC hf).trans ?_
    rw [bitsOf_writtenWord_of_plain s v.toNat regAt_SYS_BADACC hf hs (by decide +kernel) (by decide +kernel)]
    simp [writeField, bitsOf_top, hv]
  · rw [hst]
    exact wr_wordsBut s _ _

/-- Settles O58: bad accesses of every kind by `badAccess`; a write to a mapped register by what it stores. -/
theorem badAccesses : Obligations.BadAccesses :=
  ⟨fun _ _ _ _ _ h => ⟨badRead_spec h, badWrite_spec h⟩,
    fun _ _ _ _ v ha hr => ⟨writeReadOnly_spec v ha hr, writeLocked_spec ha hr⟩, clearCapture_spec⟩

end Sys2Proof.Machine
end

section
/-! CERTIFICATE. The statement O6: a register write by the access codes of its fields. -/

namespace Sys2Proof.Machine

/-- TIM_TDEXP1, which the hook of a plain write may change, takes no write of its own (Table 1-6). -/
theorem TIM_TDEXP1_allRo : (regAt TIM_TDEXP1).all (fun p => p.2.fields.all fun f => decide (f.acc = .ro)) = true := by
  decide +kernel

theorem ne_TIM_TDEXP1 {s : State} {a base : Nat} {r : RegSpec} (hr : regAt a = some (base, r)) (hro : allRo s a r = false) :
    a ≠ TIM_TDEXP1 := fun ha => by
  have h := TIM_TDEXP1_allRo
  rw [← ha, hr, Option.all_some] at h
  simp [allRo, h] at hro

/-- The value that a plain field takes, by Table 0-6. -/
theorem writeField_eq (acc : Access) (locked : Bool) (old : Nat) {v wid : Nat} (hv : v < 2 ^ wid) :
    writeField acc locked old v wid = match acc with
      | .rw => v
      | .rwl => if locked then old else v
      | .w1s => old ||| v
      | .w1c => old &&& (2 ^ wid - 1 - v)
      | .ro | .wo | .rc => old := by
  cases acc with
  | w1c => simp only [writeField, Nat.mod_eq_of_lt hv]
  | _ => rfl

section Plain
variable {s : State} {a base : Nat} {r : RegSpec} (v : Word) (hs : setOnly a = []) (hlim : a ≠ PWR_AVSLIM) (hpat : a ≠ FLS_PATROL)

/-- The state that a plain write leaves before the Avenues see it. -/
def plainWritten (s : State) (base a : Nat) (r : RegSpec) (v : Word) : State := writeHook a v.toNat (storedState s base a r v)

include hs hlim hpat

theorem plainWritten_untouched : Untouched [.regs] s (plainWritten s base a r v) :=
  (storedState_untouched s v).trans (writeHook_plain_untouched hs hlim hpat _ _)

theorem plainWritten_wordsBut : WordsBut [a, SYS_BADACC, SYS_BADCNT, TIM_TDEXP1] s (plainWritten s base a r v) :=
  .trans (.mono (storedState_wordsBut s v) (by simp)) (.mono (writeHook_plain_wordsBut hs hlim hpat _ _) (by simp))

theorem plainWritten_get (hr : regAt a = some (base, r)) (hro : allRo s a r = false) {f : FieldSpec} (hf : f ∈ r.fields) :
    (plainWritten s base a r v).get ⟨a, f.lo, f.wid⟩ = bitsOf (writtenWord s base a r v.toNat) f.lo f.wid :=
  (State.get_of_rd_eq (writeHook_plain_wordsBut hs hlim hpat _ _ a (by simpa using ne_TIM_TDEXP1 hr hro))).trans
    (storedState_get s v hr hf)

theorem spans_untouched (l : List (Fin 4 × Fin 2)) :
    Untouched [.regs, .av] s (analogueSpans a s (plainWritten s base a r v) l) :=
  .trans (.mono (plainWritten_untouched v hs hlim hpat) (by simp)) (.mono (analogueSpans_untouched _ _ _ _) (by simp))

theorem plainWritten_av : (plainWritten s base a r v).av = s.av := plainWritten_untouched v hs hlim hpat .av (by decide)

theorem spans_avn (n : Fin 4) (l : List (Fin 4 × Fin 2)) :
    { (analogueSpans a s (plainWritten s base a r v) l).avn n with readers := (s.avn n).readers } = s.avn n := by
  refine (analogueSpans_readersOnly a s _ l n _).trans ?_
  unfold State.avn
  rw [plainWritten_av v hs hlim hpat]

theorem spans_reader (n : Fin 4) (q : Fin 2) :
    (analogueSpans a s (plainWritten s base a r v) allReaders).reader n q = Reader.invalidate
      (analogueBlocks a s (analogueSpans a s (plainWritten s base a r v) allReaders) n q) (s.reader n q) := by
  have hmem : ∀ n q, ((n, q) : Fin 4 × Fin 2) ∈ allReaders := by decide
  rw [analogueSpans_reader a s _ (by decide) (n, q), if_pos (hmem n q), analogueBlocks_congr a s (analogueSpans_regs _ _ _ _)]
  unfold State.reader State.avn
  rw [plainWritten_av v hs hlim hpat]

/-- With the shock inputs low and no head selected, a plain write brings no write inhibit cause. -/
theorem avenueHook_plain (hq : ∀ n : Fin 4, (a = AV_WINHCTL n → s.shock0 = false ∧ s.shock1 = false) ∧
    (a = AV_HMAP n → (s.avn n).kazq.headsel = none)) : avenueHook a s (plainWritten s base a r v) =
      analogueSpans a s (plainWritten s base a r v) allReaders := by
  refine avenueHook_of_no_cause fun n => ⟨fun ha => ?_, fun ha => ?_⟩
  · obtain ⟨h0, h1⟩ := (hq n).1 ha
    obtain ⟨e0, e1⟩ := spans_untouched (r := r) (base := base) v hs hlim hpat allReaders .shock (by decide)
    have hhold := congrArg Avenue.shockHold (spans_avn (s := s) (base := base) (r := r) v hs hlim hpat n allReaders)
    rw [cause0_of_no_shock (e0.trans h0) (e1.trans h1), cause0_of_no_shock h0 h1]
    exact hhold
  · have hhead := congrArg (fun x => x.kazq.headsel)
      (spans_avn (s := s) (base := base) (r := r) v hs hlim hpat n allReaders)
    exact causes_of_no_head (hhead.trans ((hq n).2 ha))

end Plain

theorem writeMapped_spec (s : State) (a base : Nat) (r : RegSpec) (v : Word) (ha : a % 4 = 0) (hr : regAt a = some (base, r))
    (hro : allRo s a r = false) (hs : setOnly a = []) (hlim : a ≠ PWR_AVSLIM) (hpat : a ≠ FLS_PATROL)
    (hq : ∀ n : Fin 4, (a = AV_WINHCTL n → s.shock0 = false ∧ s.shock1 = false) ∧
      (a = AV_HMAP n → (s.avn n).kazq.headsel = none)) :
    ∃ t, exec (.registerWrite (.internal a) v) s = .next t ∧
      (∀ f ∈ r.fields,
        let fld : Fld := ⟨a, f.lo, f.wid⟩
        let new := bitsOf v.toNat f.lo f.wid
        (fld ∈ rowFields a → t.get fld = s.get fld) ∧
        (fld ∈ clearOnly a → t.get fld = s.get fld &&& new) ∧
        (fld ∉ rowFields a → fld ∉ clearOnly a → t.get fld =
          match f.acc with
          | .rw => new
          | .rwl => if lockedNow s base r then s.get fld else new
          | .w1s => s.get fld ||| new
          | .w1c => s.get fld &&& (2 ^ f.wid - 1 - new)
          | .ro | .wo | .rc => s.get fld)) ∧
      (∀ (n : Fin 4) (q : Fin 2), t.reader n q = Reader.invalidate (analogueBlocks a s t n q) (s.reader n q)) ∧
      (∀ n : Fin 4, { t.avn n with readers := (s.avn n).readers } = s.avn n) ∧
      (∀ b, b ∉ [a, SYS_BADACC, SYS_BADCNT, TIM_TDEXP1] → t.rd b = s.rd b) ∧ Untouched [.regs, .av] s t := by
  refine ⟨writeAccess (.internal a) v s, rfl, ?_⟩
  have ht : writeAccess (.internal a) v s = analogueSpans a s (plainWritten s base a r v) allReaders := by
    rw [writeAccess_mapped v ha hr, if_neg (by simp [hro])]
    exact avenueHook_plain v hs hlim hpat hq
  rw [ht]
  have hregs := analogueSpans_regs a s (plainWritten s base a r v) allReaders
  refine ⟨fun f hf => ?_, spans_reader v hs hlim hpat, fun n => spans_avn v hs hlim hpat n _,
    (plainWritten_wordsBut v hs hlim hpat).of_regs_eq hregs, spans_untouched v hs hlim hpat _⟩
  have hget := (State.get_of_regs_eq hregs _).trans (plainWritten_get v hs hlim hpat hr hro hf)
  exact ⟨fun hrow => hget.trans (bitsOf_writtenWord_of_row s v.toNat hr hf hs hrow),
    fun hc => hget.trans (bitsOf_writtenWord_of_clearOnly s v.toNat hr hf hs hc),
    fun hrow hc => hget.trans ((bitsOf_writtenWord_of_plain s v.toNat hr hf hs hrow hc).trans
      (writeField_eq _ _ _ (bitsOf_lt ..)))⟩

/-! ### The limits of the voltage code (R46) -/

/-- The register PWR_AVSLIM (Table 1-9). -/
def avslimSpec : RegSpec :=
  ⟨0x408, [], some 0x400, [⟨23, 9, .rwl, 0x15E⟩, ⟨14, 9, .rwl, 0x46⟩, ⟨10, 4, .rwl, 8⟩, ⟨5, 5, .rwl, 4⟩, ⟨0, 5, .rwl, 1⟩]⟩

theorem regAt_PWR_AVSLIM : regAt PWR_AVSLIM = some (0x1800000, avslimSpec) := by decide +kernel

/-- MINCODE and MAXCODE of a state, held between 70 and 350. -/
theorem codeLimits_get (s : State) :
    (codeLimits s).get PWR_AVSLIM_MINCODE = max 70 (min 350 (s.get PWR_AVSLIM_MINCODE)) ∧
    (codeLimits s).get PWR_AVSLIM_MAXCODE = max 70 (min 350 (s.get PWR_AVSLIM_MAXCODE)) := by
  have hlt : ∀ x, clampNat 70 350 x < 2 ^ 9 := fun x => by unfold clampNat; omega
  unfold codeLimits
  simp (disch := decide) only [State.get_put_elsewhere, State.get_put_self]
  exact ⟨Nat.mod_eq_of_lt (hlt _), Nat.mod_eq_of_lt (hlt _)⟩

theorem codeLimits_wordsBut (s : State) : WordsBut [PWR_AVSLIM] s (codeLimits s) :=
  .put (.put (.refl _ _) (by decide) _) (by decide) _

theorem codeLimits_untouched (s : State) : Untouched [.regs] s (codeLimits s) :=
  .put (.put (.refl _ _) (by decide) _ _) (by decide) _ _

/-- While the block is not locked, each RWL field of PWR_AVSLIM takes the written bits. -/
theorem avslim_get {s : State} (v : Word) (hlock : lockedNow s 0x1800000 avslimSpec = false) {f : FieldSpec}
    (hf : f ∈ avslimSpec.fields) (hacc : f.acc = .rwl) :
    (storedState s 0x1800000 PWR_AVSLIM avslimSpec v).get ⟨PWR_AVSLIM, f.lo, f.wid⟩ = bitsOf v.toNat f.lo f.wid := by
  have hs : setOnly PWR_AVSLIM = [] := by decide +kernel
  have hrow : rowFields PWR_AVSLIM = [] := by decide +kernel
  have hclear : clearOnly PWR_AVSLIM = [] := by decide +kernel
  rw [storedState_get s v regAt_PWR_AVSLIM hf,
    bitsOf_writtenWord_of_plain s v.toNat regAt_PWR_AVSLIM hf hs (by simp [hrow]) (by simp [hclear]), hacc, hlock]
  rfl

theorem writeCodeLimits_spec (s : State) (v : Word) (hl : s.get PWR_AVSCTL_LOCK = 0) :
    ∃ t, exec (.registerWrite (.internal PWR_AVSLIM) v) s = .next t ∧
    t.get PWR_AVSLIM_MINCODE = max 70 (min 350 (bitsOf v.toNat PWR_AVSLIM_MINCODE.lo PWR_AVSLIM_MINCODE.wid)) ∧
    t.get PWR_AVSLIM_MAXCODE = max 70 (min 350 (bitsOf v.toNat PWR_AVSLIM_MAXCODE.lo PWR_AVSLIM_MAXCODE.wid)) ∧
    (∀ b, b ≠ PWR_AVSLIM → t.rd b = s.rd b) ∧ Untouched [.regs] s t := by
  have hlock : lockedNow s 0x1800000 avslimSpec = false := (State.is_eq_false_iff s PWR_AVSCTL_LOCK).2 hl
  have hst : storedState s 0x1800000 PWR_AVSLIM avslimSpec v =
      s.wr PWR_AVSLIM (BitVec.ofNat 32 (writtenWord s 0x1800000 PWR_AVSLIM avslimSpec v.toNat)) :=
    if_neg (by simp [lockedDiffers, hlock])
  have hmin := avslim_get v hlock (f := ⟨14, 9, .rwl, 0x46⟩) (by simp [avslimSpec]) rfl
  have hmax := avslim_get v hlock (f := ⟨23, 9, .rwl, 0x15E⟩) (by simp [avslimSpec]) rfl
  have ht : writeAccess (.internal PWR_AVSLIM) v s = codeLimits (storedState s 0x1800000 PWR_AVSLIM avslimSpec v) := by
    rw [writeAccess_mapped v (by decide) regAt_PWR_AVSLIM, if_neg (by simp [allRo, avslimSpec, PWR_AVSLIM, FLT_INJ]),
      avenueHook_elsewhere s _ (by decide +kernel)]
    exact if_pos rfl
  refine ⟨writeAccess (.internal PWR_AVSLIM) v s, rfl, ?_⟩
  rw [ht]
  obtain ⟨hcmin, hcmax⟩ := codeLimits_get (storedState s 0x1800000 PWR_AVSLIM avslimSpec v)
  refine ⟨hcmin.trans ?_, hcmax.trans ?_, fun b hb => ?_, ?_⟩
  · exact congrArg (fun x => max 70 (min 350 x)) hmin
  · exact congrArg (fun x => max 70 (min 350 x)) hmax
  · rw [hst]
    exact ((wr_wordsBut s _ _).trans (codeLimits_wordsBut _)) b (by simpa using hb)
  · exact (storedState_untouched s v).trans (codeLimits_untouched _)

/-- Settles O6: a plain write by its stored word and the spans that follow it; the code limits, SETUP_PAGE and the closed window by
their own paths. -/
theorem registerWriteByAccessCode : Obligations.RegisterWriteByAccessCode := by
  refine ⟨writeMapped_spec, writeCodeLimits_spec, fun s v h => ?_, fun s off width en v h => ?_⟩
  · have hpage : s.accessTarget (.window 0x400000 4 15) = .page := by simp [State.accessTarget, h]
    simp [exec_registerWrite, writeAccess, hpage]
  · simp [exec_registerWrite, writeAccess, accessTarget_closed s off width en h]

end Sys2Proof.Machine
end

section
/-! CERTIFICATE. The statements O2 and O3: an idle step, and the state that reset leaves. -/

namespace Sys2Proof.Machine

theorem drainFrame_of_empty {s : State} (h : s.recd.fifo = []) (toRing : Bool) : s.drainFrame toRing = s := by
  simp [State.drainFrame, h]

theorem timeTick_of_present {s : State} (hp : s.get (tdPresent 31) = 1) (hl : s.tim.loadPending = false) :
    timeTick s = { s with tim := { s.tim with now := s.tim.now + 1 } } := by
  simp [timeTick, State.is, hp, hl]

theorem timeTick_of_absent {s : State} (hp : s.get (tdPresent 31) = 0) : timeTick s = s := by
  simp [timeTick, State.is, hp]

/-- Settles O2: an idle step is a tick of the time base, with no frame to drain. -/
theorem idleStepIsOneCycle : Obligations.IdleStepIsOneCycle := by
  intro s hq hl hf
  have hstep : step s = .next ((timeTick s).drainFrame (!s.is REC_TRCFG_PORT)) := by simp only [step, hq, idle]
  rw [hstep]
  refine ⟨fun hp => ?_, fun hp => ?_⟩
  · rw [timeTick_of_present hp hl, drainFrame_of_empty (by exact hf)]
  · rw [timeTick_of_absent hp, drainFrame_of_empty hf]

/-- At reset no lock is held (R287). -/
theorem reset_lock_free (k : Nat) : (State.reset.lock k).owner = 0 ∧ (State.reset.lock k).orphaned = false := ⟨rfl, rfl⟩

/-- At reset every Avenue and its servo engine are off, with no codeword table (R117, R218). -/
theorem reset_avenue_off : ∀ n : Fin 4, State.reset.get (AV_TLSTAT_STATE n) = 0 ∧ State.reset.get (SVO_STAT_STATE n) = 0 ∧
    State.reset.get (AV_CODECTL_OK n) = 0 ∧ (State.reset.avn n).wg = false := by decide +kernel

theorem reset_canonical : State.reset.canonical = true := by decide +kernel

/-- At reset no clock of TD32 or TD33 is expected, and no table, drive or capture stands (R34, R117, R218). -/
theorem reset_fields : State.reset.get SYS_ID_PART = 0x9640 ∧ State.reset.get SYS_ID_MAJOR = 1 ∧
    State.reset.get SYS_ID_MINOR = 0 ∧ State.reset.get PWR_VREQ_CODE = 250 ∧ State.reset.get SYS_BADACC_VALID = 0 ∧
    State.reset.get SYS_BADCNT_COUNT = 0 ∧ State.reset.get (tdExpect 32) = 0 ∧ State.reset.get (tdExpect 33) = 0 ∧
    State.reset.get AV0_RDECCTL_OK = 0 ∧ State.reset.get SPN_STAT_STATE = 0 := by decide +kernel

/-- Settles O3: the registers named are read off the register map, the parts beside them off the reset state. -/
theorem resetValues : Obligations.ResetValues := by
  obtain ⟨hpart, hmajor, hminor, hcode, hvalid, hcount, h32, h33, hrdec, hspn⟩ := reset_fields
  exact ⟨rfl, reset_canonical, Nat.zero_le _, rfl, hpart, hmajor, hminor, hcode, hvalid, hcount, h32, h33, hrdec, hspn, rfl, rfl,
    fun k => reset_lock_free k, reset_avenue_off⟩

end Sys2Proof.Machine
end

section
/-! SUPPORT. Frames of the shared updates: each names the parts that it may change, and a chain of updates keeps a frame step by
step. -/

namespace Sys2Proof.Machine

variable {ps qs : List Part} {s t u : State}

/-! ### Parts -/

/-- A frame goes on through an update whose own frame lies within it. -/
theorem Untouched.step (h : Untouched ps s t) (hu : Untouched qs t u) (hsub : qs ⊆ ps) : Untouched ps s u :=
  h.trans (hu.mono hsub)

theorem Untouched.setTim (s : State) (x : TimeBase) : Untouched [.tim] s { s with tim := x } := by
  intro p hp; cases p <;> simp_all [Part.same]

theorem Untouched.setRing (s : State) (x : RingRoad) : Untouched [.ring] s { s with ring := x } := by
  intro p hp; cases p <;> simp_all [Part.same]

theorem Untouched.setPace (s : State) (x : Pace) : Untouched [.pace] s { s with pace := x } := by
  intro p hp; cases p <;> simp_all [Part.same]

theorem Untouched.setAv (s : State) (x : Quad Avenue) : Untouched [.av] s { s with av := x } := by
  intro p hp; cases p <;> simp_all [Part.same]

theorem Untouched.setSvo (s : State) (x : Quad Servo) : Untouched [.svo] s { s with svo := x } := by
  intro p hp; cases p <;> simp_all [Part.same]

theorem Untouched.setPwr (s : State) (x : Power) : Untouched [.pwr] s { s with pwr := x } := by
  intro p hp; cases p <;> simp_all [Part.same]

theorem Untouched.setFlt (s : State) (x : FaultCollector) : Untouched [.flt] s { s with flt := x } := by
  intro p hp; cases p <;> simp_all [Part.same]

theorem Untouched.setRecd (s : State) (x : Recorder) : Untouched [.recd] s { s with recd := x } := by
  intro p hp; cases p <;> simp_all [Part.same]

theorem Untouched.raise (h : Untouched ps s t) (hf : .flt ∈ ps) (src d : Nat) : Untouched ps s (t.raise src d) :=
  h.step (.setFlt t _) (by simpa using hf)

theorem Untouched.raiseIf (h : Untouched ps s t) (hf : .flt ∈ ps) (b : Bool) (src d : Nat) : Untouched ps s (t.raiseIf b src d) := by
  cases b
  · exact h
  · exact h.raise hf src d

theorem Untouched.modAv (h : Untouched ps s t) (ha : .av ∈ ps) (n : Fin 4) (f : Avenue → Avenue) : Untouched ps s (t.modAv n f) :=
  h.step (.setAv t _) (by simpa using ha)

theorem Untouched.modSv (h : Untouched ps s t) (ha : .svo ∈ ps) (n : Fin 4) (f : Servo → Servo) : Untouched ps s (t.modSv n f) :=
  h.step (.setSvo t _) (by simpa using ha)

/-! ### Fields -/

theorem FieldsBut.of_regs_eq {fs : List Fld} (h : FieldsBut fs s t) (e : u.regs = t.regs) : FieldsBut fs s u :=
  fun g hg => (State.get_of_regs_eq e g).trans (h g hg)

theorem FieldsBut.mono {fs gs : List Fld} (h : FieldsBut fs s t) (hsub : fs ⊆ gs) : FieldsBut gs s t :=
  fun g hg => h g (fun f hf => hg f (hsub hf))

/-! ### Avenues and servo engines -/

theorem OtherAvenues.refl (n : Fin 4) (s : State) : OtherAvenues n s s := fun _ _ => rfl

theorem OtherAvenues.trans {n : Fin 4} (h : OtherAvenues n s t) (h' : OtherAvenues n t u) : OtherAvenues n s u :=
  fun m hm => (h' m hm).trans (h m hm)

theorem OtherAvenues.of_av_eq {n : Fin 4} (h : OtherAvenues n s t) (e : u.av = t.av) : OtherAvenues n s u :=
  fun m hm => (congrArg (Quad.get · m) e).trans (h m hm)

theorem OtherAvenues.modAv {n : Fin 4} (h : OtherAvenues n s t) (f : Avenue → Avenue) : OtherAvenues n s (t.modAv n f) :=
  fun m hm => (Quad.get_set_of_ne t.av (f (t.av.get n)) hm).trans (h m hm)

theorem OtherServos.refl (n : Fin 4) (s : State) : OtherServos n s s := fun _ _ => rfl

theorem OtherServos.modSv {n : Fin 4} (h : OtherServos n s t) (f : Servo → Servo) : OtherServos n s (t.modSv n f) :=
  fun m hm => (Quad.get_set_of_ne t.svo (f (t.svo.get n)) hm).trans (h m hm)

theorem OtherServos.of_svo_eq {n : Fin 4} (h : OtherServos n s t) (e : u.svo = t.svo) : OtherServos n s u :=
  fun m hm => (congrArg (Quad.get · m) e).trans (h m hm)

@[simp] theorem State.avn_modAv_self (s : State) (n : Fin 4) (f : Avenue → Avenue) : (s.modAv n f).avn n = f (s.avn n) :=
  Quad.get_set_self ..

@[simp] theorem State.avn_raise (s : State) (src d : Nat) (n : Fin 4) : (s.raise src d).avn n = s.avn n := rfl
@[simp] theorem State.reader_raise (s : State) (src d : Nat) (n : Fin 4) (q : Fin 2) :
    (s.raise src d).reader n q = s.reader n q := rfl

theorem OtherAvenues.raise {n : Fin 4} (h : OtherAvenues n s t) (src d : Nat) : OtherAvenues n s (t.raise src d) :=
  h.of_av_eq rfl

@[simp] theorem State.svo_modSv_self (s : State) (n : Fin 4) (f : Servo → Servo) : (s.modSv n f).svo.get n = f (s.svo.get n) :=
  Quad.get_set_self ..

@[simp] theorem Quad.set_set {α : Type} (q : Quad α) (n : Fin 4) (v w : α) : (q.set n v).set n w = q.set n w := by
  fin_cases n <;> rfl

/-! ### Fields of one bit -/

theorem State.is_of_get_one {s : State} {f : Fld} (h : s.get f = 1) : s.is f = true := by simp [State.is, h]

theorem State.is_of_get_zero {s : State} {f : Fld} (h : s.get f = 0) : s.is f = false := by simp [State.is, h]

/-! ### Write gate without an operation (R147, R150) -/

theorem dropGate_untouched (s : State) (n : Fin 4) : Untouched [.av] s (s.dropGate n) := by
  unfold State.dropGate
  split
  · exact ((Untouched.refl _ s).modAv (by simp) n _).modAv (by simp) n _
  · exact .refl _ s

theorem dropGate_otherAvenues (s : State) (n : Fin 4) : OtherAvenues n s (s.dropGate n) := by
  unfold State.dropGate
  split
  · exact ((OtherAvenues.refl n s).modAv _).modAv _
  · exact .refl n s

theorem dropGate_wg (s : State) (n : Fin 4) : ((s.dropGate n).avn n).wg = false := by
  unfold State.dropGate
  split
  · simp [State.modReaders]
  next h => simpa using h

/-- With no operation writing, a write inhibit cause drops write gate and no more (R151). -/
theorem inhibit_of_idle {s : State} {n : Fin 4} (h : s.writing n = false) (c : Nat) : s.inhibit n c = s.dropGate n := by
  simp [State.inhibit, h]

theorem writing_congr {s t : State} {n : Fin 4} (h : t.seq n = s.seq n) : t.writing n = s.writing n := by
  unfold State.writing
  rw [h]

end Sys2Proof.Machine
end

section
/-! SUPPORT AND CERTIFICATE. The timing domains, their crossings and the loads of the time base (R32 to R34, R54), and the
statement O8. -/

namespace Sys2Proof.Machine

/-! ### Clocks (R33, R34) -/

theorem tdPresent_fits (td : Fin 40) : (tdPresent td).lo + (tdPresent td).wid ≤ 32 ∧ 0 < (tdPresent td).wid := by
  decide +revert

theorem tdPresent_apart_tdExpect (td : Fin 40) : (tdPresent td).addr ≠ (tdExpect td).addr := by decide +revert

/-- The clock-absent sources of Table 1-15. -/
def absentSources : List (Nat × Nat) :=
  (List.range 4).flatMap (fun n => [(2 * n, 428 + 96 * n + 41), (2 * n + 1, 428 + 96 * n + 42),
      (8 + n, 428 + 96 * n + 43), (12 + n, 428 + 96 * n + 44), (16 + n, 812 + 32 * n + 19), (20 + n, 812 + 32 * n + 20)])
    ++ [(24, 957), (25, 958), (35, 959), (26, 16), (27, 17), (28, 218), (29, 983), (30, 428 + 45), (31, 1124), (34, 1124),
      (36, 1124), (39, 1124), (37, 1017), (38, 1018)]

theorem tdAbsentSource_of_mem {td src : Nat} (h : (td, src) ∈ absentSources) : tdAbsentSource td = some src := by
  have hall : ∀ p ∈ absentSources, tdAbsentSource p.1 = some p.2 := by decide
  exact hall _ h

theorem clockAbsent_eq {s : State} {td src : Nat} (hsrc : tdAbsentSource td = some src) (hp : s.get (tdPresent td) = 1) :
    clockAbsent td s = (s.putb (tdPresent td) false).raiseIf ((s.putb (tdPresent td) false).is (tdExpect td)) src := by
  simp [clockAbsent, State.is_of_get_one hp, hsrc]

theorem clockAbsent_spec (s : State) (td : Fin 40) (src : Nat) (hsrc : (td.val, src) ∈ absentSources)
    (hp : s.get (tdPresent td) = 1) : ∃ t, exec (.clockAbsent td) s = .next t ∧ t.get (tdPresent td) = 0 ∧
      (s.get (tdExpect td) = 1 → Raised1 src 0 s t) ∧ (s.get (tdExpect td) = 0 → t.flt = s.flt) ∧
      Frame [tdPresent td] [.regs, .flt] s t := by
  refine ⟨clockAbsent td s, rfl, ?_⟩
  rw [clockAbsent_eq (tdAbsentSource_of_mem hsrc) hp]
  obtain ⟨hfit, hwid⟩ := tdPresent_fits td
  have hexp : (s.putb (tdPresent td) false).get (tdExpect td) = s.get (tdExpect td) :=
    State.get_putb_elsewhere _ _ _ _ (.inl (tdPresent_apart_tdExpect td))
  refine ⟨?_, fun h => ?_, fun h => ?_, ?_, ?_⟩
  · rw [State.get_raiseIf, State.get_putb_self s _ _ hfit hwid]
    rfl
  · rw [State.is_of_get_one (hexp.trans h)]
    rfl
  · rw [State.is_of_get_zero (hexp.trans h)]
    rfl
  · exact (FieldsBut.put (.refl _ s) (by simp) _).of_regs_eq (State.raiseIf_regs ..)
  · exact ((Untouched.refl _ s).put (by simp) _ _).raiseIf (by simp) _ _ _

theorem clockReturn_spec (s : State) (td : Fin 40) : ∃ t, exec (.clockReturn td) s = .next t ∧ t.get (tdPresent td) = 1 ∧
    Frame [tdPresent td] [.regs] s t := by
  obtain ⟨hfit, hwid⟩ := tdPresent_fits td
  exact ⟨s.putb (tdPresent td) true, rfl, State.get_putb_self s _ _ hfit hwid, .put (.refl _ s) (by simp) _,
    .put (.refl _ s) (by simp) _ _⟩

/-! ### Crossings (R32, Table 1-4) -/

theorem crossingOverflow_reader (n : Fin 4) (blocks : Nat) (s : State) : crossingOverflow (2 * n.val) blocks s =
    (s.modReader n 0 (fun r => { r with dropped := max r.dropped blocks })).raise (avSrc n 38) := by
  have hunit : tdUnit (2 * n.val / 2) 0 = n := by ext; simp only [tdUnit]; omega
  simp only [crossingOverflow, if_pos (show 2 * n.val < 8 by omega), if_pos (Nat.mul_mod_right 2 n.val), hunit]

theorem crossingOverflow_writePath (n : Fin 4) (blocks : Nat) (s : State) :
    crossingOverflow (8 + n.val) blocks s = writeUnderflow n s := by
  have hunit : tdUnit (8 + n.val) 8 = n := by ext; simp only [tdUnit]; omega
  rw [crossingOverflow, if_neg (by omega), if_pos (by omega), hunit]

theorem crossingOverflow_driveLink (n : Fin 4) (blocks : Nat) (s : State) :
    crossingOverflow (20 + n.val) blocks s = commandUnderflow n s := by
  have hunit : tdUnit (20 + n.val) 20 = n := by ext; simp only [tdUnit]; omega
  rw [crossingOverflow, if_neg (by omega), if_neg (by omega), if_pos (by omega), hunit]

theorem reader_modReader_self (s : State) (n : Fin 4) (f : Reader → Reader) : (s.modReader n 0 f).reader n 0 = f (s.reader n 0) := by
  simp [State.reader, State.modReader]

theorem reader_modReader_other (s : State) (n : Fin 4) (f : Reader → Reader) : (s.modReader n 0 f).reader n 1 = s.reader n 1 := by
  simp [State.reader, State.modReader]

theorem readerOverflow_spec (s : State) (n : Fin 4) (blocks : Nat) :
    ∃ t, exec (.crossingOverflow ⟨2 * n.val, by omega⟩ blocks) s = .next t ∧
    (t.reader n 0).dropped = max (s.reader n 0).dropped blocks ∧ t.reader n 1 = s.reader n 1 ∧ OtherAvenues n s t ∧
    Raised1 (428 + 96 * n.val + 38) 0 s t ∧ Untouched [.av, .flt] s t := by
  refine ⟨crossingOverflow (2 * n.val) blocks s, rfl, ?_⟩
  rw [crossingOverflow_reader]
  refine ⟨?_, ?_, ?_, rfl, ?_⟩
  · rw [State.reader_raise, reader_modReader_self]
  · rw [State.reader_raise, reader_modReader_other]
  · exact ((OtherAvenues.refl n s).modAv _).raise _ _
  · exact ((Untouched.refl _ s).modAv (by simp) n _).raise (by simp) _ _

theorem commandUnderflow_spec (s : State) (n : Fin 4) (blocks : Nat) :
    ∃ t, exec (.crossingOverflow ⟨20 + n.val, by omega⟩ blocks) s = .next t ∧
    (t.svo.get n).underflows = (s.svo.get n).underflows + 1 ∧ OtherServos n s t ∧
    ((s.svo.get n).underflows = 0 → (t.svo.get n).out = (s.svo.get n).out ∧ t.flt = s.flt) ∧
    ((s.svo.get n).underflows = 1 → Raised1 (812 + 32 * n.val + 8) 0 s t) ∧ Untouched [.svo, .flt] s t := by
  refine ⟨crossingOverflow (20 + n.val) blocks s, rfl, ?_⟩
  rw [crossingOverflow_driveLink]
  unfold commandUnderflow
  dsimp only
  by_cases hk : (s.sv n).underflows + 1 < 2
  · rw [if_pos hk]
    refine ⟨?_, .modSv (.refl n s) _, fun _ => ⟨?_, rfl⟩, fun h => absurd (show (s.sv n).underflows = 1 from h) (by omega),
      .modSv (.refl _ s) (by simp) n _⟩
    · rw [State.svo_modSv_self]
      rfl
    · rw [State.svo_modSv_self]
  · rw [if_neg hk]
    refine ⟨?_, ?_, fun h => absurd (show (s.sv n).underflows = 0 from h) (by omega), fun h => ?_, ?_⟩
    · rw [State.svo_modSv_self, State.raiseIf_svo, State.svo_modSv_self]
      rfl
    · exact ((OtherServos.modSv (.refl n s) _).of_svo_eq (State.raiseIf_svo ..)).modSv _
    · have h2 : ((s.sv n).underflows + 1 == 2) = true := by rw [show (s.sv n).underflows = 1 from h]; rfl
      rw [h2]
      rfl
    · exact ((Untouched.modSv (.refl _ s) (by simp) n _).raiseIf (by simp) _ _ _).modSv (by simp) n _

/-! ### Loads of the time base (R54) -/

theorem trace_untouched (s : State) (f : TraceFrame) : Untouched [.regs, .recd, .flt] s (s.trace f) := by
  unfold State.trace
  split
  · exact ((Untouched.refl _ s).step (.setRecd s _) (by simp)).put (by simp) _ _
  · exact (((Untouched.refl _ s).step (.setRecd s _) (by simp)).put (by simp) _ _).raiseIf (by simp) _ _ _

/-- A trace frame changes no word but TRSTAT. -/
theorem trace_wordsBut (s : State) (f : TraceFrame) : WordsBut [REC_TRSTAT] s (s.trace f) := by
  unfold State.trace
  split
  · exact WordsBut.put (.of_regs_eq (.refl _ s) rfl) (by decide) _
  · exact (WordsBut.put (.of_regs_eq (.refl _ s) rfl) (by decide) _).of_regs_eq (State.raiseIf_regs ..)

/-- Of the recorder, a trace frame changes no more than the FIFO and its losses. -/
theorem trace_records (s : State) (f : TraceFrame) :
    (s.trace f).recd.circ = s.recd.circ ∧ (s.trace f).recd.nextSeq = s.recd.nextSeq := by
  unfold State.trace
  split
  · exact ⟨rfl, rfl⟩
  · rw [State.raiseIf_recd]
    exact ⟨rfl, rfl⟩

theorem recHeads_recd (s : State) : s.recHeads.recd = s.recd := rfl

theorem recHeads_wordsBut (s : State) : WordsBut [REC_HEAD, REC_TAIL] s s.recHeads :=
  .put (.put (.refl _ s) (by decide) _) (by decide) _

theorem recHeads_untouched (s : State) : Untouched [.regs] s s.recHeads :=
  .put (.put (.refl _ s) (by simp) _ _) (by simp) _ _

/-- The newest record stays in the circulating area. -/
theorem getLast?_newestRecords (l : List RecEntry) (e : RecEntry) :
    ((l ++ [e]).drop ((l ++ [e]).length - 4096)).getLast? = some e := by
  have hlen : 0 < (l ++ [e]).length := by simp
  rw [List.getLast?_drop, if_neg (by omega), List.getLast?_append]
  rfl

/-- An enabled recorder takes the record as the newest of the circulating area, under the next SEQ, and traces it (R519, R522). -/
theorem record_of_enabled {s : State} (h : s.is REC_CTL_EN = true) (r : RecEntry) : ∃ (x : Recorder) (f : TraceFrame),
    s.record r = (State.recHeads { s with recd := x }).trace f ∧ x.circ.getLast?.map RecEntry.typ = some r.typ ∧
    x.nextSeq = (s.recd.nextSeq + 1) % 2 ^ 32 := by
  unfold State.record
  simp only [h, Bool.not_true, Bool.false_eq_true, if_false]
  refine ⟨_, _, rfl, ?_, rfl⟩
  simp only [getLast?_newestRecords, Option.map_some]

theorem record_of_disabled {s : State} (h : s.is REC_CTL_EN = false) (r : RecEntry) : s.record r = s := by
  unfold State.record
  rw [h]
  rfl

theorem record_untouched (s : State) (r : RecEntry) : Untouched [.regs, .recd, .flt] s (s.record r) := by
  cases h : s.is REC_CTL_EN with
  | false => rw [record_of_disabled h r]; exact .refl _ s
  | true =>
    obtain ⟨x, f, heq, -⟩ := record_of_enabled h r
    rw [heq]
    exact ((Untouched.step (.refl _ s) (.setRecd s x) (by simp)).step (recHeads_untouched _) (by simp)).trans (trace_untouched _ f)

/-- A record changes no word but those of the recorder's area and its FIFO. -/
theorem record_wordsBut (s : State) (r : RecEntry) : WordsBut [REC_HEAD, REC_TAIL, REC_TRSTAT] s (s.record r) := by
  cases h : s.is REC_CTL_EN with
  | false => rw [record_of_disabled h r]; exact .refl _ s
  | true =>
    obtain ⟨x, f, heq, -⟩ := record_of_enabled h r
    have hx : WordsBut [REC_HEAD, REC_TAIL] s { s with recd := x } := fun _ _ => rfl
    rw [heq]
    exact .trans (.mono (hx.trans (recHeads_wordsBut _)) (by simp)) (.mono (trace_wordsBut _ f) (by decide))

theorem record_newest {s : State} (h : s.get REC_CTL_EN = 1) (r : RecEntry) :
    (s.record r).recd.nextSeq = (s.recd.nextSeq + 1) % 2 ^ 32 ∧ (s.record r).recd.circ.getLast?.map RecEntry.typ = some r.typ := by
  obtain ⟨x, f, heq, hlast, hseq⟩ := record_of_enabled (State.is_of_get_one h) r
  obtain ⟨hcirc, hnext⟩ := trace_records (State.recHeads { s with recd := x }) f
  rw [heq]
  refine ⟨hnext.trans hseq, ?_⟩
  rw [hcirc, recHeads_recd, hlast]

theorem timeLoadApply_eq {s : State} (hl : s.tim.loadPending = true) (hp : s.get (tdPresent 31) = 1) :
    timeLoadApply s = (({ s with tim := ⟨BitVec.ofNat 64 ((s.rd TIM_LOAD_LO).toNat + 2 ^ 32 * (s.rd TIM_LOAD_HI).toNat),
      false⟩ } : State).step1 TIM_CTL_LOADS).recordType 1 0 := by
  unfold timeLoadApply
  rw [hl, State.is_of_get_one hp]
  rfl

theorem timeLoadApply_spec (s : State) (hl : s.tim.loadPending = true) (hp : s.get (tdPresent 31) = 1) :
    ∃ t, exec .timeLoadApply s = .next t ∧
      t.tim.now = BitVec.ofNat 64 ((s.rd TIM_LOAD_LO).toNat + 2 ^ 32 * (s.rd TIM_LOAD_HI).toNat) ∧
      t.tim.loadPending = false ∧
      t.get TIM_CTL_LOADS = (s.get TIM_CTL_LOADS + 1) % 2 ^ TIM_CTL_LOADS.wid ∧
      (s.get REC_CTL_EN = 1 → t.recd.nextSeq = (s.recd.nextSeq + 1) % 2 ^ 32 ∧
        (t.recd.circ.getLast?.map RecEntry.typ) = some 1) ∧
      Untouched [.tim, .regs, .recd, .flt] s t := by
  refine ⟨timeLoadApply s, rfl, ?_⟩
  rw [timeLoadApply_eq hl hp]
  generalize hs₁ : ({ s with tim := ⟨_, false⟩ } : State).step1 TIM_CTL_LOADS = s₁
  have hu : Untouched [.tim, .regs] s s₁ := by
    rw [← hs₁]
    exact .put (.step (.refl _ s) (.setTim s _) (by simp)) (by simp) _ _
  have hloads : s₁.get TIM_CTL_LOADS = (s.get TIM_CTL_LOADS + 1) % 2 ^ TIM_CTL_LOADS.wid := by
    rw [← hs₁]
    exact State.get_put_self _ _ _ (by decide)
  have hen : s₁.get REC_CTL_EN = s.get REC_CTL_EN := by
    rw [← hs₁]
    exact State.get_put_elsewhere _ _ _ _ (by decide)
  have htim : s₁.tim = ⟨BitVec.ofNat 64 ((s.rd TIM_LOAD_LO).toNat + 2 ^ 32 * (s.rd TIM_LOAD_HI).toNat), false⟩ := by
    rw [← hs₁]
    rfl
  have hrecd : s₁.recd = s.recd := hu .recd (by decide)
  have hrec := fun r => record_untouched s₁ r .tim (by decide)
  unfold State.recordType
  refine ⟨?_, ?_, ?_, fun h => ?_, ?_⟩
  · exact congrArg TimeBase.now ((hrec _).trans htim)
  · exact congrArg TimeBase.loadPending ((hrec _).trans htim)
  · exact (State.get_of_rd_eq (record_wordsBut s₁ _ _ (by decide))).trans hloads
  · rw [← hrecd]
    exact record_newest (hen.trans h) _
  · exact (hu.mono (by simp)).step (record_untouched _ _) (by simp)

/-- Settles O8: clocks, crossings and loads each by the meaning of their command. -/
theorem timingDomainsAndTimeBase : Obligations.TimingDomainsAndTimeBase :=
  ⟨clockAbsent_spec, clockReturn_spec, readerOverflow_spec,
    fun s _ => ⟨s.raise 954, rfl, rfl, .raise (.refl _ s) (by simp) _ _⟩,
    commandUnderflow_spec, fun _ => rfl, timeLoadApply_spec⟩

end Sys2Proof.Machine
end

section
/-! SUPPORT AND CERTIFICATE. Write underflows and the flits of the Ring Road (R36, R39, Table 5-1 cause 4), and the statement O9. -/

namespace Sys2Proof.Machine

/-! ### Write underflows (Table 5-1 cause 4) -/

/-- The state at an underflow, before write gate answers it. -/
def State.underflowAt (s : State) (n : Fin 4) : State :=
  (s.modAv n (fun a => { a with underflow := true })).raise (avSrc n 72)

theorem writeUnderflow_of_idle {s : State} {n : Fin 4} (h : s.writing n = false) :
    writeUnderflow n s = ((s.underflowAt n).dropGate n).modAv n (fun a => { a with underflow := false }) := by
  have hseq : (s.underflowAt n).seq n = s.seq n := by
    unfold State.underflowAt State.seq
    rw [State.avn_raise, State.avn_modAv_self]
  unfold writeUnderflow
  exact congrArg (State.modAv · n _) (inhibit_of_idle ((writing_congr hseq).trans h) 4)

theorem writeUnderflow_spec (s : State) (n : Fin 4) (blocks : Nat) (h : s.writing n = false) :
    ∃ t, exec (.crossingOverflow ⟨8 + n.val, by omega⟩ blocks) s = .next t ∧ (t.avn n).wg = false ∧
      (t.avn n).underflow = false ∧ Raised1 (428 + 96 * n.val + 72) 0 s t ∧ OtherAvenues n s t ∧
      Untouched [.av, .flt] s t := by
  refine ⟨crossingOverflow (8 + n.val) blocks s, rfl, ?_⟩
  rw [crossingOverflow_writePath, writeUnderflow_of_idle h]
  have hu : Untouched [.av, .flt] s (s.underflowAt n) := .raise (.modAv (.refl _ s) (by simp) n _) (by simp) _ _
  have ho : OtherAvenues n s (s.underflowAt n) := .raise (.modAv (.refl n s) _) _ _
  refine ⟨?_, ?_, ?_, ?_, ?_⟩
  · rw [State.avn_modAv_self]
    exact dropGate_wg _ n
  · rw [State.avn_modAv_self]
  · exact dropGate_untouched (s.underflowAt n) n .flt (by decide)
  · exact (ho.trans (dropGate_otherAvenues _ n)).modAv _
  · exact (hu.step (dropGate_untouched _ n) (by simp)).modAv (by simp) n _

/-! ### Flits (R36, R39) -/

theorem hopsCw_add_back {a b : Fin 13} (h : a ≠ b) : hopsCw a b + hopsCw b a = 13 := by
  have hne : a.val ≠ b.val := fun e => h (Fin.ext e)
  unfold hopsCw
  omega

/-- The way chosen is clockwise just when it is no longer than the other. -/
theorem hopsCw_le_six_iff (a b : Fin 13) : hopsCw a b ≤ 6 ↔ hopsCw a b ≤ hopsCw b a := by
  by_cases h : a = b
  · subst h
    simp [hopsCw]
  · have := hopsCw_add_back h
    omega

/-- What the delivery of a flit with a good header shows. -/
def deliveryOf (f : Flit) : FlitResult :=
  { dst := f.dst.val, clockwise := decide (hopsCw f.src.val f.dst.val ≤ 6)
    hops := min (hopsCw f.src.val f.dst.val) (13 - hopsCw f.src.val f.dst.val)
    poisoned := f.errors.any (fun e => decide (2 ≤ e)) }

theorem flitDelivery_of_good {f : Flit} (s : State) (hh : f.headerOk = true) (hl : (f.response && f.late) = false) :
    flitDelivery f s = { s with ring := { s.ring with
      corrected := KMap.set (fun _ => 0) s.ring.corrected f.dst.val
        (KMap.get (fun _ => 0) s.ring.corrected f.dst.val + (f.errors.filter (fun e => e == 1)).length)
      last := some (deliveryOf f) } } := by
  simp only [flitDelivery, hh, hl, Bool.false_and, Bool.false_eq_true, Bool.not_true, if_false]
  rfl

theorem flitDelivery_of_bad {f : Flit} (s : State) (hh : f.headerOk = false) (hl : (f.response && f.late) = false) :
    flitDelivery f s = State.raise { s with ring := { s.ring with discarded := s.ring.discarded + 1 } }
      (Config.flitParitySource f.dst.val).val := by
  simp only [flitDelivery, hh, hl, Bool.false_and, Bool.false_eq_true, Bool.not_false, if_false, if_true]

theorem flitGood_spec (s : State) (f : Flit) (hh : f.headerOk = true) (hl : (f.response && f.late) = false) :
    ∃ t, exec (.flitDelivery f) s = .next t ∧
      (∃ r, t.ring.last = some r ∧ r.dst = f.dst.val ∧
        r.clockwise = decide ((f.dst.val + 13 - f.src.val) % 13 ≤ (f.src.val + 13 - f.dst.val) % 13) ∧
        (f.src ≠ f.dst → r.hops = min ((f.dst.val + 13 - f.src.val) % 13) ((f.src.val + 13 - f.dst.val) % 13)) ∧
        (r.poisoned = true ↔ ∃ e ∈ f.errors, 2 ≤ e)) ∧
      KMap.get (fun _ => 0) t.ring.corrected f.dst.val =
        KMap.get (fun _ => 0) s.ring.corrected f.dst.val + (f.errors.filter (fun e => e == 1)).length ∧
      (∀ d, d ≠ f.dst.val → KMap.get (fun _ => 0) t.ring.corrected d = KMap.get (fun _ => 0) s.ring.corrected d) ∧
      t.ring.discarded = s.ring.discarded ∧ Untouched [.ring] s t := by
  refine ⟨flitDelivery f s, rfl, ?_⟩
  rw [flitDelivery_of_good s hh hl]
  refine ⟨⟨deliveryOf f, rfl, rfl, ?_, fun hne => ?_, ?_⟩, KMap.get_set_self .., fun d hd => KMap.get_set_of_ne _ _ _ hd, rfl,
    .setRing s _⟩
  · exact decide_eq_decide.2 (hopsCw_le_six_iff f.src f.dst)
  · have hsum := hopsCw_add_back hne
    exact congrArg (min (hopsCw f.src f.dst)) (show 13 - hopsCw f.src f.dst = hopsCw f.dst f.src by omega)
  · simp [deliveryOf]

theorem flitBad_spec (s : State) (f : Flit) (hh : f.headerOk = false) (hl : (f.response && f.late) = false) :
    ∃ t src, exec (.flitDelivery f) s = .next t ∧ t.ring.discarded = s.ring.discarded + 1 ∧ t.ring.last = s.ring.last ∧
      t.ring.corrected = s.ring.corrected ∧ Raised1 src 0 s t ∧ Untouched [.ring, .flt] s t := by
  refine ⟨flitDelivery f s, (Config.flitParitySource f.dst.val).val, rfl, ?_⟩
  rw [flitDelivery_of_bad s hh hl]
  exact ⟨rfl, rfl, rfl, rfl, .raise (.step (.refl _ s) (.setRing s _) (by simp)) (by simp) _ _⟩

/-- Settles O9: an underflow with nothing writing drops write gate; a flit goes by its header. -/
theorem flitsAndWriteUnderflow : Obligations.FlitsAndWriteUnderflow := ⟨writeUnderflow_spec, flitGood_spec, flitBad_spec⟩

end Sys2Proof.Machine
end

section
/-! SUPPORT. What the timing lane and a write fault of one Avenue may change: registers, that Avenue and events (R92, R147, R151). -/

namespace Sys2Proof.Machine

/-- No more than registers, Avenue `n` and events differ. -/
def AvenueOnly (n : Fin 4) (s t : State) : Prop := OtherAvenues n s t ∧ Untouched [.regs, .av, .flt] s t

namespace AvenueOnly

variable {n : Fin 4} {s t u : State}

theorem refl (n : Fin 4) (s : State) : AvenueOnly n s s := ⟨.refl n s, .refl _ s⟩

theorem trans (h : AvenueOnly n s t) (h' : AvenueOnly n t u) : AvenueOnly n s u := ⟨h.1.trans h'.1, h.2.trans h'.2⟩

theorem put (h : AvenueOnly n s t) (f : Fld) (v : Nat) : AvenueOnly n s (t.put f v) := ⟨h.1.of_av_eq rfl, h.2.put (by simp) f v⟩

theorem modAv (h : AvenueOnly n s t) (f : Avenue → Avenue) : AvenueOnly n s (t.modAv n f) := ⟨h.1.modAv f, h.2.modAv (by simp) n f⟩

theorem ite {c : Prop} [Decidable c] (ht : AvenueOnly n s t) (hu : AvenueOnly n s u) : AvenueOnly n s (if c then t else u) := by
  split
  · exact ht
  · exact hu

theorem bump (h : AvenueOnly n s t) (f : Fld) (k : Nat) : AvenueOnly n s (t.bump f k) := h.put f _

theorem raise (h : AvenueOnly n s t) (src d : Nat) : AvenueOnly n s (t.raise src d) := ⟨h.1.raise src d, h.2.raise (by simp) src d⟩

theorem raiseIf (h : AvenueOnly n s t) (b : Bool) (src d : Nat) : AvenueOnly n s (t.raiseIf b src d) := by
  cases b
  · exact h
  · exact h.raise src d

theorem dropGate (h : AvenueOnly n s t) : AvenueOnly n s (t.dropGate n) :=
  h.trans ⟨dropGate_otherAvenues t n, (dropGate_untouched t n).mono (by simp)⟩

theorem endOp (h : AvenueOnly n s t) (st : Nat) : AvenueOnly n s (t.endOp n st) := by
  unfold State.endOp
  split
  · exact h
  · split
    · exact h.modAv _
    · exact h

theorem writeFault (h : AvenueOnly n s t) (c : Nat) : AvenueOnly n s (t.writeFault n c) := by
  unfold State.writeFault
  split
  · exact h
  next o _ =>
    dsimp only
    have hcap := AvenueOnly.ite (c := t.is (AV_WFSTAT_VALID n)) h
      (((((h.put (AV_WFSTAT_FIRST n) c).put (AV_WFSTAT_CAUSE n) (t.causes n)).put (AV_WFSTAT_FACE n) o.face).put
        (AV_WFSTAT_SLOT n) (t.faultSlot n)).put (AV_WFSTAT_VALID n) 1)
    have hend := ((hcap.bump (AV_WFCNT_FAULTS n) 1).dropGate.endOp 5).modAv
      (fun a => { a with seq := { a.seq with slotRun := none } })
    exact .raise (.ite (hend.modAv _) hend) _ _

theorem inhibit (h : AvenueOnly n s t) (c : Nat) : AvenueOnly n s (t.inhibit n c) := by
  unfold State.inhibit
  split
  · exact (h.raiseIf _ _ _).writeFault c
  · exact h.dropGate

theorem beginAttempt (h : AvenueOnly n s t) : AvenueOnly n s (t.beginAttempt n) := (h.put _ _).modAv _

theorem flagLane (h : AvenueOnly n s t) : AvenueOnly n s (t.flagLane n) := h.modAv _

theorem laneTo (h : AvenueOnly n s t) (st : Nat) : AvenueOnly n s (t.laneTo n st) := by
  have hst := h.put (AV_TLSTAT_STATE n) st
  have hleft := AvenueOnly.ite (c := t.laneTracks n && !(st == 3 || st == 4)) (hst.flagLane.inhibit 3) hst
  have hbegin := AvenueOnly.ite (c := st = 2) hleft.beginAttempt hleft
  exact .ite (hbegin.endOp 4) hbegin

theorem laneZoneChange (h : AvenueOnly n s t) : AvenueOnly n s (t.laneZoneChange n) :=
  modAv (.ite ((h.modAv _).laneTo 2) h) _

end AvenueOnly

end Sys2Proof.Machine
end

section
/-! SUPPORT AND CERTIFICATE. The pace loop (R44, R45, R48 to R50): what one monitor's gate end changes, the code that a period's end
asks for, zone changes and the PGOOD filter; and the statement O10. -/

namespace Sys2Proof.Machine

/-! ### One monitor at a gate's end (R44) -/

theorem paceMonitor_disabled {s : State} {m : Nat} (h : s.get (PWR_PACEREQ_EN m) = 0) (raw : Nat) : paceMonitor s (m, raw) = s := by
  simp [paceMonitor, State.is_of_get_zero h]

/-- Of the registers, an enabled monitor changes its count and its margin. -/
theorem paceMonitor_regs {s : State} {m : Nat} (h : s.get (PWR_PACEREQ_EN m) = 1) (raw : Nat) : (paceMonitor s (m, raw)).regs =
    ((s.put (PWR_PACE_COUNT m) (min 0xFFFF raw)).put (PWR_PACE_MARGIN m) (s.margins m (min 0xFFFF raw)).1).regs := by
  simp only [paceMonitor, State.is_of_get_one h, Bool.not_true, Bool.false_eq_true, if_false]
  split
  · exact State.raiseIf_regs ..
  · simp only [State.raiseIf_regs]

theorem paceMonitor_loop (s : State) (p : Nat × Nat) :
    (paceMonitor s p).pace.wait = s.pace.wait ∧ (paceMonitor s p).pace.gates = s.pace.gates := by
  unfold paceMonitor
  dsimp only
  split
  · exact ⟨rfl, rfl⟩
  · split
    · simp
    · simp

theorem paceMonitor_untouched (s : State) (p : Nat × Nat) : Untouched [.regs, .pace, .flt] s (paceMonitor s p) := by
  have hput : Untouched [.regs, .pace, .flt] s ((s.put (PWR_PACE_COUNT p.1) (min 0xFFFF p.2)).put (PWR_PACE_MARGIN p.1)
    (s.margins p.1 (min 0xFFFF p.2)).1) := .put (.put (.refl _ s) (by simp) _ _) (by simp) _ _
  unfold paceMonitor
  dsimp only
  split
  · exact .refl _ s
  · have hraise := hput.raiseIf (by simp) (p.2 == 0) 1126 0
    split
    · exact hraise
    · exact ((hraise.raiseIf (by simp) _ 1120 0).raiseIf (by simp) _ 1121 0).step (.setPace _ _) (by simp)

theorem paceMonitor_wordsBut (s : State) (m raw : Nat) : WordsBut [PWR_PACE m] s (paceMonitor s (m, raw)) := by
  rcases s.get_bit (PWR_PACEREQ_EN m) rfl with h | h
  · rw [paceMonitor_disabled h]
    exact .refl _ s
  · refine .of_regs_eq (.put (.put (.refl _ s) ?_ _) ?_ _) (paceMonitor_regs h raw)
    · exact List.mem_singleton_self _
    · exact List.mem_singleton_self _

theorem paceMonitor_count {s : State} {m : Nat} (h : s.get (PWR_PACEREQ_EN m) = 1) (raw : Nat) :
    (paceMonitor s (m, raw)).get (PWR_PACE_COUNT m) = min 0xFFFF raw := by
  have hlt : min 0xFFFF raw < 2 ^ 16 := by omega
  rw [State.get_of_regs_eq (paceMonitor_regs h raw), State.get_put_elsewhere _ (PWR_PACE_MARGIN m) (PWR_PACE_COUNT m) _
    (.inr (.inl (Nat.le_refl 16))), State.get_put_self _ (PWR_PACE_COUNT m) _ (Nat.le_refl 32)]
  exact Nat.mod_eq_of_lt hlt

/-- The margin of an unscaled monitor with a requirement (R44). -/
theorem paceMonitor_margin {s : State} {m : Nat} (h : s.get (PWR_PACEREQ_EN m) = 1) (hm : 8 ≤ m)
    (hreq : 0 < s.get (PWR_PACEREQ_REQ m)) (raw : Nat) : (paceMonitor s (m, raw)).get (PWR_PACE_MARGIN m) =
      min 0xFFFF (min 0xFFFF raw * 256 / s.get (PWR_PACEREQ_REQ m)) := by
  have hmargin : (s.margins m (min 0xFFFF raw)).1 = min 0xFFFF (min 0xFFFF raw * 256 / s.get (PWR_PACEREQ_REQ m)) := by
    simp only [State.margins, if_neg (Nat.not_lt.2 hm), paceMargin, if_neg (Nat.pos_iff_ne_zero.1 hreq), Nat.mul_one]
  rw [State.get_of_regs_eq (paceMonitor_regs h raw), State.get_put_self _ (PWR_PACE_MARGIN m) _ (by simp [PWR_PACE_MARGIN]), hmargin]
  exact Nat.mod_eq_of_lt (show min 0xFFFF _ < 2 ^ 16 by omega)

/-! ### All monitors at a gate's end -/

theorem foldl_paceMonitor_rd {a : Nat} (l : List (Nat × Nat)) (h : ∀ p ∈ l, a ≠ PWR_PACE p.1) (s : State) :
    (l.foldl paceMonitor s).rd a = s.rd a := by
  induction l generalizing s with
  | nil => rfl
  | cons p l ih =>
    rw [List.foldl_cons, ih (fun q hq => h q (List.mem_cons_of_mem _ hq))]
    exact paceMonitor_wordsBut s p.1 p.2 a (by simpa using h p (List.mem_cons_self ..))

theorem foldl_paceMonitor_untouched (l : List (Nat × Nat)) (s : State) :
    Untouched [.regs, .pace, .flt] s (l.foldl paceMonitor s) := by
  induction l generalizing s with
  | nil => exact .refl _ s
  | cons p l ih => exact (paceMonitor_untouched s p).trans (ih _)

theorem foldl_paceMonitor_loop (l : List (Nat × Nat)) (s : State) :
    (l.foldl paceMonitor s).pace.wait = s.pace.wait ∧ (l.foldl paceMonitor s).pace.gates = s.pace.gates := by
  induction l generalizing s with
  | nil => exact ⟨rfl, rfl⟩
  | cons p l ih =>
    obtain ⟨hw, hg⟩ := ih (paceMonitor s p)
    obtain ⟨hw', hg'⟩ := paceMonitor_loop s p
    exact ⟨hw.trans hw', hg.trans hg'⟩

theorem PWR_PACE_ne {m k : Nat} (h : m ≠ k) : PWR_PACE m ≠ PWR_PACE k := by simp only [PWR_PACE]; omega

theorem PWR_PACEREQ_ne (m : Nat) {k : Nat} (h : k < 16) : PWR_PACEREQ m ≠ PWR_PACE k := by simp only [PWR_PACEREQ, PWR_PACE]; omega

/-- The monitors with their counts, each once. -/
theorem monitors_split {counts : List Nat} (h : counts.length = 16) {m : Nat} (hm : m < 16) :
    ∃ l₁ l₂ : List (Nat × Nat), (List.range 16).zip counts = l₁ ++ (m, counts.getD m 0) :: l₂ ∧
      (∀ p ∈ l₁, p.1 < 16 ∧ p.1 ≠ m) ∧ ∀ p ∈ l₂, p.1 ≠ m := by
  have hlen : ((List.range 16).zip counts).length = 16 := by simp [h]
  have hmem : (m, counts.getD m 0) ∈ (List.range 16).zip counts := by
    have hget : ((List.range 16).zip counts)[m] = (m, counts.getD m 0) := by simp [h, hm]
    exact hget ▸ List.getElem_mem _
  obtain ⟨l₁, l₂, heq⟩ := List.append_of_mem hmem
  have hfst : (l₁ ++ (m, counts.getD m 0) :: l₂).map Prod.fst = List.range 16 := by
    rw [← heq, List.map_fst_zip (by simp [h])]
  have hnodup := hfst ▸ List.nodup_range (n := 16)
  rw [List.map_append, List.map_cons, List.nodup_append] at hnodup
  obtain ⟨-, hcons, hdisj⟩ := hnodup
  refine ⟨l₁, l₂, heq, fun p hp => ⟨?_, ?_⟩, fun p hp e => ?_⟩
  · have : p.1 ∈ List.range 16 := hfst ▸ List.mem_map_of_mem (List.mem_append_left _ hp)
    simpa using this
  · exact hdisj p.1 (List.mem_map_of_mem hp) m (List.mem_cons_self ..)
  · have hin : p.1 ∈ l₂.map Prod.fst := List.mem_map_of_mem hp
    rw [e] at hin
    exact (List.nodup_cons.1 hcons).1 hin

/-- A monitor's word after all have ended the gate is the word after its own end, and its requirement is as it was before. -/
theorem monitors_rd {counts : List Nat} (h : counts.length = 16) {m : Nat} (hm : m < 16) (s : State) :
    ∃ t : State, t.rd (PWR_PACE m) = s.rd (PWR_PACE m) ∧ t.rd (PWR_PACEREQ m) = s.rd (PWR_PACEREQ m) ∧
      (((List.range 16).zip counts).foldl paceMonitor s).rd (PWR_PACE m) =
        (paceMonitor t (m, counts.getD m 0)).rd (PWR_PACE m) := by
  obtain ⟨l₁, l₂, heq, h₁, h₂⟩ := monitors_split h hm
  refine ⟨l₁.foldl paceMonitor s, ?_, ?_, ?_⟩
  · exact foldl_paceMonitor_rd l₁ (fun p hp => (PWR_PACE_ne (h₁ p hp).2).symm) s
  · exact foldl_paceMonitor_rd l₁ (fun p hp => PWR_PACEREQ_ne m (h₁ p hp).1) s
  · rw [heq, List.foldl_append, List.foldl_cons]
    exact foldl_paceMonitor_rd l₂ (fun p hp => (PWR_PACE_ne (h₂ p hp)).symm) _

/-! ### The end of a gate (R44, R48) -/

/-- What the end of a gate does with the lists and the code once every monitor has counted. -/
def gateClosed (s s1 : State) : State :=
  let s2 := { s1 with pace := { s1.pace with
    gates := s1.pace.gates + 1
    belowWarn := s1.pace.belowWarn.drop s.pace.belowWarn.length
    belowCrit := s1.pace.belowCrit.drop s.pace.belowCrit.length } }
  if s2.avsRuns && !s2.pace.belowCrit.isEmpty then s2.setCode (s2.get PWR_VREQ_CODE + s2.get PWR_AVSLIM_FAST) else s2

theorem paceGateEnd_eq (counts : List Nat) (s : State) : paceGateEnd counts s = all4.foldl zoneRetry
    (gateClosed s (((List.range 16).zip counts).foldl paceMonitor { s with pace := { s.pace with prev := [] } })) := rfl

theorem gateClosed_wordsBut (s s1 : State) : WordsBut [PWR_VREQ] s1 (gateClosed s s1) := by
  unfold gateClosed
  dsimp only
  split
  · exact .put (.of_regs_eq (.refl _ s1) rfl) (by decide) _
  · exact .of_regs_eq (.refl _ s1) rfl

theorem gateClosed_untouched (s s1 : State) : Untouched [.regs, .pace] s1 (gateClosed s s1) := by
  unfold gateClosed
  dsimp only
  split
  · exact .put (.step (.refl _ s1) (.setPace s1 _) (by simp)) (by simp) _ _
  · exact .step (.refl _ s1) (.setPace s1 _) (by simp)

theorem gateClosed_loop (s s1 : State) :
    (gateClosed s s1).pace.wait = s1.pace.wait ∧ (gateClosed s s1).pace.gates = s1.pace.gates + 1 := by
  unfold gateClosed
  dsimp only
  split <;> exact ⟨rfl, rfl⟩

/-- With no change waiting the retries do nothing (R48). -/
theorem foldl_zoneRetry_of_none {s : State} (h : s.pace.wait = .all none) (l : List (Fin 4)) : l.foldl zoneRetry s = s := by
  refine List.foldl_fixed' (fun n => ?_) l
  have hn : s.pace.wait.get n = none := by rw [h]; fin_cases n <;> rfl
  simp [zoneRetry, hn]

theorem paceGateEnd_spec (s : State) (counts : List Nat) (hlen : counts.length = 16) (hwait : s.pace.wait = .all none) :
    ∃ t, exec (.paceGateEnd counts) s = .next t ∧ t.pace.gates = s.pace.gates + 1 ∧
      (∀ m, 8 ≤ m → m < 16 → s.get (PWR_PACEREQ_EN m) = 1 → 0 < s.get (PWR_PACEREQ_REQ m) →
        t.get (PWR_PACE_COUNT m) = min 0xFFFF (counts.getD m 0) ∧
        t.get (PWR_PACE_MARGIN m) = min 0xFFFF (min 0xFFFF (counts.getD m 0) * 256 / s.get (PWR_PACEREQ_REQ m))) ∧
      (∀ m < 16, s.get (PWR_PACEREQ_EN m) = 0 → t.get (PWR_PACE_COUNT m) = s.get (PWR_PACE_COUNT m) ∧
        t.get (PWR_PACE_MARGIN m) = s.get (PWR_PACE_MARGIN m)) ∧
      Untouched [.regs, .pace, .flt] s t := by
  refine ⟨paceGateEnd counts s, rfl, ?_⟩
  generalize hs₀ : ({ s with pace := { s.pace with prev := [] } } : State) = s₀
  have hrd : ∀ a, s₀.rd a = s.rd a := fun a => by rw [← hs₀]; rfl
  have hu₀ : Untouched [.regs, .pace, .flt] s s₀ := by
    rw [← hs₀]
    exact .step (.refl _ s) (.setPace s _) (by simp)
  have hw₀ : s₀.pace.wait = s.pace.wait ∧ s₀.pace.gates = s.pace.gates := by
    rw [← hs₀]
    exact ⟨rfl, rfl⟩
  generalize hs₁ : ((List.range 16).zip counts).foldl paceMonitor s₀ = s₁
  obtain ⟨hw₁, hg₁⟩ := hs₁ ▸ foldl_paceMonitor_loop ((List.range 16).zip counts) s₀
  obtain ⟨hw, hg⟩ := gateClosed_loop s s₁
  have heq : paceGateEnd counts s = gateClosed s s₁ := by
    rw [paceGateEnd_eq, hs₀, hs₁]
    exact foldl_zoneRetry_of_none (hw.trans (hw₁.trans (hw₀.1.trans hwait))) _
  have hword : ∀ m < 16, ∃ t : State, t.rd (PWR_PACE m) = s.rd (PWR_PACE m) ∧ t.rd (PWR_PACEREQ m) = s.rd (PWR_PACEREQ m) ∧
      (gateClosed s s₁).rd (PWR_PACE m) = (paceMonitor t (m, counts.getD m 0)).rd (PWR_PACE m) := fun m hm => by
    obtain ⟨t, ht, hreq, hfold⟩ := monitors_rd hlen hm s₀
    have hv : PWR_PACE m ∉ [PWR_VREQ] := by simp only [List.mem_singleton, PWR_PACE, PWR_VREQ]; omega
    rw [hs₁] at hfold
    exact ⟨t, ht.trans (hrd _), hreq.trans (hrd _), (gateClosed_wordsBut s s₁ _ hv).trans hfold⟩
  rw [heq]
  refine ⟨by rw [hg, hg₁, hw₀.2], fun m h8 hm hen hreq => ?_, fun m hm hen => ?_, ?_⟩
  · obtain ⟨t, -, hr, hc⟩ := hword m hm
    have hen' : t.get (PWR_PACEREQ_EN m) = 1 := (State.get_of_rd_eq hr).trans hen
    have hreq' : t.get (PWR_PACEREQ_REQ m) = s.get (PWR_PACEREQ_REQ m) := State.get_of_rd_eq hr
    refine ⟨(State.get_of_rd_eq hc).trans (paceMonitor_count hen' _), (State.get_of_rd_eq hc).trans ?_⟩
    rw [paceMonitor_margin hen' h8 (hreq' ▸ hreq), hreq']
  · obtain ⟨t, ht, hr, hc⟩ := hword m hm
    rw [paceMonitor_disabled ((State.get_of_rd_eq hr).trans hen)] at hc
    exact ⟨State.get_of_rd_eq (hc.trans ht), State.get_of_rd_eq (hc.trans ht)⟩
  · exact (hu₀.trans (hs₁ ▸ foldl_paceMonitor_untouched _ s₀)).step (gateClosed_untouched s s₁) (by simp)

end Sys2Proof.Machine
end

section
/-! SUPPORT AND CERTIFICATE. The pace loop, continued: a period's end (R45), zone changes (R48), the PGOOD filter (R50), and the
statement O10. -/

namespace Sys2Proof.Machine

/-! ### A period's end (R45) -/

/-- The code that a period's end asks for with this lowest preview margin, before the limits. -/
def State.askedCode (s : State) (margin : Nat) : Int :=
  if margin < s.avsThr PWR_AVSTHR_LOW then (s.get PWR_VREQ_CODE : Int) + s.get PWR_AVSLIM_UP
  else if s.avsThr PWR_AVSTHR_HIGH < margin then (s.get PWR_VREQ_CODE : Int) - s.get PWR_AVSLIM_DOWN
  else s.get PWR_VREQ_CODE

/-- The state with a period's gates spent and its worst monitor shown. -/
def State.periodShown (s : State) (m : Nat) : State :=
  State.put { s with pace := { s.pace with gates := 0 } } PWR_VREQ_WORST m

theorem periodShown_rd (s : State) (m : Nat) {a : Nat} (h : a ≠ PWR_VREQ) : (s.periodShown m).rd a = s.rd a :=
  State.rd_put_of_ne _ _ _ h

theorem periodShown_pace (s : State) (m : Nat) : (s.periodShown m).pace = { s.pace with gates := 0 } := State.put_pace ..

theorem avsRuns_congr {s t : State} (hctl : t.rd PWR_AVSCTL = s.rd PWR_AVSCTL) (hthr : t.rd PWR_AVSTHR = s.rd PWR_AVSTHR)
    (hhold : t.pace.pgHold = s.pace.pgHold) : t.avsRuns = s.avsRuns := by
  have hget : ∀ f : Fld, f.addr = PWR_AVSTHR → t.get f = s.get f := fun f hf => State.get_of_rd_eq (hf ▸ hthr)
  have hen : t.get PWR_AVSCTL_EN = s.get PWR_AVSCTL_EN := State.get_of_rd_eq hctl
  unfold State.avsRuns State.badThr State.is
  rw [hhold, hen, hget PWR_AVSTHR_CRIT rfl, hget PWR_AVSTHR_WARN rfl, hget PWR_AVSTHR_LOW rfl, hget PWR_AVSTHR_HIGH rfl]

/-- The state with the code that a period's end leaves, where the loop may change it (R45, R50). -/
def State.periodCoded (s : State) (m margin : Nat) : State :=
  if !(s.periodShown m).avsRuns || !s.pace.belowCrit.isEmpty then s.periodShown m
  else if decide (margin < s.avsThr PWR_AVSTHR_LOW) then
    (s.periodShown m).setCode ((s.get PWR_VREQ_CODE : Int) + s.get PWR_AVSLIM_UP)
  else if decide (s.avsThr PWR_AVSTHR_HIGH < margin) then
    (s.periodShown m).setCode ((s.get PWR_VREQ_CODE : Int) - s.get PWR_AVSLIM_DOWN)
  else (s.periodShown m).setCode (s.get PWR_VREQ_CODE)

theorem periodCoded_of_runs {s : State} (m margin : Nat) (hruns : s.avsRuns = true) (hcrit : s.pace.belowCrit = []) :
    s.periodCoded m margin = (s.periodShown m).setCode (s.askedCode margin) := by
  have hruns' : (s.periodShown m).avsRuns = true :=
    (avsRuns_congr (periodShown_rd s m (by decide)) (periodShown_rd s m (by decide)) (by rw [periodShown_pace])).trans hruns
  unfold State.periodCoded State.askedCode
  rw [hruns', hcrit]
  simp only [List.isEmpty_nil, Bool.not_true, Bool.or_false, Bool.false_eq_true, if_false, decide_eq_true_eq,
    apply_ite (State.setCode (s.periodShown m))]

/-- A period's end with one preview margin. -/
theorem avsUpdate_eq {s : State} {m margin : Nat} (hgates : max 1 (s.get PWR_AVSCTL_PERIOD) ≤ s.pace.gates)
    (hprev : s.pace.prev = [(m, margin)]) : ∃ run : Nat, avsUpdate s = State.raiseIf { s.periodCoded m margin with
      pace := { (s.periodCoded m margin).pace with lowRun := run } } (run == 8) 1123 := by
  have hperiod : ¬ s.pace.gates < orOne (s.get PWR_AVSCTL_PERIOD) := by
    unfold orOne
    split <;> omega
  unfold avsUpdate
  rw [if_neg hperiod, hprev]
  exact ⟨_, rfl⟩

theorem setCode_get (s : State) (c : Int) (h : s.get PWR_AVSLIM_MINCODE ≤ s.get PWR_AVSLIM_MAXCODE) :
    (s.setCode c).get PWR_VREQ_CODE =
      (max (s.get PWR_AVSLIM_MINCODE : Int) (min (s.get PWR_AVSLIM_MAXCODE : Int) c)).toNat := by
  have hmax : s.get PWR_AVSLIM_MAXCODE < 2 ^ 9 := s.get_lt PWR_AVSLIM_MAXCODE
  unfold State.setCode
  rw [State.get_put_self _ _ _ (by decide)]
  exact Nat.mod_eq_of_lt (show _ < 2 ^ 9 by omega)

theorem avsUpdate_spec (s : State) (m margin : Nat) (hgates : max 1 (s.get PWR_AVSCTL_PERIOD) ≤ s.pace.gates)
    (hprev : s.pace.prev = [(m, margin)]) (hen : s.get PWR_AVSCTL_EN = 1) (hhold : s.pace.pgHold = false)
    (hcrit : s.pace.belowCrit = []) (h₁ : s.get PWR_AVSTHR_CRIT < s.get PWR_AVSTHR_WARN)
    (h₂ : s.get PWR_AVSTHR_WARN < s.get PWR_AVSTHR_LOW) (h₃ : s.get PWR_AVSTHR_LOW < s.get PWR_AVSTHR_HIGH) (hm : m < 16)
    (hlim : s.get PWR_AVSLIM_MINCODE ≤ s.get PWR_AVSLIM_MAXCODE) :
    ∃ t, exec .avsUpdate s = .next t ∧ t.get PWR_VREQ_WORST = m ∧ t.pace.gates = 0 ∧
      (margin < 256 + s.get PWR_AVSTHR_LOW → t.get PWR_VREQ_CODE =
        max (s.get PWR_AVSLIM_MINCODE) (min (s.get PWR_AVSLIM_MAXCODE) (s.get PWR_VREQ_CODE + s.get PWR_AVSLIM_UP))) ∧
      (256 + s.get PWR_AVSTHR_HIGH < margin → t.get PWR_VREQ_CODE =
        max (s.get PWR_AVSLIM_MINCODE) (min (s.get PWR_AVSLIM_MAXCODE) (s.get PWR_VREQ_CODE - s.get PWR_AVSLIM_DOWN))) ∧
      Frame [PWR_VREQ_WORST, PWR_VREQ_CODE] [.regs, .pace, .flt] s t := by
  have hruns : s.avsRuns = true := by simp [State.avsRuns, State.badThr, State.is, hen, hhold, h₁, h₂, h₃]
  obtain ⟨run, heq⟩ := avsUpdate_eq hgates hprev
  refine ⟨avsUpdate s, rfl, ?_⟩
  rw [heq, periodCoded_of_runs m margin hruns hcrit]
  generalize hv : (s.periodShown m).setCode (s.askedCode margin) = v
  have hregs : (State.raiseIf { v with pace := { v.pace with lowRun := run } } (run == 8) 1123).regs = v.regs :=
    State.raiseIf_regs ..
  have hmin : (s.periodShown m).get PWR_AVSLIM_MINCODE = s.get PWR_AVSLIM_MINCODE :=
    State.get_of_rd_eq (periodShown_rd s m (by decide))
  have hmax : (s.periodShown m).get PWR_AVSLIM_MAXCODE = s.get PWR_AVSLIM_MAXCODE :=
    State.get_of_rd_eq (periodShown_rd s m (by decide))
  have hcode := setCode_get (s.periodShown m) (s.askedCode margin) (by rw [hmin, hmax]; exact hlim)
  rw [hmin, hmax, hv, ← State.get_of_regs_eq hregs PWR_VREQ_CODE] at hcode
  refine ⟨?_, ?_, fun hlow => ?_, fun hhigh => ?_, ?_, ?_⟩
  · rw [State.get_of_regs_eq hregs, ← hv]
    unfold State.setCode State.periodShown
    rw [State.get_put_elsewhere _ _ _ _ (by decide), State.get_put_self _ _ _ (by decide)]
    exact Nat.mod_eq_of_lt hm
  · rw [State.raiseIf_pace, ← hv]
    rfl
  · rw [hcode, State.askedCode, if_pos (by exact hlow)]
    omega
  · have hnlow : ¬ margin < s.avsThr PWR_AVSTHR_LOW := by unfold State.avsThr; omega
    rw [hcode, State.askedCode, if_neg hnlow, if_pos (by exact hhigh)]
    omega
  · have hput : FieldsBut [PWR_VREQ_WORST, PWR_VREQ_CODE] s v := hv ▸
      .put (.put (.of_regs_eq (.refl _ s) rfl) (by simp) _) (by simp) _
    exact hput.of_regs_eq hregs
  · have hput : Untouched [.regs, .pace, .flt] s v := hv ▸
      .put (.put (.step (.refl _ s) (.setPace s _) (by simp)) (by simp) _ _) (by simp) _ _
    exact (hput.step (.setPace _ _) (by simp)).raiseIf (by simp) _ _ _

/-! ### Zone changes (R48) -/

/-- The pace loop once a change of Avenue `n` to zone `z` has taken effect: the preview is spent. -/
def Pace.taken (p : Pace) (n : Fin 4) (z : Nat) : Pace :=
  { p with cur := p.cur.set n z, preview := p.preview.set n none, wait := p.wait.set n none }

/-- A change that takes effect moves the loop's zone and the lane of its own Avenue. -/
theorem zoneTakes_spec (n : Fin 4) (z : Nat) (s : State) :
    (zoneTakes n z s).pace = s.pace.taken n z ∧ OtherAvenues n s (zoneTakes n z s) := by
  have hlane : AvenueOnly n { s with pace := s.pace.taken n z } (zoneTakes n z s) := .laneZoneChange (.modAv (.refl n _) _)
  exact ⟨hlane.2 .pace (by decide), hlane.1⟩

theorem zoneChange_slower {s : State} {n : Fin 4} {z : Nat} (hz : z ≠ s.pace.cur.get n)
    (hrate : s.paceRate n z ≤ s.paceRate n (s.pace.cur.get n)) : zoneChange n z s = zoneTakes n z (s.postPreview n z) := by
  have hready : (s.postPreview n z).zoneReady n z = true := by
    have hnf : decide ((s.postPreview n z).paceRate n ((s.postPreview n z).pace.cur.get n) < (s.postPreview n z).paceRate n z)
        = false := decide_eq_false (Nat.not_lt.2 hrate)
    simp [State.zoneReady, hnf]
  unfold zoneChange
  rw [if_neg hz]
  exact if_pos hready

theorem zoneChange_waits {s : State} {n : Fin 4} {z : Nat} (hrate : s.paceRate n (s.pace.cur.get n) < s.paceRate n z)
    (hmax : 0 < s.get PWR_AVSCTL_HOLDMAX) (hprev : (s.postPreview n z).previewOk n = false) :
    zoneChange n z s = { s with pace := { s.pace with
      preview := s.pace.preview.set n (some z), wait := s.pace.wait.set n (some z) } } := by
  have hz : z ≠ s.pace.cur.get n := fun e => by rw [e] at hrate; exact lt_irrefl _ hrate
  have hready : (s.postPreview n z).zoneReady n z = false := by
    have hf : decide ((s.postPreview n z).paceRate n ((s.postPreview n z).pace.cur.get n) < (s.postPreview n z).paceRate n z)
        = true := decide_eq_true hrate
    have hh : ((s.postPreview n z).get PWR_AVSCTL_HOLDMAX == 0) = false := beq_false_of_ne (Nat.pos_iff_ne_zero.1 hmax)
    simp [State.zoneReady, hf, hh, hprev]
  unfold zoneChange
  rw [if_neg hz]
  exact if_neg (by simp [hready])

theorem zoneSlower_spec (s : State) (n : Fin 4) (z : Fin 32) (hz : z.val ≠ s.pace.cur.get n)
    (hrate : s.paceRate n z.val ≤ s.paceRate n (s.pace.cur.get n)) :
    ∃ t, exec (.zoneChange n z) s = .next t ∧ t.pace.cur = s.pace.cur.set n z.val ∧
      t.pace.preview = s.pace.preview.set n none ∧ t.pace.wait = s.pace.wait.set n none ∧ OtherAvenues n s t := by
  refine ⟨zoneChange n z.val s, rfl, ?_⟩
  obtain ⟨hpace, hother⟩ := zoneTakes_spec n z.val (s.postPreview n z.val)
  rw [zoneChange_slower hz hrate, hpace]
  exact ⟨rfl, Quad.set_set .., rfl, hother⟩

theorem zoneExpiry_spec (s : State) (n : Fin 4) (z : Nat) (h : s.pace.wait.get n = some z) :
    ∃ t, exec (.zoneChangeHoldExpiry n) s = .next t ∧ t.pace.cur = s.pace.cur.set n z ∧
      t.pace.preview = s.pace.preview.set n none ∧ t.pace.wait = s.pace.wait.set n none ∧
      (t.flt.inbox.getLast?.map Raised.src) = some 1125 ∧ OtherAvenues n s t := by
  refine ⟨zoneHoldExpiry n s, rfl, ?_⟩
  obtain ⟨hpace, hother⟩ := zoneTakes_spec n z s
  have heq : zoneHoldExpiry n s = (zoneTakes n z s).raise 1125 := by simp [zoneHoldExpiry, h]
  have hpace' : (zoneHoldExpiry n s).pace = s.pace.taken n z := by rw [heq]; exact hpace
  rw [hpace', heq]
  refine ⟨rfl, rfl, rfl, ?_, hother.raise _ _⟩
  simp

/-! ### The PGOOD filter (R50) -/

theorem pgoodFilter_spec (s : State) (hlow : s.get PWR_VREQ_PGOOD = 0) (ht : s.pace.pgTiming = true) :
    ∃ t, exec .pgoodFilterExpiry s = .next t ∧ t.pace = { s.pace with pgTiming := false, pgHold := true } ∧
      Raised1 1122 0 s t ∧ Untouched [.pace, .flt] s t := by
  have heq : pgoodFilter s = State.raise { s with pace := { s.pace with pgTiming := false, pgHold := true } } 1122 := by
    simp [pgoodFilter, State.is_of_get_zero hlow, ht]
  refine ⟨pgoodFilter s, rfl, ?_⟩
  rw [heq]
  exact ⟨rfl, rfl, .raise (.step (.refl _ s) (.setPace s _) (by simp)) (by simp) _ _⟩

theorem pgoodRise_spec (s : State) : ∃ t, exec .pgoodRise s = .next t ∧ t.get PWR_VREQ_PGOOD = 1 ∧ t.pace.pgHold = false ∧
    t.pwr.causes = setBits s.pwr.causes 2 1 0 ∧ Frame [PWR_VREQ_PGOOD] [.regs, .pace, .pwr] s t := by
  refine ⟨pgoodRise s, rfl, ?_, rfl, rfl, ?_, ?_⟩
  · exact State.get_putb_self _ _ _ (by decide) (by decide)
  · exact .put (.of_regs_eq (.refl _ s) rfl) (by simp) _
  · have hpace : Untouched [.regs, .pace, .pwr] s { s with pace := { s.pace with pgTiming := false, pgHold := false } } :=
      .step (.refl _ s) (.setPace s _) (by simp)
    exact .put (hpace.step (.setPwr _ _) (by simp)) (by simp) _ _

/-- Settles O10: gates, periods, zone changes and the PGOOD filter by the rules above. -/
theorem paceLoop : Obligations.PaceLoop :=
  ⟨paceGateEnd_spec, avsUpdate_spec, fun s n z => ⟨s.postPreview n z.val, rfl, rfl, .setPace s _⟩, zoneSlower_spec,
    fun _ _ _ hrate hmax hprev => congrArg _ (zoneChange_waits hrate hmax hprev), zoneExpiry_spec, pgoodFilter_spec,
    pgoodRise_spec⟩

end Sys2Proof.Machine
end

section
/-! SUPPORT. What a start leaves of the power block's own state (20.3 to 20.5): Cul-de-sac mode changes none of it, and steps 1 and
2 count the start and no more in the log of starts. -/

namespace Sys2Proof.Machine

/-- The power block's own state is as it was. -/
def PwrKept (s t : State) : Prop := t.pwr = s.pwr

namespace PwrKept

variable {s t u : State}

theorem refl (s : State) : PwrKept s s := Eq.refl s.pwr

theorem trans (h : PwrKept s t) (h' : PwrKept t u) : PwrKept s u := Eq.trans h' h

theorem put (h : PwrKept s t) (f : Fld) (v : Nat) : PwrKept s (t.put f v) := (State.put_pwr t f v).trans h

theorem putb (h : PwrKept s t) (f : Fld) (b : Bool) : PwrKept s (t.putb f b) := (State.putb_pwr t f b).trans h

theorem wr (h : PwrKept s t) (a : Nat) (w : Word) : PwrKept s (t.wr a w) := (State.wr_pwr t a w).trans h

theorem raise (h : PwrKept s t) (src d : Nat) : PwrKept s (t.raise src d) := h

theorem raiseIf (h : PwrKept s t) (b : Bool) (src d : Nat) : PwrKept s (t.raiseIf b src d) := (State.raiseIf_pwr t b src d).trans h

theorem modAv (h : PwrKept s t) (n : Fin 4) (f : Avenue → Avenue) : PwrKept s (t.modAv n f) := (State.modAv_pwr t n f).trans h

theorem modSv (h : PwrKept s t) (n : Fin 4) (f : Servo → Servo) : PwrKept s (t.modSv n f) := (State.modSv_pwr t n f).trans h

theorem modSpn (h : PwrKept s t) (f : Spindle → Spindle) : PwrKept s (t.modSpn f) := (State.modSpn_pwr t f).trans h

theorem modCtl (h : PwrKept s t) (f : Nat) (g : Controller → Controller) : PwrKept s (t.modCtl f g) := h

theorem avenueOnly {n : Fin 4} (h : PwrKept s t) (h' : AvenueOnly n t u) : PwrKept s u := h.trans (h'.2 .pwr (by decide))

theorem ite {c : Prop} [Decidable c] (ht : PwrKept s t) (hu : PwrKept s u) : PwrKept s (if c then t else u) := by
  split
  · exact ht
  · exact hu

theorem foldl {α : Type} {f : State → α → State} (hf : ∀ u x, PwrKept u (f u x)) (h : PwrKept s t) (l : List α) :
    PwrKept s (l.foldl f t) := by
  induction l generalizing t with
  | nil => exact h
  | cons x l ih => exact ih (h.trans (hf t x))

/-! ### Blocks that are switched off (R34, R544) -/

theorem expect (h : PwrKept s t) (tds : List Nat) (b : Bool) : PwrKept s (t.expect tds b) :=
  h.foldl (fun u _ => (refl u).putb _ _) tds

theorem spnTo (h : PwrKept s t) (st : Nat) : PwrKept s (t.spnTo st) := by
  have hst := h.put SPN_STAT_STATE st
  have hready := ite (c := st = 2) hst ((hst.putb SPN_STAT_READY false).modSpn (fun p => { p with inBand := false }))
  exact putb (ite (hready.modSpn _) (ite (hready.modSpn _) hready)) _ _

theorem holdCheck (h : PwrKept s t) : PwrKept s t.holdCheck := ite (h.spnTo 4) h

theorem updateWinh (h : PwrKept s t) (n : Fin 4) : PwrKept s (t.updateWinh n) :=
  ite ((h.putb _ _).avenueOnly (.inhibit (.refl n _) 1)) (h.putb _ _)

theorem svTo (h : PwrKept s t) (n : Fin 4) (st : Nat) : PwrKept s (t.svTo n st) :=
  holdCheck (updateWinh (putb (ite ((h.put _ _).modSv n _) (h.put _ _)) _ _) n)

theorem dropReq (h : PwrKept s t) (n : Fin 4) : PwrKept s (t.dropReq n) :=
  ite (avenueOnly (modSv (raise (put h _ _) _ _) n _) (.endOp (.refl n _) 8)) h

theorem avenueOff (h : PwrKept s t) (n : Fin 4) : PwrKept s (t.avenueOff n) := by
  have hlane := h.avenueOnly (.dropGate (.laneTo (.put (.refl n t) (AV_TLCTL_EN n) (if false then 1 else 0)) 0))
  have hseq : PwrKept s ((((t.putb (AV_TLCTL_EN n) false).laneTo n 0).dropGate n).seqStopTo n 0) := ((hlane.put _ _).putb _ _).modAv n _
  exact (((((hseq.putb (SVO_CTL_EN n) false).dropReq n).svTo n 0).modAv n _)).expect _ false

theorem spindleOff (h : PwrKept s t) : PwrKept s t.spindleOff := ((h.putb SPN_CTL_EN false).spnTo 0).expect [24, 25] false

theorem dramOff (h : PwrKept s t) : PwrKept s t.dramOff := by
  unfold State.dramOff
  refine expect (put (putb (putb ?_ _ _) _ _) _ _) _ _
  exact h

theorem restrict (h : PwrKept s t) : PwrKept s t.restrict := by
  unfold State.restrict
  dsimp only
  refine ite (modCtl (modCtl (foldl (fun u f => ite (refl u) ((refl u).modCtl f _)) ?_ _) _ _) _ _)
    (modCtl (foldl (fun u f => ite (refl u) ((refl u).modCtl f _)) ?_ _) _ _)
  all_goals
    refine expect (put (put (putb (expect (dramOff (spindleOff ?_)) _ _) _ _) _ _) _ _) _ _
    exact h.foldl (fun u n => (refl u).avenueOff n) allAvs

/-- Cul-de-sac mode leaves the power block's own state (R544). -/
theorem culDeSac (h : PwrKept s t) (reason : Nat) : PwrKept s (t.culDeSac reason) := ((h.restrict.put _ _).put _ _).raise _ _

/-! ### Steps 1 and 2 of a start (Table 20-3) -/

theorem deriveKeys (h : PwrKept s t) : PwrKept s t.deriveKeys := by
  unfold State.deriveKeys
  split
  · refine ite h (putb ?_ _ _)
    exact h
  · exact h

theorem newNonce (h : PwrKept s t) : PwrKept s t.newNonce := by
  unfold State.newNonce
  refine foldl (fun u k => put ?_ _ _) h _
  exact refl u

theorem extend (h : PwrKept s t) (k : Nat) (v : List Byte) : PwrKept s (t.extend k v) := h

theorem record (h : PwrKept s t) (r : RecEntry) : PwrKept s (t.record r) := h.trans (record_untouched t r .pwr (by decide))

theorem recordType (h : PwrKept s t) (typ detail : Nat) : PwrKept s (t.recordType typ detail) := h.record _

theorem traceFill (h : PwrKept s t) : PwrKept s t.traceFill := h.put _ _

theorem recHeads (h : PwrKept s t) : PwrKept s t.recHeads := (h.put _ _).put _ _

theorem takeCommitted (h : PwrKept s t) : PwrKept s t.takeCommitted := by
  unfold State.takeCommitted
  refine put ?_ _ _
  exact h

theorem setRecd (h : PwrKept s t) (x : Recorder) : PwrKept s { t with recd := x } := h

theorem recorderStart (h : PwrKept s t) (ok : Bool) : PwrKept s (t.recorderStart ok) := by
  have hhdr := h.takeCommitted.putb REC_STAT_HDROK ok
  unfold State.recorderStart
  dsimp only
  split
  · exact hhdr
  · exact ((((hhdr.setRecd _).put _ _).putb _ _).traceFill.recHeads).recordType _ _

end PwrKept

/-- Steps 1 and 2 count the start in the log, and end the reset and deep standby. -/
theorem startFirst_pwr (s : State) (i : StartInput) : (s.startFirst i).pwr =
    { s.pwr with log := s.pwr.log.modify 0 (· + 1), inReset := false, deep := false } := by
  generalize hs₁ : ({ s with pwr := { s.pwr with log := s.pwr.log.modify 0 (· + 1), inReset := false, deep := false } } : State) = s₁
  have hpwr : s₁.pwr = { s.pwr with log := s.pwr.log.modify 0 (· + 1), inReset := false, deep := false } := by rw [← hs₁]
  suffices hk : PwrKept s₁ (s.startFirst i) from Eq.trans hk hpwr
  have hclk := fun v w n b c d e => ((((((((PwrKept.refl s₁).put HST_CTL_MODE v).put SPN_CEIL_MODE w).put REC_BOOT_BOOT n).putb
    PWR_AON_DSBY b).expect [29, 31, 36, 38, 39] true).expect [35] c).expect [26] d).expect [27] e |>.deriveKeys
  unfold State.startFirst
  rw [hs₁]
  dsimp only
  refine .put (.recorderStart (.extend (.extend (.extend (.ite (.newNonce (.putb (hclk ..) _ _)) ?_) _ _) _ _) _ _) _) _ _
  exact .raise (.put (.putb (hclk ..) _ _) _ _) _ _

/-- A start whose key records cannot be read adds to no more of the log than its first and its third entry (Table 20-6 reason 8). -/
theorem start_log_of_no_records (s : State) {i : StartInput} (h : i.recordsOk = false) :
    (s.start i).pwr.log = s.pwr.log.modify 0 (· + 1) ∨
    (s.start i).pwr.log = (s.pwr.log.modify 0 (· + 1)).modify 2 (· + 1) := by
  have hfirst : (s.startFirst i).pwr.log = s.pwr.log.modify 0 (· + 1) := congrArg Power.log (startFirst_pwr s i)
  generalize hs₁ : ((((s.startFirst i).put PWR_START_STEP 3).put PWR_START_STOP (s.startFirst i).stopKind).putb PWR_IMG_ACTIVE
    (s.startFirst i).pwr.active).putb PWR_IMG_LKG (s.startFirst i).pwr.lkg = s₁
  have hlog : s₁.pwr.log = s.pwr.log.modify 0 (· + 1) := by
    rw [← hfirst, ← hs₁]
    exact congrArg Power.log ((((PwrKept.refl (s.startFirst i)).put _ _).put _ _).putb _ _ |>.putb _ _)
  have hcds := fun t : State => congrArg Power.log (PwrKept.culDeSac (.refl t) 8)
  unfold State.start
  dsimp only
  rw [hs₁, if_pos (by rw [h]; rfl), hcds]
  split
  · exact .inr (congrArg (List.modify · 2 (· + 1)) hlog)
  · exact .inl hlog

/-- With an empty log no start is counted in it. -/
theorem start_log_of_empty {s : State} (hlog : s.pwr.log = []) {i : StartInput} (h : i.recordsOk = false) :
    (s.start i).pwr.log = [] := by
  rcases start_log_of_no_records s h with heq | heq <;> rw [heq, hlog] <;> rfl

/-- A state with no log is no state that a start leaves as the statements' `Started` has it: the log does not count the start. -/
theorem not_started_of_empty_log {s t : State} {i : StartInput} (hs : s.pwr.log = []) (ht : t.pwr.log = []) : ¬ Started i s t := by
  intro h
  obtain ⟨-, -, -, hcount, -⟩ := h
  rw [hs, ht] at hcount
  exact absurd hcount (by decide)

end Sys2Proof.Machine
end

section
/-! CERTIFICATE. The statement O57 fails where the log of starts is an empty list. -/

namespace Sys2Proof.Machine

/-- A start that finds its key records unreadable. -/
def noRecords : StartInput := ⟨false, false, false, false⟩

/-- A device in deep standby, PORST_N high, whose log of starts is empty. -/
def emptyLogStandby : State :=
  { State.reset with pwr := { freshPower with deep := true, porstLow := false, log := [] } }

theorem coldStart_log_of_empty {s : State} (hlog : s.pwr.log = []) (straps : Fin 16) {i : StartInput} (h : i.recordsOk = false) :
    (s.coldStart straps i).pwr.log = [] := by
  unfold State.coldStart
  refine start_log_of_empty ?_ h
  rw [State.raiseIf_pwr, State.wr_pwr]
  exact hlog

/-- WAKE_N falling in deep standby, with PORST_N high, starts the device (R537). -/
theorem deepStandbyWake_of_edge {s : State} (hd : s.pwr.deep = true) (hp : s.pwr.porstLow = false) (straps : Fin 16)
    (i : StartInput) : deepStandbyWake true straps i s =
      State.coldStart { s with pwr := { s.pwr with wakeSpent := false } } straps i := by
  simp [deepStandbyWake, hd, hp]

/-- Refutes O57: woken from deep standby with an empty log, the device starts and its log stays empty, so that the start is not
counted in the log as `Started` says. -/
theorem not_powerStatesAndMonitors : ¬ Obligations.PowerStatesAndMonitors := by
  intro h
  obtain ⟨-, -, -, -, -, -, -, hwake, -⟩ := h
  obtain ⟨t, ht, hstarted, -⟩ := (hwake emptyLogStandby true 0 noRecords).1 rfl rfl (.inr rfl)
  have hrun : exec (.deepStandbyWake true 0 noRecords) emptyLogStandby =
      .next (deepStandbyWake true 0 noRecords emptyLogStandby) := rfl
  obtain rfl := Host.Outcome.next.inj (hrun.symm.trans ht)
  rw [deepStandbyWake_of_edge rfl rfl] at hstarted
  exact not_started_of_empty_log rfl (coldStart_log_of_empty rfl 0 rfl) hstarted

end Sys2Proof.Machine
end

section
/-! SUPPORT. What a port event and the internal reset leave of the power block's own state (R361, R406). -/

namespace Sys2Proof.Machine

namespace PwrKept

variable {s t : State}

/-! ### Other parts replaced -/

theorem setBus (h : PwrKept s t) (x : Bus) : PwrKept s { t with bus := x } := h

theorem setRbt (h : PwrKept s t) (x : Roundabout) : PwrKept s { t with rbt := x } := h

theorem setArc (h : PwrKept s t) (x : Arcade) : PwrKept s { t with arc := x } := h

theorem setTgt (h : PwrKept s t) (x : Tollgate) : PwrKept s { t with tgt := x } := h

theorem setHost (h : PwrKept s t) (x : HostEngine) : PwrKept s { t with host := x } := h

theorem setFls (h : PwrKept s t) (x : Flash) : PwrKept s { t with fls := x } := h

theorem modSqr (h : PwrKept s t) (f : Square → Square) : PwrKept s (t.modSqr f) := (State.modSqr_pwr t f).trans h

/-! ### Resets of controllers and functions (R362 to R364) -/

theorem endRun (h : PwrKept s t) (tag : Nat) : PwrKept s (t.endRun tag) := by
  unfold State.endRun
  exact setArc h _

theorem dropCmd (h : PwrKept s t) (tag : Nat) : PwrKept s (t.dropCmd tag) := by
  unfold State.dropCmd
  exact modSqr (setRbt h _) _

theorem endEach (h : PwrKept s t) (l : List Cmd) : PwrKept s (l.foldl (fun t c => (t.endRun c.tag).dropCmd c.tag) t) :=
  foldl (fun u (c : Cmd) => dropCmd (endRun (refl u) c.tag) c.tag) h l

theorem endCommands (h : PwrKept s t) (f : Nat) : PwrKept s (t.endCommands f) := by
  have hended := h.endEach (t.rbt.cmds.filter (fun c => c.fn == f))
  unfold State.endCommands
  dsimp only
  generalize List.foldl _ t _ = u at hended ⊢
  exact setRbt hended _

theorem closeContexts (h : PwrKept s t) (f : Nat) : PwrKept s (t.closeContexts f) := by
  unfold State.closeContexts
  exact foldl (fun u c => (refl u).put _ _) (setArc h _) _

theorem closeWindow (h : PwrKept s t) : PwrKept s t.closeWindow := by
  unfold State.closeWindow
  exact ite (raise (setBus h _) _ _) h

theorem sessionRegs (h : PwrKept s t) : PwrKept s t.sessionRegs := by
  unfold State.sessionRegs
  split
  · exact put (put (putb (put h _ _) _ _) _ _) _ _
  · exact put (put (putb (put h _ _) _ _) _ _) _ _

theorem endSession (h : PwrKept s t) (f : Nat) : PwrKept s (t.endSession f) := by
  unfold State.endSession
  split
  · exact h
  · exact ite (ite (closeWindow (raise (sessionRegs (setTgt h _)) _ _)) (raise (sessionRegs (setTgt h _)) _ _))
      (sessionRegs (setTgt h _))

theorem resetCtl (h : PwrKept s t) (f : Nat) : PwrKept s (t.resetCtl f) := by
  unfold State.resetCtl
  exact raise (modCtl (endSession (closeContexts (endCommands h f) f) f) f _) _ _

theorem resetFn (h : PwrKept s t) (f : Nat) : PwrKept s (t.resetFn f) := by
  unfold State.resetFn
  exact ite (closeWindow (raise (modCtl (resetCtl h f) f _) _ _)) (raise (modCtl (resetCtl h f) f _) _ _)

/-! ### Port events (R361) -/

theorem resetPort (h : PwrKept s t) (p : Nat) : PwrKept s (t.portEvent p) := by
  unfold State.portEvent
  exact foldl (fun u f => modCtl (ite ((refl u).resetFn f) (refl u)) f _) (put h _ _) _

theorem portEvent (h : PwrKept s t) (p : Nat) (c : PortCause) : PwrKept s (Machine.portEvent p c t) := by
  have hdown := (((h.raiseIf (t.is (HST_PORT_UP p)) (2 * p + 1) 0).putb (HST_PORT_UP p) false).put (HST_PORT_RATE p) 0).put
    (HST_PORT_WIDTH p) 0
  unfold Machine.portEvent
  refine ite h (resetPort (setHost ?_ _) p)
  cases c with
  | linkDown => exact hdown
  | perst i => exact ((hdown.putb _ _).raise _ _).expect _ _
  | hotReset => exact h

/-! ### The flash store at an internal reset (R307, R322) -/

theorem modDie (h : PwrKept s t) (d : Nat) (f : FlashDie → FlashDie) : PwrKept s (t.modDie d f) := by
  unfold State.modDie
  exact put (put (putb (ite (setFls h _) (setFls h _)) _ _) _ _) _ _

theorem cutBlocks (h : PwrKept s t) (d : Nat) (j : FlashJob) : PwrKept s (t.cutBlocks d j) := by
  unfold State.cutBlocks
  exact ite h (foldl (fun u b => (refl u).modDie d _) h _)

theorem cutFlash (h : PwrKept s t) : PwrKept s t.cutFlash := by
  unfold State.cutFlash
  dsimp only
  have hcut := fun (u v : State) (hv : PwrKept u v) (l : List FlashJob) (d : Nat) (f : FlashDie → FlashDie) =>
    modDie (foldl (fun w j => (refl w).cutBlocks d j) hv l) d f
  exact setFls (hcut _ _ (hcut _ _ h _ 0 _) _ 1 _) _

end PwrKept

/-- Of the power block's own state, an internal reset keeps the log, the level of PORST_N and what its rise brought. -/
theorem internalReset_pwr (s : State) : s.internalReset.pwr.log = s.pwr.log ∧ s.internalReset.pwr.porstLow = s.pwr.porstLow ∧
    s.internalReset.pwr.risen = s.pwr.risen := by
  have hcut : s.cutFlash.pwr = s.pwr := PwrKept.cutFlash (.refl s)
  rw [← hcut]
  unfold State.internalReset
  dsimp only
  rw [State.raiseIf_pwr]
  generalize hbase : State.mk .. = base
  have hkept : (keptFields.foldl (fun t f => t.put f (s.cutFlash.get f)) base).pwr = base.pwr :=
    PwrKept.foldl (fun u f => (PwrKept.refl u).put f _) (.refl base) keptFields
  rw [hkept, ← hbase]
  exact ⟨rfl, rfl, rfl⟩

end Sys2Proof.Machine
end

section
/-! CERTIFICATE. The statement O36 fails where the log of starts is an empty list. -/

namespace Sys2Proof.Machine

/-- A device in Cul-de-sac mode that PERST_A_N is to start after a commit, PORST_N high, whose log of starts is empty. -/
def emptyLogCulDeSac : State :=
  { State.reset.put PWR_STATE_STATE 5 with pwr := { freshPower with restart := true, porstLow := false, log := [] } }

/-- With an empty log, PORST_N high and nothing that its rise brought, no start after a chip reset is counted in the log. -/
theorem chipReset_log_of_empty {s : State} (hlog : s.pwr.log = []) (hlow : s.pwr.porstLow = false) (hrisen : s.pwr.risen = none)
    {i : StartInput} (h : i.recordsOk = false) : (s.chipReset i).pwr.log = [] := by
  obtain ⟨hlog', hlow', hrisen'⟩ := internalReset_pwr s
  unfold State.chipReset State.startAfter
  rw [hlow', hlow, if_neg (by decide), hrisen', hrisen]
  exact start_log_of_empty (hlog'.trans hlog) h

/-- PERST_A_N in a restricted mode after a commit resets the device and starts it (R544). -/
theorem portEventStart_of_restart {s : State} (hres : s.restricted = true) (hcommit : s.pwr.restart = true) (i : StartInput) :
    portEventStart 0 (.perst i) s = (portEvent 0 (.perst i) s).chipReset i := by
  simp [portEventStart, hres, hcommit]

/-- Refutes O36: PERST_A_N falls in Cul-de-sac mode after a commit, the log being empty; the device starts and its log stays empty,
so that the start is not counted in the log as `Started` says. -/
theorem not_portsAndFunctions : ¬ Obligations.PortsAndFunctions := by
  intro h
  obtain ⟨-, hrestart, -⟩ := h
  have hres : emptyLogCulDeSac.restricted = true := by decide +kernel
  obtain ⟨t, ht, hstarted, -⟩ := hrestart emptyLogCulDeSac noRecords hres rfl rfl rfl
  have hrun : exec (.portEvent 0 (.perst noRecords)) emptyLogCulDeSac =
      .next (portEventStart 0 (.perst noRecords) emptyLogCulDeSac) := rfl
  obtain rfl := Host.Outcome.next.inj (hrun.symm.trans ht)
  have hkept : (portEvent 0 (.perst noRecords) emptyLogCulDeSac).pwr = emptyLogCulDeSac.pwr :=
    PwrKept.portEvent (.refl _) 0 (.perst noRecords)
  rw [portEventStart_of_restart hres rfl] at hstarted
  exact not_started_of_empty_log rfl (chipReset_log_of_empty (congrArg Power.log hkept) (congrArg Power.porstLow hkept)
    (congrArg Power.risen hkept) rfl) hstarted

end Sys2Proof.Machine
end

section
/-! SUPPORT. Lists of updates that each change words of their own, and an event raised after updates that raise nothing. -/

namespace Sys2Proof.Machine

variable {α : Type} {f : State → α → State}

/-- A list of updates changes no more words than they name. -/
theorem foldl_wordsBut {w : α → List Nat} (hf : ∀ t x, WordsBut (w x) t (f t x)) (l : List α) (s : State) :
    WordsBut (l.flatMap w) s (l.foldl f s) := by
  induction l generalizing s with
  | nil => exact .refl _ s
  | cons x l ih => exact ((hf s x).mono (by simp)).trans ((ih (f s x)).mono (by simp))

theorem foldl_untouched {ps : List Part} (hf : ∀ t x, Untouched ps t (f t x)) (l : List α) (s : State) :
    Untouched ps s (l.foldl f s) := by
  induction l generalizing s with
  | nil => exact .refl _ s
  | cons x l ih => exact (hf s x).trans (ih _)

/-- Where the updates' words are apart, those of one of them hold what it alone leaves there. -/
theorem foldl_rd_own {w : α → List Nat} (hf : ∀ t x, WordsBut (w x) t (f t x))
    (hw : ∀ x y, x ≠ y → ∀ a ∈ w x, a ∉ w y) {l : List α} (hl : l.Nodup) {x : α} (hx : x ∈ l) (s : State) :
    ∃ t : State, (∀ a ∈ w x, t.rd a = s.rd a) ∧ ∀ a ∈ w x, (l.foldl f s).rd a = (f t x).rd a := by
  obtain ⟨l₁, l₂, rfl⟩ := List.append_of_mem hx
  obtain ⟨-, hcons, hdisj⟩ := List.nodup_append.1 hl
  have hapart : ∀ m : List α, x ∉ m → ∀ a ∈ w x, a ∉ m.flatMap w := fun m hm a ha hmem => by
    obtain ⟨y, hy, hay⟩ := List.mem_flatMap.1 hmem
    exact hw x y (fun e => hm (e ▸ hy)) a ha hay
  refine ⟨l₁.foldl f s, fun a ha => ?_, fun a ha => ?_⟩
  · exact foldl_wordsBut hf l₁ s a (hapart l₁ (fun h => hdisj x h x (List.mem_cons_self ..) rfl) a ha)
  · rw [List.foldl_append, List.foldl_cons]
    exact foldl_wordsBut hf l₂ _ a (hapart l₂ (List.nodup_cons.1 hcons).1 a ha)

/-- An event raised after updates that neither raise one nor move the time is the only one added. -/
theorem raised1_of_untouched {ps : List Part} {s t : State} (h : Untouched ps s t) (hf : .flt ∉ ps) (ht : .tim ∉ ps)
    (src d : Nat) : Raised1 src d s (t.raise src d) := by
  have hflt : t.flt = s.flt := h .flt hf
  have htim : t.time = s.time := congrArg (fun x => x.now.toNat) (h .tim ht)
  unfold Raised1
  rw [State.raise_flt, hflt, htim]

theorem avn_of_av_eq {s t : State} (h : t.av = s.av) (n : Fin 4) : t.avn n = s.avn n := congrArg (Quad.get · n) h

end Sys2Proof.Machine
end

section
/-! SUPPORT AND CERTIFICATE. FORMAT_APPLY (R63, R64): the status words of the zones, and the statement O11. -/

namespace Sys2Proof.Machine

/-! ### The status words of the zones (Table 2-14) -/

/-- The status words of a zone. -/
def zoneWords (n : Fin 4) (z : Nat) : List Nat := [AV_ZONESTAT n z, AV_ZONEUSE n z]

theorem zoneWords_apart (n : Fin 4) (x y : Nat) (h : x ≠ y) : ∀ a ∈ zoneWords n x, a ∉ zoneWords n y := by
  simp only [zoneWords, AV_ZONESTAT, AV_ZONEUSE, List.mem_cons, List.not_mem_nil, or_false]
  omega

/-- The registers of the framing's result lie apart from the status words of every zone. -/
theorem fmt_not_zoneWord (n : Fin 4) (z : Nat) : ∀ a ∈ zoneWords n z, a ≠ AV_FMTCTL n ∧ a ≠ AV_FMTSTAT n := by
  simp only [zoneWords, AV_ZONESTAT, AV_ZONEUSE, AV_FMTCTL, AV_FMTSTAT, List.mem_cons, List.not_mem_nil, or_false]
  omega

theorem clearZone_wordsBut (n : Fin 4) (s : State) (z : Nat) : WordsBut (zoneWords n z) s (clearZone n s z) :=
  .trans (.mono (wr_wordsBut s _ 0) (by simp [zoneWords])) (.mono (wr_wordsBut _ _ 0) (by simp [zoneWords]))

theorem clearZone_rd (n : Fin 4) (s : State) (z : Nat) : ∀ a ∈ zoneWords n z, (clearZone n s z).rd a = 0 := by
  have hne : AV_ZONESTAT n z ≠ AV_ZONEUSE n z := by simp only [AV_ZONESTAT, AV_ZONEUSE]; omega
  intro a ha
  rcases List.mem_pair.1 ha with rfl | rfl
  · exact (State.rd_wr_of_ne _ 0 hne).trans (State.rd_wr_self ..)
  · exact State.rd_wr_self ..

theorem clearZone_untouched (n : Fin 4) (s : State) (z : Nat) : Untouched [.regs] s (clearZone n s z) :=
  (Untouched.setRegs s _).trans (.setRegs _ _)

theorem showZone_wordsBut (n : Fin 4) (s : State) (p : Nat × ZoneLay) : WordsBut (zoneWords n p.1) s (showZone n s p) := by
  unfold showZone
  dsimp only
  have hstat : AV_ZONESTAT n p.1 ∈ zoneWords n p.1 := by simp [zoneWords]
  have huse : AV_ZONEUSE n p.1 ∈ zoneWords n p.1 := by simp [zoneWords]
  split
  · exact (((((WordsBut.refl _ s).put hstat _).put hstat _).put hstat _).put hstat _ |>.put huse _).put huse _
  · exact .refl _ s

theorem showZone_untouched (n : Fin 4) (s : State) (p : Nat × ZoneLay) : Untouched [.regs] s (showZone n s p) := by
  unfold showZone
  dsimp only
  split
  · exact (((((Untouched.refl _ s).put (by simp) _ _).put (by simp) _ _).put (by simp) _ _).put (by simp) _ _
      |>.put (by simp) _ _).put (by simp) _ _
  · exact .refl _ s

theorem showZone_of_invalid (n : Fin 4) (s : State) (z : Nat) {l : ZoneLay} (h : l.valid = false) : showZone n s (z, l) = s := by
  simp [showZone, h]

/-- What the status words of a zone with a layout show. -/
theorem showZone_of_valid (n : Fin 4) (s : State) (z : Nat) {l : ZoneLay} (h : l.valid = true) :
    (showZone n s (z, l)).get (AV_ZONESTAT_VALID n z) = 1 ∧
    (showZone n s (z, l)).get (AV_ZONESTAT_SPT n z) = l.spt % 2 ^ (AV_ZONESTAT_SPT n z).wid ∧
    (showZone n s (z, l)).get (AV_ZONESTAT_SPLITS n z) = l.splits % 2 ^ (AV_ZONESTAT_SPLITS n z).wid ∧
    (showZone n s (z, l)).get (AV_ZONESTAT_GAPS n z) = l.gaps % 2 ^ (AV_ZONESTAT_GAPS n z).wid := by
  simp (disch := (simp only [AV_ZONEUSE_USPT, AV_ZONEUSE_TAIL, AV_ZONEUSE, AV_ZONESTAT_VALID, AV_ZONESTAT_SPT, AV_ZONESTAT_SPLITS,
    AV_ZONESTAT_GAPS, AV_ZONESTAT]; omega)) only [showZone, h, if_true, State.get_put_elsewhere, State.get_put_self, and_true]
  rfl

/-- The status words of all 32 zones, cleared. -/
theorem clearZones_rd (n : Fin 4) (s : State) {z : Nat} (hz : z < 32) :
    ∀ a ∈ zoneWords n z, ((List.range 32).foldl (clearZone n) s).rd a = 0 := by
  obtain ⟨t, -, h⟩ := foldl_rd_own (clearZone_wordsBut n) (zoneWords_apart n) List.nodup_range (List.mem_range.2 hz) s
  exact fun a ha => (h a ha).trans (clearZone_rd n t z a ha)

theorem clearZones_wordsBut (n : Fin 4) (s : State) : WordsBut ((List.range 32).flatMap (zoneWords n)) s
    ((List.range 32).foldl (clearZone n) s) := foldl_wordsBut (clearZone_wordsBut n) _ s

theorem clearZones_untouched (n : Fin 4) (s : State) : Untouched [.regs] s ((List.range 32).foldl (clearZone n) s) :=
  foldl_untouched (clearZone_untouched n) _ s

/-- A word of the framing's result is as it was where the zones' words alone have changed. -/
theorem rd_fmt_of_zoneWords {n : Fin 4} {s t : State} (h : WordsBut ((List.range 32).flatMap (zoneWords n)) s t) :
    t.rd (AV_FMTCTL n) = s.rd (AV_FMTCTL n) ∧ t.rd (AV_FMTSTAT n) = s.rd (AV_FMTSTAT n) := by
  refine ⟨h _ fun hm => ?_, h _ fun hm => ?_⟩
  · obtain ⟨z, -, hz⟩ := List.mem_flatMap.1 hm
    exact (fmt_not_zoneWord n z _ hz).1 rfl
  · obtain ⟨z, -, hz⟩ := List.mem_flatMap.1 hm
    exact (fmt_not_zoneWord n z _ hz).2 rfl

/-! ### A layout in force (R63) -/

/-- The framing of zone `z` in a new layout. -/
def State.newZone (s : State) (n : Fin 4) (z : Nat) : ZoneLay :=
  if (s.fullZones n).contains z then s.zoneLay n z else ⟨s.zoneFirst n z, 0, 0, 0, 0, 0, 0, 0, false, false, 0, 0, 0, 0⟩

theorem newLayout_zip (s : State) (n : Fin 4) :
    (List.range 32).zip (s.newLayout n).zones = (List.range 32).map (fun z => (z, s.newZone n z)) := by
  have hzones : (s.newLayout n).zones = (List.range 32).map (s.newZone n) := rfl
  rw [hzones, List.map_prod_left_eq_zip]

/-- The zones' status words filled from the layout of `s`. -/
def showZones (n : Fin 4) (s t : State) : State := (List.range 32).foldl (fun u z => showZone n u (z, s.newZone n z)) t

theorem showZones_eq (n : Fin 4) (s t : State) : ((List.range 32).zip (s.newLayout n).zones).foldl (showZone n) t = showZones n s t := by
  rw [newLayout_zip, List.foldl_map, showZones]

theorem showZones_wordsBut (n : Fin 4) (s t : State) : WordsBut ((List.range 32).flatMap (zoneWords n)) t (showZones n s t) :=
  foldl_wordsBut (w := zoneWords n) (fun u z => showZone_wordsBut n u (z, s.newZone n z)) _ t

theorem showZones_untouched (n : Fin 4) (s t : State) : Untouched [.regs] t (showZones n s t) :=
  foldl_untouched (fun u z => showZone_untouched n u (z, s.newZone n z)) _ t

theorem showZones_rd (n : Fin 4) (s t : State) {z : Nat} (hz : z < 32) : ∃ u : State,
    (∀ a ∈ zoneWords n z, u.rd a = t.rd a) ∧
    ∀ a ∈ zoneWords n z, (showZones n s t).rd a = (showZone n u (z, s.newZone n z)).rd a :=
  foldl_rd_own (w := zoneWords n) (fun u z => showZone_wordsBut n u (z, s.newZone n z)) (zoneWords_apart n) List.nodup_range
    (List.mem_range.2 hz) t

/-- The zones' status words cleared and then filled from the layout of `s`. -/
def State.zonesShown (s : State) (n : Fin 4) : State := showZones n s ((List.range 32).foldl (clearZone n) s)

theorem zonesShown_wordsBut (s : State) (n : Fin 4) : WordsBut ((List.range 32).flatMap (zoneWords n)) s (s.zonesShown n) :=
  (clearZones_wordsBut n s).trans (showZones_wordsBut n s _)

theorem zonesShown_untouched (s : State) (n : Fin 4) : Untouched [.regs] s (s.zonesShown n) :=
  (clearZones_untouched n s).trans (showZones_untouched n s _)

theorem zonesShown_full {s : State} {n : Fin 4} {z : Nat} (hz : z < 32) (hfull : z ∈ s.fullZones n) :
    (s.zonesShown n).get (AV_ZONESTAT_VALID n z) = 1 ∧
    (s.zonesShown n).get (AV_ZONESTAT_SPT n z) = (s.zoneLay n z).spt % 2 ^ (AV_ZONESTAT_SPT n z).wid ∧
    (s.zonesShown n).get (AV_ZONESTAT_SPLITS n z) = (s.zoneLay n z).splits % 2 ^ (AV_ZONESTAT_SPLITS n z).wid ∧
    (s.zonesShown n).get (AV_ZONESTAT_GAPS n z) = (s.zoneLay n z).gaps % 2 ^ (AV_ZONESTAT_GAPS n z).wid := by
  obtain ⟨u, -, hrd⟩ := showZones_rd n s ((List.range 32).foldl (clearZone n) s) hz
  have hget : ∀ f : Fld, f.addr = AV_ZONESTAT n z → (s.zonesShown n).get f = (showZone n u (z, s.newZone n z)).get f :=
    fun f hf => State.get_of_rd_eq (hf ▸ hrd (AV_ZONESTAT n z) (by simp [zoneWords]))
  have hzone : s.newZone n z = s.zoneLay n z := if_pos (by simpa using hfull)
  have hshow := showZone_of_valid n u z (show (s.zoneLay n z).valid = true from rfl)
  rw [hget _ rfl, hget _ rfl, hget _ rfl, hget _ rfl, hzone]
  exact hshow

theorem zonesShown_empty {s : State} {n : Fin 4} {z : Nat} (hz : z < 32) (hempty : z ∉ s.fullZones n) :
    ∀ a ∈ zoneWords n z, (s.zonesShown n).rd a = 0 := by
  obtain ⟨u, hu, hrd⟩ := showZones_rd n s ((List.range 32).foldl (clearZone n) s) hz
  have hzone : (s.newZone n z).valid = false := by rw [State.newZone, if_neg (by simpa using hempty)]
  intro a ha
  calc (s.zonesShown n).rd a = u.rd a := (hrd a ha).trans (by rw [showZone_of_invalid n u z hzone])
    _ = 0 := (hu a ha).trans (clearZones_rd n s hz a ha)

/-- The state with CODE and ZONE of FMTSTAT shown (Table 2-14). -/
def State.fmtStat (s : State) (n : Fin 4) (code z : Nat) : State := (s.put (AV_FMTSTAT_CODE n) code).put (AV_FMTSTAT_ZONE n) z

theorem fmtStat_get (s : State) (n : Fin 4) {code z : Nat} (hcode : code < 8) (hz : z < 32) :
    (s.fmtStat n code z).get (AV_FMTSTAT_CODE n) = code ∧ (s.fmtStat n code z).get (AV_FMTSTAT_ZONE n) = z := by
  unfold State.fmtStat
  simp (disch := (simp only [AV_FMTSTAT_CODE, AV_FMTSTAT_ZONE, AV_FMTSTAT]; omega)) only [State.get_put_elsewhere, State.get_put_self]
  exact ⟨Nat.mod_eq_of_lt hcode, Nat.mod_eq_of_lt hz⟩

theorem fmtStat_wordsBut (s : State) (n : Fin 4) (code z : Nat) : WordsBut [AV_FMTSTAT n] s (s.fmtStat n code z) :=
  ((WordsBut.refl _ s).put (f := AV_FMTSTAT_CODE n) (List.mem_singleton_self _) _).put (f := AV_FMTSTAT_ZONE n)
    (List.mem_singleton_self _) _

theorem fmtStat_untouched (s : State) (n : Fin 4) (code z : Nat) : Untouched [.regs] s (s.fmtStat n code z) :=
  ((Untouched.refl _ s).put (by simp) _ _).put (by simp) _ _

theorem fmtStat_fieldsBut (s : State) (n : Fin 4) (code z : Nat) :
    FieldsBut [AV_FMTSTAT_CODE n, AV_FMTSTAT_ZONE n] s (s.fmtStat n code z) :=
  .put (.put (.refl _ s) (List.mem_cons_self ..) code) (List.mem_cons_of_mem _ (List.mem_cons_self ..)) z

theorem fmtOk_wordsBut (s : State) (n : Fin 4) (v : Nat) : WordsBut [AV_FMTCTL n] s (s.put (AV_FMTCTL_OK n) v) :=
  (WordsBut.refl _ s).put (f := AV_FMTCTL_OK n) (List.mem_singleton_self _) v

theorem fmtOk_get (s : State) (n : Fin 4) {v : Nat} (h : v < 2) : (s.put (AV_FMTCTL_OK n) v).get (AV_FMTCTL_OK n) = v :=
  (State.get_put_self s _ v (Nat.le_of_ble_eq_true rfl)).trans (Nat.mod_eq_of_lt h)

theorem AV_FMTCTL_ne_FMTSTAT (n : Fin 4) : AV_FMTCTL n ≠ AV_FMTSTAT n := by simp only [AV_FMTCTL, AV_FMTSTAT]; omega

/-- The registers after FORMAT_APPLY has put a layout in force. -/
def State.formatShown (s : State) (n : Fin 4) : State := ((s.zonesShown n).put (AV_FMTCTL_OK n) 1).fmtStat n 0 0

theorem formatShown_wordsBut (s : State) (n : Fin 4) :
    WordsBut [AV_FMTCTL n, AV_FMTSTAT n] (s.zonesShown n) (s.formatShown n) :=
  .trans (.mono (fmtOk_wordsBut _ n 1) (by simp)) (.mono (fmtStat_wordsBut _ n 0 0) (by simp))

theorem formatShown_untouched (s : State) (n : Fin 4) : Untouched [.regs] s (s.formatShown n) :=
  ((zonesShown_untouched s n).put (by simp) _ _).trans (fmtStat_untouched _ n 0 0)

theorem rd_formatShown_zoneWord (s : State) (n : Fin 4) {z a : Nat} (ha : a ∈ zoneWords n z) :
    (s.formatShown n).rd a = (s.zonesShown n).rd a :=
  formatShown_wordsBut s n a (by simpa using fmt_not_zoneWord n z a ha)

theorem formatShown_get_ok (s : State) (n : Fin 4) : (s.formatShown n).get (AV_FMTCTL_OK n) = 1 :=
  (State.get_of_rd_eq (f := AV_FMTCTL_OK n) (fmtStat_wordsBut _ n 0 0 (AV_FMTCTL n) (by simpa using AV_FMTCTL_ne_FMTSTAT n))).trans
    (fmtOk_get _ n (by decide))

theorem formatApply_of_ok {s : State} {n : Fin 4} (h : s.formatBroken n = none) : formatApply n s =
    (s.formatShown n).modAv n (fun a => { a with layout := some (s.newLayout n) }) := by
  unfold formatApply
  rw [h]
  dsimp only
  rw [showZones_eq]
  rfl

theorem formatOk_spec (s : State) (n : Fin 4) (h : s.formatBroken n = none) : ∃ t, exec (.formatApply n) s = .next t ∧
    t.get (AV_FMTCTL_OK n) = 1 ∧ t.get (AV_FMTSTAT_CODE n) = 0 ∧ t.get (AV_FMTSTAT_ZONE n) = 0 ∧
    t.avn n = { s.avn n with layout := some (s.newLayout n) } ∧
    (∀ z < 32, z ∈ s.fullZones n → t.get (AV_ZONESTAT_VALID n z) = 1 ∧
      t.get (AV_ZONESTAT_SPT n z) = (s.zoneLay n z).spt % 2 ^ (AV_ZONESTAT_SPT n z).wid ∧
      t.get (AV_ZONESTAT_SPLITS n z) = (s.zoneLay n z).splits % 2 ^ (AV_ZONESTAT_SPLITS n z).wid ∧
      t.get (AV_ZONESTAT_GAPS n z) = (s.zoneLay n z).gaps % 2 ^ (AV_ZONESTAT_GAPS n z).wid) ∧
    (∀ z < 32, z ∉ s.fullZones n → t.rd (AV_ZONESTAT n z) = 0 ∧ t.rd (AV_ZONEUSE n z) = 0) ∧
    WordsBut (AV_FMTCTL n :: AV_FMTSTAT n :: (List.range 32).flatMap (zoneWords n)) s t ∧
    OtherAvenues n s t ∧ Untouched [.regs, .av] s t := by
  refine ⟨formatApply n s, rfl, ?_⟩
  generalize ht : formatApply n s = t
  rw [formatApply_of_ok h] at ht
  have hregs : t.regs = (s.formatShown n).regs := by rw [← ht, State.modAv_regs]
  have hav : (s.formatShown n).av = s.av := formatShown_untouched s n .av (by decide)
  have hzw : ∀ z, ∀ a ∈ zoneWords n z, t.rd a = (s.zonesShown n).rd a := fun z a ha =>
    (State.rd_of_regs_eq hregs a).trans (rd_formatShown_zoneWord s n ha)
  obtain ⟨hcode, hzone⟩ := fmtStat_get ((s.zonesShown n).put (AV_FMTCTL_OK n) 1) n (by decide : 0 < 8) (by decide : 0 < 32)
  refine ⟨(State.get_of_regs_eq hregs _).trans (formatShown_get_ok s n), (State.get_of_regs_eq hregs _).trans hcode,
    (State.get_of_regs_eq hregs _).trans hzone, ?_, fun z hz hfull => ?_, fun z hz hempty => ⟨?_, ?_⟩, ?_, ?_, ?_⟩
  · rw [← ht, State.avn_modAv_self, avn_of_av_eq hav]
  · have hget : ∀ f : Fld, f.addr = AV_ZONESTAT n z → t.get f = (s.zonesShown n).get f :=
      fun f hf => State.get_of_rd_eq (hf ▸ hzw z _ (List.mem_cons_self ..))
    rw [hget (AV_ZONESTAT_VALID n z) rfl, hget (AV_ZONESTAT_SPT n z) rfl, hget (AV_ZONESTAT_SPLITS n z) rfl,
      hget (AV_ZONESTAT_GAPS n z) rfl]
    exact zonesShown_full hz hfull
  · exact (hzw z _ (by simp [zoneWords])).trans (zonesShown_empty hz hempty _ (by simp [zoneWords]))
  · exact (hzw z _ (by simp [zoneWords])).trans (zonesShown_empty hz hempty _ (by simp [zoneWords]))
  · exact (WordsBut.trans (.mono (zonesShown_wordsBut s n) (by simp)) (.mono (formatShown_wordsBut s n) (by simp))).of_regs_eq hregs
  · rw [← ht]
    exact (OtherAvenues.of_av_eq (.refl n s) hav).modAv _
  · rw [← ht]
    exact ((formatShown_untouched s n).mono (by simp)).modAv (by simp) n _

/-! ### A layout refused (R64) -/

/-- The rule that a refusal names is one of seven, and its zone one of 32 (Table 2-1). -/
theorem formatBroken_lt {s : State} {n : Fin 4} {code z : Nat} (h : s.formatBroken n = some (code, z)) : code < 8 ∧ z < 32 := by
  unfold State.formatBroken at h
  split at h
  · cases h; decide
  · split at h
    · cases h; decide
    · obtain ⟨r, hr, hfind⟩ := List.exists_of_findSome?_eq_some h
      obtain ⟨y, hy, he⟩ := Option.map_eq_some_iff.1 hfind
      obtain ⟨rfl, rfl⟩ := Prod.mk.inj he
      have hfull : y ∈ s.fullZones n := List.mem_of_find?_eq_some hy
      refine ⟨?_, List.mem_range.1 (List.mem_filter.1 hfull).1⟩
      simp only [List.mem_cons, List.not_mem_nil, or_false] at hr
      rcases hr with rfl | rfl | rfl | rfl | rfl <;> exact Nat.le_of_ble_eq_true rfl

/-- The state with no layout shown in force and the rule broken named. -/
def State.formatCleared (s : State) (n : Fin 4) (code z : Nat) : State :=
  (List.range 32).foldl (clearZone n) ((s.fmtStat n code z).put (AV_FMTCTL_OK n) 0)

theorem formatCleared_untouched (s : State) (n : Fin 4) (code z : Nat) : Untouched [.regs] s (s.formatCleared n code z) :=
  ((fmtStat_untouched s n code z).put (by simp) _ _).trans (clearZones_untouched n _)

theorem formatCleared_get (s : State) (n : Fin 4) {code z : Nat} (hcode : code < 8) (hz : z < 32) :
    (s.formatCleared n code z).get (AV_FMTCTL_OK n) = 0 ∧ (s.formatCleared n code z).get (AV_FMTSTAT_CODE n) = code ∧
    (s.formatCleared n code z).get (AV_FMTSTAT_ZONE n) = z := by
  obtain ⟨hctl, hstat⟩ := rd_fmt_of_zoneWords (clearZones_wordsBut n ((s.fmtStat n code z).put (AV_FMTCTL_OK n) 0))
  have hok : ((s.fmtStat n code z).put (AV_FMTCTL_OK n) 0).rd (AV_FMTSTAT n) = (s.fmtStat n code z).rd (AV_FMTSTAT n) :=
    fmtOk_wordsBut _ n 0 _ (by simpa using (AV_FMTCTL_ne_FMTSTAT n).symm)
  obtain ⟨hc, hzone⟩ := fmtStat_get s n hcode hz
  exact ⟨(State.get_of_rd_eq (f := AV_FMTCTL_OK n) hctl).trans (fmtOk_get _ n (by decide)),
    (State.get_of_rd_eq (f := AV_FMTSTAT_CODE n) (hstat.trans hok)).trans hc,
    (State.get_of_rd_eq (f := AV_FMTSTAT_ZONE n) (hstat.trans hok)).trans hzone⟩

theorem formatApply_of_broken {s : State} {n : Fin 4} {code z : Nat} (h : s.formatBroken n = some (code, z)) (hne : code ≠ 1) :
    formatApply n s = ((s.formatCleared n code z).modAv n (fun a => { a with layout := none })).raise (avSrc n 24) := by
  unfold formatApply
  rw [h]
  dsimp only
  rw [if_neg hne]
  rfl

theorem formatRefused_spec (s : State) (n : Fin 4) (code z : Nat) (h : s.formatBroken n = some (code, z)) (hne : code ≠ 1) :
    ∃ t, exec (.formatApply n) s = .next t ∧ t.get (AV_FMTCTL_OK n) = 0 ∧ t.get (AV_FMTSTAT_CODE n) = code ∧
      t.get (AV_FMTSTAT_ZONE n) = z ∧ t.avn n = { s.avn n with layout := none } ∧
      (∀ y < 32, t.rd (AV_ZONESTAT n y) = 0 ∧ t.rd (AV_ZONEUSE n y) = 0) ∧ Raised1 (428 + 96 * n.val + 24) 0 s t ∧
      OtherAvenues n s t ∧ Untouched [.regs, .av, .flt] s t := by
  refine ⟨formatApply n s, rfl, ?_⟩
  generalize ht : formatApply n s = t
  rw [formatApply_of_broken h hne] at ht
  obtain ⟨hlt, hzlt⟩ := formatBroken_lt h
  obtain ⟨hok, hcode, hzone⟩ := formatCleared_get s n hlt hzlt
  have hregs : t.regs = (s.formatCleared n code z).regs := by rw [← ht, State.raise_regs, State.modAv_regs]
  have hav : (s.formatCleared n code z).av = s.av := formatCleared_untouched s n code z .av (by decide)
  have hu : Untouched [.regs, .av] s ((s.formatCleared n code z).modAv n (fun a => { a with layout := none })) :=
    ((formatCleared_untouched s n code z).mono (by simp)).modAv (by simp) n _
  have hzero : ∀ y < 32, ∀ a ∈ zoneWords n y, t.rd a = 0 := fun y hy a ha =>
    (State.rd_of_regs_eq hregs a).trans (clearZones_rd n _ hy a ha)
  refine ⟨(State.get_of_regs_eq hregs _).trans hok, (State.get_of_regs_eq hregs _).trans hcode,
    (State.get_of_regs_eq hregs _).trans hzone, ?_, fun y hy => ⟨?_, ?_⟩, ?_, ?_, ?_⟩
  · rw [← ht, State.avn_raise, State.avn_modAv_self, avn_of_av_eq hav]
  · exact hzero y hy _ (by simp [zoneWords])
  · exact hzero y hy _ (by simp [zoneWords])
  · exact ht ▸ raised1_of_untouched hu (by simp) (by simp) _ _
  · exact ht ▸ ((OtherAvenues.of_av_eq (.refl n s) hav).modAv _).raise _ _
  · exact ht ▸ (hu.mono (by simp)).raise (by simp) _ _

theorem formatApply_of_busy {s : State} {n : Fin 4} (h : s.mediaBusy n = true) :
    formatApply n s = (s.fmtStat n 1 0).raise (avSrc n 24) := by
  have hb : s.formatBroken n = some (1, 0) := by rw [State.formatBroken, if_pos h]
  unfold formatApply
  rw [hb]
  rfl

theorem formatBusy_spec (s : State) (n : Fin 4) (h : s.mediaBusy n = true) : ∃ t, exec (.formatApply n) s = .next t ∧
    t.get (AV_FMTSTAT_CODE n) = 1 ∧ Raised1 (428 + 96 * n.val + 24) 0 s t ∧
    Frame [AV_FMTSTAT_CODE n, AV_FMTSTAT_ZONE n] [.regs, .flt] s t := by
  refine ⟨formatApply n s, rfl, ?_⟩
  rw [formatApply_of_busy h]
  refine ⟨?_, ?_, ?_, ?_⟩
  · exact (State.get_raise ..).trans (fmtStat_get s n (by decide) (by decide)).1
  · exact raised1_of_untouched (fmtStat_untouched s n 1 0) (by simp) (by simp) _ _
  · exact (fmtStat_fieldsBut s n 1 0).of_regs_eq (State.raise_regs ..)
  · exact ((fmtStat_untouched s n 1 0).mono (by simp)).raise (by simp) _ _

/-- Settles O11: a layout in force by the zones' words cleared and filled, a refusal by the words cleared alone, and a busy Avenue by
FMTSTAT alone. -/
theorem formatApply_applies_or_refuses : Obligations.FormatApply := ⟨formatOk_spec, formatRefused_spec, formatBusy_spec⟩

end Sys2Proof.Machine
end

section
/-! CERTIFICATE. The statement O55 fails where the log of starts is an empty list. -/

namespace Sys2Proof.Machine

/-- A device at step 5 of a start whose steps are limited, the recorder off, PORST_N high, and the log of starts empty. -/
def emptyLogStart : State :=
  { ((State.reset.put PWR_START_STEP 5).put PWR_START_STEPLIM 1).put REC_CTL_EN 0 with
    pwr := { freshPower with inReset := false, porstLow := false, risen := none, log := [] } }

/-- A step past its limit raises source 1139 and resets the chip (R540). -/
theorem startStepLimit_of_past {s : State} (hreset : s.pwr.inReset = false) (hres : s.restricted = false)
    (hstep : s.get PWR_START_STEP ≠ 0) (hlim : s.get PWR_START_STEPLIM ≠ 0) (i : StartInput) :
    startStepLimit i s = (s.handleEvent ⟨1139, s.time, 0, false⟩ false).chipReset i := by
  simp [startStepLimit, hreset, hres, hstep, hlim]

/-- The state meets what the statement asks of a step past its limit. -/
theorem emptyLogStart_past : emptyLogStart.restricted = false ∧ emptyLogStart.get PWR_START_STEP ≠ 0 ∧
    emptyLogStart.get PWR_START_STEPLIM ≠ 0 ∧ emptyLogStart.get REC_CTL_EN = 0 := by decide +kernel

/-- The collector's handling of the event leaves the log empty and PORST_N as it was. -/
theorem emptyLogStart_handled : (emptyLogStart.handleEvent ⟨1139, 0, 0, false⟩ false).pwr = emptyLogStart.pwr := by
  decide +kernel

/-- Refutes O55: with an empty log a step past its limit starts the device, and its log stays empty, so that the start is not counted
in the log as `Started` says. -/
theorem not_startSteps : ¬ Obligations.StartSteps := by
  intro h
  obtain ⟨-, -, -, hlimit, -⟩ := h
  obtain ⟨hres, hstep, hlim, hrec⟩ := emptyLogStart_past
  obtain ⟨t, ht, hstarted, -⟩ := hlimit emptyLogStart noRecords rfl hres hstep hlim hrec rfl rfl
  have hrun : exec (.startStepLimit noRecords) emptyLogStart = .next (startStepLimit noRecords emptyLogStart) := rfl
  obtain rfl := Host.Outcome.next.inj (hrun.symm.trans ht)
  have hpwr := emptyLogStart_handled
  rw [startStepLimit_of_past rfl hres hstep hlim] at hstarted
  exact not_started_of_empty_log rfl (chipReset_log_of_empty (congrArg Power.log hpwr) (congrArg Power.porstLow hpwr)
    (congrArg Power.risen hpwr) rfl) hstarted

end Sys2Proof.Machine
end

section
/-! SUPPORT. A change of one Avenue or of its sequencer alone, and the opening of an operation (R174). -/

namespace Sys2Proof.Machine

/-! ### One Avenue changed -/

theorem modAv_only (s : State) (n : Fin 4) (f : Avenue → Avenue) :
    (s.modAv n f).avn n = f (s.avn n) ∧ OtherAvenues n s (s.modAv n f) ∧ Untouched [.av] s (s.modAv n f) :=
  ⟨State.avn_modAv_self .., (OtherAvenues.refl n s).modAv f, (Untouched.refl _ s).modAv (by simp) n f⟩

theorem modSeq_only (s : State) (n : Fin 4) (f : Seq → Seq) : (s.modSeq n f).avn n = { s.avn n with seq := f (s.seq n) } ∧
    OtherAvenues n s (s.modSeq n f) ∧ Untouched [.av] s (s.modSeq n f) := modAv_only s n _

@[simp] theorem State.seq_modSeq_self (s : State) (n : Fin 4) (f : Seq → Seq) : (s.modSeq n f).seq n = f (s.seq n) :=
  congrArg Avenue.seq (modSeq_only s n f).1

/-- An open operation that has not ended takes the status, and its arms are discarded. -/
theorem endOp_of_open {s : State} {n : Fin 4} {o : MediaOp} (hop : (s.seq n).op = some o) (h0 : o.ended = 0) (st : Nat) :
    s.endOp n st = s.modSeq n (fun q => { q with op := some { o with ended := st }, arms := [] }) := by
  simp only [State.endOp, hop, h0, if_true]

theorem endOp_only {s : State} {n : Fin 4} {o : MediaOp} (hop : (s.seq n).op = some o) (h0 : o.ended = 0) (st : Nat) :
    (s.endOp n st).avn n = { s.avn n with seq := { s.seq n with op := some { o with ended := st }, arms := [] } } ∧
    OtherAvenues n s (s.endOp n st) ∧ Untouched [.av] s (s.endOp n st) := by
  rw [endOp_of_open hop h0]
  exact modSeq_only s n _

/-- An operation that ends with an event: of the Avenue, no more than the operation and its arms have changed. -/
theorem endOp_raise_only {s : State} {n : Fin 4} {o : MediaOp} (hop : (s.seq n).op = some o) (h0 : o.ended = 0) (st src : Nat) :
    ((s.endOp n st).raise src).avn n = { s.avn n with seq := { s.seq n with op := some { o with ended := st }, arms := [] } } ∧
    Raised1 src 0 s ((s.endOp n st).raise src) ∧ OtherAvenues n s ((s.endOp n st).raise src) ∧
    Untouched [.av, .flt] s ((s.endOp n st).raise src) := by
  obtain ⟨havn, hother, hu⟩ := endOp_only hop h0 st
  exact ⟨(State.avn_raise ..).trans havn, raised1_of_untouched hu (by simp) (by simp) _ _, hother.raise _ _,
    (hu.mono (by simp)).raise (by simp) _ _⟩

/-! ### Opening an operation (R174) -/

/-- The cylinder, the face and the zone that the current entry names. -/
def State.entryCyl (s : State) (n : Fin 4) : Nat := bitsOf (entryWord (s.seq n).entry 1) 10 22
def State.entryFace (s : State) (n : Fin 4) : Nat := bitsOf (entryWord (s.seq n).entry 1) 7 3
def State.entryZone (s : State) (n : Fin 4) : Nat := s.zoneOfCyl n (s.entryCyl n)

/-- The status of the current entry's checks. -/
def State.openStatus (s : State) (n : Fin 4) : Nat := s.openCheck n (s.entryZone n) (entrySlips (s.seq n).entry).length

/-- The operation that OPEN makes of the current entry. -/
def State.openOp (s : State) (n : Fin 4) : MediaOp :=
  { cyl := s.entryCyl n, face := s.entryFace n, zone := s.entryZone n, slips := entrySlips (s.seq n).entry
    opcode := entryOpcode (s.seq n).entry, ctx := entryCtx (s.seq n).entry, prepRead := false, prepWrite := false, taken := false
    ended := s.openStatus n, laneLost := false, dsp := .zone, l4 := false, closing := false }

/-- The state with the operation open. -/
def State.opened (s : State) (n : Fin 4) : State := s.modSeq n (fun q => { q with op := some (s.openOp n) })

/-- The state with both readers at the start of the operation. -/
def State.readersOpened (s : State) (n : Fin 4) : State := (s.opened n).modAv n (fun a => { a with
  readers := (s.openReader n (s.entryFace n) (s.entryZone n) 0 a.readers.1, s.openReader n (s.entryFace n) (s.entryZone n) 1 a.readers.2) })

theorem settledOn_congr {s t : State} (hregs : t.regs = s.regs) (hsvo : t.svo = s.svo) (n : Fin 4) (cyl face : Nat) :
    t.settledOn n cyl face = s.settledOn n cyl face := by
  simp only [State.settledOn, State.svState, State.target, State.sv, State.get_of_regs_eq hregs, hsvo]

theorem opened_op (s : State) (n : Fin 4) : ((s.opened n).seq n).op = some (s.openOp n) :=
  congrArg Seq.op (State.seq_modSeq_self ..)

/-- OPEN's checks hold for an applied layout and table, a rate in range, no more slips than spares, and a lane that is not LOST. -/
theorem openCheck_of_good {s : State} {n : Fin 4} {z k : Nat} (hfmt : s.get (AV_FMTCTL_OK n) = 1) (hcode : s.get (AV_CODECTL_OK n) = 1)
    (hrate : s.rateOpen n z = true) (hslips : k ≤ (s.zoneNow n z).spares) (hlane : s.laneState n ≠ 5) : s.openCheck n z k = 0 := by
  simp [State.openCheck, State.is_of_get_one hfmt, State.is_of_get_one hcode, hrate, Nat.not_lt.2 hslips, hlane]

/-- The readers begin with the skew entries of the face and zone (R93, R96). -/
theorem readersOpened_reader (s : State) (n : Fin 4) (r : Fin 2) :
    ((s.readersOpened n).reader n r).skew = s.geti (AV_SKEW_SKEW n (s.entryFace n) r.val (s.entryZone n)) ∧
    ((s.readersOpened n).reader n r).acc = 0 ∧ ((s.readersOpened n).reader n r).stopped = false := by
  unfold State.reader State.readersOpened
  rw [State.avn_modAv_self]
  fin_cases r <;> exact ⟨rfl, rfl, rfl⟩

theorem readersOpened_op (s : State) (n : Fin 4) : ((s.readersOpened n).seq n).op = some (s.openOp n) := by
  unfold State.seq State.readersOpened
  rw [State.avn_modAv_self]
  exact opened_op s n

theorem readersOpened_only (s : State) (n : Fin 4) :
    OtherAvenues n s (s.readersOpened n) ∧ Untouched [.av] s (s.readersOpened n) := by
  obtain ⟨-, hother, hu⟩ := modSeq_only s n (fun q => { q with op := some (s.openOp n) })
  exact ⟨hother.modAv _, hu.modAv (by simp) n _⟩

section Open
variable {s : State} {n : Fin 4} (hop : (s.seq n).op = none)
include hop

theorem framerOpen_of_refused (h : s.openStatus n ≠ 0) :
    framerOpen n s = (s.opened n).raiseIf (s.openStatus n == 1) (avSrc n 25) := by
  unfold framerOpen
  rw [hop]
  exact if_pos h

theorem framerOpen_of_settled (h : s.openStatus n = 0) (hs : s.settledOn n (s.entryCyl n) (s.entryFace n) = true) :
    framerOpen n s = s.readersOpened n := by
  have hraise : (s.opened n).raiseIf (s.openStatus n == 1) (avSrc n 25) = s.opened n := by rw [h]; rfl
  unfold framerOpen
  rw [hop]
  refine (if_neg (not_not.2 h)).trans ((if_pos ?_).trans (congrArg (State.modAv · n _) hraise))
  refine (settledOn_congr ?_ ?_ n _ _).trans hs
  · rw [State.modAv_regs, State.raiseIf_regs]
    rfl
  · rw [State.modAv_svo, State.raiseIf_svo]
    rfl

theorem framerOpen_good_spec (h : s.openStatus n = 0) (hs : s.settledOn n (s.entryCyl n) (s.entryFace n) = true) :
    ∃ t o, exec (.framerOpen n) s = .next t ∧ (t.seq n).op = some o ∧ o.cyl = s.entryCyl n ∧ o.face = s.entryFace n ∧
      o.zone = s.entryZone n ∧ o.slips = entrySlips (s.seq n).entry ∧ o.ended = 0 ∧ o.taken = false ∧ o.prepRead = false ∧
      o.prepWrite = false ∧ (∀ r : Fin 2, (t.reader n r).skew = s.geti (AV_SKEW_SKEW n (s.entryFace n) r.val (s.entryZone n)) ∧
        (t.reader n r).acc = 0 ∧ (t.reader n r).stopped = false) ∧ OtherAvenues n s t ∧ Untouched [.av] s t := by
  refine ⟨framerOpen n s, s.openOp n, rfl, ?_⟩
  rw [framerOpen_of_settled hop h hs]
  exact ⟨readersOpened_op s n, rfl, rfl, rfl, rfl, h, rfl, rfl, rfl, readersOpened_reader s n, readersOpened_only s n⟩

theorem framerOpen_refused_spec (h0 : s.openStatus n ≠ 0) (h1 : s.openStatus n ≠ 1) :
    ∃ t o, exec (.framerOpen n) s = .next t ∧ (t.seq n).op = some o ∧ o.ended = s.openStatus n ∧ o.cyl = s.entryCyl n ∧
      o.face = s.entryFace n ∧ OtherAvenues n s t ∧ Untouched [.av] s t := by
  refine ⟨framerOpen n s, s.openOp n, rfl, ?_⟩
  rw [framerOpen_of_refused hop h0, beq_false_of_ne h1, State.raiseIf_false]
  exact ⟨opened_op s n, rfl, rfl, rfl, (modSeq_only s n _).2⟩

theorem framerOpen_rate_spec (h : s.openStatus n = 1) : ∃ t o, exec (.framerOpen n) s = .next t ∧ (t.seq n).op = some o ∧
    o.ended = 1 ∧ Raised1 (428 + 96 * n.val + 25) 0 s t ∧ OtherAvenues n s t ∧ Untouched [.av, .flt] s t := by
  refine ⟨framerOpen n s, s.openOp n, rfl, ?_⟩
  rw [framerOpen_of_refused hop (by omega), h]
  obtain ⟨-, hother, hu⟩ := modSeq_only s n (fun q => { q with op := some (s.openOp n) })
  exact ⟨opened_op s n, h, raised1_of_untouched hu (by simp) (by simp) _ _, hother.raise _ _, (hu.mono (by simp)).raise (by simp) _ _⟩

end Open

/-- OPEN with an operation open ends it with status 14 (R174). -/
theorem framerOpen_again_spec (s : State) (n : Fin 4) (o : MediaOp) (hop : (s.seq n).op = some o) (h0 : o.ended = 0) :
    ∃ t, exec (.framerOpen n) s = .next t ∧
      t.avn n = { s.avn n with seq := { s.seq n with op := some { o with ended := 14 }, arms := [] } } ∧
      OtherAvenues n s t ∧ Untouched [.av] s t := by
  refine ⟨framerOpen n s, rfl, ?_⟩
  have heq : framerOpen n s = s.endOp n 14 := by simp only [framerOpen, hop]
  rw [heq]
  exact endOp_only hop h0 14

theorem framerOpen_spec (s : State) (n : Fin 4) (hop : (s.seq n).op = none) :
    let e := (s.seq n).entry
    let cyl := (e.words.getD 1 0).toNat / 1024 % 2 ^ 22
    let face := (e.words.getD 1 0).toNat / 128 % 8
    let z := s.zoneOfCyl n cyl
    (s.get (AV_FMTCTL_OK n) = 1 → s.get (AV_CODECTL_OK n) = 1 → s.rateOpen n z = true →
      (entrySlips e).length ≤ (s.zoneNow n z).spares → s.laneState n ≠ 5 → s.settledOn n cyl face = true →
      ∃ t o, exec (.framerOpen n) s = .next t ∧ (t.seq n).op = some o ∧ o.cyl = cyl ∧ o.face = face ∧ o.zone = z ∧
        o.slips = entrySlips e ∧ o.ended = 0 ∧ o.taken = false ∧ o.prepRead = false ∧ o.prepWrite = false ∧
        (∀ r : Fin 2, (t.reader n r).skew = s.geti (AV_SKEW_SKEW n face r.val z) ∧ (t.reader n r).acc = 0 ∧
          (t.reader n r).stopped = false) ∧ OtherAvenues n s t ∧ Untouched [.av] s t) ∧
    (∀ st : Nat, s.openCheck n z (entrySlips e).length = st → st ≠ 0 → st ≠ 1 →
      ∃ t o, exec (.framerOpen n) s = .next t ∧ (t.seq n).op = some o ∧ o.ended = st ∧ o.cyl = cyl ∧ o.face = face ∧
        OtherAvenues n s t ∧ Untouched [.av] s t) ∧
    (s.openCheck n z (entrySlips e).length = 1 → ∃ t o, exec (.framerOpen n) s = .next t ∧ (t.seq n).op = some o ∧
      o.ended = 1 ∧ Raised1 (428 + 96 * n.val + 25) 0 s t ∧ OtherAvenues n s t ∧ Untouched [.av, .flt] s t) := by
  refine ⟨fun hfmt hcode hrate hslips hlane hs => framerOpen_good_spec hop (openCheck_of_good hfmt hcode hrate hslips hlane) hs,
    fun st hst h0 h1 => ?_, framerOpen_rate_spec hop⟩
  subst hst
  exact framerOpen_refused_spec hop h0 h1

end Sys2Proof.Machine
end

section
/-! SUPPORT. Arms (R153, R175, R176): where an arm is placed, and what joins the queue. -/

namespace Sys2Proof.Machine

/-! ### The occurrence that an arm takes (R175) -/

theorem ceilDiv_le_iff {a b r : Nat} (hb : 0 < b) : ceilDiv a b ≤ r ↔ a ≤ r * b := by
  have h : ceilDiv a b = a ⌈/⌉ b := (Nat.ceilDiv_eq_add_pred_div a b).symm
  rw [h, ceilDiv_le_iff_le_mul hb, Nat.mul_comm]

/-- `revAt` is the first number of revolutions that brings the place to `need` or after it. -/
theorem revAt_le_iff {bpr p need r : Nat} (hb : 0 < bpr) : revAt bpr p need ≤ r ↔ need ≤ r * bpr + p := by
  unfold revAt
  rw [ceilDiv_le_iff hb]
  omega

/-! ### Joining the queue (R175) -/

/-- The arm that joins the queue for a place on the track. -/
def State.newArm (s : State) (n : Fin 4) (o : MediaOp) (k : ArmKind) (slot bits : Nat) (p : Placed) : Arm :=
  let z := s.zoneNow n o.zone
  let r := revAt z.bpr p.start (max (armBefore (s.seq n)) (bits + 256 + s.armLead n z k o.l4))
  { kind := k, slot := slot, start := r * z.bpr + p.start, stop := r * z.bpr + p.stop, split := p.split, dsp := o.dsp, l4 := o.l4 }

/-- An arm joins with or without a count of LATE. -/
theorem joinArm_eq {s : State} {n : Fin 4} {o : MediaOp} {k : ArmKind} {slot bits : Nat} {p : Placed}
    (hp : (s.zoneNow n o.zone).slots[slot]? = some p) : ∃ late : Bool, joinArm n o k slot bits s =
      (if late then s.bump (AV_SEQCNT_LATE n) else s).modSeq n (fun q => { q with arms := q.arms ++ [s.newArm n o k slot bits p] }) := by
  unfold joinArm
  dsimp only
  rw [hp]
  exact ⟨_, rfl⟩

/-- A joined arm stands at the first occurrence that R175 allows. -/
theorem joinArm_joined {s : State} {n : Fin 4} {o : MediaOp} {k : ArmKind} {slot bits : Nat} (hb : 0 < (s.zoneNow n o.zone).bpr)
    (hslot : slot < (s.zoneNow n o.zone).slots.length) :
    ArmJoined n k o slot (max (armBefore (s.seq n)) (bits + 256 + s.armLead n (s.zoneNow n o.zone) k o.l4)) s (joinArm n o k slot bits s) ∧
    ((joinArm n o k slot bits s).seq n).op = (s.seq n).op ∧ OtherAvenues n s (joinArm n o k slot bits s) ∧
    Frame [AV_SEQCNT_LATE n] [.regs, .av] s (joinArm n o k slot bits s) := by
  obtain ⟨p, hp⟩ : ∃ p, (s.zoneNow n o.zone).slots[slot]? = some p := ⟨_, List.getElem?_eq_getElem hslot⟩
  obtain ⟨late, heq⟩ := joinArm_eq (k := k) (bits := bits) hp
  have hlate : FieldsBut [AV_SEQCNT_LATE n] s (if late then s.bump (AV_SEQCNT_LATE n) else s) ∧
      Untouched [.regs] s (if late then s.bump (AV_SEQCNT_LATE n) else s) := by
    cases late
    · exact ⟨.refl _ s, .refl _ s⟩
    · exact ⟨.put (.refl _ s) (by simp) _, .put (.refl _ s) (by simp) _ _⟩
  rw [heq]
  generalize (if late then s.bump (AV_SEQCNT_LATE n) else s) = s₁ at hlate ⊢
  obtain ⟨hf, hu⟩ := hlate
  have hav : s₁.av = s.av := hu .av (by decide)
  have hseq : s₁.seq n = s.seq n := congrArg Avenue.seq (avn_of_av_eq hav n)
  have hnew : (s₁.modSeq n (fun q => { q with arms := q.arms ++ [s.newArm n o k slot bits p] })).seq n =
      { s.seq n with arms := (s.seq n).arms ++ [s.newArm n o k slot bits p] } := by rw [State.seq_modSeq_self, hseq]
  refine ⟨⟨s.newArm n o k slot bits p, p, _, hp, congrArg Seq.arms hnew, rfl, rfl, rfl, rfl, rfl, rfl, rfl, ?_, fun r' hr => ?_⟩,
    (congrArg Seq.op hnew :), (OtherAvenues.of_av_eq (.refl n s) hav).modAv _, hf.of_regs_eq rfl, (hu.mono (by simp)).modAv (by simp) n _⟩
  · exact (revAt_le_iff hb).1 (Nat.le_refl _)
  · exact (revAt_le_iff hb).2 hr

/-- Joining is the same seen from a state with the same track and queue, for an operation with the same zone and settings. -/
theorem ArmJoined.congr {n : Fin 4} {k : ArmKind} {o o' : MediaOp} {slot need : Nat} {s s' t : State} (h : ArmJoined n k o' slot need s' t)
    (hzone : s'.zoneNow n o'.zone = s.zoneNow n o.zone) (harms : (s'.seq n).arms = (s.seq n).arms) (hdsp : o'.dsp = o.dsp)
    (hl4 : o'.l4 = o.l4) : ArmJoined n k o slot need s t := by
  unfold ArmJoined at h ⊢
  rwa [hzone, harms, hdsp, hl4] at h

/-! ### Taking a write (R153) -/

theorem takeWrite_of_clear {s : State} {n : Fin 4} {o : MediaOp} (hop : (s.seq n).op = some o) (h : o.taken = true ∨ s.causes n = 0) :
    (takeWrite n o s).avn n = { s.avn n with seq := { s.seq n with op := some { o with taken := true } } } ∧
    (takeWrite n o s).regs = s.regs ∧ OtherAvenues n s (takeWrite n o s) ∧ Untouched [.av] s (takeWrite n o s) := by
  cases ht : o.taken with
  | true =>
    have heq : takeWrite n o s = s := by simp [takeWrite, ht]
    have ho : { o with taken := true } = o := by rw [← ht]
    rw [heq, ho, ← hop]
    exact ⟨rfl, rfl, .refl n s, .refl _ s⟩
  | false =>
    have hc : s.causes n = 0 := h.resolve_left (by simp [ht])
    have heq : takeWrite n o s = s.modSeq n (fun q => { q with op := q.op.map (fun p => { p with taken := true }) }) := by
      simp [takeWrite, ht, hc, State.modOp]
    rw [heq]
    obtain ⟨havn, hother, hu⟩ := modSeq_only s n (fun q => { q with op := q.op.map (fun p => { p with taken := true }) })
    rw [hop] at havn
    exact ⟨havn, rfl, hother, hu⟩

theorem takeWrite_of_cause {s : State} {n : Fin 4} {o : MediaOp} (ht : o.taken = false) (h : s.causes n ≠ 0) :
    takeWrite n o s = (s.endOp n 6).raise (avSrc n 73) := by simp [takeWrite, ht, h]

/-! ### Arms (R175, R176) -/

/-- The preparation that an arm of each kind needs. -/
def MediaOp.prepared (o : MediaOp) (k : ArmKind) : Bool := if k = .write then o.prepWrite else o.prepRead

section Arm
variable {s : State} {n : Fin 4} {o : MediaOp} (hop : (s.seq n).op = some o) (h0 : o.ended = 0)
include hop h0

theorem framerArm_of_unprepared {k : ArmKind} (h : o.prepared k = false) (v : Nat) (raw : Bool) (bits : Nat) :
    arm n k v raw bits s = s.endOp n 14 := by
  unfold MediaOp.prepared at h
  simp [arm, hop, h0, h]

variable {v slot : Nat} {raw : Bool} (hslot : armSlot (s.zoneNow n o.zone) o.slips raw (v % 4096) = some slot)
  (hfree : (s.seq n).arms.length + (if (s.seq n).slotRun.isSome then 1 else 0) < 4)
include hslot hfree

theorem framerArm_of_read {k : ArmKind} (hk : k ≠ .write) (h : o.prepared k = true) (bits : Nat) :
    arm n k v raw bits s = joinArm n o k slot bits s := by
  unfold MediaOp.prepared at h
  simp only [hk, if_false] at h
  simp [arm, hop, h0, hk, h, hslot, hfree]

theorem framerArm_of_write (h : o.prepWrite = true) (hop' : ((takeWrite n o s).seq n).op = some { o with taken := true }) (bits : Nat) :
    arm n .write v raw bits s = joinArm n { o with taken := true } .write slot bits (takeWrite n o s) := by
  simp [arm, hop, h0, h, hop', hslot, hfree]

section Spec
variable (hb : 0 < (s.zoneNow n o.zone).bpr) (hlen : slot < (s.zoneNow n o.zone).slots.length)
include hb hlen

/-- A read or verify arm joins the queue as R175 places it. -/
theorem framerArm_read_joined {k : ArmKind} (hk : k ≠ .write) (h : o.prepared k = true) (bits : Nat) :
    let lead := if o.l4 then 64 else (s.zoneNow n o.zone).w
    ArmJoined n k o slot (max (armBefore (s.seq n)) (bits + 256 + lead)) s (arm n k v raw bits s) ∧
    ((arm n k v raw bits s).seq n).op = some o ∧ OtherAvenues n s (arm n k v raw bits s) ∧
    Frame [AV_SEQCNT_LATE n] [.regs, .av] s (arm n k v raw bits s) := by
  have hlead : s.armLead n (s.zoneNow n o.zone) k o.l4 = if o.l4 then 64 else (s.zoneNow n o.zone).w := by
    cases k with
    | write => exact absurd rfl hk
    | read => rfl
    | verify => rfl
  rw [framerArm_of_read hop h0 hslot hfree hk h, ← hop, ← hlead]
  exact joinArm_joined hb hlen

/-- A write arm takes the operation and joins the queue (R153, R175). -/
theorem framerArm_write_joined (h : o.prepWrite = true) (hclear : o.taken = true ∨ s.causes n = 0) (bits : Nat) :
    ArmJoined n .write o slot (max (armBefore (s.seq n)) (bits + 256 + 32 * s.get (AV_WRCTL_WGLEAD n))) s (arm n .write v raw bits s) ∧
    ((arm n .write v raw bits s).seq n).op = some { o with taken := true } ∧ OtherAvenues n s (arm n .write v raw bits s) ∧
    Frame [AV_SEQCNT_LATE n] [.regs, .av] s (arm n .write v raw bits s) := by
  obtain ⟨havn, hregs, hother, hu⟩ := takeWrite_of_clear hop hclear
  have hseq : (takeWrite n o s).seq n = { s.seq n with op := some { o with taken := true } } := congrArg Avenue.seq havn
  have hzone : (takeWrite n o s).zoneNow n o.zone = s.zoneNow n o.zone := by
    unfold State.zoneNow
    rw [havn]
  rw [framerArm_of_write hop h0 hslot hfree h (congrArg Seq.op hseq)]
  generalize takeWrite n o s = s₁ at havn hregs hother hu hseq hzone ⊢
  obtain ⟨hjoin, hop₁, hother₁, hf₁, hu₁⟩ := joinArm_joined (s := s₁) (o := { o with taken := true }) (k := .write) (bits := bits)
    (hzone ▸ hb) (hzone ▸ hlen)
  have hbefore : armBefore (s₁.seq n) = armBefore (s.seq n) := by rw [hseq]; rfl
  have hlead : s₁.armLead n (s₁.zoneNow n o.zone) .write o.l4 = 32 * s.get (AV_WRCTL_WGLEAD n) :=
    congrArg (32 * ·) (State.get_of_regs_eq hregs _)
  refine ⟨?_, ?_, hother.trans hother₁, ?_, (hu.mono (by simp)).trans hu₁⟩
  · rw [← hbefore, ← hlead]
    exact hjoin.congr hzone (congrArg Seq.arms hseq :) rfl rfl
  · rw [hop₁, hseq]
  · exact .trans (.of_regs_eq (.refl _ s) hregs) hf₁

end Spec

end Arm

/-- An arm of a write that a cause refuses ends the operation with status 6 (R153). -/
theorem framerArm_of_cause {s : State} {n : Fin 4} {o : MediaOp} (hop : (s.seq n).op = some o) (h0 : o.ended = 0) (h : o.prepWrite = true)
    (ht : o.taken = false) (hc : s.causes n ≠ 0) (v : Nat) (raw : Bool) (bits : Nat) :
    arm n .write v raw bits s = (s.endOp n 6).raise (avSrc n 73) := by
  have hop' : (((s.endOp n 6).raise (avSrc n 73)).seq n).op = some { o with ended := 6 } := by
    obtain ⟨havn, -⟩ := endOp_raise_only hop h0 6 (avSrc n 73)
    exact congrArg (fun a => a.seq.op) havn
  simp only [arm, hop, h0, h, takeWrite_of_cause ht hc]
  cases armSlot (s.zoneNow n o.zone) o.slips raw (v % 4096) <;> simp [hop']

theorem arms_spec (s : State) (n : Fin 4) (o : MediaOp) (ra : Fin 16) (raw : Bool) (bits slot : Nat) (hop : (s.seq n).op = some o)
    (h0 : o.ended = 0) (hslot : armSlot (s.zoneNow n o.zone) o.slips raw ((s.reg n ra).toNat % 4096) = some slot)
    (hb : 0 < (s.zoneNow n o.zone).bpr) (hlen : slot < (s.zoneNow n o.zone).slots.length)
    (hfree : (s.seq n).arms.length + (if (s.seq n).slotRun.isSome then 1 else 0) < 4) :
    let lead := if o.l4 then 64 else (s.zoneNow n o.zone).w
    (o.prepRead = true →
      (∃ t, exec (.armRead n ra raw bits) s = .next t ∧
        ArmJoined n .read o slot (max (armBefore (s.seq n)) (bits + 256 + lead)) s t ∧ (t.seq n).op = some o ∧
        OtherAvenues n s t ∧ Frame [AV_SEQCNT_LATE n] [.regs, .av] s t) ∧
      (∃ t, exec (.armVerify n ra raw bits) s = .next t ∧
        ArmJoined n .verify o slot (max (armBefore (s.seq n)) (bits + 256 + lead)) s t ∧ (t.seq n).op = some o ∧
        OtherAvenues n s t ∧ Frame [AV_SEQCNT_LATE n] [.regs, .av] s t)) ∧
    (o.prepWrite = true → (o.taken = true ∨ s.causes n = 0) → ∃ t, exec (.armWrite n ra raw bits) s = .next t ∧
      ArmJoined n .write o slot (max (armBefore (s.seq n)) (bits + 256 + 32 * s.get (AV_WRCTL_WGLEAD n))) s t ∧
      (t.seq n).op = some { o with taken := true } ∧ OtherAvenues n s t ∧ Frame [AV_SEQCNT_LATE n] [.regs, .av] s t) ∧
    (o.prepWrite = true → o.taken = false → s.causes n ≠ 0 → ∃ t, exec (.armWrite n ra raw bits) s = .next t ∧
      t.avn n = { s.avn n with seq := { s.seq n with op := some { o with ended := 6 }, arms := [] } } ∧
      Raised1 (428 + 96 * n.val + 73) 0 s t ∧ OtherAvenues n s t ∧ Untouched [.av, .flt] s t) ∧
    (o.prepRead = false → ∃ t, exec (.armRead n ra raw bits) s = .next t ∧
      t.avn n = { s.avn n with seq := { s.seq n with op := some { o with ended := 14 }, arms := [] } } ∧
      OtherAvenues n s t ∧ Untouched [.av] s t) := by
  refine ⟨fun h => ⟨⟨_, rfl, ?_⟩, _, rfl, ?_⟩, fun h hclear => ⟨_, rfl, ?_⟩, fun h ht hc => ⟨_, rfl, ?_⟩, fun h => ⟨_, rfl, ?_⟩⟩
  · exact framerArm_read_joined hop h0 hslot hfree hb hlen (k := .read) (by simp) h bits
  · exact framerArm_read_joined hop h0 hslot hfree hb hlen (k := .verify) (by simp) h bits
  · exact framerArm_write_joined hop h0 hslot hfree hb hlen h hclear bits
  · rw [framerArm_of_cause hop h0 h ht hc]
    exact endOp_raise_only hop h0 6 _
  · rw [framerArm_of_unprepared hop h0 (k := .read) h]
    exact endOp_only hop h0 14

end Sys2Proof.Machine
end

section
/-! SUPPORT. CANCEL and CLOSE (R97, R176): arms discarded, and the end of an operation with the skew written back. -/

namespace Sys2Proof.Machine

/-! ### CLOSE that waits (R176) -/

theorem tryClose_of_open {s : State} {n : Fin 4} {o : MediaOp} (hop : (s.seq n).op = some o) (h : o.closing = false) :
    tryClose n s = s := by simp [tryClose, hop, h]

theorem tryClose_of_arms {s : State} {n : Fin 4} (h : s.armIdle n = false) : tryClose n s = s := by
  unfold tryClose
  split
  · rfl
  · simp [h]

theorem tryClose_of_idle {s : State} {n : Fin 4} {o : MediaOp} (hop : (s.seq n).op = some o) (hc : o.closing = true)
    (h : s.armIdle n = true) : tryClose n s = closeOp n o s := by simp [tryClose, hop, hc, h]

theorem framerCancel_spec (s : State) (n : Fin 4) (o : MediaOp) (hop : (s.seq n).op = some o) (h : o.closing = false) :
    ∃ t, exec (.framerCancel n) s = .next t ∧ t.avn n = { s.avn n with seq := { s.seq n with arms := [] } } ∧
      OtherAvenues n s t ∧ Untouched [.av] s t := by
  have hop' : ((s.modSeq n (fun q => { q with arms := [] })).seq n).op = some o := by
    rw [State.seq_modSeq_self]
    exact hop
  refine ⟨framerCancel n s, rfl, ?_⟩
  rw [framerCancel, tryClose_of_open hop' h]
  exact modSeq_only s n _

/-- The state with CLOSE asked of the open operation. -/
def State.closeAsked (s : State) (n : Fin 4) : State := s.modOp n (fun o => { o with closing := true })

theorem closeAsked_only {s : State} {n : Fin 4} {o : MediaOp} (hop : (s.seq n).op = some o) :
    (s.closeAsked n).avn n = { s.avn n with seq := { s.seq n with op := some { o with closing := true } } } ∧
    OtherAvenues n s (s.closeAsked n) ∧ Untouched [.av] s (s.closeAsked n) := by
  obtain ⟨havn, hother, hu⟩ := modSeq_only s n (fun q => { q with op := q.op.map (fun o => { o with closing := true }) })
  rw [hop] at havn
  exact ⟨havn, hother, hu⟩

theorem armIdle_eq_false {s : State} {n : Fin 4} (h : (s.seq n).arms ≠ [] ∨ (s.seq n).slotRun.isSome = true) : s.armIdle n = false := by
  unfold State.armIdle
  rcases h with h | h
  · simp [h]
  · simp [h]

theorem closeWaits_spec (s : State) (n : Fin 4) (o : MediaOp) (hop : (s.seq n).op = some o)
    (h : (s.seq n).arms ≠ [] ∨ (s.seq n).slotRun.isSome = true) :
    ∃ t, exec (.framerClose n) s = .next t ∧
      t.avn n = { s.avn n with seq := { s.seq n with op := some { o with closing := true } } } ∧
      OtherAvenues n s t ∧ Untouched [.av] s t := by
  have hasked := closeAsked_only hop
  have hseq : (s.closeAsked n).seq n = { s.seq n with op := some { o with closing := true } } := congrArg Avenue.seq hasked.1
  have hidle : (s.closeAsked n).armIdle n = false := armIdle_eq_false (by rw [hseq]; exact h)
  have heq : framerClose n s = s.closeAsked n := tryClose_of_arms hidle
  refine ⟨framerClose n s, rfl, ?_⟩
  rw [heq]
  exact hasked

/-! ### CLOSE that takes effect (R97, R176) -/

/-- The state with the operation gone and the head offset free. -/
def State.closed (s : State) (n : Fin 4) : State :=
  (s.modSv n (fun v => { v with headHeld := false })).modSeq n (fun q => { q with op := none })

theorem closed_spec (s : State) (n : Fin 4) : ((s.closed n).seq n).op = none ∧
    (s.closed n).svo.get n = { s.svo.get n with headHeld := false } ∧ OtherAvenues n s (s.closed n) ∧ OtherServos n s (s.closed n) ∧
    Untouched [.av, .svo] s (s.closed n) := by
  have hsv : Untouched [.av, .svo] s (s.modSv n (fun v => { v with headHeld := false })) := (Untouched.refl _ s).modSv (by simp) n _
  refine ⟨?_, ?_, ?_, ?_, hsv.modAv (by simp) n _⟩
  · exact congrArg Seq.op (State.seq_modSeq_self ..)
  · exact State.svo_modSv_self s n (fun v => { v with headHeld := false })
  · exact (OtherAvenues.of_av_eq (.refl n s) (State.modSv_av ..)).modAv _
  · exact ((OtherServos.refl n s).modSv _).of_svo_eq (State.modAv_svo ..)

theorem closed_regs (s : State) (n : Fin 4) : (s.closed n).regs = s.regs := rfl

section Close
variable {s : State} {n : Fin 4} {o : MediaOp} (hop : (s.seq n).op = some o) (harms : (s.seq n).arms = [])
  (hrun : (s.seq n).slotRun = none)
include hop harms hrun

theorem framerClose_of_idle : framerClose n s = closeOp n { o with closing := true } (s.closeAsked n) := by
  have hseq : (s.closeAsked n).seq n = { s.seq n with op := some { o with closing := true } } :=
    congrArg Avenue.seq (closeAsked_only hop).1
  have hidle : (s.closeAsked n).armIdle n = true := by
    unfold State.armIdle
    rw [hseq]
    simp [harms, hrun]
  exact tryClose_of_idle (congrArg Seq.op hseq) rfl hidle

end Close

/-- A read operation closes with its write-back, the servo being on another face. -/
theorem closeOp_of_read {s : State} {n : Fin 4} {o : MediaOp} (hr : o.prepRead = true) (ht : o.taken = false)
    (hface : ((readWriteBack n o s).svo.get n).face ≠ o.face) : closeOp n o s = (readWriteBack n o s).closed n := by
  have hread : (o.prepRead && !o.taken) = true := by rw [hr, ht]; rfl
  unfold closeOp
  rw [if_pos hread]
  exact congrArg (State.closed · n) (if_neg (fun h => hface h.1))

/-- With neither TRK nor ADAPT set a read operation writes nothing back. -/
theorem readWriteBack_of_off {s : State} {n : Fin 4} (o : MediaOp) (htrk : s.get (AV_SKCTL_TRK n) = 0)
    (hadapt : s.get (AV_DETCTL_ADAPT n) = 0) : readWriteBack n o s = s := by
  simp [readWriteBack, State.is_of_get_zero htrk, State.is_of_get_zero hadapt]

theorem closePlain_spec (s : State) (n : Fin 4) (o : MediaOp) (hop : (s.seq n).op = some o) (harms : (s.seq n).arms = [])
    (hrun : (s.seq n).slotRun = none) (hr : o.prepRead = true) (ht : o.taken = false) (hface : (s.svo.get n).face ≠ o.face)
    (htrk : s.get (AV_SKCTL_TRK n) = 0) (hadapt : s.get (AV_DETCTL_ADAPT n) = 0) :
    ∃ t, exec (.framerClose n) s = .next t ∧ (t.seq n).op = none ∧ t.svo.get n = { s.svo.get n with headHeld := false } ∧
      OtherAvenues n s t ∧ OtherServos n s t ∧ Untouched [.av, .svo] s t := by
  obtain ⟨-, hother, hu⟩ := closeAsked_only hop
  have hback : readWriteBack n { o with closing := true } (s.closeAsked n) = s.closeAsked n := readWriteBack_of_off _ htrk hadapt
  have heq : framerClose n s = (s.closeAsked n).closed n := by
    rw [framerClose_of_idle hop harms hrun, closeOp_of_read (o := { o with closing := true }) hr ht (by rw [hback]; exact hface), hback]
  obtain ⟨hnone, hsvo, hother', hservos, hu'⟩ := closed_spec (s.closeAsked n) n
  refine ⟨framerClose n s, rfl, ?_⟩
  rw [heq]
  exact ⟨hnone, hsvo, hother.trans hother', hservos, (hu.mono (by simp)).trans hu'⟩

/-! ### The skew written back (R97, Table 3-14) -/

/-- A value that fits reads back from its two's complement pattern. -/
theorem signed_unsigned {k : Nat} {i : Int} (hlo : -(2 ^ k : Int) ≤ i) (hhi : i < 2 ^ k) :
    signed (k + 1) (unsigned (k + 1) i % 2 ^ (k + 1)) = i := by
  have hpow : (2 : Int) ^ (k + 1) = 2 * 2 ^ k := by rw [pow_succ, mul_comm]
  have hpowN : (2 : Nat) ^ (k + 1) = 2 * 2 ^ k := by rw [pow_succ, mul_comm]
  have hcast : ((2 ^ k : Nat) : Int) = 2 ^ k := by push_cast; rfl
  have hmod : i % 2 ^ (k + 1) = if 0 ≤ i then i else i + 2 ^ (k + 1) := by
    split
    · exact Int.emod_eq_of_lt ‹_› (by omega)
    · rw [← Int.add_emod_right, Int.emod_eq_of_lt (by omega) (by omega)]
  have hlt : unsigned (k + 1) i < 2 ^ (k + 1) := by
    unfold unsigned
    rw [hmod]
    split <;> omega
  unfold signed
  rw [Nat.mod_eq_of_lt hlt, Nat.add_sub_cancel]
  unfold unsigned
  rw [hmod]
  split <;> split <;> omega
/-- A signed field reads back a value that fits it. -/
theorem geti_puti_self (s : State) (f : Fld) {k : Nat} {i : Int} (h : f.lo + f.wid ≤ 32) (hw : f.wid = k + 1)
    (hlo : -(2 ^ k : Int) ≤ i) (hhi : i < 2 ^ k) : (s.puti f i).geti f = i := by
  unfold State.geti State.puti
  rw [State.get_put_self s f _ h, hw]
  exact signed_unsigned hlo hhi

theorem geti_of_regs_eq {s t : State} (h : t.regs = s.regs) (f : Fld) : t.geti f = s.geti f :=
  congrArg (signed f.wid) (State.get_of_regs_eq h f)

theorem geti_puti_elsewhere (s : State) (f g : Fld) (i : Int) (h : f.addr ≠ g.addr) : (s.puti f i).geti g = s.geti g :=
  congrArg (signed g.wid) (State.get_put_elsewhere s f g _ (.inl h))

/-- The skew entries of both readers, replaced. -/
def State.skewSet (s : State) (n : Fin 4) (f z : Nat) (a b : Int) : State :=
  (s.puti (AV_SKEW_SKEW n f 0 z) a).puti (AV_SKEW_SKEW n f 1 z) b

theorem AV_SKEW_readers_ne (n : Fin 4) (f z : Nat) : AV_SKEW n f 0 z ≠ AV_SKEW n f 1 z := by simp only [AV_SKEW]; omega

theorem skewSet_geti (s : State) (n : Fin 4) (f z : Nat) {a b : Int} (ha : -(2 ^ 23) ≤ a ∧ a < 2 ^ 23) (hb : -(2 ^ 23) ≤ b ∧ b < 2 ^ 23) :
    (s.skewSet n f z a b).geti (AV_SKEW_SKEW n f 0 z) = a ∧ (s.skewSet n f z a b).geti (AV_SKEW_SKEW n f 1 z) = b := by
  have hfit : ∀ r, (AV_SKEW_SKEW n f r z).lo + (AV_SKEW_SKEW n f r z).wid ≤ 32 := fun r => Nat.le_of_ble_eq_true rfl
  refine ⟨?_, geti_puti_self _ _ (hfit 1) rfl hb.1 hb.2⟩
  exact (geti_puti_elsewhere _ _ _ _ (AV_SKEW_readers_ne n f z).symm).trans (geti_puti_self _ _ (hfit 0) rfl ha.1 ha.2)

theorem skewSet_frame (s : State) (n : Fin 4) (f z : Nat) (a b : Int) :
    Frame [AV_SKEW_SKEW n f 0 z, AV_SKEW_SKEW n f 1 z] [.regs] s (s.skewSet n f z a b) :=
  ⟨.put (.put (.refl _ s) (List.mem_cons_self ..) _) (List.mem_cons_of_mem _ (List.mem_cons_self ..)) _,
    .put (.put (.refl _ s) (by simp) _ _) (by simp) _ _⟩

/-- The skew entries of a zone lie apart from DETCTL. -/
theorem skewSet_adapt (s : State) (n : Fin 4) {f z : Nat} (hf : f < 8) (hz : z < 32) (a b : Int) :
    (s.skewSet n f z a b).get (AV_DETCTL_ADAPT n) = s.get (AV_DETCTL_ADAPT n) := by
  refine (skewSet_frame s n f z a b).1 _ fun g hg => .inl ?_
  have haddr : g.addr = AV_SKEW n f 0 z ∨ g.addr = AV_SKEW n f 1 z := by
    simp only [List.mem_cons, List.not_mem_nil, or_false] at hg
    rcases hg with rfl | rfl
    · exact .inl rfl
    · exact .inr rfl
  simp only [AV_SKEW] at haddr
  simp only [AV_DETCTL_ADAPT, AV_DETCTL]
  omega

/-- With TRK set and neither WFOLLOW nor ADAPT, a read operation writes both readers' skew back and no more. -/
theorem readWriteBack_of_skew {s : State} {n : Fin 4} {o : MediaOp} (htrk : s.get (AV_SKCTL_TRK n) = 1)
    (hfollow : s.get (AV_WRCTL_WFOLLOW n) = 0) (hadapt : s.get (AV_DETCTL_ADAPT n) = 0) (hz : o.zone < 32) (hf : o.face < 8) :
    readWriteBack n o s = s.skewSet n o.face o.zone (s.reader n 0).skew (s.reader n 1).skew := by
  have hback : skewBack n o.face o.zone s = s.skewSet n o.face o.zone (s.reader n 0).skew (s.reader n 1).skew := by
    unfold skewBack
    rw [State.is_of_get_zero hfollow]
    rfl
  have hoff := State.is_of_get_zero ((skewSet_adapt s n hf hz (s.reader n 0).skew (s.reader n 1).skew).trans hadapt)
  simp [readWriteBack, State.is_of_get_one htrk, hback, hoff]

theorem closeSkew_spec (s : State) (n : Fin 4) (o : MediaOp) (hop : (s.seq n).op = some o) (harms : (s.seq n).arms = [])
    (hrun : (s.seq n).slotRun = none) (hr : o.prepRead = true) (ht : o.taken = false) (hface : (s.svo.get n).face ≠ o.face)
    (htrk : s.get (AV_SKCTL_TRK n) = 1) (hfollow : s.get (AV_WRCTL_WFOLLOW n) = 0) (hadapt : s.get (AV_DETCTL_ADAPT n) = 0)
    (hz : o.zone < 32) (hf : o.face < 8) (hskew : ∀ r : Fin 2, -(2 ^ 23) ≤ (s.reader n r).skew ∧ (s.reader n r).skew < 2 ^ 23) :
    ∃ t, exec (.framerClose n) s = .next t ∧ (t.seq n).op = none ∧
      (∀ r : Fin 2, t.geti (AV_SKEW_SKEW n o.face r.val o.zone) = (s.reader n r).skew) ∧
      t.svo.get n = { s.svo.get n with headHeld := false } ∧ OtherAvenues n s t ∧ OtherServos n s t ∧
      Frame [AV_SKEW_SKEW n o.face 0 o.zone, AV_SKEW_SKEW n o.face 1 o.zone] [.regs, .av, .svo] s t := by
  obtain ⟨havn, hother, hu⟩ := closeAsked_only hop
  have hreader : ∀ r, (s.closeAsked n).reader n r = s.reader n r := fun r => by
    unfold State.reader
    rw [havn]
  have hregs : (s.closeAsked n).regs = s.regs := hu .regs (by decide)
  have hback := readWriteBack_of_skew (s := s.closeAsked n) (o := { o with closing := true })
    ((State.get_of_regs_eq hregs _).trans htrk) ((State.get_of_regs_eq hregs _).trans hfollow)
    ((State.get_of_regs_eq hregs _).trans hadapt) hz hf
  rw [hreader, hreader] at hback
  obtain ⟨hf₁, hu₁⟩ := skewSet_frame (s.closeAsked n) n o.face o.zone (s.reader n 0).skew (s.reader n 1).skew
  obtain ⟨ha, hb⟩ := skewSet_geti (s.closeAsked n) n o.face o.zone (hskew 0) (hskew 1)
  generalize (s.closeAsked n).skewSet n o.face o.zone (s.reader n 0).skew (s.reader n 1).skew = w at hback hf₁ hu₁ ha hb
  have hsvo : w.svo = s.svo := (hu₁ .svo (by decide)).trans (hu .svo (by decide))
  have heq : framerClose n s = w.closed n := by
    rw [framerClose_of_idle hop harms hrun, closeOp_of_read (o := { o with closing := true }) hr ht (by rw [hback, hsvo]; exact hface),
      hback]
  obtain ⟨hnone, hsv, hother', hservos, hu'⟩ := closed_spec w n
  refine ⟨framerClose n s, rfl, ?_⟩
  rw [heq]
  refine ⟨hnone, fun r => ?_, ?_, ?_, ?_, ?_, ?_⟩
  · refine (geti_of_regs_eq (closed_regs w n) _).trans ?_
    fin_cases r
    · exact ha
    · exact hb
  · rw [hsv, hsvo]
  · exact (hother.of_av_eq (hu₁ .av (by decide))).trans hother'
  · exact fun m hm => (hservos m hm).trans (congrArg (Quad.get · m) hsvo)
  · exact .trans (.of_regs_eq (.refl _ s) (hu .regs (by decide))) (hf₁.of_regs_eq (closed_regs w n))
  · exact ((hu.mono (by simp)).trans (hu₁.mono (by simp))).trans (hu'.mono (by simp))

end Sys2Proof.Machine
end

section
/-! SUPPORT. Slots (R75 to R77, R143, R147, R172, R175): a slot that begins is searched or written or moves a revolution, and one
that ends gives its sector to the decoder or drops write gate. -/

namespace Sys2Proof.Machine

/-! ### A slot begins -/

/-- What a slot needs to begin on an open operation (R149, R172): its arm is the first, no slot runs, the outcome queue has a place and
the heater has settled. -/
structure SlotDue (s : State) (n : Fin 4) (o : MediaOp) (a : Arm) (as : List Arm) : Prop where
  op : (s.seq n).op = some o
  arms : (s.seq n).arms = a :: as
  run : (s.seq n).slotRun = none
  outcomes : (s.seq n).outcomes.length < 64
  heating : (s.avn n).kazq.heating = false

theorem SlotDue.congr {s t : State} {n : Fin 4} {o : MediaOp} {a : Arm} {as : List Arm} (h : SlotDue s n o a as)
    (hseq : t.seq n = s.seq n) (hheat : (t.avn n).kazq.heating = (s.avn n).kazq.heating) : SlotDue t n o a as :=
  ⟨by rw [hseq, h.op], by rw [hseq, h.arms], by rw [hseq, h.run], by rw [hseq]; exact h.outcomes, hheat.trans h.heating⟩

section Start
variable {s : State} {n : Fin 4} {o : MediaOp} {a : Arm} {as : List Arm} (h : SlotDue s n o a as)
include h

theorem slotStart_of_read (hk : a.kind = .read) (hvalid : s.bothInvalid n = false) (i : SlotInput) :
    slotStart n i s = readSlot n o (s.zoneNow n o.zone) a i s := by
  simp [slotStart, h.op, h.arms, h.run, Nat.not_le.2 h.outcomes, h.heating, hk, hvalid]

theorem slotStart_of_write (hk : a.kind = .write) (hc : s.causes n = 0) {i : SlotInput} (hready : i.ready = true)
    (hentry : i.entryOk = true) : slotStart n i s = writeSlot n o a i s := by
  simp [slotStart, h.op, h.arms, h.run, Nat.not_le.2 h.outcomes, h.heating, hk, hc, hready, hentry]

theorem slotStart_of_late (hk : a.kind = .write) (hc : s.causes n = 0) {i : SlotInput} (hready : i.ready = false) :
    slotStart n i s = deferSlot n (s.zoneNow n o.zone) (s.bump (AV_WFCNT_SLIPW n)) := by
  simp [slotStart, h.op, h.arms, h.run, Nat.not_le.2 h.outcomes, h.heating, hk, hc, hready]

/-- The slot that begins leaves the waiting arms. -/
theorem runSlot_only (marks decode : Bool) (align : Int) :
    (runSlot n a marks decode align s).avn n =
      { s.avn n with seq := { s.seq n with arms := as, slotRun := some ⟨a, false, marks, decode, align⟩ } } ∧
    OtherAvenues n s (runSlot n a marks decode align s) ∧ Untouched [.av] s (runSlot n a marks decode align s) := by
  obtain ⟨havn, hother, hu⟩ := modSeq_only s n (fun q => { q with
    arms := q.arms.drop 1, slotRun := some { arm := a, firstEnded := false, marks := marks, decode := decode, align := align } })
  rw [h.arms] at havn
  exact ⟨havn, hother, hu⟩

end Start

/-! ### Mark searches (R75, R99) -/

/-- With digital gain off the preamble's measurement changes nothing (R99). -/
theorem slotGain_of_off {s : State} {n : Fin 4} {r : Fin 2} (h : s.get (AV_AFEGAIN_DGEN n r.val) = 0) (mag : Nat) :
    slotGain n mag r s = s := by simp [slotGain, State.is_of_get_zero h]

/-- What leaves the preamble's measurement and the taps as they are: digital gain off, and the zone's settings. -/
structure PlainRead (s : State) (n : Fin 4) (a : Arm) : Prop where
  gainA : s.get (AV_AFEGAIN_DGEN n 0) = 0
  gainB : s.get (AV_AFEGAIN_DGEN n 1) = 0
  dsp : a.dsp = .zone

theorem PlainRead.settings {s : State} {n : Fin 4} {a : Arm} (h : PlainRead s n a) (o : MediaOp) (i : SlotInput) :
    slotTaps n o a (slotGain n i.magB 1 (slotGain n i.magA 0 s)) = s := by
  rw [slotGain_of_off (r := 0) h.gainA, slotGain_of_off (r := 1) h.gainB]
  simp [slotTaps, h.dsp]

/-- A mark found without feedback starts the slot aligned to it (R75, R95). -/
theorem readSlot_of_found {s : State} {n : Fin 4} {o : MediaOp} {z : ZoneLay} {a : Arm} {i : SlotInput} (h : PlainRead s n a)
    {d : Int} (hd : s.slotSearch n z a.l4 true i.marks = some d) (hfb : s.get (AV_SKCTL_MARKFB n) = 0) :
    readSlot n o z a i s = runSlot n a true true d s := by
  simp [readSlot, h.settings, hd, State.is_of_get_zero hfb]

/-- A mark not found is a miss, and the slot starts by the flywheel or is not decoded (R77). -/
theorem readSlot_of_missed {s : State} {n : Fin 4} {o : MediaOp} {z : ZoneLay} {a : Arm} {i : SlotInput} (h : PlainRead s n a)
    (hd : s.slotSearch n z a.l4 true i.marks = none) : readSlot n o z a i s = runSlot n a false z.fly 0 (markMiss n z.fly s) := by
  simp [readSlot, h.settings, hd]

/-- One candidate within the window and the threshold is the mark found (R75). -/
theorem slotSearch_of_one {s : State} {n : Fin 4} {z : ZoneLay} {c : MarkCand} (hw : c.offset.natAbs ≤ z.w) (hd : c.distance ≤ z.mthr)
    (hclear : c.clear = true) (hdr : Bool) : s.slotSearch n z false hdr [c] = some c.offset := by
  simp [State.slotSearch, searchMark, hw, hd, hclear]

/-- A counter field goes up by one, saturating. -/
theorem bump_get (s : State) (f : Fld) (h : f.lo + f.wid ≤ 32) : (s.bump f).get f = min (2 ^ f.wid - 1) (s.get f + 1) := by
  have hpos : 0 < 2 ^ f.wid := by positivity
  unfold State.bump
  rw [State.get_put_self s f _ h]
  exact Nat.mod_eq_of_lt (by omega)

theorem bump_frame (s : State) (f : Fld) (k : Nat := 1) : Frame [f] [.regs] s (s.bump f k) := by
  unfold State.bump
  exact ⟨.put (.refl _ s) (List.mem_singleton_self _) _, .put (.refl _ s) (by simp) _ _⟩

theorem markMiss_spec (s : State) (n : Fin 4) : (markMiss n false s).av = s.av ∧
    (markMiss n false s).get (AV_MARKSTAT_MISSES n) =
      min (2 ^ (AV_MARKSTAT_MISSES n).wid - 1) (s.get (AV_MARKSTAT_MISSES n) + 1) ∧
    Raised1 (428 + 96 * n.val + 26) 0 s (markMiss n false s) ∧
    Frame [AV_MARKSTAT_MISSES n] [.regs, .flt] s (markMiss n false s) := by
  have heq : markMiss n false s = (s.bump (AV_MARKSTAT_MISSES n)).raise (avSrc n 26) := rfl
  have hu := bump_frame s (AV_MARKSTAT_MISSES n)
  rw [heq]
  refine ⟨(State.raise_av ..).trans (State.bump_av ..), (State.get_raise ..).trans (bump_get s _ (Nat.le_of_ble_eq_true rfl)),
    raised1_of_untouched hu.2 (by simp) (by simp) _ _, hu.1.of_regs_eq (State.raise_regs ..),
    (hu.2.mono (by simp)).raise (by simp) _ _⟩

section Read
variable {s : State} {n : Fin 4} {o : MediaOp} {a : Arm} {as : List Arm} (h : SlotDue s n o a as) (hk : a.kind = .read)
  (hvalid : s.bothInvalid n = false) (hplain : PlainRead s n a) {i : SlotInput}
include h hk hvalid hplain

theorem slotStart_found_spec (hl4 : a.l4 = false) {c : MarkCand} (hmarks : i.marks = [c]) (hw : c.offset.natAbs ≤ (s.zoneNow n o.zone).w)
    (hd : c.distance ≤ (s.zoneNow n o.zone).mthr) (hclear : c.clear = true) (hfb : s.get (AV_SKCTL_MARKFB n) = 0) :
    ∃ t, exec (.slotStart n i) s = .next t ∧ t.avn n = { s.avn n with seq := { s.seq n with
      arms := as, slotRun := some ⟨a, false, true, true, c.offset⟩ } } ∧ OtherAvenues n s t ∧ Untouched [.av] s t := by
  have hsearch : s.slotSearch n (s.zoneNow n o.zone) a.l4 true i.marks = some c.offset := by
    rw [hmarks, hl4]
    exact slotSearch_of_one hw hd hclear true
  refine ⟨slotStart n i s, rfl, ?_⟩
  rw [slotStart_of_read h hk hvalid, readSlot_of_found hplain hsearch hfb]
  exact runSlot_only h true true c.offset

theorem slotStart_missed_spec (hmarks : i.marks = []) (hfly : (s.zoneNow n o.zone).fly = false) :
    ∃ t, exec (.slotStart n i) s = .next t ∧ t.avn n = { s.avn n with seq := { s.seq n with
        arms := as, slotRun := some ⟨a, false, false, false, 0⟩ } } ∧
      t.get (AV_MARKSTAT_MISSES n) = min (2 ^ (AV_MARKSTAT_MISSES n).wid - 1) (s.get (AV_MARKSTAT_MISSES n) + 1) ∧
      Raised1 (428 + 96 * n.val + 26) 0 s t ∧ OtherAvenues n s t ∧ Frame [AV_MARKSTAT_MISSES n] [.regs, .av, .flt] s t := by
  have hsearch : s.slotSearch n (s.zoneNow n o.zone) a.l4 true i.marks = none := by rw [hmarks]; rfl
  refine ⟨slotStart n i s, rfl, ?_⟩
  rw [slotStart_of_read h hk hvalid, readSlot_of_missed hplain hsearch, hfly]
  obtain ⟨hav, hcount, hraised, hf, hu⟩ := markMiss_spec s n
  have havn := avn_of_av_eq hav n
  have hseq : (markMiss n false s).seq n = s.seq n := congrArg Avenue.seq havn
  have hdue : SlotDue (markMiss n false s) n o a as :=
    h.congr hseq (by rw [havn])
  obtain ⟨hrun, hother, hu'⟩ := runSlot_only hdue false false 0
  generalize runSlot n a false false 0 (markMiss n false s) = t at hrun hother hu' ⊢
  have hregs : t.regs = (markMiss n false s).regs := hu' .regs (by decide)
  refine ⟨?_, (State.get_of_regs_eq hregs _).trans hcount, ?_, (OtherAvenues.of_av_eq (.refl n s) hav).trans hother,
    hf.of_regs_eq hregs, (hu.mono (by simp)).trans (hu'.mono (by simp))⟩
  · rw [hrun, hseq, havn]
  · exact (hu' .flt (by decide)).trans hraised

end Read

/-! ### Written slots (R142 to R147) -/

/-- Write gate, the header and what the serialiser takes, as a written slot begins (R142). -/
def State.written (s : State) (n : Fin 4) (wg : Bool) (h : BitVec 64) (out : Serial) : State :=
  s.modAv n (fun v => { v with wg := wg, header := h, serial := some out })

theorem written_only (s : State) (n : Fin 4) (wg : Bool) (h : BitVec 64) (out : Serial) :
    (s.written n wg h out).avn n = { s.avn n with wg := wg, header := h, serial := some out } ∧
    OtherAvenues n s (s.written n wg h out) ∧ Untouched [.av] s (s.written n wg h out) := modAv_only s n _

theorem writeSlot_of_running {s : State} (hchip : s.flt.chip = none) (n : Fin 4) (o : MediaOp) (a : Arm) (i : SlotInput) :
    ∃ out : Serial, writeSlot n o a i s = runSlot n a true true 0
      (s.written n true (header ⟨o.cyl, o.face, a.slot⟩ o.ctx.region o.ctx.gen) out) ∧
    out.pc1 = s.get (AV_WAT1_PC1 n o.face o.zone) ∧ out.pc2 = s.get (AV_WAT1_PC2 n o.face o.zone) ∧
    out.wskew = s.geti (AV_WSKEW_WSKEW n o.face o.zone) := by
  unfold writeSlot
  rw [hchip]
  exact ⟨_, rfl, rfl, rfl, rfl⟩

theorem slotStart_write_spec {s : State} {n : Fin 4} {o : MediaOp} {a : Arm} {as : List Arm} (h : SlotDue s n o a as)
    (hk : a.kind = .write) (hc : s.causes n = 0) {i : SlotInput} (hready : i.ready = true) (hentry : i.entryOk = true)
    (hchip : s.flt.chip = none) :
    ∃ t out, exec (.slotStart n i) s = .next t ∧ (t.avn n).wg = true ∧ (t.avn n).serial = some out ∧
      out.pc1 = s.get (AV_WAT1_PC1 n o.face o.zone) ∧ out.pc2 = s.get (AV_WAT1_PC2 n o.face o.zone) ∧
      out.wskew = s.geti (AV_WSKEW_WSKEW n o.face o.zone) ∧
      (t.avn n).header = header ⟨o.cyl, o.face, a.slot⟩ o.ctx.region o.ctx.gen ∧ (t.seq n).arms = as ∧
      (t.seq n).slotRun = some ⟨a, false, true, true, 0⟩ ∧ OtherAvenues n s t ∧ Untouched [.av] s t := by
  obtain ⟨out, hout, hpc1, hpc2, hwskew⟩ := writeSlot_of_running hchip n o a i
  refine ⟨slotStart n i s, out, rfl, ?_⟩
  rw [slotStart_of_write h hk hc hready hentry, hout]
  obtain ⟨havn, hother, hu⟩ := written_only s n true (header ⟨o.cyl, o.face, a.slot⟩ o.ctx.region o.ctx.gen) out
  generalize s.written n true _ out = s₁ at havn hother hu ⊢
  have hseq : s₁.seq n = s.seq n := (congrArg Avenue.seq havn :)
  obtain ⟨hrun, hother', hu'⟩ := runSlot_only (h.congr hseq (by rw [havn])) true true 0
  generalize runSlot n a true true 0 s₁ = t at hrun hother' hu' ⊢
  unfold State.seq
  rw [hrun, havn]
  exact ⟨rfl, rfl, hpc1, hpc2, hwskew, rfl, rfl, rfl, hother.trans hother', hu.trans hu'⟩

/-- One arm moved past its own start waits one revolution (R175). -/
theorem moveArms_one {bpr : Nat} (hb : 0 < bpr) (a : Arm) :
    moveArms bpr (a.start + 1) [a] = ([{ a with start := a.start + bpr, stop := a.stop + bpr }], 1) := by
  have hrev : revAt bpr a.start (a.start + 1) = 1 := by
    refine Nat.le_antisymm ((revAt_le_iff hb).2 (by omega)) (Nat.pos_of_ne_zero fun h0 => ?_)
    have := (revAt_le_iff (r := 0) hb).1 (Nat.le_of_eq h0)
    omega
  simp [moveArms, hrev]

/-- The only arm deferred waits one revolution, counted in LATE. -/
theorem deferSlot_of_one {s : State} {n : Fin 4} {z : ZoneLay} {a : Arm} (hb : 0 < z.bpr) (harms : (s.seq n).arms = [a]) :
    deferSlot n z s = (s.bump (AV_SEQCNT_LATE n)).modSeq n (fun q => { q with
      arms := [{ a with start := a.start + z.bpr, stop := a.stop + z.bpr }] }) := by
  simp [deferSlot, harms, moveArms_one hb]

theorem bump_get_elsewhere (s : State) {f g : Fld} (h : f.addr ≠ g.addr) : (s.bump f).get g = s.get g :=
  State.get_put_elsewhere s f g _ (.inl h)

theorem slipw_addr_ne_late (n : Fin 4) : (AV_WFCNT_SLIPW n).addr ≠ (AV_SEQCNT_LATE n).addr := by
  simp only [AV_WFCNT_SLIPW, AV_WFCNT, AV_SEQCNT_LATE, AV_SEQCNT]
  omega

/-- A slipped write is counted in SLIPW and in LATE. -/
theorem slipCounts_spec (s : State) (n : Fin 4) :
    ((s.bump (AV_WFCNT_SLIPW n)).bump (AV_SEQCNT_LATE n)).get (AV_WFCNT_SLIPW n) =
      min (2 ^ (AV_WFCNT_SLIPW n).wid - 1) (s.get (AV_WFCNT_SLIPW n) + 1) ∧
    ((s.bump (AV_WFCNT_SLIPW n)).bump (AV_SEQCNT_LATE n)).get (AV_SEQCNT_LATE n) =
      min (2 ^ (AV_SEQCNT_LATE n).wid - 1) (s.get (AV_SEQCNT_LATE n) + 1) ∧
    Frame [AV_WFCNT_SLIPW n, AV_SEQCNT_LATE n] [.regs] s ((s.bump (AV_WFCNT_SLIPW n)).bump (AV_SEQCNT_LATE n)) := by
  obtain ⟨hf, hu⟩ := bump_frame s (AV_WFCNT_SLIPW n)
  obtain ⟨hf', hu'⟩ := bump_frame (s.bump (AV_WFCNT_SLIPW n)) (AV_SEQCNT_LATE n)
  refine ⟨?_, ?_, (hf.mono (by simp)).trans (hf'.mono (by simp)), hu.trans hu'⟩
  · exact (bump_get_elsewhere _ (slipw_addr_ne_late n).symm).trans (bump_get s _ (Nat.le_of_ble_eq_true rfl))
  · rw [bump_get _ _ (Nat.le_of_ble_eq_true rfl), bump_get_elsewhere s (slipw_addr_ne_late n)]

theorem slotStart_late_spec {s : State} {n : Fin 4} {o : MediaOp} {a : Arm} {as : List Arm} (h : SlotDue s n o a as)
    (hk : a.kind = .write) (hc : s.causes n = 0) {i : SlotInput} (hready : i.ready = false) (has : as = [])
    (hb : 0 < (s.zoneNow n o.zone).bpr) :
    ∃ t, exec (.slotStart n i) s = .next t ∧ (t.avn n).wg = (s.avn n).wg ∧ (t.seq n).slotRun = none ∧
      (t.seq n).arms = [{ a with start := a.start + (s.zoneNow n o.zone).bpr, stop := a.stop + (s.zoneNow n o.zone).bpr }] ∧
      t.get (AV_WFCNT_SLIPW n) = min (2 ^ (AV_WFCNT_SLIPW n).wid - 1) (s.get (AV_WFCNT_SLIPW n) + 1) ∧
      t.get (AV_SEQCNT_LATE n) = min (2 ^ (AV_SEQCNT_LATE n).wid - 1) (s.get (AV_SEQCNT_LATE n) + 1) ∧
      OtherAvenues n s t ∧ Frame [AV_WFCNT_SLIPW n, AV_SEQCNT_LATE n] [.regs, .av] s t := by
  have hbump : (s.bump (AV_WFCNT_SLIPW n)).seq n = s.seq n :=
    congrArg Avenue.seq (avn_of_av_eq ((bump_frame s (AV_WFCNT_SLIPW n)).2 .av (by decide)) n)
  have harms : ((s.bump (AV_WFCNT_SLIPW n)).seq n).arms = [a] := by rw [hbump, h.arms, has]
  refine ⟨slotStart n i s, rfl, ?_⟩
  rw [slotStart_of_late h hk hc hready, deferSlot_of_one hb harms]
  obtain ⟨hslip, hlate, hf, hu⟩ := slipCounts_spec s n
  generalize (s.bump (AV_WFCNT_SLIPW n)).bump (AV_SEQCNT_LATE n) = s₁ at hslip hlate hf hu ⊢
  have hav : s₁.av = s.av := hu .av (by decide)
  have hseq : s₁.seq n = s.seq n := congrArg Avenue.seq (avn_of_av_eq hav n)
  obtain ⟨havn, hother, hu'⟩ := modSeq_only s₁ n (fun q => { q with
    arms := [{ a with start := a.start + (s.zoneNow n o.zone).bpr, stop := a.stop + (s.zoneNow n o.zone).bpr }] })
  generalize s₁.modSeq n _ = t at havn hother hu' ⊢
  have hregs : t.regs = s₁.regs := hu' .regs (by decide)
  rw [avn_of_av_eq hav n, hseq] at havn
  refine ⟨(congrArg Avenue.wg havn :), ?_, (congrArg (fun x => x.seq.arms) havn :), (State.get_of_regs_eq hregs _).trans hslip,
    (State.get_of_regs_eq hregs _).trans hlate, (OtherAvenues.of_av_eq (.refl n s) hav).trans hother, hf.of_regs_eq hregs,
    (hu.mono (by simp)).trans (hu'.mono (by simp))⟩
  exact (congrArg (fun x => x.seq.slotRun) havn).trans h.run

/-! ### A slot ends (R147, R172, R175) -/

/-- A whole slot has no resume mark to search for. -/
theorem resumeMark_of_whole {r : SlotRun} (h : r.arm.split = false) (n : Fin 4) (z : ZoneLay) (m : List MarkCand) (s : State) :
    resumeMark n z r m s = (r, s) := by simp [resumeMark, h]

/-- The oldest sector that is decoded holds back those after it. -/
theorem drainMisses_of_decode {s : State} {n : Fin 4} {sec : SectorRead} {rest : List SectorRead}
    (h : (s.avn n).decoding = sec :: rest) (hd : sec.decode = true) (k : Nat) : drainMisses n k s = s := by
  cases k with
  | zero => rfl
  | succ k => simp [drainMisses, h, hd]

/-- The state with the slot's run over. -/
def State.slotDone (s : State) (n : Fin 4) (r : SlotRun) : State :=
  s.modSeq n (fun q => { q with slotRun := none, lastEnd := r.arm.stop })

theorem slotDone_only (s : State) (n : Fin 4) (r : SlotRun) :
    (s.slotDone n r).avn n = { s.avn n with seq := { s.seq n with slotRun := none, lastEnd := r.arm.stop } } ∧
    OtherAvenues n s (s.slotDone n r) ∧ Untouched [.av] s (s.slotDone n r) := modSeq_only s n _

/-- The sector that a slot gives to the decoder. -/
def MediaOp.sectorRead (o : MediaOp) (r : SlotRun) : SectorRead :=
  { addr := ⟨o.cyl, o.face, r.arm.slot⟩, ctx := o.ctx, verify := false, marks := r.marks, decode := r.decode, laneLost := o.laneLost }

theorem slotEnd_read_spec {s : State} {n : Fin 4} {o : MediaOp} {r : SlotRun} (m : List MarkCand) (hop : (s.seq n).op = some o)
    (hclose : o.closing = false) (hrun : (s.seq n).slotRun = some r) (hk : r.arm.kind = .read) (hsplit : r.arm.split = false)
    (hdec : r.decode = true) (hnone : (s.avn n).decoding = []) :
    ∃ t sec, exec (.slotEnd n m) s = .next t ∧ (t.avn n).decoding = [sec] ∧ sec.addr = ⟨o.cyl, o.face, r.arm.slot⟩ ∧
      sec.verify = false ∧ sec.marks = r.marks ∧ sec.laneLost = o.laneLost ∧ sec.ctx = o.ctx ∧ (t.seq n).slotRun = none ∧
      (t.seq n).lastEnd = r.arm.stop ∧ (t.seq n).arms = (s.seq n).arms ∧ OtherAvenues n s t ∧ Untouched [.av] s t := by
  refine ⟨slotEnd n m s, o.sectorRead r, rfl, ?_⟩
  obtain ⟨hdone, hother, hu⟩ := slotDone_only s n r
  obtain ⟨hgiven, hother', hu'⟩ := modAv_only (s.slotDone n r) n (fun a => { a with decoding := a.decoding ++ [o.sectorRead r] })
  have hend : slotEnd n m s = tryClose n (drainMisses n
      (((s.slotDone n r).modAv n (fun a => { a with decoding := a.decoding ++ [o.sectorRead r] })).avn n).decoding.length
      ((s.slotDone n r).modAv n (fun a => { a with decoding := a.decoding ++ [o.sectorRead r] }))) := by
    simp only [slotEnd, hop, hrun, hk, resumeMark_of_whole hsplit]
    rfl
  rw [hend]
  generalize (s.slotDone n r).modAv n _ = t at hgiven hother' hu' ⊢
  rw [hdone, hnone] at hgiven
  have hdecoding : (t.avn n).decoding = [o.sectorRead r] := congrArg Avenue.decoding hgiven
  have hseq : t.seq n = { s.seq n with slotRun := none, lastEnd := r.arm.stop } := congrArg Avenue.seq hgiven
  rw [drainMisses_of_decode hdecoding hdec, tryClose_of_open (by rw [hseq]; exact hop) hclose, hseq]
  exact ⟨hdecoding, rfl, rfl, rfl, rfl, rfl, rfl, rfl, rfl, hother.trans hother', hu.trans hu'⟩

theorem kzStart_wg (a : Avenue) : (kzStart a).wg = a.wg := by
  unfold kzStart
  dsimp only
  repeat' split
  all_goals rfl

theorem kzStart_seq (a : Avenue) : (kzStart a).seq = a.seq := by
  unfold kzStart
  dsimp only
  repeat' split
  all_goals rfl

theorem dropGate_seq (s : State) (n : Fin 4) : (s.dropGate n).seq n = s.seq n := by
  unfold State.dropGate
  split
  · simp [State.seq, State.modReaders]
  · rfl

/-- The link starts its next frame; write gate and the sequencer are as they were. -/
theorem linkStart_only (s : State) (n : Fin 4) : ((s.modAv n kzStart).avn n).wg = (s.avn n).wg ∧ (s.modAv n kzStart).seq n = s.seq n ∧
    OtherAvenues n s (s.modAv n kzStart) ∧ Untouched [.av] s (s.modAv n kzStart) := by
  obtain ⟨havn, hother, hu⟩ := modAv_only s n kzStart
  exact ⟨(congrArg Avenue.wg havn).trans (kzStart_wg _), (congrArg Avenue.seq havn).trans (kzStart_seq _), hother, hu⟩

section Written
variable {s : State} {n : Fin 4} {o : MediaOp} {r : SlotRun} (m : List MarkCand) (hop : (s.seq n).op = some o)
  (hclose : o.closing = false) (hrun : (s.seq n).slotRun = some r) (hk : r.arm.kind = .write)
include hop hclose hrun hk

/-- A written slot ends with the gate as the next arm asks, and the link starts its next frame. -/
theorem slotEnd_of_write : slotEnd n m s =
    (if contiguous (s.seq n) r.arm.stop then s.slotDone n r else (s.slotDone n r).dropGate n).modAv n kzStart := by
  have hseq : (s.slotDone n r).seq n = { s.seq n with slotRun := none, lastEnd := r.arm.stop } :=
    congrArg Avenue.seq (slotDone_only s n r).1
  have hcont : contiguous ((s.slotDone n r).seq n) r.arm.stop = contiguous (s.seq n) r.arm.stop := by rw [hseq]; rfl
  have hend : slotEnd n m s = tryClose n
      ((if contiguous ((s.slotDone n r).seq n) r.arm.stop then s.slotDone n r else (s.slotDone n r).dropGate n).modAv n kzStart) := by
    simp only [slotEnd, hop, hrun, hk]
    rfl
  rw [hend, hcont]
  refine tryClose_of_open (o := o) ?_ hclose
  rw [(linkStart_only _ n).2.1]
  split
  · rw [hseq]
    exact hop
  · rw [dropGate_seq, hseq]
    exact hop

theorem slotEnd_last_spec (harms : (s.seq n).arms = []) : ∃ t, exec (.slotEnd n m) s = .next t ∧ (t.avn n).wg = false ∧
    (t.seq n).slotRun = none ∧ OtherAvenues n s t ∧ Untouched [.av] s t := by
  have hcont : contiguous (s.seq n) r.arm.stop = false := by simp [contiguous, harms]
  obtain ⟨hdone, hother, hu⟩ := slotDone_only s n r
  obtain ⟨hwg, hseq, hother', hu'⟩ := linkStart_only ((s.slotDone n r).dropGate n) n
  refine ⟨slotEnd n m s, rfl, ?_⟩
  rw [slotEnd_of_write m hop hclose hrun hk, hcont, if_neg (by decide)]
  refine ⟨hwg.trans (dropGate_wg _ n), ?_, (hother.trans (dropGate_otherAvenues _ n)).trans hother',
    (hu.trans (dropGate_untouched _ n)).trans hu'⟩
  rw [hseq, dropGate_seq]
  exact congrArg (fun x => x.seq.slotRun) hdone

theorem slotEnd_contiguous_spec (a : Arm) (as : List Arm) (harms : (s.seq n).arms = a :: as) (ha : a.kind = .write)
    (hstart : a.start = r.arm.stop) : ∃ t, exec (.slotEnd n m) s = .next t ∧ (t.avn n).wg = (s.avn n).wg ∧
      (t.seq n).slotRun = none ∧ OtherAvenues n s t ∧ Untouched [.av] s t := by
  have hcont : contiguous (s.seq n) r.arm.stop = true := by simp [contiguous, harms, ha, hstart]
  obtain ⟨hdone, hother, hu⟩ := slotDone_only s n r
  obtain ⟨hwg, hseq, hother', hu'⟩ := linkStart_only (s.slotDone n r) n
  refine ⟨slotEnd n m s, rfl, ?_⟩
  rw [slotEnd_of_write m hop hclose hrun hk, hcont, if_pos rfl]
  refine ⟨hwg.trans (congrArg Avenue.wg hdone :), ?_, hother.trans hother', hu.trans hu'⟩
  rw [hseq]
  exact congrArg (fun x => x.seq.slotRun) hdone

end Written

end Sys2Proof.Machine
end

section
/-! CERTIFICATE. The statement O23. -/

namespace Sys2Proof.Machine

/-- Settles O23: each action of the framer by what it leaves of the operation and its arms, each slot by its arm's kind. -/
theorem framerOperations : Obligations.FramerOperations := by
  refine ⟨framerOpen_spec, framerOpen_again_spec, arms_spec, framerCancel_spec, closeWaits_spec, closePlain_spec, closeSkew_spec,
    fun s n o a as i hop harms hrun hout hheat => ?_, fun s n o r m hop hclose hrun => ⟨?_, ?_, ?_⟩⟩
  · have h : SlotDue s n o a as := ⟨hop, harms, hrun, hout, hheat⟩
    refine ⟨fun hk hvalid hgA hgB hdsp hl4 => ⟨fun c => ?_, ?_⟩, ?_, ?_⟩
    · exact slotStart_found_spec h hk hvalid ⟨hgA, hgB, hdsp⟩ hl4
    · exact slotStart_missed_spec h hk hvalid ⟨hgA, hgB, hdsp⟩
    · exact fun hk hc => slotStart_write_spec h hk hc
    · exact fun hk hc => slotStart_late_spec h hk hc
  · exact slotEnd_read_spec m hop hclose hrun
  · exact slotEnd_last_spec m hop hclose hrun
  · exact fun a as hk => slotEnd_contiguous_spec m hop hclose hrun hk a as

end Sys2Proof.Machine
end

section
/-! SUPPORT. One Avenue changed together with register fields, the timing domains that a lane expects (R34), and the moves of the
timing lane between its states (R86, R92, R106, Table 3-2). -/

namespace Sys2Proof.Machine

/-! ### One Avenue and some fields changed -/

/-- No more than the listed fields and parts differ, and of the Avenues no more than `n`. -/
def AvenueFrame (n : Fin 4) (fs : List Fld) (ps : List Part) (s t : State) : Prop := OtherAvenues n s t ∧ Frame fs ps s t

namespace AvenueFrame

variable {n : Fin 4} {fs gs : List Fld} {ps qs : List Part} {s t u : State}

theorem refl (n : Fin 4) (fs : List Fld) (ps : List Part) (s : State) : AvenueFrame n fs ps s s := ⟨.refl n s, .refl fs s, .refl ps s⟩

theorem trans (h : AvenueFrame n fs ps s t) (h' : AvenueFrame n fs ps t u) : AvenueFrame n fs ps s u :=
  ⟨h.1.trans h'.1, h.2.1.trans h'.2.1, h.2.2.trans h'.2.2⟩

theorem mono (h : AvenueFrame n fs ps s t) (hf : fs ⊆ gs) (hp : ps ⊆ qs) : AvenueFrame n gs qs s t :=
  ⟨h.1, h.2.1.mono hf, h.2.2.mono hp⟩

theorem put (h : AvenueFrame n fs ps s t) {f : Fld} (hf : f ∈ fs) (hr : .regs ∈ ps) (v : Nat) : AvenueFrame n fs ps s (t.put f v) :=
  ⟨h.1.of_av_eq rfl, h.2.1.put hf v, h.2.2.put hr f v⟩

theorem modAv (h : AvenueFrame n fs ps s t) (ha : .av ∈ ps) (f : Avenue → Avenue) : AvenueFrame n fs ps s (t.modAv n f) :=
  ⟨h.1.modAv f, h.2.1.of_regs_eq rfl, h.2.2.modAv ha n f⟩

theorem raise (h : AvenueFrame n fs ps s t) (hf : .flt ∈ ps) (src d : Nat) : AvenueFrame n fs ps s (t.raise src d) :=
  ⟨h.1.raise src d, h.2.1.of_regs_eq rfl, h.2.2.raise hf src d⟩

theorem dropGate (h : AvenueFrame n fs ps s t) (ha : .av ∈ ps) : AvenueFrame n fs ps s (t.dropGate n) :=
  ⟨h.1.trans (dropGate_otherAvenues t n), h.2.1.of_regs_eq (dropGate_regs t n), h.2.2.step (dropGate_untouched t n) (by simpa using ha)⟩

theorem endOp (h : AvenueFrame n fs ps s t) (ha : .av ∈ ps) (st : Nat) : AvenueFrame n fs ps s (t.endOp n st) := by
  unfold State.endOp
  split
  · exact h
  · split
    · exact h.modAv ha _
    · exact h

theorem beginAttempt (h : AvenueFrame n fs ps s t) (hf : AV_TLSTAT_FMISM n ∈ fs) (hr : .regs ∈ ps) (ha : .av ∈ ps) :
    AvenueFrame n fs ps s (t.beginAttempt n) := (h.put hf hr 0).modAv ha _

theorem expect (h : AvenueFrame n fs ps s t) {tds : List Nat} (hf : tds.map tdExpect ⊆ fs) (hr : .regs ∈ ps) (b : Bool) :
    AvenueFrame n fs ps s (t.expect tds b) := by
  induction tds generalizing t with
  | nil => exact h
  | cons d tds ih =>
    obtain ⟨hd, htds⟩ := List.cons_subset.1 hf
    exact ih (h.put hd hr _) htds

theorem get (h : AvenueFrame n fs ps s t) {g : Fld} (hg : ∀ f ∈ fs, f.apart g) : t.get g = s.get g := h.2.1 g hg

end AvenueFrame

/-! ### Fields of the Avenues' registers -/

theorem State.get_put_of_lt (s : State) {f : Fld} {v : Nat} (h : f.lo + f.wid ≤ 32) (hv : v < 2 ^ f.wid) : (s.put f v).get f = v :=
  (State.get_put_self s f v h).trans (Nat.mod_eq_of_lt hv)

/-- A counter field goes up by one, saturating at its largest value `m`. -/
theorem bump_get_max (s : State) {f : Fld} {m : Nat} (h : f.lo + f.wid ≤ 32) (hm : 2 ^ f.wid - 1 = m) :
    (s.bump f).get f = min m (s.get f + 1) := hm ▸ bump_get s f h

@[simp] theorem State.get_modLane (s : State) (n : Fin 4) (f : Lane → Lane) (g : Fld) : (s.modLane n f).get g = s.get g :=
  State.get_modAv ..

/-- Two registers of an Avenue at different offsets are different registers. -/
theorem avOffset_ne (n : Nat) {a b : Nat} (h : a ≠ b) : avBase n + a ≠ avBase n + b := fun e => h (Nat.add_left_cancel e)

theorem avBase_le (n k : Nat) : 0x1000000 ≤ avBase n + k := by
  unfold avBase
  omega

/-! ### Expected timing domains (R34) -/

theorem tdExpect_apart {d e : Nat} (h : d ≠ e) : (tdExpect d).apart (tdExpect e) := by
  unfold tdExpect Fld.apart
  split <;> split <;> simp only [TIM_TDEXP0, TIM_TDEXP1] <;> omega

/-- The EXPECT bits lie below the Avenues' registers. -/
theorem tdExpect_addr_ne {g : Fld} (h : 0x1000000 ≤ g.addr) (d : Nat) : (tdExpect d).addr ≠ g.addr := by
  refine Nat.ne_of_lt (Nat.lt_of_lt_of_le ?_ h)
  unfold tdExpect
  split <;> simp only [TIM_TDEXP0, TIM_TDEXP1] <;> omega

theorem expect_get_of_not_mem (s : State) {tds : List Nat} {d : Nat} (h : d ∉ tds) (b : Bool) :
    (s.expect tds b).get (tdExpect d) = s.get (tdExpect d) := by
  refine ((AvenueFrame.refl 0 (tds.map tdExpect) [.regs] s).expect (List.Subset.refl _) (by simp) b).get fun f hf => ?_
  obtain ⟨e, he, rfl⟩ := List.mem_map.1 hf
  exact tdExpect_apart fun hde => h (hde ▸ he)

theorem expect_get_of_mem (s : State) {tds : List Nat} {d : Nat} (h : d ∈ tds) (hd : d < 64) (b : Bool) :
    (s.expect tds b).get (tdExpect d) = if b then 1 else 0 := by
  induction tds generalizing s with
  | nil => cases h
  | cons e tds ih =>
    by_cases hm : d ∈ tds
    · exact ih _ hm
    · obtain rfl : d = e := (List.mem_cons.1 h).resolve_right hm
      refine (expect_get_of_not_mem _ hm b).trans (State.get_putb_self s _ b ?_ ?_)
      · unfold tdExpect; split <;> dsimp only <;> omega
      · unfold tdExpect; split <;> exact Nat.one_pos

theorem expect_get_elsewhere (s : State) {g : Fld} (h : 0x1000000 ≤ g.addr) (tds : List Nat) (b : Bool) :
    (s.expect tds b).get g = s.get g := by
  refine ((AvenueFrame.refl 0 (tds.map tdExpect) [.regs] s).expect (List.Subset.refl _) (by simp) b).get fun f hf => ?_
  obtain ⟨e, -, rfl⟩ := List.mem_map.1 hf
  exact .inl (tdExpect_addr_ne h e)

theorem expect_av (s : State) (tds : List Nat) (b : Bool) : (s.expect tds b).av = s.av :=
  ((AvenueFrame.refl 0 (tds.map tdExpect) [.regs] s).expect (List.Subset.refl _) (by simp) b).2.2 .av (by decide)

theorem laneDomains_lt {n : Fin 4} {d : Nat} (h : d ∈ laneDomains n) : d < 64 := by
  simp only [laneDomains, List.mem_cons, List.not_mem_nil, or_false] at h
  omega

/-! ### The lane under a change of another part of its Avenue -/

@[simp] theorem State.avn_put (s : State) (f : Fld) (v : Nat) (n : Fin 4) : (s.put f v).avn n = s.avn n :=
  avn_of_av_eq (State.put_av ..) n

theorem lane_modSeq (s : State) (n : Fin 4) (f : Seq → Seq) : ((s.modSeq n f).avn n).lane = (s.avn n).lane := by
  rw [(modSeq_only s n f).1]

theorem lane_flagLane (s : State) (n : Fin 4) : ((s.flagLane n).avn n).lane = (s.avn n).lane := lane_modSeq ..

theorem lane_modLane (s : State) (n : Fin 4) (f : Lane → Lane) : ((s.modLane n f).avn n).lane = f (s.avn n).lane :=
  congrArg Avenue.lane (modAv_only s n _).1

theorem lane_dropGate (s : State) (n : Fin 4) : ((s.dropGate n).avn n).lane = (s.avn n).lane := by
  unfold State.dropGate
  split
  · simp [State.modReaders]
  · rfl

theorem lane_endOp (s : State) (n : Fin 4) (st : Nat) : ((s.endOp n st).avn n).lane = (s.avn n).lane := by
  unfold State.endOp
  split
  · rfl
  · split
    · exact lane_modSeq ..
    · rfl

/-- The count of a write fault, the drop of write gate and the end of the operation leave the lane. -/
theorem lane_faultEnd (s : State) (n : Fin 4) :
    (((((s.bump (AV_WFCNT_FAULTS n)).dropGate n).endOp n 5).modSeq n (fun q => { q with slotRun := none })).avn n).lane =
      (s.avn n).lane := by
  rw [lane_modSeq, lane_endOp, lane_dropGate, State.bump, State.avn_put]

theorem lane_writeFault (s : State) (n : Fin 4) (c : Nat) : ((s.writeFault n c).avn n).lane = (s.avn n).lane := by
  unfold State.writeFault
  split
  · rfl
  · dsimp only
    rw [State.avn_raise]
    split_ifs <;> simp only [State.avn_modAv_self, lane_faultEnd, State.avn_put]

theorem lane_inhibit (s : State) (n : Fin 4) (c : Nat) : ((s.inhibit n c).avn n).lane = (s.avn n).lane := by
  unfold State.inhibit
  split
  · rw [lane_writeFault, avn_of_av_eq (State.raiseIf_av ..)]
  · exact lane_dropGate s n

/-! ### Moves of the lane between its states (R86, R92, R106) -/

/-- The lane in state `st`: where that leaves TRACK or COAST, the operation has the timing-lane flag and cause 3 has arisen. -/
def State.laneMoved (s : State) (n : Fin 4) (st : Nat) : State :=
  if s.laneTracks n && !(st == 3 || st == 4) then ((s.put (AV_TLSTAT_STATE n) st).flagLane n).inhibit n 3
  else s.put (AV_TLSTAT_STATE n) st

section Moves
variable (s : State) (n : Fin 4)

theorem laneTo_plain {st : Nat} (h2 : st ≠ 2) (h5 : st ≠ 5) : s.laneTo n st = s.laneMoved n st := by
  simp only [State.laneTo, if_neg h2, if_neg h5]
  rfl

theorem laneTo_acquire : s.laneTo n 2 = (s.laneMoved n 2).beginAttempt n := by
  simp only [State.laneTo, if_true, if_neg (show ¬ 2 = 5 by decide)]
  rfl

theorem laneTo_lost : s.laneTo n 5 = (s.laneMoved n 5).endOp n 4 := by
  simp only [State.laneTo, if_true, if_neg (show ¬ 5 = 2 by decide)]
  rfl

variable {s n}

theorem laneTracks_of_state {k : Nat} (h : s.get (AV_TLSTAT_STATE n) = k) (h3 : k ≠ 3) (h4 : k ≠ 4) : s.laneTracks n = false := by
  simp [State.laneTracks, State.laneState, h, h3, h4]

theorem laneMoved_of_kept {st : Nat} (h : s.laneTracks n = false ∨ st = 3 ∨ st = 4) :
    s.laneMoved n st = s.put (AV_TLSTAT_STATE n) st := by
  have hstay : (s.laneTracks n && !(st == 3 || st == 4)) = false := by
    rcases h with h | rfl | rfl
    · rw [h, Bool.false_and]
    · exact Bool.and_false _
    · exact Bool.and_false _
  rw [State.laneMoved, hstay]
  exact if_neg Bool.false_ne_true

variable (s n)

theorem laneMoved_lane (st : Nat) : ((s.laneMoved n st).avn n).lane = (s.avn n).lane := by
  unfold State.laneMoved
  split
  · rw [lane_inhibit, lane_flagLane, State.avn_put]
  · rw [State.avn_put]

/-- A write inhibit cause leaves the lane's state. -/
theorem inhibit_state (c : Nat) : (s.inhibit n c).get (AV_TLSTAT_STATE n) = s.get (AV_TLSTAT_STATE n) := by
  refine State.get_of_rd_eq (inhibit_wordsBut s n c _ ?_)
  simp only [List.mem_cons, List.not_mem_nil, or_false, not_or]
  exact ⟨avOffset_ne n (by decide), avOffset_ne n (by decide)⟩

theorem laneMoved_state {st : Nat} (h : st < 8) : (s.laneMoved n st).get (AV_TLSTAT_STATE n) = st := by
  have hput : (s.put (AV_TLSTAT_STATE n) st).get (AV_TLSTAT_STATE n) = st := State.get_put_of_lt s (Nat.le_of_ble_eq_true rfl) h
  unfold State.laneMoved
  split
  · rw [inhibit_state, State.flagLane, State.modOp, State.modSeq, State.get_modAv]
    exact hput
  · exact hput

/-- The timing-lane flag does not decide whether an operation writes. -/
theorem writing_flagLane : (s.flagLane n).writing n = s.writing n := by
  unfold State.writing State.flagLane State.modOp
  rw [State.seq_modSeq_self]
  dsimp only
  rcases (s.seq n).op with - | o
  · rfl
  · simp only [Option.map_some]
    split <;> rfl

/-- With no operation writing, a move changes no field but STATE and no part but the Avenue. -/
theorem laneMoved_frame (h : s.writing n = false) (st : Nat) : AvenueFrame n [AV_TLSTAT_STATE n] [.regs, .av] s (s.laneMoved n st) := by
  have hput : AvenueFrame n [AV_TLSTAT_STATE n] [.regs, .av] s (s.put (AV_TLSTAT_STATE n) st) :=
    .put (.refl ..) (List.mem_singleton_self _) (by simp) st
  unfold State.laneMoved
  split
  · have hput_idle : (s.put (AV_TLSTAT_STATE n) st).writing n = s.writing n :=
      writing_congr (congrArg Avenue.seq (State.avn_put ..))
    rw [inhibit_of_idle ((writing_flagLane _ n).trans (hput_idle.trans h))]
    exact (hput.modAv (by simp) _).dropGate (by simp)
  · exact hput

/-! ### An attempt begins (R86, R88, R91) -/

theorem beginAttempt_lane : ((s.beginAttempt n).avn n).lane =
    { (s.avn n).lane with lockRun := 0, lossRun := 0, ampRun := 0, mismRun := 0, t0 := s.time } := by
  rw [State.beginAttempt, lane_modLane, State.avn_put]

theorem beginAttempt_fmism : (s.beginAttempt n).get (AV_TLSTAT_FMISM n) = 0 := by
  rw [State.beginAttempt, State.get_modLane]
  exact State.get_put_of_lt s (Nat.le_of_ble_eq_true rfl) (Nat.le_of_ble_eq_true rfl)

theorem beginAttempt_get {g : Fld} (hg : (AV_TLSTAT_FMISM n).apart g) : (s.beginAttempt n).get g = s.get g := by
  rw [State.beginAttempt, State.get_modLane, State.get_put_of_apart s 0 hg]

theorem beginAttempt_state : (s.beginAttempt n).get (AV_TLSTAT_STATE n) = s.get (AV_TLSTAT_STATE n) :=
  beginAttempt_get s n (.inr (.inl (Nat.le_of_ble_eq_true rfl)))

end Moves

end Sys2Proof.Machine
end

section
/-! CERTIFICATE. The statement O12: the states of the timing lane (R84 to R92, Table 3-2), with no operation writing. -/

namespace Sys2Proof.Machine

theorem orOne_eq_max (v : Nat) : orOne v = max 1 v := by
  unfold orOne
  split <;> omega

/-! ### The lane enabled and disabled (R34, R84, R86, R92) -/

/-- The fields that enabling and disabling the lane of Avenue `n` change. -/
def laneSwitchFlds (n : Fin 4) : List Fld := AV_TLCTL_EN n :: AV_TLSTAT_STATE n :: (laneDomains n).map tdExpect

theorem expect_subset_laneSwitchFlds (n : Fin 4) : (laneDomains n).map tdExpect ⊆ laneSwitchFlds n :=
  fun _ hf => List.mem_cons_of_mem _ (List.mem_cons_of_mem _ hf)

theorem laneEnable_of_off {s : State} {n : Fin 4} (h : s.get (AV_TLSTAT_STATE n) = 0) : laneEnable n s =
    (((s.putb (AV_TLCTL_EN n) true).expect (laneDomains n) true).put (AV_TLSTAT_STATE n) 1).modLane n (fun l => { l with fw := 0 }) := by
  have hoff : ((s.putb (AV_TLCTL_EN n) true).expect (laneDomains n) true).get (AV_TLSTAT_STATE n) = 0 := by
    rw [expect_get_elsewhere _ (avBase_le ..), State.get_putb_elsewhere _ _ _ _ (.inl (avOffset_ne n (by decide))), h]
  unfold laneEnable
  rw [if_pos (show s.laneState n = 0 from h), laneTo_plain _ n (by decide) (by decide),
    laneMoved_of_kept (.inl (laneTracks_of_state hoff (by decide) (by decide)))]

theorem laneEnable_spec (s : State) (n : Fin 4) (h : s.get (AV_TLSTAT_STATE n) = 0) : ∃ t, exec (.timingLaneEnable n) s = .next t ∧
    t.get (AV_TLSTAT_STATE n) = 1 ∧ t.get (AV_TLCTL_EN n) = 1 ∧ t.avn n = { s.avn n with lane := { (s.avn n).lane with fw := 0 } } ∧
    (∀ d ∈ laneDomains n, t.get (tdExpect d) = 1) ∧ OtherAvenues n s t ∧
    Frame (AV_TLCTL_EN n :: AV_TLSTAT_STATE n :: (laneDomains n).map tdExpect) [.regs, .av] s t := by
  refine ⟨laneEnable n s, rfl, ?_⟩
  rw [laneEnable_of_off h]
  refine ⟨?_, ?_, ?_, fun d hd => ?_, ?_⟩
  · rw [State.get_modLane]
    exact State.get_put_of_lt _ (Nat.le_of_ble_eq_true rfl) (Nat.le_of_ble_eq_true rfl)
  · rw [State.get_modLane, State.get_put_elsewhere _ _ _ _ (.inl (avOffset_ne n (by decide))),
      expect_get_elsewhere _ (avBase_le ..), State.get_putb_self _ _ _ (Nat.le_of_ble_eq_true rfl) Nat.one_pos, if_pos rfl]
  · rw [State.modLane, State.avn_modAv_self, State.avn_put, avn_of_av_eq (expect_av ..), State.putb, State.avn_put]
  · rw [State.get_modLane, State.get_put_elsewhere _ _ _ _ (.inl (tdExpect_addr_ne (avBase_le ..) d).symm),
      expect_get_of_mem _ hd (laneDomains_lt hd), if_pos rfl]
  · exact ((((AvenueFrame.refl ..).put (f := AV_TLCTL_EN n) (List.mem_cons_self ..) (by simp) _).expect
      (expect_subset_laneSwitchFlds n) (by simp) _).put (f := AV_TLSTAT_STATE n) (by simp) (by simp) _).modAv (by simp) _

theorem laneDisable_spec (s : State) (n : Fin 4) (h : s.writing n = false) : ∃ t, exec (.timingLaneDisable n) s = .next t ∧
    t.get (AV_TLSTAT_STATE n) = 0 ∧ t.get (AV_TLCTL_EN n) = 0 ∧ (t.avn n).wg = false ∧
    (∀ d ∈ laneDomains n, t.get (tdExpect d) = 0) ∧ OtherAvenues n s t ∧
    Frame (AV_TLCTL_EN n :: AV_TLSTAT_STATE n :: (laneDomains n).map tdExpect) [.regs, .av] s t := by
  refine ⟨laneDisable n s, rfl, ?_⟩
  have hidle : (s.putb (AV_TLCTL_EN n) false).writing n = false := (writing_congr (congrArg Avenue.seq (State.avn_put ..))).trans h
  have hmoved := laneMoved_frame _ n hidle 0
  have hgate : ∀ (u : State) (g : Fld), (u.dropGate n).get g = u.get g := fun u => State.get_of_regs_eq (dropGate_regs u n)
  rw [laneDisable, laneTo_plain _ n (by decide) (by decide)]
  refine ⟨?_, ?_, ?_, fun d hd => ?_, ?_⟩
  · rw [expect_get_elsewhere _ (avBase_le ..), hgate, laneMoved_state _ n (by decide)]
  · rw [expect_get_elsewhere _ (avBase_le ..), hgate, hmoved.get (by simpa using .inl (avOffset_ne n (by decide))),
      State.get_putb_self _ _ _ (Nat.le_of_ble_eq_true rfl) Nat.one_pos]
    rfl
  · rw [avn_of_av_eq (expect_av ..)]
    exact dropGate_wg ..
  · rw [expect_get_of_mem _ hd (laneDomains_lt hd)]
    rfl
  · exact ((((AvenueFrame.refl ..).put (f := AV_TLCTL_EN n) (List.mem_cons_self ..) (by simp) _).trans
      (hmoved.mono (by simp) (by simp))).dropGate (by simp)).expect (expect_subset_laneSwitchFlds n) (by simp) _

/-! ### RELOCK (Table 3-2) -/

theorem relock_spec (s : State) (n : Fin 4) (hw : s.writing n = false) (h : s.get (AV_TLSTAT_STATE n) ∈ [1, 3, 4, 5]) :
    ∃ t, exec (.relock n) s = .next t ∧ t.get (AV_TLSTAT_STATE n) = 2 ∧ t.get (AV_TLSTAT_FMISM n) = 0 ∧
      (t.avn n).lane = { (s.avn n).lane with lockRun := 0, lossRun := 0, ampRun := 0, mismRun := 0, t0 := s.time } ∧
      OtherAvenues n s t ∧ Frame [AV_TLSTAT_STATE n, AV_TLSTAT_FMISM n] [.regs, .av] s t := by
  refine ⟨laneRelock n s, rfl, ?_⟩
  have hmoved := laneMoved_frame s n hw 2
  have htime : (s.laneMoved n 2).time = s.time := congrArg (fun x => x.now.toNat) (hmoved.2.2 .tim (by decide))
  have hfrom : s.laneState n = 1 ∨ s.laneState n = 3 ∨ s.laneState n = 4 ∨ s.laneState n = 5 := by simpa [State.laneState] using h
  rw [laneRelock, if_pos hfrom, laneTo_acquire]
  exact ⟨(beginAttempt_state ..).trans (laneMoved_state s n (by decide)), beginAttempt_fmism ..,
    by rw [beginAttempt_lane, laneMoved_lane, htime], (hmoved.mono (by simp) (by simp)).beginAttempt (by simp) (by simp) (by simp)⟩

theorem relock_ignored (s : State) (n : Fin 4) (h : s.get (AV_TLSTAT_STATE n) ∈ [0, 2]) : exec (.relock n) s = .next s := by
  have hfrom : ¬ (s.laneState n = 1 ∨ s.laneState n = 3 ∨ s.laneState n = 4 ∨ s.laneState n = 5) := by
    simp only [List.mem_cons, List.not_mem_nil, or_false] at h
    unfold State.laneState
    omega
  exact congrArg Host.Outcome.next (if_neg hfrom)

/-! ### Attempts without lock (R88, Table 3-2) -/

/-- The attempt counted and its event raised. -/
def State.attemptFailed (s : State) (n : Fin 4) : State :=
  ((s.put (AV_TLSTAT_FAILS n) (min 15 (s.get (AV_TLSTAT_FAILS n) + 1))).bump (AV_TLCNT_LKFAILS n)).raise (avSrc n 32)

theorem attemptFailed_fields (s : State) (n : Fin 4) : (s.attemptFailed n).get (AV_TLSTAT_STATE n) = s.get (AV_TLSTAT_STATE n) ∧
    (s.attemptFailed n).get (AV_TLSTAT_FAILS n) = min 15 (s.get (AV_TLSTAT_FAILS n) + 1) ∧
    (s.attemptFailed n).get (AV_TLCNT_LKFAILS n) = min 255 (s.get (AV_TLCNT_LKFAILS n) + 1) := by
  have hcnt : (AV_TLCNT_LKFAILS n).addr ≠ (AV_TLSTAT_FAILS n).addr := avOffset_ne n (by decide)
  unfold State.attemptFailed
  rw [State.get_raise, State.get_raise, State.get_raise]
  refine ⟨?_, ?_, ?_⟩
  · rw [bump_get_elsewhere _ (avOffset_ne n (by decide)), State.get_put_elsewhere _ _ _ _ (.inr (.inl (Nat.le_of_ble_eq_true rfl)))]
  · rw [bump_get_elsewhere _ hcnt]
    exact State.get_put_of_lt _ (Nat.le_of_ble_eq_true rfl) (show _ < 2 ^ 4 by omega)
  · rw [bump_get_max (m := 255) _ (Nat.le_of_ble_eq_true rfl) rfl, State.get_put_elsewhere _ _ _ _ (.inl hcnt.symm)]

theorem attemptFailed_frame (s : State) (n : Fin 4) : AvenueFrame n
    [AV_TLSTAT_STATE n, AV_TLSTAT_FAILS n, AV_TLSTAT_FMISM n, AV_TLCNT_LKFAILS n] [.regs, .av, .flt] s (s.attemptFailed n) :=
  ((((AvenueFrame.refl ..).put (f := AV_TLSTAT_FAILS n) (by simp) (by simp) _).put (f := AV_TLCNT_LKFAILS n) (by simp) (by simp) _).raise
    (by simp) _ _)

theorem attemptFailed_raised (s : State) (n : Fin 4) : Raised1 (428 + 96 * n.val + 32) 0 s (s.attemptFailed n) := by
  unfold State.attemptFailed State.bump
  exact raised1_of_untouched (ps := [.regs]) (((Untouched.refl _ s).put (by simp) _ _).put (by simp) _ _) (by simp) (by simp) _ _

section Timeout
variable {s : State} {n : Fin 4} (h : s.get (AV_TLSTAT_STATE n) = 2)
include h

theorem acquireTimeout_last (hlast : max 1 (s.get (AV_TLCTL_RELOCKS n)) ≤ min 15 (s.get (AV_TLSTAT_FAILS n) + 1)) :
    acquireTimeout n s = (((s.attemptFailed n).raise (avSrc n 40)).put (AV_TLSTAT_STATE n) 5).endOp n 4 := by
  have hstate : ((s.attemptFailed n).raise (avSrc n 40)).get (AV_TLSTAT_STATE n) = 2 :=
    (State.get_raise ..).trans ((attemptFailed_fields s n).1.trans h)
  rw [← laneMoved_of_kept (.inl (laneTracks_of_state hstate (by decide) (by decide))), ← laneTo_lost]
  rw [← orOne_eq_max] at hlast
  simp only [acquireTimeout, if_pos (show s.laneState n = 2 from h), if_pos hlast]
  rfl

theorem acquireTimeout_again (hmore : ¬ max 1 (s.get (AV_TLCTL_RELOCKS n)) ≤ min 15 (s.get (AV_TLSTAT_FAILS n) + 1)) :
    acquireTimeout n s = (s.attemptFailed n).beginAttempt n := by
  rw [← orOne_eq_max] at hmore
  simp only [acquireTimeout, if_pos (show s.laneState n = 2 from h), if_neg hmore]
  rfl

end Timeout

theorem acquireTimeout_spec (s : State) (n : Fin 4) (h : s.get (AV_TLSTAT_STATE n) = 2) :
    let fails := min 15 (s.get (AV_TLSTAT_FAILS n) + 1)
    ∃ t, exec (.acquireTimeout n) s = .next t ∧ t.get (AV_TLSTAT_FAILS n) = fails ∧
      t.get (AV_TLCNT_LKFAILS n) = min 255 (s.get (AV_TLCNT_LKFAILS n) + 1) ∧
      (fails < max 1 (s.get (AV_TLCTL_RELOCKS n)) → t.get (AV_TLSTAT_STATE n) = 2 ∧ (t.avn n).lane.t0 = s.time ∧
        Raised1 (428 + 96 * n.val + 32) 0 s t) ∧
      (max 1 (s.get (AV_TLCTL_RELOCKS n)) ≤ fails → t.get (AV_TLSTAT_STATE n) = 5 ∧
        t.flt.inbox = s.flt.inbox ++ [⟨428 + 96 * n.val + 32, s.time, 0, false⟩, ⟨428 + 96 * n.val + 40, s.time, 0, false⟩]) ∧
      OtherAvenues n s t ∧ Frame [AV_TLSTAT_STATE n, AV_TLSTAT_FAILS n, AV_TLSTAT_FMISM n, AV_TLCNT_LKFAILS n]
        [.regs, .av, .flt] s t := by
  intro fails
  refine ⟨acquireTimeout n s, rfl, ?_⟩
  obtain ⟨hstate, hfails, hcount⟩ := attemptFailed_fields s n
  have hframe := attemptFailed_frame s n
  have htime : (s.attemptFailed n).time = s.time := congrArg (fun x => x.now.toNat) (hframe.2.2 .tim (by decide))
  by_cases hlast : max 1 (s.get (AV_TLCTL_RELOCKS n)) ≤ fails
  · rw [acquireTimeout_last h hlast]
    have hend := ((AvenueFrame.refl n [AV_TLSTAT_STATE n] [.regs, .av] ((s.attemptFailed n).raise (avSrc n 40))).put
      (List.mem_singleton_self _) (by simp) 5).endOp (by simp) 4
    refine ⟨?_, ?_, fun hlt => absurd hlast (Nat.not_le_of_lt hlt), fun _ => ⟨?_, ?_⟩, ?_⟩
    · rw [hend.get (by simpa using .inr (.inr (Nat.le_of_ble_eq_true rfl))), State.get_raise, hfails]
    · rw [hend.get (by simpa using .inl (avOffset_ne n (by decide))), State.get_raise, hcount]
    · rw [State.get_of_regs_eq (endOp_regs ..)]
      exact State.get_put_of_lt _ (Nat.le_of_ble_eq_true rfl) (Nat.le_of_ble_eq_true rfl)
    · rw [hend.2.2 .flt (by decide), State.raise_flt, attemptFailed_raised s n, htime]
      exact List.append_assoc ..
    · exact ((hframe.raise (by simp) _ _).put (f := AV_TLSTAT_STATE n) (by simp) (by simp) 5).endOp (by simp) 4
  · rw [acquireTimeout_again h hlast]
    refine ⟨?_, ?_, fun _ => ⟨?_, ?_, ?_⟩, fun hle => absurd hle hlast, ?_⟩
    · rw [beginAttempt_get (g := AV_TLSTAT_FAILS n) _ n (.inr (.inr (Nat.le_of_ble_eq_true rfl))), hfails]
    · rw [beginAttempt_get (g := AV_TLCNT_LKFAILS n) _ n (.inl (avOffset_ne n (by decide))), hcount]
    · rw [beginAttempt_state, hstate, h]
    · rw [beginAttempt_lane, htime]
    · exact Eq.trans (((AvenueFrame.refl n [AV_TLSTAT_FMISM n] [.regs, .av] _).beginAttempt (by simp) (by simp) (by simp)).2.2 .flt
        (by decide)) (attemptFailed_raised s n)
    · exact hframe.beginAttempt (by simp) (by simp) (by simp)

theorem wedgeBegin_spec (s : State) (n : Fin 4) (h : s.get (AV_TLSTAT_STATE n) = 3) : ∃ t, exec (.timingWedgeBegin n) s = .next t ∧
    t.get (AV_TLSTAT_STATE n) = 4 ∧ Frame [AV_TLSTAT_STATE n] [.regs] s t := by
  refine ⟨wedgeBegin n s, rfl, ?_⟩
  rw [wedgeBegin, if_pos (show s.laneState n = 3 from h), laneTo_plain s n (by decide) (by decide), laneMoved_of_kept (.inr (.inr rfl))]
  exact ⟨State.get_put_of_lt s (Nat.le_of_ble_eq_true rfl) (Nat.le_of_ble_eq_true rfl),
    ((AvenueFrame.refl n ..).put (List.mem_singleton_self _) (by simp) 4).2⟩

/-- Settles O12: each command of the lane by the one move of its state that it makes. -/
theorem timingLaneStates : Obligations.TimingLaneStates :=
  ⟨laneEnable_spec, laneDisable_spec, relock_spec, relock_ignored, acquireTimeout_spec, wedgeBegin_spec⟩

end Sys2Proof.Machine
end

section
/-! CERTIFICATE. The statement O13: the update of the timing lane in ACQUIRE and TRACK (R85, R88). -/

namespace Sys2Proof.Machine

/-! ### The loop (R85, Table 3-9) -/

/-- The registers of the lane's display after an update that left `s`. -/
def State.loopShown (s : State) (n : Fin 4) (e : Int) (amp : Nat) : State :=
  ((s.puti (AV_TLFREQ_FOFS n) (satInt 16 (Int.tdiv ((s.avn n).lane.fw * 1000000) (2 ^ 24)))).puti (AV_TLFREQ_PHERR n)
    (max (-127) (min 127 e))).put (AV_TLFREQ_AMP n) (min 15 amp)

/-- FW and the phase after a mean phase `e`, with the gains `kp` and `ki`. -/
def Lane.pulled (l : Lane) (e : Int) (kp ki : Nat) : Lane := { l with fw := l.fw - e / 2 ^ ki, phase := l.phase - e / 2 ^ kp }

/-- The fields in which an update shows the loop (Table 3-9). -/
def loopFlds (n : Fin 4) : List Fld := [AV_TLFREQ_FOFS n, AV_TLFREQ_PHERR n, AV_TLFREQ_AMP n]

section Loop
variable {s : State} {n : Fin 4} (e : Int) (amp : Nat)

theorem laneLoop_of_acquire (h : s.get (AV_TLSTAT_STATE n) = 2) : laneLoop n e amp s =
    (s.modLane n (fun l => l.pulled e (s.get (AV_TLCTL_KPA n)) (s.get (AV_TLCTL_KIA n)))).loopShown n e amp := by
  simp only [laneLoop, if_pos (show s.laneState n = 2 from h)]
  rfl

theorem laneLoop_of_track (h : s.get (AV_TLSTAT_STATE n) = 3) : laneLoop n e amp s =
    (s.modLane n (fun l => l.pulled e (s.get (AV_TLCTL_KPT n)) (s.get (AV_TLCTL_KIT n)))).loopShown n e amp := by
  simp only [laneLoop, if_neg (show ¬ s.laneState n = 2 by rw [State.laneState, h]; decide)]
  rfl

theorem laneLoop_frame (s : State) (n : Fin 4) : AvenueFrame n (loopFlds n) [.regs, .av] s (laneLoop n e amp s) :=
  ((((AvenueFrame.refl ..).modAv (by simp) _).put (f := AV_TLFREQ_FOFS n) (by simp [loopFlds]) (by simp) _).put
    (f := AV_TLFREQ_PHERR n) (by simp [loopFlds]) (by simp) _).put (f := AV_TLFREQ_AMP n) (by simp [loopFlds]) (by simp) _

theorem loopShown_lane (s : State) (n : Fin 4) : ((s.loopShown n e amp).avn n).lane = (s.avn n).lane := by
  simp only [State.loopShown, State.puti, State.avn_put]

/-- The loop shows its values in TLFREQ alone. -/
theorem laneLoop_get (s : State) (n : Fin 4) {g : Fld} (h : AV_TLFREQ n ≠ g.addr) : (laneLoop n e amp s).get g = s.get g := by
  refine (laneLoop_frame e amp s n).get fun f hf => .inl ?_
  simp only [loopFlds, List.mem_cons, List.not_mem_nil, or_false] at hf
  rcases hf with rfl | rfl | rfl <;> exact h

end Loop

/-! ### The lock criterion (R88) -/

/-- The run of updates within LKTHR after a mean phase `e`. -/
def State.lockRunNext (s : State) (n : Fin 4) (e : Int) : Nat :=
  if e.natAbs ≤ s.get (AV_TLTHR_LKTHR n) then (s.avn n).lane.lockRun + 1 else 0

/-- The lane with that run counted. -/
def State.lockCounted (s : State) (n : Fin 4) (e : Int) : State := s.modLane n (fun l => { l with lockRun := s.lockRunNext n e })

section Lock
variable {s : State} {n : Fin 4} (e : Int)

theorem laneLock_of_locked (h : max 1 (s.get (AV_TLTHR_LKCNT n)) ≤ s.lockRunNext n e) : laneLock n e s =
    (((s.lockCounted n e).put (AV_TLSTAT_FAILS n) 0).put (AV_TLSTAT_ACQT n) (min 0xFFFF (s.time - (s.avn n).lane.t0))).put
      (AV_TLSTAT_STATE n) 3 := by
  rw [← laneMoved_of_kept (.inr (.inl rfl)), ← laneTo_plain _ n (by decide) (by decide)]
  rw [← orOne_eq_max] at h
  exact if_pos h

theorem laneLock_of_unlocked (h : ¬ max 1 (s.get (AV_TLTHR_LKCNT n)) ≤ s.lockRunNext n e) : laneLock n e s = s.lockCounted n e := by
  rw [← orOne_eq_max] at h
  exact if_neg h

theorem lockCounted_lane (s : State) (n : Fin 4) :
    ((s.lockCounted n e).avn n).lane = { (s.avn n).lane with lockRun := s.lockRunNext n e } := lane_modLane ..

theorem laneLock_lane (s : State) (n : Fin 4) : ((laneLock n e s).avn n).lane = { (s.avn n).lane with lockRun := s.lockRunNext n e } := by
  by_cases h : max 1 (s.get (AV_TLTHR_LKCNT n)) ≤ s.lockRunNext n e
  · rw [laneLock_of_locked e h, State.avn_put, State.avn_put, State.avn_put, lockCounted_lane]
  · rw [laneLock_of_unlocked e h, lockCounted_lane]

theorem laneLock_fields (h : max 1 (s.get (AV_TLTHR_LKCNT n)) ≤ s.lockRunNext n e) : (laneLock n e s).get (AV_TLSTAT_STATE n) = 3 ∧
    (laneLock n e s).get (AV_TLSTAT_FAILS n) = 0 ∧
    (laneLock n e s).get (AV_TLSTAT_ACQT n) = min 0xFFFF (s.time - (s.avn n).lane.t0) := by
  rw [laneLock_of_locked e h]
  refine ⟨?_, ?_, ?_⟩
  · exact State.get_put_of_lt _ (Nat.le_of_ble_eq_true rfl) (Nat.le_of_ble_eq_true rfl)
  · rw [State.get_put_elsewhere _ _ _ _ (.inr (.inr (Nat.le_of_ble_eq_true rfl))),
      State.get_put_elsewhere _ _ _ _ (.inr (.inl (Nat.le_of_ble_eq_true rfl)))]
    exact State.get_put_of_lt _ (Nat.le_of_ble_eq_true rfl) (Nat.le_of_ble_eq_true rfl)
  · rw [State.get_put_elsewhere _ _ _ _ (.inr (.inr (Nat.le_of_ble_eq_true rfl)))]
    exact State.get_put_of_lt _ (Nat.le_of_ble_eq_true rfl) (show _ < 2 ^ 16 by omega)

theorem laneLock_frame (s : State) (n : Fin 4) :
    AvenueFrame n [AV_TLSTAT_STATE n, AV_TLSTAT_FAILS n, AV_TLSTAT_ACQT n] [.regs, .av] s (laneLock n e s) := by
  have hcount := (AvenueFrame.refl n [AV_TLSTAT_STATE n, AV_TLSTAT_FAILS n, AV_TLSTAT_ACQT n] [.regs, .av] s).modAv (by simp)
    (fun a => { a with lane := { a.lane with lockRun := s.lockRunNext n e } })
  by_cases h : max 1 (s.get (AV_TLTHR_LKCNT n)) ≤ s.lockRunNext n e
  · rw [laneLock_of_locked e h]
    exact ((hcount.put (f := AV_TLSTAT_FAILS n) (by simp) (by simp) _).put (f := AV_TLSTAT_ACQT n) (by simp) (by simp) _).put
      (f := AV_TLSTAT_STATE n) (by simp) (by simp) _
  · rw [laneLock_of_unlocked e h]
    exact hcount

end Lock

/-! ### An update in ACQUIRE (R85, R88) -/

theorem laneUpdate_acquire_spec (s : State) (n : Fin 4) (ph : List Int) (mg : List Nat) (mx : Bool)
    (h : s.get (AV_TLSTAT_STATE n) = 2) :
    let e := Int.tdiv ph.sum 8
    ∃ t, exec (.laneUpdate n ph mg mx) s = .next t ∧
      (t.avn n).lane.fw = (s.avn n).lane.fw - e / 2 ^ s.get (AV_TLCTL_KIA n) ∧
      (t.avn n).lane.phase = (s.avn n).lane.phase - e / 2 ^ s.get (AV_TLCTL_KPA n) ∧
      (t.avn n).lane.lockRun = (if e.natAbs ≤ s.get (AV_TLTHR_LKTHR n) then (s.avn n).lane.lockRun + 1 else 0) ∧
      (max 1 (s.get (AV_TLTHR_LKCNT n)) ≤ (t.avn n).lane.lockRun → t.get (AV_TLSTAT_STATE n) = 3 ∧
        t.get (AV_TLSTAT_FAILS n) = 0 ∧ t.get (AV_TLSTAT_ACQT n) = min 0xFFFF (s.time - (s.avn n).lane.t0)) ∧
      ((t.avn n).lane.lockRun < max 1 (s.get (AV_TLTHR_LKCNT n)) → t.get (AV_TLSTAT_STATE n) = 2) ∧
      OtherAvenues n s t ∧
      Frame [AV_TLSTAT_STATE n, AV_TLSTAT_FAILS n, AV_TLSTAT_ACQT n, AV_TLFREQ_FOFS n, AV_TLFREQ_PHERR n, AV_TLFREQ_AMP n]
        [.regs, .av] s t := by
  intro e
  refine ⟨laneUpdate n ph mg mx s, rfl, ?_⟩
  have hupd : laneUpdate n ph mg mx s = laneLock n e (laneLoop n e (meanMag mg) s) := if_pos h
  have hlane : ((laneLoop n e (meanMag mg) s).avn n).lane =
      (s.avn n).lane.pulled e (s.get (AV_TLCTL_KPA n)) (s.get (AV_TLCTL_KIA n)) := by
    rw [laneLoop_of_acquire e _ h, loopShown_lane, lane_modLane]
  have hloop := laneLoop_frame e (meanMag mg) s n
  have hget := fun g => laneLoop_get e (meanMag mg) s n (g := g)
  have htime : (laneLoop n e (meanMag mg) s).time = s.time := congrArg (fun x => x.now.toNat) (hloop.2.2 .tim (by decide))
  rw [hupd]
  generalize laneLoop n e (meanMag mg) s = u at hlane hloop hget htime ⊢
  have hcnt : u.get (AV_TLTHR_LKCNT n) = s.get (AV_TLTHR_LKCNT n) := hget _ (avOffset_ne n (by decide))
  have hthr : u.get (AV_TLTHR_LKTHR n) = s.get (AV_TLTHR_LKTHR n) := hget _ (avOffset_ne n (by decide))
  have hstate : u.get (AV_TLSTAT_STATE n) = 2 := (hget _ (avOffset_ne n (by decide))).trans h
  rw [laneLock_lane]
  refine ⟨congrArg Lane.fw hlane, congrArg Lane.phase hlane, ?_, fun hlock => ?_, fun hmore => ?_, ?_⟩
  · simp only [State.lockRunNext, hthr, hlane]
    rfl
  · rw [← hcnt] at hlock
    obtain ⟨hst, hfails, hacqt⟩ := laneLock_fields e hlock
    refine ⟨hst, hfails, ?_⟩
    rw [hacqt, htime, hlane]
    rfl
  · rw [← hcnt] at hmore
    rw [laneLock_of_unlocked e (Nat.not_le_of_lt hmore), State.lockCounted, State.get_modLane, hstate]
  · exact (hloop.mono (by simp [loopFlds]) (by simp)).trans ((laneLock_frame e u n).mono (by simp) (by simp))

/-! ### What the loss criteria and the mismatch test leave (R89, R91) -/

/-- What the loop moves of a lane. -/
def Lane.osc (l : Lane) : Int × Int := (l.fw, l.phase)

theorem Lane.osc_mismRun (l : Lane) (run : Nat) : Lane.osc { l with mismRun := run } = l.osc := rfl

theorem Lane.osc_lossRuns (l : Lane) (run arun : Nat) : Lane.osc { l with lossRun := run, ampRun := arun } = l.osc := rfl

theorem Lane.osc_inj {l m : Lane} (h : l.osc = m.osc) : l.fw = m.fw ∧ l.phase = m.phase := Prod.mk.inj h

theorem laneTo_osc (s : State) (n : Fin 4) (st : Nat) : ((s.laneTo n st).avn n).lane.osc = (s.avn n).lane.osc := by
  by_cases h2 : st = 2
  · subst h2
    rw [laneTo_acquire, beginAttempt_lane, laneMoved_lane]
    rfl
  by_cases h5 : st = 5
  · subst h5
    rw [laneTo_lost, lane_endOp, laneMoved_lane]
  · rw [laneTo_plain s n h2 h5, laneMoved_lane]

/-- The run of updates over LSTHR after a mean phase `e`. -/
def State.lossRunNext (s : State) (n : Fin 4) (e : Int) : Nat :=
  if s.get (AV_TLTHR_LSTHR n) < e.natAbs then (s.avn n).lane.lossRun + 1 else 0

/-- The run of updates below AMIN with the variable gain at its top, after a mean magnitude `amp`. -/
def State.ampRunNext (s : State) (n : Fin 4) (amp : Nat) (mx : Bool) : Nat :=
  if mx && decide (amp < s.get (AV_TLTHR_AMIN n)) then (s.avn n).lane.ampRun + 1 else 0

/-- The lane with those runs counted. -/
def State.lossCounted (s : State) (n : Fin 4) (e : Int) (amp : Nat) (mx : Bool) : State :=
  s.modLane n (fun l => { l with lossRun := s.lossRunNext n e, ampRun := s.ampRunNext n amp mx })

/-- The losses counted and raised, with the amplitude's own event where it was the cause. -/
def State.lossRaised (s : State) (n : Fin 4) (byAmp : Bool) : State :=
  ((s.bump (AV_TLCNT_LOSSES n)).raise (avSrc n 33)).raiseIf byAmp (avSrc n 36)

section Tests
variable (n : Fin 4) (e : Int) (amp : Nat) (mx : Bool) (s : State)

theorem laneLoss_eq : laneLoss n e amp mx s =
    if decide (orOne (s.get (AV_TLTHR_LSCNT n)) ≤ s.lossRunNext n e) || decide (4 ≤ s.ampRunNext n amp mx) then
      ((s.lossCounted n e amp mx).lossRaised n (decide (4 ≤ s.ampRunNext n amp mx))).laneTo n 2
    else s.lossCounted n e amp mx := rfl

theorem laneLoss_osc :
    ((laneLoss n e amp mx s).avn n).lane.osc = (s.avn n).lane.osc := by
  have hcount : ((s.lossCounted n e amp mx).avn n).lane.osc = (s.avn n).lane.osc := by
    rw [State.lossCounted, lane_modLane, Lane.osc_lossRuns]
  rw [laneLoss_eq]
  split
  · rw [laneTo_osc, State.lossRaised, avn_of_av_eq (State.raiseIf_av ..), State.avn_raise, State.bump, State.avn_put, hcount]
  · exact hcount

theorem laneLoss_only : AvenueOnly n s (laneLoss n e amp mx s) := by
  rw [laneLoss_eq]
  exact .ite (((((AvenueOnly.refl n s).modAv _).bump _ 1).raise _ _ |>.raiseIf _ _ _).laneTo 2) ((AvenueOnly.refl n s).modAv _)

/-- Within LSTHR and with the variable gain below its top, the runs end and the lane stays. -/
theorem laneLoss_of_within {s : State} {n : Fin 4} {e : Int} (h : e.natAbs ≤ s.get (AV_TLTHR_LSTHR n)) (amp : Nat) :
    laneLoss n e amp false s = s.lossCounted n e amp false := by
  have hrun : s.lossRunNext n e = 0 := if_neg (Nat.not_lt.2 h)
  have hamp : s.ampRunNext n amp false = 0 := if_neg Bool.false_ne_true
  have hpos : ¬ orOne (s.get (AV_TLTHR_LSCNT n)) ≤ 0 := by rw [orOne_eq_max]; omega
  rw [laneLoss_eq, hrun, hamp]
  exact if_neg (by simp [hpos])

/-- The run of updates beyond FTOL. -/
def State.mismRunNext (s : State) (n : Fin 4) : Nat :=
  if decide (s.get (AV_TLFTOL_FTOL n) * 2 ^ 24 < (s.avn n).lane.fw.natAbs * 1000000) then (s.avn n).lane.mismRun + 1 else 0

/-- The lane with that run counted. -/
def State.mismCounted (s : State) (n : Fin 4) : State := s.modLane n (fun l => { l with mismRun := s.mismRunNext n })

theorem laneMismatch_eq : laneMismatch n s =
    if decide (64 ≤ s.mismRunNext n) && !s.is (AV_TLSTAT_FMISM n) then
      (((s.mismCounted n).put (AV_TLSTAT_FMISM n) 1).raise (avSrc n 35)).inhibit n 3
    else s.mismCounted n := rfl

theorem mismCounted_lane : ((s.mismCounted n).avn n).lane = { (s.avn n).lane with mismRun := s.mismRunNext n } := lane_modLane ..

theorem laneMismatch_osc : ((laneMismatch n s).avn n).lane.osc = (s.avn n).lane.osc := by
  have hcount : ((s.mismCounted n).avn n).lane.osc = (s.avn n).lane.osc := by
    rw [mismCounted_lane, Lane.osc_mismRun]
  rw [laneMismatch_eq]
  split
  · rw [lane_inhibit, State.avn_raise, State.avn_put, hcount]
  · exact hcount

theorem laneMismatch_only : AvenueOnly n s (laneMismatch n s) := by
  have hcount : AvenueOnly n s (s.mismCounted n) := (AvenueOnly.refl n s).modAv _
  rw [laneMismatch_eq]
  exact .ite (((hcount.put _ 1).raise _ _).inhibit 3) hcount

theorem laneMismatch_state : (laneMismatch n s).get (AV_TLSTAT_STATE n) = s.get (AV_TLSTAT_STATE n) := by
  have hcount : (s.mismCounted n).get (AV_TLSTAT_STATE n) = s.get (AV_TLSTAT_STATE n) := State.get_modLane ..
  rw [laneMismatch_eq]
  split
  · rw [inhibit_state, State.get_raise, State.get_put_elsewhere _ _ _ _ (.inr (.inl (Nat.le_of_ble_eq_true rfl))), hcount]
  · exact hcount

/-! ### An update in TRACK (R85, R88) -/

/-- The tests that follow the loop in TRACK. -/
def laneTests (n : Fin 4) (e : Int) (amp : Nat) (mx : Bool) (s : State) : State :=
  if (laneLoss n e amp mx s).laneState n = 3 then laneMismatch n (laneLoss n e amp mx s) else laneLoss n e amp mx s

theorem laneTests_osc :
    ((laneTests n e amp mx s).avn n).lane.osc = (s.avn n).lane.osc := by
  unfold laneTests
  split
  · rw [laneMismatch_osc, laneLoss_osc]
  · rw [laneLoss_osc]

theorem laneTests_only : AvenueOnly n s (laneTests n e amp mx s) :=
  .ite ((laneLoss_only ..).trans (laneMismatch_only ..)) (laneLoss_only ..)

theorem laneTests_of_within {s : State} {n : Fin 4} {e : Int} (h : e.natAbs ≤ s.get (AV_TLTHR_LSTHR n)) (amp : Nat) :
    (laneTests n e amp false s).get (AV_TLSTAT_STATE n) = s.get (AV_TLSTAT_STATE n) := by
  have hloss : (laneLoss n e amp false s).get (AV_TLSTAT_STATE n) = s.get (AV_TLSTAT_STATE n) := by
    rw [laneLoss_of_within h, State.lossCounted, State.get_modLane]
  unfold laneTests
  split
  · rw [laneMismatch_state, hloss]
  · exact hloss

end Tests

theorem laneUpdate_track_spec (s : State) (n : Fin 4) (ph : List Int) (mg : List Nat) (mx : Bool)
    (h : s.get (AV_TLSTAT_STATE n) = 3) :
    let e := Int.tdiv ph.sum 8
    ∃ t, exec (.laneUpdate n ph mg mx) s = .next t ∧
      (t.avn n).lane.fw = (s.avn n).lane.fw - e / 2 ^ s.get (AV_TLCTL_KIT n) ∧
      (t.avn n).lane.phase = (s.avn n).lane.phase - e / 2 ^ s.get (AV_TLCTL_KPT n) ∧
      (e.natAbs ≤ s.get (AV_TLTHR_LSTHR n) → mx = false → 0 < s.get (AV_TLTHR_LSCNT n) → t.get (AV_TLSTAT_STATE n) = 3) ∧
      OtherAvenues n s t ∧ Untouched [.regs, .av, .flt] s t := by
  intro e
  refine ⟨laneUpdate n ph mg mx s, rfl, ?_⟩
  have hne : ¬ s.laneState n = 2 := by rw [State.laneState, h]; decide
  have hupd : laneUpdate n ph mg mx s = laneTests n e (meanMag mg) mx (laneLoop n e (meanMag mg) s) := by
    simp only [laneUpdate, if_neg hne, if_pos (show s.laneState n = 3 from h)]
    rfl
  have hosc : ((laneLoop n e (meanMag mg) s).avn n).lane.osc =
      ((s.avn n).lane.pulled e (s.get (AV_TLCTL_KPT n)) (s.get (AV_TLCTL_KIT n))).osc := by
    rw [laneLoop_of_track e _ h, loopShown_lane, lane_modLane]
  have hthr : (laneLoop n e (meanMag mg) s).get (AV_TLTHR_LSTHR n) = s.get (AV_TLTHR_LSTHR n) :=
    laneLoop_get e _ s n (avOffset_ne n (by decide))
  have hstate : (laneLoop n e (meanMag mg) s).get (AV_TLSTAT_STATE n) = 3 := (laneLoop_get e _ s n (avOffset_ne n (by decide))).trans h
  have hframe := laneLoop_frame e (meanMag mg) s n
  have hloop : AvenueOnly n s (laneLoop n e (meanMag mg) s) := ⟨hframe.1, hframe.2.2.mono (by simp)⟩
  obtain ⟨hfw, hphase⟩ := Lane.osc_inj ((laneTests_osc n e (meanMag mg) mx _).trans hosc)
  rw [hupd]
  refine ⟨hfw, hphase, fun hwithin hmx _ => ?_, hloop.trans (laneTests_only n e (meanMag mg) mx _)⟩
  rw [hmx, laneTests_of_within (hwithin.trans_eq hthr.symm), hstate]

/-- Settles O13: the loop filter alone moves FW and the phase, and the tests that follow it move the state. -/
theorem timingLaneUpdate : Obligations.TimingLaneUpdate := ⟨laneUpdate_acquire_spec, laneUpdate_track_spec⟩

end Sys2Proof.Machine
end

section
/-! CERTIFICATE. The statement O14: sample blocks, calibration steps and codeword tables (R94, R100, R101, R117). -/

namespace Sys2Proof.Machine

/-! ### Readers -/

theorem reader_modReader (s : State) (n : Fin 4) (r : Fin 2) (f : Reader → Reader) : (s.modReader n r f).reader n r = f (s.reader n r) := by
  fin_cases r <;> simp [State.reader, State.modReader]

theorem reader_of_av_eq {s t : State} (h : t.av = s.av) (n : Fin 4) (r : Fin 2) : t.reader n r = s.reader n r := by
  rw [State.reader, avn_of_av_eq h, ← State.reader]

/-! ### Sample blocks (R94, R101 to R105) -/

/-- A reader after a block has crossed: its spans are one block shorter. -/
def Reader.blockCrossed (x : Reader) : Reader := { x with inv := x.inv - 1, setl := x.setl - 1, dropped := x.dropped - 1 }

section Block
variable {s : State} {n : Fin 4} {r : Fin 2} (errs decs lms : List Int)

theorem tagNow_of_untracked (h : s.laneTracks n = false) : s.tagNow n r = .invalid := by
  simp [State.tagNow, h]

theorem sampleBlock_of_invalid (h : s.tagNow n r = .invalid) :
    sampleBlock n r errs decs lms s = (s.bump (AV_TAGCNT_INVAL n)).modReader n r Reader.blockCrossed := by
  simp only [sampleBlock, h]
  rfl

theorem sampleBlock_of_tracking (h : s.tagNow n r = .valid) (hread : s.reading n = true) (htrk : s.get (AV_SKCTL_TRK n) = 1)
    (hadapt : s.get (AV_DETCTL_ADAPT n) = 0) :
    sampleBlock n r errs decs lms s = trackSkew n r (timingError errs decs) (s.modReader n r Reader.blockCrossed) := by
  simp only [sampleBlock, h, hread, State.is_of_get_one htrk, State.is_of_get_zero hadapt]
  rfl

theorem trackSkew_of_small {err : Int} (h : ((s.reader n r).acc + err).natAbs < 2 ^ s.get (AV_SKCTL_TKG n)) :
    trackSkew n r err s = s.modReader n r (fun y => { y with acc := (s.reader n r).acc + err }) :=
  if_neg (Nat.not_le_of_lt h)

end Block

theorem sampleBlock_invalid_spec (s : State) (n : Fin 4) (r : Fin 2) (errs decs lms : List Int) (h : s.laneTracks n = false) :
    ∃ t, exec (.sampleBlock n r errs decs lms) s = .next t ∧
      t.get (AV_TAGCNT_INVAL n) = min 0xFFFF (s.get (AV_TAGCNT_INVAL n) + 1) ∧
      t.reader n r = { s.reader n r with inv := (s.reader n r).inv - 1, setl := (s.reader n r).setl - 1,
                                         dropped := (s.reader n r).dropped - 1 } ∧
      OtherAvenues n s t ∧ Frame [AV_TAGCNT_INVAL n] [.regs, .av] s t := by
  refine ⟨sampleBlock n r errs decs lms s, rfl, ?_⟩
  rw [sampleBlock_of_invalid errs decs lms (tagNow_of_untracked h)]
  refine ⟨?_, ?_, ?_⟩
  · rw [State.modReader, State.get_modAv, bump_get_max (m := 0xFFFF) s (Nat.le_of_ble_eq_true rfl) rfl]
  · rw [reader_modReader, reader_of_av_eq (State.bump_av ..), Reader.blockCrossed]
  · exact ((AvenueFrame.refl n ..).put (List.mem_singleton_self _) (by simp) _).modAv (by simp) _

theorem sampleBlock_tracking_spec (s : State) (n : Fin 4) (r : Fin 2) (errs decs lms : List Int) (h : s.tagNow n r = .valid)
    (hread : s.reading n = true) (htrk : s.get (AV_SKCTL_TRK n) = 1) (hadapt : s.get (AV_DETCTL_ADAPT n) = 0)
    (hsmall : ((s.reader n r).acc + timingError errs decs).natAbs < 2 ^ s.get (AV_SKCTL_TKG n)) :
    ∃ t, exec (.sampleBlock n r errs decs lms) s = .next t ∧
      (t.reader n r).acc = (s.reader n r).acc + timingError errs decs ∧ (t.reader n r).skew = (s.reader n r).skew ∧
      OtherAvenues n s t ∧ Untouched [.av] s t := by
  refine ⟨sampleBlock n r errs decs lms s, rfl, ?_⟩
  have hcrossed : (s.modReader n r Reader.blockCrossed).reader n r = (s.reader n r).blockCrossed := reader_modReader ..
  have hacc : ((s.modReader n r Reader.blockCrossed).reader n r).acc = (s.reader n r).acc :=
    (congrArg Reader.acc hcrossed).trans rfl
  rw [sampleBlock_of_tracking errs decs lms h hread htrk hadapt, trackSkew_of_small (by rw [hacc]; exact hsmall), reader_modReader]
  exact ⟨congrArg (· + timingError errs decs) hacc, (congrArg Reader.skew hcrossed).trans rfl, ((OtherAvenues.refl n s).modAv _).modAv _,
    ((Untouched.refl _ s).modAv (by simp) n _).modAv (by simp) n _⟩

/-! ### Background calibration (R100) -/

/-- A reader after a calibration step in direction `dir`, from the trim at `k`. -/
def Reader.calStepped (x : Reader) (limit : Bool) (k dir : Nat) : Reader :=
  { x with
    calNext := (x.calNext + 1) % 24
    trims := if limit then x.trims
      else KMap.set (fun _ => 0) x.trims x.calNext (KMap.get (fun _ => 0) x.trims k + (if dir = 1 then 1 else -1))
    setl := max x.setl 1 }

/-- A trim moves by one unit, whichever way. -/
theorem calStepped_trim (x : Reader) (dir : Nat) : (KMap.get (fun _ => 0) (x.calStepped false x.calNext dir).trims x.calNext
    - KMap.get (fun _ => 0) x.trims x.calNext).natAbs = 1 := by
  have hset : KMap.get (fun _ => 0) (x.calStepped false x.calNext dir).trims x.calNext =
      KMap.get (fun _ => 0) x.trims x.calNext + (if dir = 1 then 1 else -1) := KMap.get_set_self ..
  rw [hset]
  split <;> omega

theorem calStepped_trim_of_ne (x : Reader) (dir : Nat) {k : Nat} (h : k ≠ x.calNext) :
    KMap.get (fun _ => 0) (x.calStepped false x.calNext dir).trims k = KMap.get (fun _ => 0) x.trims k := KMap.get_set_of_ne _ _ _ h

/-- The state after a free value of one bit has been drawn. -/
def State.drawn (s : State) : State := (s.fresh 1).2

theorem drawn_untouched (s : State) : Untouched [.freeCtr] s s.drawn := by
  intro p hp
  cases p <;> simp_all [Part.same, State.drawn, State.fresh]

/-- The state after the calibration step of reader `r`, before an event answers it. -/
def State.calStepped (s : State) (n : Fin 4) (r : Fin 2) (limit : Bool) : State :=
  s.drawn.modReader n r (fun y => y.calStepped limit (s.reader n r).calNext (s.fresh 1).1)

theorem calStepped_reader (s : State) (n : Fin 4) (r : Fin 2) (limit : Bool) : (s.calStepped n r limit).reader n r =
    (s.reader n r).calStepped limit (s.reader n r).calNext (s.fresh 1).1 := by
  rw [State.calStepped, reader_modReader, reader_of_av_eq (drawn_untouched s .av (by decide))]

theorem calStepped_only (s : State) (n : Fin 4) (r : Fin 2) (limit : Bool) :
    OtherAvenues n s (s.calStepped n r limit) ∧ Untouched [.av, .freeCtr] s (s.calStepped n r limit) :=
  ⟨((OtherAvenues.refl n s).of_av_eq (drawn_untouched s .av (by decide))).modAv _,
    ((drawn_untouched s).mono (by simp)).modAv (by simp) n _⟩

section Calibration
variable (s : State) (n : Fin 4) (r : Fin 2) (hen : s.get (AV_AFECAL_EN n) = 1) (hrun : (s.seq n).slotRun = none)
include hen hrun

theorem afeCalStep_of_due (limit : Bool) : afeCalStep n r limit s = (s.calStepped n r limit).raiseIf limit (avSrc n 39) := by
  have hdue : ¬ (!s.is (AV_AFECAL_EN n) || (!s.is (AV_AFECAL_INSECT n) && (s.seq n).slotRun.isSome)) = true := by
    simp [State.is_of_get_one hen, hrun]
  exact if_neg hdue

theorem afeCalStep_trim_spec : ∃ t, exec (.afeCalStep n r false) s = .next t ∧
    (t.reader n r).calNext = ((s.reader n r).calNext + 1) % 24 ∧ (t.reader n r).setl = max (s.reader n r).setl 1 ∧
    (KMap.get (fun _ => 0) (t.reader n r).trims (s.reader n r).calNext
      - KMap.get (fun _ => 0) (s.reader n r).trims (s.reader n r).calNext).natAbs = 1 ∧
    (∀ k, k ≠ (s.reader n r).calNext →
      KMap.get (fun _ => 0) (t.reader n r).trims k = KMap.get (fun _ => 0) (s.reader n r).trims k) ∧
    OtherAvenues n s t ∧ Untouched [.av, .freeCtr] s t := by
  refine ⟨afeCalStep n r false s, rfl, ?_⟩
  rw [afeCalStep_of_due s n r hen hrun, State.raiseIf_false, calStepped_reader]
  exact ⟨rfl, rfl, calStepped_trim _ _, fun k hk => calStepped_trim_of_ne _ _ hk, calStepped_only s n r false⟩

theorem afeCalStep_limit_spec : ∃ t, exec (.afeCalStep n r true) s = .next t ∧ (t.reader n r).trims = (s.reader n r).trims ∧
    Raised1 (428 + 96 * n.val + 39) 0 s t ∧ Untouched [.av, .freeCtr, .flt] s t := by
  refine ⟨afeCalStep n r true s, rfl, ?_⟩
  obtain ⟨-, hu⟩ := calStepped_only s n r true
  rw [afeCalStep_of_due s n r hen hrun, State.raiseIf_true, State.reader_raise, calStepped_reader]
  exact ⟨rfl, raised1_of_untouched hu (by simp) (by simp) _ _, (hu.mono (by simp)).raise (by simp) _ _⟩

end Calibration

/-! ### Codeword tables (R117) -/

theorem codeBroken_lt (ws : List Word) : codeBroken ws < 2 ^ 3 := by
  unfold codeBroken
  split_ifs <;> decide

theorem codeMem_first (s : State) (n : Fin 4) : (s.codeMem n).getD 0 0 = s.rd (AV_CODEMEM n 0) := by
  simp [State.codeMem, List.getD]

section CodeTable
variable (s : State) (n : Fin 4) (hidle : s.mediaBusy n = false)

/-- CODECTL after a table that breaks no rule. -/
def State.codeShown (s : State) (n : Fin 4) : State :=
  ((s.put (AV_CODECTL_ERR n) 0).put (AV_CODECTL_OK n) 1).put (AV_CODECTL_CODEID n) (bitsOf (s.rd (AV_CODEMEM n 0)).toNat 0 16)

theorem codeShown_get : (s.codeShown n).get (AV_CODECTL_OK n) = 1 ∧ (s.codeShown n).get (AV_CODECTL_ERR n) = 0 ∧
    (s.codeShown n).get (AV_CODECTL_CODEID n) = (s.rd (AV_CODEMEM n 0)).toNat % 2 ^ 16 := by
  unfold State.codeShown
  refine ⟨?_, ?_, ?_⟩
  · rw [State.get_put_elsewhere _ _ _ _ (.inr (.inl (Nat.le_of_ble_eq_true rfl)))]
    exact State.get_put_of_lt _ (Nat.le_of_ble_eq_true rfl) (Nat.le_of_ble_eq_true rfl)
  · rw [State.get_put_elsewhere _ _ _ _ (.inr (.inl (Nat.le_of_ble_eq_true rfl))),
      State.get_put_elsewhere _ _ _ _ (.inr (.inr (Nat.le_of_ble_eq_true rfl)))]
    exact State.get_put_of_lt _ (Nat.le_of_ble_eq_true rfl) (Nat.le_of_ble_eq_true rfl)
  · refine (State.get_put_of_lt _ (Nat.le_of_ble_eq_true rfl) (bitsOf_lt _ 0 16)).trans ?_
    rw [bitsOf, pow_zero, Nat.div_one]

theorem codeShown_frame :
    AvenueFrame n [AV_CODECTL_OK n, AV_CODECTL_ERR n, AV_CODECTL_CODEID n] [.regs, .av] s (s.codeShown n) :=
  (((AvenueFrame.refl ..).put (f := AV_CODECTL_ERR n) (by simp) (by simp) _).put (f := AV_CODECTL_OK n) (by simp) (by simp) _).put
    (f := AV_CODECTL_CODEID n) (by simp) (by simp) _

/-- CODECTL after a table that breaks a rule. -/
def State.codeRefused (s : State) (n : Fin 4) (e : Nat) : State := (s.put (AV_CODECTL_ERR n) e).put (AV_CODECTL_OK n) 0

theorem codeRefused_get {e : Nat} (h : e < 2 ^ 3) :
    (s.codeRefused n e).get (AV_CODECTL_OK n) = 0 ∧ (s.codeRefused n e).get (AV_CODECTL_ERR n) = e := by
  unfold State.codeRefused
  refine ⟨State.get_put_of_lt _ (Nat.le_of_ble_eq_true rfl) (Nat.le_of_ble_eq_true rfl), ?_⟩
  rw [State.get_put_elsewhere _ _ _ _ (.inr (.inr (Nat.le_of_ble_eq_true rfl)))]
  exact State.get_put_of_lt _ (Nat.le_of_ble_eq_true rfl) h

/-- A load by its verdict: refused while the Avenue is busy, refused on a rule that the table breaks, or in force. -/
theorem codeTableLoad_eq : codeTableLoad n s =
    if s.mediaBusy n then (s.put (AV_CODECTL_ERR n) 1).raise (avSrc n 55)
    else if codeBroken (s.codeMem n) ≠ 0 then
      ((s.codeRefused n (codeBroken (s.codeMem n))).modAv n (fun a => { a with code := [] })).raise (avSrc n 55)
    else (((s.put (AV_CODECTL_ERR n) (codeBroken (s.codeMem n))).put (AV_CODECTL_OK n) 1).put (AV_CODECTL_CODEID n)
      (bitsOf ((s.codeMem n).getD 0 0).toNat 0 16)).modAv n (fun a => { a with code := codeTable (s.codeMem n) }) := rfl

include hidle

theorem codeTableLoad_of_good (h : codeBroken (s.codeMem n) = 0) :
    codeTableLoad n s = (s.codeShown n).modAv n (fun a => { a with code := codeTable (s.codeMem n) }) := by
  rw [codeTableLoad_eq, hidle, if_neg Bool.false_ne_true, h, if_neg (not_not_intro rfl), codeMem_first, State.codeShown]

theorem codeTableLoad_of_broken (h : codeBroken (s.codeMem n) ≠ 0) : codeTableLoad n s =
    ((s.codeRefused n (codeBroken (s.codeMem n))).modAv n (fun a => { a with code := [] })).raise (avSrc n 55) := by
  rw [codeTableLoad_eq, hidle, if_neg Bool.false_ne_true, if_pos h]

theorem codeTableLoad_good_spec (h : codeBroken (s.codeMem n) = 0) : ∃ t, exec (.codeTableLoad n) s = .next t ∧
    t.get (AV_CODECTL_OK n) = 1 ∧ t.get (AV_CODECTL_ERR n) = 0 ∧
    t.get (AV_CODECTL_CODEID n) = (s.rd (AV_CODEMEM n 0)).toNat % 2 ^ 16 ∧
    t.avn n = { s.avn n with code := codeTable (s.codeMem n) } ∧ OtherAvenues n s t ∧
    Frame [AV_CODECTL_OK n, AV_CODECTL_ERR n, AV_CODECTL_CODEID n] [.regs, .av] s t := by
  refine ⟨codeTableLoad n s, rfl, ?_⟩
  rw [codeTableLoad_of_good s n hidle h]
  obtain ⟨hok, herr, hid⟩ := codeShown_get s n
  refine ⟨(State.get_modAv ..).trans hok, (State.get_modAv ..).trans herr, (State.get_modAv ..).trans hid, ?_, ?_⟩
  · rw [State.avn_modAv_self, State.codeShown, State.avn_put, State.avn_put, State.avn_put]
  · exact (codeShown_frame s n).modAv (by simp) _

theorem codeTableLoad_broken_spec (h : codeBroken (s.codeMem n) ≠ 0) : ∃ t, exec (.codeTableLoad n) s = .next t ∧
    t.get (AV_CODECTL_OK n) = 0 ∧ t.get (AV_CODECTL_ERR n) = codeBroken (s.codeMem n) ∧ (t.avn n).code = [] ∧
    Raised1 (428 + 96 * n.val + 55) 0 s t ∧ Frame [AV_CODECTL_OK n, AV_CODECTL_ERR n] [.regs, .av, .flt] s t := by
  refine ⟨codeTableLoad n s, rfl, ?_⟩
  rw [codeTableLoad_of_broken s n hidle h]
  obtain ⟨hok, herr⟩ := codeRefused_get s n (codeBroken_lt (s.codeMem n))
  have hframe : AvenueFrame n [AV_CODECTL_OK n, AV_CODECTL_ERR n] [.regs, .av] s
      ((s.codeRefused n (codeBroken (s.codeMem n))).modAv n (fun a => { a with code := [] })) :=
    (((AvenueFrame.refl n ..).put (f := AV_CODECTL_ERR n) (by simp) (by simp) _).put (f := AV_CODECTL_OK n) (by simp) (by simp) _).modAv
      (by simp) _
  refine ⟨?_, ?_, ?_, raised1_of_untouched hframe.2.2 (by simp) (by simp) _ _,
    ((hframe.mono (List.Subset.refl _) (by simp)).raise (by simp) _ _).2⟩
  · rw [State.get_raise, State.get_modAv, hok]
  · rw [State.get_raise, State.get_modAv, herr]
  · rw [State.avn_raise, State.avn_modAv_self]

end CodeTable

/-! ### The retry decoders' table (R117) -/

/-- The retry decoders with a table in force. -/
def State.withRetryCode (s : State) (ws : List Word) : State := { s with rdec := { s.rdec with code := ws } }

theorem withRetryCode_untouched (s : State) (ws : List Word) : Untouched [.rdec] s (s.withRetryCode ws) := by
  intro p hp
  cases p <;> simp_all [Part.same, State.withRetryCode]

theorem get_withRetryCode (s : State) (ws : List Word) (f : Fld) : (s.withRetryCode ws).get f = s.get f := rfl

theorem retryCodeTableLoad_of_good {s : State} (hidle : s.rdec.busy = false) (h : codeBroken s.rdCodeMem = 0)
    (hagree : s.codeAgrees (codeTable s.rdCodeMem) = true) :
    retryCodeTableLoad s = ((s.put AV0_RDECCTL_ERR 0).withRetryCode (codeTable s.rdCodeMem)).put AV0_RDECCTL_OK 1 := by
  unfold retryCodeTableLoad
  dsimp only
  rw [hidle, if_neg Bool.false_ne_true, h, if_neg (not_not_intro rfl), if_pos hagree, if_neg (not_not_intro rfl)]
  rfl

theorem retryCodeTableLoad_spec (s : State) (hidle : s.rdec.busy = false) (h : codeBroken s.rdCodeMem = 0)
    (hagree : s.codeAgrees (codeTable s.rdCodeMem) = true) : ∃ t, exec .retryCodeTableLoad s = .next t ∧
      t.get AV0_RDECCTL_OK = 1 ∧ t.get AV0_RDECCTL_ERR = 0 ∧
      t.rdec = { s.rdec with code := codeTable s.rdCodeMem } ∧ Frame [AV0_RDECCTL_OK, AV0_RDECCTL_ERR] [.regs, .rdec] s t := by
  refine ⟨retryCodeTableLoad s, rfl, ?_⟩
  rw [retryCodeTableLoad_of_good hidle h hagree]
  have hf : FieldsBut [AV0_RDECCTL_OK, AV0_RDECCTL_ERR] s (s.put AV0_RDECCTL_ERR 0) := .put (.refl _ s) (by simp) 0
  have hu : Untouched [.regs, .rdec] s (s.put AV0_RDECCTL_ERR 0) := .put (.refl _ s) (by simp) _ _
  refine ⟨State.get_put_of_lt _ (by decide) (by decide), ?_, ?_, ?_, ?_⟩
  · rw [State.get_put_elsewhere _ _ _ _ (by decide), get_withRetryCode, State.get_put_of_lt _ (by decide) (by decide)]
  · rw [State.put_rdec, State.withRetryCode, State.put_rdec]
  · exact (hf.of_regs_eq (u := (s.put AV0_RDECCTL_ERR 0).withRetryCode _) rfl).put (by simp) 1
  · exact (hu.step (withRetryCode_untouched _ _) (by simp)).put (by simp) _ _

/-- Settles O14: a block by its tag, a calibration step by the end of its range, a table by the first rule that it breaks. -/
theorem frontEndAndCodeTables : Obligations.FrontEndAndCodeTables :=
  ⟨sampleBlock_invalid_spec, sampleBlock_tracking_spec, fun s n r hen hrun => afeCalStep_trim_spec s n r hen hrun,
    fun s n r hen hrun => afeCalStep_limit_spec s n r hen hrun, codeTableLoad_good_spec, codeTableLoad_broken_spec,
    retryCodeTableLoad_spec⟩

end Sys2Proof.Machine
end

section
/-! SUPPORT. Bound of the retry queue (R122), first part: states in general, and the shared operations of the state, the recorder
and the Square. A lemma bears the name of the operation that keeps the bound, so that a chain of operations has a chain of
lemmas as its proof. -/

namespace Sys2Proof.Machine

variable {s t : State}

namespace State.retryBounded

/-! ### States in general -/

/-- A record update of other parts than the retry decoders. -/
theorem update (h : s.retryBounded) {regs bus tim ring pace av svo spn sqr fls red host rbt arc tgt pwr flt recd dma mem cores
    pins shock0 shock1 preampTable nominal freeCtr pending} :
    (State.mk regs bus tim ring pace av s.rdec svo spn sqr fls red host rbt arc tgt pwr flt recd dma mem cores pins shock0 shock1
      preampTable nominal freeCtr pending).retryBounded := h

theorem ite {c : Prop} [Decidable c] (hs : s.retryBounded) (ht : t.retryBounded) : (if c then s else t).retryBounded := by
  split
  · exact hs
  · exact ht

theorem foldl {α : Type} {g : State → α → State} (hg : ∀ {u x}, u.retryBounded → (g u x).retryBounded)
    (h : s.retryBounded) {l : List α} : (l.foldl g s).retryBounded := by
  induction l generalizing s with
  | nil => exact h
  | cons x l ih => exact ih (hg h)

theorem ite_snd {α : Type} {c : Prop} [Decidable c] {p q : α × State} (hp : p.2.retryBounded) (hq : q.2.retryBounded) :
    (if c then p else q).2.retryBounded := by
  split
  · exact hp
  · exact hq

theorem foldl_fst {α β : Type} {g : State × α → β → State × α} {p : State × α}
    (hg : ∀ {u x}, u.1.retryBounded → (g u x).1.retryBounded) (h : p.1.retryBounded) {l : List β} :
    (l.foldl g p).1.retryBounded := by
  induction l generalizing p with
  | nil => exact h
  | cons x l ih => exact ih (hg h)

theorem foldl_snd {α β : Type} {g : α × State → β → α × State} {p : α × State}
    (hg : ∀ {u x}, u.2.retryBounded → (g u x).2.retryBounded) (h : p.2.retryBounded) {l : List β} :
    (l.foldl g p).2.retryBounded := by
  induction l generalizing p with
  | nil => exact h
  | cons x l ih => exact ih (hg h)

theorem of_snd {α : Type} {x : α} {p : α × State} (h : p.2.retryBounded) (e : p = (x, t)) : t.retryBounded := by
  subst e
  exact h

theorem of_fst {α : Type} {x : α} {p : State × α} (h : p.1.retryBounded) (e : p = (t, x)) : t.retryBounded := by
  subst e
  exact h

theorem of_next {φ ρ : Type} (h : s.retryBounded) (e : (.next s : Host.Outcome State φ ρ) = .next t) : t.retryBounded :=
  Host.Outcome.next.inj e ▸ h

/-! ### Registers, counters, events and blocks -/

theorem wr {a w} (h : s.retryBounded) : (s.wr a w).retryBounded :=
  h.update

theorem put {f v} (h : s.retryBounded) : (s.put f v).retryBounded :=
  h.wr

theorem puti {f i} (h : s.retryBounded) : (s.puti f i).retryBounded :=
  h.put

theorem putb {f b} (h : s.retryBounded) : (s.putb f b).retryBounded :=
  h.put

theorem bump {f k} (h : s.retryBounded) : (s.bump f k).retryBounded :=
  h.put

theorem step1 {f} (h : s.retryBounded) : (s.step1 f).retryBounded :=
  h.put

theorem fresh {w} (h : s.retryBounded) : (s.fresh w).2.retryBounded :=
  h.update

theorem raise {src detail} (h : s.retryBounded) : (s.raise src detail).retryBounded :=
  h.update

theorem raiseIf {b src detail} (h : s.retryBounded) : (s.raiseIf b src detail).retryBounded :=
  .ite h.raise h

theorem expect {tds b} (h : s.retryBounded) : (s.expect tds b).retryBounded :=
  .foldl (fun h => h.putb) h

theorem modAv {n f} (h : s.retryBounded) : (s.modAv n f).retryBounded :=
  h.update

theorem modLane {n f} (h : s.retryBounded) : (s.modLane n f).retryBounded :=
  h.modAv

theorem modReader {n r f} (h : s.retryBounded) : (s.modReader n r f).retryBounded :=
  h.modAv

theorem modReaders {n f} (h : s.retryBounded) : (s.modReaders n f).retryBounded :=
  h.modAv

theorem modSeq {n f} (h : s.retryBounded) : (s.modSeq n f).retryBounded :=
  h.modAv

theorem modOp {n f} (h : s.retryBounded) : (s.modOp n f).retryBounded :=
  h.modSeq

theorem modKz {n f} (h : s.retryBounded) : (s.modKz n f).retryBounded :=
  h.modAv

theorem modSv {n f} (h : s.retryBounded) : (s.modSv n f).retryBounded :=
  h.update

/-! ### The recorder (spec 19) -/

theorem traceFill (h : s.retryBounded) : s.traceFill.retryBounded :=
  h.put

theorem trace {f} (h : s.retryBounded) : (s.trace f).retryBounded :=
  .ite h.update.traceFill h.update.bump.raiseIf

theorem traceByte {b} (h : s.retryBounded) : (s.traceByte b).retryBounded :=
  h.update.put

theorem drainFrame {toRing} (h : s.retryBounded) : (s.drainFrame toRing).retryBounded := by
  unfold State.drainFrame
  split
  · exact h
  next f fs _ =>
    extract_lets _ s1 _ s2 _ s3
    have h2 : s2.retryBounded := .ite (.foldl (fun h => h.traceByte) h.update) h.update.update
    have h3 : s3.retryBounded := .ite h2.update h2
    exact h3.traceFill

theorem recHeads (h : s.retryBounded) : s.recHeads.retryBounded :=
  h.put.put

theorem record {r} (h : s.retryBounded) : (s.record r).retryBounded :=
  .ite h h.update.recHeads.trace

theorem recordType {typ detail} (h : s.retryBounded) : (s.recordType typ detail).retryBounded :=
  h.record

/-! ### The Square's pages and groups (spec 09, 17.1) -/

theorem modSqr {f} (h : s.retryBounded) : (s.modSqr f).retryBounded :=
  h.update

theorem setPage {p v} (h : s.retryBounded) : (s.setPage p v).retryBounded :=
  h.modSqr

theorem modPage {p f} (h : s.retryBounded) : (s.modPage p f).retryBounded :=
  h.setPage

theorem lruDrop {p} (h : s.retryBounded) : (s.lruDrop p).retryBounded :=
  h.modSqr

theorem enterProbation {p} (h : s.retryBounded) : (s.enterProbation p).retryBounded :=
  h.lruDrop.modSqr.modPage

theorem demote (h : s.retryBounded) : s.demote.retryBounded :=
  .foldl (fun h => h.enterProbation) h

theorem hitPage {p pin} (h : s.retryBounded) : (s.hitPage p pin).retryBounded :=
  .ite h.modPage.lruDrop.modSqr.modPage.demote h.modPage

theorem closeEmpty (h : s.retryBounded) : s.closeEmpty.retryBounded :=
  h.modSqr

theorem freePg {p} (h : s.retryBounded) : (s.freePg p).retryBounded :=
  h.lruDrop.setPage.modSqr

theorem tryFree {p} (h : s.retryBounded) : (s.tryFree p).retryBounded :=
  .ite h.freePg h

theorem evictLoop {k} (h : s.retryBounded) : (Machine.evictLoop k s).retryBounded := by
  induction k generalizing s with
  | zero => exact h
  | succ k ih =>
    unfold Machine.evictLoop
    split
    · split
      · exact ih h.freePg
      · exact h
    · exact h

theorem evict (h : s.retryBounded) : s.evict.retryBounded :=
  h.evictLoop

theorem takePage {urgent p} (h : s.retryBounded) (e : s.takePage urgent = some (p, t)) : t.retryBounded := by
  unfold State.takePage at e
  obtain ⟨-, e⟩ := Option.ite_none_left_eq_some.1 e
  split at e
  · cases e
    exact h.evict.modSqr.evict
  · split at e
    · cases e
      exact h.evict.modSqr.evict
    · cases e

theorem allocWait {w} (h : s.retryBounded) : (s.allocWait w).retryBounded :=
  h.modSqr.bump.raise

theorem startFill {k req ahead waiters} (h : s.retryBounded) : (s.startFill k req ahead waiters).retryBounded := by
  unfold State.startFill
  split
  · exact h.allocWait
  · exact (h.takePage ‹_›).setPage.modSqr

/-- A promoted job stays in the queue: the queue's length is as it was. -/
theorem promote {p req} (h : s.retryBounded) : (s.promote p req).retryBounded := by
  unfold State.promote
  split
  · exact h
  · refine .raise (.update ?_)
    split
    · exact (List.length_map _).trans_le h
    · exact h.modSqr

theorem joinFill {p req} (h : s.retryBounded) : (s.joinFill p req).retryBounded := by
  unfold State.joinFill
  split
  · exact .ite h.modSqr.promote h.modSqr
  · exact h.modSqr

theorem readKey {k req} (h : s.retryBounded) : (s.readKey k req).retryBounded := by
  unfold State.readKey
  split
  · exact h.hitPage
  · exact h.joinFill
  · exact h.modSqr
  · exact h.startFill

theorem noteRead {req lba sct sc qual} (h : s.retryBounded) : (s.noteRead req lba sct sc qual).retryBounded := by
  unfold State.noteRead
  split
  · exact h.modSqr
  · exact h

theorem rejoin {k ws} (h : s.retryBounded) : (s.rejoin k ws).retryBounded :=
  .foldl (fun h => h.readKey) h

theorem fillEnded {p e'} (h : s.retryBounded) : (s.fillEnded p e').retryBounded := by
  unfold State.fillEnded
  split
  · exact h
  · split
    · exact .ite h.modSqr.setPage.modSqr.tryFree.rejoin (.foldl (fun h => h.hitPage) h.modSqr.setPage.modSqr.enterProbation)
    · exact .rejoin (.ite h.modSqr.freePg.bump.raise h.modSqr.freePg.noteRead)

theorem ungroup {p} (h : s.retryBounded) : (s.ungroup p).retryBounded :=
  h.modSqr

theorem loseKey {k qual} (h : s.retryBounded) : (s.loseKey k qual).retryBounded :=
  h.modSqr

theorem refill {k} (h : s.retryBounded) : (s.refill k).retryBounded := by
  unfold State.refill
  split
  · split
    · exact h.allocWait
    · exact (h.takePage ‹_›).setPage.modSqr
  · exact h

theorem retirePage {p} (h : s.retryBounded) : (s.retirePage p).retryBounded := by
  unfold State.retirePage
  extract_lets g _ s1 s2
  refine .ite h ?_
  have h2 : s2.retryBounded := h.lruDrop.ungroup.setPage.modSqr.bump.raise.closeEmpty
  refine .ite h2 ?_
  split
  · exact .ite h2.refill h2.loseKey.raise
  · exact .ite h2.refill h2.loseKey.raise
  · split
    · exact h2.startFill
    · exact h2
  · exact h2

theorem dramBad {word} (h : s.retryBounded) : (s.dramBad word).retryBounded :=
  .raise (.ite h.bump h.bump.putb.put)

theorem dramRead {p d} (h : s.retryBounded) : (s.dramRead p d).retryBounded := by
  unfold State.dramRead
  split
  · exact h
  · exact h.fresh.dramBad.retirePage
  · exact h.bump.raise.retirePage

theorem descriptorBad {p word} (h : s.retryBounded) : (s.descriptorBad p word).retryBounded := by
  unfold State.descriptorBad
  extract_lets g s1
  have h1 : s1.retryBounded := h.dramBad.raise
  split
  · exact h1.modPage.retirePage
  · exact h1.modPage.retirePage
  · exact h1.modPage.retirePage
  · exact h1.retirePage

theorem tenancyRefused {write ten page} (h : s.retryBounded) : (s.tenancyRefused write ten page).retryBounded :=
  .raise (.ite h.bump h.bump.putb.putb.putb.put.put)

theorem readAhead {ten ns lba} (h : s.retryBounded) : (s.readAhead ten ns lba).retryBounded :=
  .ite h h.startFill

theorem streamRead {ten ns a n} (h : s.retryBounded) : (s.streamRead ten ns a n).retryBounded := by
  unfold State.streamRead
  split
  · exact .ite (.foldl (fun h => h.readAhead) h.modSqr) h.modSqr
  · exact h.modSqr

theorem modGroup {r st tgt f} (h : s.retryBounded) : (s.modGroup r st tgt f).retryBounded :=
  h.modSqr

theorem devicePage {data pmeta p} (h : s.retryBounded) (e : s.devicePage data pmeta = some (p, t)) : t.retryBounded := by
  obtain ⟨q, hq, e⟩ := Option.map_eq_some_iff.1 e
  cases e
  exact (h.takePage hq).setPage

theorem checkRow {g row} (h : s.retryBounded) : (s.checkRow g row).retryBounded :=
  .foldl (fun h => .ite h h.dramRead) h

theorem journalGroup {g} (h : s.retryBounded) : (s.journalGroup g).retryBounded :=
  .foldl (fun h => .ite h.modSqr h) h

theorem parityPages {g} (h : s.retryBounded) : (s.parityPages g).1.retryBounded := by
  unfold State.parityPages
  dsimp only
  refine .foldl_fst (fun h => ?_) h
  split
  · exact h.devicePage ‹_›
  · exact h

theorem completeGroup {g miss} (h : s.retryBounded) : (s.completeGroup g miss).retryBounded := by
  unfold State.completeGroup
  extract_lets s1 once s2
  have h2 : s2.retryBounded := .bump (.foldl (fun h => h.checkRow) h)
  refine .ite h2.raise.journalGroup.modGroup ?_
  split
  · exact h2
  · refine .ite h2 (.ite h2.allocWait ?_)
    split
    next e => exact (h2.parityPages.of_fst e).modGroup

theorem fillPos {r st tgt peers pos} (h : s.retryBounded) : (s.fillPos r st tgt peers pos).retryBounded := by
  unfold State.fillPos
  extract_lets block add
  have hadd {b} : (add s b).retryBounded := by
    dsimp only [add]
    split
    · exact (h.devicePage ‹_›).modGroup
    · exact h
  split
  · exact .ite hadd hadd
  · refine .ite h ?_
    split
    · exact hadd
    · split
      · exact h.loseKey
      · exact h

theorem forceGroup {g peers miss} (h : s.retryBounded) : (s.forceGroup g peers miss).retryBounded := by
  unfold State.forceGroup
  dsimp only
  split
  · exact .completeGroup (.foldl (fun h => h.fillPos) h)
  · exact .foldl (fun h => h.fillPos) h

theorem gather {p l args} (h : s.retryBounded) : (s.gather p l args).retryBounded := by
  unfold State.gather
  split
  extract_lets tgt s1 s0 s2
  have h1 : s1.retryBounded := by
    dsimp only [s1]
    split
    · exact .ite h.forceGroup.raise h
    · exact h
  have h0 : s0.retryBounded := by
    clear_value s1
    dsimp only [s0]
    split
    · exact h
    · exact h1.modSqr
  have h2 : s2.retryBounded := h0.modPage.modGroup
  clear_value s2
  split
  · exact .ite h2.completeGroup h2
  · exact h2

theorem windowPressure (h : s.retryBounded) : s.windowPressure.retryBounded :=
  .ite h h.modSqr

theorem supersede {p} (h : s.retryBounded) : (s.supersede p).retryBounded :=
  .tryFree (.ite h.modPage.ungroup.lruDrop h.modPage.ungroup)

theorem putPage {p a} (h : s.retryBounded) : (s.putPage p a).retryBounded := by
  unfold State.putPage
  extract_lets k loc old epoch _ s1 s2 _ s3 s5
  have h1 : s1.retryBounded := h.setPage.modSqr
  have h2 : s2.retryBounded := by
    clear_value s1 old
    dsimp only [s2]
    split
    · exact h1.supersede
    · exact h1
  have h3 : s3.retryBounded := by
    clear_value s2 loc
    dsimp only [s3]
    split
    · exact .ite h2.update.gather h2.update
    · exact h2
  have h5 : s5.retryBounded := by
    clear_value s3
    dsimp only [s5]
    split
    · exact h3.modSqr
    · exact h3
  exact h5.closeEmpty.windowPressure

theorem placeNow {a} (h : s.retryBounded) : (s.placeNow a).retryBounded := by
  unfold State.placeNow
  split
  · exact h.allocWait
  · exact (h.takePage ‹_›).putPage

theorem place {a} (h : s.retryBounded) : (s.place a).retryBounded := by
  unfold State.place
  split
  · exact h
  · split
    · exact h.tenancyRefused
    · exact .ite h.tenancyRefused (.ite h.modSqr (.ite h.modSqr.bump.raise h.placeNow))

theorem releaseLoop {k} (h : s.retryBounded) : (Machine.releaseLoop k s).retryBounded := by
  induction k generalizing s with
  | zero => exact h
  | succ k ih =>
    unfold Machine.releaseLoop
    split
    · exact h
    · split
      · exact h
      · exact ih h.modSqr.placeNow

theorem releaseHeld (h : s.retryBounded) : s.releaseHeld.retryBounded :=
  h.releaseLoop

theorem runWait {w} (h : s.retryBounded) : (s.runWait w).retryBounded := by
  unfold State.runWait
  split
  · exact h.placeNow
  · exact h.refill
  · split
    · exact h.completeGroup
    · exact h
  · split
    · exact h.startFill
    · exact .ite h.rejoin h.readKey.rejoin

theorem resumeAlloc (h : s.retryBounded) : s.resumeAlloc.retryBounded := by
  unfold State.resumeAlloc
  split
  · exact h.modSqr.runWait
  · exact h

theorem destaged {p} (h : s.retryBounded) : (s.destaged p).retryBounded :=
  .ite h.modPage.modSqr.tryFree h.modPage.modSqr.enterProbation

theorem closeWritten (h : s.retryBounded) : s.closeWritten.retryBounded :=
  .update (.modSqr (.foldl (fun h => .ite h.modPage.destaged h.modPage) (.foldl (fun h => h.freePg) h)))

theorem mediaWriteEnded {p ok} (h : s.retryBounded) : (s.mediaWriteEnded p ok).retryBounded := by
  unfold State.mediaWriteEnded
  split
  · exact .ite h.modSqr.freePg.closeWritten h
  · exact .ite h (.ite h.setPage (.ite h.setPage.modPage.tryFree h.setPage.destaged.closeWritten))

theorem journaled {p ok} (h : s.retryBounded) : (s.journaled p ok).retryBounded := by
  unfold State.journaled
  split
  · exact h
  · split
    · exact h.update
    · exact .ite h h.update.setPage.modSqr.windowPressure

theorem openDrain {id} (h : s.retryBounded) : (s.openDrain id).retryBounded :=
  h.modSqr.put.modSqr

theorem requestDrain (h : s.retryBounded) : s.requestDrain.2.retryBounded :=
  .ite_snd h.modSqr.modSqr.raise h.modSqr.openDrain

theorem endDrain {d} (h : s.retryBounded) (e : s.endDrain = some (d, t)) : t.retryBounded := by
  unfold State.endDrain at e
  split at e
  · cases e
  · split at e
    · cases e
    · dsimp only at e
      split at e
      · cases e
        exact h.modSqr.put
      · cases e
        exact h.modSqr.put.modSqr.openDrain

theorem drainFallback (h : s.retryBounded) : s.drainFallback.retryBounded := by
  unfold State.drainFallback
  split
  · exact h
  · exact .ite h h.modSqr.raise

theorem setLock {k l} (h : s.retryBounded) : (s.setLock k l).retryBounded :=
  h.modSqr

theorem acquire {k id} (h : s.retryBounded) : (s.acquire k id).2.retryBounded :=
  .ite_snd h (.ite_snd (.ite_snd h.setLock h.setLock) (.ite_snd h h))

theorem lockError (h : s.retryBounded) : s.lockError.retryBounded :=
  h.bump.raise

theorem releaseLock {k id} (h : s.retryBounded) : (s.releaseLock k id).retryBounded :=
  .ite h.setLock h.lockError

theorem clearOrphan {k id} (h : s.retryBounded) : (s.clearOrphan k id).retryBounded :=
  .ite h.setLock h.lockError

theorem resetNotice {id} (h : s.retryBounded) : (s.resetNotice id).retryBounded :=
  .foldl (fun h => .ite h.setLock.raise h) h

theorem freeLocks (h : s.retryBounded) : s.freeLocks.retryBounded :=
  .foldl (fun h => h.setLock) h

theorem initSquare (h : s.retryBounded) : s.initSquare.retryBounded :=
  .ite h.put.raise h.modSqr.freeLocks.put.put.putb

end State.retryBounded

end Sys2Proof.Machine
end

section
/-! SUPPORT. Bound of the retry queue (R122), second part: the host, its commands and the ladder. -/

namespace Sys2Proof.Machine

variable {s t : State}

namespace State.retryBounded

/-! ### Controllers and their completions (spec 12, 13) -/

theorem modCtl {f g} (h : s.retryBounded) : (s.modCtl f g).retryBounded :=
  h.update

theorem modCmd {tag f} (h : s.retryBounded) : (s.modCmd tag f).retryBounded :=
  h.update

theorem dropCmd {tag} (h : s.retryBounded) : (s.dropCmd tag).retryBounded :=
  h.update.modSqr

theorem completeWith {tag sct sc dw0 lba qual more} (h : s.retryBounded) :
    (s.completeWith tag sct sc dw0 lba qual more).retryBounded := by
  unfold State.completeWith
  split
  · exact h
  · exact .ite h (.ite h.dropCmd h.modCtl.modCmd)

theorem complete {tag sct sc dw0} (h : s.retryBounded) : (s.complete tag sct sc dw0).retryBounded :=
  h.completeWith

theorem readError {tag lba qual} (h : s.retryBounded) : (s.readError tag lba qual).retryBounded :=
  h.completeWith

theorem ok {tag dw0} (h : s.retryBounded) : (s.ok tag dw0).retryBounded :=
  h.complete

theorem refuse {tag code} (h : s.retryBounded) : (s.refuse tag code).retryBounded :=
  h.complete

theorem answer {tag bytes} (h : s.retryBounded) : (s.answer tag bytes).retryBounded :=
  h.update

theorem asyncEvent {f typ info} (h : s.retryBounded) : (s.asyncEvent f typ info).retryBounded := by
  unfold State.asyncEvent
  split
  · exact h.modCtl.ok
  · exact h.modCtl

theorem drainEnded {id} (h : s.retryBounded) : (s.drainEnded id).retryBounded :=
  .foldl (fun h => .ite h.modCtl h) (.ite (.put (.foldl (fun h => h.ok) h)) (.foldl (fun h => h.ok) h))

theorem shutdownStep {f} (h : s.retryBounded) : (s.shutdownStep f).retryBounded :=
  .ite h.requestDrain.modCtl h

theorem drainFor {tag} (h : s.retryBounded) : (s.drainFor tag).retryBounded :=
  .ite h.requestDrain.modCmd h.update.modCmd

theorem mergeEnd (h : s.retryBounded) : s.mergeEnd.retryBounded :=
  .ite h (.foldl (fun h => h.modCmd) h.update.requestDrain)

theorem activationStep (h : s.retryBounded) : s.activationStep.retryBounded := by
  unfold State.activationStep
  split
  · exact .ite h.requestDrain.update.put h
  · exact h

theorem posted {c} (h : s.retryBounded) : (s.posted c).retryBounded :=
  .activationStep (.shutdownStep (.foldl (fun h => h.ok) h.dropCmd.modCtl))

theorem finishWrites (h : s.retryBounded) : s.finishWrites.retryBounded :=
  .foldl (fun h => .ite h.ok h.drainFor) h

theorem closeWindow (h : s.retryBounded) : s.closeWindow.retryBounded :=
  .ite h.update.raise h

theorem sessionRegs (h : s.retryBounded) : s.sessionRegs.retryBounded := by
  unfold State.sessionRegs
  split
  · exact h.put.putb.put.put
  · exact h.put.putb.put.put

theorem endSession {f} (h : s.retryBounded) : (s.endSession f).retryBounded := by
  unfold State.endSession
  split
  · exact h
  · exact .ite (.ite h.update.sessionRegs.raise.closeWindow h.update.sessionRegs.raise) h.update.sessionRegs

theorem tryOpenWindow (h : s.retryBounded) : s.tryOpenWindow.retryBounded :=
  .ite h.update h

theorem closeContexts {f} (h : s.retryBounded) : (s.closeContexts f).retryBounded :=
  .foldl (fun h => h.put) h.update

theorem endRun {tag} (h : s.retryBounded) : (s.endRun tag).retryBounded :=
  h.update

theorem endCommands {f} (h : s.retryBounded) : (s.endCommands f).retryBounded :=
  .update (.foldl (fun h => h.endRun.dropCmd) h)

theorem resetCtl {f} (h : s.retryBounded) : (s.resetCtl f).retryBounded :=
  h.endCommands.closeContexts.endSession.modCtl.raise

theorem resetFn {f} (h : s.retryBounded) : (s.resetFn f).retryBounded :=
  .ite h.resetCtl.modCtl.raise.closeWindow h.resetCtl.modCtl.raise

theorem portEvent {p} (h : s.retryBounded) : (s.portEvent p).retryBounded :=
  .foldl (fun h => .modCtl (.ite h.resetFn h)) h.bump

/-! ### Ports and the setup window (spec 12) -/

theorem hostPortEvent {p c} (h : s.retryBounded) : (Machine.portEvent p c s).retryBounded := by
  refine .ite h (.portEvent (.update ?_))
  split
  · exact h.raiseIf.putb.put.put
  · exact h.raiseIf.putb.put.put.putb.raise.expect
  · exact h

theorem readyPort {p} (h : s.retryBounded) : (s.readyPort p).retryBounded :=
  .ite h (.foldl (fun h => .ite h.modCtl h) h)

theorem linkUp {p rate width} (h : s.retryBounded) : (Machine.linkUp p rate width s).retryBounded :=
  .ite h h.putb.put.put.raise.readyPort

theorem linkL12 {p} (h : s.retryBounded) : (Machine.linkL12 p s).retryBounded :=
  .ite h.update.expect h

theorem perstRelease {p} (h : s.retryBounded) : (Machine.perstRelease p s).retryBounded :=
  .ite (.ite h.putb.expect h.putb) h

theorem resetWithVfs {f} (h : s.retryBounded) : (s.resetWithVfs f).retryBounded :=
  .ite (.foldl (fun h => h.resetFn) h.resetFn) h.resetFn

theorem functionConfigApply (h : s.retryBounded) : (Machine.functionConfigApply s).retryBounded :=
  .ite h.put.put.raise (.foldl (fun h => h.modCtl) h.put.put)

theorem tlpReceive {p t'} (h : s.retryBounded) : (Machine.tlpReceive p t' s).retryBounded :=
  .ite h (.ite h.bump.raise (.ite h.raise (.ite h.raise h.update)))

theorem pciConfigWrite {f w} (h : s.retryBounded) : (Machine.pciConfigWrite f w s).retryBounded := by
  unfold Machine.pciConfigWrite
  split
  · exact h
  · split
    · exact .ite h.modCtl.closeWindow h.modCtl
    · exact .ite h (.ite (.foldl (fun h => h.resetFn) h.modCtl) h.modCtl)

theorem nvmeMiRead {r} (h : s.retryBounded) : (Machine.nvmeMiRead r s).retryBounded :=
  .ite h.update (.ite h.raise.update (.ite h.update (.ite h.update h.raise.update)))

/-! ### Images and floors (spec 15) -/

theorem verify {im} (h : s.retryBounded) : (s.verify im).2.retryBounded := by
  unfold State.verify
  split
  · exact h
  · exact h.raise
  · exact h.raise

theorem extend {k v} (h : s.retryBounded) : (s.extend k v).retryBounded :=
  h.update

theorem measureSecurity (h : s.retryBounded) : s.measureSecurity.retryBounded :=
  h.extend

theorem measure {im} (h : s.retryBounded) : (s.measure im).retryBounded :=
  .ite (.put (.ite h.extend.update.put.put h.extend.update)) (.ite h.extend.update.put.put h.extend.update)

theorem advanceFloor {cls target bad} (h : s.retryBounded) : (s.advanceFloor cls target bad).retryBounded :=
  .raiseIf (.foldl (fun h => h.put.raise.measureSecurity) h)

theorem makeLkg {b bad} (h : s.retryBounded) : (s.makeLkg b bad).retryBounded := by
  unfold State.makeLkg
  split
  · exact h.update.putb.putb
  · refine .foldl (fun h => ?_) h.update.putb.putb
    split
    · exact .ite h.advanceFloor h
    · exact h

/-! ### Doorbells, queues and tags (spec 13) -/

theorem badDoorbell {f info} (h : s.retryBounded) : (s.badDoorbell f info).retryBounded :=
  h.asyncEvent.raise

theorem sqDoorbell {f qid v} (h : s.retryBounded) : (Machine.sqDoorbell f qid v s).retryBounded := by
  unfold Machine.sqDoorbell
  split
  · exact h.badDoorbell
  · exact .ite h.badDoorbell h.modCtl

theorem cqDoorbell {f qid v} (h : s.retryBounded) : (Machine.cqDoorbell f qid v s).retryBounded := by
  unfold Machine.cqDoorbell
  split
  · exact h.badDoorbell
  · exact .ite h.badDoorbell h.modCtl

theorem controllerEnable {f ams asq acq} (h : s.retryBounded) : (Machine.controllerEnable f ams asq acq s).retryBounded :=
  .ite h (.ite h.modCtl h.modCtl)

theorem controllerShutdown {f} (h : s.retryBounded) : (Machine.controllerShutdown f s).retryBounded :=
  .ite h h.modCtl.shutdownStep

theorem choose {cost e' f q c} (h : s.retryBounded) (e : s.choose cost e' = some (f, q, c, t)) : t.retryBounded := by
  unfold State.choose at e
  dsimp only at e
  split at e
  · cases e
  · split at e
    · cases e
      exact h.update
    · split at e
      · cases e
        exact h.update
      · split at e
        · cases e
        · split at e
          · cases e
          · split at e
            · cases e
            · cases e
              exact h.modCtl.update

theorem tagEpisodes (h : s.retryBounded) : s.tagEpisodes.retryBounded :=
  .ite (.raise (.bump (.update (.ite h.update.bump.raise h)))) (.ite h.update.bump.raise h)

theorem commandFetch {e'} (h : s.retryBounded) : (Machine.commandFetch e' s).retryBounded := by
  unfold Machine.commandFetch
  dsimp only
  split
  · exact h.tagEpisodes
  next e =>
    split
    · exact (h.tagEpisodes.choose e).modCtl.update.complete
    · exact (h.tagEpisodes.choose e).modCtl.update

theorem completionPost {f cq} (h : s.retryBounded) : (Machine.completionPost f cq s).retryBounded := by
  unfold Machine.completionPost
  dsimp only
  split
  · exact h
  · split
    · exact h
    · split
      · exact h
      · split
        · exact h.modCtl.raiseIf.posted
        · exact h.modCtl.raiseIf

/-! ### I/O commands (spec 12.3, 13.4) -/

theorem modNs {nsid f} (h : s.retryBounded) : (s.modNs nsid f).retryBounded :=
  h.update

theorem conflictEnd {tag} (h : s.retryBounded) : (s.conflictEnd tag).retryBounded :=
  h.complete.raise

theorem hops {h'} (h : s.retryBounded) : (s.hops h').2.retryBounded := by
  unfold State.hops
  refine .ite_snd h.bump.raise ?_
  extract_lets k s1
  have h1 : s1.retryBounded := .foldl (fun h => h.bump.raise) h
  exact .ite_snd h1 (.ite_snd h1.raise h1)

theorem placeBlocks {c n lba bs w} (h : s.retryBounded) : (s.placeBlocks c n lba bs w).retryBounded :=
  .ite (.finishWrites (.modCmd (.foldl (fun h => h.place) h))) (.complete (.foldl (fun h => h.place) h))

theorem nvmWrite {tag w} (h : s.retryBounded) : (Machine.nvmWrite tag w s).retryBounded := by
  unfold Machine.nvmWrite
  dsimp only
  split
  · exact h
  · split
    · exact h.complete
    · split
      · exact h.refuse
      · split
        · exact h.conflictEnd
        · split
          · exact h
          · split
            · exact (h.hops.of_snd ‹_›).complete
            · split
              · exact (h.hops.of_snd ‹_›).raise.complete
              · exact (h.hops.of_snd ‹_›).placeBlocks

theorem takeBlock {n lba p d} (h : s.retryBounded) : (s.takeBlock n lba p d).2.retryBounded := by
  unfold State.takeBlock
  dsimp only
  split
  · exact h.hitPage
  · exact h.dramRead

theorem readBlock {c n r lba} (h : s.retryBounded) : (s.readBlock c n r lba).2.retryBounded := by
  unfold State.readBlock
  dsimp only
  have hfill {u : State} {p x} (hu : u.retryBounded) : (u.fillEnded p x).retryBounded := hu.fillEnded
  split
  · exact h
  · split
    · exact h.takeBlock
    · exact h
    · refine .ite_snd h ?_
      split
      · exact h
      · split
        · split
          · exact h.startFill
          · split
            · exact (hfill h.startFill).takeBlock
            · exact hfill h.startFill
        · split
          · exact (hfill h).takeBlock
          · exact hfill h
        · exact h.startFill
        · exact .ite h h.joinFill
        · exact h
        · exact h

theorem readBlocks {c n r lba count} (h : s.retryBounded) : (Machine.readBlocks c n r lba count s).2.retryBounded := by
  unfold Machine.readBlocks
  refine .foldl_snd (fun h => ?_) h
  split
  · exact h.readBlock.of_snd ‹_›

theorem failRead {tag lba got} (h : s.retryBounded) : (s.failRead tag lba got).retryBounded := by
  unfold State.failRead
  dsimp only
  split
  · exact .readError (.ite h.update h)
  · split
    · exact h.raiseIf.complete
    · exact h

theorem nvmRead {op tag transfer r} (h : s.retryBounded) : (Machine.nvmRead op tag transfer r s).retryBounded := by
  unfold Machine.nvmRead
  split
  · exact h
  · extract_lets e dirty s0
    have h0 : s0.retryBounded := .ite h.modCmd.streamRead h
    refine .ite h.complete (.ite h.refuse (.ite h.conflictEnd (.ite h (.ite h.tenancyRefused.readError
      (.ite (.ite h.modCmd.requestDrain h) ?_)))))
    split
    next e1 =>
      have h1 := h0.readBlocks.of_snd e1
      refine .ite h1 (.ite h1.failRead ?_)
      split
      next e2 => exact (h1.hops.of_snd e2).complete
      next e2 =>
        have h2 := h1.hops.of_snd e2
        split
        · exact h2.raise.complete
        · exact .ok (.ite h2.answer h2)

theorem nvmFlush {tag} (h : s.retryBounded) : (Machine.nvmFlush tag s).retryBounded := by
  unfold Machine.nvmFlush
  split
  · exact h
  · exact h.drainFor

theorem dealloc {n lba} (h : s.retryBounded) : (s.dealloc n lba).retryBounded := by
  unfold State.dealloc
  refine .closeEmpty ?_
  refine .modSqr ?_
  refine .update ?_
  split
  · exact .ite h.modPage.ungroup.freePg h.modPage.ungroup
  · exact h

theorem nvmWriteZeroes {tag w} (h : s.retryBounded) : (Machine.nvmWriteZeroes tag w s).retryBounded := by
  unfold Machine.nvmWriteZeroes
  dsimp only
  split
  · exact h
  · split
    · exact h.complete
    · split
      · exact h.conflictEnd
      · split
        · exact .ok (.foldl (fun h => h.dealloc) h)
        · split
          · exact (h.hops.of_snd ‹_›).complete
          · exact (h.hops.of_snd ‹_›).placeBlocks

theorem nvmDsm {tag ranges} (h : s.retryBounded) : (Machine.nvmDsm tag ranges s).retryBounded := by
  unfold Machine.nvmDsm
  split
  · exact h
  next c n _ =>
    have hd {l : List (Nat × Nat)} : (l.foldl (fun t r =>
        (List.range r.2).foldl (fun u i => u.dealloc n (r.1 + i)) t) s).retryBounded :=
      .foldl (fun h => .foldl (fun h => h.dealloc) h) h
    exact .ite h.complete (.ite h.conflictEnd (.ite h.ok hd.ok))

theorem resvNotify {rs bit} (h : s.retryBounded) : (s.resvNotify rs bit).retryBounded :=
  .foldl (fun h => .ite h h.asyncEvent) h

theorem resvRegister {tag crkey nrkey} (h : s.retryBounded) : (Machine.resvRegister tag crkey nrkey s).retryBounded := by
  unfold Machine.resvRegister
  dsimp only
  split
  · exact h
  · split
    · exact .ite h.refuse h.modNs.ok
    · exact .ite h.modNs.ok h.conflictEnd
    · exact .ite (.ite h.modNs.ok.resvNotify h.modNs.ok) h.conflictEnd
    · exact .ite h.modNs.ok h.conflictEnd
    · exact h.conflictEnd
    · exact h.conflictEnd
    · exact h.refuse

theorem resvReport {tag} (h : s.retryBounded) : (Machine.resvReport tag s).retryBounded := by
  unfold Machine.resvReport
  split
  · exact h
  · exact h.answer.ok

theorem resvAcquire {tag crkey prkey} (h : s.retryBounded) :
    (Machine.resvAcquire tag crkey prkey s).retryBounded := by
  unfold Machine.resvAcquire
  split
  · exact h
  · extract_lets act typ host r gone takes x s1 s2
    refine .ite h.conflictEnd (.ite h.refuse (.ite (.ite h.modNs.ok (.ite h.ok h.conflictEnd)) ?_))
    refine .ite h.conflictEnd ?_
    have h1 : s1.retryBounded := h.modNs.resvNotify
    have h2 : s2.retryBounded := .ite (.foldl (fun h => h.complete) h1) h1
    exact h2.ok

theorem resvRelease {tag crkey} (h : s.retryBounded) : (Machine.resvRelease tag crkey s).retryBounded := by
  unfold Machine.resvRelease
  split
  · exact h
  · extract_lets act typ host r others
    refine .ite h.conflictEnd (.ite h.modNs.resvNotify.ok (.ite h.refuse (.ite h.ok (.ite h.refuse ?_))))
    exact .ok (.ite h.modNs.resvNotify h.modNs)

/-! ### Keys and tenancies (spec 15.1, 15.7) -/

theorem entropyFail (h : s.retryBounded) : (Machine.entropyFail s).retryBounded :=
  h.putb.bump.raise

theorem drawKey {k} (h : s.retryBounded) (e : s.drawKey = some (k, t)) : t.retryBounded := by
  unfold State.drawKey at e
  split at e
  · cases e
    exact h.fresh (w := 256)
  · cases e

theorem drawXts {fuel k} (h : s.retryBounded) (e : s.drawXts fuel = some (k, t)) : t.retryBounded := by
  induction fuel generalizing s with
  | zero => cases e
  | succ fuel ih =>
    unfold State.drawXts at e
    split at e
    · cases e
    next h1 =>
      split at e
      · cases e
      next h2 =>
        split at e
        · exact ih ((h.drawKey h1).drawKey h2) e
        · cases e
          exact (h.drawKey h1).drawKey h2

theorem newNonce (h : s.retryBounded) : s.newNonce.retryBounded := by
  unfold State.newNonce
  refine .foldl (fun h => ?_) h
  split
  · exact (h.fresh.of_snd ‹_›).put

theorem noRandom {tag} (h : s.retryBounded) : (s.noRandom tag).retryBounded :=
  h.raise.refuse

theorem deriveKeys (h : s.retryBounded) : s.deriveKeys.retryBounded := by
  unfold State.deriveKeys
  split
  · exact .ite h h.update.putb
  · exact h

theorem setTenKey {t' k} (h : s.retryBounded) : (s.setTenKey t' k).retryBounded :=
  h.update

theorem unwrapNs {t'} (h : s.retryBounded) : (s.unwrapNs t').retryBounded :=
  h.update

theorem lockTen {t'} (h : s.retryBounded) : (s.lockTen t').retryBounded :=
  h.setTenKey.put.unwrapNs

theorem unlockTen {t'} (h : s.retryBounded) : (s.unlockTen t').retryBounded :=
  h.setTenKey.put.unwrapNs

theorem countNs {t'} (h : s.retryBounded) : (s.countNs t').retryBounded :=
  h.put

theorem clearNs {n} (h : s.retryBounded) : (s.clearNs n).retryBounded :=
  .modNs (.update (.closeEmpty (.modSqr (.foldl (fun h => h.modPage.ungroup.tryFree) h))))

theorem rekeyNs {n} (h : s.retryBounded) (e : s.rekeyNs n = some t) : t.retryBounded := by
  obtain ⟨r, hr, rfl⟩ := Option.map_eq_some_iff.1 e
  exact (h.drawXts hr).modNs

theorem rekeyTen {k} (h : s.retryBounded) (e : s.rekeyTen k = some t) : t.retryBounded := by
  unfold State.rekeyTen at e
  split at e
  next hd =>
    cases e
    exact (h.drawKey hd).setTenKey
  · cases e
    exact h
  · cases e

/-- A chain of steps that may stop, each of which keeps the bound. -/
theorem foldl_bind {α : Type} {g : State → α → Option State}
    (hg : ∀ {u v x}, u.retryBounded → g u x = some v → v.retryBounded) {l : List α} {o : Option State}
    (h : ∀ u, o = some u → u.retryBounded) (e : l.foldl (fun o x => o.bind (fun u => g u x)) o = some t) : t.retryBounded := by
  induction l generalizing o with
  | nil => exact h t e
  | cons x l ih =>
    refine ih (fun v hv => ?_) e
    obtain ⟨u, hu, hg'⟩ := Option.bind_eq_some_iff.1 hv
    exact hg (h u hu) hg'

theorem rekey {tens nss} (h : s.retryBounded) (e : s.rekey tens nss = some t) : t.retryBounded :=
  foldl_bind rekeyNs (fun _ => foldl_bind rekeyTen (fun _ hu => Option.some.inj hu ▸ h)) e

theorem cryptoErase {tens nss src} (h : s.retryBounded) (e : s.cryptoErase tens nss src = some t) : t.retryBounded := by
  obtain ⟨u, hu, rfl⟩ := Option.map_eq_some_iff.1 e
  exact (rekey (.foldl clearNs h) hu).raise

theorem formatNvm {tag} (h : s.retryBounded) : (Machine.formatNvm tag s).retryBounded := by
  unfold Machine.formatNvm
  dsimp only
  split
  · exact h
  · split
    · exact h.complete
    · split
      · exact h.complete
      · split
        · exact h.refuse
        · split
          · exact h
          · split
            · exact h.noRandom
            next e =>
              split at e
              · cases e
                exact h.clearNs.modNs.ok
              · exact (h.cryptoErase e).modNs.ok

theorem sanitize {tag} (h : s.retryBounded) : (Machine.sanitize tag s).retryBounded := by
  unfold Machine.sanitize
  split
  · exact h
  · split
    · exact h.refuse
    · split
      · exact h
      · split
        · exact h.noRandom
        · exact (h.cryptoErase ‹_›).ok

theorem namespaceCreate {tag p} (h : s.retryBounded) : (Machine.namespaceCreate tag p s).retryBounded := by
  unfold Machine.namespaceCreate
  dsimp only
  split
  · exact h
  · split
    · exact h.refuse
    · split
      · exact h.refuse
      · split
        · exact h.complete
        · split
          · exact h.complete
          · split
            · exact h.refuse
            · split
              · exact h.noRandom
              · exact (h.drawXts ‹_›).update.countNs.clearNs.ok

theorem namespaceDelete {tag} (h : s.retryBounded) : (Machine.namespaceDelete tag s).retryBounded := by
  unfold Machine.namespaceDelete
  split
  · exact h
  · split
    · exact h.refuse
    · split
      · exact h.complete
      · exact .ite h h.clearNs.update.countNs.ok

theorem namespaceAttach {tag f attach} (h : s.retryBounded) : (Machine.namespaceAttach tag f attach s).retryBounded := by
  unfold Machine.namespaceAttach
  split
  · exact h
  · split
    · exact h.refuse
    · split
      · exact h.complete
      · exact .ite (.ite h.complete (.ite h.refuse h.modNs.modCtl.asyncEvent.ok)) (.ite h.complete h.modNs.modCtl.asyncEvent.ok)

theorem setControllerWeight {tag} (h : s.retryBounded) : (Machine.setControllerWeight tag s).retryBounded := by
  unfold Machine.setControllerWeight
  split
  · exact h
  · exact .ite h.refuse h.put.ok

/-! ### The retry ladder (spec 04) -/

theorem outcomeEvents {n o} (h : s.retryBounded) : (Machine.outcomeEvents n o s).retryBounded := by
  unfold Machine.outcomeEvents
  split
  · exact h.raise
  · exact h.raise
  · exact h.raise
  · exact h.bump.raise
  · exact h.bump.raise
  · exact h

theorem setLadder {n l} (h : s.retryBounded) : (s.setLadder n l).retryBounded :=
  h.modAv

theorem recordLadder {n l e'} (h : s.retryBounded) : (Machine.recordLadder n l e' s).retryBounded :=
  h.modAv

theorem unpin {n l} (h : s.retryBounded) : (Machine.unpin n l s).retryBounded :=
  .ite h.put h

theorem unscheduled {n sec} (h : s.retryBounded) : (Machine.unscheduled n sec s).retryBounded :=
  .ite h h.modAv

theorem classify {n sec cls} (h : s.retryBounded) : (Machine.classify n sec cls s).retryBounded := by
  have h1 {k src} : ((s.bump k).raise src).retryBounded := h.bump.raise
  unfold Machine.classify
  split
  · exact h.unscheduled
  · exact h1.unscheduled
  · exact .ite h1.unscheduled h1.modAv
  · exact h1.unscheduled.modAv
  · exact h1.unscheduled.modAv

theorem endEvents {n e'} (h : s.retryBounded) : (Machine.endEvents n e' s).retryBounded := by
  unfold Machine.endEvents
  split
  · exact h.bump.raise
  · exact h.bump.raise
  · exact h

/-- Held jobs enter the queue only while it has room. -/
theorem refill_queue_length {r : RetryDecoders} (h : r.queue.length ≤ 64) : r.refill.queue.length ≤ 64 := by
  unfold RetryDecoders.refill
  generalize r.held = l
  induction l generalizing r with
  | nil => exact h
  | cons j l ih =>
    refine ih ?_
    beta_reduce
    split
    next hadm =>
      have hlt : r.queue.length < 64 := of_decide_eq_true (Bool.and_eq_true_iff.1 hadm).1
      simpa using hlt
    · exact h

theorem endLadder {n l e'} (h : s.retryBounded) : (Machine.endLadder n l e' s).retryBounded := by
  refine .classify (.endEvents (.recordLadder ?_))
  exact refill_queue_length ((List.length_filter_le _ _).trans h.unpin.modAv)

theorem advanceLadder {n l lvl step} (h : s.retryBounded) : (Machine.advanceLadder n l lvl step s).retryBounded := by
  unfold Machine.advanceLadder
  split
  · exact h.endLadder
  · split
    · exact h.endLadder
    · exact h.setLadder.recordLadder

theorem abortLadder {n id} (h : s.retryBounded) : (Machine.abortLadder n id s).retryBounded := by
  unfold Machine.abortLadder
  split
  · exact h
  · exact .ite h.endLadder h.setLadder

theorem stepFailed {n l} (h : s.retryBounded) : (Machine.stepFailed n l s).retryBounded :=
  .ite h.unpin.advanceLadder h.advanceLadder

theorem stepEnded {n l o} (h : s.retryBounded) : (Machine.stepEnded n l o s).retryBounded := by
  unfold Machine.stepEnded
  split
  · exact h.endLadder
  · exact h.endLadder
  · exact h.endLadder
  · exact h.endLadder
  · exact h.stepFailed

theorem startLadder {n sec} (h : s.retryBounded) : (Machine.startLadder n sec s).retryBounded :=
  .advanceLadder (.raise (.modAv (.ite h.bump.put (.ite h.bump.bump.raise h.bump))))

theorem displaceRereads {n} (h : s.retryBounded) : (s.displaceRereads n).retryBounded :=
  h.modAv

theorem rereadEnded {n sec lvl k o} (h : s.retryBounded) : (Machine.rereadEnded n sec lvl k o s).retryBounded := by
  unfold Machine.rereadEnded
  split
  · exact h
  · exact h.stepEnded

theorem failRereads {n cyl face lvl k} (h : s.retryBounded) : (Machine.failRereads n cyl face lvl k s).retryBounded :=
  .foldl (fun h => h.stepFailed) h

theorem finishSector {n sec o block} (h : s.retryBounded) :
    (Machine.finishSector n sec o block s).retryBounded := by
  unfold Machine.finishSector
  extract_lets s1 s2
  have h1 : s1.retryBounded := h.outcomeEvents.modSeq
  have h2 : s2.retryBounded := .ite h1.modAv h1
  split
  · exact h2.rereadEnded
  · exact .ite h2.startLadder (.ite h2.unscheduled h2)

theorem drainMisses {n k} (h : s.retryBounded) : (Machine.drainMisses n k s).retryBounded := by
  induction k generalizing s with
  | zero => exact h
  | succ k ih =>
    unfold Machine.drainMisses
    split
    · split
      · exact h
      · exact ih h.modAv.finishSector
    · exact h

/-! ### Admin commands (spec 12.3, 13.6) -/

theorem endCmd {tag sct sc} (h : s.retryBounded) : (s.endCmd tag sct sc).retryBounded :=
  h.endRun.complete

theorem deleteSq {tag} (h : s.retryBounded) : (Machine.deleteSq tag s).retryBounded := by
  unfold Machine.deleteSq
  split
  · exact h
  · exact .ite h.complete (.ok (.modCtl (.foldl (fun h => h.endCmd) h)))

theorem createSq {tag} (h : s.retryBounded) : (Machine.createSq tag s).retryBounded := by
  unfold Machine.createSq
  split
  · exact h
  · exact .ite h.complete (.ite h.complete (.ite h.complete (.ite h.refuse h.modCtl.ok)))

theorem deleteCq {tag} (h : s.retryBounded) : (Machine.deleteCq tag s).retryBounded := by
  unfold Machine.deleteCq
  split
  · exact h
  · exact .ite h.complete (.ite h.complete (.ok (.foldl (fun h => h.dropCmd) h.modCtl)))

theorem createCq {tag} (h : s.retryBounded) : (Machine.createCq tag s).retryBounded := by
  unfold Machine.createCq
  split
  · exact h
  · exact .ite h.complete (.ite h.complete (.ite h.complete (.ite h.refuse h.modCtl.ok)))

theorem setFeatures {tag data} (h : s.retryBounded) : (Machine.setFeatures tag data s).retryBounded := by
  unfold Machine.setFeatures
  dsimp only
  split
  · exact h
  · split
    · exact h.refuse
    · split
      · exact h.complete
      · split
        · exact .ite h.complete (.ite h.refuse (.ok (.foldl (fun h => h.modNs) h)))
        · split
          · exact .ite h.modCtl.ok h.refuse
          · exact .ite h.refuse h.modCtl.ok
          · exact h.modCtl.ok
          · exact .ite h.refuse h.modCtl.ok
          · exact h.modCtl.ok
          · exact h.modCtl.ok

theorem getFeatures {tag} (h : s.retryBounded) : (Machine.getFeatures tag s).retryBounded := by
  unfold Machine.getFeatures
  dsimp only
  split
  · exact h
  · split
    · split
      · exact h.complete
      · exact h.ok
    · exact .ite h.refuse (.ite h.ok (.ite h.answer.ok h.ok))

theorem asyncRequest {tag} (h : s.retryBounded) : (Machine.asyncRequest tag s).retryBounded := by
  unfold Machine.asyncRequest
  split
  · exact h
  · split
    · exact h.modCtl.ok
    · exact h.modCtl.modCmd

theorem identify {tag} (h : s.retryBounded) : (Machine.identify tag s).retryBounded := by
  unfold Machine.identify
  split
  · exact h
  · split
    · split
      · exact h.complete
      · split
        · exact h.answer.ok
        · exact h.answer.ok
    · exact h.answer.ok
    · exact h.answer.ok
    · exact h.refuse

theorem getLogPage {tag} (h : s.retryBounded) : (Machine.getLogPage tag s).retryBounded := by
  unfold Machine.getLogPage
  dsimp only
  split
  · exact h
  · split
    · exact h.complete
    · split
      · exact h.complete
      · exact .ok (.answer (.ite h.modCtl h))

theorem abortCmd {tag ladders} (h : s.retryBounded) : (Machine.abortCmd tag ladders s).retryBounded := by
  unfold Machine.abortCmd
  split
  · exact h
  · refine .ite h.raise.complete ?_
    split
    · exact h.ok
    · extract_lets arc s1 s2 s3
      have h1 : s1.retryBounded := .foldl (fun h => h.abortLadder) h
      have h2 : s2.retryBounded := h1.endCmd.modCtl
      have h3 : s3.retryBounded := .ite h2.bump.raise h2
      exact h3.update.raise.modCmd

/-! ### The Arcade's shared operations (spec 14) -/

theorem cbResult {tag o sct sc} (h : s.retryBounded) : (s.cbResult tag o sct sc).retryBounded :=
  h.update

theorem arcEnd {tag o sct sc dw0} (h : s.retryBounded) : (s.arcEnd tag o sct sc dw0).retryBounded :=
  h.cbResult.endRun.complete

theorem arcLog {k by'} (h : s.retryBounded) : (s.arcLog k by').retryBounded :=
  h.update

theorem modRun {tag f} (h : s.retryBounded) : (s.modRun tag f).retryBounded :=
  h.update

/-! ### The Arcade's commands (spec 14) -/

theorem indexPut {n e'} (h : s.retryBounded) : (s.indexPut n e').retryBounded :=
  h.modNs

theorem finishPut {tag n r} (h : s.retryBounded) : (Machine.finishPut tag n r s).retryBounded :=
  .ite h.arcEnd (.ite h.arcEnd (.ite h.bump.raise.arcEnd h.indexPut.modCmd.arcLog.arcEnd))

theorem finishDigest {tag c r} (h : s.retryBounded) : (Machine.finishDigest tag c r s).retryBounded := by
  unfold Machine.finishDigest
  split
  · split
    · exact h.arcEnd
    · exact h.update.arcLog.arcEnd
  · exact h.arcLog.arcEnd

theorem finishVerify {tag r} (h : s.retryBounded) : (Machine.finishVerify tag r s).retryBounded :=
  .arcEnd (.ite h.arcLog h)

theorem finishEncode {tag r} (h : s.retryBounded) : (Machine.finishEncode tag r s).retryBounded :=
  h.answer.arcLog.arcEnd

theorem finishRun {c n r} (h : s.retryBounded) : (Machine.finishRun c n r s).retryBounded :=
  .ite h.finishPut (.ite h.answer.arcLog.arcEnd (.ite h.finishDigest (.ite h.finishVerify (.ite h.finishEncode h))))

theorem beginSource {c n e' stream off len} (h : s.retryBounded) :
    (Machine.beginSource c n e' stream off len s).retryBounded := by
  unfold Machine.beginSource
  dsimp only
  split
  · exact .ite h.modRun.finishRun h.modRun
  · exact h.modRun

theorem startRun {c n cb} (h : s.retryBounded) : (Machine.startRun c n cb s).retryBounded := by
  unfold Machine.startRun
  dsimp only
  split
  · split
    · exact h.arcEnd
    · exact .arcEnd (.ite (.foldl (fun h => h.dealloc) h.modNs.modCmd.arcLog) h.modNs.modCmd.arcLog)
  · split
    · exact h.answer.arcEnd
    · split
      · exact .ite h.arcEnd (.ite h.arcEnd h.beginSource)
      · split
        · exact .ite h.arcEnd (.ite h.arcEnd h.beginSource)
        · split
          · exact h.arcEnd
          · exact .ite h.arcEnd (.ite h.arcEnd h.beginSource)

theorem enterCtx {c n cb k} (h : s.retryBounded) : (s.enterCtx c n cb k).retryBounded :=
  h.modCmd.update.startRun

theorem askCtx {c n cb} (h : s.retryBounded) : (s.askCtx c n cb).retryBounded := by
  unfold State.askCtx
  dsimp only
  split
  · exact h.enterCtx
  · exact .ite h.modCmd h.modCmd.update.bump.arcLog.raise

theorem arcService {op tag cb} (h : s.retryBounded) : (Machine.arcService op tag cb s).retryBounded := by
  unfold Machine.arcService
  split
  · exact h
  · exact h.complete
  · split
    · exact h.arcEnd
    · exact .ite h.arcEnd (.ite h.update.modCmd h.update.askCtx)

theorem contextCmd {tag act cb} (h : s.retryBounded) (e : s.contextCmd tag act cb = .error t) : t.retryBounded := by
  unfold State.contextCmd at e
  split at e
  · cases e
    exact h
  · cases e
    exact h.complete
  · split at e
    · cases e
      exact h.arcEnd
    · split at e
      · cases e
      · cases e
        exact h

theorem contextOpen {tag cb} (h : s.retryBounded) : (Machine.contextOpen tag cb s).retryBounded := by
  unfold Machine.contextOpen
  split
  next e => exact h.contextCmd e
  · split
    · exact h.raise.arcEnd
    · dsimp only
      split
      · exact .ite h.raise.arcEnd h.update.put.arcEnd
      · exact h.raise.arcEnd

theorem contextClose {tag cb} (h : s.retryBounded) : (Machine.contextClose tag cb s).retryBounded := by
  unfold Machine.contextClose
  split
  next e => exact h.contextCmd e
  · split
    · exact h.arcEnd
    · exact .ite h h.update.put.arcEnd

theorem waitEnd (h : s.retryBounded) : s.waitEnd.retryBounded :=
  .ite h h.update

theorem contextGrant (h : s.retryBounded) : (Machine.contextGrant s).retryBounded := by
  unfold Machine.contextGrant
  split
  · exact h
  · split
    · exact h.enterCtx.waitEnd
    · exact h.arcEnd.waitEnd

theorem barrierRelease {tag} (h : s.retryBounded) : (Machine.barrierRelease tag s).retryBounded := by
  unfold Machine.barrierRelease
  split
  · split
    · exact .ite h h.askCtx
    · exact h.arcEnd
  · exact h

theorem selfCheck {op cb differ} (h : s.retryBounded) : (s.selfCheck op cb differ).2.retryBounded :=
  .ite_snd (.ite (.raise (.foldl (fun h => h.bump.arcLog.raise) h)) (.foldl (fun h => h.bump.arcLog.raise) h)) h

theorem stepReads {c n r lbas} (h : s.retryBounded) : (Machine.stepReads c n r lbas s).2.retryBounded := by
  unfold Machine.stepReads
  refine .foldl_snd (fun h => ?_) h
  split
  · exact h.readBlock.of_snd ‹_›

theorem arcadeStep {tag i} (h : s.retryBounded) : (Machine.arcadeStep tag i s).retryBounded := by
  unfold Machine.arcadeStep
  dsimp only
  split
  · split
    · exact h.arcEnd
    · have h1 {c n r lbas} : (Machine.stepReads c n r lbas s).2.retryBounded := h.stepReads
      split
      · exact h1
      · split
        · exact .ite h1.arcLog.arcEnd h1.cbResult.endRun.failRead
        · refine .ite h1.raise.arcEnd (.ite h1.raise.arcEnd ?_)
          split
          · exact (h1.selfCheck.of_snd ‹_›).arcEnd
          next e =>
            have h2 := h1.selfCheck.of_snd e
            exact .ite h2.modRun h2.modRun.finishRun
  · exact h

theorem channelRequest {ctx q} (h : s.retryBounded) : (Machine.channelRequest ctx q s).retryBounded := by
  unfold Machine.channelRequest
  split
  · exact h.update.bump.raise
  · split
    · exact h.update
    · exact .ite h.update h.update.bump.raise

end State.retryBounded

end Sys2Proof.Machine
end

section
/-! SUPPORT. Bound of the retry queue (R122), third part: the Avenues, where jobs enter the queue and leave it. -/

namespace Sys2Proof.Machine

variable {s t : State}

namespace State.retryBounded

/-! ### Write gate and write faults (spec 05) -/

theorem dropGate {n} (h : s.retryBounded) : (s.dropGate n).retryBounded :=
  .ite h.modAv.modReaders h

theorem endOp {n st} (h : s.retryBounded) : (s.endOp n st).retryBounded := by
  unfold State.endOp
  split
  · exact h
  · exact .ite h.modSeq h

theorem writeFault {n first} (h : s.retryBounded) : (s.writeFault n first).retryBounded := by
  unfold State.writeFault
  split
  · exact h
  · extract_lets slot s1 s2 s3 s4
    have h1 : s1.retryBounded := .ite h h.put.put.put.put.put
    have h3 : s3.retryBounded := h1.bump.dropGate.endOp.modSeq
    have h4 : s4.retryBounded := .ite h3.modAv h3
    exact h4.raise

theorem inhibit {n c} (h : s.retryBounded) : (s.inhibit n c).retryBounded :=
  .ite h.raiseIf.writeFault h.dropGate

/-! ### The timing lane's states (spec 03) -/

theorem beginAttempt {n} (h : s.retryBounded) : (s.beginAttempt n).retryBounded :=
  h.put.modLane

theorem flagLane {n} (h : s.retryBounded) : (s.flagLane n).retryBounded :=
  h.modOp

theorem laneTo {n st} (h : s.retryBounded) : (s.laneTo n st).retryBounded := by
  unfold State.laneTo
  extract_lets left s1 s2 s3
  have h2 : s2.retryBounded := .ite h.put.flagLane.inhibit h.put
  have h3 : s3.retryBounded := .ite h2.beginAttempt h2
  exact .ite h3.endOp h3

theorem span {n r blocks} (h : s.retryBounded) : (s.span n r blocks).retryBounded :=
  h.modReader

theorem spanBoth {n blocks} (h : s.retryBounded) : (s.spanBoth n blocks).retryBounded :=
  h.modReaders

theorem headSwitch {n} (h : s.retryBounded) : (s.headSwitch n).retryBounded :=
  h.spanBoth

theorem laneZoneChange {n} (h : s.retryBounded) : (s.laneZoneChange n).retryBounded :=
  .spanBoth (.ite h.modLane.laneTo h)

theorem laneSeekStart {n} (h : s.retryBounded) : (s.laneSeekStart n).retryBounded :=
  .ite h h.laneTo.modLane

theorem laneSettle {n} (h : s.retryBounded) : (s.laneSettle n).retryBounded :=
  .ite h.laneTo h

theorem laneSlip {n} (h : s.retryBounded) : (s.laneSlip n).retryBounded :=
  h.bump.raise.laneTo

/-! ### Margins and zones (spec 01) -/

theorem postPreview {n z} (h : s.retryBounded) : (s.postPreview n z).retryBounded :=
  h.update

theorem zoneTakes {n z} (h : s.retryBounded) : (Machine.zoneTakes n z s).retryBounded :=
  h.update.modLane.laneZoneChange

theorem zoneChange {n z} (h : s.retryBounded) : (Machine.zoneChange n z s).retryBounded :=
  .ite h (.ite h.postPreview.zoneTakes h.postPreview.update)

theorem zoneRetry {n} (h : s.retryBounded) : (Machine.zoneRetry s n).retryBounded := by
  unfold Machine.zoneRetry
  split
  · exact .ite h.zoneTakes h
  · exact h

/-! ### The spindle's states (spec 08) -/

theorem modSpn {f} (h : s.retryBounded) : (s.modSpn f).retryBounded :=
  h.update

theorem updateRetOk (h : s.retryBounded) : s.updateRetOk.retryBounded :=
  h.putb

theorem spnTo {st} (h : s.retryBounded) : (s.spnTo st).retryBounded := by
  unfold State.spnTo
  extract_lets s1 s2 s3
  have h2 : s2.retryBounded := .ite h.put h.put.putb.modSpn
  have h3 : s3.retryBounded := .ite h2.modSpn (.ite h2.modSpn h2)
  exact h3.updateRetOk

theorem holdCheck (h : s.retryBounded) : s.holdCheck.retryBounded :=
  .ite h.spnTo h

theorem quotient {a b} (h : s.retryBounded) : (s.quotient a b).2.retryBounded := by
  unfold State.quotient
  split
  · exact h.fresh
  · split
    · exact h
    · split
      · exact h.fresh.of_snd ‹_›

theorem wedgeSpeed {n found} (h : s.retryBounded) : (s.wedgeSpeed n found).retryBounded := by
  unfold State.wedgeSpeed
  dsimp only
  split
  · exact h.modSv.putb
  · exact .ite h.modSv.putb.put.quotient.put.updateRetOk h.modSv.putb.put

/-! ### The servo engines' shared operations (spec 07) -/

theorem updateWinh {n} (h : s.retryBounded) : (s.updateWinh n).retryBounded :=
  .ite h.putb.inhibit h.putb

theorem updateOntrk {n} (h : s.retryBounded) : (s.updateOntrk n).retryBounded :=
  h.putb

theorem svTo {n st} (h : s.retryBounded) : (s.svTo n st).retryBounded :=
  .holdCheck (.updateWinh (.updateOntrk (.ite h.put.modSv h.put)))

theorem seekFail {n} (h : s.retryBounded) : (s.seekFail n).retryBounded :=
  h.bump.raise.modSv.endOp

theorem dropReq {n} (h : s.retryBounded) : (s.dropReq n).retryBounded :=
  .ite h.seekFail h

theorem genAhead {n} (h : s.retryBounded) : (s.genAhead n).retryBounded :=
  h.putb.modSv

theorem seekRequestOn {n f r} (h : s.retryBounded) : (s.seekRequestOn n f r).retryBounded := by
  unfold State.seekRequestOn
  extract_lets cyl fresh head moving old s1 inSeek s2 s3 s4
  refine .ite h.seekFail ?_
  have h1 : s1.retryBounded := h.modSv
  refine .ite ?_ h1.svTo
  have h3 : s3.retryBounded := .ite h1.put.modSv.modSv h1.put.modSv.putb.modSv.laneSeekStart
  exact .ite h3.svTo h3.svTo.genAhead

theorem seekRequest {n r} (h : s.retryBounded) : (s.seekRequest n r).retryBounded :=
  h.seekRequestOn

theorem control {n e'} (h : s.retryBounded) : (s.control n e').retryBounded :=
  h.modSv

theorem startUnload {n st} (h : s.retryBounded) : (s.startUnload n st).retryBounded :=
  h.dropReq.raiseIf.modSv.svTo

theorem unloadRequest {n} (h : s.retryBounded) : (s.unloadRequest n).retryBounded :=
  .ite h h.startUnload

theorem emergencyUnload {n} (h : s.retryBounded) : (s.emergencyUnload n).retryBounded :=
  .ite h h.startUnload.raise

theorem enterRecover {n} (h : s.retryBounded) : (s.enterRecover n).retryBounded :=
  h.dropReq.raise.modSv.laneSeekStart.svTo

/-! ### The sequencer's registers and halts (spec 06) -/

theorem setReg {n w i v} (h : s.retryBounded) : (s.setReg n w i v).retryBounded :=
  .ite h h.wr

theorem seqRunning {n} (h : s.retryBounded) : (s.seqRunning n).retryBounded :=
  h.put

theorem goTo {n a} (h : s.retryBounded) : (s.goTo n a).retryBounded :=
  h.put.seqRunning

theorem seqStopTo {n st} (h : s.retryBounded) : (s.seqStopTo n st).retryBounded :=
  h.put.putb.modSeq

theorem seqFault {n code} (h : s.retryBounded) : (s.seqFault n code).retryBounded :=
  .seqStopTo (.raise (.ite h h.put.put.put.put))

theorem takeTrap {n cause ret} (h : s.retryBounded) : (s.takeTrap n cause ret).retryBounded :=
  .ite h.seqFault (.goTo (.modSeq (.raiseIf (.ite h.put.put.bump h.put.put))))

theorem seqWait {n} (h : s.retryBounded) : (s.seqWait n).retryBounded :=
  h.put

theorem avenueOff {n} (h : s.retryBounded) : (s.avenueOff n).retryBounded :=
  h.putb.laneTo.dropGate.seqStopTo.putb.dropReq.svTo.modKz.expect

theorem disableAvenue {n} (h : s.retryBounded) : (s.disableAvenue n).retryBounded :=
  h.avenueOff.putb.raise

/-! ### Write path and preamp link (spec 05) -/

theorem setShock {k b} (h : s.retryBounded) : (s.setShock k b).retryBounded :=
  .ite h.update h.update

theorem shockRiseOn {k n} {old : State} (h : s.retryBounded) : (Machine.shockRiseOn k old s n).retryBounded :=
  .raiseIf (.ite h.raise.inhibit h)

theorem shockRise {k} (h : s.retryBounded) : (Machine.shockRise k s).retryBounded :=
  .ite h (.foldl (fun h => h.shockRiseOn) h.setShock)

theorem shockFallOn {k n} (h : s.retryBounded) : (Machine.shockFallOn k s n).retryBounded :=
  .ite (.modSv (.ite h.modAv h)) (.ite h.modAv h)

theorem shockFall {k} (h : s.retryBounded) : (Machine.shockFall k s).retryBounded :=
  .ite (.foldl (fun h => h.shockFallOn) h.setShock) h

theorem preampFault {n} (h : s.retryBounded) : (Machine.preampFault n s).retryBounded :=
  .ite h h.modAv.raise.inhibit

theorem softwareInhibit {n} (h : s.retryBounded) : (Machine.softwareInhibit n s).retryBounded :=
  .ite h h.putb.inhibit

theorem kazqGo {n} (h : s.retryBounded) : (Machine.kazqGo n s).retryBounded :=
  .ite h (.ite h.put h.putb.modKz.modAv)

theorem kazqCommand {n rd addr data} (h : s.retryBounded) : (Machine.kazqCommand n rd addr data s).retryBounded :=
  h.putb.put.put.kazqGo

theorem kazqFailed {n f} (h : s.retryBounded) : (Machine.kazqFailed n f s).retryBounded :=
  .ite h.modKz.raise.modKz.endOp h.modKz.raise.putb.put

theorem kazqWritten {n f} (h : s.retryBounded) : (Machine.kazqWritten n f s).retryBounded := by
  unfold Machine.kazqWritten
  split
  · exact .ite h.modKz.headSwitch.inhibit h.modKz.headSwitch
  · exact .ite h.modKz.modKz h.modKz
  · exact h.modKz

theorem kazqDone {n f data} (h : s.retryBounded) : (Machine.kazqDone n f data s).retryBounded := by
  unfold Machine.kazqDone
  extract_lets s1
  have h1 : s1.retryBounded := .ite h h.kazqWritten
  exact .ite h1 (.ite h1.putb.put.put h1.putb.put)

theorem kazqFrameEnd {n r} (h : s.retryBounded) : (Machine.kazqFrameEnd n r s).retryBounded := by
  unfold Machine.kazqFrameEnd
  dsimp only
  split
  · exact h.modAv
  · exact .ite h.modAv.modKz (.modAv (.ite h.modAv.modKz.kazqDone h.modAv.modKz.kazqFailed))

theorem putIdent {n d} (h : s.retryBounded) : (s.putIdent n d).retryBounded :=
  .foldl (fun h => h.wr) h

theorem kzShown {n rd addr cmd result} (h : s.retryBounded) : (s.kzShown n rd addr cmd result).retryBounded :=
  h.putb.put.put.put

theorem preampAccepted {n e' d calibrated} (h : s.retryBounded) : (Machine.preampAccepted n e' d calibrated s).retryBounded :=
  .ite h.put.put.put (.ite h.put.put.put.putb.raise.modAv.modAv h.put.put.put.putb.raise.modAv.disableAvenue)

theorem preampDiscovery {n p} (h : s.retryBounded) : (Machine.preampDiscovery n p s).retryBounded := by
  unfold Machine.preampDiscovery
  extract_lets s1 reads d s2
  have h1 : s1.retryBounded := h.put.putb
  refine .ite h1.kzShown.modKz.raise.put.raise.disableAvenue ?_
  have h2 : s2.retryBounded := h1.putIdent.kzShown.put
  refine .ite h2.put.raise.disableAvenue ?_
  split
  · exact .ite h2.put.raise.disableAvenue h2.preampAccepted
  · exact h2.put.raise.disableAvenue

/-! ### The test port and the fault pins (R150) -/

theorem loadIr {ir} (h : s.retryBounded) : (Machine.loadIr ir s).retryBounded :=
  h.update

theorem jtagIdcode (h : s.retryBounded) : (Machine.jtagIdcode s).retryBounded :=
  h.loadIr.update

theorem jtagSample {captured preload} (h : s.retryBounded) : (Machine.jtagSample captured preload s).retryBounded :=
  h.loadIr.update

/-! ### Formats (spec 02) -/

theorem clearZone {n z} (h : s.retryBounded) : (Machine.clearZone n s z).retryBounded :=
  h.wr.wr

theorem showZone {n zl} (h : s.retryBounded) : (Machine.showZone n s zl).retryBounded :=
  .ite h.put.put.put.put.put.put h

theorem formatApply {n} (h : s.retryBounded) : (Machine.formatApply n s).retryBounded := by
  unfold Machine.formatApply
  split
  · exact .raise (.ite h.put.put (.modAv (.foldl (fun h => h.clearZone) h.put.put.put)))
  · exact .modAv (.put (.put (.put (.foldl (fun h => h.showZone) (.foldl (fun h => h.clearZone) h)))))

/-! ### Detection, decoding and retry (spec 04) -/

theorem codeTableLoad {n} (h : s.retryBounded) : (Machine.codeTableLoad n s).retryBounded :=
  .ite h.put.raise (.ite h.put.put.modAv.raise h.put.put.put.modAv)

/-- Another codeword table leaves the queue as it is. -/
theorem setRetryCode {ws} (h : s.retryBounded) : State.retryBounded { s with rdec := { s.rdec with code := ws } } := h

theorem retryCodeTableLoad (h : s.retryBounded) : (Machine.retryCodeTableLoad s).retryBounded :=
  .ite h.put.raise (.ite h.put.setRetryCode.put.raise h.put.setRetryCode.put)

theorem endOldest {n o block} (h : s.retryBounded) : (Machine.endOldest n o block s).retryBounded := by
  unfold Machine.endOldest
  split
  · exact h
  · exact h.modAv.finishSector.drainMisses

theorem onTheFlyDecodeEnd {n d} (h : s.retryBounded) : (Machine.onTheFlyDecodeEnd n d s).retryBounded :=
  h.endOldest

theorem decodeOverrun {n} (h : s.retryBounded) : (Machine.decodeOverrun n s).retryBounded :=
  .ite h.endOldest h

theorem retryJobSubmit {n id} (h : s.retryBounded) : (Machine.retryJobSubmit n id s).retryBounded := by
  unfold Machine.retryJobSubmit
  split
  · exact h
  · split
    · split
      · exact h.stepFailed
      · split
        · exact h
        · refine .setLadder ?_
          dsimp only
          split
          next hadm =>
            have hlt : s.rdec.queue.length < 64 := of_decide_eq_true (Bool.and_eq_true_iff.1 (Bool.and_eq_true_iff.1 hadm).1).1
            simpa [State.retryBounded] using hlt
          · exact h
    · exact h

@[simp] theorem setRun_queue (r : RetryDecoders) (d : Fin 2) (j : Option RetryJob) : (r.setRun d j).queue = r.queue := by
  unfold RetryDecoders.setRun
  split <;> rfl

theorem retryJobStart {d} (h : s.retryBounded) : (Machine.retryJobStart d s).retryBounded := by
  unfold Machine.retryJobStart
  split
  · refine refill_queue_length ?_
    rw [setRun_queue]
    exact (List.length_erase_le ..).trans h
  · exact h

theorem retryJobEnd {d res} (h : s.retryBounded) : (Machine.retryJobEnd d res s).retryBounded := by
  have hfree : State.retryBounded { s with rdec := s.rdec.setRun d none } := by
    unfold State.retryBounded
    rw [setRun_queue]
    exact h
  unfold Machine.retryJobEnd
  split
  · exact h
  · dsimp only
    split
    · exact hfree
    · exact .stepEnded (.ite hfree.outcomeEvents.modAv hfree.outcomeEvents)

theorem ladderStepStart {n id} (h : s.retryBounded) : (Machine.ladderStepStart n id s).retryBounded := by
  unfold Machine.ladderStepStart
  split
  · exact h
  · split
    · split
      · exact h.endLadder
      · split
        · exact h.endLadder
        · exact .ite h.endLadder h.setLadder.recordLadder
    · exact h

theorem rereadDisplace {n id} (h : s.retryBounded) : (Machine.rereadDisplace n id s).retryBounded := by
  unfold Machine.rereadDisplace
  split
  · exact h
  · exact h.setLadder

theorem l6StepEnd {n id delivered} (h : s.retryBounded) : (Machine.l6StepEnd n id delivered s).retryBounded := by
  unfold Machine.l6StepEnd
  split
  · exact h
  · exact .ite (.ite h.endLadder h.stepFailed) h

theorem relocateSector {n sec spares} (h : s.retryBounded) : (Machine.relocateSector n sec spares s).retryBounded := by
  unfold Machine.relocateSector
  dsimp only
  split
  · split
    · exact h.modAv.modAv
    · exact h.modAv.modAv.raise
  · exact h

/-! ### The timing lane (spec 03) -/

theorem laneEnable {n} (h : s.retryBounded) : (Machine.laneEnable n s).retryBounded :=
  .ite h.putb.expect.laneTo.modLane h.putb

theorem laneDisable {n} (h : s.retryBounded) : (Machine.laneDisable n s).retryBounded :=
  h.putb.laneTo.dropGate.expect

theorem laneRelock {n} (h : s.retryBounded) : (Machine.laneRelock n s).retryBounded :=
  .ite h.laneTo h

theorem laneLoop {n e' amp} (h : s.retryBounded) : (Machine.laneLoop n e' amp s).retryBounded :=
  h.modLane.puti.puti.put

theorem laneLock {n e'} (h : s.retryBounded) : (Machine.laneLock n e' s).retryBounded :=
  .ite h.modLane.put.put.laneTo h.modLane

theorem laneLoss {n e' amp tvgaMax} (h : s.retryBounded) : (Machine.laneLoss n e' amp tvgaMax s).retryBounded :=
  .ite h.modLane.bump.raise.raiseIf.laneTo h.modLane

theorem laneMismatch {n} (h : s.retryBounded) : (Machine.laneMismatch n s).retryBounded :=
  .ite h.modLane.put.raise.inhibit h.modLane

theorem laneUpdate {n phases mags tvgaMax} (h : s.retryBounded) : (Machine.laneUpdate n phases mags tvgaMax s).retryBounded :=
  .ite h.laneLoop.laneLock (.ite (.ite h.laneLoop.laneLoss.laneMismatch h.laneLoop.laneLoss) h)

theorem acquireTimeout {n} (h : s.retryBounded) : (Machine.acquireTimeout n s).retryBounded :=
  .ite (.ite h.put.bump.raise.raise.laneTo h.put.bump.raise.beginAttempt) h

theorem wedgeBegin {n} (h : s.retryBounded) : (Machine.wedgeBegin n s).retryBounded :=
  .ite h.laneTo h

theorem moveSkew {n r d} (h : s.retryBounded) : (s.moveSkew n r d).retryBounded :=
  .ite h (.ite h.modReader.raise h.modReader)

theorem trackSkew {n r err} (h : s.retryBounded) : (Machine.trackSkew n r err s).retryBounded :=
  .ite h.modReader.moveSkew h.modReader

theorem sampleBlock {n r errs decs lms} (h : s.retryBounded) : (Machine.sampleBlock n r errs decs lms s).retryBounded := by
  unfold Machine.sampleBlock
  extract_lets tag other s1 s2 s3
  have h1 : s1.retryBounded := by
    clear_value tag
    dsimp only [s1]
    split
    · exact h.bump
    · exact h.bump
    · exact h
  have h3 : s3.retryBounded := .ite h1.modReader.trackSkew h1.modReader
  exact .ite (.ite h3.modReader h3) h1.modReader

theorem afeCalStep {n r limit} (h : s.retryBounded) : (Machine.afeCalStep n r limit s).retryBounded := by
  unfold Machine.afeCalStep
  split
  · exact h
  · split
    · exact (h.fresh.of_snd ‹_›).modReader.raiseIf

/-! ### The framer (spec 06.3) -/

theorem framerOpen {n} (h : s.retryBounded) : (Machine.framerOpen n s).retryBounded := by
  unfold Machine.framerOpen
  split
  · exact h.endOp
  · exact .ite h.modSeq.raiseIf (.ite h.modSeq.raiseIf.modAv h.modSeq.raiseIf.modAv.seekRequestOn)

theorem writeTap {n f z t' v} (h : s.retryBounded) : (Machine.writeTap n f z t' v s).retryBounded :=
  .put (.ite_snd h h.fresh)

theorem writeTaps {n f z r} (h : s.retryBounded) : (Machine.writeTaps n f z r s).retryBounded :=
  .foldl (fun h => h.writeTap) h

theorem skewBack {n f z} (h : s.retryBounded) : (Machine.skewBack n f z s).retryBounded :=
  .puti (.puti (.ite h.puti h))

theorem readWriteBack {n o} (h : s.retryBounded) : (Machine.readWriteBack n o s).retryBounded :=
  .ite (.writeTaps (.writeTaps (.ite h.skewBack h))) (.ite h.skewBack h)

theorem closeOp {n o} (h : s.retryBounded) : (Machine.closeOp n o s).retryBounded :=
  .modSeq (.modSv (.ite (.puti (.ite h.readWriteBack h)) (.ite h.readWriteBack h)))

theorem tryClose {n} (h : s.retryBounded) : (Machine.tryClose n s).retryBounded := by
  unfold Machine.tryClose
  split
  · exact h
  · exact .ite h.closeOp h

theorem framerClose {n} (h : s.retryBounded) : (Machine.framerClose n s).retryBounded :=
  h.modOp.tryClose

theorem framerCancel {n} (h : s.retryBounded) : (Machine.framerCancel n s).retryBounded :=
  h.modSeq.tryClose

theorem joinArm {n o k slot bits} (h : s.retryBounded) : (Machine.joinArm n o k slot bits s).retryBounded := by
  unfold Machine.joinArm
  dsimp only
  split
  · exact h
  · exact .modSeq (.ite h.bump h)

theorem takeWrite {n o} (h : s.retryBounded) : (Machine.takeWrite n o s).retryBounded :=
  .ite h (.ite h.endOp.raise h.modOp)

theorem arm {n k v raw bits} (h : s.retryBounded) : (Machine.arm n k v raw bits s).retryBounded := by
  unfold Machine.arm
  split
  · exact h
  · refine .ite h (.ite h.endOp ?_)
    extract_lets s1 full
    have h1 : s1.retryBounded := .ite h.takeWrite h
    split
    · exact .ite h1 h1.joinArm
    · exact h1

theorem afeReader {n o l2 r} (h : s.retryBounded) : (Machine.afeReader n o l2 s r).retryBounded := by
  unfold Machine.afeReader
  split
  extract_lets dv dc s1 s2
  have h1 : s1.retryBounded := h.put.put.put
  have h2 : s2.retryBounded := .ite h1.span h1
  exact .ite h2.span h2

theorem afeApply {n sel rb} (h : s.retryBounded) : (Machine.afeApply n sel rb s).retryBounded := by
  unfold Machine.afeApply
  split
  · exact h
  · exact .ite h (.foldl (fun h => h.afeReader) h)

theorem dspSelect {n sel rb} (h : s.retryBounded) : (Machine.dspSelect n sel rb s).retryBounded := by
  unfold Machine.dspSelect
  split
  · exact h.modOp
  · exact h.modOp
  · exact h.modOp
  · exact h

theorem markWindow {n sel} (h : s.retryBounded) : (Machine.markWindow n sel s).retryBounded :=
  h.modOp

theorem prepare {n write} (h : s.retryBounded) : (Machine.prepare n write s).retryBounded := by
  unfold Machine.prepare
  split
  · exact h
  · exact .ite h (.ite h.endOp.raise h.modOp.modKz.modAv)

theorem servoAction {n move} (h : s.retryBounded) : (Machine.servoAction n move s).retryBounded :=
  h.seekRequestOn

theorem markMiss {n fly} (h : s.retryBounded) : (Machine.markMiss n fly s).retryBounded :=
  .ite h.bump.raise.bump h.bump.raise

theorem deferSlot {n z} (h : s.retryBounded) : (Machine.deferSlot n z s).retryBounded := by
  unfold Machine.deferSlot
  split
  · exact h
  · exact h.bump.modSeq

theorem slotGain {n mag r} (h : s.retryBounded) : (Machine.slotGain n mag r s).retryBounded :=
  .ite h.modReader h

theorem slotTaps {n o a} (h : s.retryBounded) : (Machine.slotTaps n o a s).retryBounded := by
  unfold Machine.slotTaps
  split
  · exact .ite h.modAv h
  · exact h

theorem runSlot {n a marks decode align} (h : s.retryBounded) : (Machine.runSlot n a marks decode align s).retryBounded :=
  h.modSeq

theorem readSlot {n o z a i} (h : s.retryBounded) : (Machine.readSlot n o z a i s).retryBounded := by
  unfold Machine.readSlot
  dsimp only
  split
  · exact .runSlot (.ite h.slotGain.slotGain.slotTaps.moveSkew.moveSkew h.slotGain.slotGain.slotTaps)
  · exact h.slotGain.slotGain.slotTaps.markMiss.runSlot

theorem writeSlot {n o a i} (h : s.retryBounded) : (Machine.writeSlot n o a i s).retryBounded :=
  h.modAv.runSlot

theorem slotStart {n i} (h : s.retryBounded) : (Machine.slotStart n i s).retryBounded := by
  unfold Machine.slotStart
  dsimp only
  split
  · split
    · exact h.deferSlot
    · split
      · exact .ite h.writeFault (.ite h.bump.deferSlot (.ite h.bump.raise.modSeq.tryClose h.writeSlot))
      · exact .ite h.deferSlot h.readSlot
  · exact h

theorem resumeMark {n z r cands} (h : s.retryBounded) : (Machine.resumeMark n z r cands s).2.retryBounded := by
  unfold Machine.resumeMark
  split
  · exact h
  · split
    · exact h
    · exact h.markMiss

theorem slotEnd {n resume} (h : s.retryBounded) : (Machine.slotEnd n resume s).retryBounded := by
  unfold Machine.slotEnd
  split
  · split
    · exact .tryClose (.modAv (.ite h.modSeq h.modSeq.dropGate))
    · exact h.resumeMark.modSeq.modAv.drainMisses.tryClose
  · exact h

/-! ### Microcode (spec 06) -/

theorem setFlags {n v} (h : s.retryBounded) : (s.setFlags n v).retryBounded :=
  h.modSeq

theorem alu {n op x} (h : s.retryBounded) : (Machine.alu n op x s).retryBounded :=
  .ite h.setFlags h.setFlags.setReg

theorem outcomePop {n} (h : s.retryBounded) : (Machine.outcomePop n s).2.retryBounded := by
  unfold Machine.outcomePop
  split
  · exact h
  · exact h.modSeq

theorem portValue {n port ra} (h : s.retryBounded) : (Machine.portValue n port ra s).2.retryBounded := by
  have hf : (s.fresh 32).2.retryBounded := h.fresh
  unfold Machine.portValue
  refine .ite_snd h (.ite_snd h.outcomePop (.ite_snd h (.ite_snd ?_ (.ite_snd h (.ite_snd h hf)))))
  split
  · exact h
  · exact hf

theorem portPut {n port v} (h : s.retryBounded) : (Machine.portPut n port v s).retryBounded :=
  .ite h.modSeq (.ite h.modSeq h)

theorem portRead {n port rd ra} (h : s.retryBounded) : (Machine.portRead n port rd ra s).retryBounded :=
  h.portValue.setReg

theorem ringFetch {n} (h : s.retryBounded) : (Machine.ringFetch n s).retryBounded := by
  unfold Machine.ringFetch
  split
  · exact h.modSeq
  · exact h.modSeq

theorem ringComplete {n status} (h : s.retryBounded) : (Machine.ringComplete n status s).retryBounded :=
  .ite h (.ite h.modSeq.raiseIf.failRereads h.modSeq.raiseIf)

theorem entryWrite {n ring atHead e'} (h : s.retryBounded) : (Machine.entryWrite n ring atHead e' s).retryBounded :=
  .ite h.modSeq h

theorem setF {n b} (h : s.retryBounded) : (s.setF n b).retryBounded :=
  h.modSeq

theorem copyWindow {src dst} (h : s.retryBounded) : (Machine.copyWindow src dst s).retryBounded :=
  .foldl (fun h => h.wr) h

theorem spill {n} (h : s.retryBounded) : (Machine.spill n s).retryBounded :=
  .ite h.seqFault (.ite h.seqFault (.ite h.seqFault h.copyWindow.put))

theorem fill {n} (h : s.retryBounded) : (Machine.fill n s).retryBounded :=
  .ite h.seqFault h.copyWindow.put

theorem abandon {n} (h : s.retryBounded) : (Machine.abandon n s).retryBounded :=
  .ite h.seqFault h.put.put.modSeq.seqRunning

theorem ownerTimeLimit {n} (h : s.retryBounded) : (Machine.ownerTimeLimit n s).retryBounded :=
  .ite h.seqFault h

theorem frmAct {n x ra bits} (h : s.retryBounded) : (Machine.frmAct n x ra bits s).retryBounded := by
  unfold Machine.frmAct
  split
  · exact h.framerOpen
  · exact h.arm
  · exact h.arm
  · exact h.framerClose
  · exact h.framerCancel
  · exact h.arm
  · exact h

theorem ringAct {n x ra} (h : s.retryBounded) : (Machine.ringAct n x ra s).retryBounded := by
  unfold Machine.ringAct
  split
  · exact h.ringFetch
  · exact h.ringComplete
  · exact h.ringComplete.ringFetch
  · exact h

theorem groupAct {n x ra rb bits} (h : s.retryBounded) : (Machine.groupAct n x ra rb bits s).retryBounded := by
  unfold Machine.groupAct
  extract_lets s1 s2 s3 s4 s5
  have h1 : s1.retryBounded := by
    refine .markWindow (.dspSelect ?_)
    split
    · exact h.frmAct.afeApply
    · exact h.frmAct
  have h2 : s2.retryBounded := .ite h1.prepare (.ite h1.prepare h1)
  have h3 : s3.retryBounded := .ite h2.servoAction (.ite h2.servoAction h2)
  have h5 : s5.retryBounded := .ite h3.ringAct.setF (.ite h3.ringAct.setF h3.ringAct)
  exact .ite h5.spill (.ite h5.fill (.ite h5.abandon h5))

theorem nanoAct {n x bits} (h : s.retryBounded) : (Machine.nanoAct n x bits s).retryBounded := by
  unfold Machine.nanoAct
  extract_lets w ra rb io v s1 s2 s3
  have hio : io.2.retryBounded := .ite_snd h.portValue (.ite h.portPut h)
  have h1 : s1.retryBounded := .ite hio.setFlags hio
  have h2 : s2.retryBounded := h1.groupAct
  have h3 : s3.retryBounded := .ite h2.setReg h2
  exact .ite h3.setReg h3

theorem passArgs {n a b} (h : s.retryBounded) : (Machine.passArgs n a b s).retryBounded :=
  .foldl (fun h => h.wr) h

theorem callTo {n m alt computed} (h : s.retryBounded) : (Machine.callTo n m alt computed s).retryBounded :=
  .goTo (.modSeq (.put (.put (.wr (.foldl (fun h => h.wr) h.passArgs)))))

theorem trapReturn {n} (h : s.retryBounded) : (Machine.trapReturn n s).retryBounded :=
  h.modSeq.goTo

theorem returnTo {n} (h : s.retryBounded) : (Machine.returnTo n s).retryBounded :=
  h.passArgs.put.put.modSeq.goTo

theorem waitOn {n m alt} (h : s.retryBounded) : (Machine.waitOn n m alt s).retryBounded :=
  .ite h.goTo h.modSeq.seqWait

theorem selectNext {n m x alt} (hs : s.retryBounded) (ht : t.retryBounded) : (Machine.selectNext n m x alt s t).retryBounded := by
  unfold Machine.selectNext
  dsimp only
  split
  · exact .ite ht.takeTrap ht.goTo
  · exact .ite ht.goTo (.ite ht.seqFault (.ite hs.takeTrap ht.callTo))
  · exact .ite ht.goTo (.ite ht.trapReturn (.ite ht.seqFault (.ite hs.takeTrap ht.returnTo)))
  · exact ht.waitOn

theorem microGo {n bits} (h : s.retryBounded) : (Machine.microGo n bits s).retryBounded :=
  .ite h.nanoAct (.ite h.nanoAct.seqFault (.selectNext h h.nanoAct))

theorem micro {n mode chk bits} (h : s.retryBounded) : (Machine.micro n mode chk bits s).retryBounded := by
  unfold Machine.micro
  split
  · split
    · exact h.microGo
    · exact h.bump.raise.microGo
    · exact h.takeTrap
  · exact h

theorem waitResume {n} (h : s.retryBounded) : (Machine.waitResume n s).retryBounded :=
  .ite h.goTo h

theorem waitLimit {n} (h : s.retryBounded) : (Machine.waitLimit n s).retryBounded :=
  .ite h.goTo h

theorem seqRun {n} (h : s.retryBounded) : (Machine.seqRun n s).retryBounded :=
  .ite h.putb.put.put.modSeq.goTo h

theorem seqStop {n} (h : s.retryBounded) : (Machine.seqStop n s).retryBounded :=
  .ite h.seqStopTo h

theorem seqHold {n v} (h : s.retryBounded) : (Machine.seqHold n v s).retryBounded :=
  .ite h.putb.seqWait h.putb

/-! ### Wedges (spec 07) -/

theorem finePosition {n a b c d} (h : s.retryBounded) : (s.finePosition n a b c d).2.retryBounded :=
  .ite_snd (h.fresh (w := 8)) (.ite_snd h h)

theorem laneSync {n k count} (h : s.retryBounded) : (Machine.laneSync n k count s).retryBounded :=
  .ite (.ite h.modLane.laneSlip h.modLane) (.ite h.modLane.fresh.modLane h.modLane)

theorem laneWedgeEnd {n} (h : s.retryBounded) : (Machine.laneWedgeEnd n s).retryBounded :=
  .ite h.laneTo h

theorem askZone {n} (h : s.retryBounded) : (Machine.askZone n s).retryBounded :=
  h.zoneChange

theorem profileEnd {n} (h : s.retryBounded) : (Machine.profileEnd n s).retryBounded :=
  h.modSv.svTo.askZone

theorem seekInterval {n} (h : s.retryBounded) : (Machine.seekInterval n s).retryBounded :=
  .ite h.modSv.profileEnd h.modSv.modLane.genAhead

theorem settleSignal {n} (h : s.retryBounded) : (Machine.settleSignal n s).retryBounded :=
  .ite h.modSv.laneSettle h

theorem followCheck {n} (h : s.retryBounded) : (Machine.followCheck n s).retryBounded :=
  .ite (.ite h.modSv.svTo (.ite h.modSv.updateOntrk h)) h

theorem acquireCheck {n cyl} (h : s.retryBounded) : (Machine.acquireCheck n cyl s).retryBounded :=
  .ite h.modSv (.ite h.modSv.put.modSv.svTo.askZone h.modSv.svTo.laneSettle)

theorem wedgeMissed {n check} (h : s.retryBounded) : (Machine.wedgeMissed n check s).retryBounded := by
  unfold Machine.wedgeMissed
  extract_lets run s1 s2
  have h2 : s2.retryBounded := h.bump.raise.raiseIf.modSv.updateWinh
  exact .ite h2.enterRecover (.ite h2.seekInterval h2)

theorem wedgeFound {n cyl w} (h : s.retryBounded) : (Machine.wedgeFound n cyl w s).retryBounded := by
  unfold Machine.wedgeFound
  split
  next f s0 e =>
    extract_lets pos s1 s2 ref et near safe s3 s4 s5
    have h1 : s1.retryBounded := (h.finePosition.of_snd e).puti
    have h2 : s2.retryBounded := .ite h1.seekInterval (.ite h1.acquireCheck h1)
    have h5 : s5.retryBounded := h2.puti.modSv.settleSignal.followCheck.updateWinh
    exact .ite h5.control h5

theorem timingWedgeEnd {n w} (h : s.retryBounded) : (Machine.timingWedgeEnd n w s).retryBounded := by
  unfold Machine.timingWedgeEnd
  extract_lets v st tracking win k cyl found wrongNumber wrongCyl good s1 s2 s3
  have h2 : s2.retryBounded := .ite h.modSv.laneSync h.modSv
  have h3 : s3.retryBounded := h2.laneWedgeEnd.wedgeSpeed
  exact .ite h3 (.ite h3.wedgeFound h3.wedgeMissed)

theorem headUpdate {n ed} (h : s.retryBounded) : (Machine.headUpdate n ed s).retryBounded :=
  .ite h (.ite h.modSv.raise h.modSv)

theorem excursionCheck {n ed} (h : s.retryBounded) : (Machine.excursionCheck n ed s).retryBounded :=
  .ite h.modSv.updateOntrk.raise.displaceRereads h

theorem embeddedFound {n ed} (h : s.retryBounded) : (Machine.embeddedFound n ed s).retryBounded :=
  h.puti.modSv.headUpdate.excursionCheck.updateWinh

theorem embeddedMissed {n} (h : s.retryBounded) : (Machine.embeddedMissed n s).retryBounded :=
  h.modSv.updateWinh

theorem splitReservation {n} (h : s.retryBounded) : (Machine.splitReservation n s).retryBounded := by
  unfold Machine.splitReservation
  split
  · exact h
  · exact .ite h.modSeq.dropGate h

theorem splitResume {n before} (h : s.retryBounded) : (Machine.splitResume n before s).retryBounded := by
  unfold Machine.splitResume
  split
  · exact .ite h.modAv h
  · exact h

theorem embeddedWedge {n w} (h : s.retryBounded) : (Machine.embeddedWedge n w s).retryBounded := by
  unfold Machine.embeddedWedge
  extract_lets before s1 s2
  have h1 : s1.retryBounded := h.splitReservation
  have h2 : s2.retryBounded :=
    .ite h1.embeddedMissed (.ite h1.raise.embeddedMissed h1.finePosition.embeddedFound)
  exact h2.splitResume

/-! ### Servo commands (spec 07) -/

theorem seekTimeLimit {n} (h : s.retryBounded) : (Machine.seekTimeLimit n s).retryBounded :=
  .ite h.seekFail.startUnload h

theorem settleWarn {n} (h : s.retryBounded) : (Machine.settleWarn n s).retryBounded :=
  .ite h.bump.raise h

theorem settleLimit {n} (h : s.retryBounded) : (Machine.settleLimit n s).retryBounded :=
  .ite h.dropReq h

theorem noteStale {n} (h : s.retryBounded) : (Machine.noteStale n s).retryBounded :=
  h.raiseIf.modSv

theorem velocityCmd {n} (h : s.retryBounded) : (s.velocityCmd n).2.retryBounded := h.fresh (w := 1)

theorem compose {n} (h : s.retryBounded) : (s.compose n).2.retryBounded := .ite_snd (h.velocityCmd (n := n)) (.ite_snd h h)

theorem commandPeriod {n} (h : s.retryBounded) : (Machine.commandPeriod n s).retryBounded := h.noteStale.compose.bump.modSv

theorem svFault {n} (h : s.retryBounded) : (s.svFault n).retryBounded :=
  h.dropReq.svTo

theorem driveLinkInFrame {n fr} (h : s.retryBounded) : (Machine.driveLinkInFrame n fr s).retryBounded :=
  .ite h.bump.modSv.raiseIf (.ite h.put.put.put.modSv.raiseIf.svFault h.put.put.put.modSv.raiseIf)

theorem servoEnable {n} (h : s.retryBounded) : (Machine.servoEnable n s).retryBounded := by
  unfold Machine.servoEnable
  dsimp only
  split
  · exact h.putb
  · split
    · exact h.putb.put.raise
    · exact .ite h.putb.put.put.put.svTo h.putb.put.put.put.startUnload

theorem servoDisable {n} (h : s.retryBounded) : (Machine.servoDisable n s).retryBounded :=
  h.putb.dropReq.svTo

theorem servoLoad {n} (h : s.retryBounded) : (Machine.servoLoad n s).retryBounded :=
  .ite h.modSv.svTo h

theorem loadLimit {n} (h : s.retryBounded) : (Machine.loadLimit n s).retryBounded :=
  .ite h.raise.startUnload h

theorem idleTimer {n} (h : s.retryBounded) : (Machine.idleTimer n s).retryBounded :=
  .ite h.svTo h

theorem idleUnload {n} (h : s.retryBounded) : (Machine.idleUnload n s).retryBounded :=
  .ite h.unloadRequest h

theorem latchDetEdge {n rising} (h : s.retryBounded) : (Machine.latchDetEdge n rising s).retryBounded :=
  .ite h (.ite h.putb.puti.put.putb.putb.step1.put.raiseIf.modSv h.putb.puti.put.putb.putb.step1.put.raiseIf)

theorem parkTime {n} (h : s.retryBounded) : (Machine.parkTime n s).retryBounded :=
  .ite (.svTo (.modSv (.ite h.bump.raiseIf.putb.raise h.bump.raiseIf))) h

theorem unloadLimit {n} (h : s.retryBounded) : (Machine.unloadLimit n s).retryBounded :=
  .ite h.modSv h

theorem recoverLimit {n} (h : s.retryBounded) : (Machine.recoverLimit n s).retryBounded :=
  .ite h.startUnload h

end State.retryBounded

end Sys2Proof.Machine
end

section
/-! SUPPORT. Bound of the retry queue (R122), fourth part: domains, stores, register bus, DMA engine, caches and spindle. -/

namespace Sys2Proof.Machine

variable {s t : State}

namespace State.retryBounded

/-! ### Domains, ring and pace loop (spec 01) -/

theorem clockAbsent {td} (h : s.retryBounded) : (Machine.clockAbsent td s).retryBounded := by
  unfold Machine.clockAbsent
  split
  · split
    · exact h.putb.raiseIf
    · exact h.putb
  · exact h

theorem writeUnderflow {n} (h : s.retryBounded) : (Machine.writeUnderflow n s).retryBounded :=
  h.modAv.raise.inhibit.modAv

theorem commandUnderflow {n} (h : s.retryBounded) : (Machine.commandUnderflow n s).retryBounded :=
  .ite h.modSv h.modSv.raiseIf.modSv

theorem crossingOverflow {td blocks} (h : s.retryBounded) : (Machine.crossingOverflow td blocks s).retryBounded :=
  .ite h.modReader.raise (.ite h.writeUnderflow (.ite h.commandUnderflow h.raise))

theorem flitDelivery {f} (h : s.retryBounded) : (Machine.flitDelivery f s).retryBounded :=
  .ite h.update (.ite h.update.raise h.update)

theorem setCode {c} (h : s.retryBounded) : (s.setCode c).retryBounded :=
  h.put

theorem paceMonitor {mc} (h : s.retryBounded) : (Machine.paceMonitor s mc).retryBounded :=
  .ite h (.ite h.put.put.raiseIf h.put.put.raiseIf.raiseIf.raiseIf.update)

theorem paceGateEnd {counts} (h : s.retryBounded) : (Machine.paceGateEnd counts s).retryBounded := by
  unfold Machine.paceGateEnd
  extract_lets warn crit _ s1 _ s2 s3
  have h1 : s1.retryBounded := .foldl (fun h => h.paceMonitor) h.update
  have h3 : s3.retryBounded := .ite h1.update.setCode h1.update
  exact .foldl (fun h => h.zoneRetry) h3

theorem avsUpdate (h : s.retryBounded) : (Machine.avsUpdate s).retryBounded := by
  unfold Machine.avsUpdate
  refine .ite h ?_
  extract_lets _ s1 code
  split
  · exact h.update
  · extract_lets s2 low high s3 run
    have h2 : s2.retryBounded := h.update.put
    have h3 : s3.retryBounded := .ite h2 (.ite h2.setCode (.ite h2.setCode h2.setCode))
    exact h3.update.raiseIf

theorem zoneHoldExpiry {n} (h : s.retryBounded) : (Machine.zoneHoldExpiry n s).retryBounded := by
  unfold Machine.zoneHoldExpiry
  split
  · exact h.zoneTakes.raise
  · exact h

theorem pgoodFilter (h : s.retryBounded) : (Machine.pgoodFilter s).retryBounded :=
  .ite h h.update.raise

theorem pgoodRise (h : s.retryBounded) : (Machine.pgoodRise s).retryBounded :=
  h.update.putb

theorem timeLoadApply (h : s.retryBounded) : (Machine.timeLoadApply s).retryBounded :=
  .ite h.update.step1.recordType h

theorem timeTick (h : s.retryBounded) : (Machine.timeTick s).retryBounded :=
  .ite h (.ite h.timeLoadApply h.update)

/-! ### The flash store (spec 10) -/

theorem modDie {d f} (h : s.retryBounded) : (s.modDie d f).retryBounded :=
  .put (.put (.putb (.ite h.update h.update)))

theorem modBlock {d b f} (h : s.retryBounded) : (s.modBlock d b f).retryBounded :=
  h.modDie

theorem retireBlock {d b c} (h : s.retryBounded) : (s.retireBlock d b c).retryBounded := by
  unfold State.retireBlock
  extract_lets x s2 s1 y
  have h1 : s1.retryBounded := .ite h.modDie.raise.raiseIf h.modDie
  refine .ite h (.ite h1 ?_)
  split
  · exact h1.modDie
  · exact h1

theorem flashPost {e' st bits psa data pmeta} (h : s.retryBounded) : (s.flashPost e' st bits psa data pmeta).retryBounded :=
  .ite h.update.putb.put.put h.update

theorem flashEnd {e' st} (h : s.retryBounded) : (s.flashEnd e' st).retryBounded := by
  unfold State.flashEnd
  split
  · exact h.flashPost.raise
  · exact h.flashPost

theorem startLoop {d k} (h : s.retryBounded) : (Machine.startLoop d k s).retryBounded := by
  induction k generalizing s with
  | zero => exact h
  | succ k ih =>
    unfold Machine.startLoop
    split
    · exact h
    · dsimp only
      split
      · exact ih h.modDie.flashEnd
      · exact .ite h.modDie.modDie h.modDie.modDie

theorem suspendLimit {d} (h : s.retryBounded) : (s.suspendLimit d).retryBounded := by
  unfold State.suspendLimit
  split
  · exact .ite h.modDie.raise h
  · exact h

theorem dieStart {d} (h : s.retryBounded) : (s.dieStart d).retryBounded :=
  h.startLoop.suspendLimit

theorem flashEntry {op e'} (h : s.retryBounded) : (s.flashEntry op e').retryBounded :=
  .ite h.flashEnd (.ite h.flashEnd (.ite h.flashEnd (.ite h.flashEnd h.modDie.dieStart)))

theorem readEnd {d j r} (h : s.retryBounded) : (s.readEnd d j r).retryBounded := by
  unfold State.readEnd
  extract_lets e b page secs out badSecs high most st s1 s2 first s3
  refine .ite h.flashPost ?_
  have h2 : s2.retryBounded := .foldl (fun h => h.raise) (.foldl (fun h => h.raise) h.bump.bump)
  have h3 : s3.retryBounded := h2.flashPost
  exact .ite (.ite h3.modBlock.retireBlock h3.modBlock) h3

theorem wear {bytes} (h : s.retryBounded) : (s.wear bytes).retryBounded :=
  h.put.put.update.raiseIf.raiseIf

theorem storePage {d b e' i} (h : s.retryBounded) : (s.storePage d b e' i).retryBounded := by
  unfold State.storePage
  dsimp only
  exact h.update.modBlock

theorem programEnd {d j r} (h : s.retryBounded) : (s.programEnd d j r).retryBounded := by
  refine .ite (.flashEnd (.foldl (fun h => h.retireBlock) (.bump (.foldl (fun h => h.modBlock) h)))) (.ite
    (.flashPost (.raise (.foldl (fun h => h.retireBlock) (.foldl (fun h => h.modBlock) (.put (.update ?_))))))
    (.flashEnd (.foldl (fun h => h.modBlock) (.put (.update ?_)))))
  all_goals exact .ite (.wear (.foldl (fun h => h.storePage) h)) (.foldl (fun h => h.storePage) h)

theorem eraseBlock {d b} (h : s.retryBounded) : (s.eraseBlock d b).retryBounded :=
  .ite h.modBlock.retireBlock.raise h.modBlock

theorem eraseEnd {d j r} (h : s.retryBounded) : (s.eraseEnd d j r).retryBounded :=
  .ite (.flashEnd (.foldl (fun h => h.eraseBlock) h)) (.flashEnd (.bump (.foldl (fun h => h.retireBlock) h)))

theorem flashOpEnd {d r} (h : s.retryBounded) : (s.flashOpEnd d r).retryBounded := by
  unfold State.flashOpEnd
  split
  · refine .dieStart ?_
    split
    · exact h.modDie.programEnd
    · exact h.modDie.readEnd
  · split
    · exact .ite h h.modDie.eraseEnd.dieStart
    · exact h

theorem cutBlocks {d j} (h : s.retryBounded) : (s.cutBlocks d j).retryBounded :=
  .ite h (.foldl (fun h => h.modBlock) h)

theorem dieTimeout {d} (h : s.retryBounded) : (s.dieTimeout d).retryBounded :=
  .ite h (.dieStart (.raise (.foldl (fun h => h.cutBlocks.flashPost) h.modDie)))

theorem suspendErase {d} (h : s.retryBounded) : (s.suspendErase d).retryBounded := by
  unfold State.suspendErase
  dsimp only
  split
  · exact .ite h.modDie.bump.dieStart h.suspendLimit
  · exact h

theorem resumeErase {d} (h : s.retryBounded) : (s.resumeErase d).retryBounded := by
  unfold State.resumeErase
  dsimp only
  split
  · exact .ite h.modDie.suspendLimit h
  · exact h

theorem patrolRead {d b p bits} (h : s.retryBounded) : (s.patrolRead d b p bits).retryBounded :=
  .ite h (.raise (.put (.put (.putb (.ite h h.update)))))

theorem bandChange {b} (h : s.retryBounded) : (s.bandChange b).retryBounded :=
  h.put.raiseIf.dieStart.dieStart

theorem reserveErase {d b ok} (h : s.retryBounded) : (s.reserveErase d b ok).retryBounded := by
  refine .raiseIf (.putb (.put (.ite h.put (.ite ?_ ?_))))
  · exact .update (.foldl (fun h => h.eraseBlock) h.put)
  · exact .foldl (fun h => h.retireBlock) h.put.bump.raise

/-- What R322 abandons of one die. -/
theorem flashCommit (h : s.retryBounded) : s.flashCommit.retryBounded := by
  unfold State.flashCommit
  extract_lets abandon
  have habandon {u d} (h : State.retryBounded u) : (abandon u d).retryBounded := by
    refine .foldl flashEnd (.modDie ?_)
    split
    · exact h.modDie.cutBlocks.flashEnd
    · exact h
  exact (habandon (habandon h)).putb

/-! ### Register reads and writes (R16 to R27) -/

theorem clearRc {a changes fs} (h : s.retryBounded) : (Machine.clearRc a changes fs s).retryBounded :=
  .foldl (fun h => .ite h.put h) h

theorem readReg {a changes} (h : s.retryBounded) : (s.readReg a changes).2.retryBounded := by
  unfold State.readReg
  split
  · exact h
  · exact h.update.clearRc

theorem badAccess {cause bar write addr} (h : s.retryBounded) : (s.badAccess cause bar write addr).retryBounded :=
  .ite h.bump h.bump.putb.putb.put.putb.put

theorem codeLimits (h : s.retryBounded) : (Machine.codeLimits s).retryBounded :=
  h.put.put

theorem patrolNext (h : s.retryBounded) : (Machine.patrolNext s).retryBounded := by
  unfold Machine.patrolNext
  dsimp only
  split
  · exact h
  · split
    · exact h.update.putb.put.put
    · exact h.update

theorem writeHook {a v} (h : s.retryBounded) : (Machine.writeHook a v s).retryBounded :=
  .ite h.codeLimits (.ite h.patrolNext (.ite h.expect (.ite h.expect (.ite (.ite h.put h) h))))

theorem analogueSpan {a nr} {old : State} (h : s.retryBounded) : (Machine.analogueSpan a old s nr).retryBounded := by
  unfold Machine.analogueSpan
  split
  · exact h
  · exact h.span

theorem avenueHook {a} {old : State} (h : s.retryBounded) : (Machine.avenueHook a old s).retryBounded :=
  .foldl (fun h => .ite h.raise.inhibit (.ite h.inhibit h)) (.foldl (fun h => h.analogueSpan) h)

theorem writeReg {a v} (h : s.retryBounded) : (s.writeReg a v).retryBounded := by
  unfold State.writeReg
  split
  · exact h
  · exact .ite h.badAccess (.avenueHook (.writeHook (.ite h.wr.badAccess h.wr)))

theorem returned {w} (h : s.retryBounded) : (s.returned w).retryBounded :=
  h.update

theorem readAccess {acc changes} (h : s.retryBounded) : (Machine.readAccess acc changes s).retryBounded := by
  unfold Machine.readAccess
  split
  · exact h.returned
  · exact h.returned
  · exact h.badAccess.returned
  · exact h.readReg.returned

theorem writeAccess {acc v} (h : s.retryBounded) : (Machine.writeAccess acc v s).retryBounded := by
  unfold Machine.writeAccess
  split
  · exact h
  · exact h.update
  · exact h.badAccess
  · exact h.writeReg

theorem timFenceRead {window} (h : s.retryBounded) : (Machine.timFenceRead window s).retryBounded :=
  .ite h.returned h.returned

/-! ### The DMA engine's shared operations (spec 16) -/

/-! The meanings of the DMA engine's accesses are unfolded as functions, before they meet their arguments: by the applied equation
the kernel would evaluate the bounds of `dmaRegion`, numbers of 2^37, one successor at a time. -/

theorem dmaRead {a n bs} (h : s.retryBounded) (e : s.dmaRead a n = some (bs, t)) : t.retryBounded := by
  obtain ⟨f, hf⟩ : ∃ f, f = State.dmaRead := ⟨_, rfl⟩
  rw [← hf] at e
  delta State.dmaRead at hf
  subst hf
  beta_reduce at e
  split at e
  · cases e
  · cases e
    exact h
  · cases e
    exact h
  · obtain ⟨-, e⟩ := Option.ite_none_right_eq_some.1 e
    cases e
    exact h.readReg

theorem dmaWrite {a bs} (h : s.retryBounded) (e : s.dmaWrite a bs = .done t) : t.retryBounded := by
  obtain ⟨f, hf⟩ : ∃ f, f = State.dmaWrite := ⟨_, rfl⟩
  rw [← hf] at e
  delta State.dmaWrite at hf
  subst hf
  beta_reduce at e
  split at e
  · cases e
  · split at e
    · split at e
      · cases e
      · cases e
        exact h.update
    · split at e
      · cases e
      · cases e
        exact .foldl modPage h
  · dsimp only at e
    split at e
    · cases e
    · cases e
      exact h.update
  · split at e
    · obtain rfl := DmaPut.done.inj e
      exact h.writeReg
    · cases e

theorem modChan {c f} (h : s.retryBounded) : (s.modChan c f).retryBounded :=
  h.update

theorem chanState {c} (h : s.retryBounded) : (s.chanState c).retryBounded :=
  .ite h.put (.ite h.put.modChan.put h.put.put)

theorem dmaHalt {c cause index addr bytes} (h : s.retryBounded) : (s.dmaHalt c cause index addr bytes).retryBounded :=
  h.putb.put.put.put.put.put.put.putb.raise

theorem started {c index d w} (h : s.retryBounded) : (s.started c index d w).retryBounded :=
  h.modChan.chanState

theorem poisonActs {a} (h : s.retryBounded) : (s.poisonActs a).retryBounded := by
  obtain ⟨f, hf⟩ : ∃ f, f = State.poisonActs := ⟨_, rfl⟩
  rw [← hf]
  delta State.poisonActs at hf
  subst hf
  beta_reduce
  split
  · exact .ite h.update.dramBad (.ite h.descriptorBad h.dramRead)
  · exact h.update.bump.raise
  · exact h

end State.retryBounded

/-- The state that a copy through the holding register leaves. -/
def CopyEnd.state : CopyEnd → State
  | .done s => s
  | .halt s _ _ _ => s

namespace State.retryBounded

theorem copyLoop {src dst pattern len m k so wo buf} (h : s.retryBounded) :
    (Machine.copyLoop src dst pattern len m k so wo buf s).state.retryBounded := by
  induction k generalizing s so wo buf with
  | zero => exact h
  | succ k ih =>
    unfold Machine.copyLoop
    dsimp only
    generalize dst.span wo (if so = len then buf.length else buf.length / dst.width * dst.width) = n
    split
    · split
      · exact h
      · split
        · exact h
        · exact h
        next e => exact ih (h.dmaWrite e)
    · split
      · exact h
      · split
        · exact ih h
        · split
          · exact h
          · split
            · exact h
            · split
              · exact h
              next e => exact ih (h.dmaRead e)

theorem runCopy {c index d pattern m} (h : s.retryBounded) : (s.runCopy c index d pattern m).retryBounded := by
  have hend {k} := h.copyLoop (src := dmaSide (dSrc d) (dSrcWidth d) (dSrcFixed d))
    (dst := dmaSide (dDst d) (dDstWidth d) (dDstFixed d))
    (pattern := pattern) (len := dLength d) (m := m) (k := k) (so := 0) (wo := 0) (buf := [])
  unfold State.runCopy
  dsimp only
  split
  next e =>
    have hdone : State.retryBounded (CopyEnd.state (.done _)) := e ▸ hend
    exact hdone.started
  next e =>
    have hhalt : State.retryBounded (CopyEnd.state (.halt _ _ _ _)) := e ▸ hend
    exact .dmaHalt (.ite hhalt.poisonActs hhalt)

theorem writeBack {c index d} (h : s.retryBounded) : (s.writeBack c index d).retryBounded := by
  unfold State.writeBack
  extract_lets s1 s2
  have h1 : s1.retryBounded := by
    dsimp only [s1]
    split
    next e => exact h.dmaWrite e
    · exact h
  exact .chanState (.ite h1.put.bump.putb h1.put.bump)

theorem moveBytes {a k bs} (h : s.retryBounded) : (Machine.moveBytes a k bs s).retryBounded := by
  induction k generalizing s a bs with
  | zero => exact h
  | succ k ih =>
    unfold Machine.moveBytes
    refine .ite h (ih ?_)
    split
    next e => exact h.dmaWrite e
    · exact h

theorem takeFlash {d p} (h : s.retryBounded) : (s.takeFlash d p).retryBounded :=
  h.update.moveBytes.moveBytes

/-! ### The DMA engine's commands (spec 16) -/

theorem dmaTailWrite {c tail} (h : s.retryBounded) : (Machine.dmaTailWrite c tail s).retryBounded :=
  .ite h.raise h.put.chanState

theorem dmaFetch {c want rel badDesc} (h : s.retryBounded) (e : s.dmaFetch c want rel badDesc = .halt t) : t.retryBounded := by
  obtain ⟨f, hf⟩ : ∃ f, f = State.dmaFetch := ⟨_, rfl⟩
  rw [← hf] at e
  delta State.dmaFetch at hf
  subst hf
  beta_reduce at e
  split at e
  · cases e
  · extract_lets i a at e
    split at e
    · cases e
      exact h.dmaHalt
    · split at e
      · cases e
        exact h.dmaHalt
      · extract_lets d at e
        split at e
        · cases e
          exact h.dmaHalt
        · split at e
          · cases e
            exact h.dmaHalt
          · split at e
            · cases e
            · split at e
              · cases e
              · cases e
                exact h.dmaHalt

theorem dmaCopy {c m} (h : s.retryBounded) : (Machine.dmaCopy c m s).retryBounded := by
  unfold Machine.dmaCopy
  split
  · exact h
  next e => exact h.dmaFetch e
  · exact h.runCopy

theorem dmaFill {c m} (h : s.retryBounded) : (Machine.dmaFill c m s).retryBounded := by
  unfold Machine.dmaFill
  split
  · exact h
  next e => exact h.dmaFetch e
  · exact h.runCopy

theorem dmaFlash {c badDesc} (h : s.retryBounded) : (Machine.dmaFlash c badDesc s).retryBounded := by
  unfold Machine.dmaFlash
  split
  · exact h
  next e => exact h.dmaFetch e
  · split
    · exact h.started.flashEntry
    · exact h

theorem dmaLockAcquire {c badDesc} (h : s.retryBounded) : (Machine.dmaLockAcquire c badDesc s).retryBounded := by
  unfold Machine.dmaLockAcquire
  split
  · exact h
  next e => exact h.dmaFetch e
  · exact h.acquire.started

theorem dmaLockRelease {c badDesc} (h : s.retryBounded) : (Machine.dmaLockRelease c badDesc s).retryBounded := by
  unfold Machine.dmaLockRelease
  split
  · exact h
  next e => exact h.dmaFetch e
  · exact h.releaseLock.started

theorem dmaLockRetry {c} (h : s.retryBounded) : (Machine.dmaLockRetry c s).retryBounded := by
  unfold Machine.dmaLockRetry
  split
  · exact h
  · exact h.acquire.modChan

theorem dropEnds {c} (h : s.retryBounded) : (s.dropEnds c).retryBounded := by
  unfold State.dropEnds
  split
  · exact h
  · split
    · exact h.takeFlash.modChan.chanState
    · exact h

theorem dmaWriteBack {c} (h : s.retryBounded) : (Machine.dmaWriteBack c s).retryBounded := by
  unfold Machine.dmaWriteBack
  split
  · exact h.dropEnds
  · split
    · exact h.modChan.writeBack
    · exact h.modChan.writeBack
    · exact h.modChan.writeBack.dmaHalt
    · split
      · exact h.takeFlash.modChan.writeBack
      · exact h.dropEnds
    · exact h

theorem dmaResume {c} (h : s.retryBounded) : (Machine.dmaResume c s).retryBounded :=
  .ite h.put.chanState h

theorem dmaSkip {c} (h : s.retryBounded) : (Machine.dmaSkip c s).retryBounded := by
  unfold Machine.dmaSkip
  dsimp only
  split
  · split
    · exact h.dmaHalt
    · split
      · exact h.dmaHalt
      · exact h.put.writeBack
  · exact h

theorem dropRuns {c} (h : s.retryBounded) : (s.dropRuns c).retryBounded :=
  h.modChan.putb

theorem resetChannel {c} (h : s.retryBounded) : (s.resetChannel c).retryBounded :=
  h.dropRuns.put.put.put.chanState

theorem dmaChannelReset {c} (h : s.retryBounded) : (Machine.dmaChannelReset c s).retryBounded :=
  h.resetChannel.resetNotice

theorem dmaChannelDisable {c} (h : s.retryBounded) : (Machine.dmaChannelDisable c s).retryBounded :=
  h.putb.dropRuns.put.chanState

theorem dmaChannelStop {c} (h : s.retryBounded) : (Machine.dmaChannelStop c s).retryBounded :=
  .ite h.modChan.chanState h

theorem dmaPowerLoss (h : s.retryBounded) : s.dmaPowerLoss.retryBounded :=
  .raise (.foldl (fun h => .ite h.dmaChannelStop h) h)

/-! ### Caches (spec 18) -/

theorem setWay {c st w l} (h : s.retryBounded) : (s.setWay c st w l).retryBounded :=
  h.update

theorem allocate {c st allowed} (h : s.retryBounded) : (s.allocate c st allowed).2.retryBounded :=
  h.put

theorem writeLine {line bs} (h : s.retryBounded) : (s.writeLine line bs).retryBounded :=
  h.update

theorem poisonLine {line} (h : s.retryBounded) : (s.poisonLine line).retryBounded :=
  h.update

theorem dropL1 {line} (h : s.retryBounded) : (s.dropL1 line).retryBounded := by
  unfold State.dropL1
  refine .foldl (fun h => ?_) h
  refine .foldl (fun h => ?_) h
  split
  · exact .ite h.setWay h
  · exact h

theorem dropL2 {st w} (h : s.retryBounded) : (s.dropL2 st w).retryBounded := by
  unfold State.dropL2
  split
  · exact h.dropL1.setWay
  · exact h

theorem emptyL1 {k} (h : s.retryBounded) : (s.emptyL1 k).retryBounded :=
  h.update

theorem cacheError {c tag st w line} (h : s.retryBounded) : (s.cacheError c tag st w line).retryBounded :=
  .ite h.bump h.bump.putb.put.putb.put.put.put.put

theorem cacheCorrected {c} (h : s.retryBounded) : (s.cacheCorrected c).retryBounded :=
  h.bump.raise

theorem preciseTrap {k pc addr memory} (h : s.retryBounded) : (s.preciseTrap k pc addr memory).retryBounded :=
  h.update.bump.put.raiseIf

theorem l1Error {c st w tag} (h : s.retryBounded) : (s.l1Error c st w tag).retryBounded :=
  h.cacheError.setWay.raise

theorem l2DataError {st w} (h : s.retryBounded) : (s.l2DataError st w).retryBounded := by
  unfold State.l2DataError
  split
  · exact h
  · exact .dropL2 (.ite h.cacheError.raise.poisonLine.raise h.cacheError.raise)

theorem l2TagError {st w} (h : s.retryBounded) : (s.l2TagError st w).retryBounded :=
  .foldl (fun h => h.dropL2) h.cacheError.raise

/-! ### Scrubs (spec 17) -/

theorem scrubBad {a} (h : s.retryBounded) : (s.scrubBad a).retryBounded :=
  .ite h.update.dramBad (.ite (.ite h.descriptorBad h.dramBad) (.ite h.dramBad.retirePage h.dramBad))

theorem reindex {p} (h : s.retryBounded) : (s.reindex p).retryBounded :=
  .ite (.foldl (fun h => h.readKey) (.modSqr (.ite h.setPage.tryFree h.setPage))) h

theorem scrubOn (h : s.retryBounded) : s.scrubOn.retryBounded :=
  .put (.ite h.update.step1.raise h.update)

theorem dramScrubRead {find byte} (h : s.retryBounded) : (Machine.dramScrubRead find byte s).retryBounded := by
  unfold Machine.dramScrubRead
  dsimp only
  split
  · exact h
  · split
    · exact h.scrubOn
    · refine .scrubOn ?_
      split
      · refine .reindex ?_
        split
        · exact h
        · exact h.bump.raise
        · exact h.scrubBad
      · split
        · exact h
        · exact h.bump.raise
        · exact h.scrubBad

theorem sramCorrected {w} (h : s.retryBounded) : (s.sramCorrected w).retryBounded := by
  unfold State.sramCorrected
  split
  · exact h.raise
  · exact h.raise
  · exact h.raise
  · exact h.raise
  · exact h.raise
  · exact h.bump.raise
  · exact h.raise
  · exact h.raise
  · exact h.raise
  · exact h.bump.raise
  · exact h.cacheCorrected
  · exact h.cacheCorrected
  · exact h
  · exact h
  · exact h
  · exact h
  · exact h

theorem bufferEnds {tag} (h : s.retryBounded) : (s.bufferEnds tag).retryBounded := by
  unfold State.bufferEnds
  split
  · exact .ite h.endRun.complete h
  · exact h

theorem sramBad {w} (h : s.retryBounded) : (s.sramBad w).retryBounded := by
  unfold State.sramBad
  split
  · exact h.raise.resetCtl
  · exact h.raise.resetCtl
  · refine .raise ?_
    split
    · exact h.modPage
    · exact h
  · exact h.modSqr.raise
  · exact h.raise
  · exact h.update.bump.raise
  · exact h.raise
  · exact h.raise
  · exact h.bufferEnds.raise
  · exact h.bufferEnds.raise
  · exact h.raise
  · exact h.bump
  · exact .ite h.l2DataError h.l1Error
  · exact .ite h.l2TagError h.l1Error
  · exact h.update.raise
  · exact h.update.raise
  · exact h.wr.raise

theorem sramScrubRead {w find} (h : s.retryBounded) : (Machine.sramScrubRead w find s).retryBounded := by
  unfold Machine.sramScrubRead
  split
  · exact h
  · split
    · exact h
    · exact h.sramCorrected
    · exact h.sramBad

theorem mediaScrub {n ring e'} (h : s.retryBounded) : (Machine.mediaScrub n ring e' s).retryBounded :=
  .ite h h.entryWrite

/-! ### Blocks switched off (spec 20.5) -/

theorem dramOff (h : s.retryBounded) : s.dramOff.retryBounded :=
  h.update.putb.putb.put.expect

theorem spindleOff (h : s.retryBounded) : s.spindleOff.retryBounded :=
  h.putb.spnTo.expect

theorem restrict (h : s.retryBounded) : s.restrict.retryBounded := by
  unfold State.restrict
  extract_lets s1 s2 s3 s4
  have h1 : s1.retryBounded := .expect (.dramOff (.spindleOff (.foldl (fun h => h.avenueOff) h)))
  have h3 : s3.retryBounded := .foldl (fun h => .ite h h.modCtl) h1.putb.put.put.expect
  exact .ite h3.modCtl.modCtl h3.modCtl

theorem culDeSac {reason} (h : s.retryBounded) : (s.culDeSac reason).retryBounded :=
  h.restrict.put.put.raise

theorem claimMode (h : s.retryBounded) : s.claimMode.retryBounded :=
  h.restrict.put

/-! ### The spindle (spec 08) -/

theorem observe (h : s.retryBounded) : (Machine.observe s).retryBounded :=
  h.modSpn

theorem showSpeed {v} (h : s.retryBounded) : (s.showSpeed v).retryBounded := by
  unfold State.showSpeed
  split
  · exact (h.fresh.of_snd ‹_›).put

theorem observerSpeed (h : s.retryBounded) : (Machine.observerSpeed s).retryBounded :=
  .ite h h.showSpeed

theorem unloadAll (h : s.retryBounded) : (Machine.unloadAll s).retryBounded :=
  .foldl (fun h => h.unloadRequest) h

theorem returnEnds {code} (h : s.retryBounded) : (Machine.returnEnds code s).retryBounded := by
  unfold Machine.returnEnds
  split
  · refine .raise ?_
    split
    · exact h.put
    · exact h
  · exact h

theorem spnFault (h : s.retryBounded) : (Machine.spnFault s).retryBounded :=
  .ite h.returnEnds.spnTo.raise.unloadAll.culDeSac h.returnEnds.spnTo.raise.unloadAll

theorem spnOff (h : s.retryBounded) : (Machine.spnOff s).retryBounded :=
  .ite h.spnTo h.spnTo.expect

theorem runAtSpeed (h : s.retryBounded) : (Machine.runAtSpeed s).retryBounded :=
  h.modSpn.spnTo

theorem startFails (h : s.retryBounded) : (Machine.startFails s).retryBounded :=
  .ite h.bump.raise.modSpn.spnFault h.bump.raise.modSpn.put.spnTo.modSpn

theorem showTarget (h : s.retryBounded) : (Machine.showTarget s).retryBounded :=
  h.put.putb

theorem targetActs (h : s.retryBounded) : (Machine.targetActs s).retryBounded := by
  unfold Machine.targetActs
  dsimp only
  split
  · exact .ite (.ite h.showTarget.spnOff h.showTarget.spnTo) h.showTarget
  · exact .ite (.ite h.showTarget.spnTo h.showTarget.spnTo.raise) h.showTarget
  · exact .ite h.showTarget.holdCheck h.showTarget.spnTo
  · exact .ite h.showTarget h.showTarget.runAtSpeed
  · exact h.showTarget

theorem countBreaks (h : s.retryBounded) : (Machine.countBreaks s).retryBounded :=
  h.modSpn

theorem enterResync (h : s.retryBounded) : (Machine.enterResync s).retryBounded :=
  h.bump.raise.modSpn.spnTo

theorem plausible (h : s.retryBounded) : (Machine.plausible s).retryBounded := by
  have hc := h.countBreaks
  exact .ite h (.ite hc.raise.spnFault (.ite hc.startFails (.ite hc.enterResync hc)))

theorem rampOmega (h : s.retryBounded) : (Machine.rampOmega s).retryBounded :=
  h.modSpn

theorem speedLoop (h : s.retryBounded) : (Machine.speedLoop s).retryBounded :=
  h.modSpn

theorem returnLoop (h : s.retryBounded) : (Machine.returnLoop s).retryBounded :=
  h.modSpn

theorem torqueRef (h : s.retryBounded) : (Machine.torqueRef s).retryBounded := by
  unfold Machine.torqueRef
  split
  · exact h.rampOmega.speedLoop
  · exact h.speedLoop
  · exact h.modSpn
  · exact h.returnLoop
  · exact h.modSpn

theorem vbusWatch (h : s.retryBounded) : (Machine.vbusWatch s).2.retryBounded := by
  unfold Machine.vbusWatch
  extract_lets v ov hi atTop s1 s2
  have h1 : s1.retryBounded := .ite h h.bump.raise
  exact .ite_snd h.modSpn (.ite_snd h1.modSpn (.ite_snd h.modSpn.modSpn h.modSpn))

theorem comparators (h : s.retryBounded) : (Machine.comparators s).retryBounded :=
  h.modSpn

theorem alignVec {angle} (h : s.retryBounded) : (Machine.alignVec s angle).retryBounded := .ite h.modSpn (h.fresh (w := 3)).modSpn

theorem handOff (h : s.retryBounded) : (Machine.handOff s).retryBounded :=
  h.modSpn.spnTo

theorem openLoop (h : s.retryBounded) : (Machine.openLoop s).retryBounded :=
  .ite h.modSpn.alignVec h.modSpn.handOff

theorem dtcVec (h : s.retryBounded) : (Machine.dtcVec s).retryBounded :=
  h.torqueRef.vbusWatch.comparators.modSpn

theorem nextVec (h : s.retryBounded) : (Machine.nextVec s).retryBounded := by
  unfold Machine.nextVec
  split
  · split
    · exact h.modSpn
    · exact h.modSpn
    · exact h.alignVec
    · exact h.openLoop
  · exact h.dtcVec
  · exact h.dtcVec
  · exact h.dtcVec
  · exact h.dtcVec
  · exact h.modSpn
  · exact h.modSpn

theorem brakeCheck (h : s.retryBounded) : (Machine.brakeCheck s).retryBounded :=
  .ite h.spnTo (.ite h.returnEnds.spnTo h)

theorem flyCheck (h : s.retryBounded) : (Machine.flyCheck s).retryBounded :=
  .ite h.modSpn.raise.unloadAll h.modSpn

theorem readyCheck (h : s.retryBounded) : (Machine.readyCheck s).retryBounded :=
  .ite h.modSpn.putb.raiseIf h.modSpn

theorem stepEnd (h : s.retryBounded) : (Machine.stepEnd s).retryBounded :=
  h.modSpn

theorem spindleStep (h : s.retryBounded) : (Machine.spindleStep s).retryBounded :=
  .ite h h.observe.observerSpeed.plausible.targetActs.brakeCheck.nextVec.flyCheck.readyCheck.updateRetOk.stepEnd

theorem vbusLowCheck (h : s.retryBounded) : (Machine.vbusLowCheck s).retryBounded :=
  .ite h.modSpn.putb.raise (.ite h.modSpn.putb h.modSpn)

theorem conversion {conv ch value} (h : s.retryBounded) : (Machine.conversion conv ch value s).retryBounded :=
  .ite h.modSpn.put.put.put.put.put.vbusLowCheck h.modSpn.put.put.put.put.put

theorem overcurrent (h : s.retryBounded) : (Machine.overcurrent s).retryBounded :=
  .ite h.bump.raise.modSpn.spnFault h.bump.raise.modSpn

theorem spindleEnable (h : s.retryBounded) : (Machine.spindleEnable s).retryBounded :=
  .ite h.putb (.ite h.putb.expect.put.raise h.putb.expect.put.put.put.spnTo.modSpn)

theorem spindleDisable (h : s.retryBounded) : (Machine.spindleDisable s).retryBounded :=
  .ite h.putb.spnOff h.putb.targetActs

theorem spindleKill (h : s.retryBounded) : (Machine.spindleKill s).retryBounded :=
  h.returnEnds.spnOff.unloadAll

theorem targetWrite {t'} (h : s.retryBounded) : (Machine.targetWrite t' s).retryBounded :=
  h.put.targetActs

theorem observerFrom {m} (h : s.retryBounded) : (Machine.observerFrom m s).retryBounded :=
  h.modSpn

theorem resyncEnd {m} (h : s.retryBounded) : (Machine.resyncEnd m s).retryBounded :=
  .ite h (.ite h.observerFrom.spnTo.raiseIf (.ite h.raise.modSpn.spnFault h.raise.modSpn))

theorem catchEnd {m} (h : s.retryBounded) : (Machine.catchEnd m s).retryBounded :=
  .ite h (.ite (.runAtSpeed (.ite h.observerFrom h.observerFrom.showSpeed)) (.ite (.ite h.modSpn h) h.put))

theorem prechargeEnd (h : s.retryBounded) : (Machine.prechargeEnd s).retryBounded :=
  .ite h.put h

theorem alignEnd (h : s.retryBounded) : (Machine.alignEnd s).retryBounded :=
  .ite h.put.modSpn h

theorem retryExpiry (h : s.retryBounded) : (Machine.retryExpiry s).retryBounded :=
  .ite h.put.modSpn h

theorem spinLimit (h : s.retryBounded) : (Machine.spinLimit s).retryBounded :=
  .ite h.spnFault h

theorem readyExpiry (h : s.retryBounded) : (Machine.readyExpiry s).retryBounded :=
  .ite h.putb.raise.modSpn h

theorem holdExpiry (h : s.retryBounded) : (Machine.holdExpiry s).retryBounded :=
  .ite h.unloadAll h

theorem brakeEnd (h : s.retryBounded) : (Machine.brakeEnd s).retryBounded :=
  .ite h.spnOff (.ite h.modSpn h)

theorem spinWindow {i} (h : s.retryBounded) : (Machine.spinWindow i s).retryBounded := by
  unfold Machine.spinWindow
  extract_lets mode
  refine .ite h ?_
  split
  · exact h.putb.raiseIf.modSpn
  next a b _ =>
    have hq : (if mode = 3 then s.quotient a b else (a / b, s)).2.retryBounded := .ite_snd h.quotient h
    exact .ite hq.putb.modSpn hq.putb.modSpn.put.putb.targetActs

theorem spnPowerLoss (h : s.retryBounded) : (Machine.spnPowerLoss s).retryBounded :=
  .ite h.spnTo.raise h

end State.retryBounded

end Sys2Proof.Machine
end

section
/-! SUPPORT. Bound of the retry queue (R122), last part: firmware, trust, start, fault collector, power and redundancy. -/

namespace Sys2Proof.Machine

variable {s t : State}

namespace State.retryBounded

/-! ### Image loads (spec 06.7) -/

theorem loadRefused {n e'} (h : s.retryBounded) : (s.loadRefused n e').retryBounded :=
  h.put.put.raise

theorem writeStores {n im} (h : s.retryBounded) : (s.writeStores n im).retryBounded :=
  .foldl (fun h => .foldl (fun h => h.wr) h) (.foldl (fun h => h.wr.wr) h)

theorem letIn {im cls} (h : s.retryBounded) : (s.letIn im cls).2.retryBounded := by
  unfold State.letIn
  dsimp only
  split
  · exact h.raise
  · split
    next e => exact .ite (h.verify.of_snd e) (h.verify.of_snd e).measure
    · exact h.verify

theorem dropOm {n} (h : s.retryBounded) : (s.dropOm n).retryBounded :=
  .foldl (fun h => h.putb) h.putb.put

theorem amLoad {n im} (h : s.retryBounded) : (Machine.amLoad n im s).retryBounded := by
  unfold Machine.amLoad
  split
  next e => exact h.letIn.of_snd e
  next s1 e =>
    have h1 : s1.retryBounded := h.letIn.of_snd e
    split
    · exact h1.loadRefused
    · extract_lets s2 s3 s4
      have h3 : s3.retryBounded := by
        refine .foldl (fun h => ?_) h1.writeStores.put
        split
        · exact h.put.putb
        · exact h.put.putb
      have h4 : s4.retryBounded := h3.put.putb
      exact .ite h4.dropOm.loadRefused h4

theorem omLoad {n im} (h : s.retryBounded) : (Machine.omLoad n im s).retryBounded := by
  unfold Machine.omLoad
  split
  next e => exact h.letIn.of_snd e
  next s1 e =>
    have h1 : s1.retryBounded := h.letIn.of_snd e
    split
    · exact h1.loadRefused
    · extract_lets s2 s3
      have h2 : s2.retryBounded := by
        refine .foldl (fun h => ?_) h1.writeStores
        split
        · exact h.put.putb
        · exact h.put.putb
      have h3 : s3.retryBounded := h2.put.putb.putb
      exact .ite h3.put h3

/-! ### Firmware and Security commands (spec 13.7, 15.5) -/

theorem imageDownload {tag p} (h : s.retryBounded) : (Machine.imageDownload tag p s).retryBounded := by
  unfold Machine.imageDownload
  split
  · exact h
  · exact .ite h.complete h.update.ok

theorem verifyAll {ims} (h : s.retryBounded) : (s.verifyAll ims).2.retryBounded := by
  induction ims generalizing s with
  | nil => exact h
  | cons im ims ih =>
    unfold State.verifyAll
    split
    next e => exact ih (h.verify.of_snd e)
    next e => exact h.verify.of_snd e

theorem storeStaged {b} (h : s.retryBounded) : (s.storeStaged b).2.retryBounded := by
  unfold State.storeStaged
  split
  · exact h
  · split
    · exact h.verifyAll.of_snd ‹_›
    · exact h.verifyAll.of_snd ‹_›
    · exact .ite_snd (h.verifyAll.of_snd ‹_›) ((h.verifyAll.of_snd ‹_›).update.update)

theorem setActive {b} (h : s.retryBounded) : (s.setActive b).retryBounded :=
  h.update.putb

theorem restrictedCommit {b} (h : s.retryBounded) : (s.restrictedCommit b).retryBounded :=
  .ite h.update.setActive h

theorem beginActivation {tag slot} (h : s.retryBounded) : (s.beginActivation tag slot).retryBounded :=
  .activationStep (.modCmd (.raise (.put (.update (.foldl (fun h => .ite (.modCtl (.ite h.asyncEvent h)) h) h)))))

theorem firmwareCommit {tag} (h : s.retryBounded) : (Machine.firmwareCommit tag s).retryBounded := by
  unfold Machine.firmwareCommit
  split
  · exact h
  · refine .ite h.refuse (.ite h.complete (.ite ?_ ?_))
    · split
      next e => exact (h.storeStaged.of_snd e).complete
      next e => exact .ok (.restrictedCommit (.ite (h.storeStaged.of_snd e).setActive (h.storeStaged.of_snd e)))
    · split
      · exact h.complete
      · refine .ite h.setActive.restrictedCommit.ok (.ite h.complete ?_)
        split
        · exact h.raise.complete
        · exact .ite h.setActive.raise.complete h.setActive.beginActivation

theorem switchImage {m c k} (h : s.retryBounded) : (s.switchImage m c k).retryBounded := by
  refine .ite h ?_
  extract_lets _ s1
  have h1 : s1.retryBounded := by
    dsimp only [s1]
    split
    · exact h.measure
    · exact h.update
  exact .ite (.foldl seqStopTo h1) (.ite (.foldl (fun h => .ite h h.putb) h1) h1)

theorem activationSwitch {bad} (h : s.retryBounded) : (Machine.activationSwitch bad s).retryBounded := by
  unfold Machine.activationSwitch
  split
  · exact h
  · refine .ite h ?_
    extract_lets b
    split
    · exact h
    · split
      · exact h
      · extract_lets s1 s2 s3
        have h1 : s1.retryBounded := .foldl (fun h => h.switchImage) h
        have h3 : s3.retryBounded := .foldl (fun h => h.modCtl) h1.measure.putb.put.makeLkg
        exact h3.update.put.ok

theorem activationAbort (h : s.retryBounded) : (Machine.activationAbort s).retryBounded := by
  unfold Machine.activationAbort
  split
  · exact h
  · exact .ite h (.activationStep (.raise (.update (.foldl (fun h => h.endCmd) h))))

theorem securitySend {tag} (h : s.retryBounded) : (Machine.securitySend tag s).retryBounded := by
  unfold Machine.securitySend
  split
  · exact h
  · exact .ite h.ok h.refuse

theorem securityReceive {tag} (h : s.retryBounded) : (Machine.securityReceive tag s).retryBounded := by
  unfold Machine.securityReceive
  split
  · exact h
  · exact .ite h.answer.ok h.refuse

/-! ### SPDM, credentials and entropy (spec 15) -/

theorem spdm {f r} (h : s.retryBounded) : (s.spdm f r).retryBounded :=
  h.update

theorem spdmError {f code} (h : s.retryBounded) : (s.spdmError f code).retryBounded :=
  h.spdm

theorem setConn {f k} (h : s.retryBounded) : (s.setConn f k).retryBounded :=
  h.update

theorem modSession {f g} (h : s.retryBounded) : (s.modSession f g).retryBounded :=
  h.update

theorem randomBytes {n} (h : s.retryBounded) : (s.randomBytes n).2.retryBounded := by
  unfold State.randomBytes
  split
  · exact h.fresh.of_snd ‹_›

theorem sign {m sig} (h : s.retryBounded) (e : s.sign m = some (sig, t)) : t.retryBounded := by
  unfold State.sign at e
  split at e
  · obtain ⟨-, e⟩ := Option.ite_none_right_eq_some.1 e
    cases e
    exact h.fresh (w := 256)
  · cases e

theorem getVersion {f} (h : s.retryBounded) : (Machine.getVersion f s).retryBounded :=
  h.setConn.spdm

theorem getCapabilities {f} (h : s.retryBounded) : (Machine.getCapabilities f s).retryBounded :=
  .ite h.spdmError h.setConn.spdm

theorem negotiateAlgorithms {f offered} (h : s.retryBounded) : (Machine.negotiateAlgorithms f offered s).retryBounded :=
  .ite h.spdmError (.ite h.spdmError h.setConn.spdm)

theorem negotiated {f k} (h : s.retryBounded) (hk : ∀ {u : State}, u.retryBounded → (k u).retryBounded) :
    (s.negotiated f k).retryBounded :=
  .ite h.spdmError (hk h)

theorem touch {f} (h : s.retryBounded) : (s.touch f).retryBounded :=
  h.modSession

theorem getDigests {f} (h : s.retryBounded) : (Machine.getDigests f s).retryBounded :=
  h.negotiated fun h => h.touch.spdm

theorem getCertificate {f slot offset length} (h : s.retryBounded) :
    (Machine.getCertificate f slot offset length s).retryBounded :=
  h.negotiated fun h => .ite h.spdmError h.touch.spdm

theorem challenge {f slot} (h : s.retryBounded) : (Machine.challenge f slot s).retryBounded := by
  refine h.negotiated fun h => .ite h.spdmError ?_
  split
  next hr =>
    dsimp only
    split
    next e => exact ((h.randomBytes.of_snd hr).sign e).touch.spdm
    · exact h.spdmError

theorem getMeasurements {f signed} (h : s.retryBounded) : (Machine.getMeasurements f signed s).retryBounded := by
  refine h.negotiated fun h => .ite ?_ h.touch.spdm
  split
  next hr =>
    split
    next e => exact ((h.randomBytes.of_snd hr).sign e).touch.spdm
    · exact h.spdmError

theorem keyExchange {f mutAuth} (h : s.retryBounded) : (Machine.keyExchange f mutAuth s).retryBounded := by
  refine h.negotiated fun h => .ite h.spdmError (.ite h.spdmError (.ite h.spdmError ?_))
  split
  next hr =>
    split
    · exact h.spdmError
    next e => exact ((h.randomBytes.of_snd hr).sign e).update.sessionRegs.spdm

theorem authFail {f} (h : s.retryBounded) : (s.authFail f).retryBounded :=
  h.bump.raise.update.endSession.spdmError

theorem finishSession {f p} (h : s.retryBounded) : (Machine.finishSession f p s).retryBounded := by
  unfold Machine.finishSession
  dsimp only
  split
  · exact h.spdmError
  · split
    · exact h.spdmError
    · split
      · exact h.endSession.spdmError
      · split
        · exact h.modSession.sessionRegs.raise.spdm
        · split
          · split
            · exact .ite h.authFail (.ite h.modSession.sessionRegs.raise.spdm h.modSession.spdm)
            · exact h.authFail
          · exact h.modSession.spdm

theorem inSession {f k} (h : s.retryBounded) (hk : ∀ {u : State}, u.retryBounded → (k u).retryBounded) :
    (s.inSession f k).retryBounded := by
  unfold State.inSession
  split
  · exact .ite (hk h.touch) h.spdmError
  · exact h.spdmError

theorem getEncapsulated {f} (h : s.retryBounded) : (Machine.getEncapsulated f s).retryBounded := by
  unfold Machine.getEncapsulated
  split
  · exact .ite h.touch.spdm h.spdmError
  · exact h.spdmError

theorem deliverEncapsulated {f c} (h : s.retryBounded) : (Machine.deliverEncapsulated f c s).retryBounded := by
  unfold Machine.deliverEncapsulated
  split
  · exact .ite h.modSession.spdm h.spdmError
  · exact h.spdmError

theorem inOwner {f k} (h : s.retryBounded) (hk : ∀ {u : State}, u.retryBounded → (k u).retryBounded) :
    (s.inOwner f k).retryBounded :=
  .ite (hk h.touch) h.spdmError

theorem getCsr {f} (h : s.retryBounded) : (Machine.getCsr f s).retryBounded := by
  refine h.inOwner fun h => ?_
  split
  next e => exact (h.sign e).spdm
  · exact h.spdmError

theorem setCertificate {f slot chain} (h : s.retryBounded) : (Machine.setCertificate f slot chain s).retryBounded :=
  h.inOwner fun h => .ite h.update.spdm h.spdmError

theorem heartbeatExpiry {f} (h : s.retryBounded) : (Machine.heartbeatExpiry f s).retryBounded := by
  unfold Machine.heartbeatExpiry
  split
  · exact .ite h.endSession h
  · exact h

theorem credFail {f t'} (h : s.retryBounded) : (s.credFail f t').retryBounded :=
  h.put.raise.raiseIf.spdmError

theorem credentialSet {f cred} (h : s.retryBounded) : (Machine.credentialSet f cred s).retryBounded := by
  refine h.inSession fun h => ?_
  split
  · exact h.spdmError
  · exact .ite h.spdmError h.setTenKey.unlockTen.spdm

theorem credentialUnlock {f cred} (h : s.retryBounded) : (Machine.credentialUnlock f cred s).retryBounded := by
  refine h.inSession fun h => ?_
  split
  · exact h.spdmError
  · exact .ite h.spdmError (.ite h.unlockTen.spdm h.credFail)

theorem credentialChange {f old new} (h : s.retryBounded) : (Machine.credentialChange f old new s).retryBounded := by
  refine h.inSession fun h => ?_
  split
  · exact h.spdmError
  · exact .ite h.spdmError (.ite h.setTenKey.spdm h.credFail)

/-! ### Reset and start (spec 20.3 to 20.6) -/

theorem internalReset : s.internalReset.retryBounded := by
  unfold State.internalReset
  refine .raiseIf (.foldl put ?_)
  exact Nat.zero_le 64

theorem takeCommitted (h : s.retryBounded) : s.takeCommitted.retryBounded :=
  h.update.put

theorem recorderStart {headerOk} (h : s.retryBounded) : (s.recorderStart headerOk).retryBounded :=
  .ite h.takeCommitted.putb h.takeCommitted.putb.update.put.putb.traceFill.recHeads.recordType

theorem refuseEntry {k e'} (h : s.retryBounded) : (s.refuseEntry k e').retryBounded := by
  unfold State.refuseEntry
  split
  · exact h
  · split
    · exact h.verify.raise
    · exact h.raise

theorem trySlot {b} (h : s.retryBounded) : (s.trySlot b).2.retryBounded := by
  unfold State.trySlot
  split
  · exact h
  · split
    · exact (h.verify.of_snd ‹_›).raise
    · exact .foldl (fun h => .foldl (fun h => h.refuseEntry) h) (h.verify.of_snd ‹_›)

theorem pickImages {a} (h : s.retryBounded) : (s.pickImages a).2.retryBounded := by
  unfold State.pickImages
  dsimp only
  split
  · split
    · exact h.trySlot.of_snd ‹_›
    · split
      · exact (h.trySlot.of_snd ‹_›).update.raise.trySlot.of_snd ‹_›
      · exact (h.trySlot.of_snd ‹_›).update.raise.trySlot.of_snd ‹_›
  · split
    · exact .of_snd (.trySlot (.ite h h.update.raise)) ‹_›
    · exact .of_snd (.trySlot (.ite h h.update.raise)) ‹_›

theorem loadEntry {m c k} (h : s.retryBounded) : (s.loadEntry m c k).retryBounded := by
  unfold State.loadEntry
  split
  · exact h.measure.update
  · exact h

theorem replay (h : s.retryBounded) : s.replay.retryBounded :=
  .foldl (fun h => h.refill) h.update.modSqr

theorem restoreKeys (h : s.retryBounded) : s.restoreKeys.retryBounded := by
  unfold State.restoreKeys
  refine .foldl (fun h => ?_) h
  split
  · exact h
  · exact .ite (.ite h.lockTen.put h.lockTen) h.unlockTen

theorem resyncRegion {clean failed r} (h : s.retryBounded) : (s.resyncRegion clean failed r).retryBounded := by
  unfold State.resyncRegion
  refine .ite (.ite h.put h) ?_
  extract_lets rsh s1 s2 _ s3
  have h1 : s1.retryBounded := .ite h.put h
  refine .ite ?_ h1
  have h3 : s3.retryBounded := h1.putb.put.raise.update
  exact .ite h3.putb h3

theorem startFirst {i} (h : s.retryBounded) : (s.startFirst i).retryBounded := by
  unfold State.startFirst
  extract_lets n _ s1 s2 s3 s4 s5 s6 s7
  have h5 : s5.retryBounded := h.update.put.put.put.putb.expect.expect.expect.expect.deriveKeys
  have h6 : s6.retryBounded := .ite h5.putb.newNonce h5.entropyFail
  exact h6.extend.measureSecurity.extend.recorderStart.put

theorem startDram {ok} (h : s.retryBounded) : (s.startDram ok).retryBounded := by
  unfold State.startDram
  refine .ite h.put.culDeSac ?_
  split
  · exact h.put.raise
  next e => exact (h.put.drawXts e).update.putb.expect

theorem startImages {a ok} (h : s.retryBounded) : (s.startImages a ok).retryBounded := by
  unfold State.startImages
  split
  · exact (h.pickImages.of_snd ‹_›).put.culDeSac
  · split
    · exact h.pickImages.of_snd ‹_›
    · exact .startDram (.foldl (fun h => h.put) ((h.pickImages.of_snd ‹_›).loadEntry.putb.put))

theorem start {i} (h : s.retryBounded) : (s.start i).retryBounded := by
  unfold State.start
  extract_lets s1 st s2 _ s3 a s4
  have h3 : s3.retryBounded := .ite h.startFirst.put.put.putb.putb.update.raise h.startFirst.put.put.putb.putb
  refine .ite h3.culDeSac (.ite (.claimMode ?_) (.ite h3.put.culDeSac h3.put.update.startImages))
  split
  · exact h3.measure
  · exact h3

theorem startAfter {i} (h : s.retryBounded) : (s.startAfter i).retryBounded := by
  unfold State.startAfter
  split
  · exact h
  · split
    · exact h.update.wr.start
    · exact h.start

theorem chipReset {i} : (s.chipReset i).retryBounded := .startAfter .internalReset

theorem startRest (h : s.retryBounded) : s.startRest.retryBounded := by
  unfold State.startRest
  extract_lets st s1 s2 s3
  have h1 : s1.retryBounded := by
    dsimp only [s1]
    split
    · exact .measure (.foldl loadEntry h)
    · exact h
  exact .foldl (fun h => .ite h.readyPort h) (.put (.foldl resyncRegion h1.restoreKeys.replay))

theorem squareInit (h : s.retryBounded) : (Machine.squareInit s).retryBounded :=
  .ite (.ite h.initSquare.culDeSac h.initSquare.startRest) h.initSquare

/-! ### The fault collector's shared operations (spec 19) -/

theorem foundRecord (h : s.retryBounded) : s.foundRecord.retryBounded := by
  unfold State.foundRecord
  split
  · exact h
  · exact .ite h.update.put.putb.raise h.update.put

theorem dropRecord (h : s.retryBounded) : s.dropRecord.retryBounded :=
  h.update.bump.raiseIf

theorem recordEvent {e' react esc full} (h : s.retryBounded) : (s.recordEvent e' react esc full).retryBounded := by
  unfold State.recordEvent
  dsimp only
  split
  · exact h
  · split
    · exact h.dropRecord
    · split
      · refine .foundRecord ?_
        refine .record ?_
        split
        · exact h.bump
        · exact h
      · refine .record ?_
        split
        · exact h.bump
        · exact h

theorem takeNmi {k} (h : s.retryBounded) : (s.takeNmi k).retryBounded :=
  .ite h.update.put h.update

theorem nmi {src} (h : s.retryBounded) : (s.nmi src).retryBounded := by
  unfold State.nmi
  split
  · exact h
  · exact .ite h.update.bump.raise h.takeNmi

theorem beginCommit {kind} (h : s.retryBounded) : (s.beginCommit kind).retryBounded :=
  .ite h h.modSqr.flashCommit.update

theorem resetReason {kind src cut} (h : s.retryBounded) : (s.resetReason kind src cut).retryBounded :=
  h.putb.put.put.putb

theorem chipResetBegin {src} (h : s.retryBounded) : (s.chipResetBegin src).retryBounded := by
  unfold State.chipResetBegin
  refine .ite h ?_
  extract_lets _ _ s1 s2
  have h1 : s1.retryBounded := h.resetReason.update
  have h2 : s2.retryBounded := .foldl (fun h => h.dropGate) h1.putb.putb
  exact .unloadAll (.ite h2.beginCommit h2)

theorem resetRegs {lo hi keep} (h : s.retryBounded) : (s.resetRegs lo hi keep).retryBounded := by
  unfold State.resetRegs
  refine .foldl (fun h => ?_) h
  split
  · exact h
  · exact h.wr

theorem resetLadder {n l} (h : s.retryBounded) : (Machine.resetLadder n s l).retryBounded :=
  .ite h.endLadder.complete h.endLadder

theorem resetAvenue {n} (h : s.retryBounded) : (s.resetAvenue n).retryBounded :=
  .resetRegs (.modAv (.foldl (fun h => h.resetLadder) h.dropGate))

theorem resetServo {n} (h : s.retryBounded) : (s.resetServo n).retryBounded :=
  h.modSv.resetRegs.putb.svTo

theorem resetSpindle (h : s.retryBounded) : s.resetSpindle.retryBounded :=
  h.update.resetRegs.spnTo.expect

theorem resetFlash (h : s.retryBounded) : s.resetFlash.retryBounded :=
  h.resetRegs.put.put.modDie.modDie.dieStart.dieStart

theorem resetDies (h : s.retryBounded) : s.resetDies.retryBounded :=
  .foldl (fun h => h.cutBlocks.flashPost) (.modDie (.foldl (fun h => h.cutBlocks.flashPost) h.modDie))

theorem resetArcade (h : s.retryBounded) : s.resetArcade.retryBounded := by
  unfold State.resetArcade
  extract_lets mine s1 _ s2
  have h1 : s1.retryBounded := .foldl (fun h => h.endRun.raiseIf.complete) h
  exact h1.update.resetRegs

theorem resetSquare (h : s.retryBounded) : s.resetSquare.retryBounded :=
  .foldl (fun h => h.reindex) h.modSqr.resetRegs

theorem resetHost (h : s.retryBounded) : s.resetHost.retryBounded := by
  unfold State.resetHost
  extract_lets s1 s2 s3
  have h3 : s3.retryBounded := .portEvent (.foldl (fun h => h.putb) h.resetRegs)
  exact .ite h3.portEvent h3

theorem resetRoundabout (h : s.retryBounded) : s.resetRoundabout.retryBounded := by
  unfold State.resetRoundabout
  extract_lets s1 _ s2
  have h1 : s1.retryBounded := .foldl (fun h => .ite h.resetFn h) h
  exact h1.update.resetRegs

theorem resetCore {k} (h : s.retryBounded) : (s.resetCore k).retryBounded :=
  h.emptyL1.update.put.raise

theorem beforeReset {u} (h : s.retryBounded) : (s.beforeReset u).retryBounded :=
  .ite h.modSeq (.ite (.ite h h.dropReq.modSv.svTo) (.ite h.spindleKill (.ite h.resetDies h)))

theorem resetUnitLogic {u} (h : s.retryBounded) : (s.resetUnitLogic u).retryBounded := by
  unfold State.resetUnitLogic
  split
  · exact h.resetChannel
  · split
    · exact h.resetHost
    · exact h.resetRoundabout
    · exact h.resetSquare
    · exact .foldl (fun h => h.resetChannel) h
    · exact h.resetSpindle
    · exact h.resetFlash
    · exact h.resetArcade
    · exact .ite h.resetAvenue (.ite h.resetServo h.resetCore)

theorem blockReset {u src} (h : s.retryBounded) : (s.blockReset u src).retryBounded :=
  .ite h (.ite h.update.putb.putb h.update.putb.putb.beforeReset)

theorem quietOver {src} (h : s.retryBounded) : (s.quietOver src).retryBounded :=
  .ite h.put h

theorem finishReset {u} (h : s.retryBounded) : (s.finishReset u).retryBounded := by
  unfold State.finishReset
  extract_lets mine s1 rest _ s2 s3
  refine .ite h ?_
  have h1 : s1.retryBounded := .resetUnitLogic (.foldl (fun h => h.resetNotice) h)
  have h3 : s3.retryBounded := h1.update.putb.putb
  exact .raise (.foldl (fun h => h.putb.quietOver) h3)

theorem react {src r} (h : s.retryBounded) : (s.react src r).retryBounded := by
  unfold State.react
  split
  · exact h.putb.quietOver
  · exact h.putb.nmi.quietOver
  · split
    · exact h.blockReset
    · exact h
  · exact h.chipResetBegin
  · exact h.quietOver

theorem countSrc {src f} (h : s.retryBounded) : (s.countSrc src f).retryBounded :=
  h.update

theorem faultPin {src} (h : s.retryBounded) : (s.faultPin src).retryBounded :=
  .putb (.ite h h.put)

theorem countEvent {src} (h : s.retryBounded) : (s.countEvent src).retryBounded :=
  h.bump.bump.put.countSrc.update

theorem handleEvent {e full} (h : s.retryBounded) : (s.handleEvent e full).retryBounded := by
  unfold State.handleEvent
  extract_lets s1 x s2 s3 _ s4 s5 s6
  have h2 : s2.retryBounded := h.countEvent.put.put
  have h3 : s3.retryBounded := .ite h2.faultPin h2
  have h5 : s5.retryBounded := .recordEvent (.ite h3.update.bump.raise h3)
  have h6 : s6.retryBounded := by
    dsimp only [s6]
    split
    · exact h5.countSrc.react
    · exact h5
  exact h6.raiseIf

/-! ### The fault collector's commands (spec 19) -/

theorem eventArrival {full} (h : s.retryBounded) : (Machine.eventArrival full s).retryBounded := by
  unfold Machine.eventArrival
  split
  · exact h
  · exact h.update.handleEvent

theorem chipResetTimeout {timeout i} (h : s.retryBounded) : (Machine.chipResetTimeout timeout i s).retryBounded :=
  .ite h (.ite .chipReset h)

theorem quietExpiry {src} (h : s.retryBounded) : (Machine.quietExpiry src s).retryBounded :=
  .ite h (.ite h.put.update h.put.update.bump.countSrc)

theorem rcntDecay {src} (h : s.retryBounded) : (Machine.rcntDecay src s).retryBounded :=
  .ite h h.put

theorem sourceRearm {i mask} (h : s.retryBounded) : (Machine.sourceRearm i mask s).retryBounded :=
  .foldl (fun h => .ite h.put.put.update h) h

theorem blockResetRequest {u} (h : s.retryBounded) : (Machine.blockResetRequest u s).retryBounded :=
  .ite h.put.blockReset h.put

theorem drainForced {u} (h : s.retryBounded) : (Machine.drainForced u s).retryBounded :=
  .ite h.update.raise.finishReset h

theorem nmiReturn {k} (h : s.retryBounded) : (Machine.nmiReturn k s).retryBounded := by
  unfold Machine.nmiReturn
  split
  · exact h
  · split
    · exact h.update
    · exact .ite h.update.put h.update

theorem faultInject {src} (h : s.retryBounded) : (Machine.faultInject src s).retryBounded :=
  .ite (.ite h.put h.put.update) h.badAccess

/-! ### The caches' commands (spec 18) -/

theorem shrink {c w} (h : s.retryBounded) : (s.shrink c w).retryBounded :=
  h.update

theorem l1WayChange {k iways dways} (h : s.retryBounded) : (Machine.l1WayChange k iways dways s).retryBounded :=
  .ite (.ite h h.badAccess) h.put.put.shrink.shrink

theorem lfsrLoad {c v} (h : s.retryBounded) : (Machine.lfsrLoad c v s).retryBounded :=
  h.put

theorem coreRuns {k} (h : s.retryBounded) : (s.coreRuns k).retryBounded :=
  h.put

theorem fillL1 {k fetch addr data} (h : s.retryBounded) : (s.fillL1 k fetch addr data).retryBounded := h.put.setWay.coreRuns

theorem fillL2 {addr work badVictim badDram} (h : s.retryBounded) (e : s.fillL2 addr work badVictim badDram = some t) :
    t.retryBounded := by
  unfold State.fillL2 at e
  obtain ⟨-, e⟩ := Option.ite_none_left_eq_some.1 e
  dsimp only at e
  generalize ha : s.allocate l2No _ _ = r at e
  have hr : r.2.retryBounded := ha ▸ h.allocate
  cases e
  refine .setWay ?_
  split
  · exact .ite hr.dropL2 (.ite hr.l2DataError hr.writeLine.dropL2)
  · exact hr

theorem storeHit {k x w} (h : s.retryBounded) : (s.storeHit k x w).retryBounded := by
  unfold State.storeHit
  refine .foldl (fun h => ?_) h.setWay
  split
  · exact h.setWay
  · exact h

theorem takeStore {k work x} (h : s.retryBounded) : (s.takeStore k work x).retryBounded := by
  unfold State.takeStore
  split
  · exact h
  · split
    · exact h.storeHit
    · split
      · exact h.dramBad
      · split
        · exact (h.fillL2 ‹_›).storeHit
        · exact h.fillL2 ‹_›

theorem dramMiss {k pc addr} (h : s.retryBounded) : (s.dramMiss k pc addr).retryBounded :=
  h.update.dramBad.cacheError.preciseTrap

theorem serveMiss {m} (h : s.retryBounded) : (s.serveMiss m).retryBounded := by
  unfold State.serveMiss
  dsimp only
  split
  · exact .ite h.l2DataError.preciseTrap h.fillL1
  · split
    · exact h.dramMiss
    · exact (h.fillL2 ‹_›).fillL1

theorem l1MissFill {m} (h : s.retryBounded) : (Machine.l1MissFill m s).retryBounded := by
  unfold Machine.l1MissFill
  extract_lets k a c s0 miss
  refine .ite h ?_
  have h0 : s0.retryBounded := .foldl (fun h => h.takeStore) h
  have hmiss {u : State} (hu : u.retryBounded) : (miss u).retryBounded := .ite hu.coreRuns hu.serveMiss
  split
  · exact hmiss h0.cacheCorrected
  · exact hmiss h0.cacheCorrected
  · exact .ite h0.l1Error.preciseTrap (hmiss h0.l1Error)
  · exact .ite h0.l1Error.preciseTrap (hmiss h0.l1Error)
  · exact hmiss h0.l2TagError
  · exact hmiss h0
  · exact hmiss h0
  · exact hmiss h0
  · exact hmiss h0

/-! ### Owner commands (spec 15.6 to 15.8) -/

theorem ownerCmd {tag op life k} (h : s.retryBounded) (hk : ∀ {c}, (k c).retryBounded) :
    (s.ownerCmd tag op life k).retryBounded := by
  unfold State.ownerCmd
  split
  · exact h
  · exact .ite hk h.refuse

theorem fillSlot {k key} (h : s.retryBounded) : (s.fillSlot k key).retryBounded :=
  h.update.put

theorem ownerClaim {tag key} (h : s.retryBounded) : (Machine.ownerClaim tag key s).retryBounded :=
  h.ownerCmd h.fillSlot.put.raise.measureSecurity.ok

theorem ownerRootUpdate {tag key} (h : s.retryBounded) : (Machine.ownerRootUpdate tag key s).retryBounded :=
  h.ownerCmd (.ite (.ite h.refuse h.fillSlot.raise.measureSecurity.ok) (.ite h.refuse h.put.raise.measureSecurity.ok))

theorem tenancyCreate {tag} (h : s.retryBounded) : (Machine.tenancyCreate tag s).retryBounded := by
  refine h.ownerCmd (.ite h.refuse ?_)
  split
  · exact h.noRandom
  next e => exact ((h.drawKey e).fresh (w := 256)).setTenKey.wr.putb.putb.put.raise.ok

theorem tenancyDelete {tag} (h : s.retryBounded) : (Machine.tenancyDelete tag s).retryBounded :=
  h.ownerCmd (.ite h.refuse (.ite h.refuse h.setTenKey.wr.raise.ok))

theorem controllerBind {tag} (h : s.retryBounded) : (Machine.controllerBind tag s).retryBounded :=
  h.ownerCmd (.ite h.refuse h.put.putb.ok)

theorem tenancyErase {tag} (h : s.retryBounded) : (Machine.tenancyErase tag s).retryBounded := by
  refine h.ownerCmd (.ite h.refuse (.ite h ?_))
  split
  · exact h.noRandom
  next e => exact (h.cryptoErase e).ok

theorem rollbackAdvance {tag bad} (h : s.retryBounded) : (Machine.rollbackAdvance tag bad s).retryBounded :=
  h.ownerCmd (.ite h.refuse h.advanceFloor.ok)

theorem zeroise {level} (h : s.retryBounded) : (s.zeroise level).retryBounded :=
  .foldl (fun h => h.modCtl) (.measureSecurity (.put (.putb (.update (.foldl (fun h => h.endSession) h)))))

theorem openDebug {tag level} (h : s.retryBounded) : (s.openDebug tag level).retryBounded :=
  .ok (.raise (.update (.ite h.zeroise.update.put.measureSecurity h.zeroise)))

theorem debugUnlock {tag token key} (h : s.retryBounded) : (Machine.debugUnlock tag token key s).retryBounded := by
  refine h.ownerCmd ?_
  split
  · exact .ite h.openDebug h
  · exact .ite h.bump.raise.newNonce.refuse (.ite h.newNonce.openDebug h.newNonce.requestDrain.update)

/-! ### Power (spec 20) -/

theorem portEventStart {p c} (h : s.retryBounded) : (Machine.portEventStart p c s).retryBounded := by
  unfold Machine.portEventStart
  split
  · exact .ite .chipReset h.hostPortEvent
  · exact h.hostPortEvent
  · exact h.hostPortEvent

theorem porstFall (h : s.retryBounded) : (Machine.porstFall s).retryBounded :=
  .ite h (.ite h.update (.unloadAll (.beginCommit (.ite h.update.portEvent.portEvent h.update.portEvent))))

theorem cutCommit (h : s.retryBounded) : s.cutCommit.retryBounded :=
  .ite h.update h

theorem porstCommitCut (h : s.retryBounded) :
    (Machine.porstCommitCut s).retryBounded := .ite h (.startAfter (.raise .internalReset))

theorem porstHold (h : s.retryBounded) : (Machine.porstHold s).retryBounded := .ite .internalReset h

theorem coldStart {straps i} (h : s.retryBounded) : (s.coldStart straps i).retryBounded :=
  h.update.wr.raiseIf.start

theorem porstRelease {straps i} (h : s.retryBounded) : (Machine.porstRelease straps i s).retryBounded :=
  .ite h (.ite h.update.coldStart h.update.update)

theorem commitToJournal (h : s.retryBounded) : s.commitToJournal.retryBounded :=
  .modSqr (.foldl (fun h => h.modPage) h)

theorem programmed {pages} (h : s.retryBounded) : (s.programmed pages).retryBounded :=
  h.update.wear.put

theorem writeCommit {kind} (h : s.retryBounded) : (s.writeCommit kind).retryBounded :=
  h.commitToJournal.programmed.update.raise

theorem commitRecord {ok} (h : s.retryBounded) : (Machine.commitRecord ok s).retryBounded := by
  unfold Machine.commitRecord
  split
  · exact h
  · exact .ite h (.ite (.startAfter .internalReset) (.ite h.writeCommit h.cutCommit))

theorem powerLossSignal (h : s.retryBounded) : (Machine.powerLossSignal s).retryBounded := by
  unfold Machine.powerLossSignal
  extract_lets c s1 s2
  refine .ite h ?_
  have h2 : s2.retryBounded := .foldl (fun h => h.inhibit) h.putb.put.put.raise.beginCommit
  exact .dmaPowerLoss (.spnPowerLoss (.foldl (fun h => h.emergencyUnload) h2))

theorem powerLossWithdraw {i} (h : s.retryBounded) : (Machine.powerLossWithdraw i s).retryBounded := .ite .chipReset h

theorem sampleRails {m} (h : s.retryBounded) : (s.sampleRails m).retryBounded :=
  h.update.raiseIf

theorem coolWindow (h : s.retryBounded) : s.coolWindow.retryBounded :=
  .ite h.writeReg h

theorem sampleTemps {temps} (h : s.retryBounded) : (s.sampleTemps temps).retryBounded := by
  unfold State.sampleTemps
  split
  · exact h
  · exact .ite h.update.puti.raiseIf.raiseIf.coolWindow h.update.puti.raiseIf.raiseIf

theorem supplySample {m} (h : s.retryBounded) : (Machine.supplySample m s).retryBounded :=
  .ite h h.sampleRails.sampleTemps

theorem pgoodFall (h : s.retryBounded) : (Machine.pgoodFall s).retryBounded :=
  h.update.putb

theorem pgoodLoss (h : s.retryBounded) : (Machine.pgoodLoss s).retryBounded :=
  .ite h.update h

theorem stopRecord {kind clean} (h : s.retryBounded) : (s.stopRecord kind clean).retryBounded :=
  h.programmed.update

theorem cleanStop (h : s.retryBounded) : s.cleanStop.retryBounded :=
  .ite h.stopRecord h

theorem drainWindow (h : s.retryBounded) : s.drainWindow.retryBounded :=
  .ite h.requestDrain h

theorem standbyEntry (h : s.retryBounded) : (Machine.standbyEntry s).retryBounded :=
  .ite h (.ite h.drainWindow h.unloadAll.targetWrite.put)

theorem drainTrace (h : s.retryBounded) : s.drainTrace.retryBounded :=
  .foldl (fun h => h.traceByte) (.foldl (fun h => h.drainFrame) h)

theorem stallCores (h : s.retryBounded) : s.stallCores.retryBounded :=
  .foldl (fun h => .ite h.put h) h

theorem sleepEntry (h : s.retryBounded) : (Machine.sleepEntry s).retryBounded :=
  .ite h (.ite h.drainWindow h.cleanStop.expect.drainTrace.expect.put.stallCores.put)

theorem mediaExpected (h : s.retryBounded) : s.mediaExpected.retryBounded :=
  .expect (.expect (.expect (.foldl (fun h => h.expect.expect) h)))

theorem leaveSleep (h : s.retryBounded) : s.leaveSleep.retryBounded :=
  .ite (.put (.trace (.expect (.mediaExpected (.foldl (fun h => .ite h.put h) h))))) h

theorem sleepExit {why} (h : s.retryBounded) : (Machine.sleepExit why s).retryBounded := by
  unfold Machine.sleepExit
  split
  · exact .ite h.update.expect.leaveSleep h
  · exact .ite h.perstRelease.leaveSleep h
  · exact h.leaveSleep

theorem deepStandbyEntry (h : s.retryBounded) : (Machine.deepStandbyEntry s).retryBounded :=
  .ite (.putb (.update .internalReset)) h

theorem deepStandbyWake {edge straps i} (h : s.retryBounded) : (Machine.deepStandbyWake edge straps i s).retryBounded :=
  .ite h h.update.coldStart

theorem startStepLimit {i} (h : s.retryBounded) : (Machine.startStepLimit i s).retryBounded := .ite h .chipReset

theorem stepNine {n} (h : s.retryBounded) : (s.stepNine n).retryBounded :=
  .ite (.expect (.putb (.ite h h.modAv.putb.raise))) (.disableAvenue (.ite h h.modAv.putb.raise))

theorem dataServiceReady {fuse} (h : s.retryBounded) : (Machine.dataServiceReady fuse s).retryBounded := by
  unfold Machine.dataServiceReady
  refine .ite h ?_
  extract_lets s1
  have h1 : s1.retryBounded := .foldl (fun h => h.stepNine) h
  exact .ite h1.culDeSac h1.update.makeLkg.put.put.raise

/-! ### The recorder's commands (spec 19.6, 19.7) -/

theorem mirrorPage (h : s.retryBounded) : (Machine.mirrorPage s).retryBounded :=
  .ite h h.update.put

theorem loadWin {bs} (h : s.retryBounded) : (Machine.loadWin bs s).retryBounded :=
  .foldl (fun h => h.put) h

theorem showRecord {r founding} (h : s.retryBounded) : (Machine.showRecord r founding s).retryBounded := by
  unfold Machine.showRecord
  split
  · exact h.putb
  · exact h.putb.loadWin.putb

theorem recordCursorLoad {seq} (h : s.retryBounded) : (Machine.recordCursorLoad seq s).retryBounded :=
  h.put.showRecord

theorem foundingCursorLoad {i} (h : s.retryBounded) : (Machine.foundingCursorLoad i s).retryBounded :=
  h.put.showRecord

theorem recordClear (h : s.retryBounded) : (Machine.recordClear s).retryBounded :=
  h.update.recHeads.recordType.raise

theorem foundingClear (h : s.retryBounded) : (Machine.foundingClear s).retryBounded :=
  .ite (.foldl (fun h => h.put) h.update.put.putb) h.badAccess

theorem waitEnter {u start} (h : s.retryBounded) : (Machine.waitEnter u start s).retryBounded :=
  .ite h.update.trace h

theorem waitExit {u} (h : s.retryBounded) : (Machine.waitExit u s).retryBounded :=
  .ite h.update.trace h

/-! ### Regions and reconstruction (spec 11) -/

theorem putLayout {r tgt p gen} (h : s.retryBounded) : (s.putLayout r tgt p gen).retryBounded :=
  .foldl (fun h => h.put) h.put.put.put.put.put

theorem regionDefine {tag r p} (h : s.retryBounded) : (Machine.regionDefine tag r p s).retryBounded := by
  unfold Machine.regionDefine
  split
  · exact h
  · exact .ite h.refuse (.ite h.refuse (.ite h.refuse (.ite h.refuse h.putLayout.wr.put.update.ok)))

theorem regionDelete {tag r} (h : s.retryBounded) : (Machine.regionDelete tag r s).retryBounded := by
  unfold Machine.regionDelete
  split
  · exact h
  · exact .ite h.refuse (.ok (.update (.foldl (fun h => h.wr) h)))

theorem reshapeStart {tag r p} (h : s.retryBounded) : (Machine.reshapeStart tag r p s).retryBounded := by
  unfold Machine.reshapeStart
  split
  · exact h
  · exact .ite h.refuse (.ite h.refuse (.ite h.refuse (.ite h.refuse (.ite h.refuse h.putLayout.putb.put.put.raise.ok))))

theorem degrade {e' units r} (h : s.retryBounded) : (s.degrade e' units r).retryBounded := by
  cases e' with
  | actuator => exact .ite h h.update.putb.putb
  | face => exact .ite h (.ite h.update.putb.putb.putb.put h.update.putb.putb)

theorem pauseReshape {e' r} (h : s.retryBounded) : (s.pauseReshape e' r).retryBounded :=
  .ite h.putb.raise h

theorem elementDeclare {e' c units} (h : s.retryBounded) : (Machine.elementDeclare e' c units s).retryBounded := by
  unfold Machine.elementDeclare
  dsimp only
  split
  · exact h
  · split
    · exact .ok (.ite h (.foldl (fun h => h.degrade.pauseReshape) h.update.putb.raise))
    · exact .ite h (.foldl (fun h => h.degrade.pauseReshape) h.update.putb.raise)

theorem unpause {r} (h : s.retryBounded) : (s.unpause r).retryBounded :=
  .ite h.putb h

theorem elementReinstate {tag e'} (h : s.retryBounded) : (Machine.elementReinstate tag e' s).retryBounded := by
  unfold Machine.elementReinstate
  split
  · exact h
  · exact .ite h.ok (.ok (.foldl (fun h => .unpause (.ite h.putb.put h)) h.update.putb))

theorem rebuildEnd {r av} (h : s.retryBounded) : (s.rebuildEnd r av).retryBounded :=
  .ite h.putb h.putb.putb.raise

theorem rebuildStep {r spare unrec verified} (h : s.retryBounded) :
    (Machine.rebuildStep r spare unrec verified s).retryBounded := by
  unfold Machine.rebuildStep
  refine .ite h ?_
  split
  · exact h.putb
  · refine .ite h (.ite h.putb.raise (.ite h ?_))
    extract_lets blocks suspect lose t s1 last _ s2 whole _ s3 more s4
    have hlose {u b q} (h : State.retryBounded u) : (lose u b q).retryBounded := by
      dsimp only [lose]
      split
      · exact h.loseKey
      · exact h
    have h1 : s1.retryBounded := .ite (.foldl hlose h) (.bump (.foldl (fun h => h.update.raise) h))
    have h4 : s4.retryBounded := .put (.ite h1.update.update h1.update)
    split
    · exact h4.rebuildEnd
    · exact h4

theorem rowWrite {r st tgt} (h : s.retryBounded) : (Machine.rowWrite r st tgt s).retryBounded := by
  unfold Machine.rowWrite
  split
  · exact h
  · extract_lets rows par deg want pAv skip s1 s2
    refine .ite h.modSqr ?_
    have h1 : s1.retryBounded := .foldl (fun h => h.freePg) h
    exact .closeWritten (.foldl (fun h => .ite h.modPage h) h1.modSqr)

theorem deliver {k req b} (h : s.retryBounded) : (s.deliver k req b).retryBounded := by
  unfold State.deliver
  dsimp only
  split
  · refine .fillEnded ?_
    split
    · exact h.startFill
    · exact h
  · split
    · exact h.startFill
    · exact h

theorem reconstruct {r block req peers miss own} (h : s.retryBounded) :
    (Machine.reconstruct r block req peers miss own s).retryBounded := by
  unfold Machine.reconstruct
  extract_lets tgt ps got b
  split
  · extract_lets i lost suspect possible fails
    refine .ite h (.ite h.raiseIf.noteRead ?_)
    have hfails {u : State} (hu : u.retryBounded) : (fails u).retryBounded := hu.update.raise.noteRead
    refine .ite (hfails h) ?_
    split
    · exact hfails h.raise
    · extract_lets s1 s2
      have h2 : s2.retryBounded := .deliver (.bump (.ite h.bump h))
      exact .ite h2 h2.update
  · exact h

theorem syncDiff {r} (h : s.retryBounded) : (s.syncDiff r).retryBounded :=
  .ite h.bump h.bump.update.raise

theorem pend {r block} (h : s.retryBounded) : (s.pend r block).retryBounded :=
  h.update

theorem syncParity {r tgt st row} (h : s.retryBounded) : (s.syncParity r tgt st row).retryBounded := by
  refine .ite h (.ite (.foldl (fun h => h.pend.raise) h.bump) ?_)
  split
  · exact h.bump.update
  · exact h
  · exact .ite h h.syncDiff

theorem syncPair {r tgt off row} (h : s.retryBounded) : (s.syncPair r tgt off row).retryBounded := by
  unfold State.syncPair
  dsimp only
  split
  · exact h
  · split
    · exact .ite h h.syncDiff
    · exact h.pend
    · exact h

theorem resyncStep {r rows} (h : s.retryBounded) : (Machine.resyncStep r rows s).retryBounded := by
  unfold Machine.resyncStep
  extract_lets off
  split
  refine .ite h ?_
  extract_lets s1 s2 _ s3 s4 _
  have h1 : s1.retryBounded := by
    refine .foldl (fun h => ?_) h
    split
    · exact h.syncParity
    · exact h.syncPair
    · exact h
  have h3 : s3.retryBounded := .ite h1.put.update h1.put
  exact .ite h3.putb.putb.raise.update h3

theorem resyncCheckpoint {r} (h : s.retryBounded) : (Machine.resyncCheckpoint r s).retryBounded :=
  .ite h.update h

theorem reshapeStep {r lost} (h : s.retryBounded) : (Machine.reshapeStep r lost s).retryBounded := by
  unfold Machine.reshapeStep
  dsimp only
  split
  · exact h
  · refine .put ?_
    refine .foldl (fun h => ?_) h
    split
    · exact h.loseKey
    · exact h

theorem reshapeCheckpoint {r} (h : s.retryBounded) : (Machine.reshapeCheckpoint r s).retryBounded :=
  .ite h h.update.put

theorem targetUnits {r} (h : s.retryBounded) : (s.targetUnits r).retryBounded :=
  h.update

theorem reshapeEnd {r} (h : s.retryBounded) : (Machine.reshapeEnd r s).retryBounded := by
  unfold Machine.reshapeEnd
  refine .ite h ?_
  extract_lets s1 s2 s3 s4
  have h3 : s3.retryBounded := .foldl (fun h => h.put) h.reshapeCheckpoint.targetUnits.wr.wr
  have h4 : s4.retryBounded := h3.putb.putb.raise
  exact .ite (.ite h4.put h4) h4.putb.putb

/-! ### The Square's commands (spec 09) -/

theorem squareReadLookup {a} (h : s.retryBounded) : (Machine.squareReadLookup a s).retryBounded := by
  unfold Machine.squareReadLookup
  refine .ite h ?_
  extract_lets refusedPage ten k s1
  have h1 : s1.retryBounded := by
    dsimp only [s1]
    split
    · exact h.streamRead
    · exact h
  clear_value refusedPage s1
  cases refusedPage with
  | some p => exact h.tenancyRefused
  | none =>
    dsimp only
    split
    · split
      · exact h1.hitPage
      · exact h1.hitPage.dramRead.noteRead
    · exact h1.joinFill
    · exact h1.readKey
    · exact h1.startFill

theorem gatherTimeout {r stripe target peers miss} (h : s.retryBounded) :
    (Machine.gatherTimeout r stripe target peers miss s).retryBounded := by
  unfold Machine.gatherTimeout
  split
  · exact .ite h h.forceGroup.bump.raise
  · exact h

theorem drainEnd (h : s.retryBounded) : (Machine.drainEnd s).retryBounded := by
  unfold Machine.drainEnd
  split
  · exact (h.endDrain ‹_›).drainEnded
  · exact h

theorem lockAcquire {k c} (h : s.retryBounded) : (Machine.lockAcquire k c s).retryBounded :=
  h.acquire.update

theorem lockHoldWarn {k} (h : s.retryBounded) : (Machine.lockHoldWarn k s).retryBounded :=
  .ite h.setLock.raise h

/-! ### The idle cycle -/

theorem idle (h : s.retryBounded) : (Machine.idle s).retryBounded :=
  h.timeTick.drainFrame

end State.retryBounded

end Sys2Proof.Machine
end

section
/-! CERTIFICATE. The statement O5. -/

namespace Sys2Proof.Machine

variable {s t : State}

theorem exec_retryBounded {i : Instr} (h : s.retryBounded) (e : exec i s = .next t) : t.retryBounded := by
  cases i with
  | registerWrite => exact .of_next h.writeAccess e
  | readClearAccess => exact .of_next h.readAccess e
  | lowerWordCaptureRead => exact .of_next h.readAccess e
  | crossingOverflow => exact .of_next h.crossingOverflow e
  | clockAbsent => exact .of_next h.clockAbsent e
  | clockReturn => exact .of_next h.putb e
  | flitDelivery => exact .of_next h.flitDelivery e
  | timFenceRead => exact .of_next h.timFenceRead e
  | paceGateEnd => exact .of_next h.paceGateEnd e
  | avsUpdate => exact .of_next h.avsUpdate e
  | zonePreviewPost => exact .of_next h.postPreview e
  | zoneChange => exact .of_next h.zoneChange e
  | zoneChangeHoldExpiry => exact .of_next h.zoneHoldExpiry e
  | pgoodFilterExpiry => exact .of_next h.pgoodFilter e
  | pgoodRise => exact .of_next h.pgoodRise e
  | timeLoadRequest => exact .of_next h.update e
  | timeLoadApply => exact .of_next h.timeLoadApply e
  | formatApply => exact .of_next h.formatApply e
  | timingLaneEnable => exact .of_next h.laneEnable e
  | timingLaneDisable => exact .of_next h.laneDisable e
  | relock => exact .of_next h.laneRelock e
  | laneUpdate => exact .of_next h.laneUpdate e
  | acquireTimeout => exact .of_next h.acquireTimeout e
  | timingWedgeBegin => exact .of_next h.wedgeBegin e
  | timingWedgeEnd => exact .of_next h.timingWedgeEnd e
  | embeddedWedge => exact .of_next h.embeddedWedge e
  | sampleBlock => exact .of_next h.sampleBlock e
  | afeCalStep => exact .of_next h.afeCalStep e
  | codeTableLoad => exact .of_next h.codeTableLoad e
  | retryCodeTableLoad => exact .of_next h.retryCodeTableLoad e
  | onTheFlyDecodeEnd => exact .of_next h.onTheFlyDecodeEnd e
  | decodeOverrun => exact .of_next h.decodeOverrun e
  | retryJobSubmit => exact .of_next h.retryJobSubmit e
  | retryJobStart => exact .of_next h.retryJobStart e
  | retryJobEnd => exact .of_next h.retryJobEnd e
  | ladderStepStart => exact .of_next h.ladderStepStart e
  | rereadDisplace => exact .of_next h.rereadDisplace e
  | l6StepEnd => exact .of_next h.l6StepEnd e
  | relocateSector => exact .of_next h.relocateSector e
  | shockRise => exact .of_next h.shockRise e
  | shockFall => exact .of_next h.shockFall e
  | shockHoldExpiry => exact .of_next h.modAv e
  | shockSetHoldExpiry => exact .of_next h.modSv e
  | preampFaultInput => exact .of_next h.preampFault e
  | softwareWriteInhibit => exact .of_next h.softwareInhibit e
  | kazqCommand => exact .of_next h.kazqCommand e
  | kazqFrameEnd => exact .of_next h.kazqFrameEnd e
  | heaterSettleExpiry => exact .of_next h.modKz e
  | preampDiscovery => exact .of_next h.preampDiscovery e
  | microBranch => exact .of_next h.micro e
  | microCall => exact .of_next h.micro e
  | microReturn => exact .of_next h.micro e
  | microWait => exact .of_next h.micro e
  | seqWaitResume => exact .of_next h.waitResume e
  | seqWaitLimitExpiry => exact .of_next h.waitLimit e
  | aluAdd => exact .of_next h.alu e
  | aluSub => exact .of_next h.alu e
  | aluAnd => exact .of_next h.alu e
  | aluOr => exact .of_next h.alu e
  | aluXor => exact .of_next h.alu e
  | aluShl => exact .of_next h.alu e
  | aluShr => exact .of_next h.alu e
  | aluMov => exact .of_next h.alu e
  | aluCmp => exact .of_next h.alu e
  | portRead => exact .of_next h.portRead e
  | outcomeRead => exact .of_next h.portRead e
  | portWrite => exact .of_next h.portPut e
  | framerOpen => exact .of_next h.framerOpen e
  | armRead => exact .of_next h.arm e
  | armWrite => exact .of_next h.arm e
  | armVerify => exact .of_next h.arm e
  | framerCancel => exact .of_next h.framerCancel e
  | framerClose => exact .of_next h.framerClose e
  | afeApply => exact .of_next h.afeApply e
  | dspSelect => exact .of_next h.dspSelect e
  | markWindowSelect => exact .of_next h.markWindow e
  | prepareRead => exact .of_next h.prepare e
  | prepareWrite => exact .of_next h.prepare e
  | servoSeekAction => exact .of_next h.servoAction e
  | servoMoveAction => exact .of_next h.servoAction e
  | ringFetch => exact .of_next h.ringFetch e
  | ringComplete => exact .of_next h.ringComplete e
  | ringCompleteFetch => exact .of_next h.ringComplete.ringFetch e
  | flagSet => exact .of_next h.setF e
  | flagClear => exact .of_next h.setF e
  | windowSpill => exact .of_next h.spill e
  | windowFill => exact .of_next h.fill e
  | windowAbandon => exact .of_next h.abandon e
  | softwareTrap => exact .of_next h.takeTrap e
  | halt => exact .of_next h.seqFault e
  | ownerTimeLimit => exact .of_next h.ownerTimeLimit e
  | slotStart => exact .of_next h.slotStart e
  | slotEnd => exact .of_next h.slotEnd e
  | avenueEntryWrite => exact .of_next h.entryWrite e
  | sequencerRun => exact .of_next h.seqRun e
  | sequencerStop => exact .of_next h.seqStop e
  | sequencerHold => exact .of_next h.seqHold e
  | amLoad => exact .of_next h.amLoad e
  | omLoad => exact .of_next h.omLoad e
  | seekRequest => exact .of_next h.seekRequest e
  | seekTimeLimit => exact .of_next h.seekTimeLimit e
  | settleWarnExpiry => exact .of_next h.settleWarn e
  | settleLimitExpiry => exact .of_next h.settleLimit e
  | commandPeriod => exact .of_next h.commandPeriod e
  | driveLinkInFrame => exact .of_next h.driveLinkInFrame e
  | servoEnable => exact .of_next h.servoEnable e
  | servoDisable => exact .of_next h.servoDisable e
  | servoLoad => exact .of_next h.servoLoad e
  | servoUnload => exact .of_next h.unloadRequest e
  | loadLimitExpiry => exact .of_next h.loadLimit e
  | idleTimerExpiry => exact .of_next h.idleTimer e
  | idleUnloadExpiry => exact .of_next h.idleUnload e
  | latchDetEdge => exact .of_next h.latchDetEdge e
  | parkTimeExpiry => exact .of_next h.parkTime e
  | unloadLimitExpiry => exact .of_next h.unloadLimit e
  | recoverLimitExpiry => exact .of_next h.recoverLimit e
  | spindleControlStep => exact .of_next h.spindleStep e
  | spindleConversion => exact .of_next h.conversion e
  | overcurrentTrip => exact .of_next h.overcurrent e
  | spindleEnable => exact .of_next h.spindleEnable e
  | spindleDisable => exact .of_next h.spindleDisable e
  | spindleKill => exact .of_next h.spindleKill e
  | spindleTargetWrite => exact .of_next h.targetWrite e
  | resyncMeasureEnd => exact .of_next h.resyncEnd e
  | startCatchEnd => exact .of_next h.catchEnd e
  | prechargeEnd => exact .of_next h.prechargeEnd e
  | alignEnd => exact .of_next h.alignEnd e
  | startRetryExpiry => exact .of_next h.retryExpiry e
  | spinTimeLimit => exact .of_next h.spinLimit e
  | readyTimeExpiry => exact .of_next h.readyExpiry e
  | holdTimeExpiry => exact .of_next h.holdExpiry e
  | brakeEnd => exact .of_next h.brakeEnd e
  | spinCmdWindow => exact .of_next h.spinWindow e
  | squareReadLookup => exact .of_next h.squareReadLookup e
  | fillEnd => exact .of_next h.fillEnded e
  | pageTransferEnd => exact .of_next h.modPage.tryFree e
  | allocationResume => exact .of_next h.resumeAlloc.finishWrites e
  | placement => exact .of_next h.place.finishWrites e
  | placementRelease => exact .of_next h.releaseHeld.finishWrites e
  | gatherTimeout => exact .of_next h.gatherTimeout e
  | mediaWriteEnd => exact .of_next h.mediaWriteEnded e
  | journalProgramEnd => exact .of_next h.journaled e
  | drainRequest => exact .of_next h.requestDrain e
  | drainEnd => exact .of_next h.drainEnd e
  | drainJournalFallback => exact .of_next h.drainFallback e
  | lockAcquire => exact .of_next h.lockAcquire e
  | lockRelease => exact .of_next h.releaseLock e
  | lockClearOrphaned => exact .of_next h.clearOrphan e
  | lockResetNotice => exact .of_next h.resetNotice e
  | lockHoldWarn => exact .of_next h.lockHoldWarn e
  | squareInit => exact .of_next h.squareInit e
  | flashRead => exact .of_next h.flashEntry e
  | flashProgram => exact .of_next h.flashEntry e
  | flashErase => exact .of_next h.flashEntry e
  | flashMread => exact .of_next h.flashEntry e
  | flashOperationEnd => exact .of_next h.flashOpEnd e
  | flashDieTimeout => exact .of_next h.dieTimeout e
  | eraseSuspend => exact .of_next h.suspendErase e
  | eraseResume => exact .of_next h.resumeErase e
  | patrolRead => exact .of_next h.patrolRead e
  | vflashBandChange => exact .of_next h.bandChange e
  | reserveErase => exact .of_next h.reserveErase e
  | regionDefine => exact .of_next h.regionDefine e
  | regionDelete => exact .of_next h.regionDelete e
  | reshapeStart => exact .of_next h.reshapeStart e
  | elementDeclare => exact .of_next h.elementDeclare e
  | elementReinstate => exact .of_next h.elementReinstate e
  | rowWrite => exact .of_next h.rowWrite e
  | reconstruct => exact .of_next h.reconstruct e
  | rebuildStep => exact .of_next h.rebuildStep e
  | resyncStep => exact .of_next h.resyncStep e
  | reshapeStep => exact .of_next h.reshapeStep e
  | reshapeCheckpoint => exact .of_next h.reshapeCheckpoint e
  | reshapeEnd => exact .of_next h.reshapeEnd e
  | resyncCheckpoint => exact .of_next h.resyncCheckpoint e
  | portEvent => exact .of_next h.portEventStart e
  | linkUp => exact .of_next h.linkUp e
  | perstRelease => exact .of_next h.perstRelease e
  | linkL12Entry => exact .of_next h.linkL12 e
  | functionLevelReset => exact .of_next h.resetWithVfs e
  | functionConfigApply => exact .of_next h.functionConfigApply e
  | tlpReceive => exact .of_next h.tlpReceive e
  | pciConfigWrite => exact .of_next h.pciConfigWrite e
  | setupWindowOpen => exact .of_next h.tryOpenWindow e
  | nvmeMiRead => exact .of_next h.nvmeMiRead e
  | submissionQueueDoorbell => exact .of_next h.sqDoorbell e
  | completionQueueDoorbell => exact .of_next h.cqDoorbell e
  | controllerEnable => exact .of_next h.controllerEnable e
  | controllerReset => exact .of_next (.ite h.resetCtl h) e
  | controllerShutdown => exact .of_next h.controllerShutdown e
  | commandFetch => exact .of_next h.commandFetch e
  | completionPost => exact .of_next h.completionPost e
  | flush => exact .of_next h.nvmFlush e
  | write => exact .of_next h.nvmWrite e
  | read => exact .of_next h.nvmRead e
  | writeZeroes => exact .of_next h.nvmWriteZeroes e
  | datasetManagement => exact .of_next h.nvmDsm e
  | verify => exact .of_next h.nvmRead e
  | reservationRegister => exact .of_next h.resvRegister e
  | reservationReport => exact .of_next h.resvReport e
  | reservationAcquire => exact .of_next h.resvAcquire e
  | reservationRelease => exact .of_next h.resvRelease e
  | deleteIoSubmissionQueue => exact .of_next h.deleteSq e
  | createIoSubmissionQueue => exact .of_next h.createSq e
  | deleteIoCompletionQueue => exact .of_next h.deleteCq e
  | createIoCompletionQueue => exact .of_next h.createCq e
  | getLogPage => exact .of_next h.getLogPage e
  | identify => exact .of_next h.identify e
  | abort => exact .of_next h.abortCmd e
  | setFeatures => exact .of_next h.setFeatures e
  | getFeatures => exact .of_next h.getFeatures e
  | asynchronousEventRequest => exact .of_next h.asyncRequest e
  | firmwareImageDownload => exact .of_next h.imageDownload e
  | firmwareCommit => exact .of_next h.firmwareCommit e
  | activationSwitch => exact .of_next h.activationSwitch e
  | activationAbortTimeout => exact .of_next h.activationAbort e
  | formatNvm => exact .of_next h.formatNvm e
  | securitySend => exact .of_next h.securitySend e
  | securityReceive => exact .of_next h.securityReceive e
  | sanitize => exact .of_next h.sanitize e
  | namespaceCreate => exact .of_next h.namespaceCreate e
  | namespaceDelete => exact .of_next h.namespaceDelete e
  | namespaceAttachDetach => exact .of_next h.namespaceAttach e
  | setControllerWeight => exact .of_next h.setControllerWeight e
  | drainMergeExpiry => exact .of_next h.mergeEnd e
  | porstFall => exact .of_next h.porstFall e
  | porstCommitCut => exact .of_next h.porstCommitCut e
  | porstHoldExpiry => exact .of_next h.porstHold e
  | arcadeContextOpen => exact .of_next h.contextOpen e
  | arcadeContextClose => exact .of_next h.contextClose e
  | objectGet => exact .of_next h.arcService e
  | objectPut => exact .of_next h.arcService e
  | objectDelete => exact .of_next h.arcService e
  | objectList => exact .of_next h.arcService e
  | encode => exact .of_next h.arcService e
  | digest => exact .of_next h.arcService e
  | arcadeVerify => exact .of_next h.arcService e
  | arcadeContextGrant => exact .of_next h.contextGrant e
  | arcadeBarrierRelease => exact .of_next h.barrierRelease e
  | arcadeStep => exact .of_next h.arcadeStep e
  | arcadeChannelRequest => exact .of_next h.channelRequest e
  | entropyHealthFail => exact .of_next h.entropyFail e
  | entropyHealthRecover => exact .of_next h.putb e
  | getVersion => exact .of_next h.getVersion e
  | getCapabilities => exact .of_next h.getCapabilities e
  | negotiateAlgorithms => exact .of_next h.negotiateAlgorithms e
  | getDigests => exact .of_next h.getDigests e
  | getCertificate => exact .of_next h.getCertificate e
  | challenge => exact .of_next h.challenge e
  | getMeasurements => exact .of_next h.getMeasurements e
  | keyExchange => exact .of_next h.keyExchange e
  | finish => exact .of_next h.finishSession e
  | endSession => exact .of_next (h.inSession fun h => h.endSession.spdm) e
  | heartbeat => exact .of_next (h.inSession fun h => h.spdm) e
  | keyUpdate => exact .of_next (h.inSession fun h => h.modSession.spdm) e
  | getEncapsulatedRequest => exact .of_next h.getEncapsulated e
  | deliverEncapsulatedResponse => exact .of_next h.deliverEncapsulated e
  | getCsr => exact .of_next h.getCsr e
  | setCertificate => exact .of_next h.setCertificate e
  | credentialSet => exact .of_next h.credentialSet e
  | credentialUnlock => exact .of_next h.credentialUnlock e
  | credentialChange => exact .of_next h.credentialChange e
  | sessionHeartbeatExpiry => exact .of_next h.heartbeatExpiry e
  | ownerClaim => exact .of_next h.ownerClaim e
  | ownerRootUpdate => exact .of_next h.ownerRootUpdate e
  | tenancyCreate => exact .of_next h.tenancyCreate e
  | tenancyDelete => exact .of_next h.tenancyDelete e
  | controllerBind => exact .of_next h.controllerBind e
  | tenancyCryptoErase => exact .of_next h.tenancyErase e
  | antiRollbackAdvance => exact .of_next h.rollbackAdvance e
  | debugUnlock => exact .of_next h.debugUnlock e
  | dmaTailWrite => exact .of_next h.dmaTailWrite e
  | dmaCopy => exact .of_next h.dmaCopy e
  | dmaFill => exact .of_next h.dmaFill e
  | dmaFlash => exact .of_next h.dmaFlash e
  | dmaLockAcquire => exact .of_next h.dmaLockAcquire e
  | dmaLockRelease => exact .of_next h.dmaLockRelease e
  | dmaLockRetry => exact .of_next h.dmaLockRetry e
  | dmaWriteBack => exact .of_next h.dmaWriteBack e
  | dmaResume => exact .of_next h.dmaResume e
  | dmaSkip => exact .of_next h.dmaSkip e
  | dmaChannelReset => exact .of_next h.dmaChannelReset e
  | dmaChannelDisable => exact .of_next h.dmaChannelDisable e
  | dmaChannelStop => exact .of_next h.dmaChannelStop e
  | dramScrubRead => exact .of_next h.dramScrubRead e
  | sramScrubRead => exact .of_next h.sramScrubRead e
  | mediaScrub => exact .of_next h.mediaScrub e
  | l1WayChange => exact .of_next h.l1WayChange e
  | lfsrLoad => exact .of_next h.lfsrLoad e
  | l1MissFill => exact .of_next h.l1MissFill e
  | jtagBypass => exact .of_next h.loadIr e
  | jtagIdcode => exact .of_next h.jtagIdcode e
  | jtagSamplePreload => exact .of_next h.jtagSample e
  | jtagExtest => exact .of_next h.loadIr e
  | jtagClamp => exact .of_next h.loadIr e
  | jtagHighz => exact .of_next h.loadIr e
  | eventArrival => exact .of_next h.eventArrival e
  | chipResetTimeout => exact .of_next h.chipResetTimeout e
  | quietPeriodExpiry => exact .of_next h.quietExpiry e
  | rcntDecayExpiry => exact .of_next h.rcntDecay e
  | sourceRearm => exact .of_next h.sourceRearm e
  | blockResetRequest => exact .of_next h.blockResetRequest e
  | blockResetDrainEnd => exact .of_next h.finishReset e
  | blockResetDrainForced => exact .of_next h.drainForced e
  | nmiReturn => exact .of_next h.nmiReturn e
  | faultPinRelease => exact .of_next h.putb e
  | faultInject => exact .of_next h.faultInject e
  | mirrorPage => exact .of_next h.mirrorPage e
  | mirrorOverdue => exact .of_next h.raiseIf e
  | recordCursorLoad => exact .of_next h.recordCursorLoad e
  | foundingCursorLoad => exact .of_next h.foundingCursorLoad e
  | recordClear => exact .of_next h.recordClear e
  | foundingClear => exact .of_next h.foundingClear e
  | waitEnterReport => exact .of_next h.waitEnter e
  | waitExitReport => exact .of_next h.waitExit e
  | standbyEntry => exact .of_next h.standbyEntry e
  | sleepEntry => exact .of_next h.sleepEntry e
  | sleepExit => exact .of_next h.sleepExit e
  | deepStandbyEntry => exact .of_next h.deepStandbyEntry e
  | deepStandbyWake => exact .of_next h.deepStandbyWake e
  | wakeSupplyTimeout => exact .of_next (.ite h.update h) e
  | porstRelease => exact .of_next h.porstRelease e
  | dataServiceReady => exact .of_next h.dataServiceReady e
  | startStepLimit => exact .of_next h.startStepLimit e
  | supplyMonitorSample => exact .of_next h.supplySample e
  | pgoodFall => exact .of_next h.pgoodFall e
  | pgoodLossExpiry => exact .of_next h.pgoodLoss e
  | powerLossSignal => exact .of_next h.powerLossSignal e
  | commitRecord => exact .of_next h.commitRecord e
  | powerLossWithdraw => exact .of_next h.powerLossWithdraw e
  | cleanStopRecord => exact .of_next (.ite h.cleanStop h) e
  | openMarker => exact .of_next (.ite h.stopRecord h) e
  | preampFaultClear => exact .of_next h.modAv e

/-- Settles O5: an idle cycle and every instruction keep the bound; a job enters the queue in `retryJobSubmit` and in a
refill alone, and both look at its length first. -/
theorem everyStepKeepsRetryQueueBound : Obligations.EveryStepKeepsRetryQueueBound := by
  intro s t h e
  unfold step at e
  split at e
  · exact h.idle.of_next e
  · exact exec_retryBounded h.update e

end Sys2Proof.Machine
end

section
/-! SUPPORT. The retry ladder and the sectors' outcomes (spec 04, 4.4 to 4.8): ladders replaced, recorded and ended, pins, the
decoders' jobs, classes, and what each of these leaves alone. -/

namespace Sys2Proof.Machine

/-! ### One Avenue, some fields and the retry decoders changed -/

namespace AvenueFrame

variable {n : Fin 4} {fs : List Fld} {ps : List Part} {s t : State}

theorem bump (h : AvenueFrame n fs ps s t) {f : Fld} (hf : f ∈ fs) (hr : .regs ∈ ps) (k : Nat) :
    AvenueFrame n fs ps s (t.bump f k) := h.put hf hr _

theorem setRdec (h : AvenueFrame n fs ps s t) (hr : .rdec ∈ ps) (r : RetryDecoders) :
    AvenueFrame n fs ps s { t with rdec := r } := by
  have hu : Untouched [.rdec] t { t with rdec := r } := by
    intro p hp
    cases p <;> simp_all [Part.same]
  exact ⟨h.1.of_av_eq rfl, h.2.1.of_regs_eq rfl, h.2.2.step hu (by simpa using hr)⟩

end AvenueFrame

/-! ### One event raised -/

section Raised

variable {src d : Nat} {s t : State}

theorem Raised1.mem (h : Raised1 src d s t) : ⟨src, s.time, d, false⟩ ∈ t.flt.inbox := by
  rw [h]
  exact List.mem_append_right _ (List.mem_singleton.2 rfl)

theorem Raised1.modAv (h : Raised1 src d s t) (n : Fin 4) (f : Avenue → Avenue) : Raised1 src d s (t.modAv n f) :=
  (State.modAv_flt ..).trans h

end Raised

/-! ### The retry decoders (R122) -/

theorem RetryDecoders.refill_of_held_nil {r : RetryDecoders} (h : r.held = []) : r.refill = r := by
  unfold RetryDecoders.refill
  rw [h]
  rfl

/-- A held job that enters the queue leaves the running jobs as they are. -/
theorem RetryDecoders.refill_run0 (r : RetryDecoders) : r.refill.run0 = r.run0 := by
  unfold RetryDecoders.refill
  refine List.foldlRecOn (motive := fun a : RetryDecoders => a.run0 = r.run0) r.held _ rfl fun a ha j _ => ?_
  split
  · exact ha
  · exact ha

/-! ### Ladders replaced and recorded (R126, R135) -/

section Ladders

variable {s : State} {n : Fin 4} {l : Ladder} {id : Nat}

@[simp] theorem State.avn_bump (s : State) (f : Fld) (k : Nat) (n : Fin 4) : (s.bump f k).avn n = s.avn n := State.avn_put ..

theorem State.ladder_id (h : s.ladder n id = some l) : l.id = id := by simpa using List.find?_some h

@[simp] theorem State.avn_setLadder (s : State) (n : Fin 4) (l : Ladder) : (s.setLadder n l).avn n =
    { s.avn n with ladders := (s.avn n).ladders.map (fun k => if k.id = l.id then l else k) } := State.avn_modAv_self ..

@[simp] theorem avn_recordLadder (n : Fin 4) (l : Ladder) (e : Option LadderEnd) (s : State) : (recordLadder n l e s).avn n =
    { s.avn n with ladderRecs :=
        (s.avn n).ladderRecs.filter (fun r => r.addr != l.sec.addr) ++ [⟨l.sec.addr, l.level, l.step, l.rereads, e⟩] } :=
  State.avn_modAv_self ..

@[simp] theorem State.get_setLadder (s : State) (n : Fin 4) (l : Ladder) (f : Fld) : (s.setLadder n l).get f = s.get f :=
  State.get_modAv ..

@[simp] theorem get_recordLadder (n : Fin 4) (l : Ladder) (e : Option LadderEnd) (s : State) (f : Fld) :
    (recordLadder n l e s).get f = s.get f := State.get_modAv ..

end Ladders

theorem AvenueFrame.setLadder {n : Fin 4} {fs : List Fld} {ps : List Part} {s t : State} (h : AvenueFrame n fs ps s t)
    (ha : .av ∈ ps) (l : Ladder) : AvenueFrame n fs ps s (t.setLadder n l) := h.modAv ha _

theorem AvenueFrame.recordLadder {n : Fin 4} {fs : List Fld} {ps : List Part} {s t : State} (h : AvenueFrame n fs ps s t)
    (ha : .av ∈ ps) (l : Ladder) (e : Option LadderEnd) : AvenueFrame n fs ps s (Machine.recordLadder n l e t) := h.modAv ha _

/-! ### A ladder removed (R124, R126, R134 to R136) -/

/-- The state with ladder `l` removed: its pin released and its job withdrawn. -/
def State.withoutLadder (s : State) (n : Fin 4) (l : Ladder) : State :=
  let s1 := (unpin n l s).modAv n (fun a => { a with ladders := a.ladders.filter (fun k => k.id != l.id) })
  { s1 with rdec := RetryDecoders.refill { s1.rdec with
    queue := s1.rdec.queue.filter (fun j => !(j.av == n && j.lad == l.id)),
    held := s1.rdec.held.filter (fun j => !(j.av == n && j.lad == l.id)) } }

theorem endLadder_eq (n : Fin 4) (l : Ladder) (e : LadderEnd) (s : State) : endLadder n l e s =
    classify n l.sec (ladderClass l.rereads e) (endEvents n e (recordLadder n l (some e) (s.withoutLadder n l))) := rfl

theorem unpin_of_unpinned {l : Ladder} (h : l.pinned = false) (n : Fin 4) (s : State) : unpin n l s = s := by
  simp [unpin, h]

@[simp] theorem avn_unpin (n : Fin 4) (l : Ladder) (s : State) (m : Fin 4) : (unpin n l s).avn m = s.avn m := by
  unfold unpin
  split
  · exact State.avn_put ..
  · rfl

theorem AvenueFrame.unpin {n : Fin 4} {fs : List Fld} {ps : List Part} {s t : State} (h : AvenueFrame n fs ps s t)
    (hf : AV_STORESTAT_PINNED n ∈ fs) (hr : .regs ∈ ps) (l : Ladder) : AvenueFrame n fs ps s (Machine.unpin n l t) := by
  unfold Machine.unpin
  split
  · exact h.put hf hr _
  · exact h

theorem unpin_rdec (n : Fin 4) (l : Ladder) (s : State) : (unpin n l s).rdec = s.rdec := by
  unfold unpin
  split
  · exact State.put_rdec ..
  · rfl

/-- A ladder's removal withdraws no job that runs. -/
theorem withoutLadder_run0 (s : State) (n : Fin 4) (l : Ladder) : (s.withoutLadder n l).rdec.run0 = s.rdec.run0 := by
  rw [← unpin_rdec n l s]
  exact RetryDecoders.refill_run0 _

@[simp] theorem State.avn_withoutLadder (s : State) (n : Fin 4) (l : Ladder) : (s.withoutLadder n l).avn n =
    { s.avn n with ladders := (s.avn n).ladders.filter (fun k => k.id != l.id) } := by
  have h : (s.withoutLadder n l).av = ((unpin n l s).modAv n fun a =>
    { a with ladders := a.ladders.filter (fun k => k.id != l.id) }).av := rfl
  rw [avn_of_av_eq h, State.avn_modAv_self, avn_unpin]

theorem AvenueFrame.withoutLadder {n : Fin 4} {fs : List Fld} {ps : List Part} {s t : State} (h : AvenueFrame n fs ps s t)
    (hf : AV_STORESTAT_PINNED n ∈ fs) (hr : .regs ∈ ps) (ha : .av ∈ ps) (hd : .rdec ∈ ps) (l : Ladder) :
    AvenueFrame n fs ps s (t.withoutLadder n l) := ((h.unpin hf hr l).modAv ha _).setRdec hd _

/-- Without a pin to release no field changes. -/
theorem withoutLadder_frame_of_unpinned {l : Ladder} (h : l.pinned = false) (n : Fin 4) (s : State) :
    AvenueFrame n [] [.av, .rdec] s (s.withoutLadder n l) := by
  unfold State.withoutLadder
  rw [unpin_of_unpinned h]
  exact ((AvenueFrame.refl n [] _ s).modAv (by simp) _).setRdec (by simp) _

/-! ### Classes (R136) -/

theorem unscheduled_of_host {sec : SectorRead} (h : sec.ctx.host = true) (n : Fin 4) (s : State) : unscheduled n sec s = s :=
  if_pos h

theorem classify_transient {sec : SectorRead} (h : sec.ctx.host = true) (n : Fin 4) (s : State) :
    classify n sec (some .transient) s = (s.bump (AV_LADCNT0_TRANS n)).raise (avSrc n 49) := unscheduled_of_host h ..

theorem classify_lastingRecovered {sec : SectorRead} (h : sec.ctx.host = true) (n : Fin 4) (s : State) :
    classify n sec (some .lastingRecovered) s = ((s.bump (AV_LADCNT1_LASTING n)).raise (avSrc n 50)).modAv n
      (fun a => { a with relocate := withOne a.relocate sec.addr }) := by
  unfold classify
  dsimp only
  rw [unscheduled_of_host h]

theorem mem_withOne {α : Type} [DecidableEq α] (xs : List α) (x : α) : x ∈ withOne xs x := by
  unfold withOne
  split
  · assumption
  · simp

/-! ### Levels (R126, R127) -/

/-- The ceiling reads AVn_LADCTL alone. -/
theorem ceiling_of_frame {n : Fin 4} {ps : List Part} {s t : State}
    (h : AvenueFrame n [AV_LADCNT0_OTFFAIL n, AV_STORESTAT_PINNED n] ps s t) (c : ReadCtx) : t.ceiling n c = s.ceiling n c := by
  have hget (lo wid : Nat) : t.get ⟨AV_LADCTL n, lo, wid⟩ = s.get ⟨AV_LADCTL n, lo, wid⟩ := by
    refine h.get fun f hf => .inl ?_
    obtain rfl | rfl : f = AV_LADCNT0_OTFFAIL n ∨ f = AV_STORESTAT_PINNED n := by simpa using hf
    · exact avOffset_ne n (by decide)
    · exact avOffset_ne n (by decide)
  unfold State.ceiling AV_LADCTL_ICEIL AV_LADCTL_UCEIL AV_LADCTL_NCEIL AV_LADCTL_LRCEIL
  simp only [hget]

/-- A pinned sector whose ceiling is not 0 is decoded again first. -/
theorem nextStep_one_of_pinned {s : State} {n : Fin 4} {l : Ladder} (hp : l.pinned = true) (hc : 1 ≤ s.ceiling n l.sec.ctx) :
    s.nextStep n l 1 0 = some (1, 0) :=
  List.find?_cons_of_pos (by simp [hc, State.ladderSteps, hp])

/-- A ladder that is not aborted waits for its next step. -/
theorem advanceLadder_waits {s : State} {n : Fin 4} {l : Ladder} {lvl step v k : Nat} (ha : l.aborted = false)
    (hn : s.nextStep n l lvl step = some (v, k)) : advanceLadder n l lvl step s =
      recordLadder n { l with level := v, step := k, phase := .waiting } none
        (s.setLadder n { l with level := v, step := k, phase := .waiting }) := by
  unfold advanceLadder
  rw [if_neg (ne_true_of_eq_false ha), hn]

/-! ### A ladder starts (R124, R126) -/

/-- The ladder of a sector that failed on the fly. -/
def firstLadder (id : Nat) (sec : SectorRead) (pin : Bool) : Ladder :=
  { id := id, sec := sec, level := 0, step := 0, rereads := 0, pinned := pin, allMarks := sec.marks, phase := .waiting,
    aborted := false }

/-- The state with a ladder added. -/
def State.withLadder (s : State) (n : Fin 4) (l : Ladder) : State :=
  s.modAv n (fun a => { a with ladders := a.ladders ++ [l], nextLadder := a.nextLadder + 1 })

@[simp] theorem avn_withLadder (s : State) (n : Fin 4) (l : Ladder) : (s.withLadder n l).avn n =
    { s.avn n with ladders := (s.avn n).ladders ++ [l], nextLadder := (s.avn n).nextLadder + 1 } := State.avn_modAv_self ..

@[simp] theorem State.get_withLadder (s : State) (n : Fin 4) (l : Ladder) (f : Fld) : (s.withLadder n l).get f = s.get f :=
  State.get_modAv ..

theorem AvenueFrame.withLadder {n : Fin 4} {fs : List Fld} {ps : List Part} {s t : State} (h : AvenueFrame n fs ps s t)
    (ha : .av ∈ ps) (l : Ladder) : AvenueFrame n fs ps s (t.withLadder n l) := h.modAv ha _

/-- What a new ladder finds of pins: one is taken while one is free. -/
def State.takePin (s : State) (n : Fin 4) : State :=
  if s.get (AV_STORESTAT_PINNED n) < s.get (AV_LADLIM_PINMAX n) then
    s.put (AV_STORESTAT_PINNED n) (s.get (AV_STORESTAT_PINNED n) + 1)
  else if 0 < s.get (AV_LADLIM_PINMAX n) then (s.bump (AV_STORESTAT_PINFULL n)).raise (avSrc n 54)
  else s

theorem startLadder_eq (n : Fin 4) (sec : SectorRead) (s : State) : startLadder n sec s =
    let s1 := s.bump (AV_LADCNT0_OTFFAIL n)
    let l := firstLadder ((s1.takePin n).avn n).nextLadder sec
      (decide (s1.get (AV_STORESTAT_PINNED n) < s1.get (AV_LADLIM_PINMAX n)))
    advanceLadder n l 1 0 (((s1.takePin n).withLadder n l).raise (avSrc n 48)) := by
  unfold startLadder State.takePin
  simp only [decide_eq_true_eq]
  rfl

/-- The state whose new ladder has taken a pin: counted, and not yet advanced to L1. -/
def State.pinnedLadder (s : State) (n : Fin 4) (sec : SectorRead) : State :=
  (((s.bump (AV_LADCNT0_OTFFAIL n)).put (AV_STORESTAT_PINNED n) (s.get (AV_STORESTAT_PINNED n) + 1)).withLadder n
    (firstLadder (s.avn n).nextLadder sec true)).raise (avSrc n 48)

theorem avn_pinnedLadder (s : State) (n : Fin 4) (sec : SectorRead) : (s.pinnedLadder n sec).avn n =
    { s.avn n with ladders := (s.avn n).ladders ++ [firstLadder (s.avn n).nextLadder sec true],
                   nextLadder := (s.avn n).nextLadder + 1 } := by
  rw [State.pinnedLadder, State.avn_raise, avn_withLadder, State.avn_put, State.avn_bump]

/-- A ladder that finds a pin free waits at L1. -/
theorem startLadder_pinned {s : State} {n : Fin 4} {sec : SectorRead} (hc : 1 ≤ s.ceiling n sec.ctx)
    (hp : s.get (AV_STORESTAT_PINNED n) < s.get (AV_LADLIM_PINMAX n)) : startLadder n sec s =
      recordLadder n { firstLadder (s.avn n).nextLadder sec true with level := 1 } none ((s.pinnedLadder n sec).setLadder n
        { firstLadder (s.avn n).nextLadder sec true with level := 1 }) := by
  have hpins : (s.bump (AV_LADCNT0_OTFFAIL n)).get (AV_STORESTAT_PINNED n) = s.get (AV_STORESTAT_PINNED n) :=
    bump_get_elsewhere _ (avOffset_ne n (by decide))
  have hmax : (s.bump (AV_LADCNT0_OTFFAIL n)).get (AV_LADLIM_PINMAX n) = s.get (AV_LADLIM_PINMAX n) :=
    bump_get_elsewhere _ (avOffset_ne n (by decide))
  have hpin : (s.bump (AV_LADCNT0_OTFFAIL n)).takePin n =
      (s.bump (AV_LADCNT0_OTFFAIL n)).put (AV_STORESTAT_PINNED n) (s.get (AV_STORESTAT_PINNED n) + 1) := by
    rw [State.takePin, hpins, hmax, if_pos hp]
  have hframe : AvenueFrame n [AV_LADCNT0_OTFFAIL n, AV_STORESTAT_PINNED n] [.regs, .av, .flt] s (s.pinnedLadder n sec) :=
    ((((AvenueFrame.refl n _ _ s).bump (by simp) (by simp) 1).put (by simp) (by simp) _).withLadder (by simp) _).raise
      (by simp) _ 0
  rw [startLadder_eq]
  dsimp only
  rw [hpin, hpins, hmax, decide_eq_true hp, State.avn_put, State.avn_bump]
  exact advanceLadder_waits rfl (nextStep_one_of_pinned rfl ((ceiling_of_frame hframe _).symm ▸ hc))

/-- What the start of a pinned ladder leaves: the failure and the pin counted, source 48 raised, and the ladder waiting. -/
theorem startLadder_pinned_spec {s : State} {n : Fin 4} {sec : SectorRead} (hc : 1 ≤ s.ceiling n sec.ctx)
    (hp : s.get (AV_STORESTAT_PINNED n) < s.get (AV_LADLIM_PINMAX n)) :
    (startLadder n sec s).get (AV_LADCNT0_OTFFAIL n) =
        min (2 ^ (AV_LADCNT0_OTFFAIL n).wid - 1) (s.get (AV_LADCNT0_OTFFAIL n) + 1) ∧
      (startLadder n sec s).get (AV_STORESTAT_PINNED n) = s.get (AV_STORESTAT_PINNED n) + 1 ∧
      { firstLadder (s.avn n).nextLadder sec true with level := 1 } ∈ ((startLadder n sec s).avn n).ladders ∧
      ((startLadder n sec s).avn n).delivered = (s.avn n).delivered ∧ Raised1 (avSrc n 48) 0 s (startLadder n sec s) ∧
      AvenueFrame n [AV_LADCNT0_OTFFAIL n, AV_STORESTAT_PINNED n] [.regs, .av, .flt] s (startLadder n sec s) := by
  have hlt : s.get (AV_STORESTAT_PINNED n) + 1 < 2 ^ (AV_STORESTAT_PINNED n).wid := by
    have hmax : s.get (AV_LADLIM_PINMAX n) < 2 ^ 5 := s.get_lt _
    change _ < 2 ^ 6
    omega
  have hmoved : AvenueFrame n [AV_LADCNT0_OTFFAIL n, AV_STORESTAT_PINNED n] [.regs, .av] s
      (((s.bump (AV_LADCNT0_OTFFAIL n)).put (AV_STORESTAT_PINNED n) (s.get (AV_STORESTAT_PINNED n) + 1)).withLadder n
        (firstLadder (s.avn n).nextLadder sec true)) :=
    (((AvenueFrame.refl n _ _ s).bump (by simp) (by simp) 1).put (by simp) (by simp) _).withLadder (by simp) _
  have hraised : Raised1 (avSrc n 48) 0 s (s.pinnedLadder n sec) := raised1_of_untouched hmoved.2.2 (by simp) (by simp) _ _
  have hregs (f : Fld) : (startLadder n sec s).get f =
      ((s.bump (AV_LADCNT0_OTFFAIL n)).put (AV_STORESTAT_PINNED n) (s.get (AV_STORESTAT_PINNED n) + 1)).get f := by
    rw [startLadder_pinned hc hp, get_recordLadder, State.get_setLadder, State.pinnedLadder, State.get_raise,
      State.get_withLadder]
  refine ⟨?_, ?_, ?_, ?_, ?_, ?_⟩
  · rw [hregs, State.get_put_elsewhere _ _ _ _ (.inl (avOffset_ne n (by decide))), bump_get _ _ (Nat.le_of_ble_eq_true rfl)]
  · rw [hregs, State.get_put_of_lt _ (Nat.le_of_ble_eq_true rfl) hlt]
  · rw [startLadder_pinned hc hp, avn_recordLadder, State.avn_setLadder, avn_pinnedLadder]
    exact List.mem_map.2 ⟨_, List.mem_append_right _ (List.mem_singleton.2 rfl), if_pos rfl⟩
  · rw [startLadder_pinned hc hp, avn_recordLadder, State.avn_setLadder, avn_pinnedLadder]
  · rw [startLadder_pinned hc hp]
    exact (hraised.modAv n _).modAv n _
  · rw [startLadder_pinned hc hp]
    exact (((hmoved.mono (List.Subset.refl _) (by simp)).raise (by simp) _ 0).setLadder (by simp) _).recordLadder (by simp) _ _

/-! ### What a ladder's start and end leave alone -/

/-- The register fields that a ladder's start or end writes. -/
def ladderFlds (n : Fin 4) : List Fld := [AV_STORESTAT_PINNED n, AV_STORESTAT_PINFULL n, AV_LADCNT0_OTFFAIL n, AV_LADCNT0_TRANS n,
  AV_LADCNT1_LASTING n, AV_LADCNT1_FAILED n, AV_LADCNT1_TLIMIT n]

/-- The ladders of one Avenue move: its decoder and its sequencer are as they were, and no event is lost. -/
structure LadderMoves (n : Fin 4) (s t : State) : Prop where
  frame : AvenueFrame n (ladderFlds n) [.regs, .av, .flt, .rdec] s t
  decoding : (t.avn n).decoding = (s.avn n).decoding
  seq : (t.avn n).seq = (s.avn n).seq
  inbox : s.flt.inbox ⊆ t.flt.inbox

/-- No field of a ladder is the count of overruns. -/
theorem ladderFlds_apart_overrun (n : Fin 4) : ∀ f ∈ ladderFlds n, f.apart (AV_DECCNT_OVERRUN n) := by
  intro f hf
  simp only [ladderFlds, List.mem_cons, List.not_mem_nil, or_false] at hf
  rcases hf with rfl | rfl | rfl | rfl | rfl | rfl | rfl <;> exact .inl (avOffset_ne n (by decide))

namespace LadderMoves

variable {n : Fin 4} {s t : State}

theorem refl (n : Fin 4) (s : State) : LadderMoves n s s := ⟨.refl .., rfl, rfl, List.Subset.refl _⟩

theorem put (h : LadderMoves n s t) {f : Fld} (hf : f ∈ ladderFlds n) (v : Nat) : LadderMoves n s (t.put f v) :=
  ⟨h.frame.put hf (by simp) v, by rw [State.avn_put, h.decoding], by rw [State.avn_put, h.seq], h.inbox⟩

theorem bump (h : LadderMoves n s t) {f : Fld} (hf : f ∈ ladderFlds n) (k : Nat) : LadderMoves n s (t.bump f k) := h.put hf _

theorem raise (h : LadderMoves n s t) (src d : Nat) : LadderMoves n s (t.raise src d) :=
  ⟨h.frame.raise (by simp) src d, h.decoding, h.seq, List.subset_append_of_subset_left _ h.inbox⟩

theorem modAv (h : LadderMoves n s t) {f : Avenue → Avenue} (hd : ∀ a, (f a).decoding = a.decoding)
    (hq : ∀ a, (f a).seq = a.seq) : LadderMoves n s (t.modAv n f) :=
  ⟨h.frame.modAv (by simp) f, by rw [State.avn_modAv_self, hd, h.decoding], by rw [State.avn_modAv_self, hq, h.seq], h.inbox⟩

theorem setRdec (h : LadderMoves n s t) (r : RetryDecoders) : LadderMoves n s { t with rdec := r } :=
  ⟨h.frame.setRdec (by simp) r, h.decoding, h.seq, h.inbox⟩

theorem setLadder (h : LadderMoves n s t) (l : Ladder) : LadderMoves n s (t.setLadder n l) :=
  h.modAv (fun _ => rfl) fun _ => rfl

theorem recordLadder (h : LadderMoves n s t) (l : Ladder) (e : Option LadderEnd) :
    LadderMoves n s (Machine.recordLadder n l e t) := h.modAv (fun _ => rfl) fun _ => rfl

theorem unpin (h : LadderMoves n s t) (l : Ladder) : LadderMoves n s (Machine.unpin n l t) := by
  unfold Machine.unpin
  split
  · exact h.put (by simp [ladderFlds]) _
  · exact h

theorem withoutLadder (h : LadderMoves n s t) (l : Ladder) : LadderMoves n s (t.withoutLadder n l) :=
  ((h.unpin l).modAv (f := fun a => { a with ladders := a.ladders.filter (fun k => k.id != l.id) }) (fun _ => rfl)
    fun _ => rfl).setRdec _

theorem unscheduled (h : LadderMoves n s t) (sec : SectorRead) : LadderMoves n s (Machine.unscheduled n sec t) := by
  unfold Machine.unscheduled
  split
  · exact h
  · exact h.modAv (fun _ => rfl) fun _ => rfl

theorem classify (h : LadderMoves n s t) (sec : SectorRead) (c : Option SectorClass) :
    LadderMoves n s (Machine.classify n sec c t) := by
  have htrans : LadderMoves n s ((t.bump (AV_LADCNT0_TRANS n)).raise (avSrc n 49)) := (h.bump (by simp [ladderFlds]) 1).raise _ 0
  have hlasting : LadderMoves n s (Machine.unscheduled n sec ((t.bump (AV_LADCNT1_LASTING n)).raise (avSrc n 50))) :=
    ((h.bump (by simp [ladderFlds]) 1).raise _ 0).unscheduled sec
  unfold Machine.classify
  split
  · exact h.unscheduled sec
  · exact htrans.unscheduled sec
  · dsimp only
    split
    · exact htrans.unscheduled sec
    · exact htrans.modAv (fun _ => rfl) fun _ => rfl
  · exact hlasting.modAv (fun _ => rfl) fun _ => rfl
  · exact hlasting.modAv (fun _ => rfl) fun _ => rfl

theorem endEvents (h : LadderMoves n s t) (e : LadderEnd) : LadderMoves n s (Machine.endEvents n e t) := by
  unfold Machine.endEvents
  split
  · exact (h.bump (by simp [ladderFlds]) 1).raise _ 0
  · exact (h.bump (by simp [ladderFlds]) 1).raise _ 0
  · exact h

theorem endLadder (h : LadderMoves n s t) (l : Ladder) (e : LadderEnd) : LadderMoves n s (Machine.endLadder n l e t) := by
  rw [endLadder_eq]
  exact (((h.withoutLadder l).recordLadder l _).endEvents e).classify _ _

theorem advanceLadder (h : LadderMoves n s t) (l : Ladder) (lvl step : Nat) :
    LadderMoves n s (Machine.advanceLadder n l lvl step t) := by
  unfold Machine.advanceLadder
  split
  · exact h.endLadder l _
  · split
    · exact h.endLadder l _
    · exact (h.setLadder _).recordLadder _ _

theorem takePin (h : LadderMoves n s t) : LadderMoves n s (t.takePin n) := by
  unfold State.takePin
  split
  · exact h.put (by simp [ladderFlds]) _
  · split
    · exact (h.bump (by simp [ladderFlds]) 1).raise _ 0
    · exact h

theorem withLadder (h : LadderMoves n s t) (l : Ladder) : LadderMoves n s (t.withLadder n l) :=
  h.modAv (fun _ => rfl) fun _ => rfl

theorem startLadder (h : LadderMoves n s t) (sec : SectorRead) : LadderMoves n s (Machine.startLadder n sec t) := by
  rw [startLadder_eq]
  have hcount : LadderMoves n s (t.bump (AV_LADCNT0_OTFFAIL n)) := h.bump (by simp [ladderFlds]) 1
  exact ((hcount.takePin.withLadder _).raise _ 0).advanceLadder _ 1 0

end LadderMoves

/-! ### Outcomes of sectors (R172, Table 4-4) -/

/-- The state with an outcome queued for microcode. -/
def State.queueOutcome (s : State) (n : Fin 4) (sec : SectorRead) (o : SectorOutcome) : State :=
  s.modSeq n (fun q => { q with outcomes := q.outcomes ++ [⟨o, sec.laneLost, sec.addr.slot⟩] })

/-- The state with a sector's block delivered. -/
def State.sectorDelivered (s : State) (n : Fin 4) (sec : SectorRead) (block : List Byte) : State :=
  s.modAv n (fun a => { a with delivered := a.delivered ++ [(sec.ctx.handle, sec.addr.slot, block)] })

/-- The state with these sectors left in the on-the-fly decoder. -/
def State.withDecoding (s : State) (n : Fin 4) (rest : List SectorRead) : State :=
  s.modAv n (fun a => { a with decoding := rest })

section Updates

variable {n : Fin 4} {fs : List Fld} {ps : List Part} {s t : State}

@[simp] theorem avn_queueOutcome (s : State) (n : Fin 4) (sec : SectorRead) (o : SectorOutcome) : (s.queueOutcome n sec o).avn n =
    { s.avn n with seq := { (s.avn n).seq with
        outcomes := (s.avn n).seq.outcomes ++ [⟨o, sec.laneLost, sec.addr.slot⟩] } } := (modSeq_only s n _).1

@[simp] theorem avn_sectorDelivered (s : State) (n : Fin 4) (sec : SectorRead) (block : List Byte) :
    (s.sectorDelivered n sec block).avn n =
      { s.avn n with delivered := (s.avn n).delivered ++ [(sec.ctx.handle, sec.addr.slot, block)] } := State.avn_modAv_self ..

@[simp] theorem avn_withDecoding (s : State) (n : Fin 4) (rest : List SectorRead) :
    (s.withDecoding n rest).avn n = { s.avn n with decoding := rest } := State.avn_modAv_self ..

@[simp] theorem get_queueOutcome (s : State) (n : Fin 4) (sec : SectorRead) (o : SectorOutcome) (f : Fld) :
    (s.queueOutcome n sec o).get f = s.get f := State.get_modAv ..

@[simp] theorem get_withDecoding (s : State) (n : Fin 4) (rest : List SectorRead) (f : Fld) :
    (s.withDecoding n rest).get f = s.get f := State.get_modAv ..

theorem AvenueFrame.queueOutcome (h : AvenueFrame n fs ps s t) (ha : .av ∈ ps) (sec : SectorRead) (o : SectorOutcome) :
    AvenueFrame n fs ps s (t.queueOutcome n sec o) := h.modAv ha _

theorem AvenueFrame.sectorDelivered (h : AvenueFrame n fs ps s t) (ha : .av ∈ ps) (sec : SectorRead) (block : List Byte) :
    AvenueFrame n fs ps s (t.sectorDelivered n sec block) := h.modAv ha _

theorem AvenueFrame.withDecoding (h : AvenueFrame n fs ps s t) (ha : .av ∈ ps) (rest : List SectorRead) :
    AvenueFrame n fs ps s (t.withDecoding n rest) := h.modAv ha _

end Updates

theorem sectorOutcome_of_not_converged {d : Decoded} (h : d.converged = false) (a : SectorAddr) (c : ReadCtx) :
    sectorOutcome a c d = .notConverged := by simp [sectorOutcome, h]

/-- A good sector of a host read is queued and delivered. -/
theorem finishSector_good {sec : SectorRead} (hr : sec.ctx.reread = none) (hv : sec.verify = false) (hh : sec.ctx.host = true)
    (n : Fin 4) (block : List Byte) (s : State) :
    finishSector n sec .good block s = (s.queueOutcome n sec .good).sectorDelivered n sec block := by
  unfold finishSector
  simp only [hr, hv, needsLadder, and_self, if_true, Bool.false_eq_true, if_false]
  exact unscheduled_of_host hh ..

/-- A sector read on the fly goes to a ladder by the outcomes of Table 4-4 that start one. -/
theorem finishSector_needsLadder {sec : SectorRead} {o : SectorOutcome} (hr : sec.ctx.reread = none) (ho : needsLadder o = true)
    (n : Fin 4) (block : List Byte) (s : State) :
    finishSector n sec o block s = startLadder n sec ((outcomeEvents n o s).queueOutcome n sec o) := by
  have hgood : ¬(o = .good ∧ sec.verify = false) := by
    rintro ⟨rfl, -⟩
    simp [needsLadder] at ho
  unfold finishSector
  simp only [hr, ho, if_neg hgood, if_true]
  rfl

theorem endOldest_cons {s : State} {n : Fin 4} {sec : SectorRead} {rest : List SectorRead} (h : (s.avn n).decoding = sec :: rest)
    (o : SectorRead → SectorOutcome) (block : SectorRead → List Byte) : endOldest n o block s =
      drainMisses n rest.length (finishSector n sec (o sec) (block sec) (s.withDecoding n rest)) := by
  unfold endOldest
  rw [h]
  rfl

end Sys2Proof.Machine
end

section
/-! CERTIFICATE. The statement O16: the on-the-fly decoder and the retry decoders' jobs. -/

namespace Sys2Proof.Machine

/-! ### The on-the-fly decoder (R119, R120, R172) -/

theorem onTheFlyDecodeEnd_good_spec (s : State) (n : Fin 4) (d : Decoded) (sec : SectorRead) (hdec : (s.avn n).decoding = [sec])
    (hr : sec.ctx.reread = none) (hv : sec.verify = false) (hh : sec.ctx.host = true)
    (ho : sectorOutcome sec.addr sec.ctx d = .good) :
    ∃ t, exec (.onTheFlyDecodeEnd n d) s = .next t ∧ (t.avn n).decoding = [] ∧
      (t.avn n).delivered = (s.avn n).delivered ++ [(sec.ctx.handle, sec.addr.slot, sectorBlock sec.addr d)] ∧
      (t.avn n).seq.outcomes = (s.avn n).seq.outcomes ++ [⟨.good, sec.laneLost, sec.addr.slot⟩] ∧
      (t.avn n).ladders = (s.avn n).ladders ∧ OtherAvenues n s t ∧ Untouched [.av] s t := by
  have heq : onTheFlyDecodeEnd n d s =
      ((s.withDecoding n []).queueOutcome n sec .good).sectorDelivered n sec (sectorBlock sec.addr d) := by
    unfold onTheFlyDecodeEnd
    rw [endOldest_cons hdec, ho, finishSector_good hr hv hh]
    rfl
  have havn : (onTheFlyDecodeEnd n d s).avn n = { s.avn n with
      decoding := []
      delivered := (s.avn n).delivered ++ [(sec.ctx.handle, sec.addr.slot, sectorBlock sec.addr d)]
      seq := { (s.avn n).seq with outcomes := (s.avn n).seq.outcomes ++ [⟨.good, sec.laneLost, sec.addr.slot⟩] } } := by
    rw [heq, avn_sectorDelivered, avn_queueOutcome, avn_withDecoding]
  have hframe : AvenueFrame n [] [.av] s (onTheFlyDecodeEnd n d s) := by
    rw [heq]
    exact (((AvenueFrame.refl n [] [.av] s).withDecoding (by simp) _).queueOutcome (by simp) _ _).sectorDelivered (by simp) _ _
  refine ⟨onTheFlyDecodeEnd n d s, rfl, ?_, ?_, ?_, ?_, hframe.1, hframe.2.2⟩
  · rw [havn]
  · rw [havn]
  · rw [havn]
  · rw [havn]

/-- A sector that does not converge goes from the decoder to a ladder. -/
theorem onTheFlyDecodeEnd_failed {s : State} {n : Fin 4} {d : Decoded} {sec : SectorRead} (hdec : (s.avn n).decoding = [sec])
    (hr : sec.ctx.reread = none) (hd : d.converged = false) : onTheFlyDecodeEnd n d s =
      startLadder n sec ((s.withDecoding n []).queueOutcome n sec .notConverged) := by
  unfold onTheFlyDecodeEnd
  rw [endOldest_cons hdec, sectorOutcome_of_not_converged hd, finishSector_needsLadder hr rfl]
  rfl

theorem onTheFlyDecodeEnd_failed_spec (s : State) (n : Fin 4) (d : Decoded) (sec : SectorRead) (hdec : (s.avn n).decoding = [sec])
    (hr : sec.ctx.reread = none) (hd : d.converged = false) (hc : 1 ≤ s.ceiling n sec.ctx)
    (hp : s.get (AV_STORESTAT_PINNED n) < s.get (AV_LADLIM_PINMAX n)) :
    ∃ t, exec (.onTheFlyDecodeEnd n d) s = .next t ∧ (t.avn n).decoding = [] ∧
      t.get (AV_LADCNT0_OTFFAIL n) = min (2 ^ (AV_LADCNT0_OTFFAIL n).wid - 1) (s.get (AV_LADCNT0_OTFFAIL n) + 1) ∧
      t.get (AV_STORESTAT_PINNED n) = s.get (AV_STORESTAT_PINNED n) + 1 ∧
      (∃ l ∈ (t.avn n).ladders, l.id = (s.avn n).nextLadder ∧ l.sec = sec ∧ l.level = 1 ∧ l.step = 0 ∧ l.pinned = true ∧
        l.phase = .waiting) ∧
      (t.avn n).delivered = (s.avn n).delivered ∧ Raised1 (428 + 96 * n.val + 48) 0 s t ∧ OtherAvenues n s t ∧
      Frame [AV_LADCNT0_OTFFAIL n, AV_STORESTAT_PINNED n] [.regs, .av, .flt] s t := by
  have hqueued : AvenueFrame n [AV_LADCNT0_OTFFAIL n, AV_STORESTAT_PINNED n] [.regs, .av, .flt] s
      ((s.withDecoding n []).queueOutcome n sec .notConverged) :=
    ((AvenueFrame.refl n _ _ s).withDecoding (by simp) _).queueOutcome (by simp) _ _
  obtain ⟨hfail, hpinned, hladder, hdelivered, hraised, hframe⟩ :=
    startLadder_pinned_spec (s := (s.withDecoding n []).queueOutcome n sec .notConverged) hc hp
  have hmoves := (LadderMoves.refl n ((s.withDecoding n []).queueOutcome n sec .notConverged)).startLadder sec
  refine ⟨onTheFlyDecodeEnd n d s, rfl, ?_⟩
  rw [onTheFlyDecodeEnd_failed hdec hr hd]
  refine ⟨?_, hfail, hpinned, ⟨_, hladder, ?_, rfl, rfl, rfl, rfl, rfl⟩, ?_, hraised, (hqueued.trans hframe).1,
    (hqueued.trans hframe).2⟩
  · rw [hmoves.decoding, avn_queueOutcome, avn_withDecoding]
  · rw [avn_queueOutcome, avn_withDecoding]
    rfl
  · rw [hdelivered, avn_queueOutcome, avn_withDecoding]

/-- The state that has lost codeword `a` to an overrun: counted, source 56 raised, and its outcome queued. -/
def State.overrunLost (s : State) (n : Fin 4) (a : SectorRead) (rest : List SectorRead) : State :=
  (((s.withDecoding n rest).bump (AV_DECCNT_OVERRUN n)).raise (avSrc n 56)).queueOutcome n a .overrun

theorem avn_overrunLost (s : State) (n : Fin 4) (a : SectorRead) (rest : List SectorRead) : (s.overrunLost n a rest).avn n =
    { s.avn n with
      decoding := rest
      seq := { (s.avn n).seq with outcomes := (s.avn n).seq.outcomes ++ [⟨.overrun, a.laneLost, a.addr.slot⟩] } } := by
  rw [State.overrunLost, avn_queueOutcome, State.avn_raise, State.avn_bump, avn_withDecoding]

theorem overrunLost_get (s : State) (n : Fin 4) (a : SectorRead) (rest : List SectorRead) :
    (s.overrunLost n a rest).get (AV_DECCNT_OVERRUN n) =
      min (2 ^ (AV_DECCNT_OVERRUN n).wid - 1) (s.get (AV_DECCNT_OVERRUN n) + 1) := by
  rw [State.overrunLost, get_queueOutcome, State.get_raise, bump_get _ _ (Nat.le_of_ble_eq_true rfl), get_withDecoding]

theorem overrunLost_frame (s : State) (n : Fin 4) (a : SectorRead) (rest : List SectorRead) :
    AvenueFrame n [AV_DECCNT_OVERRUN n] [.regs, .av, .flt] s (s.overrunLost n a rest) :=
  ((((AvenueFrame.refl n _ _ s).withDecoding (by simp) _).bump (by simp) (by simp) 1).raise (by simp) _ 0).queueOutcome
    (by simp) _ _

theorem overrunLost_raised (s : State) (n : Fin 4) (a : SectorRead) (rest : List SectorRead) :
    Raised1 (avSrc n 56) 0 s (s.overrunLost n a rest) :=
  (raised1_of_untouched (((Untouched.refl [.regs, .av] s).modAv (by simp) n _).put (by simp) _ _) (by simp) (by simp) _
    _).modAv n _

/-- A full decoder loses its oldest codeword to a ladder. -/
theorem decodeOverrun_two {s : State} {n : Fin 4} {a b : SectorRead} (hdec : (s.avn n).decoding = [a, b]) (hb : b.decode = true)
    (hr : a.ctx.reread = none) : decodeOverrun n s = startLadder n a (s.overrunLost n a [b]) := by
  have hleft : ((startLadder n a (s.overrunLost n a [b])).avn n).decoding = [b] := by
    rw [((LadderMoves.refl n _).startLadder a).decoding, avn_overrunLost]
  unfold decodeOverrun
  rw [if_pos (by rw [hdec]; exact Nat.le_refl 2), endOldest_cons hdec, finishSector_needsLadder hr rfl]
  exact drainMisses_of_decode hleft hb _

theorem decodeOverrun_spec (s : State) (n : Fin 4) (a b : SectorRead) (hdec : (s.avn n).decoding = [a, b]) (hb : b.decode = true)
    (hr : a.ctx.reread = none) : ∃ t, exec (.decodeOverrun n) s = .next t ∧ (t.avn n).decoding = [b] ∧
      t.get (AV_DECCNT_OVERRUN n) = min (2 ^ (AV_DECCNT_OVERRUN n).wid - 1) (s.get (AV_DECCNT_OVERRUN n) + 1) ∧
      (∃ o ∈ (t.avn n).seq.outcomes, o = ⟨.overrun, a.laneLost, a.addr.slot⟩) ∧
      ⟨428 + 96 * n.val + 56, s.time, 0, false⟩ ∈ t.flt.inbox ∧ OtherAvenues n s t ∧
      Untouched [.regs, .av, .flt, .rdec] s t := by
  have hmoves := (LadderMoves.refl n (s.overrunLost n a [b])).startLadder a
  have hlost := overrunLost_frame s n a [b]
  refine ⟨decodeOverrun n s, rfl, ?_⟩
  rw [decodeOverrun_two hdec hb hr]
  refine ⟨?_, ?_, ⟨_, ?_, rfl⟩, hmoves.inbox (overrunLost_raised s n a [b]).mem, hlost.1.trans hmoves.frame.1,
    (hlost.2.2.mono (by simp)).trans hmoves.frame.2.2⟩
  · rw [hmoves.decoding, avn_overrunLost]
  · rw [hmoves.frame.get (ladderFlds_apart_overrun n), overrunLost_get]
  · rw [hmoves.seq, avn_overrunLost]
    exact List.mem_append_right _ (List.mem_singleton.2 rfl)

/-! ### The retry decoders' jobs (R117, R121, R122, R124 to R126) -/

theorem retryJobSubmit_queued {s : State} {n : Fin 4} {l : Ladder} (hl : s.ladder n l.id = some l) (h1 : l.level = 1)
    (hr : l.phase = .running) (hok : s.get AV0_RDECCTL_OK = 1) (hheld : s.rdec.held = []) (hq : s.rdec.queue.length < 64)
    (hu : l.sec.ctx.cls = 2 → (s.rdec.queue.filter (fun j => j.cls == 2)).length < 4) : retryJobSubmit n l.id s =
      ({ s with rdec := { s.rdec with queue := s.rdec.queue ++ [⟨n, l.id, l.sec.ctx.cls⟩] } } : State).setLadder n
        { l with phase := .queued } := by
  have hadmits : s.rdec.admits l.cls = true := by
    simp only [RetryDecoders.admits, hq, decide_true, Bool.true_and, Bool.or_eq_true, bne_iff_ne]
    exact (Decidable.em (l.sec.ctx.cls = 2)).elim (fun h => .inr (decide_eq_true (hu h))) .inl
  simp only [retryJobSubmit, hl, h1, hr, State.is_of_get_one hok, hheld, hadmits, and_self, if_true, Bool.not_true,
    Bool.false_eq_true, if_false, List.any_nil, Bool.not_false, Bool.and_self]
  rfl

theorem retryJobSubmit_spec (s : State) (n : Fin 4) (l : Ladder) (hl : s.ladder n l.id = some l) (h1 : l.level = 1)
    (hr : l.phase = .running) (hok : s.get AV0_RDECCTL_OK = 1) (hheld : s.rdec.held = []) (hq : s.rdec.queue.length < 64)
    (hu : l.sec.ctx.cls = 2 → (s.rdec.queue.filter (fun j => j.cls == 2)).length < 4) :
    ∃ t, exec (.retryJobSubmit n l.id) s = .next t ∧
      t.rdec = { s.rdec with queue := s.rdec.queue ++ [⟨n, l.id, l.sec.ctx.cls⟩] } ∧
      (t.avn n).ladders = (s.avn n).ladders.map (fun k => if k.id = l.id then { l with phase := .queued } else k) ∧
      OtherAvenues n s t ∧ Untouched [.av, .rdec] s t := by
  obtain ⟨hother, -, hparts⟩ := ((AvenueFrame.refl n [] [.av, .rdec] s).setRdec (by simp)
    { s.rdec with queue := s.rdec.queue ++ [⟨n, l.id, l.sec.ctx.cls⟩] }).setLadder (by simp) { l with phase := .queued }
  refine ⟨retryJobSubmit n l.id s, rfl, ?_⟩
  rw [retryJobSubmit_queued hl h1 hr hok hheld hq hu]
  exact ⟨rfl, by rw [State.avn_setLadder]; rfl, hother, hparts⟩

theorem retryJobStart_spec (s : State) (j : RetryJob) (hfree : s.rdec.run0 = none) (hj : nextJob s.rdec.queue = some j)
    (hheld : s.rdec.held = []) :
    exec (.retryJobStart 0) s = .next { s with rdec := { s.rdec with queue := s.rdec.queue.erase j, run0 := some j } } := by
  have hrun : s.rdec.run 0 = none := hfree
  have heq : retryJobStart 0 s = { s with rdec := { s.rdec with queue := s.rdec.queue.erase j, run0 := some j } } := by
    unfold retryJobStart
    rw [hrun, hj]
    exact congrArg (fun r => { s with rdec := r }) (RetryDecoders.refill_of_held_nil
      (r := { s.rdec with queue := s.rdec.queue.erase j, run0 := some j }) hheld)
  exact congrArg Host.Outcome.next heq

theorem retryJobEnd_ended_spec (s : State) (j : RetryJob) (res : Decoded) (hrun : s.rdec.run1 = some j)
    (hl : s.ladder j.av j.lad = none) :
    exec (.retryJobEnd 1 res) s = .next { s with rdec := { s.rdec with run1 := none } } := by
  have heq : retryJobEnd 1 res s = { s with rdec := { s.rdec with run1 := none } } := by
    unfold retryJobEnd
    rw [show s.rdec.run 1 = some j from hrun]
    dsimp only
    rw [show State.ladder { s with rdec := s.rdec.setRun 1 none } j.av j.lad = none from hl]
    rfl
  exact congrArg Host.Outcome.next heq

/-- The state that a job leaves whose sector is recovered, but for the class of the sector. -/
def State.jobRecovered (s : State) (j : RetryJob) (l : Ladder) (res : Decoded) : State :=
  recordLadder j.av l (some (.recovered 1)) ((({ s with rdec := { s.rdec with run0 := none } } : State).sectorDelivered j.av l.sec
    (sectorBlock l.sec.addr res)).withoutLadder j.av l)

theorem avn_jobRecovered (s : State) (j : RetryJob) (l : Ladder) (res : Decoded) : (s.jobRecovered j l res).avn j.av =
    { s.avn j.av with
      delivered := (s.avn j.av).delivered ++ [(l.sec.ctx.handle, l.sec.addr.slot, sectorBlock l.sec.addr res)]
      ladders := (s.avn j.av).ladders.filter (fun k => k.id != l.id)
      ladderRecs := (s.avn j.av).ladderRecs.filter (fun r => r.addr != l.sec.addr) ++
        [⟨l.sec.addr, l.level, l.step, l.rereads, some (.recovered 1)⟩] } := by
  rw [State.jobRecovered, avn_recordLadder, State.avn_withoutLadder, avn_sectorDelivered]
  rfl

theorem jobRecovered_run0 (s : State) (j : RetryJob) (l : Ladder) (res : Decoded) : (s.jobRecovered j l res).rdec.run0 = none :=
  withoutLadder_run0 ..

theorem jobRecovered_frame (s : State) (j : RetryJob) (l : Ladder) (res : Decoded) :
    AvenueFrame j.av [AV_STORESTAT_PINNED j.av] [.regs, .av, .rdec] s (s.jobRecovered j l res) :=
  ((((AvenueFrame.refl j.av _ _ s).setRdec (by simp) _).sectorDelivered (by simp) _ _).withoutLadder (by simp) (by simp) (by simp)
    (by simp) l).recordLadder (by simp) _ _

/-- A job that recovers its sector ends the ladder as transient. -/
theorem retryJobEnd_good {s : State} {j : RetryJob} {l : Ladder} {res : Decoded} (hrun : s.rdec.run0 = some j)
    (hl : s.ladder j.av j.lad = some l) (h1 : l.level = 1) (hv : l.sec.verify = false) (hh : l.sec.ctx.host = true)
    (ho : sectorOutcome l.sec.addr l.sec.ctx res = .good) : retryJobEnd 0 res s =
      ((s.jobRecovered j l res).bump (AV_LADCNT0_TRANS j.av)).raise (avSrc j.av 49) := by
  unfold retryJobEnd
  rw [show s.rdec.run 0 = some j from hrun]
  dsimp only
  rw [show State.ladder { s with rdec := s.rdec.setRun 0 none } j.av j.lad = some l from hl]
  dsimp only
  rw [ho, if_pos ⟨rfl, hv⟩]
  unfold stepEnded
  dsimp only
  rw [endLadder_eq, h1]
  exact classify_transient hh ..

theorem retryJobEnd_good_spec (s : State) (j : RetryJob) (l : Ladder) (res : Decoded) (hrun : s.rdec.run0 = some j)
    (hl : s.ladder j.av j.lad = some l) (h1 : l.level = 1) (hv : l.sec.verify = false) (hh : l.sec.ctx.host = true)
    (ho : sectorOutcome l.sec.addr l.sec.ctx res = .good) :
    ∃ t, exec (.retryJobEnd 0 res) s = .next t ∧ t.rdec.run0 = none ∧ t.ladder j.av j.lad = none ∧
      (l.sec.ctx.handle, l.sec.addr.slot, sectorBlock l.sec.addr res) ∈ (t.avn j.av).delivered ∧
      t.get (AV_LADCNT0_TRANS j.av) = min (2 ^ (AV_LADCNT0_TRANS j.av).wid - 1) (s.get (AV_LADCNT0_TRANS j.av) + 1) ∧
      Raised1 (428 + 96 * j.av.val + 49) 0 s t ∧ OtherAvenues j.av s t ∧ Untouched [.regs, .av, .rdec, .flt] s t := by
  have hframe := jobRecovered_frame s j l res
  have havn : (((s.jobRecovered j l res).bump (AV_LADCNT0_TRANS j.av)).raise (avSrc j.av 49)).avn j.av =
      (s.jobRecovered j l res).avn j.av := by rw [State.avn_raise, State.avn_bump]
  have hcounted : Untouched [.regs, .av, .rdec] s ((s.jobRecovered j l res).bump (AV_LADCNT0_TRANS j.av)) :=
    hframe.2.2.put (by simp) _ _
  refine ⟨retryJobEnd 0 res s, rfl, ?_⟩
  rw [retryJobEnd_good hrun hl h1 hv hh ho]
  refine ⟨jobRecovered_run0 s j l res, ?_, ?_, ?_, raised1_of_untouched hcounted (by simp) (by simp) _ _,
    (hframe.1.of_av_eq (State.put_av ..)).raise _ 0, (hcounted.mono (by simp)).raise (by simp) _ 0⟩
  · rw [State.ladder, havn, avn_jobRecovered]
    simp [State.ladder_id hl]
  · rw [havn, avn_jobRecovered]
    exact List.mem_append_right _ (List.mem_singleton.2 rfl)
  · rw [State.get_raise, bump_get _ _ (Nat.le_of_ble_eq_true rfl),
      hframe.get (by simpa using .inl (avOffset_ne j.av (by decide)))]

/-- Settles O16: a decode's end by its outcome, a job by the queue's state, and its end by its ladder. -/
theorem decodersAndRetryJobs : Obligations.DecodersAndRetryJobs :=
  ⟨onTheFlyDecodeEnd_good_spec, onTheFlyDecodeEnd_failed_spec, decodeOverrun_spec, retryJobSubmit_spec, retryJobStart_spec,
    retryJobEnd_ended_spec, retryJobEnd_good_spec⟩

end Sys2Proof.Machine
end

section
/-! CERTIFICATE. The statement O17: steps of the retry ladder, reconstruction and relocation. -/

namespace Sys2Proof.Machine

/-! ### A step starts or is displaced (R126, R128, R130, R133) -/

theorem ladderStepStart_runs {s : State} {n : Fin 4} {l : Ladder} {v k : Nat} (hl : s.ladder n l.id = some l)
    (hw : l.phase = .waiting) (ha : l.aborted = false) (hn : s.nextStep n l l.level l.step = some (v, k))
    (hd : l.sec.ctx.deadline = 0) :
    ladderStepStart n l.id s = recordLadder n { l with level := v, step := k, phase := .running } none
      (s.setLadder n { l with level := v, step := k, phase := .running }) := by
  have htime : s.outOfTime { l with level := v, step := k } = false := by simp [State.outOfTime, hd]
  simp only [ladderStepStart, hl, hn]
  rw [if_pos hw, if_neg (ne_true_of_eq_false ha), if_neg (ne_true_of_eq_false htime)]

theorem ladderStepStart_spec (s : State) (n : Fin 4) (l : Ladder) (v k : Nat) (hl : s.ladder n l.id = some l)
    (hw : l.phase = .waiting) (ha : l.aborted = false) (hn : s.nextStep n l l.level l.step = some (v, k))
    (hd : l.sec.ctx.deadline = 0) : ∃ t, exec (.ladderStepStart n l.id) s = .next t ∧
      (t.avn n).ladders = (s.avn n).ladders.map (fun x => if x.id = l.id then { l with level := v, step := k, phase := .running }
        else x) ∧ OtherAvenues n s t ∧ Untouched [.av] s t := by
  obtain ⟨hother, -, hparts⟩ := ((AvenueFrame.refl n [] [.av] s).setLadder (by simp)
    { l with level := v, step := k, phase := .running }).recordLadder (by simp)
    { l with level := v, step := k, phase := .running } none
  refine ⟨ladderStepStart n l.id s, rfl, ?_⟩
  rw [ladderStepStart_runs hl hw ha hn hd]
  exact ⟨by rw [avn_recordLadder, State.avn_setLadder], hother, hparts⟩

theorem rereadDisplace_spec (s : State) (n : Fin 4) (l : Ladder) (hl : s.ladder n l.id = some l) (hr : l.phase = .running)
    (h2 : 2 ≤ l.level) (h5 : l.level ≤ 5) : ∃ t, exec (.rereadDisplace n l.id) s = .next t ∧
      (t.avn n).ladders = (s.avn n).ladders.map (fun x => if x.id = l.id then { l with phase := .waiting } else x) ∧
      OtherAvenues n s t ∧ Untouched [.av] s t := by
  have heq : rereadDisplace n l.id s = s.setLadder n { l with phase := .waiting } := by
    simp only [rereadDisplace, hl, displaced, hr, h2, h5, and_self, if_true]
  obtain ⟨hother, -, hparts⟩ := (AvenueFrame.refl n [] [.av] s).setLadder (by simp) { l with phase := .waiting }
  refine ⟨rereadDisplace n l.id s, rfl, ?_⟩
  rw [heq]
  exact ⟨by rw [State.avn_setLadder], hother, hparts⟩

/-! ### Reconstruction (R132, R136, R137) -/

theorem l6StepEnd_delivered {s : State} {n : Fin 4} {l : Ladder} (hl : s.ladder n l.id = some l) (h6 : l.level = 6)
    (hr : l.phase = .running) (hh : l.sec.ctx.host = true) : l6StepEnd n l.id true s =
      (((recordLadder n l (some (.recovered 6)) (s.withoutLadder n l)).bump (AV_LADCNT1_LASTING n)).raise (avSrc n 50)).modAv n
        (fun a => { a with relocate := withOne a.relocate l.sec.addr }) := by
  simp only [l6StepEnd, hl, h6, hr, and_self, if_true]
  exact (endLadder_eq ..).trans (classify_lastingRecovered hh ..)

theorem l6StepEnd_spec (s : State) (n : Fin 4) (l : Ladder) (hl : s.ladder n l.id = some l) (h6 : l.level = 6)
    (hr : l.phase = .running) (hp : l.pinned = false) (hh : l.sec.ctx.host = true) :
    ∃ t, exec (.l6StepEnd n l.id true) s = .next t ∧ t.ladder n l.id = none ∧ l.sec.addr ∈ (t.avn n).relocate ∧
      t.get (AV_LADCNT1_LASTING n) = min (2 ^ (AV_LADCNT1_LASTING n).wid - 1) (s.get (AV_LADCNT1_LASTING n) + 1) ∧
      Raised1 (428 + 96 * n.val + 50) 0 s t ∧ OtherAvenues n s t ∧
      Frame [AV_LADCNT1_LASTING n] [.regs, .av, .rdec, .flt] s t := by
  refine ⟨l6StepEnd n l.id true s, rfl, ?_⟩
  rw [l6StepEnd_delivered hl h6 hr hh]
  have hgone : AvenueFrame n [] [.av, .rdec] s (recordLadder n l (some (.recovered 6)) (s.withoutLadder n l)) :=
    (withoutLadder_frame_of_unpinned hp n s).recordLadder (by simp) _ _
  have hcount := (hgone.mono (gs := [AV_LADCNT1_LASTING n]) (qs := [.regs, .av, .rdec]) (by simp) (by simp)).bump
    (f := AV_LADCNT1_LASTING n) (by simp) (by simp) 1
  obtain ⟨hother, hframe⟩ := ((hcount.mono (List.Subset.refl _) (qs := [.regs, .av, .rdec, .flt]) (by simp)).raise (by simp)
    (avSrc n 50) 0).modAv (by simp) (fun a => { a with relocate := withOne a.relocate l.sec.addr })
  refine ⟨?_, ?_, ?_, ?_, hother, hframe⟩
  · simp [State.ladder]
  · rw [State.avn_modAv_self]
    exact mem_withOne ..
  · rw [State.get_modAv, State.get_raise, bump_get _ _ (Nat.le_of_ble_eq_true rfl), hgone.get (by simp)]
  · exact (State.modAv_flt ..).trans (raised1_of_untouched hcount.2.2 (by simp) (by simp) _ _)

/-! ### Relocation (R137 to R139) -/

theorem relocateSector_spare_spec (s : State) (n : Fin 4) (sec spare : SectorAddr) (bad rest : List (SectorAddr × Bool))
    (hin : sec ∈ (s.avn n).relocate) (hbad : ∀ p ∈ bad, p.2 = false) :
    ∃ t, exec (.relocateSector n sec (bad ++ (spare, true) :: rest)) s = .next t ∧
      t.avn n = { s.avn n with relocate := (s.avn n).relocate.erase sec, pendingList := (s.avn n).pendingList.erase sec,
                               mapping := (s.avn n).mapping ++ [(sec, spare)], grown := (s.avn n).grown ++ [(sec, false)] } ∧
      OtherAvenues n s t ∧ Untouched [.av] s t := by
  have hfind : (bad ++ (spare, true) :: rest).find? (fun p => p.2) = some (spare, true) := by
    rw [List.find?_append, List.find?_eq_none.2 fun p hp => by simp [hbad p hp]]
    rfl
  obtain ⟨hother, -, hparts⟩ := ((AvenueFrame.refl n [] [.av] s).modAv (by simp) fun b =>
    { b with relocate := b.relocate.erase sec, pendingList := b.pendingList.erase sec }).modAv (by simp) fun b =>
    { b with mapping := b.mapping ++ [(sec, spare)], grown := b.grown ++ [(sec, false)] }
  refine ⟨relocateSector n sec (bad ++ (spare, true) :: rest) s, rfl, ?_⟩
  simp only [relocateSector, List.contains_eq_mem, hin, decide_true, Bool.true_or, if_true, hfind]
  exact ⟨by rw [State.avn_modAv_self, State.avn_modAv_self], hother, hparts⟩

theorem relocateSector_weak_spec (s : State) (n : Fin 4) (sec : SectorAddr) (bad : List (SectorAddr × Bool))
    (hin : sec ∈ (s.avn n).pendingList) (hbad : ∀ p ∈ bad, p.2 = false) :
    ∃ t, exec (.relocateSector n sec bad) s = .next t ∧ (t.avn n).grown = (s.avn n).grown ++ [(sec, true)] ∧
      (t.avn n).mapping = (s.avn n).mapping ∧ Raised1 (428 + 96 * n.val + 57) 0 s t ∧ OtherAvenues n s t ∧
      Untouched [.av, .flt] s t := by
  have hfind : bad.find? (fun p => p.2) = none := List.find?_eq_none.2 fun p hp => by simp [hbad p hp]
  have hmoved := ((AvenueFrame.refl n [] [.av] s).modAv (by simp) fun b =>
    { b with relocate := b.relocate.erase sec, pendingList := b.pendingList.erase sec }).modAv (by simp) fun b =>
    { b with grown := b.grown ++ [(sec, true)] }
  refine ⟨relocateSector n sec bad s, rfl, ?_⟩
  simp only [relocateSector, List.contains_eq_mem, hin, decide_true, Bool.or_true, if_true, hfind]
  refine ⟨?_, ?_, raised1_of_untouched hmoved.2.2 (by simp) (by simp) _ _, hmoved.1.raise _ _,
    (hmoved.2.2.mono (by simp)).raise (by simp) _ _⟩
  · rw [State.avn_raise, State.avn_modAv_self, State.avn_modAv_self]
  · rw [State.avn_raise, State.avn_modAv_self, State.avn_modAv_self]

/-- Settles O17: a step that starts or is displaced replaces its ladder, reconstruction ends it as lasting, and relocation takes
the first spare that reads back. -/
theorem retryLadderSteps : Obligations.RetryLadderSteps :=
  ⟨ladderStepStart_spec, rereadDisplace_spec, l6StepEnd_spec, relocateSector_spare_spec, relocateSector_weak_spec⟩

end Sys2Proof.Machine
end

section
/-! SUPPORT. The rest of what write gate and a write fault do (R147, R151, R152): the state that a dropped gate leaves, the whole of a
write fault with a fresh capture, and cause 0. -/

namespace Sys2Proof.Machine

/-! ### Fields of one bit -/

theorem State.is_eq_decide_one (s : State) {f : Fld} (h : f.wid = 1) : s.is f = decide (s.get f = 1) := by
  have hlt : s.get f < 2 := by simpa [h] using s.get_lt f
  unfold State.is
  exact decide_eq_decide.2 (by omega)

/-! ### A change that changes nothing -/

theorem Quad.set_get_self {α : Type} (q : Quad α) (n : Fin 4) : q.set n (q.get n) = q := by
  fin_cases n <;> rfl

theorem modAv_of_fixed {s : State} {n : Fin 4} {f : Avenue → Avenue} (h : f (s.avn n) = s.avn n) : s.modAv n f = s := by
  rw [State.modAv, show f (s.av.get n) = s.av.get n from h, Quad.set_get_self]

theorem modSv_of_fixed {s : State} {n : Fin 4} {f : Servo → Servo} (h : f (s.svo.get n) = s.svo.get n) : s.modSv n f = s := by
  rw [State.modSv, h, Quad.set_get_self]

/-! ### Write gate (R147) -/

/-- Of its Avenue, a dropped write gate changes no more than the gate and the readers. -/
theorem dropGate_avn (s : State) (n : Fin 4) : ∃ rs, (s.dropGate n).avn n = { s.avn n with wg := false, readers := rs } := by
  unfold State.dropGate
  split
  · exact ⟨_, by rw [State.modReaders, State.avn_modAv_self, State.avn_modAv_self]⟩
  next h =>
    have hlow : (s.avn n).wg = false := by simpa using h
    exact ⟨(s.avn n).readers, by rw [← hlow]⟩

theorem dropGate_seq_all (s : State) (n m : Fin 4) : (s.dropGate n).seq m = s.seq m := by
  by_cases h : m = n
  · rw [h, dropGate_seq]
  · exact congrArg Avenue.seq (dropGate_otherAvenues s n m h)

theorem dropGate_flt (s : State) (n : Fin 4) : (s.dropGate n).flt = s.flt := dropGate_untouched s n .flt (by decide)

/-! ### Cause 0 (R150) -/

theorem cause0_eq (s : State) (n : Fin 4) : s.cause0 n = ((s.shock0 && s.is (AV_WINHCTL_SHM0 n)) ||
    (s.shock1 && s.is (AV_WINHCTL_SHM1 n)) || (s.avn n).shockHold) := by
  have h : s.causes n % 2 = if (s.shock0 && s.is (AV_WINHCTL_SHM0 n)) || (s.shock1 && s.is (AV_WINHCTL_SHM1 n)) ||
      (s.avn n).shockHold then 1 else 0 := by
    unfold State.causes
    exact mask_parity ..
  unfold State.cause0
  rw [h]
  split <;> simp_all

/-! ### Write faults (R151, R152) -/

/-- The state with WFSTAT's capture of a write fault that names cause `c`. -/
def State.faultCaptured (s : State) (n : Fin 4) (o : MediaOp) (c : Nat) : State :=
  ((((s.put (AV_WFSTAT_FIRST n) c).put (AV_WFSTAT_CAUSE n) (s.causes n)).put (AV_WFSTAT_FACE n) o.face).put
    (AV_WFSTAT_SLOT n) (s.faultSlot n)).put (AV_WFSTAT_VALID n) 1

theorem State.faultCaptured_untouched (s : State) (n : Fin 4) (o : MediaOp) (c : Nat) : Untouched [.regs] s (s.faultCaptured n o c) := by
  unfold State.faultCaptured
  iterate 5 refine .put ?_ (List.mem_singleton_self _) _ _
  exact .refl _ s

theorem State.faultCaptured_wordsBut (s : State) (n : Fin 4) (o : MediaOp) (c : Nat) :
    WordsBut [AV_WFSTAT n] s (s.faultCaptured n o c) := by
  have hm : AV_WFSTAT n ∈ [AV_WFSTAT n] := List.mem_singleton_self _
  unfold State.faultCaptured
  iterate 5 refine .put ?_ hm _
  exact .refl _ s

/-- An operation that writes is open, and nothing has ended it. -/
theorem open_of_writing {s : State} {n : Fin 4} (h : s.writing n = true) : ∃ o, (s.seq n).op = some o ∧ o.ended = 0 := by
  unfold State.writing at h
  split at h
  · cases h
  next o hop =>
    simp only [Bool.and_eq_true, beq_iff_eq] at h
    exact ⟨o, hop, h.1.2⟩

section Fault
variable {s : State} {n : Fin 4} {o : MediaOp} {c : Nat} (hop : (s.seq n).op = some o) (h0 : o.ended = 0)
  (hvalid : s.get (AV_WFSTAT_VALID n) = 0) (hc : 1 < c)
include hop h0 hvalid hc

/-- The first write fault of an Avenue, of a cause above 1. -/
theorem writeFault_of_fresh : s.writeFault n c = ((((s.faultCaptured n o c).bump (AV_WFCNT_FAULTS n)).dropGate n).modSeq n fun q =>
    { q with op := some { o with ended := 5 }, arms := [], slotRun := none }).raise (avSrc n 64) := by
  have hopen : ((((s.faultCaptured n o c).bump (AV_WFCNT_FAULTS n)).dropGate n).seq n).op = some o := by
    rw [dropGate_seq, State.seq, avn_of_av_eq (State.bump_av ..), avn_of_av_eq (s.faultCaptured_untouched n o c .av (by decide))]
    exact hop
  unfold State.writeFault
  simp only [hop, State.is_of_get_zero hvalid, if_neg (Nat.not_le.2 hc), Bool.false_eq_true, if_false]
  rw [← State.faultCaptured, endOp_of_open hopen h0]
  simp only [State.modSeq, State.modAv, Quad.get_set_self, Quad.set_set]

theorem writeFault_fresh_avn : ∃ rs, (s.writeFault n c).avn n = { s.avn n with
    wg := false, readers := rs, seq := { s.seq n with op := some { o with ended := 5 }, arms := [], slotRun := none } } := by
  obtain ⟨rs, hgate⟩ := dropGate_avn ((s.faultCaptured n o c).bump (AV_WFCNT_FAULTS n)) n
  refine ⟨rs, ?_⟩
  rw [writeFault_of_fresh hop h0 hvalid hc, State.avn_raise, State.modSeq, State.avn_modAv_self, hgate,
    avn_of_av_eq (State.bump_av ..), avn_of_av_eq (s.faultCaptured_untouched n o c .av (by decide))]
  rfl

/-- The fields of a write fault are those of its capture and its count. -/
theorem writeFault_fresh_get (g : Fld) :
    (s.writeFault n c).get g = ((s.faultCaptured n o c).bump (AV_WFCNT_FAULTS n)).get g := by
  rw [writeFault_of_fresh hop h0 hvalid hc, State.get_raise, State.modSeq, State.get_modAv, State.get_of_regs_eq (dropGate_regs ..)]

theorem writeFault_fresh_inbox : (s.writeFault n c).flt.inbox = s.flt.inbox ++ [⟨avSrc n 64, s.time, 0, false⟩] := by
  have hkept : Untouched [.regs, .av] s (((s.faultCaptured n o c).bump (AV_WFCNT_FAULTS n)).dropGate n) :=
    .step (((s.faultCaptured_untouched n o c).mono (by simp)).put (by simp) _ _) (dropGate_untouched _ n) (by simp)
  rw [writeFault_of_fresh hop h0 hvalid hc, State.modSeq,
    raised1_of_untouched (hkept.modAv (by simp) n _) (by simp) (by simp) (avSrc n 64) 0]

theorem writeFault_fresh_faults : (s.writeFault n c).get (AV_WFCNT_FAULTS n) =
    min (2 ^ (AV_WFCNT_FAULTS n).wid - 1) (s.get (AV_WFCNT_FAULTS n) + 1) := by
  have hcount : (s.faultCaptured n o c).get (AV_WFCNT_FAULTS n) = s.get (AV_WFCNT_FAULTS n) :=
    State.get_of_rd_eq (s.faultCaptured_wordsBut n o c _ (List.mem_singleton.not.2 (avOffset_ne n (by decide))))
  rw [writeFault_fresh_get hop h0 hvalid hc, bump_get _ _ (Nat.le_of_ble_eq_true rfl), hcount]

theorem writeFault_fresh_valid : (s.writeFault n c).get (AV_WFSTAT_VALID n) = 1 := by
  rw [writeFault_fresh_get hop h0 hvalid hc, State.bump, State.get_put_elsewhere _ _ _ _ (.inl (avOffset_ne n (by decide)))]
  exact State.get_put_of_lt _ (Nat.le_of_ble_eq_true rfl) (Nat.le_of_ble_eq_true rfl)

theorem writeFault_fresh_first (h8 : c < 8) : (s.writeFault n c).get (AV_WFSTAT_FIRST n) = c := by
  rw [writeFault_fresh_get hop h0 hvalid hc, State.bump, State.get_put_elsewhere _ _ _ _ (.inl (avOffset_ne n (by decide))),
    State.faultCaptured, State.get_put_elsewhere _ _ _ _ (.inr (.inr (Nat.le_of_ble_eq_true rfl)))]
  iterate 3 rw [State.get_put_elsewhere _ _ _ _ (.inr (.inl (Nat.le_of_ble_eq_true rfl)))]
  exact State.get_put_of_lt _ (Nat.le_of_ble_eq_true rfl) h8

end Fault

end Sys2Proof.Machine
end

section
/-! CERTIFICATE. The statement O18: the write inhibit causes 0, 2 and 6 (R150 to R152, R211). -/

namespace Sys2Proof.Machine

/-! ### Shock inputs (R150, R211) -/

/-- What a rising shock input does while no operation writes: no part but the Avenues and the collector differs, no event is lost, the
sequencers are as they were, and no write gate rises. -/
structure ShockMoves (s t : State) : Prop where
  untouched : Untouched [.av, .flt] s t
  inbox : s.flt.inbox ⊆ t.flt.inbox
  seq : ∀ m, t.seq m = s.seq m
  gate : ∀ m, (s.avn m).wg = false → (t.avn m).wg = false

namespace ShockMoves

variable {s t u : State}

theorem refl (s : State) : ShockMoves s s := ⟨.refl _ s, List.Subset.refl _, fun _ => rfl, fun _ => id⟩

theorem trans (h : ShockMoves s t) (h' : ShockMoves t u) : ShockMoves s u :=
  ⟨h.untouched.trans h'.untouched, List.Subset.trans h.inbox h'.inbox, fun m => (h'.seq m).trans (h.seq m),
    fun m hm => h'.gate m (h.gate m hm)⟩

theorem raise (h : ShockMoves s t) (src d : Nat) : ShockMoves s (t.raise src d) :=
  ⟨h.untouched.raise (by simp) src d, List.subset_append_of_subset_left _ h.inbox, h.seq, h.gate⟩

theorem raiseIf (h : ShockMoves s t) (b : Bool) (src d : Nat) : ShockMoves s (t.raiseIf b src d) := by
  cases b
  · exact h
  · exact h.raise src d

theorem dropGate (h : ShockMoves s t) (n : Fin 4) : ShockMoves s (t.dropGate n) := by
  refine ⟨h.untouched.step (dropGate_untouched t n) (by simp), ?_, fun m => (dropGate_seq_all t n m).trans (h.seq m), fun m hm => ?_⟩
  · rw [dropGate_flt]
    exact h.inbox
  · by_cases hmn : m = n
    · rw [hmn]
      exact dropGate_wg t n
    · rw [dropGate_otherAvenues t n m hmn]
      exact h.gate m hm

theorem writing (h : ShockMoves s t) (m : Fin 4) : t.writing m = s.writing m := writing_congr (h.seq m)

end ShockMoves

section Rise
variable {k : Fin 2} {old t : State} {n : Fin 4}

/-- Cause 0 arises where no operation writes: source 65 and the drop of write gate. -/
theorem shockRiseOn_of_arising (hw : t.writing n = false) (hc : t.cause0 n = true) (hold : old.cause0 n = false) :
    shockRiseOn k old t n = ((t.raise (avSrc n 65)).dropGate n).raiseIf
      (((t.raise (avSrc n 65)).dropGate n).is (shmSv k n)) (svSrc n 16) := by
  have hraised : (t.raise (avSrc n 65)).writing n = false := (writing_congr rfl).trans hw
  simp only [shockRiseOn, hc, hold, Bool.not_false, Bool.and_self, if_true, inhibit_of_idle hraised]

theorem shockRiseOn_moves (hw : t.writing n = false) : ShockMoves t (shockRiseOn k old t n) := by
  unfold shockRiseOn
  refine .raiseIf ?_ _ _ _
  split
  · rw [inhibit_of_idle (s := t.raise (avSrc n 65)) ((writing_congr rfl).trans hw)]
    exact ((ShockMoves.refl t).raise _ _).dropGate n
  · exact .refl t

theorem shockRiseAll_moves (l : List (Fin 4)) (hw : ∀ m, t.writing m = false) : ShockMoves t (l.foldl (shockRiseOn k old) t) := by
  induction l generalizing t with
  | nil => exact .refl t
  | cons n l ih =>
    have hstep : ShockMoves t (shockRiseOn k old t n) := shockRiseOn_moves (hw n)
    exact hstep.trans (ih fun m => (hstep.writing m).trans (hw m))

end Rise

theorem mem_all4 (n : Fin 4) : n ∈ all4 := by
  fin_cases n <;> decide

theorem shockRise_spec (s : State) (n : Fin 4) (hlow : s.shock0 = false) (hw : ∀ m, s.writing m = false)
    (hen : s.get (AV_WINHCTL_SHM0 n) = 1) (hold : s.cause0 n = false) :
    ∃ t, exec (.shockRise 0) s = .next t ∧ t.shock0 = true ∧ t.shock1 = s.shock1 ∧ (t.avn n).wg = false ∧
      ⟨428 + 96 * n.val + 65, s.time, 0, false⟩ ∈ t.flt.inbox ∧ t.regs = s.regs ∧ Untouched [.shock, .av, .flt] s t := by
  obtain ⟨before, after, hall⟩ := List.append_of_mem (mem_all4 n)
  have hup : Untouched [.shock, .av, .flt] s (s.setShock 0 true) := by
    intro p hp
    cases p <;> simp_all [Part.same, State.setShock]
  have hset : ∀ m, (s.setShock 0 true).writing m = false := fun m => (writing_congr rfl).trans (hw m)
  have hbefore : ShockMoves (s.setShock 0 true) (before.foldl (shockRiseOn 0 s) (s.setShock 0 true)) := shockRiseAll_moves before hset
  have hrun : shockRise 0 s = after.foldl (shockRiseOn 0 s)
      (shockRiseOn 0 s (before.foldl (shockRiseOn 0 s) (s.setShock 0 true)) n) := by
    simp only [shockRise, hlow, if_true, Bool.false_eq_true, if_false, hall, List.foldl_append, List.foldl_cons]
  refine ⟨shockRise 0 s, rfl, ?_⟩
  rw [hrun]
  generalize before.foldl (shockRiseOn 0 s) (s.setShock 0 true) = t at hbefore ⊢
  have hidle : ∀ m, t.writing m = false := fun m => (hbefore.writing m).trans (hset m)
  have hshock : t.shock0 = true := (hbefore.untouched .shock (by decide)).1
  have hen' : t.is (AV_WINHCTL_SHM0 n) = true :=
    State.is_of_get_one ((State.get_of_regs_eq (hbefore.untouched .regs (by decide)) _).trans hen)
  have hcause : t.cause0 n = true := by rw [cause0_eq, hshock, hen']; rfl
  have hn : ShockMoves t (shockRiseOn 0 s t n) := shockRiseOn_moves (hidle n)
  have hafter : ShockMoves (shockRiseOn 0 s t n) (after.foldl (shockRiseOn 0 s) (shockRiseOn 0 s t n)) :=
    shockRiseAll_moves after fun m => (hn.writing m).trans (hidle m)
  have hmoves := (hbefore.trans hn).trans hafter
  have htime : t.time = s.time := congrArg (fun x => x.now.toNat) (hbefore.untouched .tim (by decide))
  have hat := shockRiseOn_of_arising (k := 0) (hidle n) hcause hold
  refine ⟨(hmoves.untouched .shock (by decide)).1, (hmoves.untouched .shock (by decide)).2, hafter.gate n ?_, hafter.inbox ?_,
    hmoves.untouched .regs (by decide), hup.trans (hmoves.untouched.mono (by simp))⟩
  · rw [hat, avn_of_av_eq (State.raiseIf_av ..)]
    exact dropGate_wg ..
  · rw [hat, ← htime]
    refine ((ShockMoves.refl _).raiseIf _ _ _).inbox ?_
    rw [dropGate_flt]
    exact List.mem_append_right _ (List.mem_singleton_self _)

/-! The fall of a shock input begins the holds where it is enabled. -/

section Fall
variable (k : Fin 2) (s : State) (n m : Fin 4)

theorem modAv_hold (b : Bool) : s.modAv n (fun a => { a with shockHold := a.shockHold || b }) =
    if b then s.modAv n (fun a => { a with shockHold := true }) else s := by
  cases b
  · exact modAv_of_fixed (by simp only [Bool.or_false])
  · simp only [Bool.or_true, if_true]

theorem modSv_set (b : Bool) : s.modSv n (fun v => { v with shockSet := v.shockSet || b }) =
    if b then s.modSv n (fun v => { v with shockSet := true }) else s := by
  cases b
  · exact modSv_of_fixed (by simp only [Bool.or_false])
  · simp only [Bool.or_true, if_true]

/-- Each hold begins where the input is enabled for it. -/
theorem shockFallOn_eq : shockFallOn k s n =
    (s.modAv n fun a => { a with shockHold := a.shockHold || s.is (shmAv k n) }).modSv n fun v =>
      { v with shockSet := v.shockSet || s.is (shmSv k n) } := by
  have his : (if s.is (shmAv k n) then s.modAv n (fun a => { a with shockHold := true }) else s).is (shmSv k n) =
      s.is (shmSv k n) := by
    split
    · rfl
    · rfl
  rw [modSv_set, modAv_hold, shockFallOn, his]

theorem shockFallOn_is (f : Fld) : (shockFallOn k s n).is f = s.is f := by
  rw [shockFallOn_eq]
  rfl

theorem shockFallOn_untouched : Untouched [.av, .svo] s (shockFallOn k s n) := by
  rw [shockFallOn_eq]
  exact ((Untouched.refl _ s).modAv (by simp) n _).modSv (by simp) n _

theorem shockFallOn_hold : ((shockFallOn k s n).avn m).shockHold =
    ((s.avn m).shockHold || (decide (m = n) && s.is (shmAv k m))) := by
  rw [shockFallOn_eq, avn_of_av_eq (State.modSv_av ..)]
  by_cases hmn : m = n
  · subst hmn
    simp
  · rw [(modAv_only s n _).2.1 m hmn]
    simp [hmn]

theorem shockFallOn_set : ((shockFallOn k s n).svo.get m).shockSet =
    ((s.svo.get m).shockSet || (decide (m = n) && s.is (shmSv k m))) := by
  rw [shockFallOn_eq]
  by_cases hmn : m = n
  · subst hmn
    simp
  · rw [OtherServos.modSv (.refl n _) _ m hmn]
    simp [hmn]

end Fall

section FallAll
variable {k : Fin 2}

theorem shockFallAll_untouched (l : List (Fin 4)) (s : State) : Untouched [.av, .svo] s (l.foldl (shockFallOn k) s) :=
  foldl_untouched (shockFallOn_untouched k) l s

theorem shockFallAll_hold (l : List (Fin 4)) (s : State) (m : Fin 4) : ((l.foldl (shockFallOn k) s).avn m).shockHold =
    ((s.avn m).shockHold || (decide (m ∈ l) && s.is (shmAv k m))) := by
  induction l generalizing s with
  | nil => simp
  | cons n l ih =>
    rw [List.foldl_cons, ih, shockFallOn_hold, shockFallOn_is]
    by_cases hmn : m = n <;> cases s.is (shmAv k m) <;> simp [hmn]

theorem shockFallAll_set (l : List (Fin 4)) (s : State) (m : Fin 4) : ((l.foldl (shockFallOn k) s).svo.get m).shockSet =
    ((s.svo.get m).shockSet || (decide (m ∈ l) && s.is (shmSv k m))) := by
  induction l generalizing s with
  | nil => simp
  | cons n l ih =>
    rw [List.foldl_cons, ih, shockFallOn_set, shockFallOn_is]
    by_cases hmn : m = n <;> cases s.is (shmSv k m) <;> simp [hmn]

end FallAll

theorem shockFall_spec (s : State) (h : s.shock1 = true) : ∃ t, exec (.shockFall 1) s = .next t ∧ t.shock1 = false ∧
    t.shock0 = s.shock0 ∧
    (∀ n, (t.avn n).shockHold = ((s.avn n).shockHold || decide (s.get (AV_WINHCTL_SHM1 n) = 1))) ∧
    (∀ n, (t.svo.get n).shockSet = ((s.svo.get n).shockSet || decide (s.get (SVO_SHK_SHM1 n) = 1))) ∧
    Untouched [.shock, .av, .svo] s t := by
  have hlow : Untouched [.shock] s (s.setShock 1 false) := by
    intro p hp
    cases p <;> simp_all [Part.same, State.setShock]
  have hrun : shockFall 1 s = all4.foldl (shockFallOn 1) (s.setShock 1 false) := by
    simp [shockFall, h]
  have hall := shockFallAll_untouched (k := 1) all4 (s.setShock 1 false)
  obtain ⟨h0, h1⟩ := hall .shock (by decide)
  refine ⟨shockFall 1 s, rfl, ?_⟩
  rw [hrun]
  refine ⟨h1, h0, fun n => ?_, fun n => ?_, (hlow.mono (by simp)).trans (hall.mono (by simp))⟩
  · rw [shockFallAll_hold, decide_eq_true (mem_all4 n), Bool.true_and, ← s.is_eq_decide_one (f := AV_WINHCTL_SHM1 n) rfl]
    rfl
  · rw [shockFallAll_set, decide_eq_true (mem_all4 n), Bool.true_and, ← s.is_eq_decide_one (f := SVO_SHK_SHM1 n) rfl]
    rfl

/-! ### Preamp faults (R150 to R152) -/

/-- The state as PFLTn_N falls, before write gate answers it. -/
def State.preampFaultAt (s : State) (n : Fin 4) : State := (s.modAv n (fun a => { a with pflt := true })).raise (avSrc n 67)

theorem preampFault_of_clear {s : State} {n : Fin 4} (h : (s.avn n).pflt = false) :
    preampFault n s = (s.preampFaultAt n).inhibit n 2 := by
  rw [preampFault, h]
  exact if_neg Bool.false_ne_true

theorem preampFaultAt_avn (s : State) (n : Fin 4) : (s.preampFaultAt n).avn n = { s.avn n with pflt := true } := by
  rw [State.preampFaultAt, State.avn_raise, State.avn_modAv_self]

theorem preampFaultAt_seq (s : State) (n : Fin 4) : (s.preampFaultAt n).seq n = s.seq n :=
  (congrArg Avenue.seq (preampFaultAt_avn s n) :)

theorem preampFaultAt_frame (s : State) (n : Fin 4) : AvenueFrame n [] [.av, .flt] s (s.preampFaultAt n) :=
  ((AvenueFrame.refl n [] _ s).modAv (by simp) _).raise (by simp) _ _

theorem preampFault_idle_spec (s : State) (n : Fin 4) (hclear : (s.avn n).pflt = false) (hw : s.writing n = false) :
    ∃ t, exec (.preampFaultInput n) s = .next t ∧ (t.avn n).pflt = true ∧ (t.avn n).wg = false ∧
      Raised1 (428 + 96 * n.val + 67) 0 s t ∧ OtherAvenues n s t ∧ Untouched [.av, .flt] s t := by
  obtain ⟨rs, hgate⟩ := dropGate_avn (s.preampFaultAt n) n
  obtain ⟨hother, -, hparts⟩ := (preampFaultAt_frame s n).dropGate (by simp)
  refine ⟨preampFault n s, rfl, ?_⟩
  rw [preampFault_of_clear hclear, inhibit_of_idle ((writing_congr (preampFaultAt_seq s n)).trans hw)]
  refine ⟨?_, dropGate_wg .., ?_, hother, hparts⟩
  · rw [hgate, preampFaultAt_avn]
  · exact (dropGate_flt ..).trans rfl

theorem preampFault_writing_spec (s : State) (n : Fin 4) (hclear : (s.avn n).pflt = false) (hw : s.writing n = true)
    (hvalid : s.get (AV_WFSTAT_VALID n) = 0) :
    ∃ t, exec (.preampFaultInput n) s = .next t ∧ (t.avn n).pflt = true ∧ (t.avn n).wg = false ∧
      ((t.seq n).op.map MediaOp.ended) = some 5 ∧ (t.seq n).arms = [] ∧ (t.seq n).slotRun = none ∧
      t.get (AV_WFSTAT_VALID n) = 1 ∧ t.get (AV_WFSTAT_FIRST n) = 2 ∧
      t.get (AV_WFCNT_FAULTS n) = min (2 ^ (AV_WFCNT_FAULTS n).wid - 1) (s.get (AV_WFCNT_FAULTS n) + 1) ∧
      t.flt.inbox = s.flt.inbox ++ [⟨428 + 96 * n.val + 67, s.time, 0, false⟩, ⟨428 + 96 * n.val + 64, s.time, 0, false⟩] ∧
      OtherAvenues n s t ∧ Untouched [.regs, .av, .flt] s t := by
  obtain ⟨o, hop, h0⟩ := open_of_writing hw
  have hop' : ((s.preampFaultAt n).seq n).op = some o := by rw [preampFaultAt_seq, hop]
  have hfault : preampFault n s = (s.preampFaultAt n).writeFault n 2 := by
    rw [preampFault_of_clear hclear, State.inhibit, (writing_congr (preampFaultAt_seq s n)).trans hw]
    rfl
  obtain ⟨hother, -, hparts⟩ := preampFaultAt_frame s n
  have honly : AvenueOnly n s (s.preampFaultAt n) := ⟨hother, hparts.mono (by simp)⟩
  obtain ⟨hother', hparts'⟩ := honly.writeFault 2
  refine ⟨preampFault n s, rfl, ?_⟩
  rw [hfault]
  obtain ⟨rs, havn⟩ := writeFault_fresh_avn hop' h0 hvalid (c := 2) (by decide)
  have hseq := congrArg Avenue.seq havn
  refine ⟨?_, ?_, ?_, congrArg Seq.arms hseq, congrArg Seq.slotRun hseq, writeFault_fresh_valid hop' h0 hvalid (by decide),
    writeFault_fresh_first hop' h0 hvalid (by decide) (by decide), writeFault_fresh_faults hop' h0 hvalid (by decide), ?_,
    hother', hparts'⟩
  · rw [havn, preampFaultAt_avn]
  · rw [havn]
  · exact congrArg (fun q => q.op.map MediaOp.ended) hseq
  · rw [writeFault_fresh_inbox hop' h0 hvalid (by decide), State.preampFaultAt, State.raise_flt, List.append_assoc]
    rfl

/-! ### SWINH (R150) -/

theorem softwareInhibit_spec (s : State) (n : Fin 4) (hclear : s.get (AV_WINHCTL_SWINH n) = 0) (hw : s.writing n = false) :
    ∃ t, exec (.softwareWriteInhibit n) s = .next t ∧ t.get (AV_WINHCTL_SWINH n) = 1 ∧ (t.avn n).wg = false ∧
      OtherAvenues n s t ∧ Frame [AV_WINHCTL_SWINH n] [.regs, .av] s t := by
  have hidle : (s.putb (AV_WINHCTL_SWINH n) true).writing n = false :=
    (writing_congr (congrArg Avenue.seq (State.avn_put ..))).trans hw
  have hrun : softwareInhibit n s = (s.putb (AV_WINHCTL_SWINH n) true).dropGate n := by
    simp only [softwareInhibit, State.is_of_get_zero hclear, Bool.false_eq_true, if_false, inhibit_of_idle hidle]
  have hframe := ((AvenueFrame.refl n [AV_WINHCTL_SWINH n] [.regs, .av] s).put (List.mem_singleton_self _) (by simp) 1).dropGate (by simp)
  refine ⟨softwareInhibit n s, rfl, ?_⟩
  rw [hrun]
  refine ⟨?_, dropGate_wg .., hframe⟩
  rw [State.get_of_regs_eq (dropGate_regs ..), State.get_putb_self s _ _ (Nat.le_of_ble_eq_true rfl) Nat.one_pos]
  rfl

/-- Settles O18: with nothing writing each cause drops write gate; a preamp fault during a write is a write fault. -/
theorem writeInhibits : Obligations.WriteInhibits :=
  ⟨shockRise_spec, shockFall_spec, fun s n => ⟨_, rfl, modAv_only s n _⟩,
    fun s n => ⟨_, rfl, State.svo_modSv_self .., .modSv (.refl n s) _, .modSv (.refl _ s) (by simp) n _⟩,
    preampFault_idle_spec, preampFault_writing_spec, softwareInhibit_spec, fun s n => ⟨_, rfl, modAv_only s n _⟩⟩

end Sys2Proof.Machine
end

section
/-! SUPPORT. The servo engine, its Avenue and the spindle's HOLD (R196, R203 to R210, R249): what a change of the engine's state, a
failed request and the lane's moves leave alone, and what STAT of the engine shows. -/

namespace Sys2Proof.Machine

/-! ### One engine, its Avenue and some words changed -/

/-- No more Avenues and servo engines than `n`, and no more words than `ws`, differ; no event is lost. -/
structure EngineMoves (n : Fin 4) (ws : List Nat) (s t : State) : Prop where
  avenues : OtherAvenues n s t
  servos : OtherServos n s t
  words : WordsBut ws s t
  inbox : s.flt.inbox ⊆ t.flt.inbox

/-- The words that a write fault writes (R151). -/
def faultWords (n : Fin 4) : List Nat := [AV_WFSTAT n, AV_WFCNT n]

/-- The words that a move of the lane between its states writes. -/
def laneWords (n : Fin 4) : List Nat := AV_TLSTAT n :: faultWords n

/-- The words that a change of the engine's state writes. -/
def engineWords (n : Fin 4) : List Nat := SVO_STAT n :: SPN_STAT :: faultWords n

namespace EngineMoves

variable {n : Fin 4} {ws : List Nat} {s t u : State}

theorem refl (n : Fin 4) (ws : List Nat) (s : State) : EngineMoves n ws s s :=
  ⟨.refl n s, .refl n s, .refl ws s, List.Subset.refl _⟩

theorem trans (h : EngineMoves n ws s t) (h' : EngineMoves n ws t u) : EngineMoves n ws s u :=
  ⟨h.avenues.trans h'.avenues, fun m hm => (h'.servos m hm).trans (h.servos m hm), h.words.trans h'.words,
    List.Subset.trans h.inbox h'.inbox⟩

theorem get (h : EngineMoves n ws s t) {g : Fld} (hg : g.addr ∉ ws) : t.get g = s.get g := State.get_of_rd_eq (h.words _ hg)

theorem put (h : EngineMoves n ws s t) {f : Fld} (hf : f.addr ∈ ws) (v : Nat) : EngineMoves n ws s (t.put f v) :=
  ⟨h.avenues.of_av_eq rfl, h.servos.of_svo_eq rfl, h.words.put hf v, h.inbox⟩

theorem putb (h : EngineMoves n ws s t) {f : Fld} (hf : f.addr ∈ ws) (b : Bool) : EngineMoves n ws s (t.putb f b) := h.put hf _

theorem bump (h : EngineMoves n ws s t) {f : Fld} (hf : f.addr ∈ ws) (k : Nat) : EngineMoves n ws s (t.bump f k) := h.put hf _

theorem modAv (h : EngineMoves n ws s t) (f : Avenue → Avenue) : EngineMoves n ws s (t.modAv n f) :=
  ⟨h.avenues.modAv f, h.servos.of_svo_eq rfl, h.words.of_regs_eq rfl, h.inbox⟩

theorem modSv (h : EngineMoves n ws s t) (f : Servo → Servo) : EngineMoves n ws s (t.modSv n f) :=
  ⟨h.avenues.of_av_eq rfl, h.servos.modSv f, h.words.of_regs_eq rfl, h.inbox⟩

theorem modSpn (h : EngineMoves n ws s t) (f : Spindle → Spindle) : EngineMoves n ws s (t.modSpn f) :=
  ⟨h.avenues.of_av_eq rfl, h.servos.of_svo_eq rfl, h.words.of_regs_eq rfl, h.inbox⟩

theorem raise (h : EngineMoves n ws s t) (src d : Nat) : EngineMoves n ws s (t.raise src d) :=
  ⟨h.avenues.raise src d, h.servos.of_svo_eq rfl, h.words.of_regs_eq rfl, List.subset_append_of_subset_left _ h.inbox⟩

theorem raiseIf (h : EngineMoves n ws s t) (b : Bool) (src d : Nat) : EngineMoves n ws s (t.raiseIf b src d) := by
  cases b
  · exact h
  · exact h.raise src d

theorem ite {c : Prop} [Decidable c] (ht : EngineMoves n ws s t) (hu : EngineMoves n ws s u) :
    EngineMoves n ws s (if c then t else u) := by
  split
  · exact ht
  · exact hu

/-! Write gate, write faults and the end of an operation. -/

theorem dropGate (h : EngineMoves n ws s t) : EngineMoves n ws s (t.dropGate n) := ite ((h.modAv _).modAv _) h

theorem endOp (h : EngineMoves n ws s t) (st : Nat) : EngineMoves n ws s (t.endOp n st) := by
  unfold State.endOp
  split
  · exact h
  · exact ite (h.modAv _) h

theorem writeFault (h : EngineMoves n ws s t) (hw : faultWords n ⊆ ws) (c : Nat) : EngineMoves n ws s (t.writeFault n c) := by
  obtain ⟨hstat, hcnt⟩ : AV_WFSTAT n ∈ ws ∧ AV_WFCNT n ∈ ws := by simpa [faultWords] using hw
  unfold State.writeFault
  split
  · exact h
  next o _ =>
    dsimp only
    have hcap := EngineMoves.ite (c := t.is (AV_WFSTAT_VALID n)) h
      (((((h.put (f := AV_WFSTAT_FIRST n) hstat c).put (f := AV_WFSTAT_CAUSE n) hstat (t.causes n)).put
        (f := AV_WFSTAT_FACE n) hstat o.face).put (f := AV_WFSTAT_SLOT n) hstat (t.faultSlot n)).put
        (f := AV_WFSTAT_VALID n) hstat 1)
    have hend := ((hcap.bump (f := AV_WFCNT_FAULTS n) hcnt 1).dropGate.endOp 5).modAv
      (fun a => { a with seq := { a.seq with slotRun := none } })
    exact .raise (.ite (hend.modAv _) hend) _ _

theorem inhibit (h : EngineMoves n ws s t) (hw : faultWords n ⊆ ws) (c : Nat) : EngineMoves n ws s (t.inhibit n c) :=
  ite ((h.raiseIf _ _ _).writeFault hw c) h.dropGate

/-! The lane. -/

theorem flagLane (h : EngineMoves n ws s t) : EngineMoves n ws s (t.flagLane n) := by
  rw [State.flagLane, State.modOp, State.modSeq]
  exact h.modAv _

theorem beginAttempt (h : EngineMoves n ws s t) (hw : AV_TLSTAT n ∈ ws) : EngineMoves n ws s (t.beginAttempt n) := by
  rw [State.beginAttempt, State.modLane]
  exact (h.put (f := AV_TLSTAT_FMISM n) hw 0).modAv _

theorem laneTo (h : EngineMoves n ws s t) (hw : laneWords n ⊆ ws) (st : Nat) : EngineMoves n ws s (t.laneTo n st) := by
  obtain ⟨hstat, hfault⟩ := List.cons_subset.1 hw
  have hst := h.put (f := AV_TLSTAT_STATE n) hstat st
  have hleft := EngineMoves.ite (c := t.laneTracks n && !(st == 3 || st == 4)) (hst.flagLane.inhibit hfault 3) hst
  have hbegin := EngineMoves.ite (c := st = 2) (hleft.beginAttempt hstat) hleft
  exact .ite (hbegin.endOp 4) hbegin

theorem laneSeekStart (h : EngineMoves n ws s t) (hw : laneWords n ⊆ ws) : EngineMoves n ws s (t.laneSeekStart n) :=
  ite h ((h.laneTo hw 1).modAv _)

/-! The engine's state, and the spindle's HOLD. -/

theorem spnTo (h : EngineMoves n ws s t) (hw : SPN_STAT ∈ ws) (st : Nat) : EngineMoves n ws s (t.spnTo st) := by
  have hst := h.put (f := SPN_STAT_STATE) hw st
  have hready := EngineMoves.ite (c := st = 2) hst
    ((hst.putb (f := SPN_STAT_READY) hw false).modSpn fun p => { p with inBand := false })
  exact putb (f := SPN_STAT_RETOK) (ite (hready.modSpn _) (ite (hready.modSpn _) hready)) hw _

theorem holdCheck (h : EngineMoves n ws s t) (hw : SPN_STAT ∈ ws) : EngineMoves n ws s t.holdCheck := ite (h.spnTo hw 4) h

theorem updateWinh (h : EngineMoves n ws s t) (hstat : SVO_STAT n ∈ ws) (hw : faultWords n ⊆ ws) :
    EngineMoves n ws s (t.updateWinh n) :=
  ite ((h.putb (f := SVO_STAT_WINH n) hstat _).inhibit hw 1) (h.putb (f := SVO_STAT_WINH n) hstat _)

theorem svTo (h : EngineMoves n ws s t) (hw : engineWords n ⊆ ws) (st : Nat) : EngineMoves n ws s (t.svTo n st) := by
  obtain ⟨hstat, hspn, hfault⟩ : SVO_STAT n ∈ ws ∧ SPN_STAT ∈ ws ∧ faultWords n ⊆ ws := by
    simpa [engineWords, List.cons_subset] using hw
  have hst := h.put (f := SVO_STAT_STATE n) hstat st
  have hsettle := EngineMoves.ite (c := st = 4) (hst.modSv fun v => { v with settleRun := 0, excursion := false }) hst
  exact ((hsettle.putb (f := SVO_STAT_ONTRK n) hstat _).updateWinh hstat hfault).holdCheck hspn

theorem dropReq (h : EngineMoves n ws s t) (hw : SVO_CNT0 n ∈ ws) : EngineMoves n ws s (t.dropReq n) :=
  ite ((((h.bump (f := SVO_CNT0_SEEKFAIL n) hw 1).raise _ _).modSv _).endOp 8) h

end EngineMoves

/-! ### What STAT shows outside FOLLOW (R208, R209) -/

section Stat
variable {s : State} {n : Fin 4}

theorem holdCheck_wordsBut (s : State) : WordsBut [SPN_STAT] s s.holdCheck :=
  ((EngineMoves.refl 0 [SPN_STAT] s).holdCheck (List.mem_singleton_self _)).words

theorem svoStat_ne_spnStat (n : Fin 4) : SVO_STAT n ≠ SPN_STAT := by decide +revert

theorem svoStat_not_mem_laneWords (n : Fin 4) : SVO_STAT n ∉ laneWords n := by decide +revert

theorem svoStat_not_mem_faultWords (n : Fin 4) : SVO_STAT n ∉ faultWords n := by decide +revert

theorem put_regs_congr {t u : State} (h : u.regs = t.regs) (f : Fld) (v : Nat) : (u.put f v).regs = (t.put f v).regs := by
  rw [State.put, State.put, State.wr, State.wr, State.rd_of_regs_eq h, h]

theorem updateOntrk_outside_follow (h : s.svState n ≠ 5) : s.updateOntrk n = s.putb (SVO_STAT_ONTRK n) false := by
  rw [State.updateOntrk, beq_eq_false_iff_ne.2 h, Bool.false_and]

theorem updateWinh_outside_follow (h : s.svState n ≠ 5) {g : Fld} (hg : g.addr = SVO_STAT n) :
    (s.updateWinh n).get g = (s.putb (SVO_STAT_WINH n) true).get g := by
  have hsafe : s.writeSafe n = false := by rw [State.writeSafe, beq_eq_false_iff_ne.2 h, Bool.false_and]
  unfold State.updateWinh
  simp only [hsafe, Bool.not_false]
  split
  · exact State.get_of_rd_eq (inhibit_wordsBut _ n 1 _ (hg ▸ svoStat_not_mem_faultWords n))
  · rfl

/-- STAT of an engine that enters a state other than FOLLOW. -/
theorem svTo_stat {st : Nat} (h5 : st ≠ 5) (h16 : st < 16) {g : Fld} (hg : g.addr = SVO_STAT n) : (s.svTo n st).get g =
    (((s.put (SVO_STAT_STATE n) st).putb (SVO_STAT_ONTRK n) false).putb (SVO_STAT_WINH n) true).get g := by
  have hentered : ∀ u : State, u.regs = (s.put (SVO_STAT_STATE n) st).regs → ((u.updateOntrk n).updateWinh n).holdCheck.get g =
      (((s.put (SVO_STAT_STATE n) st).putb (SVO_STAT_ONTRK n) false).putb (SVO_STAT_WINH n) true).get g := by
    intro u hu
    have hst : u.svState n = st :=
      (State.get_of_regs_eq hu _).trans (State.get_put_of_lt s (Nat.le_of_ble_eq_true rfl) h16)
    have hst' : (u.putb (SVO_STAT_ONTRK n) false).svState n = st :=
      (State.get_putb_elsewhere _ _ _ _ (.inr (.inl (Nat.le_of_ble_eq_true rfl)))).trans hst
    rw [State.get_of_rd_eq (holdCheck_wordsBut _ _ (by rw [hg, List.mem_singleton]; exact svoStat_ne_spnStat n)),
      updateOntrk_outside_follow (by rw [hst]; exact h5), updateWinh_outside_follow (by rw [hst']; exact h5) hg]
    exact State.get_of_regs_eq (put_regs_congr (put_regs_congr hu _ _) _ _) g
  unfold State.svTo
  dsimp only
  split
  · exact hentered _ (State.modSv_regs ..)
  · exact hentered _ rfl

theorem svTo_svState {st : Nat} (h5 : st ≠ 5) (h16 : st < 16) : (s.svTo n st).svState n = st := by
  rw [State.svState, svTo_stat h5 h16 rfl, State.get_putb_elsewhere _ _ _ _ (.inr (.inl (Nat.le_of_ble_eq_true rfl))),
    State.get_putb_elsewhere _ _ _ _ (.inr (.inl (Nat.le_of_ble_eq_true rfl)))]
  exact State.get_put_of_lt s (Nat.le_of_ble_eq_true rfl) h16

theorem svTo_ontrk {st : Nat} (h5 : st ≠ 5) (h16 : st < 16) : (s.svTo n st).get (SVO_STAT_ONTRK n) = 0 := by
  rw [svTo_stat h5 h16 rfl, State.get_putb_elsewhere _ _ _ _ (.inr (.inl (Nat.le_of_ble_eq_true rfl))),
    State.get_putb_self _ _ _ (Nat.le_of_ble_eq_true rfl) Nat.one_pos]
  rfl

theorem svTo_winh {st : Nat} (h5 : st ≠ 5) (h16 : st < 16) : (s.svTo n st).get (SVO_STAT_WINH n) = 1 := by
  rw [svTo_stat h5 h16 rfl, State.get_putb_self _ _ _ (Nat.le_of_ble_eq_true rfl) Nat.one_pos]
  rfl

theorem svTo_target {st : Nat} (h5 : st ≠ 5) (h16 : st < 16) : (s.svTo n st).target n = s.target n := by
  rw [State.target, svTo_stat h5 h16 rfl, State.get_putb_elsewhere _ _ _ _ (.inr (.inr (Nat.le_of_ble_eq_true rfl))),
    State.get_putb_elsewhere _ _ _ _ (.inr (.inr (Nat.le_of_ble_eq_true rfl))),
    State.get_put_elsewhere _ _ _ _ (.inr (.inr (Nat.le_of_ble_eq_true rfl)))]
  rfl

end Stat

/-! ### What an engine's change of state leaves of the engines -/

section Svo
variable (s : State) (n : Fin 4)

theorem modSpn_untouched (f : Spindle → Spindle) : Untouched [.spn] s (s.modSpn f) := by
  intro p hp
  cases p <;> simp_all [Part.same, State.modSpn]

theorem spnTo_untouched (st : Nat) : Untouched [.regs, .spn] s (s.spnTo st) := by
  have hspn : ∀ {u : State} (f), Untouched [.regs, .spn] s u → Untouched [.regs, .spn] s (u.modSpn f) :=
    fun f h => h.step (modSpn_untouched _ f) (by simp)
  have hst : Untouched [.regs, .spn] s (s.put SPN_STAT_STATE st) := .put (.refl _ s) (by simp) _ _
  have hready : Untouched [.regs, .spn] s (if st = 2 then s.put SPN_STAT_STATE st
      else ((s.put SPN_STAT_STATE st).putb SPN_STAT_READY false).modSpn fun p => { p with inBand := false }) := by
    split
    · exact hst
    · exact hspn _ (hst.put (by simp) SPN_STAT_READY _)
  refine .put ?_ (by simp) SPN_STAT_RETOK _
  split
  · exact hspn _ hready
  · split
    · exact hspn _ hready
    · exact hready

theorem holdCheck_svo : s.holdCheck.svo = s.svo := by
  unfold State.holdCheck
  split
  · exact spnTo_untouched s 4 .svo (by decide)
  · rfl

theorem updateWinh_svo : (s.updateWinh n).svo = s.svo := by
  have hput := (AvenueOnly.refl n s).put (SVO_STAT_WINH n) (if !s.writeSafe n then 1 else 0)
  exact (AvenueOnly.ite (hput.inhibit 1) hput).2 .svo (by decide)

theorem svTo_svo {st : Nat} (h4 : st ≠ 4) : (s.svTo n st).svo = s.svo := by
  rw [State.svTo, holdCheck_svo, updateWinh_svo, State.updateOntrk, State.putb_svo, if_neg h4, State.put_svo]

theorem svTo_settle : (s.svTo n 4).svo.get n = { s.svo.get n with settleRun := 0, excursion := false } := by
  rw [State.svTo, holdCheck_svo, updateWinh_svo, State.updateOntrk, State.putb_svo, if_pos rfl, State.svo_modSv_self, State.put_svo]

theorem laneSeekStart_svo : (s.laneSeekStart n).svo = s.svo :=
  (AvenueOnly.ite (.refl n s) (((AvenueOnly.refl n s).laneTo 1).modAv _)).2 .svo (by decide)

end Svo

end Sys2Proof.Machine
end

section
/-! SUPPORT. The Kazq link (R155 to R160): when it starts a frame, and what a frame that ends leaves. -/

namespace Sys2Proof.Machine

/-! ### The link's next frame (R158) -/

theorem kzStart_of_busy {a : Avenue} {x : KazqFrame × Nat} (h : a.kazq.cur = some x) : kzStart a = a := by
  simp only [kzStart, h]

theorem kzStart_of_empty {a : Avenue} (hseq : a.kazq.seqQ = []) (hfw : a.kazq.fwQ = []) : kzStart a = a := by
  simp only [kzStart, hseq, hfw]
  split
  · rfl
  · rfl

/-- A frame of firmware that waits is started or waits on. -/
theorem kzStart_keeps_fw {a : Avenue} {f : KazqFrame} (h : f ∈ a.kazq.fwQ) :
    (kzStart a).kazq.cur.map Prod.fst = some f ∨ f ∈ (kzStart a).kazq.fwQ := by
  unfold kzStart
  dsimp only
  split
  · exact .inr h
  · split
    · split
      · exact .inr h
      · exact .inr h
    next g gs _ hfw =>
      rw [hfw] at h
      split
      · rcases List.mem_cons.1 h with rfl | hgs
        · exact .inl rfl
        · exact .inr hgs
      · rw [hfw]
        exact .inr h
    · exact .inr h

/-! ### A command (R158) -/

/-- The state with a frame in KZCMD. -/
def State.kazqLoaded (s : State) (n : Fin 4) (rd : Bool) (addr : Fin 128) (data : BitVec 16) : State :=
  ((s.putb (AV_KZCMD_RD n) rd).put (AV_KZCMD_ADDR n) addr.val).put (AV_KZCMD_DATA n) data.toNat

section Loaded
variable (s : State) (n : Fin 4) (rd : Bool) (addr : Fin 128) (data : BitVec 16)

theorem kazqLoaded_frame : AvenueFrame n [AV_KZCMD_RD n, AV_KZCMD_ADDR n, AV_KZCMD_DATA n] [.regs] s (s.kazqLoaded n rd addr data) :=
  (((AvenueFrame.refl ..).put (f := AV_KZCMD_RD n) (by simp) (by simp) _).put (f := AV_KZCMD_ADDR n) (by simp) (by simp) _).put
    (f := AV_KZCMD_DATA n) (by simp) (by simp) _

theorem kazqLoaded_data : (s.kazqLoaded n rd addr data).get (AV_KZCMD_DATA n) = data.toNat :=
  State.get_put_of_lt _ (Nat.le_of_ble_eq_true rfl) data.isLt

theorem kazqLoaded_addr : (s.kazqLoaded n rd addr data).get (AV_KZCMD_ADDR n) = addr.val :=
  (State.get_put_elsewhere _ _ _ _ (.inr (.inl (Nat.le_of_ble_eq_true rfl)))).trans
    (State.get_put_of_lt _ (Nat.le_of_ble_eq_true rfl) addr.isLt)

theorem kazqLoaded_rd : (s.kazqLoaded n rd addr data).is (AV_KZCMD_RD n) = rd := by
  have hget : (s.kazqLoaded n rd addr data).get (AV_KZCMD_RD n) = if rd then 1 else 0 := by
    rw [State.kazqLoaded, State.get_put_elsewhere _ _ _ _ (.inr (.inl (Nat.le_of_ble_eq_true rfl))),
      State.get_put_elsewhere _ _ _ _ (.inr (.inl (Nat.le_of_ble_eq_true rfl))),
      State.get_putb_self _ _ _ (Nat.le_of_ble_eq_true rfl) Nat.one_pos]
  rw [State.is, hget]
  cases rd <;> rfl

theorem kazqLoaded_busy : (s.kazqLoaded n rd addr data).get (AV_KZSTAT_BUSY n) = s.get (AV_KZSTAT_BUSY n) :=
  (kazqLoaded_frame s n rd addr data).get (by
    simp [Fld.apart, AV_KZCMD, AV_KZSTAT, AV_KZCMD_RD, AV_KZCMD_ADDR, AV_KZCMD_DATA, AV_KZSTAT_BUSY])

theorem kazqLoaded_avn : (s.kazqLoaded n rd addr data).avn n = s.avn n :=
  avn_of_av_eq ((kazqLoaded_frame s n rd addr data).2.2 .av (by decide)) n

end Loaded

section Command
variable {s : State} {n : Fin 4} {rd : Bool} {addr : Fin 128} {data : BitVec 16} (hidle : s.get (AV_KZSTAT_BUSY n) = 0)
include hidle

theorem kazqCommand_of_accepted (h : (s.seq n).op = none ∨ 3 < addr.val) : kazqCommand n rd addr data s =
    (((s.kazqLoaded n rd addr data).putb (AV_KZSTAT_BUSY n) true).modKz n (fun k =>
      { k with fwQ := k.fwQ ++ [⟨rd, addr.val, data.toNat, false⟩] })).modAv n kzStart := by
  have hbusy := (kazqLoaded_busy s n rd addr data).trans hidle
  have hop : ((s.kazqLoaded n rd addr data).seq n).op = (s.seq n).op := by rw [State.seq, kazqLoaded_avn]; rfl
  have hopen : ¬ (addr.val ≤ 3 ∧ (s.seq n).op.isSome = true) := by
    rintro ⟨hle, hsome⟩
    rcases h with hnone | hlt
    · rw [hnone] at hsome
      cases hsome
    · omega
  rw [kazqCommand, ← State.kazqLoaded, kazqGo, State.is_of_get_zero hbusy]
  simp only [Bool.false_eq_true, if_false, kazqLoaded_rd, kazqLoaded_addr, kazqLoaded_data, hop, if_neg hopen]

theorem kazqCommand_of_refused (hop : (s.seq n).op.isSome = true) (ha : addr.val ≤ 3) :
    kazqCommand n rd addr data s = (s.kazqLoaded n rd addr data).put (AV_KZSTAT_RESULT n) 3 := by
  have hbusy := (kazqLoaded_busy s n rd addr data).trans hidle
  have hop' : ((s.kazqLoaded n rd addr data).seq n).op = (s.seq n).op := by rw [State.seq, kazqLoaded_avn]; rfl
  rw [kazqCommand, ← State.kazqLoaded, kazqGo, State.is_of_get_zero hbusy]
  simp only [Bool.false_eq_true, if_false, kazqLoaded_addr, hop', if_pos (And.intro ha hop)]

end Command

/-! ### A frame ends (R157) -/

section FrameEnd
variable {s : State} {n : Fin 4} {f : KazqFrame} {tries : Nat} {r : KazqReply}
  (hcur : (s.avn n).kazq.cur = some (f, tries))
include hcur

/-- A missing acknowledge within KRETRY: the frame is sent again. -/
theorem kazqFrameEnd_of_repeat (hno : (if f.read then r.crcOk else r.ack) = false) (hlt : tries < s.get (AV_WRCTL_KRETRY n)) :
    kazqFrameEnd n r s = s.modKz n (fun k => { k with cur := some (f, tries + 1) }) := by
  simp only [kazqFrameEnd, modAv_of_fixed (kzStart_of_busy hcur), hcur, hno, hlt, Bool.not_false, decide_true, Bool.and_self, if_true]

theorem kazqFrameEnd_of_done (hok : (if f.read then r.crcOk else r.ack) = true) : kazqFrameEnd n r s =
    (kazqDone n f r.data (s.modKz n (fun k => { k with cur := none }))).modAv n kzStart := by
  simp only [kazqFrameEnd, modAv_of_fixed (kzStart_of_busy hcur), hcur, hok, Bool.not_true, Bool.false_and, Bool.false_eq_true,
    if_false, if_true]

end FrameEnd

theorem kazqDone_of_read {n : Fin 4} {f : KazqFrame} (hr : f.read = true) (hf : f.seq = false) (data : Nat) (s : State) :
    kazqDone n f data s = ((s.putb (AV_KZSTAT_BUSY n) false).put (AV_KZSTAT_RESULT n) 0).put (AV_KZSTAT_DATA n) data := by
  simp only [kazqDone, hr, hf, Bool.false_eq_true, if_false, if_true]

theorem kazqDone_of_write {n : Fin 4} {f : KazqFrame} (hr : f.read = false) (hf : f.seq = false) (data : Nat) (s : State) :
    kazqDone n f data s = ((kazqWritten n f s).putb (AV_KZSTAT_BUSY n) false).put (AV_KZSTAT_RESULT n) 0 := by
  simp only [kazqDone, hr, hf, Bool.false_eq_true, if_false]

end Sys2Proof.Machine
end

section
/-! SUPPORT. An Avenue that is disabled (R545): what that leaves alone, and the lane in OFF. -/

namespace Sys2Proof.Machine

/-- The words that an Avenue switched off and recorded in PWR_AVEN writes after its lane is OFF. -/
def offWords (n : Fin 4) : List Nat :=
  [AV_SEQSTAT n, AV_SEQCTL n, SVO_CTL n, SVO_CNT0 n, TIM_TDEXP0, TIM_TDEXP1, PWR_AVEN] ++ engineWords n

theorem EngineMoves.expect {n : Fin 4} {ws : List Nat} {s t : State} (h : EngineMoves n ws s t) (h0 : TIM_TDEXP0 ∈ ws)
    (h1 : TIM_TDEXP1 ∈ ws) (tds : List Nat) (b : Bool) : EngineMoves n ws s (t.expect tds b) := by
  induction tds generalizing t with
  | nil => exact h
  | cons d tds ih =>
    refine ih (h.putb (f := tdExpect d) ?_ b)
    unfold tdExpect
    split
    · exact h0
    · exact h1

/-- The lane is OFF and the rest of the Avenue follows it. -/
theorem disableAvenue_after_lane (s : State) (n : Fin 4) :
    EngineMoves n (offWords n) ((s.putb (AV_TLCTL_EN n) false).laneTo n 0) (s.disableAvenue n) := by
  have hseq := (((EngineMoves.refl n (offWords n) ((s.putb (AV_TLCTL_EN n) false).laneTo n 0)).dropGate.put
    (f := AV_SEQSTAT_STATE n) (by simp [offWords, AV_SEQSTAT_STATE]) 0).putb
    (f := AV_SEQCTL_RUN n) (by simp [offWords, AV_SEQCTL_RUN]) false).modAv
    (fun a => { a with seq := { a.seq with arms := [], owner := none } })
  have hsvo := ((hseq.putb (f := SVO_CTL_EN n) (by simp [offWords, SVO_CTL_EN]) false).dropReq (by simp [offWords])).svTo
    (List.subset_append_right ..) 0
  have hlink := (hsvo.modAv fun a => { a with kazq := { a.kazq with cur := none, seqQ := [], fwQ := [] } }).expect
    (by simp [offWords]) (by simp [offWords]) (laneDomains n ++ [20 + n.val]) false
  exact (hlink.putb (f := ⟨PWR_AVEN, n.val, 1⟩) (by simp [offWords]) false).raise 1134 0

theorem disableAvenue_lane (s : State) (n : Fin 4) : (s.disableAvenue n).get (AV_TLSTAT_STATE n) = 0 := by
  rw [(disableAvenue_after_lane s n).get (by decide +revert), laneTo_plain _ n (by decide) (by decide),
    laneMoved_state _ n (by decide)]

theorem disableAvenue_moves (s : State) (n : Fin 4) :
    EngineMoves n (AV_TLCTL n :: laneWords n ++ offWords n) s (s.disableAvenue n) := by
  have hlane := ((EngineMoves.refl n (AV_TLCTL n :: laneWords n ++ offWords n) s).putb (f := AV_TLCTL_EN n)
    (by simp [AV_TLCTL_EN]) false).laneTo (by simp) 0
  have hoff := disableAvenue_after_lane s n
  exact hlane.trans ⟨hoff.avenues, hoff.servos, hoff.words.mono (List.subset_append_right ..), hoff.inbox⟩

end Sys2Proof.Machine
end

section
/-! CERTIFICATE. The statement O19: the Kazq link (R149, R155 to R160) and preamp discovery (R161, R162, R545). -/

namespace Sys2Proof.Machine

/-! ### The link (R149, R155 to R160) -/

theorem kazqCommand_accepted_spec (s : State) (n : Fin 4) (rd : Bool) (addr : Fin 128) (data : BitVec 16)
    (hidle : s.get (AV_KZSTAT_BUSY n) = 0) (h : (s.seq n).op = none ∨ 3 < addr.val) :
    ∃ t, exec (.kazqCommand n rd addr data) s = .next t ∧ t.get (AV_KZSTAT_BUSY n) = 1 ∧
      t.get (AV_KZCMD_ADDR n) = addr.val ∧ t.get (AV_KZCMD_DATA n) = data.toNat ∧
      (let k := (t.avn n).kazq; (k.cur.map Prod.fst) = some ⟨rd, addr.val, data.toNat, false⟩ ∨
        ⟨rd, addr.val, data.toNat, false⟩ ∈ k.fwQ) ∧ OtherAvenues n s t ∧
      Frame [AV_KZSTAT_BUSY n, AV_KZCMD_RD n, AV_KZCMD_ADDR n, AV_KZCMD_DATA n] [.regs, .av] s t := by
  have hframe := ((((kazqLoaded_frame s n rd addr data).mono (gs := [AV_KZSTAT_BUSY n, AV_KZCMD_RD n, AV_KZCMD_ADDR n, AV_KZCMD_DATA n])
    (qs := [.regs, .av]) (by simp) (by simp)).put (f := AV_KZSTAT_BUSY n) (by simp) (by simp) 1).modAv (by simp) (fun a =>
      { a with kazq := { a.kazq with fwQ := a.kazq.fwQ ++ [⟨rd, addr.val, data.toNat, false⟩] } })).modAv (by simp) kzStart
  refine ⟨kazqCommand n rd addr data s, rfl, ?_⟩
  rw [kazqCommand_of_accepted hidle h]
  refine ⟨?_, ?_, ?_, ?_, hframe⟩
  · rw [State.get_modAv, State.modKz, State.get_modAv, State.get_putb_self _ _ _ (Nat.le_of_ble_eq_true rfl) Nat.one_pos, if_pos rfl]
  · rw [State.get_modAv, State.modKz, State.get_modAv, State.get_putb_elsewhere _ _ _ _ (.inl (avOffset_ne n (by decide))),
      kazqLoaded_addr]
  · rw [State.get_modAv, State.modKz, State.get_modAv, State.get_putb_elsewhere _ _ _ _ (.inl (avOffset_ne n (by decide))),
      kazqLoaded_data]
  · rw [State.avn_modAv_self, State.modKz, State.avn_modAv_self]
    exact kzStart_keeps_fw (List.mem_append_right _ (List.mem_singleton_self _))

theorem kazqCommand_refused_spec (s : State) (n : Fin 4) (rd : Bool) (addr : Fin 128) (data : BitVec 16)
    (hidle : s.get (AV_KZSTAT_BUSY n) = 0) (hop : (s.seq n).op.isSome = true) (ha : addr.val ≤ 3) :
    ∃ t, exec (.kazqCommand n rd addr data) s = .next t ∧ t.get (AV_KZSTAT_RESULT n) = 3 ∧ t.get (AV_KZSTAT_BUSY n) = 0 ∧
      Frame [AV_KZSTAT_RESULT n, AV_KZCMD_RD n, AV_KZCMD_ADDR n, AV_KZCMD_DATA n] [.regs] s t := by
  have hframe := ((kazqLoaded_frame s n rd addr data).mono
    (gs := [AV_KZSTAT_RESULT n, AV_KZCMD_RD n, AV_KZCMD_ADDR n, AV_KZCMD_DATA n]) (by simp) (List.Subset.refl _)).put
    (f := AV_KZSTAT_RESULT n) (by simp) (by simp) 3
  refine ⟨kazqCommand n rd addr data s, rfl, ?_⟩
  rw [kazqCommand_of_refused hidle hop ha]
  refine ⟨State.get_put_of_lt _ (Nat.le_of_ble_eq_true rfl) (Nat.le_of_ble_eq_true rfl), ?_, hframe.2⟩
  rw [State.get_put_elsewhere _ _ _ _ (.inr (.inl (Nat.le_of_ble_eq_true rfl))), kazqLoaded_busy, hidle]

/-- A frame of firmware that is done leaves BUSY 0 and RESULT 0, and no more fields than these and DATA have changed. -/
theorem kazqReported_frame {n : Fin 4} {s t : State} {fs : List Fld} (h : AvenueFrame n fs [.regs, .av] s t)
    (hbusy : AV_KZSTAT_BUSY n ∈ fs) (hresult : AV_KZSTAT_RESULT n ∈ fs) :
    AvenueFrame n fs [.regs, .av] s ((t.putb (AV_KZSTAT_BUSY n) false).put (AV_KZSTAT_RESULT n) 0) :=
  (h.put hbusy (by simp) _).put hresult (by simp) _

theorem kazqReported_busy (s : State) (n : Fin 4) :
    ((s.putb (AV_KZSTAT_BUSY n) false).put (AV_KZSTAT_RESULT n) 0).get (AV_KZSTAT_BUSY n) = 0 := by
  rw [State.get_put_elsewhere _ _ _ _ (.inr (.inl (Nat.le_of_ble_eq_true rfl))),
    State.get_putb_self _ _ _ (Nat.le_of_ble_eq_true rfl) Nat.one_pos]
  rfl

theorem kazqReported_result (s : State) (n : Fin 4) :
    ((s.putb (AV_KZSTAT_BUSY n) false).put (AV_KZSTAT_RESULT n) 0).get (AV_KZSTAT_RESULT n) = 0 :=
  State.get_put_of_lt _ (Nat.le_of_ble_eq_true rfl) (Nat.le_of_ble_eq_true rfl)

theorem kazqFrameEnd_read_spec (s : State) (n : Fin 4) (a tries : Nat) (r : KazqReply)
    (hcur : (s.avn n).kazq.cur = some (⟨true, a, 0, false⟩, tries)) (hseq : (s.avn n).kazq.seqQ = [])
    (hfw : (s.avn n).kazq.fwQ = []) (hok : r.crcOk = true) (hdata : r.data < 65536) :
    ∃ t, exec (.kazqFrameEnd n r) s = .next t ∧ t.get (AV_KZSTAT_BUSY n) = 0 ∧ t.get (AV_KZSTAT_RESULT n) = 0 ∧
      t.get (AV_KZSTAT_DATA n) = r.data ∧ (t.avn n).kazq.cur = none ∧ OtherAvenues n s t ∧
      Frame [AV_KZSTAT_BUSY n, AV_KZSTAT_RESULT n, AV_KZSTAT_DATA n] [.regs, .av] s t := by
  have hframe := ((kazqReported_frame ((AvenueFrame.refl n [AV_KZSTAT_BUSY n, AV_KZSTAT_RESULT n, AV_KZSTAT_DATA n] [.regs, .av] s).modAv
    (by simp) fun v => { v with kazq := { v.kazq with cur := none } }) (by simp) (by simp)).put (f := AV_KZSTAT_DATA n) (by simp)
    (by simp) r.data).modAv (by simp) kzStart
  refine ⟨kazqFrameEnd n r s, rfl, ?_⟩
  rw [kazqFrameEnd_of_done hcur hok, kazqDone_of_read rfl rfl]
  refine ⟨?_, ?_, ?_, ?_, hframe⟩
  · rw [State.get_modAv, State.get_put_elsewhere _ _ _ _ (.inr (.inl (Nat.le_of_ble_eq_true rfl))), kazqReported_busy]
  · rw [State.get_modAv, State.get_put_elsewhere _ _ _ _ (.inr (.inl (Nat.le_of_ble_eq_true rfl))), kazqReported_result]
  · rw [State.get_modAv, State.get_put_of_lt _ (Nat.le_of_ble_eq_true rfl) hdata]
  · rw [State.avn_modAv_self, State.avn_put, State.avn_put, State.putb, State.avn_put, State.modKz, State.avn_modAv_self,
      kzStart_of_empty (by exact hseq) (by exact hfw)]

theorem kazqFrameEnd_write_spec (s : State) (n : Fin 4) (v tries : Nat) (r : KazqReply)
    (hcur : (s.avn n).kazq.cur = some (⟨false, 1, v, false⟩, tries)) (hseq : (s.avn n).kazq.seqQ = [])
    (hfw : (s.avn n).kazq.fwQ = []) (hok : r.ack = true) :
    ∃ t, exec (.kazqFrameEnd n r) s = .next t ∧ t.get (AV_KZSTAT_BUSY n) = 0 ∧ t.get (AV_KZSTAT_RESULT n) = 0 ∧
      (t.avn n).kazq = { (s.avn n).kazq with cur := none, wcur := some v } ∧ OtherAvenues n s t ∧
      Frame [AV_KZSTAT_BUSY n, AV_KZSTAT_RESULT n] [.regs, .av] s t := by
  have hframe := (kazqReported_frame (((AvenueFrame.refl n [AV_KZSTAT_BUSY n, AV_KZSTAT_RESULT n] [.regs, .av] s).modAv
    (by simp) fun x => { x with kazq := { x.kazq with cur := none } }).modAv (by simp) fun x =>
      { x with kazq := x.kazq.shadowed ⟨false, 1, v, false⟩ }) (by simp) (by simp)).modAv (by simp) kzStart
  have hwritten : ∀ t : State, kazqWritten n ⟨false, 1, v, false⟩ t = t.modKz n (fun k => k.shadowed ⟨false, 1, v, false⟩) :=
    fun _ => rfl
  refine ⟨kazqFrameEnd n r s, rfl, ?_⟩
  rw [kazqFrameEnd_of_done hcur hok, kazqDone_of_write rfl rfl, hwritten]
  refine ⟨?_, ?_, ?_, hframe⟩
  · rw [State.get_modAv, kazqReported_busy]
  · rw [State.get_modAv, kazqReported_result]
  · rw [State.avn_modAv_self, State.avn_put, State.putb, State.avn_put, State.modKz, State.avn_modAv_self, State.modKz,
      State.avn_modAv_self, kzStart_of_empty (by exact hseq) (by exact hfw)]
    rfl

/-! ### Discovery (R161, R162) -/

/-- Discovery has begun: the slowest rate, and no replacement known. -/
def State.discoveryBegun (s : State) (n : Fin 4) : State := (s.put (AV_WRCTL_KRATE n) 0).putb (AV_PASTAT_REPL n) false

/-- The state with an absent preamp recorded, its missing acknowledge already raised. -/
def State.absentRecorded (s : State) (n : Fin 4) : State :=
  ((((s.discoveryBegun n).kzShown n false 5 1 1).modKz n Kazq.invalid).raise (avSrc n 68)).put (AV_PASTAT_OUT n) 2

theorem absentRecorded_tim (s : State) (n : Fin 4) : (s.absentRecorded n).tim = s.tim := by
  rw [State.absentRecorded, State.put_tim, State.raise_tim, State.modKz, State.modAv_tim, State.kzShown, State.put_tim, State.put_tim,
    State.put_tim, State.putb_tim, State.discoveryBegun, State.putb_tim, State.put_tim]

theorem pastat_not_mem_disableWords (n : Fin 4) : AV_PASTAT n ∉ AV_TLCTL n :: laneWords n ++ offWords n := by decide +revert

theorem preampDiscovery_absent_spec (s : State) (n : Fin 4) (p : PreampFind) (h : p.ack = false) :
    ∃ t, exec (.preampDiscovery n p) s = .next t ∧ t.get (AV_PASTAT_OUT n) = 2 ∧
      ⟨428 + 96 * n.val + 69, s.time, 0, false⟩ ∈ t.flt.inbox ∧ t.get (AV_TLSTAT_STATE n) = 0 := by
  have hrun : preampDiscovery n p s = ((s.absentRecorded n).raise (avSrc n 69)).disableAvenue n := by
    simp only [preampDiscovery, h, Bool.not_false, if_true]
    rfl
  have hmoves := disableAvenue_moves ((s.absentRecorded n).raise (avSrc n 69)) n
  have htime : (s.absentRecorded n).time = s.time := congrArg (fun x => x.now.toNat) (absentRecorded_tim s n)
  refine ⟨preampDiscovery n p s, rfl, ?_⟩
  rw [hrun]
  refine ⟨?_, hmoves.inbox ?_, disableAvenue_lane ..⟩
  · rw [hmoves.get (pastat_not_mem_disableWords n), State.get_raise]
    exact State.get_put_of_lt _ (Nat.le_of_ble_eq_true rfl) (Nat.le_of_ble_eq_true rfl)
  · rw [← htime]
    exact List.mem_append_right _ (List.mem_singleton_self _)

/-- The words that show a preamp's descriptor and discovery's last frame. -/
def descriptorWords (n : Fin 4) : List Nat := AV_KZCMD n :: AV_KZSTAT n :: (List.range 4).map (fun k => AV_PAID n k)

/-- The state with a preamp's descriptor shown (R161). -/
def State.descriptorShown (s : State) (n : Fin 4) (d : List Byte) : State :=
  ((s.putIdent n d).kzShown n true 0x7F 1 0).put (AV_KZSTAT_DATA n) (identField d 14 2)

section Descriptor
variable (s : State) (n : Fin 4) (d : List Byte)

theorem descriptorShown_wordsBut : WordsBut (descriptorWords n) s (s.descriptorShown n d) := by
  have hcmd : AV_KZCMD n ∈ descriptorWords n := by simp [descriptorWords]
  have hstat : AV_KZSTAT n ∈ descriptorWords n := by simp [descriptorWords]
  have hident : WordsBut (descriptorWords n) s (s.putIdent n d) :=
    (foldl_wordsBut (w := fun k => [AV_PAID n k]) (fun t k => wr_wordsBut t (AV_PAID n k) _) (List.range 4) s).mono (by
      rw [← List.map_eq_flatMap]
      exact fun a ha => List.mem_cons_of_mem _ (List.mem_cons_of_mem _ ha))
  exact ((((hident.put (f := AV_KZCMD_RD n) hcmd _).put (f := AV_KZCMD_ADDR n) hcmd _).put (f := AV_KZCMD_DATA n) hcmd _).put
    (f := AV_KZSTAT_RESULT n) hstat _).put (f := AV_KZSTAT_DATA n) hstat _

theorem descriptorShown_untouched : Untouched [.regs] s (s.descriptorShown n d) := by
  have hident : Untouched [.regs] s (s.putIdent n d) := foldl_untouched (fun t _ => .setRegs t _) (List.range 4) s
  exact ((((hident.put (by simp) _ _).put (by simp) _ _).put (by simp) _ _).put (by simp) _ _).put (by simp) _ _

end Descriptor

theorem ndata_not_mem_descriptorWords (n : Fin 4) : AV_FMTCTL n ∉ descriptorWords n := by decide +revert

theorem pastat_not_mem_descriptorWords (n : Fin 4) : AV_PASTAT n ∉ descriptorWords n := by decide +revert

/-- A preamp accepted with the recorded serial number (R161 step 4). -/
def State.preampTaken (s : State) (n : Fin 4) (e : PreampEntry) (d : List Byte) : State :=
  ((s.put (AV_PASTAT_OUT n) 1).put (AV_HMAP_H n) e.hmap).put (AV_HMAP_TMG n) (identField d 5 1 % 16)

theorem preampAccepted_of_recorded {s : State} {n : Fin 4} (e : PreampEntry) {d : List Byte} (cal : Bool)
    (h : (s.avn n).serialRec = some (identField d 8 4)) : preampAccepted n e d cal s = s.preampTaken n e d := by
  have hrec : ((s.preampTaken n e d).avn n).serialRec = some (identField d 8 4) := by
    rw [State.preampTaken, State.avn_put, State.avn_put, State.avn_put, h]
  unfold preampAccepted
  rw [← State.preampTaken]
  exact if_pos hrec

/-- A sound descriptor of a known preamp with heads enough and the right version is accepted (R161 step 3). -/
theorem preampDiscovery_of_accepted {s : State} {n : Fin 4} {d : List Byte} {e : PreampEntry} (cal : Bool) (hok : identOk d = true)
    (hmatch : preampMatch ((s.discoveryBegun n).descriptorShown n d).preampTable d = some e)
    (hheads : ((s.discoveryBegun n).descriptorShown n d).get (AV_FMTCTL_NDATA n) ≤ identField d 5 1 / 16)
    (hver : identField d 12 2 = 1) : preampDiscovery n ⟨true, [d], cal⟩ s =
      preampAccepted n e d cal ((s.discoveryBegun n).descriptorShown n d) := by
  have hread : (([d].take 3).find? identOk).getD (([d].take 3).getLastD (List.replicate 16 0)) = d := by simp [hok]
  unfold preampDiscovery
  simp only [Bool.not_true, Bool.false_eq_true, if_false, hread, hok]
  rw [← State.discoveryBegun, ← State.descriptorShown, hmatch]
  exact if_neg (not_or.2 ⟨Nat.not_lt.2 hheads, not_not.2 hver⟩)

theorem preampDiscovery_accepted_spec (s : State) (n : Fin 4) (d : List Byte) (e : PreampEntry) (cal : Bool)
    (hok : identOk d = true) (hmatch : preampMatch s.preampTable d = some e)
    (hheads : s.get (AV_FMTCTL_NDATA n) ≤ identField d 5 1 / 16) (hver : identField d 12 2 = 1)
    (hserial : (s.avn n).serialRec = some (identField d 8 4)) (hmap : e.hmap < 2 ^ (AV_HMAP_H n).wid) :
    ∃ t, exec (.preampDiscovery n ⟨true, [d], cal⟩) s = .next t ∧ t.get (AV_PASTAT_OUT n) = 1 ∧ t.get (AV_PASTAT_REPL n) = 0 ∧
      t.get (AV_HMAP_H n) = e.hmap ∧ t.get (AV_HMAP_TMG n) = identField d 5 1 % 16 ∧ Untouched [.regs] s t := by
  have hbegun : Untouched [.regs] s (s.discoveryBegun n) := ((Untouched.refl _ s).put (by simp) _ _).put (by simp) _ _
  have hshown : Untouched [.regs] s ((s.discoveryBegun n).descriptorShown n d) := hbegun.trans (descriptorShown_untouched _ n d)
  have hwords := descriptorShown_wordsBut (s.discoveryBegun n) n d
  have hndata : ((s.discoveryBegun n).descriptorShown n d).get (AV_FMTCTL_NDATA n) = s.get (AV_FMTCTL_NDATA n) := by
    rw [State.get_of_rd_eq (hwords _ (ndata_not_mem_descriptorWords n)), State.discoveryBegun,
      State.get_putb_elsewhere _ _ _ _ (.inl (avOffset_ne n (by decide))),
      State.get_put_elsewhere _ _ _ _ (.inl (avOffset_ne n (by decide)))]
  have hrepl : ((s.discoveryBegun n).descriptorShown n d).get (AV_PASTAT_REPL n) = 0 := by
    rw [State.get_of_rd_eq (hwords _ (pastat_not_mem_descriptorWords n)), State.discoveryBegun,
      State.get_putb_self _ _ _ (Nat.le_of_ble_eq_true rfl) Nat.one_pos]
    rfl
  have hrun : preampDiscovery n ⟨true, [d], cal⟩ s = ((s.discoveryBegun n).descriptorShown n d).preampTaken n e d := by
    rw [preampDiscovery_of_accepted cal hok (by rw [hshown .preampTable (by decide)]; exact hmatch) (hndata.le.trans hheads) hver,
      preampAccepted_of_recorded e cal (by rw [avn_of_av_eq (hshown .av (by decide))]; exact hserial)]
  refine ⟨preampDiscovery n ⟨true, [d], cal⟩ s, rfl, ?_⟩
  rw [hrun, State.preampTaken]
  refine ⟨?_, ?_, ?_, ?_, ((hshown.put (by simp) _ _).put (by simp) _ _).put (by simp) _ _⟩
  · rw [State.get_put_elsewhere _ _ _ _ (.inl (avOffset_ne n (by decide))),
      State.get_put_elsewhere _ _ _ _ (.inl (avOffset_ne n (by decide)))]
    exact State.get_put_of_lt _ (Nat.le_of_ble_eq_true rfl) (Nat.le_of_ble_eq_true rfl)
  · rw [State.get_put_elsewhere _ _ _ _ (.inl (avOffset_ne n (by decide))),
      State.get_put_elsewhere _ _ _ _ (.inl (avOffset_ne n (by decide))),
      State.get_put_elsewhere _ _ _ _ (.inr (.inl (Nat.le_of_ble_eq_true rfl))), hrepl]
  · rw [State.get_put_elsewhere _ _ _ _ (.inr (.inr (Nat.le_of_ble_eq_true rfl)))]
    exact State.get_put_of_lt _ (Nat.le_of_ble_eq_true rfl) hmap
  · exact State.get_put_of_lt _ (Nat.le_of_ble_eq_true rfl) (Nat.mod_lt _ (by decide))

/-- Settles O19: the link by the frame in progress, discovery by what the preamp answers. -/
theorem kazqLinkAndDiscovery : Obligations.KazqLinkAndDiscovery :=
  ⟨kazqCommand_accepted_spec, kazqCommand_refused_spec, kazqFrameEnd_read_spec, kazqFrameEnd_write_spec,
    fun s n _ _ _ hcur hno hlt => ⟨_, rfl, by
      rw [kazqFrameEnd_of_repeat hcur hno hlt, State.modKz]
      obtain ⟨havn, hframe⟩ := modAv_only s n _
      exact ⟨congrArg Avenue.kazq havn, hframe⟩⟩,
    fun s n => ⟨_, rfl, congrArg Avenue.kazq (modAv_only s n _).1, (modAv_only s n _).2⟩, preampDiscovery_absent_spec,
    preampDiscovery_accepted_spec⟩

end Sys2Proof.Machine
end

section
/-! SUPPORT. Seeks and moves from FOLLOW (R196, R203, R206): what the engine takes from the request, and the state that it enters. -/

namespace Sys2Proof.Machine

theorem genAhead_svo (s : State) (n : Fin 4) : ∃ g, (s.genAhead n).svo.get n = { s.svo.get n with gen := g } := by
  rw [State.genAhead, State.svo_modSv_self, State.putb_svo]
  exact ⟨_, rfl⟩

theorem EngineMoves.genAhead {n : Fin 4} {ws : List Nat} {s t : State} (h : EngineMoves n ws s t) (hw : SVO_STAT n ∈ ws) :
    EngineMoves n ws s (t.genAhead n) := by
  rw [State.genAhead]
  exact (h.putb (f := SVO_STAT_STRONG n) hw _).modSv _

theorem genAhead_stat (s : State) (n : Fin 4) {g : Fld} (hg : (SVO_STAT_STRONG n).apart g) : (s.genAhead n).get g = s.get g := by
  rw [State.genAhead, State.get_modSv]
  exact State.get_put_of_apart _ _ hg

/-- Engine `n` with a request taken (R203): its class, offset, face and head offset, and the profile set of its class. -/
def State.requestTaken (s : State) (n : Fin 4) (f : Nat) (r : SeekReq) (h : Int) (fresh : Bool) : State :=
  s.modSv n fun v => { v with req := some r.cls, ofs := r.ofs, face := f, head := h, headHeld := v.headHeld && !fresh,
                              wantStrong := s.classStrong n r.cls }

/-- A seek from FOLLOW has its target, and its generator at rest at the old reference, before the lane and the state follow. -/
def State.seekBegun (s : State) (n : Fin 4) (f : Nat) (r : SeekReq) : State :=
  (((((s.requestTaken n f r (s.hofs n f (s.zoneOfCyl n r.cyl)) true).put (SVO_STAT_TCYL n) r.cyl).modSv n fun v =>
    { v with settleDue := true }).putb (SVO_STAT_STRONG n) (s.classStrong n r.cls)).modSv n fun v =>
    { v with gen := genRest (F32.ofInt (s.reference n)) })

section Seek
variable {s : State} {n : Fin 4} {f : Nat} {r : SeekReq} (h5 : s.svState n = 5)
include h5

theorem svServing_of_follow : s.svServing n = true := by rw [State.svServing, h5]; rfl

theorem seekRequestOn_of_seek (hseek : r.move = false) (hcyl : r.cyl < s.get (AV_FMTCYL_NCYL n)) (hne : r.cyl ≠ s.target n)
    (hofs : (r.ofs + s.hofs n f (s.zoneOfCyl n r.cyl)).natAbs ≤ 127) :
    s.seekRequestOn n f r = (((s.seekBegun n f r).laneSeekStart n).svTo n 3).genAhead n := by
  have hfresh : (decide (f ≠ (s.sv n).face) || decide (r.cyl ≠ s.target n)) = true := by rw [decide_eq_true hne, Bool.or_true]
  have hok : ¬ (s.get (AV_FMTCYL_NCYL n) ≤ r.cyl ∨ 127 < (r.ofs + s.hofs n f (s.zoneOfCyl n r.cyl)).natAbs ∨
      (!s.svServing n) = true) := by
    rw [svServing_of_follow h5]
    exact not_or.2 ⟨Nat.not_le.2 hcyl, not_or.2 ⟨Nat.not_lt.2 hofs, Bool.false_ne_true⟩⟩
  have h3 : ¬ s.svState n = 3 := by omega
  unfold State.seekRequestOn
  simp only [hseek, hfresh, Bool.false_eq_true, if_false, if_true, if_neg hok, if_neg h3, if_pos (Or.inr hne : s.svState n = 3 ∨ _)]
  rfl

theorem seekRequestOn_of_move (hmove : r.move = true) (hcyl : s.target n < s.get (AV_FMTCYL_NCYL n)) (hface : f = (s.sv n).face)
    (hofs : (r.ofs + (s.sv n).head).natAbs ≤ 127) :
    s.seekRequestOn n f r = (s.requestTaken n f r (s.sv n).head false).svTo n 4 := by
  have hfresh : (decide (f ≠ (s.sv n).face) || decide (s.target n ≠ s.target n)) = false := by simp [hface]
  have hok : ¬ (s.get (AV_FMTCYL_NCYL n) ≤ s.target n ∨ 127 < (r.ofs + (s.sv n).head).natAbs ∨ (!s.svServing n) = true) := by
    rw [svServing_of_follow h5]
    exact not_or.2 ⟨Nat.not_le.2 hcyl, not_or.2 ⟨Nat.not_lt.2 hofs, Bool.false_ne_true⟩⟩
  have hstay : ¬ (s.svState n = 3 ∨ s.target n ≠ s.target n) := by
    rintro (h3 | hne)
    · omega
    · exact hne rfl
  unfold State.seekRequestOn
  simp only [hmove, if_true, hfresh, Bool.false_eq_true, if_false, if_neg hok, if_neg hstay]
  rfl

end Seek

section Begun
variable (s : State) (n : Fin 4) (f : Nat) (r : SeekReq)

theorem seekBegun_svo : (s.seekBegun n f r).svo.get n = { s.svo.get n with
    req := some r.cls, ofs := r.ofs, face := f, head := s.hofs n f (s.zoneOfCyl n r.cyl), headHeld := (s.svo.get n).headHeld && !true,
    wantStrong := s.classStrong n r.cls, settleDue := true, gen := genRest (F32.ofInt (s.reference n)) } := by
  rw [State.seekBegun, State.svo_modSv_self, State.putb_svo, State.svo_modSv_self, State.put_svo, State.requestTaken,
    State.svo_modSv_self]

theorem seekBegun_target (hcyl : r.cyl < 2 ^ 22) : (s.seekBegun n f r).target n = r.cyl := by
  rw [State.target, State.seekBegun, State.get_modSv, State.get_putb_elsewhere _ _ _ _ (.inr (.inr (Nat.le_of_ble_eq_true rfl))),
    State.get_modSv]
  exact State.get_put_of_lt _ (Nat.le_of_ble_eq_true rfl) hcyl

theorem seekBegun_moves {ws : List Nat} (hw : SVO_STAT n ∈ ws) : EngineMoves n ws s (s.seekBegun n f r) :=
  (((((EngineMoves.refl n ws s).modSv _).put (f := SVO_STAT_TCYL n) hw _).modSv _).putb (f := SVO_STAT_STRONG n) hw _).modSv _

end Begun

end Sys2Proof.Machine
end

section
/-! SUPPORT. Analogue settings and preamp preparation (R98, R149, R160, R170): the settings that AFE applies to both readers, and the
frames that a prepare action queues. -/

namespace Sys2Proof.Machine

/-! ### Analogue settings (R98, R170) -/

/-- The fields that AFE writes on reader `r`. -/
def afeFlds (n : Fin 4) (r : Fin 2) : List Fld := [AV_AFEGAIN_VGA n r.val, AV_AFECTF_CUTOFF n r.val, AV_AFECTF_BOOST n r.val]

/-- The settings of one reader written, before the spans that follow a change. -/
def State.afeWritten (s : State) (n : Fin 4) (r : Fin 2) (x : Nat × Nat × Nat) : State :=
  ((s.put (AV_AFEGAIN_VGA n r.val) x.1).put (AV_AFECTF_CUTOFF n r.val) x.2.1).put (AV_AFECTF_BOOST n r.val) x.2.2

/-- The settings of one reader take effect: no more than its fields and the readers change, and INVALID spans only grow (R98). -/
structure AfeSet (n : Fin 4) (r : Fin 2) (x : Nat × Nat × Nat) (s t : State) : Prop where
  frame : AvenueFrame n (afeFlds n r) [.regs, .av] s t
  seq : t.seq n = s.seq n
  regs : t.regs = (s.afeWritten n r x).regs
  grow : ∀ p, (s.reader n p).inv ≤ (t.reader n p).inv
  gain : s.get (AV_AFEGAIN_VGA n r.val) ≠ x.1 → 2 ≤ (t.reader n r).inv
  filter : s.get (AV_AFECTF_CUTOFF n r.val) ≠ x.2.1 → 4 ≤ (t.reader n r).inv

section Span
variable (s : State) (n : Fin 4) (r : Fin 2) (k : Nat)

/-- What a span that follows a change leaves. -/
theorem span_if_spec (c : Prop) [Decidable c] : (if c then s.span n r k else s).regs = s.regs ∧
    (if c then s.span n r k else s).seq n = s.seq n ∧
    (∀ p, (s.reader n p).inv ≤ ((if c then s.span n r k else s).reader n p).inv) ∧
    (c → k ≤ ((if c then s.span n r k else s).reader n r).inv) := by
  split
  next hc =>
    refine ⟨rfl, ?_, fun p => ?_, fun _ => ?_⟩
    · exact congrArg (fun a => a.seq) (modAv_only s n _).1
    · rw [span_reader]
      split
      · exact Nat.le_max_left ..
      · exact Nat.le_refl _
    · rw [span_reader, if_pos rfl]
      exact Nat.le_max_right ..
  next hc => exact ⟨rfl, rfl, fun _ => Nat.le_refl _, fun h => absurd h hc⟩

theorem AvenueFrame.span_if {t : State} {fs : List Fld} {ps : List Part} (h : AvenueFrame n fs ps s t) (ha : .av ∈ ps) (c : Prop)
    [Decidable c] : AvenueFrame n fs ps s (if c then t.span n r k else t) := by
  split
  · exact h.modAv ha _
  · exact h

end Span

theorem afeWritten_frame (s : State) (n : Fin 4) (r : Fin 2) (x : Nat × Nat × Nat) :
    AvenueFrame n (afeFlds n r) [.regs] s (s.afeWritten n r x) :=
  (((AvenueFrame.refl ..).put (by simp [afeFlds]) (by simp) _).put (by simp [afeFlds]) (by simp) _).put (by simp [afeFlds]) (by simp) _

theorem afeReader_sets (n : Fin 4) (o : MediaOp) (l2 : Option Nat) (s : State) (r : Fin 2) :
    AfeSet n r (s.afeTarget n o l2 r) s (afeReader n o l2 s r) := by
  generalize hx : s.afeTarget n o l2 r = x
  have hrun : afeReader n o l2 s r =
      if s.get (AV_AFECTF_CUTOFF n r.val) ≠ x.2.1 ∨ s.get (AV_AFECTF_BOOST n r.val) ≠ x.2.2 then
        (if s.get (AV_AFEGAIN_VGA n r.val) ≠ x.1 then (s.afeWritten n r x).span n r 2 else s.afeWritten n r x).span n r 4
      else (if s.get (AV_AFEGAIN_VGA n r.val) ≠ x.1 then (s.afeWritten n r x).span n r 2 else s.afeWritten n r x) := by
    simp only [afeReader, hx]
    rfl
  have hwritten := afeWritten_frame s n r x
  have hav := hwritten.2.2 .av (by decide)
  have hframe : AvenueFrame n (afeFlds n r) [.regs, .av] s (s.afeWritten n r x) := hwritten.mono (List.Subset.refl _) (by simp)
  have hframe' := hframe.span_if s n r 2 (by simp) (s.get (AV_AFEGAIN_VGA n r.val) ≠ x.1)
  obtain ⟨hregs, hseq, hgrow, hgain⟩ := span_if_spec (s.afeWritten n r x) n r 2 (s.get (AV_AFEGAIN_VGA n r.val) ≠ x.1)
  rw [hrun]
  generalize (if s.get (AV_AFEGAIN_VGA n r.val) ≠ x.1 then (s.afeWritten n r x).span n r 2 else s.afeWritten n r x) = u
    at hframe' hregs hseq hgrow hgain ⊢
  obtain ⟨hregs', hseq', hgrow', hfilter⟩ := span_if_spec u n r 4
    (s.get (AV_AFECTF_CUTOFF n r.val) ≠ x.2.1 ∨ s.get (AV_AFECTF_BOOST n r.val) ≠ x.2.2)
  refine ⟨hframe'.span_if s n r 4 (by simp) _, ?_, hregs'.trans hregs, fun p => ?_, fun h => (hgain h).trans (hgrow' r),
    fun h => hfilter (.inl h)⟩
  · exact (hseq'.trans hseq).trans (congrArg Avenue.seq (avn_of_av_eq hav n))
  · exact (Nat.le_of_eq (by rw [reader_of_av_eq hav])).trans ((hgrow p).trans (hgrow' p))

/-! The settings that AFE applies (R170). -/

theorem afeFlds_apart_above {n : Fin 4} {q : Fin 2} {g : Fld} (h : avBase n + 0x1000 ≤ g.addr) : ∀ f ∈ afeFlds n q, f.apart g := by
  intro f hf
  have hlow : f.addr < avBase n + 0x1000 := by
    simp only [afeFlds, List.mem_cons, List.not_mem_nil, or_false] at hf
    rcases hf with rfl | rfl | rfl <;>
      simp only [AV_AFEGAIN_VGA, AV_AFEGAIN, AV_AFECTF_CUTOFF, AV_AFECTF_BOOST, AV_AFECTF] <;> omega
  exact .inl (by omega)

theorem afeFlds_apart_other (n : Fin 4) {q r : Fin 2} (h : q ≠ r) : ∀ g ∈ afeFlds n r, ∀ f ∈ afeFlds n q, f.apart g := by
  unfold Fld.apart
  decide +revert

/-- The settings rest on words that applying them leaves alone. -/
theorem afeTarget_congr {s t : State} {n : Fin 4} {q : Fin 2} {ps : List Part} (h : AvenueFrame n (afeFlds n q) ps s t)
    (o : MediaOp) (l2 : Option Nat) (r : Fin 2) : t.afeTarget n o l2 r = s.afeTarget n o l2 r := by
  have hget : ∀ g : Fld, avBase n + 0x1000 ≤ g.addr → t.get g = s.get g := fun g hg => h.get (afeFlds_apart_above hg)
  have hvga := hget (AV_AFESET_VGA n o.face o.zone r.val) (by unfold AV_AFESET_VGA AV_AFESET; dsimp only; omega)
  have hcut := hget (AV_AFESET_CUTOFF n o.face o.zone r.val) (by unfold AV_AFESET_CUTOFF AV_AFESET; dsimp only; omega)
  have hboost := hget (AV_AFESET_BOOST n o.face o.zone r.val) (by unfold AV_AFESET_BOOST AV_AFESET; dsimp only; omega)
  cases l2 with
  | none => rw [State.afeTarget, hvga, hcut, hboost, State.afeTarget]
  | some k =>
    have hl2 : avBase n + 0x1000 ≤ AV_L2SET n k := by unfold AV_L2SET; omega
    simp only [State.afeTarget, State.geti, hvga, hcut, hboost, hget (AV_L2SET_VGAD n k) hl2, hget (AV_L2SET_CUTD n k) hl2,
      hget (AV_L2SET_BOOSTD n k) hl2]

/-- Settings that the fields hold. -/
def AfeFits (x : Nat × Nat × Nat) : Prop := x.1 < 2 ^ 8 ∧ x.2.1 < 2 ^ 6 ∧ x.2.2 < 2 ^ 5

theorem afeTarget_fits (s : State) (n : Fin 4) (o : MediaOp) (l2 : Option Nat) (r : Fin 2) : AfeFits (s.afeTarget n o l2 r) := by
  cases l2 with
  | none => exact ⟨s.get_lt _, s.get_lt _, s.get_lt _⟩
  | some k =>
    unfold AfeFits State.afeTarget
    dsimp only
    omega

section Written
variable {s t : State} {n : Fin 4} {r : Fin 2} {x : Nat × Nat × Nat} (h : AfeSet n r x s t) (hx : AfeFits x)
include h hx

theorem AfeSet.vga : t.get (AV_AFEGAIN_VGA n r.val) = x.1 := by
  have hne : AV_AFECTF n r.val ≠ AV_AFEGAIN n r.val := by unfold AV_AFECTF AV_AFEGAIN; omega
  rw [State.get_of_regs_eq h.regs, State.afeWritten, State.get_put_elsewhere _ _ _ _ (.inl hne),
    State.get_put_elsewhere _ _ _ _ (.inl hne)]
  exact State.get_put_of_lt _ (Nat.le_of_ble_eq_true rfl) hx.1

theorem AfeSet.cutoff : t.get (AV_AFECTF_CUTOFF n r.val) = x.2.1 := by
  rw [State.get_of_regs_eq h.regs, State.afeWritten, State.get_put_elsewhere _ _ _ _ (.inr (.inr (Nat.le_of_ble_eq_true rfl)))]
  exact State.get_put_of_lt _ (Nat.le_of_ble_eq_true rfl) hx.2.1

theorem AfeSet.boost : t.get (AV_AFECTF_BOOST n r.val) = x.2.2 :=
  (State.get_of_regs_eq h.regs _).trans (State.get_put_of_lt _ (Nat.le_of_ble_eq_true rfl) hx.2.2)

end Written

/-- AFE applied to both readers (R170): fields, INVALID spans, and what is left alone. -/
structure AfeApplied (n : Fin 4) (x : Fin 2 → Nat × Nat × Nat) (s t : State) : Prop where
  frame : AvenueFrame n (afeFlds n 0 ++ afeFlds n 1) [.regs, .av] s t
  seq : t.seq n = s.seq n
  vga : ∀ r : Fin 2, t.get (AV_AFEGAIN_VGA n r.val) = (x r).1
  cutoff : ∀ r : Fin 2, t.get (AV_AFECTF_CUTOFF n r.val) = (x r).2.1
  boost : ∀ r : Fin 2, t.get (AV_AFECTF_BOOST n r.val) = (x r).2.2
  gain : ∀ r : Fin 2, s.get (AV_AFEGAIN_VGA n r.val) ≠ (x r).1 → 2 ≤ (t.reader n r).inv
  filter : ∀ r : Fin 2, s.get (AV_AFECTF_CUTOFF n r.val) ≠ (x r).2.1 → 4 ≤ (t.reader n r).inv

/-- Reader A's settings stay as reader B's are written, and B's settings are those that stood before A's were. -/
theorem afeBoth_applied (s : State) (n : Fin 4) (o : MediaOp) (l2 : Option Nat) :
    AfeApplied n (fun r => s.afeTarget n o l2 r) s (afeReader n o l2 (afeReader n o l2 s 0) 1) := by
  have ha := afeReader_sets n o l2 s 0
  have hb := afeReader_sets n o l2 (afeReader n o l2 s 0) 1
  rw [afeTarget_congr ha.frame] at hb
  have hfa := afeTarget_fits s n o l2 0
  have hfb := afeTarget_fits s n o l2 1
  generalize afeReader n o l2 s 0 = u at ha hb ⊢
  generalize afeReader n o l2 u 1 = t at hb ⊢
  have hkeepA : ∀ g ∈ afeFlds n 0, t.get g = u.get g := fun g hg =>
    hb.frame.get (afeFlds_apart_other n (q := 1) (r := 0) (by decide) g hg)
  have hkeepB : ∀ g ∈ afeFlds n 1, u.get g = s.get g := fun g hg =>
    ha.frame.get (afeFlds_apart_other n (q := 0) (r := 1) (by decide) g hg)
  refine ⟨(ha.frame.mono (List.subset_append_left ..) (List.Subset.refl _)).trans
    (hb.frame.mono (List.subset_append_right ..) (List.Subset.refl _)), hb.seq.trans ha.seq, ?_, ?_, ?_, ?_, ?_⟩
  · exact Fin.forall_fin_two.2 ⟨(hkeepA _ (by simp [afeFlds])).trans (ha.vga hfa), hb.vga hfb⟩
  · exact Fin.forall_fin_two.2 ⟨(hkeepA _ (by simp [afeFlds])).trans (ha.cutoff hfa), hb.cutoff hfb⟩
  · exact Fin.forall_fin_two.2 ⟨(hkeepA _ (by simp [afeFlds])).trans (ha.boost hfa), hb.boost hfb⟩
  · refine Fin.forall_fin_two.2 ⟨fun h => (ha.gain h).trans (hb.grow 0), fun h => hb.gain ?_⟩
    rw [hkeepB _ (by simp [afeFlds])]
    exact h
  · refine Fin.forall_fin_two.2 ⟨fun h => (ha.filter h).trans (hb.grow 0), fun h => hb.filter ?_⟩
    rw [hkeepB _ (by simp [afeFlds])]
    exact h

/-! ### Settings of the open operation (R170) -/

theorem modOp_spec {s : State} {n : Fin 4} {o : MediaOp} (hop : (s.seq n).op = some o) (f : MediaOp → MediaOp) :
    ((s.modOp n f).seq n).op = some (f o) ∧ ((s.modOp n f).seq n).arms = (s.seq n).arms ∧ OtherAvenues n s (s.modOp n f) ∧
    Untouched [.av] s (s.modOp n f) := by
  obtain ⟨havn, hframe⟩ := modSeq_only s n (fun q => { q with op := q.op.map f })
  have hseq : (s.modOp n f).seq n = { s.seq n with op := (s.seq n).op.map f } := congrArg Avenue.seq havn
  rw [hseq, hop]
  exact ⟨rfl, rfl, hframe⟩

/-! ### Preamp preparation (R160) -/

/-- The head that the face of an operation is mapped to (R149). -/
def State.headOf (s : State) (n : Fin 4) (o : MediaOp) : Nat := s.get (AV_HMAP_H n) / 2 ^ (4 * o.face) % 16

/-- The operation after a prepare action. -/
def MediaOp.preparedFor (o : MediaOp) (write : Bool) : MediaOp :=
  if write then { o with prepWrite := true } else { o with prepRead := true }

section Prepare
variable {s : State} {n : Fin 4} {o : MediaOp} (hop : (s.seq n).op = some o) (h0 : o.ended = 0) (write : Bool)
include hop h0

theorem prepare_of_head (hhead : s.headOf n o ≠ s.get (AV_HMAP_TMG n)) :
    (prepare n write s).avn n = kzStart { s.avn n with
      kazq := { (s.avn n).kazq with
        seqQ := (s.avn n).kazq.seqQ ++ s.prepFrames n o write (s.headOf n o), failed := false }
      seq := { s.seq n with op := some (o.preparedFor write) } } ∧
    OtherAvenues n s (prepare n write s) ∧ Untouched [.av] s (prepare n write s) := by
  have hbits : bitsOf (s.get (AV_HMAP_H n)) (4 * o.face) 4 = s.headOf n o := rfl
  have hrun : prepare n write s = ((s.modOp n fun p => p.preparedFor write).modKz n fun k =>
      { k with seqQ := k.seqQ ++ s.prepFrames n o write (s.headOf n o), failed := false }).modAv n kzStart := by
    simp only [prepare, hop, h0, ne_eq, not_true, if_false, hbits, if_neg hhead]
    rfl
  obtain ⟨-, -, hother, hu⟩ := modOp_spec hop fun p => p.preparedFor write
  rw [hrun]
  refine ⟨?_, (hother.modAv _).modAv _, (hu.modAv (by simp) n _).modAv (by simp) n _⟩
  rw [State.avn_modAv_self, State.modKz, State.avn_modAv_self, State.modOp, (modSeq_only s n _).1, hop]
  rfl

theorem prepare_of_timingHead (hhead : s.headOf n o = s.get (AV_HMAP_TMG n)) :
    prepare n write s = (s.endOp n 7).raise (avSrc n 73) := by
  have hbits : bitsOf (s.get (AV_HMAP_H n)) (4 * o.face) 4 = s.headOf n o := rfl
  simp only [prepare, hop, h0, ne_eq, not_true, if_false, hbits, if_pos hhead]

end Prepare

end Sys2Proof.Machine
end

section
/-! CERTIFICATE. The statement O24: front-end settings, preamp preparation, and seek and move actions (R149, R160, R170, R176, R203,
R208). -/

namespace Sys2Proof.Machine

/-! ### Settings (R98, R170) -/

/-- The fields of both readers that AFE writes, as the statement lists them. -/
def afeBothFlds (n : Fin 4) : List Fld := [AV_AFEGAIN_VGA n 0, AV_AFEGAIN_VGA n 1, AV_AFECTF_CUTOFF n 0, AV_AFECTF_CUTOFF n 1,
  AV_AFECTF_BOOST n 0, AV_AFECTF_BOOST n 1]

theorem afeFlds_subset_both (n : Fin 4) : afeFlds n 0 ++ afeFlds n 1 ⊆ afeBothFlds n := by
  simp [afeFlds, afeBothFlds]

section Afe
variable (s : State) (n : Fin 4) (o : MediaOp) (rb : Fin 16) (hop : (s.seq n).op = some o)
include hop

theorem afeApply_zone_spec : ∃ t, exec (.afeApply n 1 rb) s = .next t ∧ (∀ r : Fin 2,
      t.get (AV_AFEGAIN_VGA n r.val) = s.get (AV_AFESET_VGA n o.face o.zone r.val) ∧
      t.get (AV_AFECTF_CUTOFF n r.val) = s.get (AV_AFESET_CUTOFF n o.face o.zone r.val) ∧
      t.get (AV_AFECTF_BOOST n r.val) = s.get (AV_AFESET_BOOST n o.face o.zone r.val) ∧
      (s.get (AV_AFEGAIN_VGA n r.val) ≠ s.get (AV_AFESET_VGA n o.face o.zone r.val) → 2 ≤ (t.reader n r).inv) ∧
      (s.get (AV_AFECTF_CUTOFF n r.val) ≠ s.get (AV_AFESET_CUTOFF n o.face o.zone r.val) → 4 ≤ (t.reader n r).inv)) ∧
    t.seq n = s.seq n ∧ OtherAvenues n s t ∧ Frame (afeBothFlds n) [.regs, .av] s t := by
  have h := afeBoth_applied s n o none
  refine ⟨afeReader n o none (afeReader n o none s 0) 1, ?_, fun r => ⟨h.vga r, h.cutoff r, h.boost r, h.gain r, h.filter r⟩,
    h.seq, h.frame.mono (afeFlds_subset_both n) (List.Subset.refl _)⟩
  show Host.Outcome.next (afeApply n 1 (s.reg n rb).toNat s) = _
  rw [afeApply, hop]
  rfl

theorem afeApply_l2_spec : ∃ t, exec (.afeApply n 2 rb) s = .next t ∧ (∀ r : Fin 2,
      (t.get (AV_AFEGAIN_VGA n r.val) : Int) = max 0 (min 255
        (s.get (AV_AFESET_VGA n o.face o.zone r.val) + s.geti (AV_L2SET_VGAD n ((s.reg n rb).toNat % 4)))) ∧
      (t.get (AV_AFECTF_CUTOFF n r.val) : Int) = max 0 (min 63
        (s.get (AV_AFESET_CUTOFF n o.face o.zone r.val) + s.geti (AV_L2SET_CUTD n ((s.reg n rb).toNat % 4)))) ∧
      (t.get (AV_AFECTF_BOOST n r.val) : Int) = max 0 (min 31
        (s.get (AV_AFESET_BOOST n o.face o.zone r.val) + s.geti (AV_L2SET_BOOSTD n ((s.reg n rb).toNat % 4))))) ∧
    t.seq n = s.seq n ∧ OtherAvenues n s t ∧ Frame (afeBothFlds n) [.regs, .av] s t := by
  have h := afeBoth_applied s n o (some ((s.reg n rb).toNat % 4))
  refine ⟨afeReader n o (some ((s.reg n rb).toNat % 4)) (afeReader n o (some ((s.reg n rb).toNat % 4)) s 0) 1, ?_,
    fun r => ⟨?_, ?_, ?_⟩, h.seq, h.frame.mono (afeFlds_subset_both n) (List.Subset.refl _)⟩
  · show Host.Outcome.next (afeApply n 2 (s.reg n rb).toNat s) = _
    rw [afeApply, hop]
    rfl
  · rw [h.vga r]
    exact Int.toNat_of_nonneg (le_max_left ..)
  · rw [h.cutoff r]
    exact Int.toNat_of_nonneg (le_max_left ..)
  · rw [h.boost r]
    exact Int.toNat_of_nonneg (le_max_left ..)

end Afe

/-! ### Preparation (R149, R160) -/

section Prepare
variable (s : State) (n : Fin 4) (o : MediaOp) (hop : (s.seq n).op = some o) (h0 : o.ended = 0)
include hop h0

theorem prepareRead_spec (hhead : s.headOf n o ≠ s.get (AV_HMAP_TMG n)) (hcur : (s.avn n).kazq.cur.isSome = true)
    (hsel : (s.avn n).kazq.headsel = none) (hheat : (s.avn n).kazq.heater = none) :
    ∃ t, exec (.prepareRead n) s = .next t ∧ t.avn n = { s.avn n with
        kazq := { (s.avn n).kazq with
          seqQ := (s.avn n).kazq.seqQ ++
            [⟨false, 0, s.headOf n o, true⟩, ⟨false, 3, s.get (AV_WAT1_RHTR n o.face o.zone), true⟩]
          failed := false },
        seq := { s.seq n with op := some { o with prepRead := true } } } ∧ OtherAvenues n s t ∧ Untouched [.av] s t := by
  obtain ⟨x, hx⟩ := Option.isSome_iff_exists.1 hcur
  obtain ⟨havn, hframe⟩ := prepare_of_head hop h0 false hhead
  refine ⟨prepare n false s, rfl, ?_, hframe⟩
  rw [havn, kzStart_of_busy (x := x) (by exact hx)]
  simp [State.prepFrames, hsel, hheat, MediaOp.preparedFor]

theorem prepareWrite_spec (hhead : s.headOf n o ≠ s.get (AV_HMAP_TMG n)) (hcur : (s.avn n).kazq.cur.isSome = true)
    (hsel : (s.avn n).kazq.headsel = none) (hheat : (s.avn n).kazq.heater = none) (hwcur : (s.avn n).kazq.wcur = none)
    (hassist : (s.avn n).kazq.wassist = none) :
    ∃ t, exec (.prepareWrite n) s = .next t ∧ t.avn n = { s.avn n with
        kazq := { (s.avn n).kazq with
          seqQ := (s.avn n).kazq.seqQ ++
            [⟨false, 0, s.headOf n o, true⟩, ⟨false, 3, s.get (AV_WAT0_WHTR n o.face o.zone), true⟩,
             ⟨false, 1, 256 * s.get (AV_WAT0_OVS n o.face o.zone) + s.get (AV_WAT0_WCUR n o.face o.zone), true⟩,
             ⟨false, 2, s.get (AV_WAT0_WAP n o.face o.zone), true⟩]
          failed := false },
        seq := { s.seq n with op := some { o with prepWrite := true } } } ∧ OtherAvenues n s t ∧ Untouched [.av] s t := by
  obtain ⟨x, hx⟩ := Option.isSome_iff_exists.1 hcur
  obtain ⟨havn, hframe⟩ := prepare_of_head hop h0 true hhead
  refine ⟨prepare n true s, rfl, ?_, hframe⟩
  rw [havn, kzStart_of_busy (x := x) (by exact hx)]
  simp [State.prepFrames, hsel, hheat, hwcur, hassist, MediaOp.preparedFor]

theorem prepareWrite_settled_spec (hhead : s.headOf n o ≠ s.get (AV_HMAP_TMG n))
    (hsel : (s.avn n).kazq.headsel = some (s.headOf n o))
    (hheat : (s.avn n).kazq.heater = some (s.get (AV_WAT0_WHTR n o.face o.zone)))
    (hwcur : (s.avn n).kazq.wcur = some (256 * s.get (AV_WAT0_OVS n o.face o.zone) + s.get (AV_WAT0_WCUR n o.face o.zone)))
    (hassist : (s.avn n).kazq.wassist = some (s.get (AV_WAT0_WAP n o.face o.zone)))
    (hseq : (s.avn n).kazq.seqQ = []) (hfw : (s.avn n).kazq.fwQ = []) :
    ∃ t, exec (.prepareWrite n) s = .next t ∧ t.avn n = { s.avn n with
        kazq := { (s.avn n).kazq with failed := false },
        seq := { s.seq n with op := some { o with prepWrite := true } } } ∧ OtherAvenues n s t ∧ Untouched [.av] s t := by
  obtain ⟨havn, hframe⟩ := prepare_of_head hop h0 true hhead
  have hnone : s.prepFrames n o true (s.headOf n o) = [] := by simp [State.prepFrames, hsel, hheat, hwcur, hassist]
  rw [hnone, List.append_nil] at havn
  refine ⟨prepare n true s, rfl, ?_, hframe⟩
  rw [havn, kzStart_of_empty (by exact hseq) (by exact hfw)]
  rfl

theorem prepareRead_timingHead_spec (hhead : s.headOf n o = s.get (AV_HMAP_TMG n)) :
    ∃ t, exec (.prepareRead n) s = .next t ∧ t.avn n = { s.avn n with
        seq := { s.seq n with op := some { o with ended := 7 }, arms := [] } } ∧
      Raised1 (428 + 96 * n.val + 73) 0 s t ∧ OtherAvenues n s t ∧ Untouched [.av, .flt] s t := by
  refine ⟨prepare n false s, rfl, ?_⟩
  rw [prepare_of_timingHead hop h0 false hhead]
  exact endOp_raise_only hop h0 7 (avSrc n 73)

end Prepare

/-! ### Seek and move actions (R176, R203, R208) -/

theorem signed_toNat (x : Word) : signed 32 x.toNat = x.toInt := by
  unfold signed
  rw [BitVec.toInt_eq_toNat_cond]
  split <;> split <;> omega

/-- The request of a seek or move action, from the ports (Table 6-5). -/
def State.portRequest (s : State) (n : Fin 4) (move : Bool) : SeekReq :=
  ⟨move, (s.seq n).svoCyl.toNat, (s.seq n).svoOfs.toInt, entryClass (s.seq n).entry⟩

section Action
variable (s : State) (n : Fin 4) (o : MediaOp) (hop : (s.seq n).op = some o)
include hop

/-- An action asks for the open operation's face. -/
theorem servoAction_of_open (move : Bool) : servoAction n move s = s.seekRequestOn n o.face (s.portRequest n move) := by
  rw [servoAction, hop, signed_toNat]
  rfl

variable (h5 : s.svState n = 5)
include h5

theorem servoSeekAction_spec (hcyl : (s.seq n).svoCyl.toNat < s.get (AV_FMTCYL_NCYL n)) (hfit : (s.seq n).svoCyl.toNat < 2 ^ 22)
    (hne : (s.seq n).svoCyl.toNat ≠ s.target n)
    (hofs : ((s.seq n).svoOfs.toInt + s.hofs n o.face (s.zoneOfCyl n (s.seq n).svoCyl.toNat)).natAbs ≤ 127) :
    ∃ t, exec (.servoSeekAction n) s = .next t ∧ t.svState n = 3 ∧ t.target n = (s.seq n).svoCyl.toNat ∧
      (t.svo.get n).req = some (entryClass (s.seq n).entry) ∧ (t.svo.get n).ofs = (s.seq n).svoOfs.toInt ∧
      (t.svo.get n).face = o.face ∧
      (t.svo.get n).head = s.hofs n o.face (s.zoneOfCyl n (s.seq n).svoCyl.toNat) ∧ t.get (SVO_STAT_ONTRK n) = 0 ∧
      t.get (SVO_STAT_WINH n) = 1 ∧ OtherServos n s t ∧ OtherAvenues n s t := by
  have hrun : servoAction n false s =
      (((s.seekBegun n o.face (s.portRequest n false)).laneSeekStart n).svTo n 3).genAhead n := by
    rw [servoAction_of_open s n o hop, seekRequestOn_of_seek h5 rfl hcyl hne hofs]
  have hmoves := ((((seekBegun_moves s n o.face (s.portRequest n false) (ws := laneWords n ++ engineWords n)
    (by simp [engineWords])).laneSeekStart (List.subset_append_left ..)).svTo (List.subset_append_right ..) 3).genAhead
    (by simp [engineWords]))
  obtain ⟨g, hsvo⟩ := genAhead_svo (((s.seekBegun n o.face (s.portRequest n false)).laneSeekStart n).svTo n 3) n
  rw [svTo_svo _ n (by decide), laneSeekStart_svo, seekBegun_svo] at hsvo
  refine ⟨servoAction n false s, rfl, ?_⟩
  rw [hrun, hsvo]
  refine ⟨?_, ?_, rfl, rfl, rfl, rfl, ?_, ?_, hmoves.servos, hmoves.avenues⟩
  · rw [State.svState, genAhead_stat _ n (.inr (.inl (Nat.le_of_ble_eq_true rfl)))]
    exact svTo_svState (by decide) (by decide)
  · have hkept := ((EngineMoves.refl n (laneWords n) (s.seekBegun n o.face (s.portRequest n false))).laneSeekStart
      (List.Subset.refl _)).get (g := SVO_STAT_TCYL n) (svoStat_not_mem_laneWords n)
    rw [State.target, genAhead_stat _ n (.inr (.inr (Nat.le_of_ble_eq_true rfl)))]
    exact (svTo_target (by decide) (by decide)).trans (hkept.trans (seekBegun_target s n _ _ hfit))
  · rw [genAhead_stat _ n (.inr (.inl (Nat.le_of_ble_eq_true rfl))), svTo_ontrk (by decide) (by decide)]
  · rw [genAhead_stat _ n (.inr (.inl (Nat.le_of_ble_eq_true rfl))), svTo_winh (by decide) (by decide)]

theorem servoMoveAction_spec (hcyl : s.target n < s.get (AV_FMTCYL_NCYL n)) (hface : (s.svo.get n).face = o.face)
    (hofs : ((s.seq n).svoOfs.toInt + (s.svo.get n).head).natAbs ≤ 127) :
    ∃ t, exec (.servoMoveAction n) s = .next t ∧ t.svState n = 4 ∧ t.target n = s.target n ∧
      (t.svo.get n).req = some (entryClass (s.seq n).entry) ∧ (t.svo.get n).ofs = (s.seq n).svoOfs.toInt ∧
      (t.svo.get n).head = (s.svo.get n).head ∧ (t.svo.get n).settleRun = 0 ∧ t.get (SVO_STAT_WINH n) = 1 ∧
      OtherServos n s t ∧ OtherAvenues n s t := by
  have hrun : servoAction n true s = (s.requestTaken n o.face (s.portRequest n true) (s.svo.get n).head false).svTo n 4 := by
    rw [servoAction_of_open s n o hop, seekRequestOn_of_move h5 rfl hcyl hface.symm hofs]
    rfl
  have hmoves := ((EngineMoves.refl n (engineWords n) s).modSv fun v =>
    { v with req := some (s.portRequest n true).cls, ofs := (s.portRequest n true).ofs, face := o.face,
             head := (s.svo.get n).head, headHeld := v.headHeld && !false,
             wantStrong := s.classStrong n (s.portRequest n true).cls }).svTo (List.Subset.refl _) 4
  have hsvo := svTo_settle (s.requestTaken n o.face (s.portRequest n true) (s.svo.get n).head false) n
  rw [State.requestTaken, State.svo_modSv_self] at hsvo
  refine ⟨servoAction n true s, rfl, ?_⟩
  rw [hrun, State.requestTaken, hsvo]
  exact ⟨svTo_svState (by decide) (by decide), svTo_target (by decide) (by decide), rfl, rfl, rfl, rfl,
    svTo_winh (by decide) (by decide), hmoves.servos, hmoves.avenues⟩

end Action

/-- Settles O24: settings by what the fields hold, preparation by the shadow, actions by what the engine takes from the ports. -/
theorem frontSettingsAndPreparation : Obligations.FrontSettingsAndPreparation :=
  ⟨fun s n o rb hop => ⟨afeApply_zone_spec s n o rb hop, afeApply_l2_spec s n o rb hop, ⟨_, rfl, modOp_spec hop _⟩,
      ⟨_, rfl, modOp_spec hop _⟩, ⟨_, rfl, modOp_spec hop _⟩, fun _ => ⟨_, rfl, modOp_spec hop _⟩⟩,
    fun s n o hop h0 => ⟨prepareRead_spec s n o hop h0, prepareWrite_spec s n o hop h0,
      fun hhead hsel hheat hwcur hassist _ => prepareWrite_settled_spec s n o hop h0 hhead hsel hheat hwcur hassist,
      prepareRead_timingHead_spec s n o hop h0⟩,
    fun s n o hop h5 => ⟨servoSeekAction_spec s n o hop h5, servoMoveAction_spec s n o hop h5⟩⟩

end Sys2Proof.Machine
end

section
/-! SUPPORT. Register words written one after another: what each of them holds afterwards. -/

namespace Sys2Proof.Machine

/-- The state with a list of register words written in order, each an address and its word. -/
def State.wrAll (s : State) (ws : List (Nat × Word)) : State := ws.foldl (fun t w => t.wr w.1 w.2) s

variable {ws : List (Nat × Word)}

theorem rd_wrAll_of_not_mem (s : State) {a : Nat} (h : a ∉ ws.map Prod.fst) : (s.wrAll ws).rd a = s.rd a := by
  induction ws generalizing s with
  | nil => rfl
  | cons w ws ih =>
    obtain ⟨hw, hws⟩ := not_or.1 (List.mem_cons.not.1 h)
    exact (ih _ hws).trans (State.rd_wr_of_ne s w.2 hw)

/-- Where no address is listed with two words, each listed word is what its address holds. -/
theorem rd_wrAll_of_mem (s : State) {w : Nat × Word} (hw : w ∈ ws) (hone : ∀ x ∈ ws, x.1 = w.1 → x.2 = w.2) :
    (s.wrAll ws).rd w.1 = w.2 := by
  induction ws generalizing s with
  | nil => cases hw
  | cons x ws ih =>
    by_cases h : ∃ y ∈ ws, y.1 = w.1
    · obtain ⟨y, hy, ha⟩ := h
      have hone' : ∀ z ∈ ws, z.1 = w.1 → z.2 = w.2 := fun z hz => hone z (List.mem_cons_of_mem _ hz)
      have hyw : y = w := Prod.ext ha (hone' y hy ha)
      exact ih (s.wr x.1 x.2) (hyw ▸ hy) hone'
    · have hx : w = x := (List.mem_cons.1 hw).resolve_right fun hmem => h ⟨w, hmem, rfl⟩
      subst hx
      refine (rd_wrAll_of_not_mem (s.wr w.1 w.2) fun hmem => h ?_).trans (State.rd_wr_self ..)
      obtain ⟨y, hy, ha⟩ := List.mem_map.1 hmem
      exact ⟨y, hy, ha⟩

/-- Words at addresses that an index tells apart. -/
theorem rd_wrAll_map {addr : Nat → Nat} (hinj : Function.Injective addr) (val : Nat → Word) (s : State) {l : List Nat} {i : Nat}
    (hi : i ∈ l) : (s.wrAll (l.map fun i => (addr i, val i))).rd (addr i) = val i := by
  refine rd_wrAll_of_mem s (w := (addr i, val i)) (List.mem_map_of_mem hi) fun x hx h => ?_
  obtain ⟨j, -, rfl⟩ := List.mem_map.1 hx
  rw [hinj h]

/-- A word written is its 32-bit field written. -/
theorem wr_eq_put (s : State) (a : Nat) (v : Word) : s.wr a v = s.put ⟨a, 0, 32⟩ v.toNat := by
  have hold : bitsOf (s.rd a).toNat 0 32 = (s.rd a).toNat := by
    rw [bitsOf, pow_zero, Nat.div_one]
    exact Nat.mod_eq_of_lt (s.rd a).isLt
  have hset : setBits (s.rd a).toNat 0 32 v.toNat = v.toNat := by
    rw [setBits, hold, pow_zero, mul_one, mul_one, Nat.sub_self, Nat.zero_add]
    exact Nat.mod_eq_of_lt v.isLt
  rw [State.put, hset, BitVec.ofNat_toNat, BitVec.setWidth_eq]

theorem wrAll_regs_only (s : State) (ws : List (Nat × Word)) : Untouched [.regs] s (s.wrAll ws) :=
  foldl_untouched (fun t _ => .setRegs t _) ws s

@[simp] theorem wrAll_av (s : State) (ws : List (Nat × Word)) : (s.wrAll ws).av = s.av := wrAll_regs_only s ws .av (by decide)

theorem AvenueFrame.wr {n : Fin 4} {fs : List Fld} {ps : List Part} {s t : State} (h : AvenueFrame n fs ps s t) {a : Nat}
    (ha : (⟨a, 0, 32⟩ : Fld) ∈ fs) (hr : .regs ∈ ps) (v : Word) : AvenueFrame n fs ps s (t.wr a v) := by
  rw [wr_eq_put]
  exact h.put ha hr _

theorem AvenueFrame.wrAll {n : Fin 4} {fs : List Fld} {ps : List Part} {s t : State} (h : AvenueFrame n fs ps s t)
    (hws : ∀ w ∈ ws, (⟨w.1, 0, 32⟩ : Fld) ∈ fs) (hr : .regs ∈ ps) : AvenueFrame n fs ps s (t.wrAll ws) := by
  induction ws generalizing t with
  | nil => exact h
  | cons w ws ih =>
    exact ih (h.wr (hws w (List.mem_cons_self ..)) hr w.2) fun x hx => hws x (List.mem_cons_of_mem _ hx)

theorem AvenueFrame.wrAll_map {n : Fin 4} {fs : List Fld} {ps : List Part} {s t : State} (h : AvenueFrame n fs ps s t)
    {addr : Nat → Nat} {val : Nat → Word} {l k : List Nat} (hl : l ⊆ k)
    (hf : k.map (fun i => (⟨addr i, 0, 32⟩ : Fld)) ⊆ fs) (hr : .regs ∈ ps) :
    AvenueFrame n fs ps s (t.wrAll (l.map fun i => (addr i, val i))) := by
  refine h.wrAll (fun w hw => hf ?_) hr
  obtain ⟨i, hi, rfl⟩ := List.mem_map.1 hw
  exact List.mem_map.2 ⟨i, hl hi, rfl⟩

end Sys2Proof.Machine
end

section
/-! SUPPORT. The sequencer's control registers (Table 6-12): going on at an address, stopping, halting and trapping (R165, R180, R182,
R183, R190). -/

namespace Sys2Proof.Machine

/-! ### Fields of SEQSTAT -/

/-- PC and STATE, which every change of address writes. -/
def goFlds (n : Fin 4) : List Fld := [AV_SEQSTAT_PC n, AV_SEQSTAT_STATE n]

section Go
variable (s : State) (n : Fin 4) (a : Nat)

@[simp] theorem goTo_av : (s.goTo n a).av = s.av := by rw [State.goTo, State.seqRunning, State.put_av, State.put_av]

@[simp] theorem goTo_avn (m : Fin 4) : (s.goTo n a).avn m = s.avn m := avn_of_av_eq (goTo_av ..) m

@[simp] theorem goTo_seq (m : Fin 4) : (s.goTo n a).seq m = s.seq m := congrArg Avenue.seq (goTo_avn ..)

@[simp] theorem goTo_flt : (s.goTo n a).flt = s.flt := by rw [State.goTo, State.seqRunning, State.put_flt, State.put_flt]

@[simp] theorem goTo_upc : (s.goTo n a).upc n = a % 4096 := by
  simp (disch := (simp only [AV_SEQSTAT_PC, AV_SEQSTAT_STATE]; omega)) only [State.upc, State.goTo, State.seqRunning,
    State.get_put_elsewhere, State.get_put_self]
  rfl

@[simp] theorem goTo_seqState : (s.goTo n a).seqState n = if (s.seq n).window = 7 then 3 else 1 := by
  have hseq : (s.put (AV_SEQSTAT_PC n) a).seq n = s.seq n := congrArg Avenue.seq (State.avn_put ..)
  rw [State.seqState, State.goTo, State.seqRunning, hseq, State.get_put_self _ _ _ (Nat.le_of_ble_eq_true rfl)]
  split <;> rfl

@[simp] theorem goTo_depth : (s.goTo n a).depth n = s.depth n := by
  simp (disch := (simp only [AV_SEQSTAT_PC, AV_SEQSTAT_STATE, AV_SEQSTAT_DEPTH]; omega)) only [State.depth, State.goTo, State.seqRunning,
    State.get_put_elsewhere]

@[simp] theorem goTo_resident : (s.goTo n a).resident n = s.resident n := by
  simp (disch := (simp only [AV_SEQSTAT_PC, AV_SEQSTAT_STATE, AV_SEQSTAT_RES]; omega)) only [State.resident, State.goTo, State.seqRunning,
    State.get_put_elsewhere]

variable {n a}

theorem goTo_rd {b : Nat} (h : b ≠ AV_SEQSTAT n) : (s.goTo n a).rd b = s.rd b :=
  (State.rd_put_of_ne _ _ _ h).trans (State.rd_put_of_ne _ _ _ h)

theorem goTo_get {g : Fld} (h : g.addr ≠ AV_SEQSTAT n) : (s.goTo n a).get g = s.get g := State.get_of_rd_eq (goTo_rd s h)

end Go

/-- STATE after the sequencer goes on, by the window that is current. -/
theorem goTo_seqState_of_window {s : State} {n : Fin 4} (h : (s.seq n).window ≠ 7) (a : Nat) : (s.goTo n a).seqState n = 1 :=
  (goTo_seqState ..).trans (if_neg h)

section Frames
variable {n : Fin 4} {fs : List Fld} {ps : List Part} {s t : State}

theorem AvenueFrame.putb (h : AvenueFrame n fs ps s t) {f : Fld} (hf : f ∈ fs) (hr : .regs ∈ ps) (b : Bool) :
    AvenueFrame n fs ps s (t.putb f b) := h.put hf hr _

theorem AvenueFrame.goTo (h : AvenueFrame n fs ps s t) (hf : goFlds n ⊆ fs) (hr : .regs ∈ ps) (a : Nat) :
    AvenueFrame n fs ps s (t.goTo n a) := by
  obtain ⟨hpc, hst⟩ : AV_SEQSTAT_PC n ∈ fs ∧ AV_SEQSTAT_STATE n ∈ fs := by simpa [goFlds] using hf
  exact (h.put hpc hr _).put hst hr _

theorem AvenueFrame.seqStopTo (h : AvenueFrame n fs ps s t) (hst : AV_SEQSTAT_STATE n ∈ fs) (hrun : AV_SEQCTL_RUN n ∈ fs)
    (hr : .regs ∈ ps) (ha : .av ∈ ps) (st : Nat) : AvenueFrame n fs ps s (t.seqStopTo n st) :=
  ((h.put hst hr st).putb hrun hr false).modAv ha _

end Frames

theorem goTo_frame (s : State) (n : Fin 4) (a : Nat) : Frame (goFlds n) [.regs] s (s.goTo n a) :=
  ((AvenueFrame.refl n _ _ s).goTo (List.Subset.refl _) (by simp) a).2

/-- A change of the sequencer after updates that leave its Avenue. -/
theorem modSeq_avn_of_eq {s t : State} {n : Fin 4} (h : t.avn n = s.avn n) (f : Seq → Seq) :
    (t.modSeq n f).avn n = { s.avn n with seq := f (s.seq n) } := by
  rw [(modSeq_only ..).1, State.seq, h]
  rfl

/-! ### Stops and halts (R182, R183, R190) -/

section Stop
variable (s : State) (n : Fin 4)

theorem seqStopTo_avn (st : Nat) : (s.seqStopTo n st).avn n = { s.avn n with seq := { s.seq n with arms := [], owner := none } } := by
  rw [State.seqStopTo]
  exact modSeq_avn_of_eq ((State.avn_put ..).trans (State.avn_put ..)) _

theorem seqStopTo_seqState {st : Nat} (h : st < 8) : (s.seqStopTo n st).seqState n = st := by
  rw [State.seqStopTo, State.modSeq, State.seqState, State.get_modAv, State.get_putb_elsewhere _ _ _ _ (.inl (avOffset_ne n (by decide)))]
  exact State.get_put_of_lt s (Nat.le_of_ble_eq_true rfl) h

theorem seqStopTo_run (st : Nat) : (s.seqStopTo n st).get (AV_SEQCTL_RUN n) = 0 := by
  rw [State.seqStopTo, State.modSeq, State.get_modAv]
  exact State.get_putb_self _ _ false (Nat.le_of_ble_eq_true rfl) Nat.one_pos

theorem seqStopTo_get {g : Fld} (hstat : AV_SEQSTAT n ≠ g.addr) (hctl : AV_SEQCTL n ≠ g.addr) (st : Nat) :
    (s.seqStopTo n st).get g = s.get g := by
  rw [State.seqStopTo, State.modSeq, State.get_modAv, State.get_putb_elsewhere _ _ _ _ (.inl hctl),
    State.get_put_elsewhere _ _ _ _ (.inl hstat)]

theorem seqStopTo_frame (st : Nat) : AvenueFrame n [AV_SEQSTAT_STATE n, AV_SEQCTL_RUN n] [.regs, .av] s (s.seqStopTo n st) :=
  (AvenueFrame.refl ..).seqStopTo (by simp) (by simp) (by simp) (by simp) st

theorem seqStopTo_flt (st : Nat) : (s.seqStopTo n st).flt = s.flt := (seqStopTo_frame s n st).2.2 .flt (by decide)

/-- What a halt captures while SEQFAULT.VALID is 0 (R182). -/
def State.haltCaptured (code : Nat) : State :=
  if s.is (AV_SEQFAULT_VALID n) then s
  else (((s.put (AV_SEQFAULT_CODE n) code).put (AV_SEQFAULT_PC n) (s.upc n)).put (AV_SEQFAULT_DEPTH n) (s.depth n)).put
    (AV_SEQFAULT_VALID n) 1

/-- SEQFAULT's fields. -/
def faultFlds (n : Fin 4) : List Fld := [AV_SEQFAULT_VALID n, AV_SEQFAULT_CODE n, AV_SEQFAULT_PC n, AV_SEQFAULT_DEPTH n]

theorem seqFault_eq (code : Nat) : s.seqFault n code = ((s.haltCaptured n code).raise (avSrc n 80)).seqStopTo n 5 := rfl

theorem haltCaptured_frame (code : Nat) : AvenueFrame n (faultFlds n) [.regs] s (s.haltCaptured n code) := by
  unfold State.haltCaptured
  split
  · exact .refl ..
  · exact ((((AvenueFrame.refl n _ _ s).put (by simp [faultFlds]) (by simp) _).put (by simp [faultFlds]) (by simp) _).put
      (by simp [faultFlds]) (by simp) _).put (by simp [faultFlds]) (by simp) _

theorem haltCaptured_avn (code : Nat) (m : Fin 4) : (s.haltCaptured n code).avn m = s.avn m :=
  avn_of_av_eq ((haltCaptured_frame s n code).2.2 .av (by decide)) m

theorem haltCaptured_valid (code : Nat) : (s.haltCaptured n code).get (AV_SEQFAULT_VALID n) = 1 := by
  unfold State.haltCaptured
  split
  next h =>
    have hlt := s.get_lt (AV_SEQFAULT_VALID n)
    have hne := (State.is_eq_true_iff _ _).1 h
    have : (2 : Nat) ^ (AV_SEQFAULT_VALID n).wid = 2 := rfl
    omega
  · exact State.get_put_of_lt _ (Nat.le_of_ble_eq_true rfl) Nat.one_lt_two

theorem haltCaptured_of_valid (h : s.get (AV_SEQFAULT_VALID n) = 1) (code : Nat) : s.haltCaptured n code = s :=
  if_pos (State.is_of_get_one h)

/-- A fresh halt captures its code, the address and the depth. -/
theorem haltCaptured_fresh (h : s.get (AV_SEQFAULT_VALID n) = 0) {code : Nat} (hc : code < 8) :
    (s.haltCaptured n code).get (AV_SEQFAULT_CODE n) = code ∧ (s.haltCaptured n code).get (AV_SEQFAULT_PC n) = s.upc n ∧
    (s.haltCaptured n code).get (AV_SEQFAULT_DEPTH n) = s.depth n := by
  have hpc : s.upc n < 2 ^ 12 := s.get_lt (AV_SEQSTAT_PC n)
  have hdepth : s.depth n < 2 ^ 6 := s.get_lt (AV_SEQSTAT_DEPTH n)
  rw [State.haltCaptured, State.is_of_get_zero h, if_neg Bool.false_ne_true]
  simp (disch := (simp only [AV_SEQFAULT_VALID, AV_SEQFAULT_CODE, AV_SEQFAULT_PC, AV_SEQFAULT_DEPTH]; omega)) only [State.get_put_elsewhere,
    State.get_put_self]
  exact ⟨Nat.mod_eq_of_lt hc, Nat.mod_eq_of_lt hpc, Nat.mod_eq_of_lt hdepth⟩

/-- A halt leaves SEQFAULT as it was captured. -/
theorem seqFault_get_fault {g : Fld} (h : g.addr = AV_SEQFAULT n) (code : Nat) :
    (s.seqFault n code).get g = (s.haltCaptured n code).get g := by
  rw [seqFault_eq, seqStopTo_get _ n (h ▸ avOffset_ne n (by decide)) (h ▸ avOffset_ne n (by decide)), State.get_raise]

/-- A halt (R182, R183): what it captures, the arms that it discards, the source, and no more. -/
theorem seqFault_spec {code : Nat} (hc : code < 8) :
    let t := s.seqFault n code
    t.seqState n = 5 ∧ t.get (AV_SEQCTL_RUN n) = 0 ∧ t.get (AV_SEQFAULT_VALID n) = 1 ∧
      (s.get (AV_SEQFAULT_VALID n) = 0 → t.get (AV_SEQFAULT_CODE n) = code ∧ t.get (AV_SEQFAULT_PC n) = s.upc n ∧
        t.get (AV_SEQFAULT_DEPTH n) = s.depth n) ∧
      (s.get (AV_SEQFAULT_VALID n) = 1 → t.get (AV_SEQFAULT_CODE n) = s.get (AV_SEQFAULT_CODE n) ∧
        t.get (AV_SEQFAULT_PC n) = s.get (AV_SEQFAULT_PC n)) ∧
      t.avn n = { s.avn n with seq := { s.seq n with arms := [], owner := none } } ∧ Raised1 (avSrc n 80) 0 s t ∧
      AvenueFrame n (AV_SEQSTAT_STATE n :: AV_SEQCTL_RUN n :: faultFlds n) [.regs, .av, .flt] s t := by
  intro t
  have hcap := haltCaptured_frame s n code
  have havn : ((s.haltCaptured n code).raise (avSrc n 80)).avn n = s.avn n := haltCaptured_avn s n code n
  refine ⟨seqStopTo_seqState _ n (by decide), seqStopTo_run .., ?_, fun h => ?_, fun h => ?_, ?_, ?_, ?_⟩
  · exact (seqFault_get_fault s n rfl code).trans (haltCaptured_valid s n code)
  · obtain ⟨h1, h2, h3⟩ := haltCaptured_fresh s n h hc
    exact ⟨(seqFault_get_fault s n rfl code).trans h1, (seqFault_get_fault s n rfl code).trans h2,
      (seqFault_get_fault s n rfl code).trans h3⟩
  · have hkept := haltCaptured_of_valid s n h code
    exact ⟨(seqFault_get_fault s n rfl code).trans (by rw [hkept]), (seqFault_get_fault s n rfl code).trans (by rw [hkept])⟩
  · refine (seqStopTo_avn ((s.haltCaptured n code).raise (avSrc n 80)) n 5).trans ?_
    rw [State.seq, havn]
    rfl
  · exact (seqStopTo_flt ..).trans (raised1_of_untouched hcap.2.2 (by decide) (by decide) _ 0)
  · exact ((hcap.mono (by simp [faultFlds]) (by simp)).raise (by simp) _ _).seqStopTo (by simp) (by simp) (by simp) (by simp) 5

end Stop

/-! ### Traps (R180) -/

section Trap
variable (s : State) (n : Fin 4) (cause ret : Nat)

/-- SEQTRAP with the address and the cause of a trap. -/
def State.trapPut : State := (s.put (AV_SEQTRAP_TRAPPC n) ret).put (AV_SEQTRAP_CAUSE n) cause

/-- SEQTRAP, and the count of a trap on a full window file. -/
def State.trapCounted : State := if cause = 0 then (s.trapPut n cause ret).bump (AV_SEQCNT_OVF n) else s.trapPut n cause ret

/-- SEQTRAP, the count and the event of a trap's cause. -/
def State.trapShown : State := (s.trapCounted n cause ret).raiseIf (cause == 2) (avSrc n 81)

/-- The trap window becomes current, with the flags and the window saved. -/
def Seq.trapped (q : Seq) : Seq := { q with saved := ⟨q.window, q.zero, q.neg, q.flag⟩, window := 7 }

/-- The fields that a trap of a cause writes, and the parts that it changes. -/
def trapFlds : List Fld :=
  goFlds n ++ [AV_SEQTRAP_TRAPPC n, AV_SEQTRAP_CAUSE n] ++ if cause = 0 then [AV_SEQCNT_OVF n] else []
def trapParts : List Part := [.regs, .av] ++ if cause = 2 then [.flt] else []

variable {s n} in
theorem takeTrap_of_outside (h : (s.seq n).window ≠ 7) : s.takeTrap n cause ret =
    ((s.trapShown n cause ret).modSeq n Seq.trapped).goTo n (s.get (AV_SEQTRAP_BASE n) + 4 * cause) := if_neg h

theorem takeTrap_of_inside {s : State} {n : Fin 4} (h : (s.seq n).window = 7) : s.takeTrap n cause ret = s.seqFault n 2 := if_pos h

theorem trapCounted_frame : AvenueFrame n (trapFlds n cause) [.regs] s (s.trapCounted n cause ret) := by
  have hput : AvenueFrame n (trapFlds n cause) [.regs] s (s.trapPut n cause ret) :=
    ((AvenueFrame.refl ..).put (by simp [trapFlds]) (by simp) ret).put (by simp [trapFlds]) (by simp) cause
  unfold State.trapCounted
  split
  next h0 => exact hput.bump (by simp [trapFlds, h0]) (by simp) 1
  · exact hput

theorem trapShown_frame : AvenueFrame n (trapFlds n cause) (trapParts cause) s (s.trapShown n cause ret) := by
  have hcount := (trapCounted_frame s n cause ret).mono (List.Subset.refl _) (show [Part.regs] ⊆ trapParts cause by simp [trapParts])
  unfold State.trapShown
  by_cases h2 : cause = 2
  · rw [beq_iff_eq.2 h2, State.raiseIf_true]
    exact hcount.raise (by simp [trapParts, h2]) _ _
  · rw [beq_false_of_ne h2, State.raiseIf_false]
    exact hcount

theorem trapShown_av : (s.trapShown n cause ret).av = s.av :=
  (State.raiseIf_av ..).trans ((trapCounted_frame s n cause ret).2.2 .av (by decide))

/-- The trap's address and cause. -/
theorem trapShown_get (hc : cause < 4) (hr : ret < 4096) :
    (s.trapShown n cause ret).get (AV_SEQTRAP_TRAPPC n) = ret ∧ (s.trapShown n cause ret).get (AV_SEQTRAP_CAUSE n) = cause := by
  have hput : ∀ g : Fld, g.addr = AV_SEQTRAP n → (s.trapShown n cause ret).get g = (s.trapPut n cause ret).get g := by
    intro g hg
    rw [State.trapShown, State.get_raiseIf, State.trapCounted]
    split
    · exact State.get_put_elsewhere _ _ _ _ (.inl (hg ▸ avOffset_ne n (by decide)))
    · rfl
  rw [hput _ rfl, hput _ rfl, State.trapPut]
  simp (disch := (simp only [AV_SEQTRAP_TRAPPC, AV_SEQTRAP_CAUSE]; omega)) only [State.get_put_elsewhere, State.get_put_self]
  exact ⟨Nat.mod_eq_of_lt hr, Nat.mod_eq_of_lt hc⟩

/-- A trap outside the trap window (R180). -/
theorem takeTrap_spec (h : (s.seq n).window ≠ 7) (hc : cause < 4) (hr : ret < 4096) :
    let t := s.takeTrap n cause ret
    t.upc n = (s.get (AV_SEQTRAP_BASE n) + 4 * cause) % 4096 ∧ t.seqState n = 3 ∧ t.get (AV_SEQTRAP_TRAPPC n) = ret ∧
      t.get (AV_SEQTRAP_CAUSE n) = cause ∧ t.avn n = { s.avn n with seq := (s.seq n).trapped } ∧
      AvenueFrame n (trapFlds n cause) (trapParts cause) s t := by
  intro t
  obtain ⟨hret, hcause⟩ := trapShown_get s n cause ret hc hr
  have hseq : (s.trapShown n cause ret).avn n = s.avn n := avn_of_av_eq (trapShown_av ..) n
  have ht : t = ((s.trapShown n cause ret).modSeq n Seq.trapped).goTo n (s.get (AV_SEQTRAP_BASE n) + 4 * cause) :=
    takeTrap_of_outside cause ret h
  rw [ht]
  refine ⟨goTo_upc .., ?_, ?_, ?_, ?_, ?_⟩
  · rw [goTo_seqState, State.seq_modSeq_self]
    rfl
  · rw [goTo_get _ (avOffset_ne n (by decide)), State.modSeq, State.get_modAv, hret]
  · rw [goTo_get _ (avOffset_ne n (by decide)), State.modSeq, State.get_modAv, hcause]
  · exact (goTo_avn ..).trans (modSeq_avn_of_eq hseq _)
  · exact ((trapShown_frame s n cause ret).modAv (by simp [trapParts]) _).goTo (by simp [trapFlds]) (by simp [trapParts]) _

/-- An uncorrectable word raises source 81 (R181). -/
theorem takeTrap_uncorrectable_raised (h : (s.seq n).window ≠ 7) : Raised1 (avSrc n 81) 0 s (s.takeTrap n 2 ret) := by
  rw [takeTrap_of_outside 2 ret h]
  exact (goTo_flt ..).trans ((raised1_of_untouched (trapCounted_frame s n 2 ret).2.2 (by decide) (by decide) (avSrc n 81) 0).modAv n _)

end Trap

end Sys2Proof.Machine
end

section
/-! CERTIFICATE. The statement O21: the ALU actions of a sequencer (R168, R169). -/

namespace Sys2Proof.Machine

/-! ### Registers of a window (R169) -/

section SetReg
variable (s : State) (n : Fin 4) (w : Nat) {i : Fin 16} (v : Word)

@[simp] theorem avn_wr (a : Nat) (m : Fin 4) : (s.wr a v).avn m = s.avn m := avn_of_av_eq (State.wr_av ..) m

theorem setReg_of_kept (h : i.val = 0 ∨ i.val = 15) : s.setReg n w i v = s := if_pos h

theorem setReg_of_plain (h0 : i.val ≠ 0) (h15 : i.val ≠ 15) : s.setReg n w i v = s.wr (AV_WINFILE n w i.val) v :=
  if_neg (not_or.2 ⟨h0, h15⟩)

end SetReg

section Alu
variable (s : State) (n : Fin 4)

theorem setFlags_only (v : Word) :
    (s.setFlags n v).avn n = { s.avn n with seq := { s.seq n with zero := decide (v = 0), neg := v.msb } } ∧
    OtherAvenues n s (s.setFlags n v) ∧ Untouched [.av] s (s.setFlags n v) := modSeq_only ..

theorem setFlags_leaves (v : Word) : AluLeaves n v none s (s.setFlags n v) := by
  obtain ⟨havn, hother, hu⟩ := setFlags_only s n v
  exact ⟨havn, hother, hu .regs (by decide), hu.mono (by simp)⟩

/-- The flags and a destination register of the current window. -/
theorem setFlags_setReg_leaves (v : Word) (rd : Fin 16) :
    AluLeaves n v (some rd) s ((s.setFlags n v).setReg n (s.seq n).window rd v) := by
  obtain ⟨havn, hother, hregs, hu⟩ := setFlags_leaves s n v
  by_cases h : rd.val = 0 ∨ rd.val = 15
  · rw [setReg_of_kept _ n _ v h]
    exact ⟨havn, hother, (if_pos h).mpr hregs, hu⟩
  · obtain ⟨h0, h15⟩ := not_or.1 h
    rw [setReg_of_plain _ n _ v h0 h15]
    refine ⟨(avn_wr ..).trans havn, hother.of_av_eq (State.wr_av ..), (if_neg h).mpr ⟨State.rd_wr_self .., ?_⟩,
      hu.trans ((Untouched.setRegs _ _).mono (by simp))⟩
    exact ((WordsBut.refl _ s).of_regs_eq hregs).trans (wr_wordsBut _ _ _)

/-- Operand B of an ALU action. -/
def State.operandB (s : State) (n : Fin 4) (x : AluArgs) : Word := if x.useImm then x.imm else s.reg n x.rb

/-- Every ALU action but CMP writes its destination (Table 6-4). -/
theorem alu_leaves (x : AluArgs) {op : Nat} (h : op ≠ 9) :
    AluLeaves n (aluResult op (s.reg n x.ra) (s.operandB n x)) (some x.rd) s (alu n op x s) := by
  rw [show alu n op x s = _ from if_neg h]
  exact setFlags_setReg_leaves ..

theorem alu_cmp_leaves (x : AluArgs) : AluLeaves n (s.reg n x.ra - s.operandB n x) none s (alu n 9 x s) := setFlags_leaves ..

end Alu

/-- Settles O21: each action is its code's result, written as Table 6-4 says. -/
theorem aluActions : Obligations.AluActions := fun s n x =>
  ⟨⟨_, rfl, alu_leaves s n x (op := 1) (by decide)⟩, ⟨_, rfl, alu_leaves s n x (op := 2) (by decide)⟩,
    ⟨_, rfl, alu_leaves s n x (op := 3) (by decide)⟩, ⟨_, rfl, alu_leaves s n x (op := 4) (by decide)⟩,
    ⟨_, rfl, alu_leaves s n x (op := 5) (by decide)⟩, ⟨_, rfl, alu_leaves s n x (op := 6) (by decide)⟩,
    ⟨_, rfl, alu_leaves s n x (op := 7) (by decide)⟩, ⟨_, rfl, alu_leaves s n x (op := 8) (by decide)⟩,
    ⟨_, rfl, alu_cmp_leaves s n x⟩⟩

end Sys2Proof.Machine
end

section
/-! CERTIFICATE. The statement O22: ports, the flag F and the command rings (R166, R171, R172, R184, R185, R384, R385). -/

namespace Sys2Proof.Machine

/-! ### Reads of ports (R166, R171, R172) -/

section PortRead
variable (s : State) (n : Fin 4) (rd ra : Fin 16)

/-- A port's value goes to RD of the window that was current. -/
theorem portRead_of_value {port : Nat} {v : Word} {s1 : State} (hv : portValue n port (s.reg n ra) s = (v, s1)) :
    portRead n port rd ra s = s1.setReg n (s.seq n).window rd v := by rw [portRead, hv]

variable (h0 : rd.val ≠ 0) (h15 : rd.val ≠ 15)
include h0 h15

/-- A read that changes no more than RD. -/
theorem portRead_plain {port : Nat} {v : Word} (hv : portValue n port (s.reg n ra) s = (v, s)) :
    (portRead n port rd ra s).rd (AV_WINFILE n (s.seq n).window rd.val) = v ∧
    WordsBut [AV_WINFILE n (s.seq n).window rd.val] s (portRead n port rd ra s) ∧
    Untouched [.regs] s (portRead n port rd ra s) := by
  rw [portRead_of_value s n rd ra hv, setReg_of_plain _ n _ v h0 h15]
  exact ⟨State.rd_wr_self .., wr_wordsBut _ _ _, .setRegs _ _⟩

theorem portRead_entry_spec (k : Fin 16) : ∃ t, exec (.portRead n ⟨k.val, by omega⟩ rd ra) s = .next t ∧
    t.rd (AV_WINFILE n (s.seq n).window rd.val) = (s.seq n).entry.words.getD k.val 0 ∧
    WordsBut [AV_WINFILE n (s.seq n).window rd.val] s t ∧ Untouched [.regs] s t := by
  have hv : portValue n k.val (s.reg n ra) s = ((s.seq n).entry.words.getD k.val 0, s) := by
    rw [portValue, if_pos k.isLt, State.cmdWord, BitVec.ofNat_toNat, BitVec.setWidth_eq]
  exact ⟨_, rfl, portRead_plain s n rd ra h0 h15 hv⟩

theorem portRead_omEntry_spec : ∃ t, exec (.portRead n 0x20 rd ra) s = .next t ∧
    t.rd (AV_WINFILE n (s.seq n).window rd.val) = s.rd (AV_OMENTRY n ((s.reg n ra).toNat % 64)) ∧
    WordsBut [AV_WINFILE n (s.seq n).window rd.val] s t ∧ Untouched [.regs] s t :=
  ⟨_, rfl, portRead_plain s n rd ra h0 h15 (port := 0x20) rfl⟩

theorem portRead_time_spec : ∃ t, exec (.portRead n 0x13 rd ra) s = .next t ∧
    t.rd (AV_WINFILE n (s.seq n).window rd.val) = BitVec.ofNat 32 s.tim.now.toNat ∧
    WordsBut [AV_WINFILE n (s.seq n).window rd.val] s t ∧ Untouched [.regs] s t :=
  ⟨_, rfl, portRead_plain s n rd ra h0 h15 (port := 0x13) rfl⟩

end PortRead

/-! ### The outcome queue (R171, R172) -/

section Outcome

theorem outcomeCode_lt (o : SectorOutcome) : outcomeCode o < 8 := by cases o <;> decide

theorem outcomeWord_toNat (r : OutcomeRec) :
    (outcomeWord r).toNat = outcomeCode r.outcome * 2 ^ 29 + (if r.laneLost then 2 ^ 28 else 0) + r.slot % 4096 := by
  have hcode := outcomeCode_lt r.outcome
  rw [outcomeWord, BitVec.toNat_ofNat]
  apply Nat.mod_eq_of_lt
  split <;> omega

/-- The slot, the code and the lane's mark of an outcome's word (Table 6-5). -/
theorem outcomeWord_fields (r : OutcomeRec) : (outcomeWord r).toNat % 4096 = r.slot % 4096 ∧
    (outcomeWord r).toNat / 2 ^ 29 = outcomeCode r.outcome ∧
    (outcomeWord r).toNat / 2 ^ 28 % 2 = (if r.laneLost then 1 else 0) := by
  rw [outcomeWord_toNat]
  split <;> omega

variable (s : State) (n : Fin 4) (rd : Fin 16)

theorem portValue_outcome (ra : Word) : portValue n 0x10 ra s = outcomePop n s := rfl

theorem outcomePop_of_nil (h : (s.seq n).outcomes = []) : outcomePop n s = (0xFFFFFFFF, s) := by rw [outcomePop, h]

theorem outcomePop_of_cons {r : OutcomeRec} {rs : List OutcomeRec} (h : (s.seq n).outcomes = r :: rs) :
    outcomePop n s = (outcomeWord r, s.modSeq n (fun q => { q with outcomes := rs })) := by rw [outcomePop, h]

/-- The oldest outcome leaves the queue, if there is one. -/
theorem outcomePop_drops : (outcomePop n s).2.avn n = { s.avn n with seq := { s.seq n with outcomes := (s.seq n).outcomes.drop 1 } } ∧
    OtherAvenues n s (outcomePop n s).2 ∧ Untouched [.av] s (outcomePop n s).2 := by
  match h : (s.seq n).outcomes with
  | [] =>
    rw [outcomePop_of_nil s n h]
    exact ⟨by rw [List.drop_nil, ← h]; rfl, .refl n s, .refl _ s⟩
  | r :: rs =>
    rw [outcomePop_of_cons s n h]
    exact modSeq_only s n (fun q => { q with outcomes := rs })

theorem outcomeRead_spec (r : OutcomeRec) (rs : List OutcomeRec) (h0 : rd.val ≠ 0) (h15 : rd.val ≠ 15)
    (h : (s.seq n).outcomes = r :: rs) :
    ∃ t, exec (.outcomeRead n rd) s = .next t ∧
      (t.rd (AV_WINFILE n (s.seq n).window rd.val)).toNat % 4096 = r.slot % 4096 ∧
      (t.rd (AV_WINFILE n (s.seq n).window rd.val)).toNat / 2 ^ 29 = outcomeCode r.outcome ∧
      (t.rd (AV_WINFILE n (s.seq n).window rd.val)).toNat / 2 ^ 28 % 2 = (if r.laneLost then 1 else 0) ∧
      t.avn n = { s.avn n with seq := { s.seq n with outcomes := rs } } ∧ OtherAvenues n s t ∧
      WordsBut [AV_WINFILE n (s.seq n).window rd.val] s t ∧ Untouched [.regs, .av] s t := by
  refine ⟨portRead n 0x10 rd 0 s, rfl, ?_⟩
  rw [portRead_of_value s n rd 0 ((portValue_outcome s n _).trans (outcomePop_of_cons s n h)), setReg_of_plain _ n _ _ h0 h15,
    State.rd_wr_self]
  obtain ⟨hslot, hcode, hlost⟩ := outcomeWord_fields r
  obtain ⟨havn, hother, hu⟩ := modSeq_only s n (fun q => { q with outcomes := rs })
  exact ⟨hslot, hcode, hlost, (avn_wr ..).trans havn, hother.of_av_eq (State.wr_av ..),
    ((WordsBut.refl _ s).of_regs_eq (State.modAv_regs ..)).trans (wr_wordsBut _ _ _),
    (hu.mono (by simp)).trans ((Untouched.setRegs _ _).mono (by simp))⟩

theorem outcomeRead_empty_spec (h0 : rd.val ≠ 0) (h15 : rd.val ≠ 15) (h : (s.seq n).outcomes = []) :
    ∃ t, exec (.outcomeRead n rd) s = .next t ∧ t.rd (AV_WINFILE n (s.seq n).window rd.val) = 0xFFFFFFFF ∧
      WordsBut [AV_WINFILE n (s.seq n).window rd.val] s t ∧ Untouched [.regs] s t :=
  ⟨_, rfl, portRead_plain s n rd 0 h0 h15 ((portValue_outcome s n _).trans (outcomePop_of_nil s n h))⟩

/-- A read into r0 or r15 drops the oldest outcome all the same. -/
theorem outcomeRead_unwritten_spec (h : rd.val = 0 ∨ rd.val = 15) :
    ∃ t, exec (.outcomeRead n rd) s = .next t ∧ t.avn n = { s.avn n with seq := { s.seq n with
      outcomes := (s.seq n).outcomes.drop 1 } } ∧ OtherAvenues n s t ∧ Untouched [.av] s t := by
  refine ⟨portRead n 0x10 rd 0 s, rfl, ?_⟩
  rw [portRead_of_value s n rd 0 (portValue_outcome s n _), setReg_of_kept _ n _ _ h]
  exact outcomePop_drops s n

end Outcome

/-! ### The ring selector (R385) -/

section Select
variable {rings : List (List RingEntry)} {base k last : Nat}

theorem pickRing_of_empty (h : ∀ j, j < k → rings.getD (base + j) [] = []) : pickRing rings base k last = none := by
  refine List.findSome?_eq_none_iff.2 fun r hr => ?_
  obtain ⟨i, hi, rfl⟩ := List.mem_map.1 hr
  have hk : 0 < k := Nat.zero_lt_of_lt (List.mem_range.1 hi)
  rw [h _ (Nat.mod_lt _ hk)]
  rfl

/-- Among four rings of which one alone holds entries, that one presents its oldest. -/
theorem pickRing_of_only {r : Nat} {e : RingEntry} {es : List RingEntry} (hr : r < 4) (hlast : last < 4)
    (hring : rings.getD r [] = e :: es) (hothers : ∀ j, j < 4 → j ≠ r → rings.getD j [] = []) :
    pickRing rings 0 4 last = some (r, e) := by
  have hturn : (last + 1 + (r + 3 - last) % 4) % 4 = r := by omega
  have hfound : ∃ y, pickRing rings 0 4 last = some y := by
    refine Option.isSome_iff_exists.1 (List.findSome?_isSome_iff.2 ⟨r, ?_, by rw [hring]; rfl⟩)
    refine List.mem_map.2 ⟨(r + 3 - last) % 4, List.mem_range.2 (Nat.mod_lt _ (by decide)), ?_⟩
    rw [hturn, Nat.zero_add]
  obtain ⟨y, hy⟩ := hfound
  obtain ⟨j, hj, hpick⟩ := List.exists_of_findSome?_eq_some hy
  obtain ⟨i, -, rfl⟩ := List.mem_map.1 hj
  rw [Nat.zero_add] at hpick
  by_cases hjr : (last + 1 + i) % 4 = r
  · rw [hjr, hring] at hpick
    exact hy.trans hpick.symm
  · rw [hothers _ (Nat.mod_lt _ (by decide)) hjr] at hpick
    cases hpick

variable {s : State} {n : Fin 4}

theorem presented_of_urgent {x : Nat × RingEntry} (h : pickRing (s.seq n).rings 0 4 (s.seq n).lastUrgent = some x) :
    s.presented n = some x := by
  unfold State.presented
  simp only [h]

theorem presented_of_empty (h : ∀ k, k < 32 → (s.seq n).rings.getD k [] = []) : s.presented n = none := by
  unfold State.presented
  simp only [pickRing_of_empty (base := 0) (k := 4) fun j hj => h (0 + j) (by omega),
    pickRing_of_empty (base := 4) (k := 24) fun j hj => h (4 + j) (by omega),
    pickRing_of_empty (base := 28) (k := 4) fun j hj => h (28 + j) (by omega)]

end Select

/-! ### FETCH and COMPLETE (R184, R185) -/

section Rings
variable (s : State) (n : Fin 4)

/-- The sequencer with an entry of an urgent ring presented. -/
def Seq.taking (q : Seq) (r : Nat) (e : RingEntry) (es : List RingEntry) : Seq :=
  { q with lastUrgent := r, entry := e, entryLive := true, rings := q.rings.set r es, fetched := q.fetched ++ [e] }

/-- The sequencer with nothing presented. -/
def Seq.idled (q : Seq) : Seq := { q with entry := zeroEntry, entryLive := false }

theorem ringFetch_of_urgent {r : Nat} {e : RingEntry} {es : List RingEntry} (hr : r < 4) (hp : s.presented n = some (r, e))
    (hring : (s.seq n).rings.getD r [] = e :: es) : ringFetch n s = s.modSeq n (fun q => q.taking r e es) := by
  have hring' : (s.av.get n).seq.rings.getD r [] = e :: es := hring
  unfold ringFetch
  simp only [hp, served, if_pos hr, State.modSeq, State.modAv, hring', List.drop_one, List.tail_cons]
  rfl

theorem ringFetch_of_empty (h : ∀ k, k < 32 → (s.seq n).rings.getD k [] = []) : ringFetch n s = s.modSeq n Seq.idled := by
  unfold ringFetch
  simp only [presented_of_empty h]
  rfl

theorem ringFetch_spec (r : Nat) (e : RingEntry) (es : List RingEntry) (hr : r < 4) (hlast : (s.seq n).lastUrgent < 4)
    (hring : (s.seq n).rings.getD r [] = e :: es) (hothers : ∀ k, k < 4 → k ≠ r → (s.seq n).rings.getD k [] = []) :
    ∃ t, exec (.ringFetch n) s = .next t ∧ (t.seq n).entry = e ∧ (t.seq n).entryLive = true ∧
      (t.seq n).rings = (s.seq n).rings.set r es ∧ (t.seq n).fetched = (s.seq n).fetched ++ [e] ∧
      (t.seq n).lastUrgent = r ∧ (t.seq n).outcomes = (s.seq n).outcomes ∧ OtherAvenues n s t ∧ Untouched [.av] s t := by
  refine ⟨ringFetch n s, rfl, ?_⟩
  rw [ringFetch_of_urgent s n hr (presented_of_urgent (pickRing_of_only hr hlast hring hothers)) hring, State.seq_modSeq_self]
  exact ⟨rfl, rfl, rfl, rfl, rfl, rfl, (modSeq_only ..).2⟩

theorem ringFetch_empty_spec (h : ∀ k, k < 32 → (s.seq n).rings.getD k [] = []) :
    ∃ t, exec (.ringFetch n) s = .next t ∧ (t.seq n).entry.words = List.replicate 16 0 ∧ (t.seq n).entryLive = false ∧
      (t.seq n).rings = (s.seq n).rings ∧ OtherAvenues n s t ∧ Untouched [.av] s t := by
  refine ⟨ringFetch n s, rfl, ?_⟩
  rw [ringFetch_of_empty s n h, State.seq_modSeq_self]
  exact ⟨rfl, rfl, rfl, (modSeq_only ..).2⟩

/-- The sequencer with its current entry completed with status 0. -/
def Seq.completing (q : Seq) : Seq :=
  { q with
    entryLive := false
    fetched := q.fetched.erase q.entry
    winUrgent := q.winUrgent - (if entryClass q.entry == 2 then 1 else 0)
    winOther := q.winOther - (if entryClass q.entry == 2 then 0 else 1)
    posted := q.posted ++ [(bitsOf (entryWord q.entry 3) 0 16, 0)] }

theorem ringComplete_of_live (h : (s.seq n).entryLive = true) : ringComplete n 0 s = s.modSeq n Seq.completing := by
  unfold ringComplete
  simp only [h, Bool.not_true, Bool.false_eq_true, if_false, ne_eq, not_true_eq_false, and_false]
  rfl

theorem tag_eq_mod (e : RingEntry) : bitsOf (entryWord e 3) 0 16 = (e.words.getD 3 0).toNat % 65536 := by
  rw [bitsOf, pow_zero, Nat.div_one]
  rfl

variable (ra : Fin 16) (hlive : (s.seq n).entryLive = true) (hra : (s.reg n ra).toNat % 65536 = 0)
include hlive hra

theorem ringComplete_spec (hurg : entryClass (s.seq n).entry = 2 → 1 ≤ (s.seq n).winUrgent) :
    ∃ t, exec (.ringComplete n ra) s = .next t ∧ (t.seq n).entryLive = false ∧
      (t.seq n).posted = (s.seq n).posted ++ [(((s.seq n).entry.words.getD 3 0).toNat % 65536, 0)] ∧
      (t.seq n).fetched = (s.seq n).fetched.erase (s.seq n).entry ∧
      (entryClass (s.seq n).entry = 2 → (t.seq n).winUrgent + 1 = (s.seq n).winUrgent ∧
        (t.seq n).winOther = (s.seq n).winOther) ∧
      (entryClass (s.seq n).entry ≠ 2 → (t.seq n).winUrgent = (s.seq n).winUrgent ∧
        (t.seq n).winOther = (s.seq n).winOther - 1) ∧ OtherAvenues n s t ∧ Untouched [.av] s t := by
  refine ⟨ringComplete n ((s.reg n ra).toNat % 65536) s, rfl, ?_⟩
  rw [hra, ringComplete_of_live s n hlive, State.seq_modSeq_self]
  refine ⟨rfl, ?_, rfl, fun h => ?_, fun h => ?_, (modSeq_only ..).2⟩
  · exact congrArg (fun k => (s.seq n).posted ++ [(k, 0)]) (tag_eq_mod _)
  · have h1 := hurg h
    simp only [Seq.completing, h, beq_self_eq_true, if_true, Nat.sub_zero, and_true]
    omega
  · have hne : (entryClass (s.seq n).entry == 2) = false := beq_false_of_ne h
    simp only [Seq.completing, hne, Bool.false_eq_true, if_false, Nat.sub_zero, and_self]

theorem ringCompleteFetch_spec (hempty : ∀ k, k < 32 → (s.seq n).rings.getD k [] = []) :
    ∃ t, exec (.ringCompleteFetch n ra) s = .next t ∧
      (t.seq n).posted = (s.seq n).posted ++ [(((s.seq n).entry.words.getD 3 0).toNat % 65536, 0)] ∧
      (t.seq n).entry.words = List.replicate 16 0 ∧ (t.seq n).entryLive = false ∧ OtherAvenues n s t ∧
      Untouched [.av] s t := by
  have hrings : ((s.modSeq n Seq.completing).seq n).rings = (s.seq n).rings := by
    rw [State.seq_modSeq_self]
    rfl
  refine ⟨ringFetch n (ringComplete n ((s.reg n ra).toNat % 65536) s), rfl, ?_⟩
  rw [hra, ringComplete_of_live s n hlive, ringFetch_of_empty _ n (hrings ▸ hempty), State.seq_modSeq_self, State.seq_modSeq_self]
  obtain ⟨-, hother, hu⟩ := modSeq_only s n Seq.completing
  obtain ⟨-, hother', hu'⟩ := modSeq_only (s.modSeq n Seq.completing) n Seq.idled
  exact ⟨congrArg (fun k => (s.seq n).posted ++ [(k, 0)]) (tag_eq_mod _), rfl, rfl, hother.trans hother', hu.trans hu'⟩

end Rings

/-! ### Entries placed on a ring (R384, R385) -/

section Entry
variable (s : State) (n : Fin 4) (ring : Fin 32) (atHead : Bool) (e : RingEntry)

/-- The sequencer with an entry placed on a ring and counted in the reorder window. -/
def Seq.joined (q : Seq) (ring : Nat) (atHead : Bool) (e : RingEntry) : Seq :=
  { q with
    rings := q.rings.set ring (if atHead then e :: q.rings.getD ring [] else q.rings.getD ring [] ++ [e])
    winUrgent := q.winUrgent + (if decide (ring < 4) then 1 else 0)
    winOther := q.winOther + (if decide (ring < 4) then 0 else 1) }

theorem avenueEntryWrite_spec (hlen : (s.seq n).rings.length = 32) (hroom : (s.seq n).winUrgent + (s.seq n).winOther < 512)
    (hother : 4 ≤ ring.val → (s.seq n).winOther < 496) :
    ∃ t, exec (.avenueEntryWrite n ring atHead e) s = .next t ∧
      (t.seq n).rings.getD ring.val [] = (if atHead then e :: (s.seq n).rings.getD ring.val []
        else (s.seq n).rings.getD ring.val [] ++ [e]) ∧
      (∀ k, k ≠ ring.val → (t.seq n).rings.getD k [] = (s.seq n).rings.getD k []) ∧
      (t.seq n).winUrgent + (t.seq n).winOther = (s.seq n).winUrgent + (s.seq n).winOther + 1 ∧
      OtherAvenues n s t ∧ Untouched [.av] s t := by
  have hrun : entryWrite n ring.val atHead e s = s.modSeq n (fun q => q.joined ring.val atHead e) := by
    refine if_pos ⟨hroom, ?_⟩
    by_cases h4 : ring.val < 4
    · exact .inl (decide_eq_true h4)
    · exact .inr (hother (Nat.le_of_not_lt h4))
  have hin : ring.val < (s.seq n).rings.length := by rw [hlen]; exact ring.isLt
  refine ⟨entryWrite n ring.val atHead e s, rfl, ?_⟩
  rw [hrun, State.seq_modSeq_self]
  refine ⟨?_, fun k hk => ?_, ?_, (modSeq_only ..).2⟩
  · simp [Seq.joined, List.getD, hin]
  · simp [Seq.joined, List.getD, List.getElem?_set_ne hk.symm]
  · simp only [Seq.joined]
    split <;> omega

theorem avenueEntryWrite_full (h : 512 ≤ (s.seq n).winUrgent + (s.seq n).winOther ∨ (4 ≤ ring.val ∧ 496 ≤ (s.seq n).winOther)) :
    exec (.avenueEntryWrite n ring atHead e) s = .next s := by
  refine congrArg Host.Outcome.next (if_neg ?_)
  rintro ⟨hroom, hclass⟩
  rcases h with h | ⟨h4, h496⟩
  · omega
  · rcases hclass with hurg | hroom'
    · have := of_decide_eq_true hurg
      omega
    · omega

end Entry

/-- Settles O22: ports by their values, rings by the entry that the selector presents. -/
theorem portsAndRings : Obligations.PortsAndRings :=
  ⟨fun s n k rd ra h0 h15 => portRead_entry_spec s n rd ra h0 h15 k,
    portRead_omEntry_spec, portRead_time_spec, outcomeRead_spec, outcomeRead_empty_spec, outcomeRead_unwritten_spec,
    fun s n ra => ⟨⟨_, rfl, modSeq_only s n (fun q => { q with svoCyl := s.reg n ra })⟩,
      ⟨_, rfl, modSeq_only s n (fun q => { q with svoOfs := s.reg n ra })⟩,
      ⟨_, rfl, modSeq_only s n (fun q => { q with flag := true })⟩,
      ⟨_, rfl, modSeq_only s n (fun q => { q with flag := false })⟩⟩,
    fun s n r e es hr _ => ringFetch_spec s n r e es hr,
    ringFetch_empty_spec, ringComplete_spec, ringCompleteFetch_spec, avenueEntryWrite_spec, avenueEntryWrite_full⟩

end Sys2Proof.Machine
end

section
/-! CERTIFICATE. The statement O25: register windows, traps, halts and firmware's control of a sequencer (R165, R179, R180, R182,
R183, R187 to R190). -/

namespace Sys2Proof.Machine

/-! ### Windows copied (R179) -/

theorem copyWindow_eq (src dst : Nat → Nat) (s : State) :
    copyWindow src dst s = s.wrAll ((List.range 16).map fun i => (dst i, s.rd (src i))) := by
  rw [copyWindow, State.wrAll, List.foldl_map]

/-- Sixteen words copied to sixteen addresses. -/
theorem copyWindow_rd {src dst : Nat → Nat} (hdst : Function.Injective dst) (s : State) {i : Nat} (hi : i < 16) :
    (copyWindow src dst s).rd (dst i) = s.rd (src i) := by
  rw [copyWindow_eq]
  exact rd_wrAll_map hdst (fun j => s.rd (src j)) s (List.mem_range.2 hi)

section Windows
variable (s : State) (n : Fin 4)

/-- A window copied to a place apart from SEQSTAT, with the resident count that follows. -/
theorem copyWindow_put_res {src dst : Nat → Nat} (hdst : Function.Injective dst) (hne : ∀ i, AV_SEQSTAT n ≠ dst i) {r : Nat}
    (hr : r < 8) :
    let t := (copyWindow src dst s).put (AV_SEQSTAT_RES n) r
    t.resident n = r ∧ (∀ i, i < 16 → t.rd (dst i) = s.rd (src i)) ∧
      Frame (AV_SEQSTAT_RES n :: (List.range 16).map (fun i => (⟨dst i, 0, 32⟩ : Fld))) [.regs] s t := by
  refine ⟨State.get_put_of_lt _ (Nat.le_of_ble_eq_true rfl) hr, fun i hi => ?_, ?_⟩
  · exact (State.rd_put_of_ne _ _ _ (hne i).symm).trans (copyWindow_rd hdst s hi)
  · rw [copyWindow_eq]
    exact (((AvenueFrame.refl n _ _ s).wrAll_map (List.Subset.refl _) (List.subset_cons_self ..) (by simp)).put
      (List.mem_cons_self ..) (by simp) r).2

variable (hw : (s.seq n).window = 7)
include hw

theorem windowSpill_spec (h1 : 1 ≤ s.resident n) (h32 : s.depth n - s.resident n < 32) :
    let k := s.depth n - s.resident n
    ∃ t, exec (.windowSpill n) s = .next t ∧ t.resident n = s.resident n - 1 ∧
      (∀ i, i < 16 → t.rd (AV_SPILL n k i) = s.rd (AV_WINFILE n (k % 6) i)) ∧
      Frame (AV_SEQSTAT_RES n :: (List.range 16).map (fun i => ⟨AV_SPILL n k i, 0, 32⟩)) [.regs] s t := by
  intro k
  have hrun : spill n s = (copyWindow (AV_WINFILE n (k % 6)) (AV_SPILL n k) s).put (AV_SEQSTAT_RES n) (s.resident n - 1) := by
    unfold spill
    rw [if_neg (not_not_intro hw), if_neg (Nat.ne_of_lt h32), if_neg (Nat.ne_of_gt h1)]
  have hlt : s.resident n < 8 := s.get_lt (AV_SEQSTAT_RES n)
  refine ⟨spill n s, rfl, ?_⟩
  rw [hrun]
  exact copyWindow_put_res s n (fun i j h => by simp only [AV_SPILL] at h; omega)
    (fun i => by simp only [AV_SPILL, AV_SEQSTAT]; omega) (by omega)

theorem windowFill_spec (hd : s.resident n < s.depth n) (h5 : s.resident n ≤ 5) :
    let k := s.depth n - s.resident n - 1
    ∃ t, exec (.windowFill n) s = .next t ∧ t.resident n = s.resident n + 1 ∧
      (∀ i, i < 16 → t.rd (AV_WINFILE n (k % 6) i) = s.rd (AV_SPILL n k i)) ∧
      Frame (AV_SEQSTAT_RES n :: windowFlds n (k % 6)) [.regs] s t := by
  intro k
  have hrun : fill n s = (copyWindow (AV_SPILL n k) (AV_WINFILE n (k % 6)) s).put (AV_SEQSTAT_RES n) (s.resident n + 1) := by
    unfold fill
    rw [if_neg (by rw [hw]; omega)]
  refine ⟨fill n s, rfl, ?_⟩
  rw [hrun]
  exact copyWindow_put_res s n (fun i j h => by simp only [AV_WINFILE] at h; omega)
    (fun i => by simp only [AV_WINFILE, AV_SEQSTAT]; omega) (by omega)

/-- The state with no frame active and the root window current. -/
theorem windowAbandon_spec : ∃ t, exec (.windowAbandon n) s = .next t ∧ t.depth n = 0 ∧ t.resident n = 0 ∧ (t.seq n).window = 6 ∧
    t.seqState n = 1 ∧ OtherAvenues n s t ∧
    Frame [AV_SEQSTAT_DEPTH n, AV_SEQSTAT_RES n, AV_SEQSTAT_STATE n] [.regs, .av] s t := by
  refine ⟨abandon n s, rfl, ?_⟩
  have hroot : ((((s.put (AV_SEQSTAT_DEPTH n) 0).put (AV_SEQSTAT_RES n) 0).modSeq n (fun q =>
      { q with window := 6, owner := none })).seq n).window ≠ 7 := by
    rw [State.seq_modSeq_self]
    exact Nat.succ_ne_self 6 ∘ Eq.symm
  have hrun : abandon n s = ((((s.put (AV_SEQSTAT_DEPTH n) 0).put (AV_SEQSTAT_RES n) 0).modSeq n (fun q =>
      { q with window := 6, owner := none })).put (AV_SEQSTAT_STATE n) 1) := by
    rw [abandon, if_neg (not_not_intro hw), State.seqRunning, if_neg hroot]
  rw [hrun]
  refine ⟨?_, ?_, ?_, State.get_put_of_lt _ (Nat.le_of_ble_eq_true rfl) (Nat.le_of_ble_eq_true rfl), ?_⟩
  · rw [State.depth, State.get_put_elsewhere _ _ _ _ (by simp only [AV_SEQSTAT_STATE, AV_SEQSTAT_DEPTH]; omega), State.modSeq,
      State.get_modAv]
    simp (disch := (simp only [AV_SEQSTAT_DEPTH, AV_SEQSTAT_RES]; omega)) only [State.get_put_elsewhere, State.get_put_self, Nat.zero_mod]
  · rw [State.resident, State.get_put_elsewhere _ _ _ _ (by simp only [AV_SEQSTAT_STATE, AV_SEQSTAT_RES]; omega), State.modSeq,
      State.get_modAv]
    exact State.get_put_of_lt _ (Nat.le_of_ble_eq_true rfl) (Nat.le_of_ble_eq_true rfl)
  · rw [State.seq, State.avn_put, (modSeq_only ..).1]
  · exact ((((AvenueFrame.refl n _ _ s).put (by simp) (by simp) 0).put (by simp) (by simp) 0).modAv (by simp) _).put (by simp)
      (by simp) 1

end Windows

/-! ### Traps and halts (R180, R182, R188) -/

theorem softwareTrap_spec (s : State) (n : Fin 4) (ret : BitVec 12) (hw : (s.seq n).window ≠ 7) :
    ∃ t, exec (.softwareTrap n ret) s = .next t ∧ t.upc n = (s.get (AV_SEQTRAP_BASE n) + 12) % 4096 ∧ t.seqState n = 3 ∧
      t.get (AV_SEQTRAP_TRAPPC n) = ret.toNat ∧ t.get (AV_SEQTRAP_CAUSE n) = 3 ∧
      t.avn n = { s.avn n with seq := { s.seq n with window := 7, saved := ⟨(s.seq n).window, (s.seq n).zero, (s.seq n).neg,
        (s.seq n).flag⟩ } } ∧ OtherAvenues n s t ∧
      Frame [AV_SEQSTAT_PC n, AV_SEQSTAT_STATE n, AV_SEQTRAP_TRAPPC n, AV_SEQTRAP_CAUSE n] [.regs, .av] s t :=
  ⟨_, rfl, takeTrap_spec s n 3 ret.toNat hw (by decide) ret.isLt⟩

/-- A command that halts the sequencer with a code of Table 6-7. -/
def haltsWith (s : State) (n : Fin 4) (c : Instr) (code : Nat) : Prop :=
  (c = .halt n ∧ code = 6) ∨ (c = .windowAbandon n ∧ (s.seq n).window ≠ 7 ∧ code = 7) ∨
    (c = .windowSpill n ∧ (s.seq n).window ≠ 7 ∧ code = 7) ∨ (c = .windowFill n ∧ (s.seq n).window ≠ 7 ∧ code = 7) ∨
    (c = .windowSpill n ∧ (s.seq n).window = 7 ∧ s.depth n - s.resident n = 32 ∧ code = 3) ∨
    (c = .softwareTrap n 0 ∧ (s.seq n).window = 7 ∧ code = 2) ∨
    (c = .ownerTimeLimit n ∧ (s.seq n).owner.isSome = true ∧ s.get (AV_SEQCTL_OMLIM n) ≠ 0 ∧ code = 5)

theorem exec_of_haltsWith {s : State} {n : Fin 4} {c : Instr} {code : Nat} (h : haltsWith s n c code) :
    exec c s = .next (s.seqFault n code) ∧ code < 8 := by
  rcases h with ⟨rfl, rfl⟩ | ⟨rfl, hw, rfl⟩ | ⟨rfl, hw, rfl⟩ | ⟨rfl, hw, rfl⟩ | ⟨rfl, hw, hfull, rfl⟩ | ⟨rfl, hw, rfl⟩ |
    ⟨rfl, how, hlim, rfl⟩
  case inl => exact ⟨rfl, by decide⟩
  case inr.inl => exact ⟨congrArg Host.Outcome.next (if_pos hw), by decide⟩
  case inr.inr.inl => exact ⟨congrArg Host.Outcome.next (if_pos hw), by decide⟩
  case inr.inr.inr.inl => exact ⟨congrArg Host.Outcome.next (if_pos (.inl hw)), by decide⟩
  case inr.inr.inr.inr.inl =>
    exact ⟨congrArg Host.Outcome.next ((if_neg (not_not_intro hw)).trans (if_pos hfull)), by decide⟩
  case inr.inr.inr.inr.inr.inl => exact ⟨congrArg Host.Outcome.next (takeTrap_of_inside 3 0 hw), by decide⟩
  case inr.inr.inr.inr.inr.inr => exact ⟨congrArg Host.Outcome.next (if_pos ⟨how, hlim⟩), by decide⟩

theorem halt_spec (s : State) (n : Fin 4) (c : Instr) (code : Nat) (h : haltsWith s n c code) :
    ∃ t, exec c s = .next t ∧ t.seqState n = 5 ∧ t.get (AV_SEQCTL_RUN n) = 0 ∧ t.get (AV_SEQFAULT_VALID n) = 1 ∧
      (s.get (AV_SEQFAULT_VALID n) = 0 → t.get (AV_SEQFAULT_CODE n) = code ∧ t.get (AV_SEQFAULT_PC n) = s.upc n ∧
        t.get (AV_SEQFAULT_DEPTH n) = s.depth n) ∧
      (s.get (AV_SEQFAULT_VALID n) = 1 → t.get (AV_SEQFAULT_CODE n) = s.get (AV_SEQFAULT_CODE n) ∧
        t.get (AV_SEQFAULT_PC n) = s.get (AV_SEQFAULT_PC n)) ∧
      t.avn n = { s.avn n with seq := { s.seq n with arms := [], owner := none } } ∧
      Raised1 (428 + 96 * n.val + 80) 0 s t ∧ OtherAvenues n s t ∧
      Frame [AV_SEQSTAT_STATE n, AV_SEQCTL_RUN n, AV_SEQFAULT_VALID n, AV_SEQFAULT_CODE n, AV_SEQFAULT_PC n,
        AV_SEQFAULT_DEPTH n] [.regs, .av, .flt] s t := by
  obtain ⟨hexec, hcode⟩ := exec_of_haltsWith h
  exact ⟨_, hexec, seqFault_spec s n hcode⟩

theorem ownerTimeLimit_idle (s : State) (n : Fin 4) (h : (s.seq n).owner = none ∨ s.get (AV_SEQCTL_OMLIM n) = 0) :
    exec (.ownerTimeLimit n) s = .next s := by
  refine congrArg Host.Outcome.next (if_neg ?_)
  rintro ⟨how, hlim⟩
  rcases h with h | h
  · simp [h] at how
  · exact hlim h

/-! ### Firmware's control (R187, R189, R190) -/

theorem sequencerRun_spec (s : State) (n : Fin 4) (h : s.seqState n = 0) :
    ∃ t, exec (.sequencerRun n) s = .next t ∧ t.get (AV_SEQCTL_RUN n) = 1 ∧ t.seqState n = 1 ∧ t.upc n = 0 ∧ t.depth n = 0 ∧
      t.resident n = 0 ∧ t.avn n = { s.avn n with seq := { s.seq n with window := 6, owner := none } } ∧ OtherAvenues n s t ∧
      Frame [AV_SEQCTL_RUN n, AV_SEQSTAT_STATE n, AV_SEQSTAT_PC n, AV_SEQSTAT_DEPTH n, AV_SEQSTAT_RES n] [.regs, .av] s t := by
  refine ⟨seqRun n s, rfl, ?_⟩
  unfold seqRun
  rw [if_pos h]
  refine ⟨?_, ?_, goTo_upc .., ?_, ?_, ?_, ?_⟩
  · rw [goTo_get _ (avOffset_ne n (by decide)), State.modSeq, State.get_modAv]
    simp (disch := (simp only [AV_SEQSTAT_DEPTH, AV_SEQSTAT_RES, AV_SEQSTAT, AV_SEQCTL_RUN, AV_SEQCTL]; omega)) only
      [State.get_put_elsewhere]
    exact State.get_putb_self s _ true (Nat.le_of_ble_eq_true rfl) Nat.one_pos
  · exact goTo_seqState_of_window (by rw [State.seq_modSeq_self]; simp) 0
  · rw [goTo_depth, State.depth, State.modSeq, State.get_modAv]
    simp (disch := (simp only [AV_SEQSTAT_DEPTH, AV_SEQSTAT_RES]; omega)) only [State.get_put_elsewhere, State.get_put_self, Nat.zero_mod]
  · rw [goTo_resident, State.resident, State.modSeq, State.get_modAv]
    exact State.get_put_of_lt _ (Nat.le_of_ble_eq_true rfl) (Nat.le_of_ble_eq_true rfl)
  · exact (goTo_avn ..).trans (modSeq_avn_of_eq (((State.avn_put ..).trans (State.avn_put ..)).trans (State.avn_put ..)) _)
  · exact ((((((AvenueFrame.refl n _ _ s).putb (by simp) (by simp) true).put (by simp) (by simp) 0).put (by simp) (by simp) 0).modAv
      (by simp) _).goTo (by simp [goFlds]) (by simp) 0)

theorem sequencerStop_spec (s : State) (n : Fin 4) (h1 : 1 ≤ s.seqState n) (h4 : s.seqState n ≤ 4) :
    ∃ t, exec (.sequencerStop n) s = .next t ∧ t.get (AV_SEQCTL_RUN n) = 0 ∧ t.seqState n = 0 ∧
      t.avn n = { s.avn n with seq := { s.seq n with arms := [], owner := none } } ∧ OtherAvenues n s t ∧
      Frame [AV_SEQCTL_RUN n, AV_SEQSTAT_STATE n] [.regs, .av] s t := by
  refine ⟨seqStop n s, rfl, ?_⟩
  unfold seqStop
  rw [if_pos ⟨h1, h4⟩]
  exact ⟨seqStopTo_run .., seqStopTo_seqState s n (by decide), seqStopTo_avn ..,
    (AvenueFrame.refl n _ _ s).seqStopTo (by simp) (by simp) (by simp) (by simp) 0⟩

section Hold
variable (s : State) (n : Fin 4) (v : Bool)

/-- The state with HOLD written. -/
def State.holdSet : State := s.putb (AV_SEQCTL_HOLD n) v

theorem holdSet_hold : (s.holdSet n v).get (AV_SEQCTL_HOLD n) = if v then 1 else 0 :=
  State.get_putb_self s _ v (Nat.le_of_ble_eq_true rfl) Nat.one_pos

theorem holdSet_get {g : Fld} (h : AV_SEQCTL n ≠ g.addr) : (s.holdSet n v).get g = s.get g :=
  State.get_putb_elsewhere _ _ _ _ (.inl h)

theorem holdSet_seqState : (s.holdSet n v).seqState n = s.seqState n := holdSet_get s n v (avOffset_ne n (by decide))

theorem holdSet_frame : Frame [AV_SEQCTL_HOLD n] [.regs] s (s.holdSet n v) :=
  ((AvenueFrame.refl n _ _ s).putb (by simp) (by simp) v).2

/-- A microword is the same where only SEQCTL differs. -/
theorem holdSet_micro (a : Nat) : (s.holdSet n v).micro n a = s.micro n a := by
  have hrd : ∀ j, (s.holdSet n v).rd (AV_UCODE n a j) = s.rd (AV_UCODE n a j) := fun j =>
    State.rd_put_of_ne s _ _ (by simp only [AV_UCODE, AV_SEQCTL_HOLD, AV_SEQCTL]; omega)
  unfold State.micro State.microBits
  rw [hrd, hrd]

/-- A waiting or parked sequencer waits again under the HOLD written. -/
theorem sequencerHold_waiting (h : s.seqState n = 2 ∨ s.seqState n = 4) {st : Nat} (hst : st = 2 ∨ st = 4)
    (hpark : (s.holdSet n v).parkable n = decide (st = 4)) :
    ∃ t, exec (.sequencerHold n v) s = .next t ∧ t.get (AV_SEQCTL_HOLD n) = (if v then 1 else 0) ∧ t.seqState n = st ∧
      Frame [AV_SEQCTL_HOLD n, AV_SEQSTAT_STATE n] [.regs] s t := by
  have hwaits : (s.holdSet n v).seqWaits n = true := by
    unfold State.seqWaits
    rw [holdSet_seqState]
    rcases h with h | h <;> rw [h] <;> rfl
  have hrun : seqHold n v s = (s.holdSet n v).put (AV_SEQSTAT_STATE n) st := by
    have hsel : (if (s.holdSet n v).parkable n then 4 else 2) = st := by
      rw [hpark]
      rcases hst with rfl | rfl <;> rfl
    exact (if_pos hwaits).trans (congrArg (State.put (s.holdSet n v) (AV_SEQSTAT_STATE n)) hsel)
  refine ⟨seqHold n v s, rfl, ?_⟩
  rw [hrun]
  refine ⟨?_, State.get_put_of_lt _ (Nat.le_of_ble_eq_true rfl) (by change st < 8; omega), ?_⟩
  · exact (State.get_put_elsewhere _ _ _ _ (.inl (avOffset_ne n (by decide)))).trans (holdSet_hold s n v)
  · exact (((AvenueFrame.refl n _ _ s).putb (by simp) (by simp) v).put (by simp) (by simp) st).2

theorem sequencerHold_running (h2 : s.seqState n ≠ 2) (h4 : s.seqState n ≠ 4) : ∃ t, exec (.sequencerHold n v) s = .next t ∧
    t.get (AV_SEQCTL_HOLD n) = (if v then 1 else 0) ∧ Frame [AV_SEQCTL_HOLD n] [.regs] s t := by
  have hwaits : (s.holdSet n v).seqWaits n = false := by
    unfold State.seqWaits
    rw [holdSet_seqState]
    simp [h2, h4]
  refine ⟨seqHold n v s, rfl, ?_⟩
  rw [show seqHold n v s = s.holdSet n v from if_neg (by rw [← State.holdSet, hwaits]; exact Bool.false_ne_true)]
  exact ⟨holdSet_hold .., holdSet_frame ..⟩

/-- The sequencer parks where it waits for a command between operations (R189). -/
theorem parkable_of_held (hm : (s.micro n (s.upc n)).mode = 3) (hc : (s.micro n (s.upc n)).cond = 4) (hd : s.depth n = 0)
    (hop : (s.seq n).op = none) : (s.holdSet n true).parkable n = true := by
  have hupc : (s.holdSet n true).upc n = s.upc n := holdSet_get s n true (avOffset_ne n (by decide))
  have hdepth : (s.holdSet n true).depth n = s.depth n := holdSet_get s n true (avOffset_ne n (by decide))
  have hseq : (s.holdSet n true).seq n = s.seq n := congrArg Avenue.seq (State.avn_put ..)
  simp [State.parkable, State.is, holdSet_hold, hupc, hdepth, hseq, holdSet_micro, hm, hc, hd, hop]

theorem not_parkable_of_released : (s.holdSet n false).parkable n = false := by
  simp [State.parkable, State.is, holdSet_hold]

end Hold

/-- Settles O25: windows by what a copy writes, halts and traps by their one meaning, control by the fields that it writes. -/
theorem windowsTrapsAndControl : Obligations.WindowsTrapsAndControl :=
  ⟨windowSpill_spec, windowFill_spec, windowAbandon_spec, softwareTrap_spec, halt_spec, ownerTimeLimit_idle, sequencerRun_spec,
    sequencerStop_spec, fun s n v => ⟨sequencerHold_running s n v,
      fun hv h2 hm hc hd hop => by
        subst hv
        exact sequencerHold_waiting s n true (.inl h2) (.inr rfl) (parkable_of_held s n hm hc hd hop),
      fun hv h4 => by
        subst hv
        exact sequencerHold_waiting s n false (.inr h4) (.inl rfl) (not_parkable_of_released s n)⟩⟩

end Sys2Proof.Machine
end

section
/-! CERTIFICATE. The statement O20: microwords (R165, R168, R173, R177, R178, R180, R181). -/

namespace Sys2Proof.Machine

/-! ### Window registers written one after another (R177, R178) -/

section Calls
variable (s : State) (n : Fin 4)

theorem winfile_injective (w : Nat) : Function.Injective (AV_WINFILE n w) := fun i j h => by simp only [AV_WINFILE] at h; omega

theorem winfile_ne_seqstat (w i : Nat) : AV_WINFILE n w i ≠ AV_SEQSTAT n := by simp only [AV_WINFILE, AV_SEQSTAT]; omega

theorem passArgs_eq (a b : Nat) :
    passArgs n a b s = s.wrAll (([12, 13, 14] : List Nat).map fun i => (AV_WINFILE n b i, s.winReg n a i)) := rfl

theorem passArgs_frame (a b : Nat) : AvenueFrame n (windowFlds n b) [.regs] s (passArgs n a b s) := by
  rw [passArgs_eq]
  exact (AvenueFrame.refl n _ _ s).wrAll_map (k := List.range 16) (by decide) (List.Subset.refl _) (by simp)

theorem passArgs_rd (a b : Nat) {i : Nat} (h12 : 12 ≤ i) (h14 : i ≤ 14) :
    (passArgs n a b s).rd (AV_WINFILE n b i) = s.rd (AV_WINFILE n a i) := by
  have hi : i ∈ ([12, 13, 14] : List Nat) := by simp only [List.mem_cons, List.not_mem_nil, or_false]; omega
  rw [passArgs_eq, rd_wrAll_map (winfile_injective n b) _ s hi, State.winReg, if_neg (by omega)]

/-- The new window of a call: r1 to r11 cleared, r12 to r14 passed, r15 the return address. -/
def State.windowCalled (w ret : Nat) : State :=
  ((passArgs n (s.seq n).window w s).wrAll ((List.range 11).map fun i => (AV_WINFILE n w (i + 1), 0))).wr (AV_WINFILE n w 15)
    (BitVec.ofNat 32 ret)

theorem windowCalled_frame (w ret : Nat) : AvenueFrame n (windowFlds n w) [.regs] s (s.windowCalled n w ret) :=
  have hclear : (List.range 11).map (fun i => (⟨AV_WINFILE n w (i + 1), 0, 32⟩ : Fld)) ⊆ windowFlds n w := fun f hf => by
    obtain ⟨i, hi, rfl⟩ := List.mem_map.1 hf
    exact List.mem_map.2 ⟨i + 1, List.mem_range.2 (by have := List.mem_range.1 hi; omega), rfl⟩
  ((passArgs_frame s n (s.seq n).window w).wrAll_map (List.Subset.refl _) hclear (by simp)).wr
    (List.mem_map.2 ⟨15, by decide, rfl⟩) (by simp) _

theorem windowCalled_return (w ret : Nat) : (s.windowCalled n w ret).rd (AV_WINFILE n w 15) = BitVec.ofNat 32 ret :=
  State.rd_wr_self ..

theorem windowCalled_cleared (w ret : Nat) {i : Nat} (h1 : 1 ≤ i) (h11 : i ≤ 11) :
    (s.windowCalled n w ret).rd (AV_WINFILE n w i) = 0 := by
  obtain ⟨j, rfl⟩ : ∃ j, i = j + 1 := ⟨i - 1, by omega⟩
  rw [State.windowCalled, State.rd_wr_of_ne _ _ (fun h => by have := winfile_injective n w h; omega)]
  exact rd_wrAll_map (addr := fun i => AV_WINFILE n w (i + 1)) (fun a b h => Nat.succ.inj (winfile_injective n w h)) (fun _ => 0) _
    (List.mem_range.2 (by omega))

theorem windowCalled_passed (w ret : Nat) {i : Nat} (h12 : 12 ≤ i) (h14 : i ≤ 14) :
    (s.windowCalled n w ret).rd (AV_WINFILE n w i) = s.rd (AV_WINFILE n (s.seq n).window i) := by
  rw [State.windowCalled, State.rd_wr_of_ne _ _ (fun h => by have := winfile_injective n w h; omega),
    rd_wrAll_of_not_mem _ fun hm => ?_, passArgs_rd s n _ w h12 h14]
  obtain ⟨x, hx, ha⟩ := List.mem_map.1 hm
  obtain ⟨j, hj, rfl⟩ := List.mem_map.1 hx
  have hji : j + 1 = i := winfile_injective n w ha
  have hj11 := List.mem_range.1 hj
  omega

/-! ### DEPTH, RES and the window together -/

/-- The state with DEPTH, RES and the sequencer's own state changed, which goes on at an address. -/
def State.framed (d r : Nat) (f : Seq → Seq) (a : Nat) : State :=
  (((s.put (AV_SEQSTAT_DEPTH n) d).put (AV_SEQSTAT_RES n) r).modSeq n f).goTo n a

/-- SEQSTAT's fields. -/
def statFlds : List Fld := [AV_SEQSTAT_PC n, AV_SEQSTAT_STATE n, AV_SEQSTAT_DEPTH n, AV_SEQSTAT_RES n]

variable {s n} {d r a : Nat} {f : Seq → Seq}

theorem framed_upc (ha : a < 4096) : (s.framed n d r f a).upc n = a := (goTo_upc ..).trans (Nat.mod_eq_of_lt ha)

theorem framed_depth (hd : d < 64) : (s.framed n d r f a).depth n = d := by
  rw [State.framed, goTo_depth, State.depth, State.modSeq, State.get_modAv,
    State.get_put_elsewhere _ _ _ _ (by simp only [AV_SEQSTAT_DEPTH, AV_SEQSTAT_RES]; omega)]
  exact State.get_put_of_lt _ (Nat.le_of_ble_eq_true rfl) hd

theorem framed_resident (hr : r < 8) : (s.framed n d r f a).resident n = r := by
  rw [State.framed, goTo_resident, State.resident, State.modSeq, State.get_modAv]
  exact State.get_put_of_lt _ (Nat.le_of_ble_eq_true rfl) hr

theorem framed_seq : (s.framed n d r f a).seq n = f (s.seq n) := by
  rw [State.framed, goTo_seq]
  exact congrArg Avenue.seq (modSeq_avn_of_eq ((State.avn_put ..).trans (State.avn_put ..)) f)

theorem framed_rd {b : Nat} (h : b ≠ AV_SEQSTAT n) : (s.framed n d r f a).rd b = s.rd b := by
  rw [State.framed, goTo_rd _ h, State.modSeq, State.rd_of_regs_eq (State.modAv_regs ..), State.rd_put_of_ne _ _ _ h,
    State.rd_put_of_ne _ _ _ h]

theorem AvenueFrame.framed {fs : List Fld} {ps : List Part} {t : State} (h : AvenueFrame n fs ps s t) (hf : statFlds n ⊆ fs)
    (hr : .regs ∈ ps) (ha : .av ∈ ps) (d r : Nat) (f : Seq → Seq) (a : Nat) : AvenueFrame n fs ps s (t.framed n d r f a) := by
  obtain ⟨hpc, hst, hdepth, hres⟩ : AV_SEQSTAT_PC n ∈ fs ∧ AV_SEQSTAT_STATE n ∈ fs ∧ AV_SEQSTAT_DEPTH n ∈ fs ∧
    AV_SEQSTAT_RES n ∈ fs := by simpa [statFlds] using hf
  exact (((h.put hdepth hr d).put hres hr r).modAv ha _).goTo (by simp [goFlds, hpc, hst]) hr a

end Calls
/-! ### A microword's outcome by its mode (R165, R177, R178, R180) -/

section Modes
variable (n : Fin 4) (m : MicroWord) (s : State)

/-- The sequencer in the window of a call (R177, R188). -/
def Seq.called (q : Seq) (w d alt : Nat) (computed : Bool) : Seq :=
  { q with window := w, owner := if q.owner.isNone && computed && decide (3072 ≤ alt) then some d else q.owner }

/-- The sequencer back in its caller's window (R178, R188). -/
def Seq.returned (q : Seq) (w d : Nat) : Seq :=
  { q with
    window := w
    owner := match q.owner with
      | some k => if d - 1 ≤ k then none else some k
      | none => none }

theorem callTo_eq (alt : Nat) (computed : Bool) : callTo n m alt computed s =
    (s.windowCalled n (s.depth n % 6) m.next).framed n (s.depth n + 1) (s.resident n + 1)
      (fun q => q.called (s.depth n % 6) (s.depth n) alt computed) alt := by
  rw [callTo, State.windowCalled, State.wrAll, List.foldl_map]
  rfl

/-- The window of the caller at depth `d`. -/
def callerWindow (d : Nat) : Nat := if d = 1 then 6 else (d - 2) % 6

theorem returnTo_eq : returnTo n s =
    (passArgs n (s.seq n).window (callerWindow (s.depth n)) s).framed n (s.depth n - 1) (s.resident n - 1)
      (fun q => q.returned (callerWindow (s.depth n)) (s.depth n)) ((s.winReg n (s.seq n).window 15).toNat % 4096) := rfl

theorem callTo_spec {alt : Nat} (halt : alt < 4096) (computed : Bool) (hr : s.resident n < 6) (hd : s.depth n < 38) :
    let w := s.depth n % 6
    let t := callTo n m alt computed s
    t.upc n = alt ∧ t.depth n = s.depth n + 1 ∧ t.resident n = s.resident n + 1 ∧ (t.seq n).window = w ∧
      t.rd (AV_WINFILE n w 15) = BitVec.ofNat 32 m.next ∧ (∀ i, 1 ≤ i → i ≤ 11 → t.rd (AV_WINFILE n w i) = 0) ∧
      (∀ i, 12 ≤ i → i ≤ 14 → t.rd (AV_WINFILE n w i) = s.rd (AV_WINFILE n (s.seq n).window i)) ∧
      AvenueFrame n (statFlds n ++ windowFlds n w) [.regs, .av] s t := by
  intro w t
  have ht : t = (s.windowCalled n w m.next).framed n (s.depth n + 1) (s.resident n + 1)
      (fun q => q.called w (s.depth n) alt computed) alt := callTo_eq n m s alt computed
  have hrd : ∀ i, t.rd (AV_WINFILE n w i) = (s.windowCalled n w m.next).rd (AV_WINFILE n w i) := fun i => by
    rw [ht, framed_rd (winfile_ne_seqstat n w i)]
  refine ⟨?_, ?_, ?_, ?_, ?_, fun i h1 h11 => ?_, fun i h12 h14 => ?_, ?_⟩
  · rw [ht, framed_upc halt]
  · rw [ht, framed_depth (by omega)]
  · rw [ht, framed_resident (by omega)]
  · rw [ht, framed_seq]
    rfl
  · rw [hrd, windowCalled_return]
  · rw [hrd, windowCalled_cleared s n w m.next h1 h11]
  · rw [hrd, windowCalled_passed s n w m.next h12 h14]
  · rw [ht]
    exact ((windowCalled_frame s n w m.next).mono (List.subset_append_right ..) (by simp)).framed (List.subset_append_left ..)
      (by simp) (by simp) _ _ _ _

theorem returnTo_spec : 
    let w := callerWindow (s.depth n)
    let t := returnTo n s
    t.upc n = (s.winReg n (s.seq n).window 15).toNat % 4096 ∧ t.depth n = s.depth n - 1 ∧ t.resident n = s.resident n - 1 ∧
      (t.seq n).window = w ∧
      (∀ i, 12 ≤ i → i ≤ 14 → t.rd (AV_WINFILE n w i) = s.rd (AV_WINFILE n (s.seq n).window i)) ∧
      AvenueFrame n (statFlds n ++ windowFlds n w) [.regs, .av] s t := by
  intro w t
  have ht : t = (passArgs n (s.seq n).window w s).framed n (s.depth n - 1) (s.resident n - 1)
      (fun q => q.returned w (s.depth n)) ((s.winReg n (s.seq n).window 15).toNat % 4096) := returnTo_eq n s
  have hd : s.depth n < 2 ^ 6 := s.get_lt (AV_SEQSTAT_DEPTH n)
  have hr : s.resident n < 2 ^ 3 := s.get_lt (AV_SEQSTAT_RES n)
  rw [ht]
  refine ⟨framed_upc (Nat.mod_lt _ (by decide)), framed_depth (by omega), framed_resident (by omega), ?_, fun i h12 h14 => ?_, ?_⟩
  · rw [framed_seq]
    rfl
  · rw [framed_rd (winfile_ne_seqstat n w i), passArgs_rd s n _ w h12 h14]
  · exact ((passArgs_frame s n _ w).mono (List.subset_append_right ..) (by simp)).framed (List.subset_append_left ..) (by simp)
      (by simp) _ _ _ _

theorem trapReturn_spec :
    let t := trapReturn n s
    t.upc n = s.get (AV_SEQTRAP_TRAPPC n) ∧ (t.seq n).window = (s.seq n).saved.window ∧ (t.seq n).zero = (s.seq n).saved.zero ∧
      (t.seq n).neg = (s.seq n).saved.neg ∧ (t.seq n).flag = (s.seq n).saved.flag ∧ AvenueFrame n (goFlds n) [.regs, .av] s t := by
  intro t
  have hlt : s.get (AV_SEQTRAP_TRAPPC n) < 2 ^ 12 := s.get_lt _
  have hseq : t.seq n = { s.seq n with
      window := (s.seq n).saved.window, zero := (s.seq n).saved.zero, neg := (s.seq n).saved.neg
      flag := (s.seq n).saved.flag } := (goTo_seq ..).trans (State.seq_modSeq_self ..)
  rw [hseq]
  exact ⟨(goTo_upc ..).trans (Nat.mod_eq_of_lt hlt), rfl, rfl, rfl, rfl,
    ((AvenueFrame.refl ..).modAv (by simp) _).goTo (List.Subset.refl _) (by simp) _⟩

/-- A wait whose condition does not hold (R165, R189). -/
theorem waitOn_waits (alt : Nat) (hc : s.cond n m.cond = false) :
    let t := waitOn n m alt s
    (t.seqState n = 2 ∨ t.seqState n = 4) ∧ t.avn n = { s.avn n with seq := { s.seq n with waitAlt := alt } } ∧
      AvenueFrame n [AV_SEQSTAT_STATE n] [.regs, .av] s t := by
  intro t
  have ht : t = (s.modSeq n (fun q => { q with waitAlt := alt })).seqWait n := if_neg (by rw [hc]; exact Bool.false_ne_true)
  rw [ht, State.seqWait]
  refine ⟨?_, (State.avn_put ..).trans (modSeq_only ..).1, ((AvenueFrame.refl ..).modAv (by simp) _).put (by simp) (by simp) _⟩
  rw [State.seqState, State.get_put_self _ _ _ (Nat.le_of_ble_eq_true rfl)]
  split
  · exact .inr rfl
  · exact .inl rfl

end Modes

section Select
variable (n : Fin 4) {m : MicroWord} {x : Nano} {alt : Nat} {s t : State}

theorem selectNext_branch (hm : m.mode = 0) (hx : x.trp ≠ 1) :
    selectNext n m x alt s t = t.goTo n (if t.cond n m.cond then alt else m.next) := by
  simp only [selectNext, hm, if_neg hx]

theorem selectNext_softwareTrap (hm : m.mode = 0) (hx : x.trp = 1) :
    selectNext n m x alt s t = t.takeTrap n 3 (if t.cond n m.cond then alt else m.next) := by
  simp only [selectNext, hm, if_pos hx]

theorem selectNext_call (hm : m.mode = 1) (hc : t.cond n m.cond = true) (hw : (t.seq n).window ≠ 7) (hr : t.resident n ≠ 6) :
    selectNext n m x alt s t = callTo n m alt x.acalc t := by
  simp only [selectNext, hm, hc, if_neg hw, if_neg hr, Bool.not_true, Bool.false_eq_true, if_false]

theorem selectNext_callTrap (hm : m.mode = 1) (hc : t.cond n m.cond = true) (hw : (t.seq n).window ≠ 7) (hr : t.resident n = 6) :
    selectNext n m x alt s t = s.takeTrap n 0 (s.upc n) := by
  simp only [selectNext, hm, hc, if_neg hw, if_pos hr, Bool.not_true, Bool.false_eq_true, if_false]

theorem selectNext_return (hm : m.mode = 2) (hc : t.cond n m.cond = true) (hw : (t.seq n).window ≠ 7) (hd : t.depth n ≠ 0)
    (hr : ¬ (2 ≤ t.depth n ∧ t.resident n = 1)) : selectNext n m x alt s t = returnTo n t := by
  simp only [selectNext, hm, hc, if_neg hw, if_neg hd, if_neg hr, Bool.not_true, Bool.false_eq_true, if_false]

theorem selectNext_trapReturn (hm : m.mode = 2) (hc : t.cond n m.cond = true) (hw : (t.seq n).window = 7) :
    selectNext n m x alt s t = trapReturn n t := by
  simp only [selectNext, hm, hc, if_pos hw, Bool.not_true, Bool.false_eq_true, if_false]

theorem selectNext_wait (hm : m.mode = 3) : selectNext n m x alt s t = waitOn n m alt t := by simp only [selectNext, hm]

end Select

/-! ### A microword executes after a clean fetch (R165, R168, R173) -/

section Clean
variable (s : State) (n : Fin 4) (bits : Nat)

/-- The microword at PC, the nanoword that it selects, its alternate address, and the state after the nanoword's actions. -/
def State.microNow : MicroWord := s.micro n (s.upc n)
def State.nanoNow : Nano := s.nano n (s.microNow n)
def State.altNow : Nat := if (s.nanoNow n).acalc then (s.reg n (s.nanoNow n).rb).toNat % 4096 else (s.microNow n).alt
def State.acted : State := nanoAct n (s.nanoNow n) bits s

theorem microNow_next_lt : (s.microNow n).next < 4096 := bitsOf_lt _ 28 12

theorem altNow_lt : s.altNow n < 4096 := by
  unfold State.altNow
  split
  · exact Nat.mod_lt _ (by decide)
  · exact bitsOf_lt _ 16 12

/-- The address by the condition after the actions. -/
def State.nextNow : Nat := if (s.acted n bits).cond n (s.microNow n).cond then s.altNow n else (s.microNow n).next

theorem nextNow_lt : s.nextNow n bits < 4096 := by
  unfold State.nextNow
  split
  · exact altNow_lt s n
  · exact microNow_next_lt s n

/-- A microword runs, and neither its actions nor its TRP field halt the sequencer. -/
structure Executes (mode : Nat) : Prop where
  running : s.seqState n = 1 ∨ s.seqState n = 3
  mode_eq : (s.microNow n).mode = mode
  acted : (s.acted n bits).seqState n ≠ 5
  trp : (s.nanoNow n).trp ≠ 2

variable {s n bits}

theorem micro_of_executes {mode : Nat} (h : Executes s n bits mode) :
    micro n mode .clean bits s = selectNext n (s.microNow n) (s.nanoNow n) (s.altNow n) s (s.acted n bits) := by
  refine (if_pos ⟨h.running, h.mode_eq⟩).trans ?_
  exact (if_neg h.acted).trans (if_neg h.trp)

theorem microBranch_spec (h : Executes s n bits 0) (hx : (s.nanoNow n).trp ≠ 1) :
    ∃ t, exec (.microBranch n .clean bits) s = .next t ∧ t.upc n = s.nextNow n bits ∧
      t.seqState n = (if ((s.acted n bits).seq n).window = 7 then 3 else 1) ∧
      Frame [AV_SEQSTAT_PC n, AV_SEQSTAT_STATE n] [.regs] (s.acted n bits) t := by
  refine ⟨micro n 0 .clean bits s, rfl, ?_⟩
  rw [micro_of_executes h, selectNext_branch n h.mode_eq hx]
  exact ⟨(goTo_upc ..).trans (Nat.mod_eq_of_lt (nextNow_lt s n bits)), goTo_seqState .., goTo_frame ..⟩

theorem microBranch_trap_spec (h : Executes s n bits 0) (hx : (s.nanoNow n).trp = 1) (hw : ((s.acted n bits).seq n).window ≠ 7) :
    ∃ t, exec (.microBranch n .clean bits) s = .next t ∧
      t.upc n = ((s.acted n bits).get (AV_SEQTRAP_BASE n) + 12) % 4096 ∧ t.get (AV_SEQTRAP_TRAPPC n) = s.nextNow n bits ∧
      t.get (AV_SEQTRAP_CAUSE n) = 3 ∧ (t.seq n).window = 7 ∧
      (t.seq n).saved = ⟨((s.acted n bits).seq n).window, ((s.acted n bits).seq n).zero, ((s.acted n bits).seq n).neg,
        ((s.acted n bits).seq n).flag⟩ := by
  refine ⟨micro n 0 .clean bits s, rfl, ?_⟩
  rw [micro_of_executes h, selectNext_softwareTrap n h.mode_eq hx]
  obtain ⟨hupc, -, hret, hcause, havn, -⟩ := takeTrap_spec (s.acted n bits) n 3 (s.nextNow n bits) hw (by decide) (nextNow_lt s n bits)
  have hseq := congrArg Avenue.seq havn
  exact ⟨hupc, hret, hcause, congrArg Seq.window hseq, congrArg Seq.saved hseq⟩

section Call
variable (h : Executes s n bits 1) (hc : (s.acted n bits).cond n (s.microNow n).cond = true)
  (hw : ((s.acted n bits).seq n).window ≠ 7)
include h hc hw

theorem microCall_spec (hr : (s.acted n bits).resident n < 6) (hd : (s.acted n bits).depth n < 38) :
    let t0 := s.acted n bits
    let w := t0.depth n % 6
    ∃ t, exec (.microCall n .clean bits) s = .next t ∧ t.upc n = s.altNow n ∧ t.depth n = t0.depth n + 1 ∧
      t.resident n = t0.resident n + 1 ∧ (t.seq n).window = w ∧ t.rd (AV_WINFILE n w 15) = BitVec.ofNat 32 (s.microNow n).next ∧
      (∀ i, 1 ≤ i → i ≤ 11 → t.rd (AV_WINFILE n w i) = 0) ∧
      (∀ i, 12 ≤ i → i ≤ 14 → t.rd (AV_WINFILE n w i) = t0.rd (AV_WINFILE n (t0.seq n).window i)) ∧
      AvenueFrame n (statFlds n ++ windowFlds n w) [.regs, .av] t0 t := by
  refine ⟨micro n 1 .clean bits s, rfl, ?_⟩
  rw [micro_of_executes h, selectNext_call n h.mode_eq hc hw (Nat.ne_of_lt hr)]
  exact callTo_spec n (s.microNow n) (s.acted n bits) (altNow_lt s n) (s.nanoNow n).acalc hr hd

theorem microCall_trap_spec (hr : (s.acted n bits).resident n = 6) (hs : (s.seq n).window ≠ 7) :
    ∃ t, exec (.microCall n .clean bits) s = .next t ∧ t.upc n = s.get (AV_SEQTRAP_BASE n) ∧
      t.get (AV_SEQTRAP_TRAPPC n) = s.upc n ∧ t.get (AV_SEQTRAP_CAUSE n) = 0 ∧ (t.seq n).window = 7 ∧
      Frame [AV_SEQSTAT_PC n, AV_SEQSTAT_STATE n, AV_SEQTRAP_TRAPPC n, AV_SEQTRAP_CAUSE n, AV_SEQCNT_OVF n] [.regs, .av] s t := by
  have hbase : s.get (AV_SEQTRAP_BASE n) < 2 ^ 12 := s.get_lt _
  refine ⟨micro n 1 .clean bits s, rfl, ?_⟩
  rw [micro_of_executes h, selectNext_callTrap n h.mode_eq hc hw hr]
  obtain ⟨hupc, -, hret, hcause, havn, -, hframe⟩ := takeTrap_spec s n 0 (s.upc n) hs (by decide) (s.get_lt (AV_SEQSTAT_PC n))
  exact ⟨hupc.trans (Nat.mod_eq_of_lt hbase), hret, hcause, congrArg (fun a => a.seq.window) havn, hframe⟩

end Call

theorem microReturn_spec (h : Executes s n bits 2) (hc : (s.acted n bits).cond n (s.microNow n).cond = true)
    (hw : ((s.acted n bits).seq n).window ≠ 7) (hd : 1 ≤ (s.acted n bits).depth n)
    (hr : 2 ≤ (s.acted n bits).depth n → 2 ≤ (s.acted n bits).resident n) :
    let t0 := s.acted n bits
    let w := callerWindow (t0.depth n)
    ∃ t, exec (.microReturn n .clean bits) s = .next t ∧ t.upc n = (t0.winReg n (t0.seq n).window 15).toNat % 4096 ∧
      t.depth n = t0.depth n - 1 ∧ t.resident n = t0.resident n - 1 ∧ (t.seq n).window = w ∧
      (∀ i, 12 ≤ i → i ≤ 14 → t.rd (AV_WINFILE n w i) = t0.rd (AV_WINFILE n (t0.seq n).window i)) ∧
      AvenueFrame n (statFlds n ++ windowFlds n w) [.regs, .av] t0 t := by
  refine ⟨micro n 2 .clean bits s, rfl, ?_⟩
  rw [micro_of_executes h, selectNext_return n h.mode_eq hc hw (by omega) (fun ⟨h2, h1⟩ => by have := hr h2; omega)]
  exact returnTo_spec n (s.acted n bits)

theorem microReturn_trap_spec (h : Executes s n bits 2) (hc : (s.acted n bits).cond n (s.microNow n).cond = true)
    (hw : ((s.acted n bits).seq n).window = 7) :
    let t0 := s.acted n bits
    ∃ t, exec (.microReturn n .clean bits) s = .next t ∧ t.upc n = t0.get (AV_SEQTRAP_TRAPPC n) ∧
      (t.seq n).window = (t0.seq n).saved.window ∧ (t.seq n).zero = (t0.seq n).saved.zero ∧
      (t.seq n).neg = (t0.seq n).saved.neg ∧ (t.seq n).flag = (t0.seq n).saved.flag ∧
      AvenueFrame n (goFlds n) [.regs, .av] t0 t := by
  refine ⟨micro n 2 .clean bits s, rfl, ?_⟩
  rw [micro_of_executes h, selectNext_trapReturn n h.mode_eq hc hw]
  exact trapReturn_spec n (s.acted n bits)

theorem microWait_goes_spec (h : Executes s n bits 3) (hc : (s.acted n bits).cond n (s.microNow n).cond = true) :
    ∃ t, exec (.microWait n .clean bits) s = .next t ∧ t.upc n = (s.microNow n).next ∧
      t.seqState n = (if ((s.acted n bits).seq n).window = 7 then 3 else 1) ∧
      Frame [AV_SEQSTAT_PC n, AV_SEQSTAT_STATE n] [.regs] (s.acted n bits) t := by
  refine ⟨micro n 3 .clean bits s, rfl, ?_⟩
  rw [micro_of_executes h, selectNext_wait n h.mode_eq, waitOn, if_pos hc]
  exact ⟨(goTo_upc ..).trans (Nat.mod_eq_of_lt (microNow_next_lt s n)), goTo_seqState .., goTo_frame ..⟩

theorem microWait_waits_spec (h : Executes s n bits 3) (hc : (s.acted n bits).cond n (s.microNow n).cond = false) :
    let t0 := s.acted n bits
    ∃ t, exec (.microWait n .clean bits) s = .next t ∧ (t.seqState n = 2 ∨ t.seqState n = 4) ∧
      t.avn n = { t0.avn n with seq := { t0.seq n with waitAlt := s.altNow n } } ∧
      AvenueFrame n [AV_SEQSTAT_STATE n] [.regs, .av] t0 t := by
  refine ⟨micro n 3 .clean bits s, rfl, ?_⟩
  rw [micro_of_executes h, selectNext_wait n h.mode_eq]
  exact waitOn_waits n (s.microNow n) (s.acted n bits) (s.altNow n) hc

end Clean

/-! ### Uncorrectable words, and waits that end (R165, R166, R181) -/

section Others
variable (s : State) (n : Fin 4)

theorem microBranch_uncorrectable_spec (bits : Nat) (hrun : s.seqState n = 1 ∨ s.seqState n = 3)
    (hm : (s.micro n (s.upc n)).mode = 0) (hw : (s.seq n).window ≠ 7) :
    ∃ t, exec (.microBranch n .uncorrectable bits) s = .next t ∧ t.upc n = (s.get (AV_SEQTRAP_BASE n) + 8) % 4096 ∧
      t.get (AV_SEQTRAP_TRAPPC n) = s.upc n ∧ t.get (AV_SEQTRAP_CAUSE n) = 2 ∧ (t.seq n).window = 7 ∧
      Raised1 (428 + 96 * n.val + 81) 0 s t ∧ OtherAvenues n s t ∧
      Frame [AV_SEQSTAT_PC n, AV_SEQSTAT_STATE n, AV_SEQTRAP_TRAPPC n, AV_SEQTRAP_CAUSE n] [.regs, .av, .flt] s t := by
  refine ⟨micro n 0 .uncorrectable bits s, rfl, ?_⟩
  rw [show micro n 0 .uncorrectable bits s = s.takeTrap n 2 (s.upc n) from if_pos ⟨hrun, hm⟩]
  obtain ⟨hupc, -, hret, hcause, havn, hframe⟩ := takeTrap_spec s n 2 (s.upc n) hw (by decide) (s.get_lt (AV_SEQSTAT_PC n))
  exact ⟨hupc, hret, hcause, congrArg (fun a => a.seq.window) havn, takeTrap_uncorrectable_raised s n _ hw, hframe⟩

variable (hwait : s.seqState n = 2 ∨ s.seqState n = 4)
include hwait

theorem seqWaits_of_state : s.seqWaits n = true := by
  unfold State.seqWaits
  rcases hwait with h | h <;> rw [h] <;> rfl

theorem seqWaitResume_spec (hc : s.cond n (s.micro n (s.upc n)).cond = true) :
    ∃ t, exec (.seqWaitResume n) s = .next t ∧ t.upc n = (s.micro n (s.upc n)).next ∧
      t.seqState n = (if (s.seq n).window = 7 then 3 else 1) ∧ Frame [AV_SEQSTAT_PC n, AV_SEQSTAT_STATE n] [.regs] s t := by
  have hgo : (s.seqWaits n && s.cond n (s.micro n (s.upc n)).cond) = true := by rw [seqWaits_of_state s n hwait, hc]; rfl
  refine ⟨waitResume n s, rfl, ?_⟩
  rw [waitResume, if_pos hgo]
  exact ⟨(goTo_upc ..).trans (Nat.mod_eq_of_lt (microNow_next_lt s n)), goTo_seqState .., goTo_frame ..⟩

theorem seqWaitLimitExpiry_spec (hc : s.cond n (s.micro n (s.upc n)).cond = false)
    (hlim : (s.nano n (s.micro n (s.upc n))).wlim ≠ 0) :
    ∃ t, exec (.seqWaitLimitExpiry n) s = .next t ∧ t.upc n = (s.seq n).waitAlt % 4096 ∧
      t.seqState n = (if (s.seq n).window = 7 then 3 else 1) ∧ Frame [AV_SEQSTAT_PC n, AV_SEQSTAT_STATE n] [.regs] s t := by
  have hgo : (s.seqWaits n && !s.cond n (s.micro n (s.upc n)).cond &&
      decide ((s.nano n (s.micro n (s.upc n))).wlim ≠ 0)) = true := by
    rw [seqWaits_of_state s n hwait, hc, decide_eq_true hlim]
    rfl
  refine ⟨waitLimit n s, rfl, ?_⟩
  rw [waitLimit, if_pos hgo]
  exact ⟨goTo_upc .., goTo_seqState .., goTo_frame ..⟩

end Others

/-- Settles O20: each mode's outcome, from the state that the nanoword's actions leave. -/
theorem microFlow : Obligations.MicroFlow := by
  refine ⟨?_, microBranch_uncorrectable_spec, seqWaitResume_spec, seqWaitLimitExpiry_spec⟩
  intro s n bits hrun m x t0 alt nx cur w caller run h5 hx
  have hexec : ∀ mode, m.mode = mode → Executes s n bits mode := fun _ hm => ⟨hrun, hm, h5, hx⟩
  exact ⟨fun hm hx1 => microBranch_spec (hexec 0 hm) hx1, fun hm hx1 hw => microBranch_trap_spec (hexec 0 hm) hx1 hw,
    fun hm hc hw hr hd => microCall_spec (hexec 1 hm) hc hw hr hd, fun hm hc hw hr hs => microCall_trap_spec (hexec 1 hm) hc hw hr hs,
    fun hm hc hw hd _ hr => microReturn_spec (hexec 2 hm) hc hw hd hr, fun hm hc hw => microReturn_trap_spec (hexec 2 hm) hc hw,
    fun hm hc => microWait_goes_spec (hexec 3 hm) hc, fun hm hc => microWait_waits_spec (hexec 3 hm) hc⟩

end Sys2Proof.Machine
end

section
/-! SUPPORT. Controllers and commands in flight: what a completion does and leaves alone (R392, R395), and updates of every
controller in turn. -/

namespace Sys2Proof.Machine

/-! ### Parts -/

theorem Untouched.setHost (s : State) (x : HostEngine) : Untouched [.host] s { s with host := x } := by
  intro p hp; cases p <;> simp_all [Part.same]

theorem Untouched.setRbt (s : State) (x : Roundabout) : Untouched [.rbt] s { s with rbt := x } := by
  intro p hp; cases p <;> simp_all [Part.same]

theorem Untouched.setTgt (s : State) (x : Tollgate) : Untouched [.tgt] s { s with tgt := x } := by
  intro p hp; cases p <;> simp_all [Part.same]

theorem Untouched.setArc (s : State) (x : Arcade) : Untouched [.arc] s { s with arc := x } := by
  intro p hp; cases p <;> simp_all [Part.same]

/-! ### Controllers -/

@[simp] theorem State.ctl_modCtl_self (s : State) (f : Nat) (g : Controller → Controller) : (s.modCtl f g).ctl f = g (s.ctl f) :=
  KMap.get_set_self ..

theorem State.ctl_modCtl_of_ne (s : State) {f k : Nat} (g : Controller → Controller) (h : k ≠ f) :
    (s.modCtl f g).ctl k = s.ctl k := KMap.get_set_of_ne _ _ _ h

theorem State.ctl_modCtl (s : State) (f k : Nat) (g : Controller → Controller) :
    (s.modCtl f g).ctl k = if k = f then g (s.ctl f) else s.ctl k := by
  split
  next h => rw [h, State.ctl_modCtl_self]
  next h => rw [State.ctl_modCtl_of_ne _ _ h]

theorem ctl_of_host_eq {s t : State} (h : t.host = s.host) (f : Nat) : t.ctl f = s.ctl f :=
  congrArg (fun x : HostEngine => KMap.get freshCtl x.fns f) h

/-- Controllers updated in turn, each by an update that the others do not see, while a condition on all of them lasts. -/
theorem foldl_ctl_each {step : State → Nat → State} {g : Controller → Controller} {ok : Controller → Prop}
    (hok : ∀ c, ok c → ok (g c)) (hstep : ∀ t f, (∀ k, ok (t.ctl k)) → Untouched [.host] t (step t f) ∧
      ∀ k, (step t f).ctl k = if k = f then g (t.ctl f) else t.ctl k)
    {l : List Nat} (hl : l.Nodup) (s : State) (hs : ∀ k, ok (s.ctl k)) :
    Untouched [.host] s (l.foldl step s) ∧ ∀ k, (l.foldl step s).ctl k = if k ∈ l then g (s.ctl k) else s.ctl k := by
  induction l generalizing s with
  | nil => exact ⟨.refl _ s, fun _ => rfl⟩
  | cons f l ih =>
    obtain ⟨hf, hl'⟩ := List.nodup_cons.1 hl
    obtain ⟨hu, hafter⟩ := hstep s f hs
    have hs' : ∀ j, ok ((step s f).ctl j) := fun j => by
      rw [hafter]
      split
      · exact hok _ (hs f)
      · exact hs j
    obtain ⟨hu', hctl⟩ := ih hl' (step s f) hs'
    refine ⟨hu.trans hu', fun k => ?_⟩
    rw [List.foldl_cons, hctl, hafter]
    by_cases hk : k = f
    · subst hk
      rw [if_neg hf, if_pos rfl, if_pos (List.mem_cons_self ..)]
    · simp [hk]

/-! ### Commands of a tag -/

theorem tag_of_cmd {s : State} {tag : Nat} {c : Cmd} (h : s.cmd tag = some c) : c.tag = tag := by
  simpa using List.find?_some h

theorem mem_of_cmd {s : State} {tag : Nat} {c : Cmd} (h : s.cmd tag = some c) : c ∈ s.rbt.cmds := List.mem_of_find?_eq_some h

theorem cmd_of_rbt_eq {s t : State} (h : t.rbt = s.rbt) (tag : Nat) : t.cmd tag = s.cmd tag := by
  unfold State.cmd
  rw [h]

/-- A command changed under its tag. -/
theorem cmd_modCmd_self (s : State) (tag : Nat) {f : Cmd → Cmd} (hf : ∀ c, (f c).tag = c.tag) :
    (s.modCmd tag f).cmd tag = (s.cmd tag).map f := by
  have hkey : ((fun c : Cmd => c.tag == tag) ∘ fun c => if c.tag = tag then f c else c) = fun c => c.tag == tag := by
    funext c
    dsimp only [Function.comp]
    split
    · rw [hf]
    · rfl
  unfold State.cmd State.modCmd
  dsimp only
  rw [List.find?_map, hkey]
  cases h : s.rbt.cmds.find? (fun c => c.tag == tag) with
  | none => rfl
  | some c => rw [Option.map_some, Option.map_some, if_pos (tag_of_cmd (s := s) h)]

theorem modCmd_untouched (s : State) (tag : Nat) (f : Cmd → Cmd) : Untouched [.rbt] s (s.modCmd tag f) := .setRbt s _

theorem modCtl_untouched (s : State) (f : Nat) (g : Controller → Controller) : Untouched [.host] s (s.modCtl f g) := .setHost s _

@[simp] theorem ctl_modCmd (s : State) (tag : Nat) (g : Cmd → Cmd) (f : Nat) : (s.modCmd tag g).ctl f = s.ctl f :=
  ctl_of_host_eq (modCmd_untouched s tag g .host (by decide)) f

/-! ### Completions (R392, R395) -/

/-- Command `c` of a tag is in flight and can be answered: it has not completed, and its completion queue still stands. -/
structure Answerable (tag : Nat) (c : Cmd) (s : State) : Prop where
  cmd : s.cmd tag = some c
  phase : c.phase ≠ .done
  orphan : c.orphan = false
  queue : ∃ q ∈ (s.ctl c.fn).cqs, q.qid = c.cq

/-- A controller whose command `c` has completed with a status, an error under the number `count` of its log. -/
def Controller.answered (k : Controller) (c : Cmd) (count sct sc dw0 : Nat) : Controller :=
  { k with
    cqs := k.cqs.map (fun q => if q.qid = c.cq then
      { q with waiting := q.waiting ++ [⟨c.tag, c.sq, c.sqe.cid, sct, sc, dw0, false⟩] } else q)
    errors := if decide (sct ≠ 0 ∨ sc ≠ 0) then
      ((⟨count, c.sq, c.sqe.cid, sct, sc, 0, 0⟩ : ErrorInfo) :: k.errors).take 64 else k.errors
    errCount := if decide (sct ≠ 0 ∨ sc ≠ 0) then k.errCount + 1 else k.errCount }

section Complete
variable {s u : State} {tag : Nat} {c : Cmd}

theorem InFlight.answerable (h : InFlight tag c s) : Answerable tag c s :=
  ⟨h.1, h.2.1 ▸ CmdPhase.noConfusion, h.2.2.1, h.2.2.2⟩

theorem Answerable.congr (h : Answerable tag c s) (hcmd : u.cmd tag = s.cmd tag) (hctl : (u.ctl c.fn).cqs = (s.ctl c.fn).cqs) :
    Answerable tag c u := ⟨hcmd.trans h.cmd, h.phase, h.orphan, hctl ▸ h.queue⟩

variable (sct sc dw0 : Nat)

theorem complete_of_answerable (h : Answerable tag c s) : s.complete tag sct sc dw0 =
    (s.modCtl c.fn (fun k => k.answered c ((s.ctl c.fn).errCount + 1) sct sc dw0)).modCmd tag (fun d => { d with phase := .done }) := by
  obtain ⟨hcmd, hphase, horphan, q, hq, hqid⟩ := h
  have hany : (s.ctl c.fn).cqs.any (fun q => q.qid == c.cq) = true := List.any_eq_true.2 ⟨q, hq, beq_iff_eq.2 hqid⟩
  obtain rfl := tag_of_cmd hcmd
  unfold State.complete State.completeWith
  simp only [hcmd, beq_false_of_ne hphase, horphan, hany, Bool.not_true, Bool.or_self, Bool.false_eq_true, if_false]
  rfl

theorem complete_untouched (h : Answerable tag c s) : Untouched [.host, .rbt] s (s.complete tag sct sc dw0) := by
  rw [complete_of_answerable sct sc dw0 h]
  exact ((modCtl_untouched s c.fn _).mono (by simp)).step (modCmd_untouched _ tag _) (by simp)

/-- A completion after updates that left the command's completion queues as they were. -/
theorem completed_after (h : Answerable tag c u) (hcqs : (u.ctl c.fn).cqs = (s.ctl c.fn).cqs) :
    Completed c sct sc dw0 s (u.complete tag sct sc dw0) := by
  obtain rfl := tag_of_cmd h.cmd
  rw [complete_of_answerable sct sc dw0 h]
  refine ⟨?_, fun q hq hqid => ?_⟩
  · have hcmd : (u.modCtl c.fn (fun k => k.answered c ((u.ctl c.fn).errCount + 1) sct sc dw0)).cmd c.tag = some c :=
      (cmd_of_rbt_eq rfl _).trans h.cmd
    rw [cmd_modCmd_self _ _ (f := fun d => { d with phase := .done }) (fun _ => rfl), hcmd]
    rfl
  · rw [ctl_modCmd, State.ctl_modCtl_self]
    exact List.mem_map.2 ⟨q, hcqs ▸ hq, if_pos hqid⟩

theorem completed_now (h : Answerable tag c s) :
    Completed c sct sc dw0 s (s.complete tag sct sc dw0) ∧ Untouched [.host, .rbt] s (s.complete tag sct sc dw0) :=
  ⟨completed_after sct sc dw0 h rfl, complete_untouched sct sc dw0 h⟩

/-- A completion after updates of parts other than the host's and the Roundabout's. -/
theorem completed_after_untouched {ps qs : List Part} (h : Answerable tag c s) (hu : Untouched ps s u) (hhost : .host ∉ ps)
    (hrbt : .rbt ∉ ps) (hps : ps ⊆ qs) (hqs : [.host, .rbt] ⊆ qs) :
    Completed c sct sc dw0 s (u.complete tag sct sc dw0) ∧ Untouched qs s (u.complete tag sct sc dw0) := by
  have hctl := ctl_of_host_eq (hu .host hhost) c.fn
  have hans : Answerable tag c u := h.congr (cmd_of_rbt_eq (hu .rbt hrbt) tag) (by rw [hctl])
  exact ⟨completed_after sct sc dw0 hans (by rw [hctl]), (hu.mono hps).step (complete_untouched sct sc dw0 hans) hqs⟩

/-- A completion leaves the registers. -/
theorem get_complete (h : Answerable tag c s) (g : Fld) : (s.complete tag sct sc dw0).get g = s.get g :=
  State.get_of_regs_eq (complete_untouched sct sc dw0 h .regs (by decide)) g

end Complete

theorem Admitted.answerable {tag op : Nat} {c : Cmd} {s : State} (h : Admitted tag op c s) : Answerable tag c s :=
  InFlight.answerable h.2

end Sys2Proof.Machine
end

section
/-! SUPPORT. Firmware Image Download, Firmware Commit and the Security commands (R407, R450, R541, R544). -/

namespace Sys2Proof.Machine

/-! ### Download (R541) -/

section Download
variable {s : State} {tag : Nat} {c : Cmd} (p : DownloadPart) (h : Admitted tag 0x11 c s)
include h

theorem imageDownload_staged (hfree : ∀ q ∈ s.pwr.partials, p.offset + p.bytes.length ≤ q.1 ∨ q.1 + q.2.length ≤ p.offset) :
    ∃ t, exec (.firmwareImageDownload tag p) s = .next t ∧
      t.pwr = { s.pwr with partials := s.pwr.partials ++ [(p.offset, p.bytes)] } ∧ Completed c 0 0 0 s t ∧
      Untouched [.pwr, .host, .rbt] s t := by
  have hnone : s.pwr.partials.any (fun q => decide (q.1 < p.offset + p.bytes.length ∧ p.offset < q.1 + q.2.length)) = false := by
    refine List.any_eq_false.2 fun q hq => ?_
    have := hfree q hq
    rw [decide_eq_true_eq]
    omega
  refine ⟨imageDownload tag p s, rfl, ?_⟩
  simp only [imageDownload, h.1, hnone, Bool.false_eq_true, if_false]
  have hu := Untouched.setPwr s { s.pwr with partials := s.pwr.partials ++ [(p.offset, p.bytes)] }
  have hans := h.answerable.congr (u := { s with pwr := { s.pwr with partials := s.pwr.partials ++ [(p.offset, p.bytes)] } })
    (cmd_of_rbt_eq (hu .rbt (by decide)) tag) (by rw [ctl_of_host_eq (hu .host (by decide))])
  refine ⟨?_, completed_after_untouched 0 0 0 h.answerable hu (by decide) (by decide) (by simp) (by simp)⟩
  exact complete_untouched 0 0 0 hans .pwr (by decide)

theorem imageDownload_overlap (q : Nat × List Byte) (hq : q ∈ s.pwr.partials) (hlo : q.1 < p.offset + p.bytes.length)
    (hhi : p.offset < q.1 + q.2.length) : ∃ t, exec (.firmwareImageDownload tag p) s = .next t ∧ Completed c 1 0x14 0 s t ∧
      Untouched [.host, .rbt] s t := by
  have hany : s.pwr.partials.any (fun q => decide (q.1 < p.offset + p.bytes.length ∧ p.offset < q.1 + q.2.length)) = true :=
    List.any_eq_true.2 ⟨q, hq, decide_eq_true ⟨hlo, hhi⟩⟩
  refine ⟨imageDownload tag p s, rfl, ?_⟩
  simp only [imageDownload, h.1, hany, if_true]
  exact completed_now 1 0x14 0 h.answerable

end Download

/-! ### Security Send and Receive (R450) -/

section Security
variable {s : State} {tag : Nat} {c : Cmd}

theorem securitySend_spdm (h : Admitted tag 0x81 c s) (hp : bitsOf c.sqe.c10 24 8 = 0xE8) :
    ∃ t, exec (.securitySend tag) s = .next t ∧ Completed c 0 0 0 s t ∧ Untouched [.host, .rbt] s t := by
  refine ⟨securitySend tag s, rfl, ?_⟩
  simp only [securitySend, h.1, spdmProtocol, hp, beq_self_eq_true, if_true]
  exact completed_now 0 0 0 h.answerable

theorem securitySend_other (h : Admitted tag 0x81 c s) (hp : bitsOf c.sqe.c10 24 8 ≠ 0xE8) :
    ∃ t, exec (.securitySend tag) s = .next t ∧ Completed c 0 2 0 s t ∧ Untouched [.host, .rbt] s t := by
  refine ⟨securitySend tag s, rfl, ?_⟩
  simp only [securitySend, h.1, spdmProtocol, beq_false_of_ne hp, Bool.false_eq_true, if_false]
  exact completed_now 0 2 0 h.answerable

theorem securityReceive_spdm (r : SpdmResponse) (h : Admitted tag 0x82 c s) (hp : bitsOf c.sqe.c10 24 8 = 0xE8)
    (hr : KMap.get (fun _ => none) s.tgt.response c.fn = some r) : ∃ t, exec (.securityReceive tag) s = .next t ∧
      (tag, (spdmBytes r).take c.sqe.c11) ∈ t.host.reply ∧ Completed c 0 0 0 s t ∧ Untouched [.host, .rbt] s t := by
  have hans : Answerable tag c (s.answer tag ((spdmBytes r).take c.sqe.c11)) := h.answerable.congr rfl rfl
  refine ⟨securityReceive tag s, rfl, ?_⟩
  simp only [securityReceive, h.1, spdmProtocol, hp, beq_self_eq_true, if_true, hr, Option.map_some, Option.getD_some]
  refine ⟨?_, completed_after 0 0 0 hans rfl, (Untouched.mono (.setHost s _) (by simp)).trans (complete_untouched 0 0 0 hans)⟩
  rw [State.ok, complete_of_answerable 0 0 0 hans]
  exact List.mem_append_right _ (List.mem_singleton_self _)

end Security

/-! ### Commit (R407, R541, R544) -/

section Commit
variable {s : State} {tag : Nat} {c : Cmd} {b : Bool}

/-- The slot that a Firmware Commit names: slot B for `true` (R541). -/
def State.commitSlot (s : State) (c : Cmd) : Bool := if bitsOf c.sqe.c10 0 3 = 0 then !s.pwr.active else bitsOf c.sqe.c10 0 3 == 2

/-- The slot's manifest is the one that runs. -/
def State.slotRuns (s : State) (b : Bool) : Bool := (s.tgt.loaded.getD 6 none).isSome && s.is PWR_IMG_RUN == b

theorem setActive_active (s : State) (b : Bool) : (s.setActive b).get PWR_IMG_ACTIVE = if b then 1 else 0 :=
  State.get_putb_self _ _ b (by decide) (by decide)

theorem setActive_pwr (s : State) (b : Bool) : (s.setActive b).pwr = { s.pwr with active := b } := State.putb_pwr ..

theorem setActive_frame (s : State) (b : Bool) : Frame [PWR_IMG_ACTIVE] [.regs, .pwr] s (s.setActive b) :=
  ⟨((FieldsBut.refl _ s).of_regs_eq rfl).put (List.mem_singleton_self _) _,
    ((Untouched.setPwr s _).mono (by simp)).put (by simp) _ _⟩

theorem setActive_get (s : State) (b : Bool) {g : Fld} (hg : PWR_IMG_ACTIVE.apart g) : (s.setActive b).get g = s.get g :=
  (setActive_frame s b).1 g (by simpa using hg)

theorem setActive_restricted (s : State) (b : Bool) : (s.setActive b).restricted = s.restricted := by
  have hstate : (s.setActive b).get PWR_STATE_STATE = s.get PWR_STATE_STATE := setActive_get s b (.inl (by decide))
  rw [State.restricted, State.restricted, hstate]

/-- The boot record of a commit that succeeds in restricted operation: ATTEMPTS is 0 in Cul-de-sac mode, and PERST_A_N may start
the device afresh (R544, R546). -/
def State.commitRestart (s : State) : State :=
  { s with pwr := { s.pwr with attempts := if s.get PWR_STATE_STATE = 5 then 0 else s.pwr.attempts, restart := true } }

theorem commitRestart_pwr (s : State) : s.commitRestart.pwr =
    { s.pwr with attempts := if s.get PWR_STATE_STATE = 5 then 0 else s.pwr.attempts, restart := true } := rfl

theorem commitRestart_regs (s : State) : s.commitRestart.regs = s.regs := rfl

theorem restrictedCommit_of_restricted {s : State} (h : s.restricted = true) (b : Bool) :
    s.restrictedCommit b = s.commitRestart.setActive b := by
  unfold State.restrictedCommit
  rw [if_pos h]
  rfl

theorem restrictedCommit_of_normal {s : State} (h : s.restricted = false) (b : Bool) : s.restrictedCommit b = s := by
  unfold State.restrictedCommit
  rw [if_neg (by rw [h]; exact Bool.false_ne_true)]

/-- What a commit that makes a slot ACTIVE leaves (R541, R544, R546). -/
theorem restrictedCommit_setActive (s : State) (b : Bool) :
    ((s.setActive b).restrictedCommit b).pwr = { s.pwr with
      active := b, attempts := if s.get PWR_STATE_STATE = 5 then 0 else s.pwr.attempts
      restart := s.pwr.restart || s.restricted } ∧
    ((s.setActive b).restrictedCommit b).get PWR_IMG_ACTIVE = (if b then 1 else 0) ∧
    Frame [PWR_IMG_ACTIVE] [.regs, .pwr] s ((s.setActive b).restrictedCommit b) := by
  have hstate : (s.setActive b).get PWR_STATE_STATE = s.get PWR_STATE_STATE := setActive_get s b (.inl (by decide))
  have hsame := setActive_restricted s b
  obtain ⟨hf, hu⟩ := setActive_frame s b
  cases hr : s.restricted with
  | true =>
    rw [restrictedCommit_of_restricted (hsame.trans hr)]
    obtain ⟨hf', hu'⟩ := setActive_frame (s.setActive b).commitRestart b
    refine ⟨?_, setActive_active .., (hf.of_regs_eq (commitRestart_regs _)).trans hf', (hu.step (.setPwr _ _) (by simp)).trans hu'⟩
    rw [setActive_pwr, commitRestart_pwr, hstate, setActive_pwr, Bool.or_true]
  | false =>
    have h5 : s.get PWR_STATE_STATE ≠ 5 := fun h => by simp [State.restricted, h] at hr
    rw [restrictedCommit_of_normal (hsame.trans hr)]
    refine ⟨?_, setActive_active .., hf, hu⟩
    rw [setActive_pwr, if_neg h5, Bool.or_false]

variable (h : Admitted tag 0x10 c s) (hb : b = s.commitSlot c)
include h hb

theorem firmwareCommit_running (hrun : s.slotRuns b = true) (hca : bitsOf c.sqe.c10 3 3 ≤ 3) :
    ∃ t, exec (.firmwareCommit tag) s = .next t ∧ Completed c 1 6 0 s t ∧ Untouched [.host, .rbt] s t := by
  subst hb
  have hrun' : 2 < bitsOf c.sqe.c10 0 3 ∨ s.slotRuns (s.commitSlot c) = true := .inr hrun
  have hcommit : firmwareCommit tag s = s.complete tag 1 6 0 := by
    simp only [firmwareCommit, h.1]
    exact (if_neg (Nat.not_lt.2 hca)).trans (if_pos hrun')
  refine ⟨firmwareCommit tag s, rfl, ?_⟩
  rw [hcommit]
  exact completed_now 1 6 0 h.answerable

variable (hfs : bitsOf c.sqe.c10 0 3 ≤ 2) (hrun : s.slotRuns b = false)
include hfs hrun

/-- A commit of a slot whose manifest does not run, by its action. -/
theorem firmwareCommit_eq (hca : bitsOf c.sqe.c10 3 3 ≤ 3) : firmwareCommit tag s =
    if bitsOf c.sqe.c10 3 3 ≤ 1 then
      match s.storeStaged b with
      | (false, s1) => s1.complete tag 1 7 0
      | (true, s1) => ((if bitsOf c.sqe.c10 3 3 = 1 then s1.setActive b else s1).restrictedCommit b).ok tag
    else match s.slotOf b with
      | none => s.complete tag 1 7 0
      | some m =>
        if bitsOf c.sqe.c10 3 3 = 2 then ((s.setActive b).restrictedCommit b).ok tag
        else if s.restricted then s.complete tag 1 0xB 0
        else match s.chooseCombo m with
          | none => (s.raise 148).complete tag 1 7 0
          | some k =>
            if s.differs m k 2 || s.differs m k 3 then ((s.setActive b).raise 148).complete tag 1 0xB 0
            else (s.setActive b).beginActivation tag (if b then 2 else 1) := by
  subst hb
  have hrun' : ¬ (2 < bitsOf c.sqe.c10 0 3 ∨ s.slotRuns (s.commitSlot c) = true) :=
    not_or.2 ⟨Nat.not_lt.2 hfs, by rw [hrun]; exact Bool.false_ne_true⟩
  simp only [firmwareCommit, h.1]
  exact (if_neg (Nat.not_lt.2 hca)).trans (if_neg hrun')

theorem firmwareCommit_activate (m : Image) (hca : bitsOf c.sqe.c10 3 3 = 2) (hm : s.slotOf b = some m) :
    ∃ t, exec (.firmwareCommit tag) s = .next t ∧ t.pwr = { s.pwr with
        active := b, attempts := if s.get PWR_STATE_STATE = 5 then 0 else s.pwr.attempts
        restart := s.pwr.restart || s.restricted } ∧
      t.get PWR_IMG_ACTIVE = (if b then 1 else 0) ∧ Completed c 0 0 0 s t ∧
      Frame [PWR_IMG_ACTIVE] [.regs, .pwr, .host, .rbt] s t := by
  have hcommit : firmwareCommit tag s = ((s.setActive b).restrictedCommit b).ok tag := by
    rw [firmwareCommit_eq h hb hfs hrun (by omega), if_neg (by omega), hm]
    exact if_pos hca
  obtain ⟨hpwr, hactive, hf, hu⟩ := restrictedCommit_setActive s b
  have hans : Answerable tag c ((s.setActive b).restrictedCommit b) := h.answerable.congr (cmd_of_rbt_eq (hu .rbt (by decide)) tag)
    (by rw [ctl_of_host_eq (hu .host (by decide))])
  have hafter := complete_untouched 0 0 0 hans
  obtain ⟨hcompleted, huntouched⟩ := completed_after_untouched (qs := [.regs, .pwr, .host, .rbt]) 0 0 0 h.answerable hu (by decide)
    (by decide) (by simp) (by simp)
  refine ⟨firmwareCommit tag s, rfl, ?_⟩
  rw [hcommit]
  exact ⟨(hafter .pwr (by decide)).trans hpwr, (get_complete 0 0 0 hans _).trans hactive, hcompleted,
    hf.of_regs_eq (hafter .regs (by decide)), huntouched⟩

theorem firmwareCommit_empty (hca : bitsOf c.sqe.c10 3 3 = 2 ∨ bitsOf c.sqe.c10 3 3 = 3) (hm : s.slotOf b = none) :
    ∃ t, exec (.firmwareCommit tag) s = .next t ∧ Completed c 1 7 0 s t ∧ Untouched [.host, .rbt] s t := by
  have hcommit : firmwareCommit tag s = s.complete tag 1 7 0 := by
    rw [firmwareCommit_eq h hb hfs hrun (by omega), if_neg (by omega), hm]
  refine ⟨firmwareCommit tag s, rfl, ?_⟩
  rw [hcommit]
  exact completed_now 1 7 0 h.answerable

theorem firmwareCommit_unstaged (hca : bitsOf c.sqe.c10 3 3 ≤ 1) (hst : s.stagedImages = none) :
    ∃ t, exec (.firmwareCommit tag) s = .next t ∧ Completed c 1 7 0 s t ∧ Untouched [.host, .rbt] s t := by
  have hstore : s.storeStaged b = (false, s) := by simp only [State.storeStaged, hst]
  have hcommit : firmwareCommit tag s = s.complete tag 1 7 0 := by
    rw [firmwareCommit_eq h hb hfs hrun (by omega), if_pos hca, hstore]
  refine ⟨firmwareCommit tag s, rfl, ?_⟩
  rw [hcommit]
  exact completed_now 1 7 0 h.answerable

end Commit
end Sys2Proof.Machine
end

section
/-! SUPPORT. Activation without reset (R407, Table 13-3): its beginning, its abort and its switch of images. -/

namespace Sys2Proof.Machine

/-! ### The wait for commands in flight -/

theorem rbt_modCmd (s : State) (tag : Nat) (f : Cmd → Cmd) : (s.modCmd tag f).rbt =
    { s.rbt with cmds := s.rbt.cmds.map (fun c => if c.tag = tag then f c else c) } := rfl

/-- A command of another tag stays as it was. -/
theorem mem_modCmd_of_ne {s : State} {tag : Nat} {d : Cmd} (hd : d ∈ s.rbt.cmds) (h : d.tag ≠ tag) (f : Cmd → Cmd) :
    d ∈ (s.modCmd tag f).rbt.cmds := by
  rw [rbt_modCmd]
  exact List.mem_map.2 ⟨d, hd, if_neg h⟩

/-- An activation waits while another command is in flight. -/
theorem activationStep_of_busy {s : State} {a : Activation} (ha : s.rbt.act = some a)
    (h : ∃ d ∈ s.rbt.cmds, d.tag ≠ a.tag ∧ d.phase ≠ .parked) : s.activationStep = s := by
  obtain ⟨d, hd, htag, hphase⟩ := h
  have hbusy : s.rbt.cmds.any (fun c => c.tag != a.tag && !(c.phase == .parked)) = true :=
    List.any_eq_true.2 ⟨d, hd, by simp [htag, hphase]⟩
  simp only [State.activationStep, ha, hbusy, Bool.not_true, Bool.and_false, Bool.false_eq_true, if_false]

/-! ### The beginning (step 1) -/

/-- A controller with Processing Paused set or cleared. -/
def Controller.paused (c : Controller) (b : Bool) : Controller := { c with pp := b }

/-- A controller that is enabled stops fetching. -/
def Controller.stopped (c : Controller) : Controller := if c.ccEn then c.paused true else c

/-- One controller stops fetching, with the event of an activation that starts where it is asked for. -/
def State.stopFetch (t : State) (f : Nat) : State :=
  if (t.ctl f).ccEn then
    let u := if bitsOf ((t.ctl f).feat 0xB) 9 1 = 1 then t.asyncEvent f 2 1 else t
    u.modCtl f (fun c => c.paused true)
  else t

theorem stopped_pp (c : Controller) : c.stopped.pp = (c.pp || c.ccEn) := by
  unfold Controller.stopped
  split
  next h => rw [h, Bool.or_true, Controller.paused]
  next h => rw [Bool.eq_false_of_not_eq_true h, Bool.or_false]

theorem stopped_feat (c : Controller) (fid : Nat) : c.stopped.feat fid = c.feat fid := by
  unfold Controller.stopped
  split <;> rfl

theorem stopFetch_of_quiet {t : State} {f : Nat} (h : (t.ctl f).feat 0xB = 0) : Untouched [.host] t (t.stopFetch f) ∧
    ∀ k, (t.stopFetch f).ctl k = if k = f then (t.ctl f).stopped else t.ctl k := by
  have hevent : ¬ bitsOf ((t.ctl f).feat 0xB) 9 1 = 1 := by rw [h]; decide
  unfold State.stopFetch Controller.stopped
  dsimp only
  rw [if_neg hevent]
  split
  · exact ⟨modCtl_untouched _ _ _, fun k => State.ctl_modCtl ..⟩
  · refine ⟨.refl _ t, fun k => ?_⟩
    split
    next hk => rw [hk]
    · rfl

/-- Every controller stops fetching, none asking for an event. -/
theorem stopFetch_all {s : State} (h : ∀ f, (s.ctl f).feat 0xB = 0) :
    Untouched [.host] s ((List.range 128).foldl State.stopFetch s) ∧
    ∀ f, f < 128 → (((List.range 128).foldl State.stopFetch s).ctl f).pp = ((s.ctl f).pp || (s.ctl f).ccEn) := by
  obtain ⟨hu, hctl⟩ := foldl_ctl_each (step := State.stopFetch) (g := Controller.stopped) (ok := fun c => c.feat 0xB = 0)
    (fun c hc => (stopped_feat c 0xB).trans hc) (fun t f ht => stopFetch_of_quiet (ht f)) (List.nodup_range (n := 128)) s h
  refine ⟨hu, fun f hf => ?_⟩
  rw [hctl, if_pos (List.mem_range.2 hf), stopped_pp]

/-- The activation is recorded, and its step shown. -/
def State.actShown (s : State) (a : Option Activation) (step : Nat) : State :=
  { s with rbt := { s.rbt with act := a } }.put RBT_ACT_STEP step

theorem actShown_rbt (s : State) (a : Option Activation) (step : Nat) : (s.actShown a step).rbt = { s.rbt with act := a } :=
  State.put_rbt ..

theorem actShown_step (s : State) (a : Option Activation) {step : Nat} (h : step < 8) : (s.actShown a step).get RBT_ACT_STEP = step :=
  State.get_put_of_lt _ (by decide) h

theorem actShown_frame (s : State) (a : Option Activation) (step : Nat) :
    Frame [RBT_ACT_STEP] [.regs, .rbt] s (s.actShown a step) :=
  ⟨((FieldsBut.refl _ s).of_regs_eq rfl).put (List.mem_singleton_self _) _,
    ((Untouched.setRbt s _).mono (by simp)).put (by simp) _ _⟩

/-- A command that waits for an activation. -/
def Cmd.park (c : Cmd) : Cmd := { c with phase := .parked }

/-- The commit's command waits for the switch, and source 146 tells of the activation. -/
def State.actBegun (s : State) (tag slot : Nat) : State :=
  ((s.actShown (some ⟨tag, slot, none⟩) 3).raise 146).modCmd tag Cmd.park

theorem beginActivation_eq (s : State) (tag slot : Nat) : s.beginActivation tag slot =
    (((List.range 128).foldl State.stopFetch s).actBegun tag slot).activationStep := by
  unfold State.beginActivation
  extract_lets s1
  have h : s1 = (List.range 128).foldl State.stopFetch s := rfl
  rw [← h]
  clear_value s1
  rfl

theorem actBegun_spec (s : State) (tag slot : Nat) : let t := s.actBegun tag slot
    t.get RBT_ACT_STEP = 3 ∧ t.rbt.act = some ⟨tag, slot, none⟩ ∧ (t.cmd tag).map Cmd.phase = (s.cmd tag).map (fun _ => .parked) ∧
    Raised1 146 0 s t ∧ Frame [RBT_ACT_STEP] [.regs, .rbt, .flt] s t := by
  intro t
  obtain ⟨hf, hu⟩ := actShown_frame s (some ⟨tag, slot, none⟩) 3
  have hcmd : t.cmd tag = (s.cmd tag).map Cmd.park := by
    refine (cmd_modCmd_self _ _ (f := Cmd.park) fun _ => rfl).trans (congrArg _ ?_)
    unfold State.cmd
    rw [State.raise_rbt, actShown_rbt]
  have hlast := modCmd_untouched ((s.actShown (some ⟨tag, slot, none⟩) 3).raise 146) tag Cmd.park
  refine ⟨?_, ?_, ?_, ?_, ?_, ?_⟩
  · exact ((State.get_of_regs_eq (hlast .regs (by decide)) _).trans (State.get_raise ..)).trans (actShown_step s _ (by decide))
  · exact congrArg Roundabout.act (rbt_modCmd ..) |>.trans (by rw [State.raise_rbt, actShown_rbt])
  · rw [hcmd, Option.map_map]
    rfl
  · exact (hlast .flt (by decide)).trans (raised1_of_untouched hu (by decide) (by decide) 146 0)
  · exact hf.of_regs_eq ((hlast .regs (by decide)).trans (State.raise_regs ..))
  · exact ((hu.mono (by simp)).raise (by simp) _ _).step hlast (by simp)

section Begin
variable {s : State} {tag : Nat} {c : Cmd} {b : Bool} (h : Admitted tag 0x10 c s) (hb : b = s.commitSlot c)
variable (hfs : bitsOf c.sqe.c10 0 3 ≤ 2) (hrun : s.slotRuns b = false)
include h hb hfs hrun

theorem firmwareCommit_begin (hca : bitsOf c.sqe.c10 3 3 = 3) (hr : s.restricted = false) (hquiet : ∀ f, (s.ctl f).feat 0xB = 0)
    (hbusy : ∃ d ∈ s.rbt.cmds, d.tag ≠ tag ∧ d.phase ≠ .parked) :
    ∃ t, exec (.firmwareCommit tag) s = .next t ∧ ∀ (m : Image) (k : Nat), s.slotOf b = some m → s.chooseCombo m = some k →
      s.differs m k 2 = false → s.differs m k 3 = false → t.get RBT_ACT_STEP = 3 ∧
      t.rbt.act = some ⟨tag, if b then 2 else 1, none⟩ ∧ t.get PWR_IMG_ACTIVE = (if b then 1 else 0) ∧
      (∀ f, f < 128 → (t.ctl f).pp = ((s.ctl f).pp || (s.ctl f).ccEn)) ∧ (t.cmd tag).map Cmd.phase = some .parked ∧
      Raised1 146 0 s t ∧ Frame [RBT_ACT_STEP, PWR_IMG_ACTIVE] [.regs, .pwr, .host, .rbt, .flt] s t := by
  refine ⟨firmwareCommit tag s, rfl, fun m k hm hk h2 h3 => ?_⟩
  have hcommit : firmwareCommit tag s = (s.setActive b).beginActivation tag (if b then 2 else 1) := by
    rw [firmwareCommit_eq h hb hfs hrun (by omega), if_neg (by omega), hm]
    simp only [hca, Nat.reduceEqDiff, if_false, hr, Bool.false_eq_true, hk, h2, h3, Bool.or_self]
  obtain ⟨hfa, hua⟩ := setActive_frame s b
  have hctl : ∀ f, (s.setActive b).ctl f = s.ctl f := ctl_of_host_eq (hua .host (by decide))
  obtain ⟨hus, hpp⟩ := stopFetch_all (s := s.setActive b) (fun f => by rw [hctl]; exact hquiet f)
  set u := (List.range 128).foldl State.stopFetch (s.setActive b)
  obtain ⟨hstep, hact, hphase, hraised, hf, hu⟩ := actBegun_spec u tag (if b then 2 else 1)
  have hsu : Untouched [.regs, .pwr, .host] s u := (hua.mono (by simp)).step hus (by simp)
  have hcmd : u.cmd tag = s.cmd tag := cmd_of_rbt_eq (hsu .rbt (by decide)) tag
  have hwait : (u.actBegun tag (if b then 2 else 1)).activationStep = u.actBegun tag (if b then 2 else 1) := by
    obtain ⟨d, hd, htag, hph⟩ := hbusy
    refine activationStep_of_busy hact ⟨d, mem_modCmd_of_ne ?_ htag _, htag, hph⟩
    rw [State.raise_rbt, actShown_rbt, hsu .rbt (by decide)]
    exact hd
  rw [hcommit, beginActivation_eq, hwait]
  refine ⟨hstep, hact, ?_, fun f hlt => ?_, ?_, ?_, ?_, ?_⟩
  · rw [hf _ (List.forall_mem_singleton.2 (.inl (by decide))), State.get_of_regs_eq (hus .regs (by decide)), setActive_active]
  · rw [ctl_of_host_eq (hu .host (by decide)), hpp f hlt, hctl]
  · rw [hphase, hcmd, h.2.1]
    rfl
  · unfold Raised1 at hraised ⊢
    rw [hraised, hsu .flt (by decide), State.time, hsu .tim (by decide)]
    rfl
  · exact ((hfa.mono (by simp)).of_regs_eq (hus .regs (by decide))).trans (hf.mono (by simp))
  · exact (hsu.mono (by simp)).step hu (by simp)

end Begin

/-! ### The abort of commands that take too long -/

theorem endRun_untouched (s : State) (tag : Nat) : Untouched [.arc] s (s.endRun tag) := .setArc s _

theorem Completed.congr {c : Cmd} {sct sc dw0 : Nat} {s t u : State} (h : Completed c sct sc dw0 s t) (hcmd : u.cmd c.tag = t.cmd c.tag)
    (hctl : u.ctl c.fn = t.ctl c.fn) : Completed c sct sc dw0 s u :=
  ⟨hcmd ▸ h.1, fun q hq hqid => hctl ▸ h.2 q hq hqid⟩

theorem complete_act {s : State} {tag : Nat} {c : Cmd} (sct sc dw0 : Nat) (h : Answerable tag c s) :
    (s.complete tag sct sc dw0).rbt.act = s.rbt.act := by
  rw [complete_of_answerable sct sc dw0 h]
  rfl

/-- A completion leaves Processing Paused. -/
theorem complete_pp {s : State} {tag : Nat} {c : Cmd} {sct sc dw0 : Nat} (h : Answerable tag c s) (f : Nat) :
    ((s.complete tag sct sc dw0).ctl f).pp = (s.ctl f).pp := by
  rw [complete_of_answerable sct sc dw0 h, ctl_modCmd, State.ctl_modCtl]
  split
  next hf => rw [hf, Controller.answered]
  · rfl

/-- Commands that an activation aborted are counted. -/
def State.countAborts (s : State) (k : Nat) : State := { s with rbt := { s.rbt with log := s.rbt.log.modify 4 (· + k) } }

theorem countAborts_untouched (s : State) (k : Nat) : Untouched [.rbt] s (s.countAborts k) := .setRbt s _

/-- A command ends in an activation's abort, and source 147 tells of it. -/
def State.abortLate (s : State) (c : Cmd) : State := ((s.endCmd c.tag 7 0xC1).countAborts 1).raise 147

section Abort
variable {s : State} {a : Activation} {d : Cmd}

theorem endCmd_spec (hd : InFlight d.tag d s) (sct sc : Nat) : Completed d sct sc 0 s (s.endCmd d.tag sct sc) ∧
    (s.endCmd d.tag sct sc).rbt.act = s.rbt.act ∧ Untouched [.arc, .host, .rbt] s (s.endCmd d.tag sct sc) := by
  have hrun := endRun_untouched s d.tag
  have hctl := ctl_of_host_eq (hrun .host (by decide)) d.fn
  have hans : Answerable d.tag d (s.endRun d.tag) := hd.answerable.congr (cmd_of_rbt_eq (hrun .rbt (by decide)) _) (by rw [hctl])
  refine ⟨completed_after _ _ _ hans (by rw [hctl]), ?_, (hrun.mono (by simp)).step (complete_untouched _ _ _ hans) (by simp)⟩
  exact (complete_act _ _ _ hans).trans (congrArg Roundabout.act (hrun .rbt (by decide)))

theorem abortLate_spec (hd : InFlight d.tag d s) : Completed d 7 0xC1 0 s (s.abortLate d) ∧ Raised1 147 0 s (s.abortLate d) ∧
    (s.abortLate d).rbt.act = s.rbt.act ∧ Untouched [.arc, .host, .rbt, .flt] s (s.abortLate d) := by
  obtain ⟨hcompleted, hact, hu⟩ := endCmd_spec hd 7 0xC1
  have hcount := countAborts_untouched (s.endCmd d.tag 7 0xC1) 1
  have hcounted : Untouched [.arc, .host, .rbt] s ((s.endCmd d.tag 7 0xC1).countAborts 1) := hu.step hcount (by simp)
  exact ⟨hcompleted.congr rfl (ctl_of_host_eq (hcount .host (by decide)) _), raised1_of_untouched hcounted (by decide) (by decide) 147 0,
    hact, (hcounted.mono (by simp)).raise (by simp) _ _⟩

theorem activationAbort_one (ha : s.rbt.act = some a) (hstep : s.get RBT_ACT_STEP = 3) (htag : d.tag ≠ a.tag)
    (hlate : s.rbt.cmds.filter (fun c => c.tag != a.tag && !(c.phase == .parked) && !(c.phase == .done)) = [d])
    (hd : InFlight d.tag d s) : activationAbort s = s.abortLate d := by
  have habort : activationAbort s = (s.abortLate d).activationStep := by
    unfold activationAbort
    rw [ha]
    dsimp only
    rw [hlate, if_neg (by simp [hstep])]
    rfl
  obtain ⟨hcompleted, -, hact, -⟩ := abortLate_spec hd
  obtain ⟨e, he, hphase⟩ := Option.map_eq_some_iff.1 hcompleted.1
  rw [habort]
  exact activationStep_of_busy (hact.trans ha) ⟨e, mem_of_cmd he, tag_of_cmd he ▸ htag, hphase ▸ CmdPhase.noConfusion⟩

theorem activationAbort_spec (ha : s.rbt.act = some a) (hstep : s.get RBT_ACT_STEP = 3) (htag : d.tag ≠ a.tag)
    (hlate : s.rbt.cmds.filter (fun c => c.tag != a.tag && !(c.phase == .parked) && !(c.phase == .done)) = [d])
    (hd : InFlight d.tag d s) : ∃ t, exec .activationAbortTimeout s = .next t ∧ Completed d 7 0xC1 0 s t ∧ Raised1 147 0 s t ∧
      t.rbt.act = s.rbt.act ∧ t.get RBT_ACT_STEP = 3 ∧ Untouched [.arc, .host, .rbt, .flt] s t := by
  refine ⟨activationAbort s, rfl, ?_⟩
  rw [activationAbort_one ha hstep htag hlate hd]
  obtain ⟨hcompleted, hraised, hact, hu⟩ := abortLate_spec hd
  exact ⟨hcompleted, hraised, hact, (State.get_of_regs_eq (hu .regs (by decide)) _).trans hstep, hu⟩

end Abort

end Sys2Proof.Machine
end

section
/-! SUPPORT. Floors (R449): fuse steps one after another, and the owner's command that advances one. -/

namespace Sys2Proof.Machine

theorem svn_apart {j k : Nat} (h : j ≠ k) : (TGT_SVN_FLOOR k).apart (TGT_SVN_FLOOR j) := by
  refine .inl ?_
  simp only [TGT_SVN_FLOOR, TGT_SVN]
  omega

theorem extend_untouched (s : State) (k : Nat) (v : List Byte) : Untouched [.tgt] s (s.extend k v) := .setTgt s _

/-- One fuse step: the floor goes up by one, source 1000 tells of it, and the security state record is measured. -/
def State.fuseStep (s : State) (cls : Nat) : State := ((s.put (TGT_SVN_FLOOR cls) (s.floor cls + 1)).raise 1000).measureSecurity

/-- A number of fuse steps. -/
def State.fuseSteps (s : State) (cls k : Nat) : State := (List.range k).foldl (fun t _ => t.fuseStep cls) s

theorem fuseStep_measured (s : State) (cls : Nat) :
    Untouched [.tgt] ((s.put (TGT_SVN_FLOOR cls) (s.floor cls + 1)).raise 1000) (s.fuseStep cls) := extend_untouched _ _ _

theorem fuseStep_frame (s : State) (cls : Nat) : Frame [TGT_SVN_FLOOR cls] [.regs, .tgt, .flt] s (s.fuseStep cls) := by
  have hlast := fuseStep_measured s cls
  refine ⟨?_, (((Untouched.refl _ s).put (by simp) _ _).raise (by simp) _ _).step hlast (by simp)⟩
  exact ((FieldsBut.refl _ s).put (List.mem_singleton_self _) _).of_regs_eq ((hlast .regs (by decide)).trans (State.raise_regs ..))

theorem fuseStep_floor (s : State) {cls : Nat} (h : s.floor cls < 255) : (s.fuseStep cls).floor cls = s.floor cls + 1 := by
  have hget := State.get_of_regs_eq (fuseStep_measured s cls .regs (by decide)) (TGT_SVN_FLOOR cls)
  rw [State.floor, hget, State.get_raise]
  exact State.get_put_of_lt s (Nat.le_of_ble_eq_true rfl) (show s.floor cls + 1 < 256 by omega)

theorem fuseStep_inbox (s : State) (cls : Nat) : (s.fuseStep cls).flt.inbox = s.flt.inbox ++ [⟨1000, s.time, 0, false⟩] := by
  have hraised := raised1_of_untouched ((Untouched.refl [.regs] s).put (by simp) (TGT_SVN_FLOOR cls) (s.floor cls + 1)) (by decide)
    (by decide) 1000 0
  unfold Raised1 at hraised
  rw [fuseStep_measured s cls .flt (by decide), hraised]

theorem fuseSteps_succ (s : State) (cls k : Nat) : s.fuseSteps cls (k + 1) = (s.fuseSteps cls k).fuseStep cls := by
  rw [State.fuseSteps, List.range_succ, List.foldl_append]
  rfl

theorem fuseSteps_frame (s : State) (cls k : Nat) : Frame [TGT_SVN_FLOOR cls] [.regs, .tgt, .flt] s (s.fuseSteps cls k) := by
  induction k with
  | zero => exact ⟨.refl _ s, .refl _ s⟩
  | succ k ih =>
    rw [fuseSteps_succ]
    have hone := fuseStep_frame (s.fuseSteps cls k) cls
    exact ⟨ih.1.trans hone.1, ih.2.trans hone.2⟩

/-- Fuse steps within the floor's width, and their events. -/
theorem fuseSteps_spec (s : State) {cls k : Nat} (h : s.floor cls + k ≤ 255) : (s.fuseSteps cls k).floor cls = s.floor cls + k ∧
    (s.fuseSteps cls k).flt.inbox = s.flt.inbox ++ List.replicate k ⟨1000, s.time, 0, false⟩ := by
  induction k with
  | zero => exact ⟨rfl, (List.append_nil _).symm⟩
  | succ k ih =>
    obtain ⟨hfloor, hinbox⟩ := ih (by omega)
    have htime : (s.fuseSteps cls k).time = s.time := congrArg (fun x => x.now.toNat) ((fuseSteps_frame s cls k).2 .tim (by decide))
    rw [fuseSteps_succ]
    refine ⟨(fuseStep_floor _ (by omega)).trans (by omega), ?_⟩
    rw [fuseStep_inbox, hinbox, htime, List.replicate_succ', List.append_assoc]

theorem advanceFloor_all (s : State) (cls v : Nat) : s.advanceFloor cls v none = s.fuseSteps cls (v - s.floor cls) := by
  unfold State.advanceFloor
  dsimp only
  rw [decide_eq_false (Nat.lt_irrefl _), State.raiseIf_false]
  rfl

theorem advanceFloor_fails {s : State} {cls v : Nat} (h : s.floor cls < v) : s.advanceFloor cls v (some 0) = s.raise 1016 := by
  unfold State.advanceFloor
  simp only [Nat.zero_min, List.range_zero, List.foldl_nil, Nat.sub_pos_of_lt h, decide_true, State.raiseIf_true]

/-! ### ANTI_ROLLBACK_ADVANCE -/

section Advance
variable {s : State} {tag : Nat} {c : Cmd} {l : Loaded} (h : Admitted tag 0xCE c s) (hlife : s.get TGT_STAT_LIFE = 2)
include h hlife

theorem rollbackAdvance_refused (hv : bitsOf c.sqe.c10 8 8 ≤ s.floor (bitsOf c.sqe.c10 0 3)) (bad : Option Nat) :
    rollbackAdvance tag bad s = s.refuse tag 6 := by
  simp only [rollbackAdvance, State.ownerCmd, h.1, hlife, if_true]
  exact if_pos (.inr (.inl hv))

theorem rollbackAdvance_taken (hk : bitsOf c.sqe.c10 0 3 ≤ 5) (hv : s.floor (bitsOf c.sqe.c10 0 3) < bitsOf c.sqe.c10 8 8)
    (h128 : bitsOf c.sqe.c10 8 8 ≤ 128) (hl : s.tgt.loaded.getD (bitsOf c.sqe.c10 0 3) none = some l)
    (hsvn : bitsOf c.sqe.c10 8 8 ≤ l.svn) (bad : Option Nat) :
    rollbackAdvance tag bad s = (s.advanceFloor (bitsOf c.sqe.c10 0 3) (bitsOf c.sqe.c10 8 8) bad).ok tag := by
  simp only [rollbackAdvance, State.ownerCmd, h.1, hlife, if_true, hl]
  exact if_neg (by simp only [decide_eq_true hsvn, Bool.true_eq_false, or_false]; omega)

end Advance

/-- The owner's command advances a floor fuse by fuse, stops at a fuse that fails, and is refused below the floor. -/
theorem antiRollbackAdvance_spec (s : State) (tag : Nat) (c : Cmd) (k v : Nat) (l : Loaded) (h : Admitted tag 0xCE c s)
    (hlife : s.get TGT_STAT_LIFE = 2) (hk : k = bitsOf c.sqe.c10 0 3) (hv : v = bitsOf c.sqe.c10 8 8) (hk5 : k ≤ 5) (h128 : v ≤ 128)
    (hl : s.tgt.loaded.getD k none = some l) (hsvn : v ≤ l.svn) :
    (s.floor k < v → (∃ t, exec (.antiRollbackAdvance tag none) s = .next t ∧ t.floor k = v ∧
        (∀ j, j ≠ k → t.floor j = s.floor j) ∧ t.flt.inbox = s.flt.inbox ++ List.replicate (v - s.floor k) ⟨1000, s.time, 0, false⟩ ∧
        Completed c 0 0 0 s t ∧ Frame [TGT_SVN_FLOOR k] [.regs, .tgt, .flt, .host, .rbt] s t) ∧
      (∃ t, exec (.antiRollbackAdvance tag (some 0)) s = .next t ∧ t.floor k = s.floor k ∧ Raised1 1016 0 s t ∧
        Untouched [.flt, .host, .rbt] s t)) ∧
    (v ≤ s.floor k → ∃ t, exec (.antiRollbackAdvance tag none) s = .next t ∧ Completed c 0 2 6 s t ∧
      Untouched [.host, .rbt] s t) := by
  subst hk hv
  have hans := h.answerable
  refine ⟨fun hlt => ⟨⟨rollbackAdvance tag none s, rfl, ?_⟩, ⟨rollbackAdvance tag (some 0) s, rfl, ?_⟩⟩,
    fun hle => ⟨rollbackAdvance tag none s, rfl, ?_⟩⟩
  · rw [rollbackAdvance_taken h hlife hk5 hlt h128 hl hsvn, advanceFloor_all]
    obtain ⟨hfloor, hinbox⟩ := fuseSteps_spec s (cls := bitsOf c.sqe.c10 0 3)
      (k := bitsOf c.sqe.c10 8 8 - s.floor (bitsOf c.sqe.c10 0 3)) (by omega)
    obtain ⟨hf, hu⟩ := fuseSteps_frame s (bitsOf c.sqe.c10 0 3) (bitsOf c.sqe.c10 8 8 - s.floor (bitsOf c.sqe.c10 0 3))
    set u := s.fuseSteps (bitsOf c.sqe.c10 0 3) (bitsOf c.sqe.c10 8 8 - s.floor (bitsOf c.sqe.c10 0 3))
    have hu' : Answerable tag c u := hans.congr (cmd_of_rbt_eq (hu .rbt (by decide)) _) (by rw [ctl_of_host_eq (hu .host (by decide))])
    have hlast : Untouched [.host, .rbt] u (u.ok tag) := complete_untouched 0 0 0 hu'
    have hget : ∀ g, (u.ok tag).get g = u.get g := State.get_of_regs_eq (hlast .regs (by decide))
    obtain ⟨hcompleted, huntouched⟩ := completed_after_untouched (qs := [.regs, .tgt, .flt, .host, .rbt]) 0 0 0 hans hu (by decide)
      (by decide) (by simp) (by simp)
    refine ⟨?_, fun j hj => ?_, ?_, hcompleted, hf.of_regs_eq (hlast .regs (by decide)), huntouched⟩
    · rw [State.floor, hget]
      exact hfloor.trans (by omega)
    · rw [State.floor, hget]
      exact hf _ (List.forall_mem_singleton.2 (svn_apart hj))
    · rw [hlast .flt (by decide), hinbox]
  · rw [rollbackAdvance_taken h hlife hk5 hlt h128 hl hsvn, advanceFloor_fails hlt]
    have hu := (Untouched.refl [.flt] s).raise (by simp) 1016 0
    obtain ⟨-, huntouched⟩ := completed_after_untouched (qs := [.flt, .host, .rbt]) 0 0 0 hans hu (by decide) (by decide)
      (by simp) (by simp)
    have hlast := complete_untouched 0 0 0 (hans.congr (u := s.raise 1016) rfl rfl)
    exact ⟨State.get_of_regs_eq (huntouched .regs (by decide)) _,
      (hlast .flt (by decide)).trans (raised1_of_untouched (.refl [] s) (by decide) (by decide) 1016 0), huntouched⟩
  · rw [rollbackAdvance_refused h hlife hle]
    exact completed_now 0 2 6 hans

end Sys2Proof.Machine
end

section
/-! SUPPORT. The image loader of the sequencers (R186, R187, R189): an image let in, the stores, and the tables of exports and
entries. -/

namespace Sys2Proof.Machine

/-! ### Verification and measurement (R447, R448) -/

/-- An image that verifies is measured unless it is the one in force. -/
def State.measuredIn (s : State) (x : Image) : State :=
  if (s.tgt.loaded.getD x.cls none).map Loaded.digest = some x.digest then s else s.measure x

theorem verify_refused {s : State} {x : Image} (h : s.verifyStep x ≠ 0) :
    s.verify x = (false, s.raise (if s.verifyStep x = 4 then 999 else 998)) := by
  unfold State.verify
  split
  next h0 => exact absurd h0 h
  next h4 => rw [if_pos h4]
  next h4 => rw [if_neg h4]

theorem verify_passed {s : State} {x : Image} (h : s.verifyStep x = 0) : s.verify x = (true, s) := by
  unfold State.verify
  rw [h]
  rfl

theorem letIn_refused {s : State} {im : AvImage} (h : s.verifyStep (imageOf im) ≠ 0) :
    s.letIn im (imageOf im).cls = (false, s.raise (if s.verifyStep (imageOf im) = 4 then 999 else 998)) := by
  unfold State.letIn
  dsimp only
  rw [if_neg (not_not.2 rfl), verify_refused h]

theorem letIn_verified {s : State} {im : AvImage} (h : s.verifyStep (imageOf im) = 0) :
    s.letIn im (imageOf im).cls = (true, s.measuredIn (imageOf im)) := by
  unfold State.letIn State.measuredIn
  dsimp only
  rw [if_neg (not_not.2 rfl), verify_passed h]

/-- The record of a loaded image, with its measurement. -/
def State.recorded (s : State) (x : Image) : State :=
  { s.extend (x.cls + 1) x.digest with tgt := { (s.extend (x.cls + 1) x.digest).tgt with
    loaded := s.tgt.loaded.set x.cls (some ⟨x.digest, x.svn, x.ifver, x.build⟩) } }

theorem recorded_untouched (s : State) (x : Image) : Untouched [.tgt] s (s.recorded x) :=
  (extend_untouched s _ _).step (.setTgt _ _) (by simp)

theorem recorded_mr (s : State) (x : Image) :
    (s.recorded x).tgt.mr = s.tgt.mr.modify (x.cls + 1) (fun m => sha384 (m ++ x.digest)) := rfl

section Measure
variable (s : State) {x : Image} (h6 : x.cls < 6) (h4 : x.cls ≠ 4)
include h6 h4

theorem measure_plain : s.measure x = (s.recorded x).put (TGT_SVN_LOADED x.cls) x.svn := by
  unfold State.measure
  dsimp only
  rw [if_neg h4, if_pos h6]
  rfl

theorem measuredIn_untouched : Untouched [.regs, .tgt] s (s.measuredIn x) := by
  unfold State.measuredIn
  split
  · exact .refl _ s
  · rw [measure_plain s h6 h4]
    exact ((recorded_untouched s x).mono (by simp)).put (by simp) _ _

theorem measuredIn_wordsBut : WordsBut [TGT_SVN x.cls] s (s.measuredIn x) := by
  unfold State.measuredIn
  split
  · exact .refl _ s
  · rw [measure_plain s h6 h4]
    exact ((WordsBut.refl [TGT_SVN x.cls] s).of_regs_eq (recorded_untouched s x .regs (by decide))).put
      (f := TGT_SVN_LOADED x.cls) (List.mem_singleton_self _) _

/-- Where nothing was loaded, the image is measured. -/
theorem measuredIn_mr (hl : s.tgt.loaded.getD x.cls none = none) :
    (s.measuredIn x).tgt.mr = s.tgt.mr.modify (x.cls + 1) (fun m => sha384 (m ++ x.digest)) := by
  unfold State.measuredIn
  rw [hl, if_neg (by simp), measure_plain s h6 h4, State.put_tgt, recorded_mr]

/-- Words of the Avenues stay. -/
theorem measuredIn_rd {a : Nat} (ha : 0x1000000 ≤ a) : (s.measuredIn x).rd a = s.rd a := by
  refine measuredIn_wordsBut s h6 h4 a fun hm => ?_
  have := List.mem_singleton.1 hm
  unfold TGT_SVN at this
  omega

theorem measuredIn_get {f : Fld} (hf : 0x1000000 ≤ f.addr) : (s.measuredIn x).get f = s.get f :=
  State.get_of_rd_eq (measuredIn_rd s h6 h4 hf)

theorem measuredIn_seqState (n : Fin 4) : (s.measuredIn x).seqState n = s.seqState n := measuredIn_get s h6 h4 (avBase_le ..)

end Measure

/-! ### Microwords and nanowords -/

/-- The words of store entries, each an index and its value in a number of words. -/
def blockWords (addr : Nat → Nat → Nat) (val : Nat → Nat → Word) (m : Nat) (ws : List (Nat × Nat)) : List (Nat × Word) :=
  ws.flatMap fun w => (List.range m).map fun j => (addr w.1 j, val w.2 j)

theorem mem_blockWords {addr : Nat → Nat → Nat} {val : Nat → Nat → Word} {m : Nat} {ws : List (Nat × Nat)} {x : Nat × Word} :
    x ∈ blockWords addr val m ws ↔ ∃ w ∈ ws, ∃ j < m, (addr w.1 j, val w.2 j) = x := by
  simp only [blockWords, List.mem_flatMap, List.mem_map, List.mem_range]

/-- Where no index is listed twice, an address has one word. -/
theorem blockWords_one {addr : Nat → Nat → Nat} {m : Nat} {ws : List (Nat × Nat)}
    (hinj : ∀ a b i j, i < m → j < m → addr a i = addr b j → a = b ∧ i = j) (hws : (ws.map Prod.fst).Nodup)
    (val : Nat → Nat → Word) {w : Nat × Nat} (hw : w ∈ ws) {j : Nat} (hj : j < m)
    {x : Nat × Word} (hx : x ∈ blockWords addr val m ws) (ha : x.1 = addr w.1 j) : x.2 = val w.2 j := by
  obtain ⟨v, hv, i, hi, rfl⟩ := mem_blockWords.1 hx
  obtain ⟨hvw, rfl⟩ := hinj _ _ _ _ hi hj ha
  rw [List.inj_on_of_nodup_map hws hv hw hvw]

/-- The two words of a microword, and the four of a nanoword. -/
def microHalf (v j : Nat) : Word := if j = 0 then BitVec.ofNat 32 v else BitVec.ofNat 32 (v / 2 ^ 32 % 256)
def nanoQuarter (v j : Nat) : Word := BitVec.ofNat 32 (v / 2 ^ (32 * j))

/-- The words of both stores that an image fills. -/
def storeWords (n : Fin 4) (im : AvImage) : List (Nat × Word) :=
  blockWords (AV_UCODE n) microHalf 2 im.micro ++ blockWords (AV_NCODE n) nanoQuarter 4 im.nano

theorem writeStores_eq (s : State) (n : Fin 4) (im : AvImage) : s.writeStores n im = s.wrAll (storeWords n im) := by
  unfold State.writeStores storeWords State.wrAll blockWords
  rw [List.foldl_append, List.foldl_flatMap, List.foldl_flatMap]
  simp only [List.foldl_map]
  rfl

theorem writeStores_untouched (s : State) (n : Fin 4) (im : AvImage) : Untouched [.regs] s (s.writeStores n im) :=
  writeStores_eq s n im ▸ wrAll_regs_only s _

/-- Words below the stores stay. -/
theorem writeStores_rd_low (s : State) {n : Fin 4} (im : AvImage) {a : Nat} (ha : a < avBase n + 0x50000) :
    (s.writeStores n im).rd a = s.rd a := by
  rw [writeStores_eq]
  refine rd_wrAll_of_not_mem s fun hm => ?_
  obtain ⟨x, hx, rfl⟩ := List.mem_map.1 hm
  rcases List.mem_append.1 hx with hx | hx <;> obtain ⟨w, -, j, -, rfl⟩ := mem_blockWords.1 hx
  · simp only [AV_UCODE] at ha
    omega
  · simp only [AV_NCODE] at ha
    omega

section Stores
variable (s : State) {n : Fin 4} {im : AvImage} (hbound : ∀ w ∈ im.micro, w.1 < 4096) {w : Nat × Nat}
include hbound

theorem writeStores_micro (hmicro : (im.micro.map Prod.fst).Nodup) (hw : w ∈ im.micro) {j : Nat} (hj : j < 2) :
    (s.writeStores n im).rd (AV_UCODE n w.1 j) = microHalf w.2 j := by
  have hmem : (AV_UCODE n w.1 j, microHalf w.2 j) ∈ storeWords n im :=
    List.mem_append_left _ (mem_blockWords.2 ⟨w, hw, j, hj, rfl⟩)
  have hlt := hbound w hw
  rw [writeStores_eq]
  refine rd_wrAll_of_mem s hmem fun x hx ha => ?_
  rcases List.mem_append.1 hx with hx | hx
  · refine blockWords_one (fun a b i k hi hk h => ?_) hmicro _ hw hj hx ha
    simp only [AV_UCODE] at h
    omega
  · obtain ⟨v, -, i, -, rfl⟩ := mem_blockWords.1 hx
    simp only [AV_UCODE, AV_NCODE] at ha
    omega

theorem writeStores_nano (hnano : (im.nano.map Prod.fst).Nodup) (hw : w ∈ im.nano) {j : Nat} (hj : j < 4) :
    (s.writeStores n im).rd (AV_NCODE n w.1 j) = nanoQuarter w.2 j := by
  have hmem : (AV_NCODE n w.1 j, nanoQuarter w.2 j) ∈ storeWords n im :=
    List.mem_append_right _ (mem_blockWords.2 ⟨w, hw, j, hj, rfl⟩)
  rw [writeStores_eq]
  refine rd_wrAll_of_mem s hmem fun x hx ha => ?_
  rcases List.mem_append.1 hx with hx | hx
  · obtain ⟨v, hv, i, hi, rfl⟩ := mem_blockWords.1 hx
    have hlt := hbound v hv
    simp only [AV_UCODE, AV_NCODE] at ha
    omega
  · refine blockWords_one (fun a b i k hi hk h => ?_) hnano _ hw hj hx ha
    simp only [AV_NCODE] at h
    omega

end Stores

/-! ### Exports and entries -/

/-- One word of a table: the address of an entry and VALID, or neither. -/
def State.tableEntry (t : State) (word : Nat) (e : Option (Nat × Nat)) : State :=
  match e with
  | some e => (t.put ⟨word, 0, 12⟩ e.2).putb ⟨word, 31, 1⟩ true
  | none => (t.put ⟨word, 0, 12⟩ 0).putb ⟨word, 31, 1⟩ false

/-- A table of 64 words written from a list of entries. -/
def State.tableWritten (t : State) (word : Nat → Nat) (es : List (Nat × Nat)) : State :=
  (List.range 64).foldl (fun t k => t.tableEntry (word k) (es.find? (fun e => e.1 == k))) t

theorem tableEntry_wordsBut (t : State) (word : Nat) (e : Option (Nat × Nat)) : WordsBut [word] t (t.tableEntry word e) := by
  have hput : ∀ v b, WordsBut [word] t ((t.put ⟨word, 0, 12⟩ v).putb ⟨word, 31, 1⟩ b) := fun v b =>
    ((WordsBut.refl [word] t).put (f := ⟨word, 0, 12⟩) (List.mem_singleton_self _) v).put (f := ⟨word, 31, 1⟩)
      (List.mem_singleton_self _) _
  cases e with
  | none => exact hput 0 false
  | some e => exact hput e.2 true

theorem tableEntry_untouched (t : State) (word : Nat) (e : Option (Nat × Nat)) : Untouched [.regs] t (t.tableEntry word e) := by
  cases e with
  | none => exact ((Untouched.refl _ t).put (List.mem_singleton_self _) _ _).put (List.mem_singleton_self _) _ _
  | some e => exact ((Untouched.refl _ t).put (List.mem_singleton_self _) _ _).put (List.mem_singleton_self _) _ _

theorem tableEntry_valid (t : State) (word : Nat) (e : Option (Nat × Nat)) :
    (t.tableEntry word e).get ⟨word, 31, 1⟩ = if e.isSome then 1 else 0 := by
  cases e with
  | none => exact State.get_putb_self _ _ false (Nat.le_refl 32) Nat.one_pos
  | some e => exact State.get_putb_self _ _ true (Nat.le_refl 32) Nat.one_pos

section Table
variable (s : State) (word : Nat → Nat) (es : List (Nat × Nat))

theorem tableWritten_rd {a : Nat} (ha : ∀ k < 64, a ≠ word k) : (s.tableWritten word es).rd a = s.rd a := by
  refine foldl_wordsBut (fun t k => tableEntry_wordsBut t (word k) _) _ s a fun hm => ?_
  obtain ⟨k, hk, hak⟩ := List.mem_flatMap.1 hm
  exact ha k (List.mem_range.1 hk) (List.mem_singleton.1 hak)

theorem tableWritten_untouched : Untouched [.regs] s (s.tableWritten word es) :=
  foldl_untouched (fun t k => tableEntry_untouched t (word k) _) _ s

variable {word}

theorem tableWritten_valid (hinj : Function.Injective word) {k : Nat} (hk : k < 64) :
    (s.tableWritten word es).get ⟨word k, 31, 1⟩ = if (es.find? (fun e => e.1 == k)).isSome then 1 else 0 := by
  obtain ⟨t, -, ht⟩ := foldl_rd_own (f := fun t k => State.tableEntry t (word k) (es.find? (fun e => e.1 == k)))
    (w := fun k => [word k]) (fun t k => tableEntry_wordsBut t (word k) _)
    (fun x y hxy a hx hy => hxy (hinj ((List.mem_singleton.1 hx).symm.trans (List.mem_singleton.1 hy))))
    (List.nodup_range (n := 64)) (List.mem_range.2 hk) s
  exact (State.get_of_rd_eq (ht _ (List.mem_singleton_self _))).trans (tableEntry_valid t _ _)

end Table

theorem seqExp_injective (n : Nat) : Function.Injective (AV_SEQEXP n) := fun i j h => by
  simp only [AV_SEQEXP] at h
  omega

theorem omEntry_injective (n : Nat) : Function.Injective (AV_OMENTRY n) := fun i j h => by
  simp only [AV_OMENTRY] at h
  omega

/-! ### Refusals (R186) -/

theorem loadRefused_frame (s : State) (n : Fin 4) (e : Nat × Nat) :
    Frame [AV_SEQLDST_CODE n, AV_SEQLDST_ADDR n] [.regs, .flt] s (s.loadRefused n e) := by
  have hf := ((FieldsBut.refl [AV_SEQLDST_CODE n, AV_SEQLDST_ADDR n] s).put (List.mem_cons_self ..) e.1).put
    (List.mem_cons_of_mem _ (List.mem_singleton_self _)) e.2
  exact ⟨hf.of_regs_eq (State.raise_regs ..), (((Untouched.refl _ s).put (by simp) _ _).put (by simp) _ _).raise (by simp) _ _⟩

theorem loadRefused_rd (s : State) (n : Fin 4) (e : Nat × Nat) {a : Nat} (ha : a ≠ AV_SEQLDST n) :
    (s.loadRefused n e).rd a = s.rd a := by
  rw [State.loadRefused, State.rd_raise, State.rd_put_of_ne _ _ _ ha, State.rd_put_of_ne _ _ _ ha]

theorem loadRefused_get (s : State) (n : Fin 4) (e : Nat × Nat) :
    (s.loadRefused n e).get (AV_SEQLDST_CODE n) = e.1 % 8 ∧ (s.loadRefused n e).get (AV_SEQLDST_ADDR n) = e.2 % 4096 := by
  rw [State.loadRefused, State.get_raise, State.get_raise]
  refine ⟨?_, State.get_put_self _ _ _ (Nat.le_of_ble_eq_true rfl)⟩
  rw [State.get_put_elsewhere _ _ _ _ (.inr (.inl (Nat.le_of_ble_eq_true rfl)))]
  exact State.get_put_self _ _ _ (Nat.le_of_ble_eq_true rfl)

theorem loadRefused_event (s : State) (n : Fin 4) (e : Nat × Nat) :
    ⟨avSrc n 83, s.time, 0, false⟩ ∈ (s.loadRefused n e).flt.inbox := by
  have hu := ((Untouched.refl [.regs] s).put (by simp) (AV_SEQLDST_CODE n) e.1).put (by simp) (AV_SEQLDST_ADDR n) e.2
  have hraised : Raised1 (avSrc n 83) 0 s (s.loadRefused n e) := raised1_of_untouched hu (by decide) (by decide) _ 0
  unfold Raised1 at hraised
  rw [hraised]
  exact List.mem_append_right _ (List.mem_singleton_self _)

end Sys2Proof.Machine
end

section
/-! SUPPORT. What AM_LOAD and OM_LOAD leave in the registers (R186, R187, R189). -/

namespace Sys2Proof.Machine

/-- A register with none of the fields that changed holds its word. -/
theorem FieldsBut.rd {fs : List Fld} {s t : State} (h : FieldsBut fs s t) {a : Nat} (ha : ∀ f ∈ fs, f.addr ≠ a) :
    t.rd a = s.rd a := by
  have hword : ∀ u : State, u.get ⟨a, 0, 32⟩ = (u.rd a).toNat := fun u => by
    rw [State.get, bitsOf, pow_zero, Nat.div_one]
    exact Nat.mod_eq_of_lt (u.rd a).isLt
  have hget := h ⟨a, 0, 32⟩ fun f hf => .inl (ha f hf)
  rw [hword, hword] at hget
  exact BitVec.eq_of_toNat_eq hget

/-! ### Drops of an OM -/

section Drop
variable (s : State) (n : Fin 4)

/-- The fields that a drop of the OM writes, SEQLDST's among them (R189). -/
def dropFlds : List Fld :=
  [AV_SEQLDST_OMOK n, AV_SEQVER_OMIF n, AV_SEQLDST_CODE n, AV_SEQLDST_ADDR n] ++ (List.range 64).map (AV_OMENTRY_VALID n)

theorem mem_dropFlds {f : Fld} (h : f ∈ dropFlds n) : f = AV_SEQLDST_OMOK n ∨ f = AV_SEQVER_OMIF n ∨ f = AV_SEQLDST_CODE n ∨
    f = AV_SEQLDST_ADDR n ∨ ∃ k < 64, f = AV_OMENTRY_VALID n k := by
  simpa [dropFlds, eq_comm] using h

theorem foldl_putb_frame {fs : List Fld} (fld : Nat → Fld) (b : Bool) (l : List Nat) (hl : ∀ k ∈ l, fld k ∈ fs) :
    Frame fs [.regs] s (l.foldl (fun t k => t.putb (fld k) b) s) := by
  induction l generalizing s with
  | nil => exact ⟨.refl _ s, .refl _ s⟩
  | cons k l ih =>
    obtain ⟨hk, hl⟩ := List.forall_mem_cons.1 hl
    obtain ⟨hf, hu⟩ := ih (s.putb (fld k) b) hl
    exact ⟨((FieldsBut.refl _ s).put hk _).trans hf, ((Untouched.refl _ s).put (List.mem_singleton_self _) _ _).trans hu⟩

theorem dropOm_frame : Frame (dropFlds n) [.regs] s (s.dropOm n) := by
  obtain ⟨hf, hu⟩ := foldl_putb_frame (fs := dropFlds n) ((s.putb (AV_SEQLDST_OMOK n) false).put (AV_SEQVER_OMIF n) 0)
    (AV_OMENTRY_VALID n) false (List.range 64) fun k hk => List.mem_append_right _ (List.mem_map_of_mem hk)
  exact ⟨(((FieldsBut.refl _ s).put (by simp [dropFlds]) _).put (by simp [dropFlds]) _).trans hf,
    (((Untouched.refl _ s).put (by simp) _ _).put (by simp) _ _).trans hu⟩

/-- An OM built against another interface version is dropped, under rule 5. -/
def State.omChecked : State :=
  if s.is (AV_SEQLDST_OMOK n) && s.get (AV_SEQVER_OMIF n) != s.get (AV_SEQVER_AMIF n) then (s.dropOm n).loadRefused n (5, 0) else s

theorem omChecked_frame : Frame (dropFlds n) [.regs, .flt] s (s.omChecked n) := by
  unfold State.omChecked
  split
  · obtain ⟨hf, hu⟩ := dropOm_frame s n
    obtain ⟨hf', hu'⟩ := loadRefused_frame (s.dropOm n) n (5, 0)
    exact ⟨hf.trans (hf'.mono (by simp [dropFlds])), (hu.mono (by simp)).trans hu'⟩
  · exact ⟨.refl _ s, .refl _ s⟩

theorem dropFlds_apart {g : Fld} (hv : g.addr = AV_SEQVER n → 16 ≤ g.lo) (hl : g.addr = AV_SEQLDST n → g.lo = 31)
    (he : ∀ k < 64, g.addr ≠ AV_OMENTRY n k) : ∀ f ∈ dropFlds n, f.apart g := by
  intro f hf
  rcases mem_dropFlds n hf with rfl | rfl | rfl | rfl | ⟨k, hk, rfl⟩
  case inr.inr.inr.inr => exact .inl fun h => he k hk h.symm
  all_goals
    simp only [Fld.apart, AV_SEQLDST_OMOK, AV_SEQVER_OMIF, AV_SEQLDST_CODE, AV_SEQLDST_ADDR]
    omega

theorem omChecked_get {g : Fld} (hv : g.addr = AV_SEQVER n → 16 ≤ g.lo) (hl : g.addr = AV_SEQLDST n → g.lo = 31)
    (he : ∀ k < 64, g.addr ≠ AV_OMENTRY n k) : (s.omChecked n).get g = s.get g :=
  (omChecked_frame s n).1 g (dropFlds_apart n hv hl he)

theorem omChecked_rd_store {a : Nat} (ha : avBase n + 0x50000 ≤ a) : (s.omChecked n).rd a = s.rd a := by
  refine (omChecked_frame s n).1.rd fun f hf => ?_
  rcases mem_dropFlds n hf with rfl | rfl | rfl | rfl | ⟨k, hk, rfl⟩
  all_goals
    simp only [AV_SEQLDST_OMOK, AV_SEQVER_OMIF, AV_SEQLDST_CODE, AV_SEQLDST_ADDR, AV_SEQVER, AV_SEQLDST, AV_OMENTRY_VALID, AV_OMENTRY]
    omega

end Drop

/-! ### AM_LOAD -/

/-- The stores, the trap base, the exports and the interface version of an AM. -/
def State.amWritten (s : State) (n : Fin 4) (im : AvImage) : State :=
  ((((s.writeStores n im).put (AV_SEQTRAP_BASE n) im.base).tableWritten (AV_SEQEXP n) im.exps).put (AV_SEQVER_AMIF n)
    (imageOf im).ifver).putb (AV_SEQLDST_AMOK n) true

section Am
variable (s : State) (n : Fin 4) (im : AvImage)

theorem amWritten_untouched : Untouched [.regs] s (s.amWritten n im) :=
  ((((writeStores_untouched s n im).put (by simp) _ _).trans (tableWritten_untouched _ _ _)).put (by simp) _ _).put (by simp) _ _

theorem amWritten_rd_store {a : Nat} (ha : avBase n + 0x50000 ≤ a) : (s.amWritten n im).rd a = (s.writeStores n im).rd a := by
  rw [State.amWritten, State.putb, State.rd_put_of_ne, State.rd_put_of_ne, tableWritten_rd, State.rd_put_of_ne]
  · simp only [AV_SEQTRAP_BASE, AV_SEQTRAP]
    omega
  · intro k hk
    simp only [AV_SEQEXP]
    omega
  · simp only [AV_SEQVER_AMIF, AV_SEQVER]
    omega
  · simp only [AV_SEQLDST_AMOK, AV_SEQLDST]
    omega

theorem amWritten_base : (s.amWritten n im).get (AV_SEQTRAP_BASE n) = im.base % 4096 := by
  rw [State.amWritten, State.get_putb_elsewhere _ _ _ _ (.inl (avOffset_ne n (by decide))),
    State.get_put_elsewhere _ _ _ _ (.inl (avOffset_ne n (by decide))), State.get_of_rd_eq (tableWritten_rd _ _ _ _)]
  · exact State.get_put_self _ _ _ (Nat.le_of_ble_eq_true rfl)
  · intro k hk
    simp only [AV_SEQTRAP_BASE, AV_SEQTRAP, AV_SEQEXP]
    omega

theorem amWritten_valid {k : Nat} (hk : k < 64) :
    (s.amWritten n im).get (AV_SEQEXP_VALID n k) = if (im.exps.find? (fun e => e.1 == k)).isSome then 1 else 0 := by
  rw [State.amWritten, State.get_putb_elsewhere, State.get_put_elsewhere]
  · exact tableWritten_valid _ _ (seqExp_injective n) hk
  all_goals
    simp only [AV_SEQVER_AMIF, AV_SEQVER, AV_SEQEXP_VALID, AV_SEQEXP, AV_SEQLDST_AMOK, AV_SEQLDST]
    omega

theorem amWritten_amif : (s.amWritten n im).get (AV_SEQVER_AMIF n) = (imageOf im).ifver % 65536 := by
  rw [State.amWritten, State.get_putb_elsewhere _ _ _ _ (.inl (avOffset_ne n (by decide)))]
  exact State.get_put_self _ _ _ (Nat.le_of_ble_eq_true rfl)

theorem amWritten_amok : (s.amWritten n im).get (AV_SEQLDST_AMOK n) = 1 :=
  State.get_putb_self _ _ true (Nat.le_of_ble_eq_true rfl) Nat.one_pos

end Am

/-! ### OM_LOAD -/

/-- The stores, the entries and the interface version of an OM, with HOLD cleared. -/
def State.omWritten (s : State) (n : Fin 4) (im : AvImage) : State :=
  ((((s.writeStores n im).tableWritten (AV_OMENTRY n) im.entries).put (AV_SEQVER_OMIF n) (imageOf im).ifver).putb
    (AV_SEQLDST_OMOK n) true).putb (AV_SEQCTL_HOLD n) false

/-- A parked sequencer waits again. -/
def State.unparked (s : State) (n : Fin 4) : State := if s.seqState n = 4 then s.put (AV_SEQSTAT_STATE n) 2 else s

section Om
variable (s : State) (n : Fin 4) (im : AvImage)

theorem unparked_untouched : Untouched [.regs] s (s.unparked n) := by
  unfold State.unparked
  split
  · exact (Untouched.refl _ s).put (by simp) _ _
  · exact .refl _ s

theorem unparked_rd {a : Nat} (ha : a ≠ AV_SEQSTAT n) : (s.unparked n).rd a = s.rd a := by
  unfold State.unparked
  split
  · exact State.rd_put_of_ne _ _ _ ha
  · rfl

theorem unparked_get {g : Fld} (hg : g.addr ≠ AV_SEQSTAT n) : (s.unparked n).get g = s.get g :=
  State.get_of_rd_eq (unparked_rd s n hg)

theorem unparked_seqState : (s.unparked n).seqState n = if s.seqState n = 4 then 2 else s.seqState n := by
  unfold State.unparked
  split
  · exact State.get_put_of_lt s (Nat.le_of_ble_eq_true rfl) (Nat.le_of_ble_eq_true rfl)
  · rfl

theorem omWritten_untouched : Untouched [.regs] s (s.omWritten n im) :=
  ((((writeStores_untouched s n im).trans (tableWritten_untouched _ _ _)).put (by simp) _ _).put (by simp) _ _).put (by simp) _ _

theorem omWritten_rd {a : Nat} (he : ∀ k < 64, a ≠ AV_OMENTRY n k) (hv : a ≠ AV_SEQVER n) (hl : a ≠ AV_SEQLDST n)
    (hc : a ≠ AV_SEQCTL n) : (s.omWritten n im).rd a = (s.writeStores n im).rd a := by
  rw [State.omWritten, State.putb, State.rd_put_of_ne _ _ _ hc, State.putb, State.rd_put_of_ne _ _ _ hl, State.rd_put_of_ne _ _ _ hv,
    tableWritten_rd _ _ _ he]

theorem omWritten_rd_store {a : Nat} (ha : avBase n + 0x50000 ≤ a) : (s.omWritten n im).rd a = (s.writeStores n im).rd a := by
  refine omWritten_rd s n im (fun k hk => ?_) ?_ ?_ ?_
  · simp only [AV_OMENTRY]
    omega
  all_goals
    simp only [AV_SEQVER, AV_SEQLDST, AV_SEQCTL]
    omega

theorem omWritten_seqState : (s.omWritten n im).seqState n = s.seqState n := by
  refine State.get_of_rd_eq ((omWritten_rd s n im (fun k hk => ?_) ?_ ?_ ?_).trans (writeStores_rd_low s im ?_))
  · simp only [AV_SEQSTAT_STATE, AV_SEQSTAT, AV_OMENTRY]
    omega
  all_goals
    simp only [AV_SEQSTAT_STATE, AV_SEQSTAT, AV_SEQVER, AV_SEQLDST, AV_SEQCTL]
    omega

theorem omWritten_hold : (s.omWritten n im).get (AV_SEQCTL_HOLD n) = 0 :=
  State.get_putb_self _ _ false (Nat.le_of_ble_eq_true rfl) Nat.one_pos

theorem omWritten_omok : (s.omWritten n im).get (AV_SEQLDST_OMOK n) = 1 := by
  rw [State.omWritten, State.get_putb_elsewhere _ _ _ _ (.inl (avOffset_ne n (by decide)))]
  exact State.get_putb_self _ _ true (Nat.le_of_ble_eq_true rfl) Nat.one_pos

theorem omWritten_omif : (s.omWritten n im).get (AV_SEQVER_OMIF n) = (imageOf im).ifver % 65536 := by
  rw [State.omWritten, State.get_putb_elsewhere _ _ _ _ (.inl (avOffset_ne n (by decide))),
    State.get_putb_elsewhere _ _ _ _ (.inl (avOffset_ne n (by decide)))]
  exact State.get_put_self _ _ _ (Nat.le_of_ble_eq_true rfl)

theorem omWritten_valid {k : Nat} (hk : k < 64) :
    (s.omWritten n im).get (AV_OMENTRY_VALID n k) = if (im.entries.find? (fun e => e.1 == k)).isSome then 1 else 0 := by
  rw [State.omWritten, State.get_putb_elsewhere, State.get_putb_elsewhere, State.get_put_elsewhere]
  · exact tableWritten_valid _ _ (omEntry_injective n) hk
  all_goals
    simp only [AV_SEQVER_OMIF, AV_SEQVER, AV_OMENTRY_VALID, AV_OMENTRY, AV_SEQLDST_OMOK, AV_SEQLDST, AV_SEQCTL_HOLD, AV_SEQCTL]
    omega

end Om

end Sys2Proof.Machine
end

section
/-! SUPPORT. AM_LOAD and OM_LOAD (R186, R187, R189): what verification and the loader's checks let through. -/

namespace Sys2Proof.Machine

/-! ### Checks that measurement leaves -/

section Checks
variable (s : State) {x : Image} (h6 : x.cls < 6) (h4 : x.cls ≠ 4) (n : Fin 4) (im : AvImage)
include h6 h4

theorem amCheck_measuredIn : (s.measuredIn x).amCheck n im = s.amCheck n im := by
  unfold State.amCheck
  rw [measuredIn_seqState s h6 h4]

theorem ownerTarget_measuredIn : (s.measuredIn x).ownerTarget n = s.ownerTarget n := by
  have hget : ∀ k, (s.measuredIn x).get (AV_SEQEXP_VALID n k) = s.get (AV_SEQEXP_VALID n k) ∧
      (s.measuredIn x).get (AV_SEQEXP_ADDR n k) = s.get (AV_SEQEXP_ADDR n k) := fun k => by
    have haddr : 0x1000000 ≤ AV_SEQEXP n k := by
      unfold AV_SEQEXP avBase
      omega
    exact ⟨measuredIn_get s h6 h4 haddr, measuredIn_get s h6 h4 haddr⟩
  funext a
  simp only [State.ownerTarget, State.is, hget]

theorem omCheck_measuredIn : (s.measuredIn x).omCheck n im = s.omCheck n im := by
  have hamif : (s.measuredIn x).get (AV_SEQVER_AMIF n) = s.get (AV_SEQVER_AMIF n) := measuredIn_get s h6 h4 (avBase_le ..)
  unfold State.omCheck
  rw [measuredIn_seqState s h6 h4, hamif, ownerTarget_measuredIn s h6 h4]

theorem measuredIn_time : (s.measuredIn x).time = s.time :=
  congrArg (fun x => x.now.toNat) (measuredIn_untouched s h6 h4 .tim (by decide))

end Checks

theorem raised_only (s : State) (src : Nat) : Raised1 src 0 s (s.raise src) ∧ Untouched [.flt] s (s.raise src) :=
  ⟨raised1_of_untouched (.refl [] s) (by decide) (by decide) src 0, (Untouched.refl _ s).raise (by simp) src 0⟩

/-! ### AM_LOAD -/

section Am
variable {s : State} {n : Fin 4} {im : AvImage} (hcls : (imageOf im).cls = 1)
include hcls

theorem amLoad_unverified (hv : s.verifyStep (imageOf im) ≠ 0) :
    amLoad n im s = s.raise (if s.verifyStep (imageOf im) = 4 then 999 else 998) := by
  have hin : s.letIn im 1 = (false, s.raise (if s.verifyStep (imageOf im) = 4 then 999 else 998)) := hcls ▸ letIn_refused hv
  unfold amLoad
  rw [hin]

variable (hv : s.verifyStep (imageOf im) = 0)
include hv

theorem amLoad_checked : amLoad n im s = match s.amCheck n im with
    | some e => (s.measuredIn (imageOf im)).loadRefused n e
    | none => ((s.measuredIn (imageOf im)).amWritten n im).omChecked n := by
  have hin : s.letIn im 1 = (true, s.measuredIn (imageOf im)) := hcls ▸ letIn_verified hv
  unfold amLoad
  rw [hin]
  dsimp only
  rw [amCheck_measuredIn s (by omega) (by omega)]
  rfl

theorem amLoad_refused {e : Nat × Nat} (he : s.amCheck n im = some e) :
    amLoad n im s = (s.measuredIn (imageOf im)).loadRefused n e := by
  rw [amLoad_checked hcls hv, he]

theorem amLoad_written (he : s.amCheck n im = none) :
    amLoad n im s = ((s.measuredIn (imageOf im)).amWritten n im).omChecked n := by
  rw [amLoad_checked hcls hv, he]

/-- A sequencer that runs takes no AM: rule 1. -/
theorem amLoad_running (hst : s.seqState n ≠ 0) : let t := amLoad n im s
    t.get (AV_SEQLDST_CODE n) = 1 ∧ t.get (AV_SEQLDST_ADDR n) = 0 ∧ ⟨avSrc n 83, s.time, 0, false⟩ ∈ t.flt.inbox ∧
      (∀ w, w < 4096 → t.rd (AV_UCODE n w 0) = s.rd (AV_UCODE n w 0)) ∧ Untouched [.regs, .tgt, .flt] s t := by
  intro t
  have h6 : (imageOf im).cls < 6 := by omega
  have h4 : (imageOf im).cls ≠ 4 := by omega
  have ht : t = (s.measuredIn (imageOf im)).loadRefused n (1, 0) := amLoad_refused hcls hv (if_pos hst)
  rw [ht]
  obtain ⟨hcode, haddr⟩ := loadRefused_get (s.measuredIn (imageOf im)) n (1, 0)
  refine ⟨hcode, haddr, ?_, fun w _ => ?_, ?_⟩
  · rw [← measuredIn_time s h6 h4]
    exact loadRefused_event ..
  · rw [loadRefused_rd, measuredIn_rd s h6 h4]
    · unfold AV_UCODE avBase
      omega
    · unfold AV_UCODE AV_SEQLDST
      omega
  · exact ((measuredIn_untouched s h6 h4).mono (by simp)).step (loadRefused_frame _ n (1, 0)).2 (by simp)

/-- An AM that passes the checks is written. -/
theorem amLoad_stored (hmicro : (im.micro.map Prod.fst).Nodup) (hnano : (im.nano.map Prod.fst).Nodup)
    (hbound : ∀ w ∈ im.micro, w.1 < 4096) (he : s.amCheck n im = none) : let t := amLoad n im s
    (∀ w ∈ im.micro, t.rd (AV_UCODE n w.1 0) = BitVec.ofNat 32 w.2 ∧
        t.rd (AV_UCODE n w.1 1) = BitVec.ofNat 32 (w.2 / 2 ^ 32 % 256)) ∧
      (∀ w ∈ im.nano, ∀ j, j < 4 → t.rd (AV_NCODE n w.1 j) = BitVec.ofNat 32 (w.2 / 2 ^ (32 * j))) ∧
      t.get (AV_SEQTRAP_BASE n) = im.base % 4096 ∧ t.get (AV_SEQVER_AMIF n) = (imageOf im).ifver % 65536 ∧
      t.get (AV_SEQLDST_AMOK n) = 1 ∧
      (∀ k, k < 64 → t.get (AV_SEQEXP_VALID n k) = (if (im.exps.find? (fun e => e.1 == k)).isSome then 1 else 0)) ∧
      (s.tgt.loaded.getD 1 none = none → t.tgt.mr = s.tgt.mr.modify 2 (fun m => sha384 (m ++ (imageOf im).digest))) ∧
      Untouched [.regs, .tgt, .flt] s t := by
  intro t
  have h6 : (imageOf im).cls < 6 := by omega
  have h4 : (imageOf im).cls ≠ 4 := by omega
  have ht : t = ((s.measuredIn (imageOf im)).amWritten n im).omChecked n := amLoad_written hcls hv he
  set u := s.measuredIn (imageOf im)
  have hstore : ∀ a, avBase n + 0x50000 ≤ a → t.rd a = (u.writeStores n im).rd a := fun a ha => by
    rw [ht, omChecked_rd_store _ n ha, amWritten_rd_store u n im ha]
  have hucode : ∀ w ∈ im.micro, ∀ j < 2, t.rd (AV_UCODE n w.1 j) = microHalf w.2 j := fun w hw j hj => by
    rw [hstore, writeStores_micro u hbound hmicro hw hj]
    unfold AV_UCODE
    omega
  have hget : ∀ g : Fld, (g.addr = AV_SEQVER n → 16 ≤ g.lo) → (g.addr = AV_SEQLDST n → g.lo = 31) →
      (∀ k < 64, g.addr ≠ AV_OMENTRY n k) → t.get g = (u.amWritten n im).get g := fun g hver hldst hentry => by
    rw [ht, omChecked_get _ n hver hldst hentry]
  have hafter : Untouched [.regs, .flt] u t :=
    ht ▸ ((amWritten_untouched u n im).mono (by simp)).trans (omChecked_frame (u.amWritten n im) n).2
  refine ⟨fun w hw => ⟨hucode w hw 0 (by decide), hucode w hw 1 (by decide)⟩, fun w hw j hj => ?_, ?_, ?_, ?_, fun k hk => ?_,
    fun hl => ?_, ?_⟩
  · rw [hstore, writeStores_nano u hbound hnano hw hj]
    · rfl
    · unfold AV_NCODE
      omega
  · rw [hget, amWritten_base]
    all_goals
      simp only [AV_SEQTRAP_BASE, AV_SEQTRAP, AV_SEQVER, AV_SEQLDST, AV_OMENTRY]
      omega
  · rw [hget, amWritten_amif]
    all_goals
      simp only [AV_SEQVER_AMIF, AV_SEQVER, AV_SEQLDST, AV_OMENTRY]
      omega
  · refine (hget _ (fun h => absurd h (avOffset_ne n (by decide))) (fun _ => rfl) fun k hk => ?_).trans (amWritten_amok ..)
    simp only [AV_SEQLDST_AMOK, AV_SEQLDST, AV_OMENTRY]
    omega
  · rw [hget, amWritten_valid _ _ _ hk]
    all_goals
      simp only [AV_SEQEXP_VALID, AV_SEQEXP, AV_SEQVER, AV_SEQLDST, AV_OMENTRY]
      omega
  · rw [hafter .tgt (by decide), measuredIn_mr s h6 h4 (hcls ▸ hl), hcls]
  · exact ((measuredIn_untouched s h6 h4).mono (by simp)).step hafter (by simp)

end Am

/-! ### OM_LOAD -/

section Om
variable {s : State} {n : Fin 4} {im : AvImage} (hcls : (imageOf im).cls = 5)
include hcls

theorem omLoad_unverified (hv : s.verifyStep (imageOf im) ≠ 0) :
    omLoad n im s = s.raise (if s.verifyStep (imageOf im) = 4 then 999 else 998) := by
  have hin : s.letIn im 5 = (false, s.raise (if s.verifyStep (imageOf im) = 4 then 999 else 998)) := hcls ▸ letIn_refused hv
  unfold omLoad
  rw [hin]

variable (hv : s.verifyStep (imageOf im) = 0)
include hv

theorem omLoad_written (he : s.omCheck n im = none) :
    omLoad n im s = ((s.measuredIn (imageOf im)).omWritten n im).unparked n := by
  have hin : s.letIn im 5 = (true, s.measuredIn (imageOf im)) := hcls ▸ letIn_verified hv
  unfold omLoad
  rw [hin]
  dsimp only
  rw [omCheck_measuredIn s (by omega) (by omega), he]
  rfl

/-- An OM that passes the checks is written, and a parked sequencer goes on. -/
theorem omLoad_stored (hmicro : (im.micro.map Prod.fst).Nodup) (hbound : ∀ w ∈ im.micro, w.1 < 4096) (he : s.omCheck n im = none) :
    let t := omLoad n im s
    (∀ w ∈ im.micro, t.rd (AV_UCODE n w.1 0) = BitVec.ofNat 32 w.2) ∧ t.get (AV_SEQLDST_OMOK n) = 1 ∧
      t.get (AV_SEQVER_OMIF n) = (imageOf im).ifver % 65536 ∧ t.get (AV_SEQCTL_HOLD n) = 0 ∧
      (s.seqState n = 4 → t.seqState n = 2) ∧ (s.seqState n = 0 → t.seqState n = 0) ∧
      (∀ k, k < 64 → t.get (AV_OMENTRY_VALID n k) = (if (im.entries.find? (fun e => e.1 == k)).isSome then 1 else 0)) ∧
      Untouched [.regs, .tgt, .flt] s t := by
  intro t
  have h6 : (imageOf im).cls < 6 := by omega
  have h4 : (imageOf im).cls ≠ 4 := by omega
  have ht : t = ((s.measuredIn (imageOf im)).omWritten n im).unparked n := omLoad_written hcls hv he
  have hst : t.seqState n = if s.seqState n = 4 then 2 else s.seqState n := by
    rw [ht, unparked_seqState, omWritten_seqState, measuredIn_seqState s h6 h4]
  rw [ht] at *
  set u := s.measuredIn (imageOf im)
  refine ⟨fun w hw => ?_, ?_, ?_, ?_, fun h => ?_, fun h => ?_, fun k hk => ?_, ?_⟩
  · rw [unparked_rd, omWritten_rd_store, writeStores_micro u hbound hmicro hw (by decide)]
    · rfl
    all_goals
      unfold AV_UCODE
    · omega
    · unfold AV_SEQSTAT
      omega
  · exact (unparked_get _ n (avOffset_ne n (by decide))).trans (omWritten_omok ..)
  · exact (unparked_get _ n (avOffset_ne n (by decide))).trans (omWritten_omif ..)
  · exact (unparked_get _ n (avOffset_ne n (by decide))).trans (omWritten_hold ..)
  · rw [hst, if_pos h]
  · rw [hst, h]
    rfl
  · refine (unparked_get _ n ?_).trans (omWritten_valid _ _ _ hk)
    simp only [AV_OMENTRY_VALID, AV_OMENTRY, AV_SEQSTAT]
    omega
  · have hwritten := (measuredIn_untouched s h6 h4).step (omWritten_untouched u n im) (by simp)
    exact (hwritten.step (unparked_untouched _ n) (by simp)).mono (by simp)

end Om

end Sys2Proof.Machine
end

section
/-! SUPPORT. The switch of images (R407, R543, Table 13-3, steps 5 and 6). -/

namespace Sys2Proof.Machine

/-! ### New images -/

theorem measure_untouched (s : State) (x : Image) : Untouched [.regs, .tgt] s (s.measure x) := by
  have hrecorded : Untouched [.regs, .tgt] s (s.recorded x) := (recorded_untouched s x).mono (by simp)
  have hversion : Untouched [.regs, .tgt] s
      (if x.cls = 4 then ((s.recorded x).put ARC_VER_IF x.ifver).put ARC_VER_BUILD x.build else s.recorded x) := by
    split
    · exact (hrecorded.put (by simp) _ _).put (by simp) _ _
    · exact hrecorded
  unfold State.measure
  dsimp only
  split
  · exact hversion.put (by simp) _ _
  · exact hversion

/-- An image of the manifest is measured, or its class has none. -/
def State.imageTaken (s : State) (m : Image) (c k : Nat) : State :=
  match s.place? (m.entry c k).digest with
  | some im => s.measure im
  | none => { s with tgt := { s.tgt with loaded := s.tgt.loaded.set k none } }

theorem imageTaken_untouched (s : State) (m : Image) (c k : Nat) : Untouched [.regs, .av, .tgt] s (s.imageTaken m c k) := by
  unfold State.imageTaken
  split
  · exact (measure_untouched s _).mono (by simp)
  · exact (Untouched.setTgt s _).mono (by simp)

/-- A sequencer that runs is held (R189). -/
def State.heldIfRunning (s : State) (n : Fin 4) : State := if s.seqState n = 0 then s else s.putb (AV_SEQCTL_HOLD n) true

theorem heldIfRunning_untouched (s : State) (n : Fin 4) : Untouched [.regs, .av, .tgt] s (s.heldIfRunning n) := by
  unfold State.heldIfRunning
  split
  · exact .refl _ s
  · exact (Untouched.refl _ s).put (by simp) _ _

theorem switchImage_eq (s : State) (m : Image) (c k : Nat) : s.switchImage m c k =
    if !s.differs m c k then s
    else if k = 1 then (List.finRange 4).foldl (fun t n => t.seqStopTo n 0) (s.imageTaken m c k)
    else if k = 5 then (List.finRange 4).foldl State.heldIfRunning (s.imageTaken m c k)
    else s.imageTaken m c k := rfl

theorem switchImage_untouched (m : Image) (c : Nat) (s : State) (k : Nat) : Untouched [.regs, .av, .tgt] s (s.switchImage m c k) := by
  have htaken := imageTaken_untouched s m c k
  rw [switchImage_eq]
  split_ifs
  · exact .refl _ s
  · exact htaken.trans (foldl_untouched (fun t n => (seqStopTo_frame t n 0).2.2.mono (by simp)) _ _)
  · exact htaken.trans (foldl_untouched heldIfRunning_untouched _ _)
  · exact htaken

/-! ### Last-known-good (R543) -/

/-- The slot is ACTIVE and last-known-good, in the boot record and in PWR_IMG. -/
def State.lkgShown (s : State) (b : Bool) : State :=
  ({ s with pwr := { s.pwr with active := b, lkg := b } }.putb PWR_IMG_ACTIVE b).putb PWR_IMG_LKG b

/-- The floor of a class advances for an image that the combination lists with ADVANCE (R449). -/
def State.advanceListed (m : Image) (c : Nat) (s : State) (k : Nat) : State :=
  match s.place? (m.entry c k).digest with
  | some im => if im.advance && decide (s.floor k < im.svn) then s.advanceFloor k im.svn none else s
  | none => s

theorem makeLkg_eq (s : State) (b : Bool) : s.makeLkg b none = match s.slotOf b with
    | none => s.lkgShown b
    | some m => (List.range 6).foldl (State.advanceListed m (s.get PWR_IMG_COMB)) (s.lkgShown b) := by
  unfold State.makeLkg
  cases s.slotOf b with
  | none => rfl
  | some m => rfl

theorem lkgShown_pwr (s : State) (b : Bool) : (s.lkgShown b).pwr = { s.pwr with active := b, lkg := b } :=
  (State.putb_pwr ..).trans (State.putb_pwr ..)

theorem lkgShown_frame (s : State) (b : Bool) : Frame [PWR_IMG_ACTIVE, PWR_IMG_LKG] [.regs, .pwr] s (s.lkgShown b) :=
  ⟨(((FieldsBut.refl _ s).of_regs_eq rfl).put (List.mem_cons_self ..) _).put (List.mem_cons_of_mem _ (List.mem_singleton_self _)) _,
    (((Untouched.setPwr s _).mono (by simp)).put (by simp) _ _).put (by simp) _ _⟩

theorem advanceListed_frame (m : Image) (c : Nat) (s : State) (k : Nat) :
    Frame [TGT_SVN_FLOOR k] [.regs, .tgt, .flt] s (s.advanceListed m c k) := by
  unfold State.advanceListed
  split
  · split
    · rw [advanceFloor_all]
      exact fuseSteps_frame ..
    · exact ⟨.refl _ s, .refl _ s⟩
  · exact ⟨.refl _ s, .refl _ s⟩

theorem advanceListed_wordsBut (m : Image) (c : Nat) (s : State) (k : Nat) : WordsBut [TGT_SVN k] s (s.advanceListed m c k) :=
  fun _ ha => (advanceListed_frame m c s k).1.rd (List.forall_mem_singleton.2 fun h => ha (List.mem_singleton.2 h.symm))

/-- What a new last-known-good manifest leaves: the boot record's slots, and of PWR_IMG no more than ACTIVE and LKG. -/
theorem makeLkg_spec (s : State) (b : Bool) : (s.makeLkg b none).pwr = { s.pwr with active := b, lkg := b } ∧
    (∀ g : Fld, g.addr = PWR_IMG → g.lo + g.wid ≤ 30 → (s.makeLkg b none).get g = s.get g) ∧
    Untouched [.regs, .tgt, .flt, .pwr] s (s.makeLkg b none) := by
  obtain ⟨hf, hu⟩ := lkgShown_frame s b
  have hshown : ∀ g : Fld, g.addr = PWR_IMG → g.lo + g.wid ≤ 30 → (s.lkgShown b).get g = s.get g := fun g _ hlo =>
    hf g fun f hm => by
      rcases List.mem_pair.1 hm with rfl | rfl
      · exact .inr (.inr (hlo.trans (by decide)))
      · exact .inr (.inr (hlo.trans (by decide)))
  rw [makeLkg_eq]
  cases s.slotOf b with
  | none => exact ⟨lkgShown_pwr s b, hshown, hu.mono (by simp)⟩
  | some m =>
    dsimp only
    have hlist := foldl_untouched (fun t k => (advanceListed_frame m (s.get PWR_IMG_COMB) t k).2) (List.range 6) (s.lkgShown b)
    have hword := foldl_wordsBut (advanceListed_wordsBut m (s.get PWR_IMG_COMB)) (List.range 6) (s.lkgShown b) PWR_IMG (by decide)
    refine ⟨(hlist .pwr (by decide)).trans (lkgShown_pwr s b), fun g hg hlo => ?_, (hu.mono (by simp)).step hlist (by simp)⟩
    exact (State.get_of_rd_eq (hg ▸ hword)).trans (hshown g hg hlo)

/-! ### The switch -/

/-- One controller fetches again. -/
def State.fetchAgain (s : State) (f : Nat) : State := s.modCtl f (fun c => c.paused false)

theorem fetchAgain_all (s : State) : Untouched [.host] s ((List.range 128).foldl State.fetchAgain s) ∧
    ∀ f, ((List.range 128).foldl State.fetchAgain s).ctl f = if f ∈ List.range 128 then (s.ctl f).paused false else s.ctl f :=
  foldl_ctl_each (ok := fun _ => True) (fun _ h => h) (fun _ _ _ => ⟨modCtl_untouched _ _ _, fun _ => State.ctl_modCtl ..⟩)
    (List.nodup_range (n := 128)) s fun _ => trivial

/-- Every image of a combination is switched, and the manifest is measured and in force. -/
def State.imagesSwitched (s : State) (m : Image) (b : Bool) (k : Nat) : State :=
  (((((List.range 6).foldl (State.switchImage · m k) s).measure m).putb PWR_IMG_RUN b).put PWR_IMG_COMB k).makeLkg b none

theorem imagesSwitched_spec (s : State) (m : Image) (b : Bool) (k : Nat) : let t := s.imagesSwitched m b k
    t.get PWR_IMG_RUN = (if b then 1 else 0) ∧ t.get PWR_IMG_COMB = k % 8 ∧ t.pwr.lkg = b ∧ t.pwr.active = b ∧
    Untouched [.regs, .av, .tgt, .flt, .pwr] s t := by
  intro t
  have himages := foldl_untouched (switchImage_untouched m k) (List.range 6) s
  have hmeasured := himages.step (measure_untouched _ m) (by simp)
  set u := ((List.range 6).foldl (State.switchImage · m k) s).measure m
  obtain ⟨hpwr, hget, hu⟩ := makeLkg_spec ((u.putb PWR_IMG_RUN b).put PWR_IMG_COMB k) b
  refine ⟨?_, ?_, congrArg Power.lkg hpwr, congrArg Power.active hpwr, ?_⟩
  · refine (hget _ rfl (by decide)).trans ((State.get_put_elsewhere _ _ _ _ (by decide)).trans ?_)
    exact State.get_putb_self _ _ b (by decide) (by decide)
  · exact (hget _ rfl (by decide)).trans (State.get_put_self _ _ _ (by decide))
  · exact (((hmeasured.put (by simp) _ _).put (by simp) _ _).mono (by simp)).step hu (by simp)

/-- The registers and controllers after the switch, its command not yet answered. -/
def State.switchDone (s : State) (m : Image) (b : Bool) (k : Nat) : State :=
  ((List.range 128).foldl State.fetchAgain (s.imagesSwitched m b k)).actShown none 0

section Switch
variable {s : State} {a : Activation} {m : Image} {k : Nat} (ha : s.rbt.act = some a) (hstep : s.get RBT_ACT_STEP = 5)
variable (hm : s.slotOf (a.slot == 2) = some m) (hk : s.chooseCombo m = some k)

include ha hstep hm hk in
theorem activationSwitch_eq : activationSwitch none s = (s.switchDone m (a.slot == 2) k).ok a.tag := by
  unfold activationSwitch State.switchDone
  rw [ha]
  dsimp only
  rw [if_neg (not_not.2 hstep), hm]
  dsimp only
  rw [hk]
  rfl

theorem switchDone_spec (s : State) (m : Image) (b : Bool) (k : Nat) : let t := s.switchDone m b k
    t.get PWR_IMG_RUN = (if b then 1 else 0) ∧ t.get PWR_IMG_COMB = k % 8 ∧ t.rbt = { s.rbt with act := none } ∧
    t.get RBT_ACT_STEP = 0 ∧ t.pwr.lkg = b ∧ t.pwr.active = b ∧ (∀ f, (t.ctl f).cqs = (s.ctl f).cqs) ∧
    ∀ f, f < 128 → (t.ctl f).pp = false := by
  intro t
  obtain ⟨hrun, hcomb, hlkg, hactive, hu⟩ := imagesSwitched_spec s m b k
  set v := s.imagesSwitched m b k
  obtain ⟨hfetch, hctl⟩ := fetchAgain_all v
  set w := (List.range 128).foldl State.fetchAgain v
  obtain ⟨hf, hlast⟩ := actShown_frame w none 0
  have hpwr : t.pwr = v.pwr := (hlast .pwr (by decide)).trans (hfetch .pwr (by decide))
  have hget : ∀ g, RBT_ACT_STEP.apart g → t.get g = v.get g := fun g hg =>
    (hf g (List.forall_mem_singleton.2 hg)).trans (State.get_of_regs_eq (hfetch .regs (by decide)) g)
  have hctl' : ∀ f, t.ctl f = if f ∈ List.range 128 then (s.ctl f).paused false else s.ctl f := fun f => by
    refine (ctl_of_host_eq (hlast .host (by decide)) f).trans ((hctl f).trans ?_)
    rw [ctl_of_host_eq (hu .host (by decide))]
  refine ⟨(hget _ (.inl (by decide))).trans hrun, (hget _ (.inl (by decide))).trans hcomb, ?_, actShown_step w none (by decide),
    (congrArg Power.lkg hpwr).trans hlkg, (congrArg Power.active hpwr).trans hactive, fun f => ?_, fun f hlt => ?_⟩
  · exact (actShown_rbt w none 0).trans (by rw [hfetch .rbt (by decide), hu .rbt (by decide)])
  · rw [hctl']
    split <;> rfl
  · rw [hctl', if_pos (List.mem_range.2 hlt)]
    rfl

end Switch

theorem activationSwitch_spec (s : State) (a : Activation) (ha : s.rbt.act = some a) (hstep : s.get RBT_ACT_STEP = 5) : ∃ t,
    exec (.activationSwitch none) s = .next t ∧
    ∀ (m : Image) (k : Nat) (c : Cmd), s.slotOf (a.slot == 2) = some m → s.chooseCombo m = some k → s.cmd a.tag = some c →
      c.phase = .parked → c.orphan = false → (∃ q ∈ (s.ctl c.fn).cqs, q.qid = c.cq) →
      t.get PWR_IMG_RUN = (if a.slot = 2 then 1 else 0) ∧ t.get PWR_IMG_COMB = k % 8 ∧ t.rbt.act = none ∧
      t.get RBT_ACT_STEP = 0 ∧ t.pwr.lkg = (a.slot == 2) ∧ t.pwr.active = (a.slot == 2) ∧
      (∀ f, f < 128 → (t.ctl f).pp = false) ∧ Completed c 0 0 0 s t := by
  refine ⟨activationSwitch none s, rfl, fun m k c hm hk hc hphase horphan hqueue => ?_⟩
  rw [activationSwitch_eq ha hstep hm hk]
  obtain ⟨hrun, hcomb, hrbt, hstep0, hlkg, hactive, hcqs, hpp⟩ := switchDone_spec s m (a.slot == 2) k
  set u := s.switchDone m (a.slot == 2) k
  have hcmd : u.cmd a.tag = s.cmd a.tag := by
    unfold State.cmd
    rw [hrbt]
  have hans : Answerable a.tag c u :=
    ⟨hcmd.trans hc, hphase ▸ CmdPhase.noConfusion, horphan, (hcqs c.fn).symm ▸ hqueue⟩
  have hlast : Untouched [.host, .rbt] u (u.ok a.tag) := complete_untouched 0 0 0 hans
  have hget : ∀ g, (u.ok a.tag).get g = u.get g := get_complete 0 0 0 hans
  have hpwr : (u.ok a.tag).pwr = u.pwr := hlast .pwr (by decide)
  refine ⟨?_, (hget _).trans hcomb, ?_, (hget _).trans hstep0, (congrArg Power.lkg hpwr).trans hlkg,
    (congrArg Power.active hpwr).trans hactive, fun f hlt => ?_, completed_after 0 0 0 hans (hcqs c.fn)⟩
  · rw [hget, hrun]
    simp only [beq_iff_eq]
  · exact (complete_act 0 0 0 hans).trans (congrArg Roundabout.act hrbt)
  · exact (complete_pp hans f).trans (hpp f hlt)

end Sys2Proof.Machine
end

section
/-! CERTIFICATE. The statement O40: firmware images, downloaded, committed, activated and loaded, and the floors (R186, R187, R189,
R407, R447 to R450, R541, R543, R544). -/

namespace Sys2Proof.Machine

/-- Settles O40: one lemma per command. A command that ends completes under `Answerable`, which every update before it keeps; an
activation that begins or aborts goes no further while another command is in flight; the loader's writes are lists of words at
addresses that differ, and measurement, the tables and the refusals leave the words of the stores. -/
theorem firmwareImages : Obligations.FirmwareImages := by
  unfold Obligations.FirmwareImages
  refine ⟨fun s tag p c h => ⟨imageDownload_staged p h, imageDownload_overlap p h⟩, fun s tag c b h hb hfs => ⟨?_, fun hrun => ?_⟩,
    activationSwitch_spec, fun s a d ha hstep htag hlate hd => activationAbort_spec ha hstep htag hlate hd,
    fun s tag c h => ⟨securitySend_spdm h, securitySend_other h⟩, fun s tag c r h hp hr => securityReceive_spdm r h hp hr,
    fun s n im hcls hmicro hnano hbound _ => ⟨amLoad n im s, rfl, fun hv => ?_, fun hv hst => amLoad_running hcls hv hst,
      fun hv he => amLoad_stored hcls hv hmicro hnano hbound he⟩,
    fun s n im hcls hmicro hbound _ => ⟨omLoad n im s, rfl, fun hv => ?_, fun hv he => omLoad_stored hcls hv hmicro hbound he⟩,
    antiRollbackAdvance_spec⟩
  case refine_1 => exact firmwareCommit_running h hb
  case refine_2 =>
    exact ⟨fun m => firmwareCommit_activate h hb hfs hrun m, firmwareCommit_empty h hb hfs hrun,
      firmwareCommit_unstaged h hb hfs hrun, firmwareCommit_begin h hb hfs hrun⟩
  case refine_3 =>
    rw [amLoad_unverified hcls hv]
    exact raised_only s _
  case refine_4 =>
    rw [omLoad_unverified hcls hv]
    exact raised_only s _

end Sys2Proof.Machine
end
